-- ==== Sys2Proof/Word.lean ====
section
/-! DEFINITION. The word types of the device and their plainest arithmetic (spec 00 R3, R4). -/
namespace Sys2Proof

/-- One byte of a frame, message, window or table. -/
abbrev Byte := BitVec 8

/-- One 32-bit register word, as an initiator reads or writes it (00 R4). -/
abbrev Word := BitVec 32

/-- The `n`-bit field of `w` whose lowest bit is `lo`. -/
def bits (w lo n : Nat) : Nat := (w >>> lo) % 2 ^ n

/-- Bit `i` of `w`. -/
def bitAt (w i : Nat) : Bool := w.testBit i

/-- `w` with bit `i` set. -/
def setBitN (w i : Nat) : Nat := w ||| (1 <<< i)

/-- `w` with bit `i` clear. -/
def clrBitN (w i : Nat) : Nat := if w.testBit i then w - 2 ^ i else w

/-- A Bool as the bit a register shows. -/
def b2n (b : Bool) : Nat := if b then 1 else 0

/-- The number a big-endian byte string spells (00 R3). -/
def beNat (bs : List Byte) : Nat := bs.foldl (fun a b => a * 256 + b.toNat) 0

/-- The number a little-endian byte string spells. -/
def leNat (bs : List Byte) : Nat := bs.foldr (fun b a => a * 256 + b.toNat) 0

/-- `n` bytes of `v`, most significant first (00 R3). -/
def beBytes : Nat → Nat → List Byte
  | 0, _ => []
  | n + 1, v => BitVec.ofNat 8 (v / 256 ^ n) :: beBytes n (v % 256 ^ n)

/-- `n` bytes of `v`, least significant first. -/
def leBytes : Nat → Nat → List Byte
  | 0, _ => []
  | n + 1, v => BitVec.ofNat 8 v :: leBytes n (v / 256)

/-- The number of set bits among the low `n` bits of `w`. -/
def popCount (w : Nat) : Nat → Nat
  | 0 => 0
  | n + 1 => popCount w n + b2n (w.testBit n)

/-- The two's complement value of the low `n` bits of `w`. -/
def toSigned (n w : Nat) : Int :=
  let v := w % 2 ^ n
  if v < 2 ^ (n - 1) then (v : Int) else (v : Int) - (2 ^ n : Nat)

/-- The low `n` bits of the two's complement form of `v`. -/
def ofSigned (n : Nat) (v : Int) : Nat := (v % ((2 ^ n : Nat) : Int)).toNat

/-- The list with position `i` replaced, unchanged when `i` is out of range. -/
def setAt {α : Type} (l : List α) (i : Nat) (a : α) : List α := l.set i a

/-- The first `k` with `p k`, counting from `i`, among `n` candidates. -/
def firstIdx (p : Nat → Bool) : Nat → Nat → Option Nat
  | _, 0 => none
  | i, n + 1 => if p i then some i else firstIdx p (i + 1) n

end Sys2Proof
end

