-- ==== Sys2Proof/Types.lean ====
section
/-! DEFINITION. The types of the commands' operands. -/
namespace Sys2Proof

/-- The initiators of register accesses (00 R5, 13 R300). -/
inductive Initiator where
  | pcie | s0 | s1 | ligature
  deriving DecidableEq, Repr

/-- The two dies (01). -/
inductive Die where
  | main | power
  deriving DecidableEq, Repr

/-- The management domains (01 R17). -/
inductive Domain where
  | platform | forwarding | fields | security
  deriving DecidableEq, Repr

/-- What 13 R301 bounds: the running recovery of a management domain, a cell audit, the re-initialisation of the Ferrule link. -/
inductive Bounded where
  | block (dom : Domain) | audit | ferrule
  deriving DecidableEq, Repr

/-- A fault report: source index (21 R409), element identifier (01 R18) and detail word. -/
structure Report where
  src : Nat
  elem : Nat
  info : Nat
  deriving DecidableEq, Repr

/-- What a Ferrule transfer carries, as far as the spec names it (01, "The Ferrule link"). -/
inductive FerruleMsg where
  | idle
  | regWrite (addr : Nat) (val : Word)
  | report (r : Report)
  | other
  deriving DecidableEq, Repr

/-- What the receiver of a Ferrule transfer finds (01 R11): a bad CRC; a good one, and whether an acknowledgement reaches the sender. -/
inductive FerruleRx where
  | badCrc | good (acked : Bool)
  deriving DecidableEq, Repr

/-- A Ferrule transfer and the die that sends it (01 R12). -/
structure FerruleSent where
  die : Die
  msg : FerruleMsg
  deriving DecidableEq, Repr

/-- What a CAN lane sees of a frame on its bus: the sample point of its SOF, or the end of a frame of this KIND (05 R117, 07 R148). -/
inductive CanSeen where
  | sof | frame (kind : BitVec 8)
  deriving DecidableEq, Repr

/-- The side on which a CAN lane meets a bus error: it receives, or it sends, with the loop delay if the frame had come as far as its
measurement (05 R104). -/
inductive CanSide where
  | receives | sends (tdcv : Option (BitVec 7))
  deriving DecidableEq, Repr

/-- A frame of format FD, or with `xl` XL, on the bus of a lane (05 R108). -/
structure CanForeign where
  lane : Fin 24
  xl : Bool
  deriving DecidableEq, Repr

/-- What the host configures of the endpoint (16 R339, R340): Bus Master Enable, the codes of max payload size (128 to 512 bytes) and max
read request size (128 to 4,096), the base addresses of BAR0 and BAR2. -/
structure HostCfg where
  bme : Bool
  mps : Fin 3
  mrrs : Fin 6
  bar0 : BitVec 7
  bar2 : BitVec 6
  deriving DecidableEq, Repr

/-- What training of the Reservoir finds (23 R441): at which rates both channels train, and the memory in MiB. -/
structure DramTrain where
  at8533 : Bool
  at7500 : Bool
  at6400 : Bool
  mib : BitVec 16
  deriving DecidableEq, Repr

/-- What reading a Reservoir block found (09 R204, R206): no error, a corrected error in a unit, an uncorrectable
error in the header (found in a unit), the SEQ read, an uncorrectable error in frame bytes of a unit. -/
inductive RefillResult where
  | ok
  | corrected (unit : Nat)
  | header (unit : Nat)
  | seq (value : Nat)
  | bytes (unit : Nat)
  deriving DecidableEq, Repr

/-- What reading a cell of Inkwell found (09 R218). -/
inductive CellRead where
  | good | corrected | uncorrectable
  deriving DecidableEq, Repr

/-- Where a parity error lies (09 R219): at entry `pos` of a queue, in a link word or in the queue entry itself,
with the cell or entry index; or at a cell on a free list. -/
inductive LinkDamage where
  | queue (q pos : Nat) (isEntry : Bool) (idx : Nat)
  | freeList (cell : Nat)
  deriving DecidableEq, Repr

/-- The FDBs that an operation reaches (08 R194). -/
inductive FdbSel where
  | pipeA | pipeB | both
  deriving DecidableEq, Repr

/-- A completed software write to a table governed by the epoch (08 R188, R194): a word of a windowed entry (table ID,
index, word, value); an insertion into or a deletion from an FDB, the route tables or the signal routing table. The
fields of an insertion are those of the entry's words. -/
inductive TblOp where
  | word (tid idx word : Nat) (val : Word)
  | fdbInsert (sel : FdbSel) (mac : BitVec 48) (vid : BitVec 12) (static sync : Bool) (age kind : BitVec 2) (dest : BitVec 7)
  | fdbDelete (sel : FdbSel) (mac : BitVec 48) (vid : BitVec 12)
  | routeInsert (v6 : Bool) (pfx len nh : Nat)
  | routeDelete (v6 : Bool) (pfx len : Nat)
  | sigInsert (words : List Word)
  | sigDelete (words : List Word)
  deriving DecidableEq, Repr

/-- A lane frame beside its lane and time-stamp index (07 R148): KIND, FLAGS, SDT, KEY, AF and data. -/
structure LaneFrame where
  kind : Nat
  flags : Nat
  sdt : Nat
  key : Nat
  af : Nat
  data : List Byte
  deriving DecidableEq, Repr

/-- A cache error of a Scribe core (03 R74): L1I parity, an error of L1D or L2 that is corrected, one that is not. -/
inductive CacheErr where
  | parity | corrected | uncorrectable
  deriving DecidableEq, Repr

/-- A pipeline (07). -/
inductive Pipe where
  | a | b
  deriving DecidableEq, Repr

/-- The number of a pipeline. -/
def Pipe.idx (p : Pipe) : Nat :=
  match p with
  | .a => 0
  | .b => 1

/-- A fault of the Ruler block (12 R284): a mismatch of the copies of Ruler `t`, or a SECDED error in a time-stamp record. -/
inductive RulFault where
  | copy (t : Fin 8)
  | record (idx : Fin 8192) (corrected : Bool)
  deriving DecidableEq, Repr

end Sys2Proof
end

