-- ==== Sys2Proof/Syntax.lean ====
section
/-! DEFINITION. The commands the block takes: one constructor per row of the command table
(spec/opcode_table.json), with the row's operands: what the initiator gives, and what the device
observes outside the model (a level, a frame, a CRC that matched, a training result). -/
namespace Sys2Proof

/-- A command. -/
inductive Instr where
  /-- R7: A write to a register that has no row of its own stores the value by its field types, including W1C/W1S bits and a held upper word applied with the low word. -/
  | registerWrite (ini : Initiator) (addr : Nat) (val : Word)
  /-- R5: A read of the low word of a register wider than 32 bits latches its upper words for the same initiator. -/
  | wideRegLowRead (ini : Initiator) (addr : Nat)
  /-- R351: A read of an RC register clears it and copies the value into its _SNAP companion. -/
  | rcRegisterRead (ini : Initiator) (addr : Nat)
  /-- R6: An access outside every assigned region completes with an error and is recorded as an interconnect error. -/
  | accessOutsideRegion (ini : Initiator) (addr : Nat)
  /-- R11: A receiver takes a Ferrule transfer, accepting it only with a good CRC and the expected sequence number. -/
  | ferruleTransferRx (die : Die) (got : FerruleRx) (seq : Fin 256) (msg : FerruleMsg)
  /-- R11: An unacknowledged Ferrule transfer is retransmitted after 1 µs, up to three times. -/
  | ferruleRetransmit (sent : FerruleSent)
  /-- R11: The main die sends an idle transfer after 1 µs without sending. -/
  | ferruleIdleSend
  /-- R13: After 16 µs without a valid transfer the power die enters main-die absent. -/
  | mainDieAbsent
  /-- R20: A waiting block-level recovery starts when the previous recovery in its management domain ends. -/
  | blockRecoveryStart (dom : Domain)
  /-- R26: Loss of root PLL lock is reported CRITICAL against 0xF000. -/
  | pllUnlock
  /-- R26: Loss of SREFCLK0 or SREFCLK1 is reported as SerDes loss against each affected port. -/
  | srefclkLoss (clk : Fin 2)
  /-- R57: VBAT rising through its threshold puts the power die in power-on reset with every channel off. -/
  | vbatPowerOn
  /-- R57: After 1 ms of power-die power-on reset the AOC starts. -/
  | powerDiePorEnd
  /-- R57: INH_OUT is asserted 2 ms after the AOC starts, or on a wake. -/
  | inhOutAssert
  /-- R58: Once all three monitored rails have stayed in their windows for 1 ms, main-die power-on reset is released. -/
  | railsInWindow (maintLow : Bool)
  /-- R58: Rails not in window 20 ms after INH_OUT rises: INH_OUT lowered, supply fault recorded, retry or fault after a second failure. -/
  | railWindowTimeout
  /-- R58: After 1 s the power die retries the rail start once. -/
  | railRetry
  /-- R22: The root PLL locks, all dividers are released together, fuses are sensed and the boot ROM starts on S0. -/
  | rootPllLock
  /-- R59: After the commit record, manifest and second stage are checked, the second stage starts. -/
  | secondStageStart (ok : Bool)
  /-- R441: LPDDR5X training ends at the first rate at which both channels train, or fails the start. -/
  | dramTrained (train : DramTrain)
  /-- R61: The key store reads the tamper flag, resolves counters, unwraps slots and enables the private key bus, or refuses unseal. -/
  | unseal
  /-- R46: The Scroll control block checks, verifies and applies the base Scroll and persisted soft Scroll, bumps the epoch and enables ports. -/
  | scrollLoad (ok : Bool)
  /-- R49: SCR_CMD APPLY checks the staged soft Scroll and starts its apply, or refuses it. -/
  | scrollApply
  /-- R50: A verified soft Scroll is written into shadow state and committed by one TBL_EPOCH increment. -/
  | softScrollCommit
  /-- R51: SCR_CMD PERSIST starts writing the soft Scroll in force to the soft slot, or is refused. -/
  | scrollPersist
  /-- R51: The soft slot header is written after erase, program and read-back, and DONE is set. -/
  | persistDone (ok : Bool)
  /-- R53: SCR_RESTRUCT GO starts a restructure of a port group to another variant, or is refused. -/
  | restructure (g : BitVec 2) (v : BitVec 3)
  /-- R54: Ingress and egress of the group have stopped at frame ends, and its queues are flushed. -/
  | restructStopped
  /-- R54: The variant's sections are loaded into the group's units and SCR_VARIANT records it. -/
  | restructLoaded
  /-- R54: SerDes or lane personalities are initialised, ports enabled, GO returns to 0 and DONE is set. -/
  | restructPortsEnabled
  /-- R56: Setting SCR_LOCK makes every RWL field read-only and refuses restructures until the next main-die reset. -/
  | scrollLock
  /-- R63: A keyed write of GLB_RST.MAIN causes a main-die reset. -/
  | glbRstMain (key : BitVec 8)
  /-- R69: A keyed write of GLB_RST.RECOVERY causes a main-die reset into recovery mode. -/
  | glbRstRecovery (key : BitVec 8)
  /-- R63: SYS_RST_N low for 1 µs or more causes a main-die reset. -/
  | sysRstNLow
  /-- R64: After 10 µs the reset is released and the start runs from step 5. -/
  | mainDieResetRelease (maintLow : Bool)
  /-- R63: PERST_N low, hot reset or link down resets the PCIe endpoint and stops host rings at packet boundaries. -/
  | pcieReset
  /-- R63: A GLB_BLK_RST bit holds a Nib engine or S1 in reset while 1. -/
  | glbBlkRstWrite (nib : BitVec 10) (s1 : Bool)
  /-- R72: Setting GLB_SCRIBE_CTL.S1_RUN releases S1 to start at GLB_S1_BOOT. -/
  | s1Run
  /-- R75: A read of GLB_IRQ_CLAIM returns the highest-priority pending source and marks it in service. -/
  | irqClaim (ini : Initiator) (t : Fin 4)
  /-- R75: A write of a source number to GLB_IRQ_CLAIM completes that source. -/
  | irqComplete (n : BitVec 8)
  /-- R75: GLB_MTIME reaching GLB_MTIMECMP makes the core's machine timer interrupt pending. -/
  | mtimeCompare (c : Fin 2)
  /-- R76: A write of 0x0000_5A5A to GLB_WDOG_KICK reloads the watchdog. -/
  | wdogKick (v : Word)
  /-- R76: The watchdog reaching zero raises source 30 and a SEVERE fault, or CRITICAL on a second expiry. -/
  | wdogExpiry
  /-- R71: A checker mismatch stops the Scribe core and is reported to the Blotter. -/
  | lockstepMismatch (c : Fin 2)
  /-- R74: An L1 or L2 parity or ECC error is corrected or refetched and reported. -/
  | cacheError (c : Fin 2) (k : CacheErr)
  /-- R70: A HELLO frame is answered with DEV_ID, DEV_REV, UID and GLB_BOOT_STAT. -/
  | uartHello (p : List Byte) (crc : BitVec 16)
  /-- R70: A CHALLENGE frame is answered with a 16-byte nonce. -/
  | uartChallenge (p : List Byte) (crc : BitVec 16)
  /-- R428: An AUTH frame carries the maintenance authorisation for checking. -/
  | uartAuth (p : List Byte) (crc : BitVec 16)
  /-- R428: A MANIFEST frame stores manifest bytes and runs STAGE when TOTAL is complete. -/
  | uartManifest (p : List Byte) (crc : BitVec 16) (ok : Bool)
  /-- R428: A SHEET frame delivers one indexed sheet for staging. -/
  | uartSheet (p : List Byte) (crc : BitVec 16) (ok : Bool)
  /-- R428: A COMMIT frame commits the staged set, optionally verifying first and restarting. -/
  | uartCommit (p : List Byte) (crc : BitVec 16) (bad : List (BitVec 12)) (ok : Bool)
  /-- R70: A SET_RATE frame changes the UART bit rate after its reply. -/
  | uartSetRate (p : List Byte) (crc : BitVec 16)
  /-- R80: Loss of signal, block lock or synchronisation on a port starts the link-down delay. -/
  | pcsSignalLoss (p : Fin 40) (signal lock : Bool)
  /-- R80: A port's link comes up after 50 µs of lock plus its mode's conditions. -/
  | linkUp (p : Fin 40) (eyeW eyeH : BitVec 8)
  /-- R80: A port's link goes down 2 µs after loss, and its queues enter linger or flush. -/
  | linkDown (p : Fin 40)
  /-- R79: An SGMII in-band status word gives the link bit, or holds the link down on a speed or duplex mismatch. -/
  | inbandStatusWord (p : Fin 40) (link : Bool) (speed : BitVec 2) (full : Bool)
  /-- R81: ETH_SERDES_RX.READAPT restarts receiver adaptation, dropping and requalifying the link. -/
  | serdesReadapt (p : Fin 40)
  /-- R99: A SerDes PLL lock loss is reported SEVERE and the group controller reinitialises the lane. -/
  | serdesPllLockLoss (p : Fin 40)
  /-- R83: A port receives a whole frame, drops and counts bad ones, and passes the rest to its pipeline. -/
  | frameReceived (p : Fin 40) (bs : List Byte) (fcsGood : Bool)
  /-- R157: At the grant cycle a frame is granted a speculative transmission or declined with a code. -/
  | qsGrantCheck (p : Fin 40) (bs : List Byte) (secured free lost mFree mLost : Bool)
  /-- R159: A granted frame's first bit leaves the egress at the release point. -/
  | qsRelease (p : Fin 40)
  /-- R153: The decision part of a frame's verdict becomes final after classification and lookups. -/
  | verdictDecisionFinal (p : Fin 67)
  /-- R153: The integrity part of the verdict becomes final with FCS, length and ICV results. -/
  | verdictIntegrityFinal (p : Fin 67)
  /-- R161: A Vangino peer receiving a strike block inside a frame discards it and counts RX_STRUCK. -/
  | strikeBlockRx (p : Fin 8)
  /-- R86: A received PAUSE frame is honoured for all classes or consumed and ignored by mode. -/
  | pauseFrameRx (p : Fin 40) (da : BitVec 48) (quanta : BitVec 16)
  /-- R86: A received PFC frame pauses each enabled class for its own time. -/
  | pfcFrameRx (p : Fin 40) (enable : BitVec 8) (times : List (BitVec 16))
  /-- R87: 1,024 bit times after the frame, the pause takes effect and its timer starts. -/
  | pauseTakesEffect (p : Fin 40)
  /-- R87: A class's pause time runs out and it resumes. -/
  | pauseTimerExpiry (p : Fin 40) (c : Fin 8)
  /-- R88: While above XON_CELLS the port repeats its pause frame every half PAUSE_QUANTA. -/
  | pauseRepeat (p : Fin 40)
  /-- R89: A class paused continuously for STORM_MS is stormed and later pauses ignored. -/
  | pauseStorm (p : Fin 40) (c : Fin 8)
  /-- R90: An idle access port enters LPI after IDLE_US with empty queues. -/
  | lpiEntry (p : Fin 40)
  /-- R90: TW_SYS_US after leaving LPI the port starts the waiting frame. -/
  | lpiWakeDone (p : Fin 40)
  /-- R85: A trunk port in mode 1 sends a Taper HELLO at link-up and every 100 ms. -/
  | taperHelloSend (p : Fin 8)
  /-- R85: A received HELLO from a Vangino device sets PEER. -/
  | taperHelloRx (p : Fin 8) (devId : Word)
  /-- R85: PEER clears after 300 ms without a HELLO. -/
  | peerTimeout (p : Fin 8)
  /-- R93: A utilisation window ends and the down or up condition is judged, possibly proposing a rate. -/
  | taperWindowEnd (p : Fin 8) (txBits rxBits : Nat)
  /-- R96: A received PROPOSE is accepted into HOLD or refused under R94. -/
  | taperProposeRx (p : Fin 8) (seq : BitVec 16) (rate flags : BitVec 8)
  /-- R96: An ACCEPT with matching SEQ moves the proposer to HOLD. -/
  | taperAcceptRx (p : Fin 8) (seq : BitVec 16)
  /-- R96: A REFUSE records the reason and restarts dwell. -/
  | taperRefuseRx (p : Fin 8) (reason : BitVec 8)
  /-- R96: No answer within 100 µs resends the PROPOSE, or gives up after three resends. -/
  | taperProposeTimeout (p : Fin 8)
  /-- R96: The frame in progress ends and the port squelches and retrains to the new mode. -/
  | taperHoldEnd (p : Fin 8)
  /-- R96: 2 ms in RETRAIN without link brings the link down and sets FAILED. -/
  | taperRetrainTimeout (p : Fin 8)
  /-- R92: A write of ETH_TAPER_CTL changes the loop enable, bounds or forced rate, suspending or proposing. -/
  | taperCtlWrite (p : Fin 8) (force ceil floor : BitVec 2) (en : Bool)
  /-- R98: In DOZE a received frame matching an enabled pattern wakes the device. -/
  | wakePatternFrame (p : Fin 40) (bs : List Byte)
  /-- R84: ETH_CTL.CNT_CLR clears all counters of the port. -/
  | ethCntClr (p : Fin 40)
  /-- R113: EN 0 to 1 with valid timing releases AUX and starts integration after ARM_US. -/
  | canEnable (n : Fin 24)
  /-- R103: EN written 0 stops the lane at the end of the frame in progress. -/
  | canDisable (n : Fin 24)
  /-- R113: 11 consecutive recessive bits make the lane ACTIVE with link up. -/
  | canIntegrated (n : Fin 24)
  /-- R114: A CAN frame received whole is filtered, rate-limited, time-stamped and passed on. -/
  | canFrameRx (n : Fin 24) (seen : CanSeen) (flags sdt : BitVec 8) (key : BitVec 29) (af : Word) (data : List Byte) (bad : List (Fin 64))
  /-- R108: An unsupported format enters protocol exception and waits for 11 recessive bits. -/
  | canProtocolException (what : CanForeign)
  /-- R115: A frame reaching the head of a lane queue is format-checked, filtered, sealed if needed and enters arbitration. -/
  | canTxHead (n : Fin 24) (bad : List (Fin 64))
  /-- R110: A successful transmission removes the frame from its queue. -/
  | canTxSuccess (n : Fin 24) (tdcv : BitVec 7)
  /-- R109: A lost arbitration reselects, or drops the frame under ONESHOT. -/
  | canArbLost (n : Fin 24)
  /-- R111: A detected error updates TEC and REC, possibly making the lane passive or bus-off. -/
  | canBusError (n : Fin 24) (lec : BitVec 3) (data : Bool) (side : CanSide) (special : Bool)
  /-- R112: LSL_CAN_RECOV.START or AUTO_RECOV starts bus-off recovery. -/
  | canRecoveryStart (n : Fin 24)
  /-- R112: The 128th recessive sequence clears the counters and brings the link up. -/
  | canRecoveryDone (n : Fin 24)
  /-- R105: No loop-delay edge within 127 LCLK cycles is a data-phase bit error. -/
  | tdcFail (n : Fin 24)
  /-- R115: A lane limiter gains one token every PERIOD_US. -/
  | canRlRefill (n : Fin 24) (j : Fin 16)
  /-- R119: A reference message falls due and is sent ahead of queued frames, or skipped. -/
  | canTmDue (n : Fin 24)
  /-- R122: During handover a dominant level of WUP_FILT on RXD aborts power-state entry. -/
  | canWakeDominant (n : Fin 24)
  /-- R121: The AOC detects a lane wake-up pattern or activity on RXD and records a wake. -/
  | aocLaneWake (n : Fin 24)
  /-- R122: ARM_US after AUX assertion the AOC detector is armed and the lane stops watching. -/
  | canAuxArmed (n : Fin 24)
  /-- R123: LSL_CAN_BRD.START starts a bit-rate measurement in listen-only. -/
  | brdStart (n : Fin 24)
  /-- R123: After 256 edges or 100 ms the measurement reports MIN_EDGE and EDGES. -/
  | brdDone (n : Fin 24) (edges : Nat) (minEdge : BitVec 16)
  /-- R111: LSL_CAN_CTL.CNT_CLR clears all CAN counters of the lane. -/
  | canCntClr (n : Fin 24)
  /-- R127: A T1S frame with good FCS and length enters Pipeline A, others are dropped. -/
  | t1sFrameRx (n : Fin 24) (bs : List Byte) (fcsGood : Bool)
  /-- R128: The coordinator opens each PLCA cycle with a BEACON. -/
  | t1sBeaconSend (n : Fin 24)
  /-- R128: In its opportunity a node sends its head frame at once or lets TO_TIMER pass. -/
  | t1sOpportunity (n : Fin 24) (id : BitVec 8)
  /-- R128: An unused opportunity expires after TO_TIMER bit times. -/
  | t1sToTimer (n : Fin 24)
  /-- R128: No frame ready within BURST_TMR ends the opportunity. -/
  | t1sBurstTimer (n : Fin 24)
  /-- R129: A received BEACON restarts opportunity counting or returns a follower to PLCA. -/
  | t1sBeaconRx (n : Fin 24)
  /-- R129: A follower without a BEACON for 4,000 bit times switches to CSMA. -/
  | beaconLoss (n : Fin 24)
  /-- R130: A collision sends jam and backs off, or retries next opportunity in PLCA, dropping after 16. -/
  | t1sCollision (n : Fin 24) (r : BitVec 10)
  /-- R130: The back-off ends and the frame contends again. -/
  | t1sBackoffEnd (n : Fin 24)
  /-- R142: No ED for 100 ms on a follower without BEACON takes the link down. -/
  | t1sEdTimeout (n : Fin 24)
  /-- R130: LSL_T1S_CTL.CNT_CLR clears all T1S counters. -/
  | t1sCntClr (n : Fin 24)
  /-- R137: A received master frame is answered from a matching source port or by device status. -/
  | mvbMasterFrameRx (n : Fin 24) (fcode : BitVec 4) (addr : BitVec 12) (ok : Bool)
  /-- R137: REPLY_DLY bit times after the master frame, the slave frame is sent. -/
  | mvbReplySend (n : Fin 24)
  /-- R137: A slave frame for a sink port is written to its slot and posts a sink-update event. -/
  | mvbSlaveFrameRx (n : Fin 24) (data : List Byte) (ok : Bool)
  /-- R138: A new basic period opens and the periodic phase starts. -/
  | mvbBasicPeriod (n : Fin 24)
  /-- R139: The administrator sends the next due or queued master frame if its worst case fits. -/
  | mvbPollSend (n : Fin 24) (left : Nat)
  /-- R140: No slave frame within REPLY_TO counts a timeout and moves on. -/
  | mvbReplyTimeout (n : Fin 24)
  /-- R142: A device without a valid master frame for SILENCE_MS takes its link down. -/
  | mvbSilenceTimeout (n : Fin 24)
  /-- R255: A KIND 0x11 lane frame at the head of an MVB queue writes a source port's data. -/
  | mvbSrcUpdate (n : Fin 24)
  /-- R140: LSL_MVB_CTL.CNT_CLR clears all MVB counters. -/
  | mvbCntClr (n : Fin 24)
  /-- R156: PPx_CTL.SC_FLUSH invalidates the whole Stroke cache. -/
  | scFlush (i : Pipe)
  /-- R167: The scrubber checks Stencil rules and Stroke cache entries and clears bad ones. -/
  | stencilScrub (i : Pipe) (stroke : Bool) (n : Fin 8192)
  /-- R168: The pipeline resumes ingress at the next frame start on each port. -/
  | pipelineRecoveryDone (i : Pipe)
  /-- R163: PPx_CTL.CNT_CLR clears the pipeline's decline, general and Stencil counters. -/
  | ppxCntClr (i : Pipe)
  /-- R207: When the transmitter is free the scheduler selects a class by strict priority or DWRR and starts its head frame. -/
  | egressSelect (p : Fin 40)
  /-- R84: A frame's transmission ends, its copy is finished and time-stamp records are written. -/
  | egressFrameDone (p : Fin 40)
  /-- R188: A software entry write to an epoch-governed table goes into the update buffer or is discarded. -/
  | tableEntryWrite (op : TblOp)
  /-- R189: TBL_CMD.BUMP increments TBL_EPOCH and commits buffered writes, or is held. -/
  | epochBump
  /-- R189: A committed write moves from the buffer into its table, failing if an insertion is FULL. -/
  | committedWriteApply
  /-- R176: A queued learn request inserts, refreshes or moves the FDB entry. -/
  | learnInsert (p : Pipe)
  /-- R178: The aging sweep visits an entry, incrementing AGE or deleting it at 3. -/
  | ageSweepVisit (p : Pipe) (slot : Fin 65600)
  /-- R191: A write of TBL_DRAIN_TARGET starts a new drain wait. -/
  | drainTargetWrite (target : Word)
  /-- R180: Writing TBL_LN_CFG.EN from 0 to 1 sets HEAD and TAIL to 0. -/
  | lnCfgEnable (en target : Bool) (sizeLog2 : BitVec 5) (events : BitVec 4)
  /-- R187: The table scrubber finds a parity error and scrubs the entry by table kind. -/
  | tableScrub (tid idx : Nat) (uncorr : Bool)
  /-- R189: TBL_CTL.CNT_CLR clears all TBL_ counters. -/
  | tblCntClr
  /-- R203: A deep queue's tail frames are packed into a Reservoir block. -/
  | spillBlockWrite (q : Fin 768)
  /-- R203: The oldest block is requested for refill into a head with room. -/
  | refillRequest (q : Fin 768)
  /-- R205: A refilled block reaches the head, checking ECC and SEQ. -/
  | refillDone (q : Fin 768) (r : RefillResult)
  /-- R210: QUE_FLUSH GO sets a boundary and starts flushing a queue. -/
  | queFlushGo (q : Nat)
  /-- R210: The flush ends and GO reads 0. -/
  | queFlushDone
  /-- R211: PORT_LINGER passes and every class of the down port is flushed. -/
  | lingerEnd (p : Fin 64)
  /-- R200: A QUE_CFG write is stored, or refused when it breaks the reserve limit. -/
  | queCfgWrite (q : Fin 768) (minCells : BitVec 18) (alpha : BitVec 4) (mark drop : BitVec 26)
  /-- R198: A frame of the recirculation list re-enters Pipeline A. -/
  | recirculate
  /-- R212: OPEN reserves a length slot and opens a packet, or is refused. -/
  | fifoOpen (f : Fin 256)
  /-- R216: A DATA write appends 4 bytes, or aborts the packet on no room or over-length. -/
  | fifoData (f : Fin 256) (w : Word)
  /-- R212: COMMIT ends the packet and writes its length word. -/
  | fifoCommit (f : Fin 256) (flags : BitVec 6) (trim : BitVec 2)
  /-- R212: ABORT ends the packet as aborted. -/
  | fifoAbort (f : Fin 256)
  /-- R215: A read of a FIFO consume window returns head data and puts the packet in consumption. -/
  | fifoConsumeRead (ini : Initiator) (f : Fin 256) (word : Fin 4096)
  /-- R215: QUE_FIFO_POP frees the head packet unless none is visible or it is pending. -/
  | fifoPop (f : Fin 256)
  /-- R217: QUE_FIFO_FLUSH sets a boundary and frees packets before it. -/
  | fifoFlush (f : Fin 256)
  /-- R218: The Inkwell scrubber reads a cell, correcting or handling an error. -/
  | inkwellScrub (c : Fin 131072) (r : CellRead)
  /-- R219: A link word or queue entry parity error drops frames behind it and starts a cell audit. -/
  | linkParityError (w : LinkDamage)
  /-- R219: QUE_CTL.AUDIT requests a cell audit. -/
  | cellAuditStart
  /-- R219: An audit ends, reclaims unreachable cells and sets AUDIT_DONE_EVT. -/
  | cellAuditDone
  /-- R219: QUE_CTL.CNT_CLR clears all QUE_, INK_ and RSV_ counters. -/
  | queCntClr
  /-- R222: An ALU, LUI or AUIPC instruction executes. -/
  | nibAlu (n : Fin 10)
  /-- R222: A conditional branch executes. -/
  | nibBranch (n : Fin 10)
  /-- R222: JAL executes. -/
  | nibJal (n : Fin 10)
  /-- R222: JALR executes. -/
  | nibJalr (n : Fin 10)
  /-- R238: MRET returns from a trap and clears IN_TRAP. -/
  | nibMret (n : Fin 10)
  /-- R224: A load reads from a memory region in M cycles. -/
  | nibLoad (n : Fin 10) (r : CellRead)
  /-- R225: A store enters the store buffer. -/
  | nibStore (n : Fin 10)
  /-- R222: A multiply instruction executes. -/
  | nibMul (n : Fin 10)
  /-- R222: A divide or remainder instruction executes. -/
  | nibDiv (n : Fin 10)
  /-- R226: A Zicsr instruction accesses a supported CSR. -/
  | nibCsrAccess (n : Fin 10)
  /-- R225: FENCE waits until every earlier store is visible. -/
  | nibFence (n : Fin 10)
  /-- R221: WFI waits until the event queue holds an event. -/
  | nibWfi (n : Fin 10)
  /-- R238: ECALL raises exception 11. -/
  | nibEcall (n : Fin 10)
  /-- R238: EBREAK raises exception 3. -/
  | nibEbreak (n : Fin 10)
  /-- R229: Extracts a bit field from a payload. -/
  | vgBext (n : Fin 10) (r : CellRead)
  /-- R228: Reverses bytes or swaps halfword bytes. -/
  | vgBswap (n : Fin 10)
  /-- R229: Inserts a bit field into a payload. -/
  | vgBins (n : Fin 10) (r : CellRead)
  /-- R230: Scales and clamps a signed raw value. -/
  | vgScale (n : Fin 10) (r : CellRead)
  /-- R230: Scales and clamps an unsigned raw value. -/
  | vgScaleu (n : Fin 10) (r : CellRead)
  /-- R231: One CRC step over a byte. -/
  | vgCrcb (n : Fin 10)
  /-- R231: Four CRC steps over a word. -/
  | vgCrcw (n : Fin 10)
  /-- R231: Complete CRC over memory. -/
  | vgCrcm (n : Fin 10) (r : CellRead)
  /-- R228: Snapshots a Ruler into the time latch. -/
  | vgTrd (n : Fin 10)
  /-- R228: Reads a part of the time latch. -/
  | vgTlat (n : Fin 10)
  /-- R234: Takes the oldest event of a kind in the mask, or waits. -/
  | vgAwait (n : Fin 10)
  /-- R234: An event posted to a waiting engine makes VG.AWAIT return. -/
  | awaitReturn (n : Fin 10)
  /-- R234: Takes an event of the mask or returns 0. -/
  | vgPollev (n : Fin 10)
  /-- R228: Posts a DOORBELL event to an engine. -/
  | vgRing (n : Fin 10)
  /-- R235: Arms or disarms a Nib timer. -/
  | vgTset (n : Fin 10)
  /-- R236: Releases the current frame and makes a queue's head current. -/
  | vgPop (n : Fin 10)
  /-- R236: Releases the current frame, or refuses for a pending packet. -/
  | vgRel (n : Fin 10)
  /-- R237: Injects, enqueues or commits a frame or packet from a descriptor. -/
  | vgPush (n : Fin 10) (r : CellRead)
  /-- R228: Returns the frames or visible packets held by a queue. -/
  | vgQlen (n : Fin 10)
  /-- R232: Writes a signal cell's value and T0 stamp atomically. -/
  | vgSput (n : Fin 10)
  /-- R232: Returns a signal cell's age in µs. -/
  | vgSage (n : Fin 10) (r : CellRead)
  /-- R228: Atomically adds to a Signal Store word. -/
  | vgAmoadd (n : Fin 10) (r : CellRead)
  /-- R235: A Nib timer expires and posts or updates a TIMER event. -/
  | nibTimerExpiry (n : Fin 10) (t : Fin 4)
  /-- R239: An engine running WDOG_US without waiting is halted. -/
  | nibWatchdog (n : Fin 10)
  /-- R240: After a SEVERE halt the Nib block releases, resets and restarts the engine. -/
  | engineRecovery (n : Fin 10)
  /-- R243: NIB_CTL.RUN starts an engine at NIB_ENTRY from RESET. -/
  | nibRun (n : Fin 10)
  /-- R238: NIB_CTL.HALT halts the engine at the next instruction boundary. -/
  | nibHaltCmd (n : Fin 10)
  /-- R233: A write of NIB_DOORBELL posts a DOORBELL from the management interconnect. -/
  | nibDoorbellWrite (n : Fin 10) (v : BitVec 24)
  /-- R235: A write of NIB_TIMER arms or disarms a timer. -/
  | nibTimerWrite (n : Fin 10) (t : Fin 4) (periodic : Bool) (period : BitVec 24)
  /-- R241: The Signal Store scrubber finds and corrects or logs an error. -/
  | signalStoreScrub (word : Fin 262144) (uncorr : Bool)
  /-- R233: NIB_CTL.CNT_CLR clears the engine's counters and EVQ peak. -/
  | nibCntClr (n : Fin 10)
  /-- R251: A signal limiter gains one token every PERIOD_US. -/
  | sigRlRefill (j : Fin 256)
  /-- R252: SIG_CTL.CNT_CLR clears all SIG_ counters. -/
  | sigCntClr
  /-- R257: The gateway program starts accepting frames after MAGIC and the DOORBELL. -/
  | gatewayStart (n : Fin 10)
  /-- R261: The program unpacks a mapped frame's signals into cells and marks triggered outputs. -/
  | gatewayFrameUnpack (n : Fin 10) (j : Fin 64)
  /-- R262: A scheduled output is built with age checks and pushed at each period. -/
  | gatewayScheduledSend (n : Fin 10) (m : Fin 4096)
  /-- R262: A pending on-change output is sent once MIN_GAP_US has passed. -/
  | gatewayTriggeredSend (n : Fin 10) (m : Fin 4096)
  /-- R267: STEP adds RUL_OFFSET to the Ruler, subject to the jump guard. -/
  | rulStep (t : Fin 8)
  /-- R267: SET loads RUL_SET as the time, subject to the jump guard. -/
  | rulSet (t : Fin 8)
  /-- R267: SLEW starts adding RUL_OFFSET gradually, or is refused. -/
  | rulSlew (t : Fin 8)
  /-- R270: ACCEPT ends the GUARDED state and exempts the next change. -/
  | rulAccept (t : Fin 8)
  /-- R267: The whole slew offset has been added and SLEW_DONE_EVT is set. -/
  | slewDone (t : Fin 8)
  /-- R266: A write of RUL_ADJ changes the Ruler's rate, subject to the jump guard. -/
  | rulAdjWrite (t : Fin 8) (adj : BitVec 40)
  /-- R268: Writing RUN starts or stops a Ruler T1–T7 at the next TCLK edge. -/
  | rulRunWrite (t : Fin 8) (run : Bool)
  /-- R273: HOLD_MS after a CPU, Nib or FIFO frame was consumed its receive record is freed. -/
  | tsRecordHoldExpiry (idx : Fin 8192)
  /-- R273: Advancing RUL_TXQ_TAIL frees the transmit records of consumed reports. -/
  | txqTailWrite (tail : Fin 1024)
  /-- R281: At each target time the PPS output pin is asserted. -/
  | ppsOutPulse (k : Fin 2)
  /-- R281: After WIDTH_10US × 10 µs the PPS pin is deasserted. -/
  | ppsOutPulseEnd (k : Fin 2)
  /-- R282: An edge on an enabled PPS input captures the Rulers into a record. -/
  | ppsInEdge (k : Fin 2) (falling : Bool)
  /-- R284: A mismatch of a Ruler's two copies stops it or is CRITICAL for T0. -/
  | rulerCopyMismatch (what : RulFault)
  /-- R284: Clearing of the Ruler block counters. -/
  | rulCntClr
  /-- R288: A change of a pair's MODE flushes both ports and clears its duplicate entries. -/
  | redPairModeWrite (i : Fin 4) (mode : BitVec 2)
  /-- R298: A MOVING bucket with nothing in flight and GAP_US passed is re-pinned. -/
  | bucketRepin (g : Fin 16) (b : Fin 256)
  /-- R301: A recovery exceeding its bound is reported CRITICAL. -/
  | recoveryBoundExceeded (what : Bounded)
  /-- R312: KEY_CMD UPDATE checks and applies a key update message. -/
  | keyUpdate (written tampActive : Bool)
  /-- R312: Step 6 commits the new key, clears the tamper flag or blows REVOKED. -/
  | keyUpdateCommit
  /-- R315: GENERATE draws a key into an empty slot and writes its record. -/
  | keyGenerate (n : Fin 256) (written : Bool)
  /-- R316: ATTEST writes a signed attestation statement for a slot. -/
  | keyAttest (n : Fin 256)
  /-- R315: DERIVE derives a key from a DERIVE slot into an empty slot. -/
  | keyDerive (src n : Fin 256) (written : Bool)
  /-- R315: ERASE writes a TYPE 0 record for an internally made key. -/
  | keyErase (n : Fin 256) (written : Bool)
  /-- R308: A new use reservation record is written, letting held uses proceed. -/
  | reservationWriteDone (n : Fin 256)
  /-- R317: Every 2^REMASK_LOG2 cycles a slot's key shares are re-masked. -/
  | keyRemask (n : Fin 256)
  /-- R318: A key RAM parity error zeroises that slot. -/
  | keyRamParity (n : Fin 256)
  /-- R314: A failed TRNG health test stops the DRBG. -/
  | trngHealthFail
  /-- R314: A read of KEY_RNG returns a new DRBG word. -/
  | keyRngRead (ini : Initiator)
  /-- R319: A tamper alarm aborts key operations, zeroises key material and sets the persistent flag. -/
  | tamperAlarm (src : Fin 5)
  /-- R306: KEY_CTL.CNT_CLR clears all KEY_ counters. -/
  | keyCntClr
  /-- R334: The seal check result releases or drops the frame's waiting copies. -/
  | sealCheckDone (n : Fin 24)
  /-- R336: Lookaside GCM encryption. -/
  | laGcmEnc (slot : Fin 256)
  /-- R336: Lookaside GCM decryption with tag check. -/
  | laGcmDec (slot : Fin 256) (tagLen : BitVec 5)
  /-- R336: Lookaside CMAC generation. -/
  | laCmacGen (slot : Fin 256)
  /-- R336: Lookaside CMAC verification. -/
  | laCmacVerify (slot : Fin 256) (tagLen : BitVec 5)
  /-- R336: Lookaside SHA-384 digest. -/
  | laSha384
  /-- R336: Lookaside ECDSA signature with the identity key over the prefixed text. -/
  | laEcdsaSign
  /-- R336: Lookaside ECDSA verification. -/
  | laEcdsaVerify (fleet : BitVec 4)
  /-- R336: A lookaside command finishes, writing its result and clearing BUSY. -/
  | laDone
  /-- R338: An inline unit or lookaside check error drops, wipes and reloads. -/
  | cipherUnitFault (u : Fin 4)
  /-- R338: CIP_CTL.CNT_CLR clears port and seal counters. -/
  | cipCntClr
  /-- R345: A CPU queue's head frame is written to a receive ring and completed in order. -/
  | dmaRxFrame (r : Fin 32) (sw : List Host.Cell)
  /-- R346: A held receive frame without new descriptors within HOLD_NS is dropped. -/
  | dmaRxHoldTimeout (r : Fin 32)
  /-- R348: A transmit ring frame is read into Inkwell and handed on or refused. -/
  | dmaTxFrame (j : Fin 32) (sw : List Host.Cell)
  /-- R349: A write of DMA_RING_TAIL hands descriptors to the device, or is a ring error. -/
  | dmaRingTailWrite (r : Fin 64) (v : BitVec 15)
  /-- R349: DMA_RING_CMD.RESTART resumes a stopped ring at HEAD. -/
  | dmaRingRestart (r : Fin 64)
  /-- R349: Writing EN stops a ring at a packet boundary or resumes it at HEAD. -/
  | dmaRingEnWrite (r : Fin 64) (w : Word)
  /-- R342: Rearming a vector sends at once if a mapped source is pending. -/
  | dmaVecRearm (mask : BitVec 64)
  /-- R343: COAL_US after the first uncounted completion, COMPL_EVT is set. -/
  | dmaCoalesceTimer (r : Fin 64)
  /-- R349: A DMA read without completion within CPL_TO_US is a ring error. -/
  | dmaCplTimeout (r : Fin 64)
  /-- R352: Bus Master Enable cleared or D3hot stops host rings at packet boundaries. -/
  | pcieBmeClear (d3 : Bool)
  /-- R349: DMA_CTL.CNT_CLR clears all ring counters. -/
  | dmaCntClr
  /-- R359: A BAR2 write takes a slot, is posted, and sent as a Tisuler request, or refused. -/
  | bar2Write (ini : Initiator) (off : Nat) (val : Word)
  /-- R361: A BAR2 read is sent as a Tisuler request and holds the near side. -/
  | bar2Read (ini : Initiator) (off : Nat)
  /-- R360: The responder executes, rejects, queues or discards a received request by its stream order. -/
  | tisulerRequestRx
  /-- R361: A response completes its transaction, fails a write, or is late or stray. -/
  | tisulerResponseRx
  /-- R363: No status within WR_US fails the write. -/
  | ligatureWriteTimeout (slot : Fin 64)
  /-- R364: No response within RD_US completes the read with the remote error. -/
  | ligatureReadTimeout (slot : Fin 64)
  /-- R362: After the back-off a BUSY or ORDER request is resent, or fails. -/
  | ligatureRetry (slot : Fin 64)
  /-- R366: A freed responder slot takes the next request of the input FIFO. -/
  | responderSlotFree
  /-- R367: The bridge sends a POLL to a watched device. -/
  | watchPollSend (w : Fin 64)
  /-- R367: An unanswered poll counts toward UNREACH after three. -/
  | watchPollTimeout (w : Fin 64)
  /-- R367: BRG_CTL.CNT_CLR clears all bridge counters. -/
  | brgCntClr
  /-- R370: S0's WFI with TARGET TRIM gates idle engines and lowers AVS. -/
  | enterTrim
  /-- R370: S0's WFI with TARGET RUN from TRIM raises AVS and ungates. -/
  | enterRun
  /-- R373: S0's WFI with TARGET DOZE starts DOZE entry after the checks, or refuses. -/
  | dozeEntry (s1Waiting : Bool)
  /-- R373: The commit step gates clocks and requests DOZE setpoints. -/
  | dozeCommit
  /-- R374: A wake in DOZE requests RUN setpoints and starts the exit. -/
  | dozeExit
  /-- R374: Clocks, Reservoir, pipelines and engines resume and STATE reads RUN. -/
  | dozeExitDone
  /-- R375: S0's WFI with TARGET SLEEP starts SLEEP entry, or refuses. -/
  | sleepEntry (s1Waiting : Bool)
  /-- R375: The final-state transfer is acknowledged; main-die reset and INH_OUT low follow. -/
  | sleepCommit
  /-- R375: 10 ms after lowering INH_OUT, a recorded wake starts the start sequence. -/
  | inhOutHoldEnd
  /-- R372: A host request stores TARGET and sets PENDING, replacing an earlier one. -/
  | pwrReqWrite (target : BitVec 3)
  /-- R372: S0 takes the pending request into TAKEN_TARGET. -/
  | pwrReqTake
  /-- R379: Both rails acknowledge a voltage change. -/
  | avsAck
  /-- R379: A rail not acknowledging within AVS_TIMEOUT is rewritten or degrades. -/
  | avsTimeout (core sram : BitVec 10)
  /-- R378: Every PERIOD_US in TRIM the loop steps both rails by slack. -/
  | avsLoopTick (slack : BitVec 8)
  /-- R380: A legacy code change settles after 20 µs. -/
  | legacySettle
  /-- R382: A warning threshold crossing is logged and reported NOTE. -/
  | supplyWarning (k : Fin 4) (level : BitVec 16)
  /-- R382: A reset threshold crossing resets the main die and lowers INH_OUT. -/
  | supplyReset (k : Fin 4) (level : BitVec 16)
  /-- R382: 10 ms after a sag reset, or after VBAT recovery, the start resumes. -/
  | sagRestart
  /-- R385: A presence message on a member is counted and restarts the quiet timer. -/
  | presenceRx (k : Fin 16) (p : Fin 64) (node flags : BitVec 8)
  /-- R386: Under local need the device sends presence at once and every T_PRES. -/
  | presenceSend (k : Fin 16)
  /-- R386: Writing LOCAL_NEED changes local need and restarts the quiet timer. -/
  | localNeedWrite (k : Fin 16) (need : Bool)
  /-- R387: T_QUIET without counted presence moves the network to PREPARE_SLEEP. -/
  | quietTimeout (k : Fin 16)
  /-- R387: At the commit point the network goes ASLEEP and its members sleep. -/
  | tWaitExpiry (k : Fin 16)
  /-- R389: A network wake returns the network to AWAKE with HOLDING and presence. -/
  | networkWake (k : Fin 16) (code : BitVec 4) (idx : BitVec 8)
  /-- R387: HOLD_MS after a wake HOLDING clears. -/
  | holdExpiry (k : Fin 16)
  /-- R391: A node entry is freed after 10 × T_PRES without presence. -/
  | nodeEntryExpiry (i : Fin 256)
  /-- R391: 3 × T_PRES without presence ends a node's need run. -/
  | needRunTimeout (i : Fin 256)
  /-- R392: A need run beyond MAX_AWAKE_S caps or logs the node. -/
  | maxAwakeExceeded (i : Fin 256)
  /-- R393: A WAKE_IN pin active for FILT_MS is a wake. -/
  | wakeInActive (n : Fin 8)
  /-- R393: The RTC reaching ALARM fires a wake. -/
  | rtcAlarm
  /-- R392: NSL_CTL.CNT_CLR clears all network sleep counters. -/
  | nslCntClr
  /-- R402: An ON command switches an OFF channel into INRUSH, or is refused. -/
  | lcOn (mask : BitVec 24)
  /-- R402: An OFF command switches the channel off, keeping its fault count. -/
  | lcOff (mask : BitVec 24)
  /-- R402: LC_CLR clears a channel's latch and fault count. -/
  | lcClr (mask : BitVec 24)
  /-- R398: Current above SC_DA switches the channel off within 2 µs. -/
  | shortCircuitTrip (n : Fin 24) (i10mA lt10uJ : Nat)
  /-- R398: Current above the envelope for 20 µs switches the channel off. -/
  | overcurrentTrip (n : Fin 24) (i10mA lt10uJ : Nat)
  /-- R399: Let-through energy reaching ELIM_MJ switches the channel off. -/
  | energyTrip (n : Fin 24) (i10mA lt10uJ : Nat)
  /-- R400: The wiring model reaching I_cont² switches the channel off. -/
  | thermalTrip (n : Fin 24)
  /-- R398: A failed driver or sense self-check latches the channel. -/
  | driverSenseFault (n : Fin 24)
  /-- R402: The envelope clock passes the last END_US and the channel is ON. -/
  | inrushEnd (n : Fin 24)
  /-- R402: The retry pause ends and the channel retries or waits for the bank. -/
  | lcPauseEnd (n : Fin 24)
  /-- R401: 2 s without fault returns the fault count to 0. -/
  | faultCountReset (n : Fin 24)
  /-- R397: VLDb below the dip threshold freezes inrush envelope clocks. -/
  | vldDip (b : Fin 4) (mv : Nat)
  /-- R408: Current below OPEN_MA for 10 ms sets OPEN_ON. -/
  | openLoadOn (n : Fin 24) (i10mA : Nat)
  /-- R408: Every 10 ms an OFF channel tests for open load or short to supply. -/
  | offStateDiag (n : Fin 24) (before after : Bool)
  /-- R66: The power-die configuration is accepted or deferred until all channels are off. -/
  | powerDieConfigWrite (ok : Bool)
  /-- R410: A fault report reaches the Blotter, is classed, recorded and its reaction started. -/
  | blotterReport (r : Report) (more : Bool)
  /-- R411: A source's window closes WIN_MS after it opened. -/
  | bltWindowClose (src : Fin 1024)
  /-- R416: Every 500 µs the healthy pair toggles in anti-phase. -/
  | fltHeartbeat
  /-- R417: Main-die absent for ABSENT_MS with INH_OUT high makes the pair show fault. -/
  | absentTimeout
  /-- R417: Writing BLT_FLT_CTL.FORCE sets or clears cause FORCE. -/
  | fltForceWrite (force : Bool)
  /-- R410: BLT_CTL.LOG_CLR empties BLT_LOG. -/
  | bltLogClr
  /-- R410: BLT_CTL.CNT_CLR clears Blotter counters and totals. -/
  | bltCntClr
  /-- R413: A keyed CLR of BLT_PLOG_HEAD empties BLT_PLOG. -/
  | bltPlogClr (key : BitVec 8)
  /-- R421: STAGE checks the manifest and writes it to the inactive bank, keeping or erasing the bitmap. -/
  | updStage (ok : Bool)
  /-- R421: SHEET checks, programs and reads back one sheet and clears its bitmap bit. -/
  | updSheet (i : BitVec 12) (ok : Bool)
  /-- R421: VERIFY rehashes every sheet and part and sets READY. -/
  | updVerify (bad : List (BitVec 12))
  /-- R423: COMMIT writes the commit record, optionally resetting the main die. -/
  | updCommit (restart ok : Bool)
  /-- R421: ABORT ends the command in progress and clears READY. -/
  | updAbort
  /-- R425: CONFIRM programs the active set's record as confirmed. -/
  | updConfirm (ok : Bool)
  /-- R427: AUTH checks a maintenance authorisation for the current nonce. -/
  | updAuth
  /-- R427: CHALLENGE draws a new nonce and ends any authorisation. -/
  | updChallenge
  /-- R425: 10 s of TIMEOUT_S remain and CONFIRM_DUE_EVT is set. -/
  | confirmDue
  /-- R425: No CONFIRM within TIMEOUT_S fails the start check and tombstones. -/
  | confirmTimeout
  /-- R376: VBAT falls below the power-die power-on threshold, every load channel goes off and the device is in OFF. -/
  | vbatPowerLoss
  /-- R206: A fault of the LPDDR5X controller stops both channels and is reported CRITICAL against 0xF000. -/
  | reservoirControllerFault
  /-- R409: A continuous self-check of the power die's bandgap, oscillator or non-volatile store fails and source 0x019 is reported TERMINAL. -/
  | powerDieSelfCheckFail (info : Word)
  /-- R168: A pipeline stage makes no progress for 4,096 PCLK cycles, or an uncorrectable internal error is found, and a SEVERE fault is reported against the pipeline. -/
  | pipelineStall (i : Pipe)
  /-- R397: VLDb rises back above LC_VLD_DIP[b], and the envelope clocks of the bank's inrush channels run again. -/
  | vldDipEnd (b : Fin 4) (mv : Nat)
  /-- R382: A monitored level has been back above its warning threshold for 1 ms, and the warning re-arms. -/
  | supplyWarningRearm (k : Fin 4)
  /-- R407: VBAT has been back above its warning threshold for 10 ms, and load-channel retries that waited may start. -/
  | vbatWarningClear
  /-- R339: The PCIe link trains and comes up after PERST_N release or link loss. -/
  | pcieLinkUp (speed : Fin 4) (lanes : Fin 3) (cfg : HostCfg)
  /-- R438: The 32.768 kHz crystal stops, and within 1 s the AOC runs the RTC from its internal oscillator at ±2 %. -/
  | xtal32Stop
  /-- R90: The PHY signals receive LPI to an access port, which sets LPI_RX and counts RX_LPI. -/
  | receiveLpi (p : Fin 40) (on : Bool)
  /-- R221: A Nib engine fetches an unsupported encoding, or meets a fetch access fault or instruction SRAM parity error, and raises an exception. -/
  | nibIllegalInstruction (n : Fin 10) (parity : Bool)
  /-- R371: S1 has not reached WFI or reset within S1_WAIT_US, and the DOZE or SLEEP entry is refused with code 3. -/
  | s1WaitTimeout
  /-- R142: ED is asserted on a T1S lane's AUX input, which keeps or brings its link up. -/
  | energyDetect (n : Fin 24) (level : Bool)
  deriving DecidableEq, Repr

end Sys2Proof
end

