-- ==== Sys2Proof/Decode.lean ====
section
/-! DEFINITION. Commands by table bits: no row of spec/opcode_table.json gives bits (the device takes
commands, it fetches and decodes no instruction), so no word spells a command. -/
namespace Sys2Proof

/-- The command that a word of `nbits` bits spells: none, for every word. -/
def decodeTableWord (_nbits _w : Nat) : Option Instr := none

end Sys2Proof
end

