-- ==== Sys2Proof/Machine/Crc.lean ====
section
/-! DEFINITION. Reflected cyclic redundancy checks (IEEE 802.3 CRC-32; 10 R231). -/
namespace Sys2Proof.Machine

/-- One bit of a reflected CRC. -/
def crcRefBit (poly c : Nat) : Nat := if c.testBit 0 then (c >>> 1) ^^^ poly else c >>> 1

/-- `n` bits of it. -/
def crcRefBits (poly : Nat) : Nat → Nat → Nat
  | 0, c => c
  | n + 1, c => crcRefBits poly n (crcRefBit poly c)

/-- A reflected CRC over bytes, from an initial value, no final XOR. -/
def crcRef (poly init : Nat) (bs : List Byte) : Nat := bs.foldl (fun c b => crcRefBits poly 8 (c ^^^ b.toNat)) init

/-- The IEEE 802.3 CRC-32 of bytes. -/
def crc32Eth (bs : List Byte) : Nat := crcRef 0xEDB88320 0xFFFFFFFF bs ^^^ 0xFFFFFFFF

/-- The CRC-32C of bytes (10 R231, 02 R33, 22 R423). -/
def crc32c (bs : List Byte) : Nat := crcRef 0x82F63B78 0xFFFFFFFF bs ^^^ 0xFFFFFFFF

/-- The bytes of a frame with its FCS. -/
def withFcs (bs : List Byte) : List Byte := bs ++ leBytes 4 (crc32Eth bs)

/-- A frame, DA to FCS, whose content has been rewritten: its FCS is recomputed (04 R83). -/
def refreshFcs (bs : List Byte) : List Byte := withFcs (bs.take (bs.length - 4))

end Sys2Proof.Machine
end

