-- ==== Sys2Proof/Config.lean ====
section
/-! DEFINITION. What the spec leaves open: free values, constants without a body, which no proof can
evaluate. Each is named in the assumption log. They are open values of a message or report; the contents that the
factory blows into a part's fuses (14 R302); and what the entropy source gives. -/
namespace Sys2Proof

namespace Config

/-- The INFO word of a report for which no rule states a detail (21 BLT_LOG word 1). -/
opaque reportInfo : Nat → Word

/-- A byte of a message that no rule states: SEQ and RATE of a Taper HELLO (04 R95). -/
opaque openByte : Nat → Byte

/-- The time in a reference message with VALID = 0 of which no earlier message exists (05 R118). -/
opaque refTime : Nat → Nat

/-- The meta word of the frame window for a packet of a FIFO (10 R236 states it for frames). -/
opaque packetMeta : Nat → Word

/-- mtval of an illegal instruction or of EBREAK, by cause, pc and instruction bits: the privileged specification leaves the
choice (10 R238). -/
opaque trapValue : Nat → Word → Nat → Word

/-- The device root secret, 32 bytes (14 R302). -/
opaque drs : List Byte

/-- The unique ID, 16 bytes (14 R302). -/
opaque uid : List Byte

/-- KEY_ID of a FLEET position, 0 for an unused one (14 R302). -/
opaque fleetId : Nat → Word

/-- The public key of a FLEET position, 96 bytes (14 R302). -/
opaque fleetKey : Nat → List Byte

/-- The LIFECYCLE fuses (14 R302). -/
opaque lifecycle : Byte

/-- The factory certificate in the key region of the flash, DER behind its 2-byte length (14 R304). -/
opaque factoryCert : List Byte

/-- What the TRNG gives when the DRBG is seeded, by draw: entropy input, and at the first seeding the nonce behind it (14 R314). -/
opaque entropy : Nat → List Byte

/-- How a step that depends on the flash or on a pin ends when a register write commands it: the spec fixes no outcome (00 R7). The
command's own row carries it as an operand. -/
opaque outcome : Nat → Bool

/-- The sheets that a VERIFY commanded by a register write finds damaged (22 R421). -/
opaque badSheets : Nat → List (BitVec 12)

/-- What a read of a power-die register returns while the Ferrule link is down (01): no rule states it. -/
opaque linkDownRead : Nat → Word

/-- By how many 1/32,768 s the RTC advances in an interval while the AOC runs it from its internal oscillator, at ±2 % (23). -/
opaque rtcAdvance : Nat → Nat

/-- The place of a node of a route trie, by draw (08 R187, R182): no rule states how the hardware numbers the nodes. Its low 4 bits, in
the range of the table's levels, are the level; the rest are the address bits that lead to it. -/
opaque trieNode : Nat → Nat

end Config

end Sys2Proof
end

