-- ==== Sys2Proof/Machine/RegFile.lean ====
section
/-! DEFINITION. Register fields and the register file (spec 00 R4 to R8, 24 R445): what a field is,
how its value is kept, and what a software write stores by the field's type. -/
namespace Sys2Proof.Machine

/-- The register type codes of 00 R7. -/
inductive FldTy where
  | rw | ro | wo | w1c | w1s | rc | rws | rwl
  deriving DecidableEq, Repr

/-- One register field: the number it is kept under, its lowest bit in its register (which may be of
several words), its width, its type (00 R7) and its reset value for each element of its array. -/
structure Fld where
  id : Nat
  lo : Nat
  width : Nat
  ty : FldTy
  rst : Nat → Nat

/-- Field numbers below `keptBase` are main-die state, those below `powerBase` survive a main-die reset
(RWS fields and GLB_RST_CAUSE, 03 R63), those below `nvBase` are held on the power die, the rest is
non-volatile (21 R413). -/
def keptBase : Nat := 2000
def powerBase : Nat := 2200
def nvBase : Nat := 2900

/-- The reset value 0 of every element. -/
abbrev zeroReset : Nat → Nat := fun _ => 0

/-- A field of one element of a register array: field number and element number. -/
abbrev RegKey := Nat × Nat

/-- The register file: every field that does not hold its reset value, by rising key. A field that is
not listed holds its reset value, so equal register contents are equal data. -/
abbrev RegFile := List (RegKey × Nat)

/-- The order of the keys. -/
def RegKey.before (a b : RegKey) : Bool := decide (a.1 < b.1) || (decide (a.1 = b.1) && decide (a.2 < b.2))

/-- The listed value under `k`. -/
def RegFile.find (r : RegFile) (k : RegKey) : Option Nat :=
  match r with
  | [] => none
  | (k', v) :: t => if k' = k then some v else RegFile.find t k

/-- The register file without the entry under `k`. -/
def RegFile.drop (r : RegFile) (k : RegKey) : RegFile :=
  match r with
  | [] => []
  | (k', v) :: t => if k' = k then RegFile.drop t k else (k', v) :: RegFile.drop t k

/-- The register file with the entry `(k, v)` put before the first greater key. -/
def RegFile.put (r : RegFile) (k : RegKey) (v : Nat) : RegFile :=
  match r with
  | [] => [(k, v)]
  | (k', v') :: t => if RegKey.before k k' then (k, v) :: (k', v') :: t else (k', v') :: RegFile.put t k v

/-- The value of field `f` of element `i`. -/
def RegFile.get (r : RegFile) (f : Fld) (i : Nat) : Nat := (r.find (f.id, i)).getD (f.rst i)

/-- The register file after field `f` of element `i` takes the low bits of `v` that fit its width. -/
def RegFile.set (r : RegFile) (f : Fld) (i v : Nat) : RegFile :=
  let w := v % 2 ^ f.width
  if w = f.rst i then r.drop (f.id, i) else (r.drop (f.id, i)).put (f.id, i) w

/-- Only the fields whose number lies at or above `base`: what a reset of the others leaves. -/
def RegFile.from (r : RegFile) (base : Nat) : RegFile := r.filter (fun e => decide (base ≤ e.1.1))

/-- The register file without any entry of field `f`: the field of every element at its reset value. -/
def RegFile.clearFld (r : RegFile) (f : Fld) : RegFile := r.filter (fun e => decide (e.1.1 ≠ f.id))

/-- The register file without the entries of field `f` whose element number satisfies `p`. -/
def RegFile.clearWhere (r : RegFile) (f : Fld) (p : Nat → Bool) : RegFile :=
  r.filter (fun e => !(decide (e.1.1 = f.id) && p e.1.2))

/-- Keys strictly rise. -/
def RegFile.sorted : RegFile → Bool
  | [] => true
  | [_] => true
  | a :: b :: t => RegKey.before a.1 b.1 && RegFile.sorted (b :: t)

/-- What a software write of the field bits `v` leaves in a field of type `ty` that holds `old`
(00 R7). `locked` is SCR_LOCK. -/
def FldTy.written (ty : FldTy) (locked : Bool) (old v : Nat) : Nat :=
  match ty with
  | .rw | .rws => v
  | .rwl => if locked then old else v
  | .ro | .wo | .rc => old
  | .w1c => old &&& (old ^^^ v)
  | .w1s => old ||| v

/-- What a software read of a field of type `ty` that holds `v` returns: write-only fields read 0. -/
def FldTy.shown (ty : FldTy) (v : Nat) : Nat :=
  match ty with
  | .wo => 0
  | _ => v

end Sys2Proof.Machine
end

