-- ==== Sys2Proof/Machine/Fields.lean ====
section
/-! DEFINITION. Every register field of the device, by register, with its number, lowest bit, width,
type and reset value (the register tables of the chapters; 24 R445). Array elements share a field. -/
namespace Sys2Proof.Machine

/-- The default class of a Blotter source (21 R409): 0 NOTE, 1 SEVERE, 2 CRITICAL, 3 TERMINAL. -/
def bltDefaultClass (s : Nat) : Nat :=
  if s = 0x001 ∨ s = 0x002 ∨ s = 0x005 ∨ s = 0x006 ∨ s = 0x009 ∨ s = 0x00A ∨ s = 0x010 ∨ s = 0x014 then 2
  else if s = 0x019 ∨ s = 0x01A then 3
  else if s = 0x170 then 2
  else if s = 0x003 ∨ s = 0x008 ∨ s = 0x00B ∨ s = 0x011 ∨ s = 0x013 ∨ s = 0x016 ∨ s = 0x017 ∨ s = 0x018 then 1
  else if 0x068 ≤ s ∧ s ≤ 0x08F then 1
  else if 0x0D0 ≤ s ∧ s ≤ 0x0D9 then 1
  else if 0x0E4 ≤ s ∧ s ≤ 0x0ED then 1
  else if 0x0F0 ≤ s ∧ s ≤ 0x0F4 then 1
  else if 0x120 ≤ s ∧ s ≤ 0x13F then 1
  else if s = 0x140 ∨ s = 0x142 ∨ s = 0x143 ∨ s = 0x164 then 1
  else if 0x171 ≤ s ∧ s ≤ 0x177 then 1
  else if 0x190 ≤ s ∧ s ≤ 0x1CF then 1
  else if s = 0x1D0 ∨ s = 0x1D2 ∨ s = 0x1E3 then 1
  else if 0x218 ≤ s ∧ s ≤ 0x22F then 1
  else 0

namespace F

/- GLB_DEV_ID (spec 03). -/
abbrev GLB_DEV_ID_ID : Fld := ⟨0, 0, 32, .ro, (fun _ => 0x56476412)⟩
/- GLB_DEV_REV (spec 03). -/
abbrev GLB_DEV_REV_MAJOR : Fld := ⟨1, 24, 8, .ro, (fun _ => 0x01)⟩
abbrev GLB_DEV_REV_MINOR : Fld := ⟨2, 16, 8, .ro, (fun _ => 0x00)⟩
abbrev GLB_DEV_REV_METAL : Fld := ⟨3, 8, 8, .ro, (fun _ => 0x01)⟩
abbrev GLB_DEV_REV_PD_REV : Fld := ⟨4, 0, 8, .ro, (fun _ => 0x01)⟩
/- GLB_UID (spec 03). -/
abbrev GLB_UID_UID : Fld := ⟨5, 0, 32, .ro, zeroReset⟩
/- GLB_BOOT_STAT (spec 03). -/
abbrev GLB_BOOT_STAT_FAIL_CODE : Fld := ⟨6, 8, 8, .ro, zeroReset⟩
abbrev GLB_BOOT_STAT_MAINT_STRAP : Fld := ⟨7, 7, 1, .ro, zeroReset⟩
abbrev GLB_BOOT_STAT_ADOPTED : Fld := ⟨8, 6, 1, .ro, zeroReset⟩
abbrev GLB_BOOT_STAT_TAMPER_REFUSED : Fld := ⟨9, 5, 1, .ro, zeroReset⟩
abbrev GLB_BOOT_STAT_ACTIVE_BANK : Fld := ⟨10, 4, 1, .ro, zeroReset⟩
abbrev GLB_BOOT_STAT_STAGE : Fld := ⟨11, 0, 4, .ro, zeroReset⟩
/- GLB_RST_CAUSE (spec 03). -/
abbrev GLB_RST_CAUSE_BLT_SOURCE : Fld := ⟨2000, 16, 10, .ro, zeroReset⟩
abbrev GLB_RST_CAUSE_CAUSE : Fld := ⟨2001, 0, 4, .ro, zeroReset⟩
/- GLB_RST_COUNT (spec 03). -/
abbrev GLB_RST_COUNT_COUNT : Fld := ⟨2002, 0, 8, .rws, zeroReset⟩
/- GLB_RST (spec 03). -/
abbrev GLB_RST_KEY : Fld := ⟨12, 24, 8, .wo, zeroReset⟩
abbrev GLB_RST_RECOVERY : Fld := ⟨13, 1, 1, .wo, zeroReset⟩
abbrev GLB_RST_MAIN : Fld := ⟨14, 0, 1, .wo, zeroReset⟩
/- GLB_BLK_RST (spec 03). -/
abbrev GLB_BLK_RST_S1 : Fld := ⟨15, 16, 1, .rw, zeroReset⟩
abbrev GLB_BLK_RST_NIB : Fld := ⟨16, 0, 10, .rw, zeroReset⟩
/- GLB_SCRIBE_CTL (spec 03). -/
abbrev GLB_SCRIBE_CTL_S1_RUN : Fld := ⟨17, 0, 1, .w1s, zeroReset⟩
/- GLB_S1_BOOT (spec 03). -/
abbrev GLB_S1_BOOT_ADDR : Fld := ⟨18, 0, 32, .rw, zeroReset⟩
/- GLB_MSIP (spec 03). -/
abbrev GLB_MSIP_MSIP : Fld := ⟨19, 0, 2, .rw, zeroReset⟩
/- GLB_WDOG_CFG (spec 03). -/
abbrev GLB_WDOG_CFG_PERIOD_MS : Fld := ⟨20, 0, 14, .rwl, (fun _ => 1000)⟩
/- GLB_WDOG_KICK (spec 03). -/
abbrev GLB_WDOG_KICK_KICK : Fld := ⟨21, 0, 32, .wo, zeroReset⟩
/- GLB_L2_CFG (spec 03). -/
abbrev GLB_L2_CFG_SRAM_KIB : Fld := ⟨22, 0, 11, .rwl, (fun _ => 1024)⟩
/- GLB_IRQ_CFG (spec 03). -/
abbrev GLB_IRQ_CFG_PENDING : Fld := ⟨23, 8, 1, .ro, zeroReset⟩
abbrev GLB_IRQ_CFG_TARGET : Fld := ⟨24, 3, 2, .rw, zeroReset⟩
abbrev GLB_IRQ_CFG_PRIO : Fld := ⟨25, 0, 3, .rw, zeroReset⟩
/- GLB_IRQ_CLAIM (spec 03). -/
abbrev GLB_IRQ_CLAIM_SOURCE : Fld := ⟨26, 0, 8, .rw, zeroReset⟩
/- GLB_IRQ_THRESH (spec 03). -/
abbrev GLB_IRQ_THRESH_THRESH : Fld := ⟨27, 0, 3, .rw, zeroReset⟩
/- GLB_MTIME (spec 03). -/
abbrev GLB_MTIME_VALUE : Fld := ⟨28, 0, 64, .ro, zeroReset⟩
/- GLB_MTIMECMP (spec 03). -/
abbrev GLB_MTIMECMP_VALUE : Fld := ⟨29, 0, 64, .rw, (fun _ => 0xFFFFFFFFFFFFFFFF)⟩
/- SCR_STAT (spec 02). -/
abbrev SCR_STAT_RESTRUCT_GROUP : Fld := ⟨30, 16, 2, .ro, zeroReset⟩
abbrev SCR_STAT_LAST_ERR : Fld := ⟨31, 8, 8, .ro, (fun _ => 0x00)⟩
abbrev SCR_STAT_DONE : Fld := ⟨32, 6, 1, .w1c, zeroReset⟩
abbrev SCR_STAT_PERSISTING : Fld := ⟨33, 5, 1, .ro, zeroReset⟩
abbrev SCR_STAT_SOFT_REJECTED : Fld := ⟨34, 4, 1, .ro, zeroReset⟩
abbrev SCR_STAT_SOFT_ACTIVE : Fld := ⟨35, 3, 1, .ro, zeroReset⟩
abbrev SCR_STAT_RESTRUCT_BUSY : Fld := ⟨36, 2, 1, .ro, zeroReset⟩
abbrev SCR_STAT_APPLYING : Fld := ⟨37, 1, 1, .ro, zeroReset⟩
abbrev SCR_STAT_LOADED : Fld := ⟨38, 0, 1, .ro, zeroReset⟩
/- SCR_CMD (spec 02). -/
abbrev SCR_CMD_PERSIST : Fld := ⟨39, 1, 1, .wo, zeroReset⟩
abbrev SCR_CMD_APPLY : Fld := ⟨40, 0, 1, .wo, zeroReset⟩
/- SCR_STAGE_LEN (spec 02). -/
abbrev SCR_STAGE_LEN_LEN : Fld := ⟨41, 0, 20, .rw, zeroReset⟩
/- SCR_RESTRUCT (spec 02). -/
abbrev SCR_RESTRUCT_GO : Fld := ⟨42, 31, 1, .w1s, zeroReset⟩
abbrev SCR_RESTRUCT_VARIANT : Fld := ⟨43, 4, 3, .rw, zeroReset⟩
abbrev SCR_RESTRUCT_GROUP : Fld := ⟨44, 0, 2, .rw, zeroReset⟩
/- SCR_VARIANT (spec 02). -/
abbrev SCR_VARIANT_VAR_G3 : Fld := ⟨2003, 12, 3, .rws, zeroReset⟩
abbrev SCR_VARIANT_VAR_G2 : Fld := ⟨2004, 8, 3, .rws, zeroReset⟩
abbrev SCR_VARIANT_VAR_G1 : Fld := ⟨2005, 4, 3, .rws, zeroReset⟩
abbrev SCR_VARIANT_VAR_G0 : Fld := ⟨2006, 0, 3, .rws, zeroReset⟩
/- SCR_LOCK (spec 02). -/
abbrev SCR_LOCK_LOCK : Fld := ⟨45, 0, 1, .w1s, zeroReset⟩
/- SCR_ERR_INFO (spec 02). -/
abbrev SCR_ERR_INFO_RECORD : Fld := ⟨46, 8, 24, .ro, zeroReset⟩
abbrev SCR_ERR_INFO_SECTION : Fld := ⟨47, 0, 8, .ro, zeroReset⟩
/- SCR_APPLY_CNT (spec 02). -/
abbrev SCR_APPLY_CNT_COUNT : Fld := ⟨48, 0, 32, .ro, zeroReset⟩
/- SCR_HARD_DIGEST (spec 02). -/
abbrev SCR_HARD_DIGEST_DIGEST : Fld := ⟨49, 0, 32, .ro, zeroReset⟩
/- SCR_ID (spec 02). -/
abbrev SCR_ID_VALUE : Fld := ⟨50, 0, 32, .ro, zeroReset⟩
/- SCR_VERSION (spec 02). -/
abbrev SCR_VERSION_VALUE : Fld := ⟨51, 0, 32, .ro, zeroReset⟩
/- SCR_SOFT_VERSION (spec 02). -/
abbrev SCR_SOFT_VERSION_VALUE : Fld := ⟨52, 0, 32, .ro, zeroReset⟩
/- PWR_MODE (spec 18). -/
abbrev PWR_MODE_TARGET : Fld := ⟨53, 0, 3, .rw, zeroReset⟩
/- PWR_STAT (spec 18). -/
abbrev PWR_STAT_SAG_WARN_EVT : Fld := ⟨54, 19, 1, .w1c, zeroReset⟩
abbrev PWR_STAT_AVS_FAULT_EVT : Fld := ⟨55, 18, 1, .w1c, zeroReset⟩
abbrev PWR_STAT_ABORT_EVT : Fld := ⟨56, 17, 1, .w1c, zeroReset⟩
abbrev PWR_STAT_TRANS_DONE_EVT : Fld := ⟨57, 16, 1, .w1c, zeroReset⟩
abbrev PWR_STAT_LAST_TARGET : Fld := ⟨58, 8, 3, .ro, zeroReset⟩
abbrev PWR_STAT_LAST_RESULT : Fld := ⟨59, 4, 4, .ro, zeroReset⟩
abbrev PWR_STAT_IN_TRANSITION : Fld := ⟨60, 3, 1, .ro, zeroReset⟩
abbrev PWR_STAT_STATE : Fld := ⟨61, 0, 3, .ro, zeroReset⟩
/- PWR_IRQ_EN (spec 18). -/
abbrev PWR_IRQ_EN_EN : Fld := ⟨62, 16, 4, .rw, zeroReset⟩
/- PWR_REQ (spec 18). -/
abbrev PWR_REQ_REQ : Fld := ⟨63, 31, 1, .w1s, zeroReset⟩
abbrev PWR_REQ_TARGET : Fld := ⟨64, 0, 3, .rw, zeroReset⟩
/- PWR_REQ_ACK (spec 18). -/
abbrev PWR_REQ_ACK_TAKE : Fld := ⟨65, 31, 1, .w1s, zeroReset⟩
abbrev PWR_REQ_ACK_TAKEN_TARGET : Fld := ⟨66, 0, 3, .ro, zeroReset⟩
/- PWR_ENTRY_CFG (spec 18). -/
abbrev PWR_ENTRY_CFG_S1_WAIT_US : Fld := ⟨67, 0, 16, .rw, (fun _ => 1000)⟩
/- PWR_SAG_LOG (spec 18). -/
abbrev PWR_SAG_LOG_LEVEL_MV : Fld := ⟨2200, 16, 16, .ro, zeroReset⟩
abbrev PWR_SAG_LOG_RESET : Fld := ⟨2201, 4, 1, .ro, zeroReset⟩
abbrev PWR_SAG_LOG_RAIL : Fld := ⟨2202, 0, 2, .ro, zeroReset⟩
/- PWR_SUP_CFG (spec 18). -/
abbrev PWR_SUP_CFG_RESET_MV : Fld := ⟨2203, 16, 16, .rw, (fun i => if i < 2 then 70 else if i = 2 then 1620 else 6000)⟩
abbrev PWR_SUP_CFG_WARN_MV : Fld := ⟨2204, 0, 16, .rw, (fun i => if i < 2 then 40 else if i = 2 then 1710 else 7500)⟩
/- PWR_SUP_MV (spec 18). -/
abbrev PWR_SUP_MV_LEVEL : Fld := ⟨2205, 0, 16, .ro, zeroReset⟩
/- PWR_CNT (spec 18). -/
abbrev PWR_CNT_COUNT : Fld := ⟨68, 0, 64, .ro, zeroReset⟩
abbrev PWR_SAG_CNT_COUNT : Fld := ⟨2800, 0, 64, .ro, zeroReset⟩
/- AVS_LOOP_CTL (spec 18). -/
abbrev AVS_LOOP_CTL_LOOP_EN : Fld := ⟨69, 1, 1, .rw, (fun _ => 1)⟩
abbrev AVS_LOOP_CTL_MODE : Fld := ⟨70, 0, 1, .ro, zeroReset⟩
/- AVS_SETPT (spec 18). -/
abbrev AVS_SETPT_DOZE_MV : Fld := ⟨71, 20, 10, .rw, (fun i => if i = 0 then 600 else 700)⟩
abbrev AVS_SETPT_TRIM_MV : Fld := ⟨72, 10, 10, .rw, (fun i => if i = 0 then 720 else 760)⟩
abbrev AVS_SETPT_RUN_MV : Fld := ⟨73, 0, 10, .rw, (fun i => if i = 0 then 780 else 820)⟩
/- AVS_FLOOR (spec 18). -/
abbrev AVS_FLOOR_SRAM_MV : Fld := ⟨74, 16, 10, .ro, zeroReset⟩
abbrev AVS_FLOOR_CORE_MV : Fld := ⟨75, 0, 10, .ro, zeroReset⟩
/- AVS_TIMEOUT (spec 18). -/
abbrev AVS_TIMEOUT_TIMEOUT_US : Fld := ⟨76, 0, 16, .rw, (fun _ => 100)⟩
/- AVS_STAT (spec 18). -/
abbrev AVS_STAT_LOOP_ACTIVE : Fld := ⟨77, 30, 1, .ro, zeroReset⟩
abbrev AVS_STAT_DEGRADED : Fld := ⟨78, 29, 1, .ro, zeroReset⟩
abbrev AVS_STAT_BUSY : Fld := ⟨79, 28, 1, .ro, zeroReset⟩
abbrev AVS_STAT_SRAM_MV : Fld := ⟨80, 16, 10, .ro, zeroReset⟩
abbrev AVS_STAT_CORE_MV : Fld := ⟨81, 0, 10, .ro, zeroReset⟩
/- AVS_LOOP (spec 18). -/
abbrev AVS_LOOP_SLACK_HI_PCT : Fld := ⟨82, 24, 8, .rw, (fun _ => 15)⟩
abbrev AVS_LOOP_SLACK_LO_PCT : Fld := ⟨83, 16, 8, .rw, (fun _ => 8)⟩
abbrev AVS_LOOP_PERIOD_US : Fld := ⟨84, 4, 12, .rw, (fun _ => 1000)⟩
abbrev AVS_LOOP_STEP_MV : Fld := ⟨85, 0, 4, .rw, (fun _ => 5)⟩
/- AVS_LEGACY (spec 18). -/
abbrev AVS_LEGACY_ASSIST : Fld := ⟨86, 8, 8, .ro, zeroReset⟩
abbrev AVS_LEGACY_BIAS : Fld := ⟨87, 0, 8, .ro, zeroReset⟩
/- AVS_CNT (spec 18). -/
abbrev AVS_CNT_COUNT : Fld := ⟨88, 0, 64, .ro, zeroReset⟩
/- BLT_CTL (spec 21). -/
abbrev BLT_CTL_CNT_CLR : Fld := ⟨89, 31, 1, .wo, zeroReset⟩
abbrev BLT_CTL_LOG_CLR : Fld := ⟨90, 30, 1, .wo, zeroReset⟩
/- BLT_STAT (spec 21). -/
abbrev BLT_STAT_LOST_EVT : Fld := ⟨91, 18, 1, .w1c, zeroReset⟩
abbrev BLT_STAT_SEVERE_EVT : Fld := ⟨92, 17, 1, .w1c, zeroReset⟩
abbrev BLT_STAT_NOTE_EVT : Fld := ⟨93, 16, 1, .w1c, zeroReset⟩
abbrev BLT_STAT_QUEUED : Fld := ⟨94, 0, 7, .ro, zeroReset⟩
/- BLT_LOG_HEAD (spec 21). -/
abbrev BLT_LOG_HEAD_WRAPPED : Fld := ⟨95, 31, 1, .ro, zeroReset⟩
abbrev BLT_LOG_HEAD_HEAD : Fld := ⟨96, 0, 8, .ro, zeroReset⟩
/- BLT_FLT_CTL (spec 21). -/
abbrev BLT_FLT_CTL_ABSENT_MS : Fld := ⟨2206, 16, 16, .rw, (fun _ => 500)⟩
abbrev BLT_FLT_CTL_FORCE : Fld := ⟨2207, 1, 1, .rw, zeroReset⟩
abbrev BLT_FLT_CTL_HEARTBEAT : Fld := ⟨2208, 0, 1, .rw, zeroReset⟩
/- BLT_FLT_STAT (spec 21). -/
abbrev BLT_FLT_STAT_FORCE : Fld := ⟨2209, 12, 1, .ro, zeroReset⟩
abbrev BLT_FLT_STAT_ABSENT : Fld := ⟨2210, 11, 1, .ro, zeroReset⟩
abbrev BLT_FLT_STAT_RECOVERY : Fld := ⟨2211, 10, 1, .ro, zeroReset⟩
abbrev BLT_FLT_STAT_RAIL : Fld := ⟨2212, 9, 1, .ro, zeroReset⟩
abbrev BLT_FLT_STAT_TERMINAL : Fld := ⟨2213, 8, 1, .ro, zeroReset⟩
abbrev BLT_FLT_STAT_BEATING : Fld := ⟨2214, 1, 1, .ro, zeroReset⟩
abbrev BLT_FLT_STAT_FAULT : Fld := ⟨2215, 0, 1, .ro, zeroReset⟩
/- BLT_CNT (spec 21). -/
abbrev BLT_CNT_COUNT : Fld := ⟨97, 0, 64, .ro, zeroReset⟩
/- BLT_SRC_CFG (spec 21). -/
abbrev BLT_SRC_CFG_CLASS : Fld := ⟨98, 30, 2, .rwl, bltDefaultClass⟩
abbrev BLT_SRC_CFG_ESC_ACTION : Fld := ⟨99, 28, 1, .rw, (fun _ => 1)⟩
abbrev BLT_SRC_CFG_ESC_N : Fld := ⟨100, 16, 8, .rw, (fun _ => 16)⟩
abbrev BLT_SRC_CFG_WIN_MS : Fld := ⟨101, 0, 16, .rw, (fun _ => 1000)⟩
/- BLT_SRC_STAT (spec 21). -/
abbrev BLT_SRC_STAT_TOTAL : Fld := ⟨102, 16, 16, .ro, zeroReset⟩
abbrev BLT_SRC_STAT_WIN_CNT : Fld := ⟨103, 8, 8, .ro, zeroReset⟩
abbrev BLT_SRC_STAT_ESC : Fld := ⟨104, 0, 1, .ro, zeroReset⟩
/- BLT_LOG (spec 21). -/
abbrev BLT_LOG_CLASS : Fld := ⟨105, 30, 2, .ro, zeroReset⟩
abbrev BLT_LOG_ESCALATED : Fld := ⟨106, 29, 1, .ro, zeroReset⟩
abbrev BLT_LOG_VALID : Fld := ⟨107, 28, 1, .ro, zeroReset⟩
abbrev BLT_LOG_SOURCE : Fld := ⟨108, 16, 10, .ro, zeroReset⟩
abbrev BLT_LOG_ELEMENT : Fld := ⟨109, 0, 16, .ro, zeroReset⟩
abbrev BLT_LOG_INFO : Fld := ⟨110, 0, 32, .ro, zeroReset⟩
abbrev BLT_LOG_T0_SEC : Fld := ⟨111, 0, 32, .ro, zeroReset⟩
abbrev BLT_LOG_T0_NS : Fld := ⟨112, 0, 32, .ro, zeroReset⟩
/- BLT_PLOG (spec 21). -/
abbrev BLT_PLOG_CLASS : Fld := ⟨2900, 30, 2, .ro, zeroReset⟩
abbrev BLT_PLOG_ESCALATED : Fld := ⟨2901, 29, 1, .ro, zeroReset⟩
abbrev BLT_PLOG_VALID : Fld := ⟨2902, 28, 1, .ro, zeroReset⟩
abbrev BLT_PLOG_SOURCE : Fld := ⟨2903, 16, 10, .ro, zeroReset⟩
abbrev BLT_PLOG_ELEMENT : Fld := ⟨2904, 0, 16, .ro, zeroReset⟩
abbrev BLT_PLOG_INFO : Fld := ⟨2905, 0, 32, .ro, zeroReset⟩
abbrev BLT_PLOG_RTC_SEC : Fld := ⟨2906, 0, 32, .ro, zeroReset⟩
abbrev BLT_PLOG_RTC_FRAC : Fld := ⟨2907, 0, 15, .ro, zeroReset⟩
abbrev BLT_PLOG_STAGE : Fld := ⟨2908, 16, 4, .ro, zeroReset⟩
/- BLT_PLOG_HEAD (spec 21). -/
abbrev BLT_PLOG_HEAD_KEY : Fld := ⟨2909, 24, 8, .wo, zeroReset⟩
abbrev BLT_PLOG_HEAD_CLR : Fld := ⟨2910, 23, 1, .wo, zeroReset⟩
abbrev BLT_PLOG_HEAD_WRAPPED : Fld := ⟨2911, 4, 1, .ro, zeroReset⟩
abbrev BLT_PLOG_HEAD_HEAD : Fld := ⟨2912, 0, 4, .ro, zeroReset⟩
/- ETH_CTL (spec 04). -/
abbrev ETH_CTL_MAX_LEN : Fld := ⟨113, 16, 14, .rw, (fun _ => 16383)⟩
abbrev ETH_CTL_CNT_CLR : Fld := ⟨114, 15, 1, .wo, zeroReset⟩
abbrev ETH_CTL_PEER_OFF : Fld := ⟨115, 8, 1, .rw, zeroReset⟩
abbrev ETH_CTL_LOOPBACK : Fld := ⟨116, 2, 2, .rw, zeroReset⟩
abbrev ETH_CTL_TX_EN : Fld := ⟨117, 1, 1, .rw, zeroReset⟩
abbrev ETH_CTL_RX_EN : Fld := ⟨118, 0, 1, .rw, zeroReset⟩
/- ETH_STAT (spec 04). -/
abbrev ETH_STAT_STORM_EVT : Fld := ⟨119, 19, 1, .w1c, zeroReset⟩
abbrev ETH_STAT_TAPER_EVT : Fld := ⟨120, 18, 1, .w1c, zeroReset⟩
abbrev ETH_STAT_PEER_CHG : Fld := ⟨121, 17, 1, .w1c, zeroReset⟩
abbrev ETH_STAT_LINK_CHG : Fld := ⟨122, 16, 1, .w1c, zeroReset⟩
abbrev ETH_STAT_INBAND_MISMATCH : Fld := ⟨123, 11, 1, .ro, zeroReset⟩
abbrev ETH_STAT_RETRAIN : Fld := ⟨124, 10, 1, .ro, zeroReset⟩
abbrev ETH_STAT_LPI_RX : Fld := ⟨125, 9, 1, .ro, zeroReset⟩
abbrev ETH_STAT_LPI_TX : Fld := ⟨126, 8, 1, .ro, zeroReset⟩
abbrev ETH_STAT_FEC_ACTIVE : Fld := ⟨127, 7, 1, .ro, zeroReset⟩
abbrev ETH_STAT_RATE : Fld := ⟨128, 4, 3, .ro, zeroReset⟩
abbrev ETH_STAT_PEER : Fld := ⟨129, 3, 1, .ro, zeroReset⟩
abbrev ETH_STAT_SIGNAL : Fld := ⟨130, 2, 1, .ro, zeroReset⟩
abbrev ETH_STAT_PCS_LOCK : Fld := ⟨131, 1, 1, .ro, zeroReset⟩
abbrev ETH_STAT_LINK : Fld := ⟨132, 0, 1, .ro, zeroReset⟩
/- ETH_MODE (spec 04). -/
abbrev ETH_MODE_SERDES_PRESET : Fld := ⟨133, 16, 16, .ro, zeroReset⟩
abbrev ETH_MODE_SGMII_SPEED : Fld := ⟨134, 8, 2, .ro, zeroReset⟩
abbrev ETH_MODE_LPI_ALLOWED : Fld := ⟨135, 5, 1, .ro, zeroReset⟩
abbrev ETH_MODE_TAPER_ALLOWED : Fld := ⟨136, 4, 1, .ro, zeroReset⟩
abbrev ETH_MODE_RS_FEC : Fld := ⟨137, 3, 1, .ro, zeroReset⟩
abbrev ETH_MODE_MODE : Fld := ⟨138, 0, 3, .ro, zeroReset⟩
/- ETH_MAC_ADDR (spec 04). -/
abbrev ETH_MAC_ADDR_ADDR : Fld := ⟨139, 0, 48, .rw, zeroReset⟩
/- ETH_SERDES_TX (spec 04). -/
abbrev ETH_SERDES_TX_OVERRIDE : Fld := ⟨140, 31, 1, .rwl, zeroReset⟩
abbrev ETH_SERDES_TX_POST : Fld := ⟨141, 16, 6, .rwl, zeroReset⟩
abbrev ETH_SERDES_TX_MAIN : Fld := ⟨142, 8, 6, .rwl, fun _ => 63⟩
abbrev ETH_SERDES_TX_PRE : Fld := ⟨143, 0, 6, .rwl, zeroReset⟩
/- ETH_SERDES_RX (spec 04). -/
abbrev ETH_SERDES_RX_READAPT : Fld := ⟨144, 31, 1, .wo, zeroReset⟩
abbrev ETH_SERDES_RX_ADAPT_DONE : Fld := ⟨145, 16, 1, .ro, zeroReset⟩
abbrev ETH_SERDES_RX_EYE_W : Fld := ⟨146, 8, 8, .ro, zeroReset⟩
abbrev ETH_SERDES_RX_EYE_H : Fld := ⟨147, 0, 8, .ro, zeroReset⟩
/- ETH_FC_CFG (spec 04). -/
abbrev ETH_FC_CFG_PAUSE_QUANTA : Fld := ⟨148, 16, 16, .rw, zeroReset⟩
abbrev ETH_FC_CFG_PFC_CLASSES : Fld := ⟨149, 8, 8, .rw, zeroReset⟩
abbrev ETH_FC_CFG_RX_EN : Fld := ⟨150, 3, 1, .rw, zeroReset⟩
abbrev ETH_FC_CFG_TX_EN : Fld := ⟨151, 2, 1, .rw, zeroReset⟩
abbrev ETH_FC_CFG_MODE : Fld := ⟨152, 0, 2, .rw, zeroReset⟩
/- ETH_FC_THR (spec 04). -/
abbrev ETH_FC_THR_XON_CELLS : Fld := ⟨153, 16, 16, .rw, zeroReset⟩
abbrev ETH_FC_THR_XOFF_CELLS : Fld := ⟨154, 0, 16, .rw, zeroReset⟩
/- ETH_FC_STORM (spec 04). -/
abbrev ETH_FC_STORM_STORMED : Fld := ⟨155, 24, 8, .ro, zeroReset⟩
abbrev ETH_FC_STORM_PAUSED : Fld := ⟨156, 16, 8, .ro, zeroReset⟩
abbrev ETH_FC_STORM_STORM_MS : Fld := ⟨157, 0, 16, .rw, zeroReset⟩
/- ETH_LPI_CFG (spec 04). -/
abbrev ETH_LPI_CFG_EN : Fld := ⟨158, 31, 1, .rw, zeroReset⟩
abbrev ETH_LPI_CFG_TW_SYS_US : Fld := ⟨159, 16, 12, .rw, (fun _ => 30)⟩
abbrev ETH_LPI_CFG_IDLE_US : Fld := ⟨160, 0, 16, .rw, (fun _ => 100)⟩
/- ETH_TAPER_CTL (spec 04). -/
abbrev ETH_TAPER_CTL_FORCE : Fld := ⟨161, 5, 2, .rw, zeroReset⟩
abbrev ETH_TAPER_CTL_TAPER_CEIL : Fld := ⟨162, 3, 2, .rw, (fun _ => 2)⟩
abbrev ETH_TAPER_CTL_TAPER_FLOOR : Fld := ⟨163, 1, 2, .rw, (fun _ => 1)⟩
abbrev ETH_TAPER_CTL_EN : Fld := ⟨164, 0, 1, .rw, zeroReset⟩
/- ETH_TAPER_THR (spec 04). -/
abbrev ETH_TAPER_THR_WIN_US : Fld := ⟨165, 20, 12, .rw, (fun _ => 1000)⟩
abbrev ETH_TAPER_THR_DOWN_HOLD : Fld := ⟨166, 16, 4, .rw, (fun _ => 8)⟩
abbrev ETH_TAPER_THR_UP_PCT : Fld := ⟨167, 8, 8, .rw, (fun _ => 60)⟩
abbrev ETH_TAPER_THR_DOWN_PCT : Fld := ⟨168, 0, 8, .rw, (fun _ => 20)⟩
/- ETH_TAPER_DWELL (spec 04). -/
abbrev ETH_TAPER_DWELL_UP_CELLS : Fld := ⟨169, 16, 16, .rw, (fun _ => 4096)⟩
abbrev ETH_TAPER_DWELL_DWELL_MS : Fld := ⟨170, 0, 16, .rw, (fun _ => 100)⟩
/- ETH_TAPER_STAT (spec 04). -/
abbrev ETH_TAPER_STAT_STATE : Fld := ⟨171, 8, 3, .ro, zeroReset⟩
abbrev ETH_TAPER_STAT_LAST_REFUSE : Fld := ⟨172, 4, 4, .ro, zeroReset⟩
abbrev ETH_TAPER_STAT_FAILED : Fld := ⟨173, 3, 1, .w1c, zeroReset⟩
abbrev ETH_TAPER_STAT_RATE : Fld := ⟨174, 0, 2, .ro, (fun _ => 2)⟩
/- ETH_WAKE_CFG (spec 04). -/
abbrev ETH_WAKE_CFG_PAT_EN : Fld := ⟨175, 2, 4, .rw, zeroReset⟩
abbrev ETH_WAKE_CFG_LINK_WAKE : Fld := ⟨176, 1, 1, .rw, zeroReset⟩
abbrev ETH_WAKE_CFG_EN : Fld := ⟨177, 0, 1, .rw, zeroReset⟩
/- ETH_WAKE_PAT (spec 04). -/
abbrev ETH_WAKE_PAT_MASK : Fld := ⟨178, 160, 64, .rw, zeroReset⟩
abbrev ETH_WAKE_PAT_DATA : Fld := ⟨179, 96, 64, .rw, zeroReset⟩
abbrev ETH_WAKE_PAT_OFF : Fld := ⟨180, 64, 8, .rw, zeroReset⟩
abbrev ETH_WAKE_PAT_ETYPE : Fld := ⟨181, 48, 16, .rw, zeroReset⟩
abbrev ETH_WAKE_PAT_DA : Fld := ⟨182, 0, 48, .rw, zeroReset⟩
/- ETH_CNT (spec 04). -/
abbrev ETH_CNT_COUNT : Fld := ⟨183, 0, 64, .ro, zeroReset⟩
/- ETH_GRP_IRQ (spec 04). -/
abbrev ETH_GRP_IRQ_PORT : Fld := ⟨184, 0, 16, .ro, zeroReset⟩
/- ETH_GRP_IRQ_EN (spec 04). -/
abbrev ETH_GRP_IRQ_EN_EN : Fld := ⟨185, 0, 16, .rw, zeroReset⟩
/- ETH_TAPER_ETYPE (spec 04). -/
abbrev ETH_TAPER_ETYPE_ETYPE : Fld := ⟨186, 0, 16, .rwl, (fun _ => 0x88B6)⟩
/- LSL_PERS (spec 05). -/
abbrev LSL_PERS_AUX_POL : Fld := ⟨187, 16, 1, .ro, zeroReset⟩
abbrev LSL_PERS_ROLE : Fld := ⟨188, 8, 3, .ro, zeroReset⟩
abbrev LSL_PERS_PERSONALITY : Fld := ⟨189, 0, 2, .ro, zeroReset⟩
/- LSL_GRP_IRQ (spec 05). -/
abbrev LSL_GRP_IRQ_LANE : Fld := ⟨190, 0, 24, .ro, zeroReset⟩
/- LSL_GRP_IRQ_EN (spec 05). -/
abbrev LSL_GRP_IRQ_EN_EN : Fld := ⟨191, 0, 24, .rw, zeroReset⟩
/- LSL_CAN_CTL (spec 05). -/
abbrev LSL_CAN_CTL_CNT_CLR : Fld := ⟨192, 15, 1, .wo, zeroReset⟩
abbrev LSL_CAN_CTL_STBY : Fld := ⟨193, 7, 1, .rw, zeroReset⟩
abbrev LSL_CAN_CTL_ERR_SIG : Fld := ⟨194, 6, 1, .rw, (fun _ => 1)⟩
abbrev LSL_CAN_CTL_PXH : Fld := ⟨195, 5, 1, .rw, (fun _ => 1)⟩
abbrev LSL_CAN_CTL_AUTO_RECOV : Fld := ⟨196, 4, 1, .rw, (fun _ => 1)⟩
abbrev LSL_CAN_CTL_ONESHOT : Fld := ⟨197, 3, 1, .rw, zeroReset⟩
abbrev LSL_CAN_CTL_OPMODE : Fld := ⟨198, 1, 2, .rw, zeroReset⟩
abbrev LSL_CAN_CTL_EN : Fld := ⟨199, 0, 1, .rw, zeroReset⟩
/- LSL_CAN_TDC (spec 05). -/
abbrev LSL_CAN_TDC_EN : Fld := ⟨200, 31, 1, .rw, zeroReset⟩
abbrev LSL_CAN_TDC_TDCO : Fld := ⟨201, 16, 7, .rw, zeroReset⟩
abbrev LSL_CAN_TDC_TDCF : Fld := ⟨202, 0, 7, .rw, zeroReset⟩
/- LSL_CAN_PWM (spec 05). -/
abbrev LSL_CAN_PWM_EN : Fld := ⟨203, 31, 1, .rw, zeroReset⟩
abbrev LSL_CAN_PWM_PWMO : Fld := ⟨204, 16, 6, .rw, zeroReset⟩
abbrev LSL_CAN_PWM_PWML : Fld := ⟨205, 8, 6, .rw, zeroReset⟩
abbrev LSL_CAN_PWM_PWMS : Fld := ⟨206, 0, 6, .rw, zeroReset⟩
/- LSL_CAN_ERR (spec 05). -/
abbrev LSL_CAN_ERR_RECOV_CNT : Fld := ⟨207, 24, 8, .ro, zeroReset⟩
abbrev LSL_CAN_ERR_LEC_DATA : Fld := ⟨208, 23, 1, .ro, zeroReset⟩
abbrev LSL_CAN_ERR_LEC : Fld := ⟨209, 20, 3, .ro, zeroReset⟩
abbrev LSL_CAN_ERR_WARN : Fld := ⟨210, 19, 1, .ro, zeroReset⟩
abbrev LSL_CAN_ERR_STATE : Fld := ⟨211, 17, 2, .ro, (fun _ => 3)⟩
abbrev LSL_CAN_ERR_RP : Fld := ⟨212, 16, 1, .ro, zeroReset⟩
abbrev LSL_CAN_ERR_REC : Fld := ⟨213, 9, 7, .ro, zeroReset⟩
abbrev LSL_CAN_ERR_TEC : Fld := ⟨214, 0, 9, .ro, zeroReset⟩
/- LSL_CAN_STAT (spec 05). -/
abbrev LSL_CAN_STAT_BRD_DONE : Fld := ⟨215, 22, 1, .w1c, zeroReset⟩
abbrev LSL_CAN_STAT_TDC_FAIL_EVT : Fld := ⟨216, 21, 1, .w1c, zeroReset⟩
abbrev LSL_CAN_STAT_RL_DROP_EVT : Fld := ⟨217, 20, 1, .w1c, zeroReset⟩
abbrev LSL_CAN_STAT_PXE_EVT : Fld := ⟨218, 19, 1, .w1c, zeroReset⟩
abbrev LSL_CAN_STAT_WARN_EVT : Fld := ⟨219, 18, 1, .w1c, zeroReset⟩
abbrev LSL_CAN_STAT_PASSIVE_EVT : Fld := ⟨220, 17, 1, .w1c, zeroReset⟩
abbrev LSL_CAN_STAT_BUSOFF_EVT : Fld := ⟨221, 16, 1, .w1c, zeroReset⟩
abbrev LSL_CAN_STAT_TDCV : Fld := ⟨222, 8, 7, .ro, zeroReset⟩
abbrev LSL_CAN_STAT_STBY : Fld := ⟨223, 3, 1, .ro, zeroReset⟩
abbrev LSL_CAN_STAT_TX_PEND : Fld := ⟨224, 2, 1, .ro, zeroReset⟩
abbrev LSL_CAN_STAT_BUS_IDLE : Fld := ⟨225, 1, 1, .ro, zeroReset⟩
abbrev LSL_CAN_STAT_LINK : Fld := ⟨226, 0, 1, .ro, zeroReset⟩
/- LSL_CAN_RECOV (spec 05). -/
abbrev LSL_CAN_RECOV_START : Fld := ⟨227, 0, 1, .wo, zeroReset⟩
/- LSL_CAN_FLT_DEF (spec 05). -/
abbrev LSL_CAN_FLT_DEF_RL : Fld := ⟨228, 12, 4, .rw, zeroReset⟩
abbrev LSL_CAN_FLT_DEF_RL_EN : Fld := ⟨229, 8, 1, .rw, zeroReset⟩
abbrev LSL_CAN_FLT_DEF_TX_REJECT : Fld := ⟨230, 1, 1, .rw, zeroReset⟩
abbrev LSL_CAN_FLT_DEF_RX_REJECT : Fld := ⟨231, 0, 1, .rw, zeroReset⟩
/- LSL_CAN_TM (spec 05). -/
abbrev LSL_CAN_TM_EN : Fld := ⟨232, 31, 1, .rw, zeroReset⟩
abbrev LSL_CAN_TM_RULER : Fld := ⟨233, 24, 3, .rw, zeroReset⟩
abbrev LSL_CAN_TM_FMT : Fld := ⟨234, 20, 2, .rw, zeroReset⟩
abbrev LSL_CAN_TM_PERIOD_MS : Fld := ⟨235, 0, 16, .rw, (fun _ => 100)⟩
/- LSL_CAN_TM_ID (spec 05). -/
abbrev LSL_CAN_TM_ID_IDE : Fld := ⟨236, 29, 1, .rw, zeroReset⟩
abbrev LSL_CAN_TM_ID_ID : Fld := ⟨237, 0, 29, .rw, zeroReset⟩
/- LSL_CAN_WAKE (spec 05). -/
abbrev LSL_CAN_WAKE_EN : Fld := ⟨238, 31, 1, .rw, zeroReset⟩
abbrev LSL_CAN_WAKE_DET : Fld := ⟨239, 30, 1, .rw, zeroReset⟩
abbrev LSL_CAN_WAKE_WUP_TO : Fld := ⟨240, 8, 8, .rw, (fun _ => 32)⟩
abbrev LSL_CAN_WAKE_WUP_FILT : Fld := ⟨241, 0, 8, .rw, (fun _ => 2)⟩
/- LSL_CAN_AUX (spec 05). -/
abbrev LSL_CAN_AUX_ARM_US : Fld := ⟨242, 0, 10, .rw, (fun _ => 50)⟩
/- LSL_CAN_BRD (spec 05). -/
abbrev LSL_CAN_BRD_START : Fld := ⟨243, 31, 1, .w1s, zeroReset⟩
abbrev LSL_CAN_BRD_EDGES : Fld := ⟨244, 16, 8, .ro, zeroReset⟩
abbrev LSL_CAN_BRD_MIN_EDGE : Fld := ⟨245, 0, 16, .ro, zeroReset⟩
/- LSL_CAN_RL (spec 05). -/
abbrev LSL_CAN_RL_TOKENS : Fld := ⟨246, 32, 8, .ro, zeroReset⟩
abbrev LSL_CAN_RL_BURST : Fld := ⟨247, 24, 8, .rw, (fun _ => 1)⟩
abbrev LSL_CAN_RL_PERIOD_US : Fld := ⟨248, 0, 24, .rw, (fun _ => 1000)⟩
/- LSL_CAN_FLT (spec 05). -/
abbrev LSL_CAN_FLT_RL : Fld := ⟨249, 72, 4, .rw, zeroReset⟩
abbrev LSL_CAN_FLT_VALID : Fld := ⟨250, 70, 1, .rw, zeroReset⟩
abbrev LSL_CAN_FLT_RL_EN : Fld := ⟨251, 69, 1, .rw, zeroReset⟩
abbrev LSL_CAN_FLT_REJECT : Fld := ⟨252, 68, 1, .rw, zeroReset⟩
abbrev LSL_CAN_FLT_TX : Fld := ⟨253, 67, 1, .rw, zeroReset⟩
abbrev LSL_CAN_FLT_RX : Fld := ⟨254, 66, 1, .rw, zeroReset⟩
abbrev LSL_CAN_FLT_FMT : Fld := ⟨255, 64, 2, .rw, zeroReset⟩
abbrev LSL_CAN_FLT_MASK : Fld := ⟨256, 32, 29, .rw, zeroReset⟩
abbrev LSL_CAN_FLT_ID : Fld := ⟨257, 0, 29, .rw, zeroReset⟩
/- LSL_CAN_CNT (spec 05). -/
abbrev LSL_CAN_CNT_COUNT : Fld := ⟨258, 0, 64, .ro, zeroReset⟩
/- LSL_CAN_NBT (spec 05). -/
abbrev LSL_CAN_NBT_BRP_M1 : Fld := ⟨259, 27, 5, .rw, zeroReset⟩
abbrev LSL_CAN_NBT_TSEG1_M1 : Fld := ⟨260, 16, 8, .rw, (fun _ => 0x7E)⟩
abbrev LSL_CAN_NBT_TSEG2_M1 : Fld := ⟨261, 8, 7, .rw, (fun _ => 0x1F)⟩
abbrev LSL_CAN_NBT_SJW_M1 : Fld := ⟨262, 0, 7, .rw, (fun _ => 0x1F)⟩
/- LSL_CAN_DBT (spec 05). -/
abbrev LSL_CAN_DBT_BRP_M1 : Fld := ⟨263, 27, 5, .rw, zeroReset⟩
abbrev LSL_CAN_DBT_TSEG1_M1 : Fld := ⟨264, 16, 5, .rw, (fun _ => 0x1E)⟩
abbrev LSL_CAN_DBT_TSEG2_M1 : Fld := ⟨265, 8, 4, .rw, (fun _ => 0x07)⟩
abbrev LSL_CAN_DBT_SJW_M1 : Fld := ⟨266, 0, 4, .rw, (fun _ => 0x07)⟩
/- LSL_CAN_XBT (spec 05). -/
abbrev LSL_CAN_XBT_BRP_M1 : Fld := ⟨267, 27, 5, .rw, zeroReset⟩
abbrev LSL_CAN_XBT_TSEG1_M1 : Fld := ⟨268, 16, 5, .rw, (fun _ => 0x04)⟩
abbrev LSL_CAN_XBT_TSEG2_M1 : Fld := ⟨269, 8, 4, .rw, (fun _ => 0x01)⟩
abbrev LSL_CAN_XBT_SJW_M1 : Fld := ⟨270, 0, 4, .rw, (fun _ => 0x01)⟩
/- LSL_T1S_CTL (spec 06). -/
abbrev LSL_T1S_CTL_CNT_CLR : Fld := ⟨271, 15, 1, .wo, zeroReset⟩
abbrev LSL_T1S_CTL_WAKE_EN : Fld := ⟨272, 2, 1, .rw, zeroReset⟩
abbrev LSL_T1S_CTL_PLCA_EN : Fld := ⟨273, 1, 1, .rw, zeroReset⟩
abbrev LSL_T1S_CTL_EN : Fld := ⟨274, 0, 1, .rw, zeroReset⟩
/- LSL_T1S_PLCA (spec 06). -/
abbrev LSL_T1S_PLCA_MAX_BC : Fld := ⟨275, 24, 8, .rw, zeroReset⟩
abbrev LSL_T1S_PLCA_TO_TIMER : Fld := ⟨276, 16, 8, .rw, (fun _ => 32)⟩
abbrev LSL_T1S_PLCA_NODE_CNT : Fld := ⟨277, 8, 8, .rw, (fun _ => 8)⟩
abbrev LSL_T1S_PLCA_NODE_ID : Fld := ⟨278, 0, 8, .rw, (fun _ => 255)⟩
/- LSL_T1S_BURST (spec 06). -/
abbrev LSL_T1S_BURST_WAKE_FILT : Fld := ⟨279, 8, 8, .rw, zeroReset⟩
abbrev LSL_T1S_BURST_BURST_TMR : Fld := ⟨280, 0, 8, .rw, (fun _ => 128)⟩
/- LSL_T1S_STAT (spec 06). -/
abbrev LSL_T1S_STAT_EXC_COLL_EVT : Fld := ⟨281, 19, 1, .w1c, zeroReset⟩
abbrev LSL_T1S_STAT_DUP_COORD_EVT : Fld := ⟨282, 18, 1, .w1c, zeroReset⟩
abbrev LSL_T1S_STAT_BEACON_BACK_EVT : Fld := ⟨283, 17, 1, .w1c, zeroReset⟩
abbrev LSL_T1S_STAT_BEACON_LOST_EVT : Fld := ⟨284, 16, 1, .w1c, zeroReset⟩
abbrev LSL_T1S_STAT_ED : Fld := ⟨285, 3, 1, .ro, zeroReset⟩
abbrev LSL_T1S_STAT_TX_PEND : Fld := ⟨286, 2, 1, .ro, zeroReset⟩
abbrev LSL_T1S_STAT_MODE : Fld := ⟨287, 1, 1, .ro, zeroReset⟩
abbrev LSL_T1S_STAT_LINK : Fld := ⟨288, 0, 1, .ro, zeroReset⟩
/- LSL_T1S_CNT (spec 06). -/
abbrev LSL_T1S_CNT_COUNT : Fld := ⟨289, 0, 64, .ro, zeroReset⟩
/- LSL_MVB_CTL (spec 06). -/
abbrev LSL_MVB_CTL_CNT_CLR : Fld := ⟨290, 15, 1, .wo, zeroReset⟩
abbrev LSL_MVB_CTL_WAKE_EN : Fld := ⟨291, 2, 1, .rw, zeroReset⟩
abbrev LSL_MVB_CTL_ADMIN_RUN : Fld := ⟨292, 1, 1, .rw, zeroReset⟩
abbrev LSL_MVB_CTL_EN : Fld := ⟨293, 0, 1, .rw, zeroReset⟩
/- LSL_MVB_TIMING (spec 06). -/
abbrev LSL_MVB_TIMING_DE_LAG : Fld := ⟨294, 24, 8, .rw, (fun _ => 40)⟩
abbrev LSL_MVB_TIMING_DE_LEAD : Fld := ⟨295, 16, 8, .rw, (fun _ => 40)⟩
abbrev LSL_MVB_TIMING_REPLY_TO : Fld := ⟨296, 8, 8, .rw, (fun _ => 64)⟩
abbrev LSL_MVB_TIMING_REPLY_DLY : Fld := ⟨297, 0, 8, .rw, (fun _ => 6)⟩
/- LSL_MVB_BP (spec 06). -/
abbrev LSL_MVB_BP_BP_US : Fld := ⟨298, 0, 16, .rw, (fun _ => 1000)⟩
/- LSL_MVB_DEV (spec 06). -/
abbrev LSL_MVB_DEV_SILENCE_MS : Fld := ⟨299, 16, 12, .rw, (fun _ => 100)⟩
abbrev LSL_MVB_DEV_DEV_ADDR : Fld := ⟨300, 0, 12, .rw, zeroReset⟩
/- LSL_MVB_DEVSTAT (spec 06). -/
abbrev LSL_MVB_DEVSTAT_STATUS : Fld := ⟨301, 0, 16, .rw, zeroReset⟩
/- LSL_MVB_STAT (spec 06). -/
abbrev LSL_MVB_STAT_MASTER_CONFLICT_EVT : Fld := ⟨302, 19, 1, .w1c, zeroReset⟩
abbrev LSL_MVB_STAT_OVERRUN_EVT : Fld := ⟨303, 18, 1, .w1c, zeroReset⟩
abbrev LSL_MVB_STAT_TIMEOUT_EVT : Fld := ⟨304, 17, 1, .w1c, zeroReset⟩
abbrev LSL_MVB_STAT_BP_NUM : Fld := ⟨305, 6, 10, .ro, zeroReset⟩
abbrev LSL_MVB_STAT_SPORADIC : Fld := ⟨306, 2, 1, .ro, zeroReset⟩
abbrev LSL_MVB_STAT_ADMIN : Fld := ⟨307, 1, 1, .ro, zeroReset⟩
abbrev LSL_MVB_STAT_LINK : Fld := ⟨308, 0, 1, .ro, zeroReset⟩
/- LSL_MVB_PORT (spec 06). -/
abbrev LSL_MVB_PORT_VALID : Fld := ⟨309, 31, 1, .rw, zeroReset⟩
abbrev LSL_MVB_PORT_DIR : Fld := ⟨310, 30, 1, .rw, zeroReset⟩
abbrev LSL_MVB_PORT_FCODE : Fld := ⟨311, 16, 3, .rw, zeroReset⟩
abbrev LSL_MVB_PORT_ADDR : Fld := ⟨312, 0, 12, .rw, zeroReset⟩
/- LSL_MVB_FRESH (spec 06). -/
abbrev LSL_MVB_FRESH_UPD_CNT : Fld := ⟨313, 16, 8, .ro, zeroReset⟩
abbrev LSL_MVB_FRESH_AGE : Fld := ⟨314, 0, 16, .ro, (fun _ => 0xFFFF)⟩
/- LSL_MVB_CNT (spec 06). -/
abbrev LSL_MVB_CNT_COUNT : Fld := ⟨315, 0, 64, .ro, zeroReset⟩
/- PP_CTL (spec 07). -/
abbrev PP_CTL_CNT_CLR : Fld := ⟨316, 31, 1, .wo, zeroReset⟩
abbrev PP_CTL_SC_FLUSH : Fld := ⟨317, 8, 1, .wo, zeroReset⟩
abbrev PP_CTL_MIRROR_SPEC : Fld := ⟨318, 2, 1, .rw, zeroReset⟩
abbrev PP_CTL_QS_EN : Fld := ⟨319, 0, 1, .rw, zeroReset⟩
/- PP_QS_PORT_EN (spec 07). -/
abbrev PP_QS_PORT_EN_PORT : Fld := ⟨320, 0, 32, .rw, zeroReset⟩
/- PP_QS_EGR_EN (spec 07). -/
abbrev PP_QS_EGR_EN_PORT : Fld := ⟨321, 0, 40, .rw, zeroReset⟩
/- PP_QS_RELEASE (spec 07). -/
abbrev PP_QS_RELEASE_RELEASE : Fld := ⟨322, 0, 8, .rw, (fun _ => 46)⟩
/- PP_STAT (spec 07). -/
abbrev PP_STAT_STRIKE_EVT : Fld := ⟨323, 20, 1, .w1c, zeroReset⟩
abbrev PP_STAT_RECOVERY_EVT : Fld := ⟨324, 19, 1, .w1c, zeroReset⟩
abbrev PP_STAT_SC_PARITY_EVT : Fld := ⟨325, 18, 1, .w1c, zeroReset⟩
abbrev PP_STAT_STENCIL_PARITY_EVT : Fld := ⟨326, 17, 1, .w1c, zeroReset⟩
abbrev PP_STAT_PARSE_ERR_EVT : Fld := ⟨327, 16, 1, .w1c, zeroReset⟩
abbrev PP_STAT_RECOVERING : Fld := ⟨328, 0, 1, .ro, zeroReset⟩
/- PP_IRQ_EN (spec 07). -/
abbrev PP_IRQ_EN_EN : Fld := ⟨329, 16, 5, .rw, zeroReset⟩
/- PP_LAST_STRIKE (spec 07). -/
abbrev PP_LAST_STRIKE_REASON : Fld := ⟨330, 24, 8, .ro, zeroReset⟩
abbrev PP_LAST_STRIKE_EGR_PORT : Fld := ⟨331, 16, 7, .ro, zeroReset⟩
abbrev PP_LAST_STRIKE_IN_PORT : Fld := ⟨332, 8, 7, .ro, zeroReset⟩
/- PP_PCP_MAP (spec 07). -/
abbrev PP_PCP_MAP_CLASS : Fld := ⟨333, 0, 24, .rw, (fun _ => 0xFAC688)⟩
/- PP_TPID (spec 07). -/
abbrev PP_TPID_S_TPID : Fld := ⟨334, 16, 16, .rwl, (fun _ => 0x88A8)⟩
abbrev PP_TPID_C_TPID : Fld := ⟨335, 0, 16, .rwl, (fun _ => 0x8100)⟩
/- PP_MIRROR (spec 07). -/
abbrev PP_MIRROR_EN : Fld := ⟨336, 7, 1, .rw, zeroReset⟩
abbrev PP_MIRROR_PORT : Fld := ⟨337, 0, 7, .rw, zeroReset⟩
/- PP_STENCIL_DEF (spec 07). -/
abbrev PP_STENCIL_DEF_ACTION : Fld := ⟨338, 0, 31, .rw, zeroReset⟩
/- PP_PORT_CFG (spec 07). -/
abbrev PP_PORT_CFG_PVID : Fld := ⟨339, 16, 12, .rw, (fun _ => 1)⟩
abbrev PP_PORT_CFG_DEF_CLASS : Fld := ⟨340, 12, 3, .rw, zeroReset⟩
abbrev PP_PORT_CFG_TRUST_PCP : Fld := ⟨341, 11, 1, .rw, (fun _ => 1)⟩
abbrev PP_PORT_CFG_ACCEPT : Fld := ⟨342, 9, 2, .rw, zeroReset⟩
abbrev PP_PORT_CFG_MIRROR_IN : Fld := ⟨343, 8, 1, .rw, zeroReset⟩
/- PP_DECLINE_CNT (spec 07). -/
abbrev PP_DECLINE_CNT_COUNT : Fld := ⟨344, 0, 64, .ro, zeroReset⟩
/- PP_CNT (spec 07). -/
abbrev PP_CNT_COUNT : Fld := ⟨345, 0, 64, .ro, zeroReset⟩
/- PP_STENCIL_CNT (spec 07). -/
abbrev PP_STENCIL_CNT_COUNT : Fld := ⟨346, 0, 64, .ro, zeroReset⟩
/- TBL_CTL (spec 08). -/
abbrev TBL_CTL_CNT_CLR : Fld := ⟨347, 31, 1, .wo, zeroReset⟩
abbrev TBL_CTL_LEARN_B : Fld := ⟨348, 1, 1, .rw, (fun _ => 1)⟩
abbrev TBL_CTL_LEARN_A : Fld := ⟨349, 0, 1, .rw, (fun _ => 1)⟩
/- TBL_CMD (spec 08). -/
abbrev TBL_CMD_BUMP : Fld := ⟨350, 0, 1, .wo, zeroReset⟩
/- TBL_EPOCH (spec 08). -/
abbrev TBL_EPOCH_EPOCH : Fld := ⟨351, 0, 32, .ro, zeroReset⟩
/- TBL_DRAIN_TARGET (spec 08). -/
abbrev TBL_DRAIN_TARGET_TARGET : Fld := ⟨352, 0, 32, .rw, zeroReset⟩
/- TBL_DRAIN (spec 08). -/
abbrev TBL_DRAIN_OLDEST : Fld := ⟨353, 0, 32, .ro, zeroReset⟩
/- TBL_STAT (spec 08). -/
abbrev TBL_STAT_BUF_FULL_EVT : Fld := ⟨354, 25, 1, .w1c, zeroReset⟩
abbrev TBL_STAT_PARITY_EVT : Fld := ⟨355, 24, 1, .w1c, zeroReset⟩
abbrev TBL_STAT_INSERT_FAIL_EVT : Fld := ⟨356, 23, 1, .w1c, zeroReset⟩
abbrev TBL_STAT_DRAIN_DONE_EVT : Fld := ⟨357, 22, 1, .w1c, zeroReset⟩
abbrev TBL_STAT_LN_OVF_EVT : Fld := ⟨358, 21, 1, .w1c, zeroReset⟩
abbrev TBL_STAT_LN_EVT : Fld := ⟨359, 20, 1, .w1c, zeroReset⟩
abbrev TBL_STAT_BUMP_HELD : Fld := ⟨360, 1, 1, .ro, zeroReset⟩
abbrev TBL_STAT_APPLYING : Fld := ⟨361, 0, 1, .ro, zeroReset⟩
/- TBL_IRQ_EN (spec 08). -/
abbrev TBL_IRQ_EN_EN : Fld := ⟨362, 20, 6, .rw, zeroReset⟩
/- TBL_BUF (spec 08). -/
abbrev TBL_BUF_UNAPPLIED : Fld := ⟨363, 16, 12, .ro, zeroReset⟩
abbrev TBL_BUF_PENDING : Fld := ⟨364, 0, 12, .ro, zeroReset⟩
/- TBL_FDB_AGE_CFG (spec 08). -/
abbrev TBL_FDB_AGE_CFG_PERIOD_S : Fld := ⟨365, 0, 16, .rw, (fun _ => 100)⟩
/- TBL_FDB_STAT (spec 08). -/
abbrev TBL_FDB_STAT_STASH : Fld := ⟨366, 24, 7, .ro, zeroReset⟩
abbrev TBL_FDB_STAT_ENTRIES : Fld := ⟨367, 0, 17, .ro, zeroReset⟩
/- TBL_ROUTER_MAC (spec 08). -/
abbrev TBL_ROUTER_MAC_ADDR : Fld := ⟨368, 0, 48, .rw, zeroReset⟩
/- TBL_RT_CFG (spec 08). -/
abbrev TBL_RT_CFG_MISS_TRAP : Fld := ⟨369, 12, 1, .rw, zeroReset⟩
abbrev TBL_RT_CFG_TTL_TRAP : Fld := ⟨370, 8, 1, .rw, zeroReset⟩
abbrev TBL_RT_CFG_CPU_QUEUE : Fld := ⟨371, 0, 5, .rw, zeroReset⟩
/- TBL_NAT_PORT (spec 08). -/
abbrev TBL_NAT_PORT_OUTSIDE : Fld := ⟨372, 0, 67, .rw, zeroReset⟩
/- TBL_OP_FAIL (spec 08). -/
abbrev TBL_OP_FAIL_PIPE : Fld := ⟨373, 63, 1, .ro, zeroReset⟩
abbrev TBL_OP_FAIL_VID : Fld := ⟨374, 48, 12, .ro, zeroReset⟩
abbrev TBL_OP_FAIL_MAC : Fld := ⟨375, 0, 48, .ro, zeroReset⟩
/- TBL_PAR_LOG (spec 08). -/
abbrev TBL_PAR_LOG_TABLE_ID : Fld := ⟨376, 24, 8, .ro, zeroReset⟩
abbrev TBL_PAR_LOG_INDEX : Fld := ⟨377, 0, 17, .ro, zeroReset⟩
/- TBL_LN_BASE (spec 08). -/
abbrev TBL_LN_BASE_ADDR : Fld := ⟨378, 12, 52, .rw, zeroReset⟩
/- TBL_LN_CFG (spec 08). -/
abbrev TBL_LN_CFG_EN : Fld := ⟨379, 31, 1, .rw, zeroReset⟩
abbrev TBL_LN_CFG_TARGET : Fld := ⟨380, 30, 1, .rw, zeroReset⟩
abbrev TBL_LN_CFG_SIZE_LOG2 : Fld := ⟨381, 16, 5, .rw, (fun _ => 10)⟩
abbrev TBL_LN_CFG_EVENTS : Fld := ⟨382, 0, 4, .rw, (fun _ => 0xF)⟩
/- TBL_LN_HEAD (spec 08). -/
abbrev TBL_LN_HEAD_HEAD : Fld := ⟨383, 0, 16, .ro, zeroReset⟩
/- TBL_LN_TAIL (spec 08). -/
abbrev TBL_LN_TAIL_TAIL : Fld := ⟨384, 0, 16, .rw, zeroReset⟩
/- TBL_PORT_LEARN (spec 08). -/
abbrev TBL_PORT_LEARN_EN : Fld := ⟨385, 31, 1, .rw, (fun _ => 1)⟩
abbrev TBL_PORT_LEARN_LIMIT : Fld := ⟨386, 0, 17, .rw, zeroReset⟩
/- TBL_PORT_LCOUNT (spec 08). -/
abbrev TBL_PORT_LCOUNT_COUNT : Fld := ⟨387, 0, 17, .ro, zeroReset⟩
/- TBL_PORT_MIN_EPOCH (spec 08). -/
abbrev TBL_PORT_MIN_EPOCH_MIN : Fld := ⟨388, 0, 32, .rw, zeroReset⟩
/- TBL_CNT (spec 08). -/
abbrev TBL_CNT_COUNT : Fld := ⟨389, 0, 64, .ro, zeroReset⟩
/- SIG_CTL (spec 11). -/
abbrev SIG_CTL_CNT_CLR : Fld := ⟨390, 31, 1, .wo, zeroReset⟩
abbrev SIG_CTL_MISS_Q : Fld := ⟨391, 8, 5, .rw, zeroReset⟩
abbrev SIG_CTL_MISS_CPU : Fld := ⟨392, 1, 1, .rw, zeroReset⟩
abbrev SIG_CTL_EN : Fld := ⟨393, 0, 1, .rw, zeroReset⟩
/- SIG_STAT (spec 11). -/
abbrev SIG_STAT_RL_DROP_EVT : Fld := ⟨394, 18, 1, .w1c, zeroReset⟩
abbrev SIG_STAT_MISS_EVT : Fld := ⟨395, 17, 1, .w1c, zeroReset⟩
abbrev SIG_STAT_BAD_DEST_EVT : Fld := ⟨396, 16, 1, .w1c, zeroReset⟩
/- SIG_IRQ_EN (spec 11). -/
abbrev SIG_IRQ_EN_EN : Fld := ⟨397, 16, 3, .rw, zeroReset⟩
/- SIG_RT_STAT (spec 11). -/
abbrev SIG_RT_STAT_STASH : Fld := ⟨398, 24, 5, .ro, zeroReset⟩
abbrev SIG_RT_STAT_ENTRIES : Fld := ⟨399, 0, 16, .ro, zeroReset⟩
/- SIG_OP_FAIL (spec 11). -/
abbrev SIG_OP_FAIL_LANE : Fld := ⟨400, 32, 5, .ro, zeroReset⟩
abbrev SIG_OP_FAIL_KCLASS : Fld := ⟨401, 29, 2, .ro, zeroReset⟩
abbrev SIG_OP_FAIL_KEY : Fld := ⟨402, 0, 29, .ro, zeroReset⟩
/- SIG_P65_MAP (spec 11). -/
abbrev SIG_P65_MAP_QUEUE : Fld := ⟨403, 0, 64, .rw, (fun _ => 0x0706050403020100)⟩
/- SIG_MVB_COPY (spec 11). -/
abbrev SIG_MVB_COPY_LANE : Fld := ⟨404, 0, 24, .rw, zeroReset⟩
/- SIG_RL (spec 11). -/
abbrev SIG_RL_TOKENS : Fld := ⟨405, 32, 8, .ro, zeroReset⟩
abbrev SIG_RL_BURST : Fld := ⟨406, 24, 8, .rw, (fun _ => 1)⟩
abbrev SIG_RL_PERIOD_US : Fld := ⟨407, 0, 24, .rw, (fun _ => 1000)⟩
/- SIG_CNT (spec 11). -/
abbrev SIG_CNT_COUNT : Fld := ⟨408, 0, 64, .ro, zeroReset⟩
/- TBL_RED_PAIR (spec 13). -/
abbrev TBL_RED_PAIR_SEQ : Fld := ⟨409, 16, 16, .ro, zeroReset⟩
abbrev TBL_RED_PAIR_MODE : Fld := ⟨410, 0, 2, .rwl, zeroReset⟩
/- TBL_DD_CFG (spec 13). -/
abbrev TBL_DD_CFG_AGE_MS : Fld := ⟨411, 0, 16, .rw, (fun _ => 400)⟩
/- TBL_PIN_GAP (spec 13). -/
abbrev TBL_PIN_GAP_GAP_US : Fld := ⟨412, 0, 20, .rw, (fun _ => 500)⟩
/- TBL_RED_STAT (spec 13). -/
abbrev TBL_RED_STAT_RED_CFG_EVT : Fld := ⟨413, 18, 1, .w1c, zeroReset⟩
abbrev TBL_RED_STAT_AGG_DOWN_EVT : Fld := ⟨414, 17, 1, .w1c, zeroReset⟩
abbrev TBL_RED_STAT_MOVE_EVT : Fld := ⟨415, 16, 1, .w1c, zeroReset⟩
/- TBL_RED_IRQ_EN (spec 13). -/
abbrev TBL_RED_IRQ_EN_EN : Fld := ⟨416, 16, 3, .rw, zeroReset⟩
/- TBL_AGG_CFG (spec 13). -/
abbrev TBL_AGG_CFG_EN : Fld := ⟨417, 31, 1, .rw, zeroReset⟩
abbrev TBL_AGG_CFG_HASH_L3 : Fld := ⟨418, 30, 1, .rw, zeroReset⟩
abbrev TBL_AGG_CFG_N_M1 : Fld := ⟨419, 16, 3, .rw, zeroReset⟩
abbrev TBL_AGG_CFG_SEED : Fld := ⟨420, 0, 16, .rw, zeroReset⟩
abbrev TBL_AGG_CFG_MEMBERS : Fld := ⟨421, 32, 48, .rw, zeroReset⟩
/- TBL_AGG_STAT (spec 13). -/
abbrev TBL_AGG_STAT_MOVING : Fld := ⟨422, 16, 9, .ro, zeroReset⟩
abbrev TBL_AGG_STAT_UP : Fld := ⟨423, 0, 8, .ro, zeroReset⟩
/- TBL_RED_CNT (spec 13). -/
abbrev TBL_RED_CNT_COUNT : Fld := ⟨424, 0, 64, .ro, zeroReset⟩
/- QUE_CTL (spec 09). -/
abbrev QUE_CTL_CNT_CLR : Fld := ⟨425, 31, 1, .wo, zeroReset⟩
abbrev QUE_CTL_AUDIT : Fld := ⟨426, 1, 1, .wo, zeroReset⟩
/- QUE_STAT (spec 09). -/
abbrev QUE_STAT_AUDIT_DONE_EVT : Fld := ⟨427, 22, 1, .w1c, zeroReset⟩
abbrev QUE_STAT_FIFO_ABORT_EVT : Fld := ⟨428, 21, 1, .w1c, zeroReset⟩
abbrev QUE_STAT_MIN_REFUSED_EVT : Fld := ⟨429, 20, 1, .w1c, zeroReset⟩
abbrev QUE_STAT_RSV_FULL_EVT : Fld := ⟨430, 19, 1, .w1c, zeroReset⟩
abbrev QUE_STAT_RSV_UNCORR_EVT : Fld := ⟨431, 18, 1, .w1c, zeroReset⟩
abbrev QUE_STAT_CELL_UNCORR_EVT : Fld := ⟨432, 17, 1, .w1c, zeroReset⟩
abbrev QUE_STAT_LINK_PARITY_EVT : Fld := ⟨433, 16, 1, .w1c, zeroReset⟩
abbrev QUE_STAT_AUDITING : Fld := ⟨434, 0, 1, .ro, zeroReset⟩
/- QUE_IRQ_EN (spec 09). -/
abbrev QUE_IRQ_EN_EN : Fld := ⟨435, 16, 7, .rw, zeroReset⟩
/- QUE_FLUSH (spec 09). -/
abbrev QUE_FLUSH_GO : Fld := ⟨436, 31, 1, .w1s, zeroReset⟩
abbrev QUE_FLUSH_QUEUE : Fld := ⟨437, 0, 10, .rw, zeroReset⟩
/- QUE_POOL (spec 09). -/
abbrev QUE_POOL_SIZE : Fld := ⟨438, 0, 18, .ro, zeroReset⟩
abbrev QUE_POOL_FREE : Fld := ⟨439, 32, 18, .ro, zeroReset⟩
abbrev QUE_POOL_MIN_SUM : Fld := ⟨440, 64, 18, .ro, zeroReset⟩
abbrev QUE_POOL_UNUSED : Fld := ⟨441, 96, 18, .ro, zeroReset⟩
/- QUE_RECIRC_DROP (spec 09). -/
abbrev QUE_RECIRC_DROP_COUNT : Fld := ⟨442, 0, 64, .ro, zeroReset⟩
/- QUE_PORT_CFG (spec 09). -/
abbrev QUE_PORT_CFG_LINGERING : Fld := ⟨443, 31, 1, .ro, zeroReset⟩
abbrev QUE_PORT_CFG_DOWN_DROP : Fld := ⟨444, 30, 1, .ro, zeroReset⟩
abbrev QUE_PORT_CFG_STALE_FLUSH : Fld := ⟨445, 16, 8, .rw, zeroReset⟩
abbrev QUE_PORT_CFG_PORT_LINGER : Fld := ⟨446, 0, 10, .rw, (fun _ => 50)⟩
/- QUE_SCHED (spec 09). -/
abbrev QUE_SCHED_STRICT : Fld := ⟨447, 0, 8, .rw, (fun _ => 0xFF)⟩
abbrev QUE_SCHED_CBS_EN : Fld := ⟨448, 8, 8, .rw, zeroReset⟩
abbrev QUE_SCHED_WEIGHT : Fld := ⟨449, 32, 64, .rw, (fun _ => 0x0101010101010101)⟩
/- QUE_CBS (spec 09). -/
abbrev QUE_CBS_IDLE_SLOPE : Fld := ⟨450, 0, 21, .rw, zeroReset⟩
abbrev QUE_CBS_CREDIT_HI : Fld := ⟨451, 32, 24, .rw, (fun _ => 32768)⟩
abbrev QUE_CBS_CREDIT : Fld := ⟨452, 64, 32, .ro, zeroReset⟩
/- QUE_CFG (spec 09). -/
abbrev QUE_CFG_DEEP : Fld := ⟨453, 31, 1, .ro, zeroReset⟩
abbrev QUE_CFG_ALPHA : Fld := ⟨454, 24, 4, .rw, (fun _ => 4)⟩
abbrev QUE_CFG_MIN_CELLS : Fld := ⟨455, 0, 18, .rw, zeroReset⟩
abbrev QUE_CFG_MARK_DEPTH : Fld := ⟨456, 32, 26, .rw, zeroReset⟩
abbrev QUE_CFG_DROP_DEPTH : Fld := ⟨457, 64, 26, .rw, (fun _ => 0x3FFFFFF)⟩
/- QUE_DEPTH (spec 09). -/
abbrev QUE_DEPTH_CELLS : Fld := ⟨458, 0, 18, .ro, zeroReset⟩
abbrev QUE_DEPTH_BLOCKS : Fld := ⟨459, 32, 23, .ro, zeroReset⟩
/- QUE_CNT (spec 09). -/
abbrev QUE_CNT_COUNT : Fld := ⟨460, 0, 64, .ro, zeroReset⟩
/- QUE_FIFO_CFG (spec 09). -/
abbrev QUE_FIFO_CFG_FRAMING : Fld := ⟨461, 31, 1, .ro, zeroReset⟩
abbrev QUE_FIFO_CFG_DEEP : Fld := ⟨462, 30, 1, .ro, zeroReset⟩
abbrev QUE_FIFO_CFG_CT_THRESHOLD : Fld := ⟨463, 0, 14, .rw, (fun _ => 256)⟩
/- QUE_FIFO_PROD (spec 09). -/
abbrev QUE_FIFO_PROD_OP : Fld := ⟨464, 30, 2, .wo, zeroReset⟩
abbrev QUE_FIFO_PROD_FLAGS : Fld := ⟨465, 24, 6, .wo, zeroReset⟩
abbrev QUE_FIFO_PROD_TRIM : Fld := ⟨466, 0, 2, .wo, zeroReset⟩
/- QUE_FIFO_DATA (spec 09). -/
abbrev QUE_FIFO_DATA_DATA : Fld := ⟨467, 0, 32, .wo, zeroReset⟩
/- QUE_FIFO_POP (spec 09). -/
abbrev QUE_FIFO_POP_POP : Fld := ⟨468, 0, 1, .wo, zeroReset⟩
/- QUE_FIFO_FLUSH (spec 09). -/
abbrev QUE_FIFO_FLUSH_FLUSH : Fld := ⟨469, 0, 1, .w1s, zeroReset⟩
/- QUE_FIFO_STAT (spec 09). -/
abbrev QUE_FIFO_STAT_OPEN : Fld := ⟨470, 31, 1, .ro, zeroReset⟩
abbrev QUE_FIFO_STAT_HEAD_VISIBLE : Fld := ⟨471, 30, 1, .ro, zeroReset⟩
abbrev QUE_FIFO_STAT_IN_CONS : Fld := ⟨472, 29, 1, .ro, zeroReset⟩
abbrev QUE_FIFO_STAT_LAST_PROD : Fld := ⟨473, 26, 3, .ro, zeroReset⟩
abbrev QUE_FIFO_STAT_PACKETS : Fld := ⟨474, 14, 12, .ro, zeroReset⟩
abbrev QUE_FIFO_STAT_HEAD_AVAIL : Fld := ⟨475, 0, 14, .ro, zeroReset⟩
/- INK_STAT (spec 09). -/
abbrev INK_STAT_FREE_CELLS : Fld := ⟨476, 0, 18, .ro, (fun _ => 131072)⟩
/- INK_SCRUB_CFG (spec 09). -/
abbrev INK_SCRUB_CFG_PERIOD_MS : Fld := ⟨477, 0, 16, .rw, (fun _ => 100)⟩
/- INK_ECC_LOG (spec 09). -/
abbrev INK_ECC_LOG_UNCORR : Fld := ⟨478, 31, 1, .ro, zeroReset⟩
abbrev INK_ECC_LOG_LINK : Fld := ⟨479, 30, 1, .ro, zeroReset⟩
abbrev INK_ECC_LOG_ENTRY : Fld := ⟨480, 29, 1, .ro, zeroReset⟩
abbrev INK_ECC_LOG_CELL : Fld := ⟨481, 0, 17, .ro, zeroReset⟩
/- INK_CNT (spec 09). -/
abbrev INK_CNT_COUNT : Fld := ⟨482, 0, 64, .ro, zeroReset⟩
/- RSV_STAT (spec 09). -/
abbrev RSV_STAT_TRAINED : Fld := ⟨483, 31, 1, .ro, zeroReset⟩
abbrev RSV_STAT_SELF_REFRESH : Fld := ⟨484, 30, 1, .ro, zeroReset⟩
abbrev RSV_STAT_FOUND_MIB : Fld := ⟨485, 0, 16, .ro, zeroReset⟩
/- RSV_CFG (spec 09). -/
abbrev RSV_CFG_SCRIBE_MIB : Fld := ⟨486, 16, 16, .ro, zeroReset⟩
abbrev RSV_CFG_SIZE_MIB : Fld := ⟨487, 0, 16, .ro, zeroReset⟩
/- RSV_BLOCKS (spec 09). -/
abbrev RSV_BLOCKS_TOTAL : Fld := ⟨488, 0, 23, .ro, zeroReset⟩
abbrev RSV_BLOCKS_FREE : Fld := ⟨489, 32, 23, .ro, zeroReset⟩
/- RSV_ECC_LOG (spec 09). -/
abbrev RSV_ECC_LOG_UNCORR : Fld := ⟨490, 31, 1, .ro, zeroReset⟩
abbrev RSV_ECC_LOG_UNIT : Fld := ⟨491, 22, 5, .ro, zeroReset⟩
abbrev RSV_ECC_LOG_BLOCK : Fld := ⟨492, 0, 22, .ro, zeroReset⟩
abbrev RSV_ECC_LOG_QUEUE : Fld := ⟨493, 32, 10, .ro, zeroReset⟩
/- RSV_CNT (spec 09). -/
abbrev RSV_CNT_COUNT : Fld := ⟨494, 0, 64, .ro, zeroReset⟩
/- NIB_CTL (spec 10). -/
abbrev NIB_CTL_CNT_CLR : Fld := ⟨495, 31, 1, .wo, zeroReset⟩
abbrev NIB_CTL_AUTO_RESTART : Fld := ⟨496, 2, 1, .rw, (fun _ => 1)⟩
abbrev NIB_CTL_HALT : Fld := ⟨497, 1, 1, .wo, zeroReset⟩
abbrev NIB_CTL_RUN : Fld := ⟨498, 0, 1, .w1s, zeroReset⟩
/- NIB_STAT (spec 10). -/
abbrev NIB_STAT_PARITY_EVT : Fld := ⟨499, 21, 1, .w1c, zeroReset⟩
abbrev NIB_STAT_RESTART_EVT : Fld := ⟨500, 20, 1, .w1c, zeroReset⟩
abbrev NIB_STAT_EVQ_OVF_EVT : Fld := ⟨501, 19, 1, .w1c, zeroReset⟩
abbrev NIB_STAT_WDOG_EVT : Fld := ⟨502, 18, 1, .w1c, zeroReset⟩
abbrev NIB_STAT_HALT_EVT : Fld := ⟨503, 17, 1, .w1c, zeroReset⟩
abbrev NIB_STAT_ECC_EVT : Fld := ⟨504, 16, 1, .w1c, zeroReset⟩
abbrev NIB_STAT_IN_TRAP : Fld := ⟨505, 7, 1, .ro, zeroReset⟩
abbrev NIB_STAT_STATE : Fld := ⟨506, 0, 3, .ro, zeroReset⟩
/- NIB_IRQ_EN (spec 10). -/
abbrev NIB_IRQ_EN_EN : Fld := ⟨507, 16, 6, .rw, zeroReset⟩
/- NIB_ENTRY (spec 10). -/
abbrev NIB_ENTRY_ADDR : Fld := ⟨508, 1, 15, .rw, zeroReset⟩
/- NIB_PC (spec 10). -/
abbrev NIB_PC_PC : Fld := ⟨509, 0, 32, .ro, zeroReset⟩
/- NIB_WDOG (spec 10). -/
abbrev NIB_WDOG_WDOG_US : Fld := ⟨510, 0, 20, .rw, zeroReset⟩
/- NIB_RESTART (spec 10). -/
abbrev NIB_RESTART_TOTAL : Fld := ⟨511, 8, 8, .ro, zeroReset⟩
abbrev NIB_RESTART_WINDOW : Fld := ⟨512, 0, 8, .ro, zeroReset⟩
/- NIB_EVQ (spec 10). -/
abbrev NIB_EVQ_PEAK : Fld := ⟨513, 8, 7, .ro, zeroReset⟩
abbrev NIB_EVQ_DEPTH : Fld := ⟨514, 0, 7, .ro, zeroReset⟩
/- NIB_DOORBELL (spec 10). -/
abbrev NIB_DOORBELL_VALUE : Fld := ⟨515, 0, 24, .wo, zeroReset⟩
/- NIB_WIN (spec 10). -/
abbrev NIB_WIN_PAGE : Fld := ⟨516, 0, 3, .rw, zeroReset⟩
/- NIB_TIMER (spec 10). -/
abbrev NIB_TIMER_PERIODIC : Fld := ⟨517, 31, 1, .rw, zeroReset⟩
abbrev NIB_TIMER_ARMED : Fld := ⟨518, 30, 1, .ro, zeroReset⟩
abbrev NIB_TIMER_PERIOD_US : Fld := ⟨519, 0, 24, .rw, zeroReset⟩
/- NIB_CNT (spec 10). -/
abbrev NIB_CNT_COUNT : Fld := ⟨520, 0, 64, .ro, zeroReset⟩
/- NIB_FSUB (spec 10). -/
abbrev NIB_FSUB_PROD_EN : Fld := ⟨521, 31, 1, .rw, zeroReset⟩
abbrev NIB_FSUB_CONS_EN : Fld := ⟨522, 30, 1, .rw, zeroReset⟩
abbrev NIB_FSUB_PROD_ENGINE : Fld := ⟨523, 4, 4, .rw, zeroReset⟩
abbrev NIB_FSUB_CONS_ENGINE : Fld := ⟨524, 0, 4, .rw, zeroReset⟩
/- NIB_SS_PAGE (spec 10). -/
abbrev NIB_SS_PAGE_PAGE : Fld := ⟨525, 0, 3, .rw, zeroReset⟩
/- NIB_SS_ECC_LOG (spec 10). -/
abbrev NIB_SS_ECC_LOG_UNCORR : Fld := ⟨526, 31, 1, .ro, zeroReset⟩
abbrev NIB_SS_ECC_LOG_WORD : Fld := ⟨527, 3, 18, .ro, zeroReset⟩
/- NIB_SS_SCRUB (spec 10). -/
abbrev NIB_SS_SCRUB_PERIOD_MS : Fld := ⟨528, 0, 16, .rw, (fun _ => 100)⟩
/- NIB_FAULT_CAUSE (spec 10). -/
abbrev NIB_FAULT_CAUSE_VALUE : Fld := ⟨529, 0, 32, .ro, zeroReset⟩
/- NIB_FAULT_EPC (spec 10). -/
abbrev NIB_FAULT_EPC_VALUE : Fld := ⟨530, 0, 32, .ro, zeroReset⟩
/- NIB_FAULT_TVAL (spec 10). -/
abbrev NIB_FAULT_TVAL_VALUE : Fld := ⟨531, 0, 32, .ro, zeroReset⟩
/- NIB_QSUB (spec 10). -/
abbrev NIB_QSUB_EN : Fld := ⟨532, 31, 1, .rw, zeroReset⟩
abbrev NIB_QSUB_ENGINE : Fld := ⟨533, 0, 4, .rw, zeroReset⟩
/- NIB_MVB_SUB (spec 10). -/
abbrev NIB_MVB_SUB_EN : Fld := ⟨534, 31, 1, .rw, zeroReset⟩
abbrev NIB_MVB_SUB_ENGINE : Fld := ⟨535, 0, 4, .rw, zeroReset⟩
/- RUL_CTL (spec 12). -/
abbrev RUL_CTL_ROLE : Fld := ⟨536, 16, 2, .ro, zeroReset⟩
abbrev RUL_CTL_DOMAIN : Fld := ⟨537, 8, 8, .ro, zeroReset⟩
abbrev RUL_CTL_RUN : Fld := ⟨538, 0, 1, .rw, (fun i => if i = 0 then 1 else 0)⟩
/- RUL_ADJ (spec 12). -/
abbrev RUL_ADJ_ADJ : Fld := ⟨539, 0, 40, .rw, zeroReset⟩
/- RUL_OFFSET (spec 12). -/
abbrev RUL_OFFSET_OFFSET : Fld := ⟨540, 0, 64, .rw, zeroReset⟩
/- RUL_SLEW (spec 12). -/
abbrev RUL_SLEW_SLEW_US : Fld := ⟨541, 0, 24, .rw, zeroReset⟩
/- RUL_CMD (spec 12). -/
abbrev RUL_CMD_OP : Fld := ⟨542, 0, 3, .wo, zeroReset⟩
/- RUL_JUMP_LIMIT (spec 12). -/
abbrev RUL_JUMP_LIMIT_LIMIT_NS : Fld := ⟨543, 0, 32, .rw, (fun _ => 1000)⟩
/- RUL_STAT (spec 12). -/
abbrev RUL_STAT_GUARD_EVT : Fld := ⟨544, 20, 1, .w1c, zeroReset⟩
abbrev RUL_STAT_SLEW_DONE_EVT : Fld := ⟨545, 19, 1, .w1c, zeroReset⟩
abbrev RUL_STAT_STEP_EVT : Fld := ⟨546, 18, 1, .w1c, zeroReset⟩
abbrev RUL_STAT_FAULT_EVT : Fld := ⟨547, 17, 1, .w1c, zeroReset⟩
abbrev RUL_STAT_LAST_REFUSE : Fld := ⟨548, 8, 4, .ro, zeroReset⟩
abbrev RUL_STAT_SLEWING : Fld := ⟨549, 2, 1, .ro, zeroReset⟩
abbrev RUL_STAT_GUARDED : Fld := ⟨550, 1, 1, .ro, zeroReset⟩
abbrev RUL_STAT_RUNNING : Fld := ⟨551, 0, 1, .ro, zeroReset⟩
/- RUL_IRQ_EN (spec 12). -/
abbrev RUL_IRQ_EN_EN : Fld := ⟨552, 17, 4, .rw, zeroReset⟩
/- RUL_GUARD_LOG (spec 12). -/
abbrev RUL_GUARD_LOG_JUMP_NS : Fld := ⟨553, 0, 32, .ro, zeroReset⟩
/- RUL_TC_CFG (spec 12). -/
abbrev RUL_TC_CFG_EN : Fld := ⟨554, 31, 1, .rw, zeroReset⟩
abbrev RUL_TC_CFG_T0_FALLBACK : Fld := ⟨555, 30, 1, .rw, zeroReset⟩
abbrev RUL_TC_CFG_CPU_Q : Fld := ⟨556, 0, 5, .rw, zeroReset⟩
/- RUL_TS_CFG (spec 12). -/
abbrev RUL_TS_CFG_HOLD_MS : Fld := ⟨557, 0, 16, .rw, (fun _ => 1000)⟩
/- RUL_TS_STAT (spec 12). -/
abbrev RUL_TS_STAT_PPS_IN_EVT : Fld := ⟨558, 19, 1, .w1c, zeroReset⟩
abbrev RUL_TS_STAT_ECC_EVT : Fld := ⟨559, 18, 1, .w1c, zeroReset⟩
abbrev RUL_TS_STAT_TXQ_OVF_EVT : Fld := ⟨560, 17, 1, .w1c, zeroReset⟩
abbrev RUL_TS_STAT_NOREC_EVT : Fld := ⟨561, 16, 1, .w1c, zeroReset⟩
abbrev RUL_TS_STAT_FREE : Fld := ⟨562, 0, 14, .ro, (fun _ => 8192)⟩
/- RUL_TS_IRQ_EN (spec 12). -/
abbrev RUL_TS_IRQ_EN_EN : Fld := ⟨563, 16, 4, .rw, zeroReset⟩
/- RUL_PPS_OUT (spec 12). -/
abbrev RUL_PPS_OUT_EN : Fld := ⟨564, 31, 1, .rw, zeroReset⟩
abbrev RUL_PPS_OUT_POL : Fld := ⟨565, 30, 1, .rw, zeroReset⟩
abbrev RUL_PPS_OUT_RULER : Fld := ⟨566, 24, 3, .rw, zeroReset⟩
abbrev RUL_PPS_OUT_WIDTH_10US : Fld := ⟨567, 0, 16, .rw, (fun _ => 10000)⟩
abbrev RUL_PPS_OUT_OFFSET_NS : Fld := ⟨568, 32, 32, .rw, zeroReset⟩
/- RUL_PPS_IN (spec 12). -/
abbrev RUL_PPS_IN_EN : Fld := ⟨569, 31, 1, .rw, zeroReset⟩
abbrev RUL_PPS_IN_EDGE : Fld := ⟨570, 30, 1, .rw, zeroReset⟩
abbrev RUL_PPS_IN_MASK : Fld := ⟨571, 16, 8, .rw, zeroReset⟩
abbrev RUL_PPS_IN_COUNT : Fld := ⟨572, 48, 16, .ro, zeroReset⟩
abbrev RUL_PPS_IN_REC : Fld := ⟨573, 32, 16, .ro, (fun _ => 0xFFFF)⟩
/- RUL_CNT (spec 12). -/
abbrev RUL_CNT_COUNT : Fld := ⟨574, 0, 64, .ro, zeroReset⟩
/- RUL_PORT_CFG (spec 12). -/
abbrev RUL_PORT_CFG_RX_TRIM : Fld := ⟨575, 0, 16, .rw, zeroReset⟩
abbrev RUL_PORT_CFG_TX_TRIM : Fld := ⟨576, 16, 16, .rw, zeroReset⟩
abbrev RUL_PORT_CFG_LINK_DELAY : Fld := ⟨577, 32, 32, .rw, zeroReset⟩
abbrev RUL_PORT_CFG_TC_MODE : Fld := ⟨578, 64, 2, .rw, zeroReset⟩
abbrev RUL_PORT_CFG_TS_ALL : Fld := ⟨579, 66, 1, .rw, zeroReset⟩
abbrev RUL_PORT_CFG_TX_TS : Fld := ⟨580, 67, 1, .rw, zeroReset⟩
/- RUL_TIME (spec 12). -/
abbrev RUL_TIME_SEC : Fld := ⟨581, 48, 48, .ro, zeroReset⟩
abbrev RUL_TIME_NS : Fld := ⟨582, 16, 32, .ro, zeroReset⟩
abbrev RUL_TIME_FRAC : Fld := ⟨583, 0, 16, .ro, zeroReset⟩
/- RUL_SET (spec 12). -/
abbrev RUL_SET_SEC : Fld := ⟨584, 48, 48, .rw, zeroReset⟩
abbrev RUL_SET_NS : Fld := ⟨585, 16, 32, .rw, zeroReset⟩
abbrev RUL_SET_FRAC : Fld := ⟨586, 0, 16, .rw, zeroReset⟩
/- RUL_TXQ_HEAD (spec 12). -/
abbrev RUL_TXQ_HEAD_HEAD : Fld := ⟨587, 0, 10, .ro, zeroReset⟩
/- RUL_TXQ_TAIL (spec 12). -/
abbrev RUL_TXQ_TAIL_TAIL : Fld := ⟨588, 0, 10, .rw, zeroReset⟩
/- KEY_CTL (spec 14). -/
abbrev KEY_CTL_CNT_CLR : Fld := ⟨589, 31, 1, .wo, zeroReset⟩
abbrev KEY_CTL_REMASK_LOG2 : Fld := ⟨590, 0, 5, .rwl, (fun _ => 14)⟩
/- KEY_CMD (spec 14). -/
abbrev KEY_CMD_SRC_SLOT : Fld := ⟨591, 24, 8, .wo, zeroReset⟩
abbrev KEY_CMD_SLOT : Fld := ⟨592, 8, 8, .wo, zeroReset⟩
abbrev KEY_CMD_OP : Fld := ⟨593, 0, 3, .wo, zeroReset⟩
/- KEY_STAT (spec 14). -/
abbrev KEY_STAT_TRNG_FAIL_EVT : Fld := ⟨594, 20, 1, .w1c, zeroReset⟩
abbrev KEY_STAT_TAMPER_EVT : Fld := ⟨595, 19, 1, .w1c, zeroReset⟩
abbrev KEY_STAT_EXHAUST_EVT : Fld := ⟨596, 18, 1, .w1c, zeroReset⟩
abbrev KEY_STAT_REFUSED_EVT : Fld := ⟨597, 17, 1, .w1c, zeroReset⟩
abbrev KEY_STAT_DONE_EVT : Fld := ⟨598, 16, 1, .w1c, zeroReset⟩
abbrev KEY_STAT_LAST_ERR : Fld := ⟨599, 8, 8, .ro, zeroReset⟩
abbrev KEY_STAT_PRODUCTION : Fld := ⟨600, 7, 1, .ro, zeroReset⟩
abbrev KEY_STAT_DEBUG_LOCKED : Fld := ⟨601, 6, 1, .ro, zeroReset⟩
abbrev KEY_STAT_ZEROISED : Fld := ⟨602, 3, 1, .ro, zeroReset⟩
abbrev KEY_STAT_TAMPER_FLAG : Fld := ⟨603, 2, 1, .ro, zeroReset⟩
abbrev KEY_STAT_UNSEALED : Fld := ⟨604, 1, 1, .ro, zeroReset⟩
abbrev KEY_STAT_BUSY : Fld := ⟨605, 0, 1, .ro, zeroReset⟩
/- KEY_IRQ_EN (spec 14). -/
abbrev KEY_IRQ_EN_EN : Fld := ⟨606, 16, 5, .rw, zeroReset⟩
/- KEY_KUC (spec 14). -/
abbrev KEY_KUC_H : Fld := ⟨607, 19, 9, .ro, zeroReset⟩
abbrev KEY_KUC_COUNTER : Fld := ⟨608, 0, 19, .ro, zeroReset⟩
/- KEY_TAMPER_LOG (spec 14). -/
abbrev KEY_TAMPER_LOG_TEMP : Fld := ⟨2007, 4, 1, .rws, zeroReset⟩
abbrev KEY_TAMPER_LOG_CLOCK : Fld := ⟨2008, 3, 1, .rws, zeroReset⟩
abbrev KEY_TAMPER_LOG_VOLT : Fld := ⟨2009, 2, 1, .rws, zeroReset⟩
abbrev KEY_TAMPER_LOG_TAMP1 : Fld := ⟨2010, 1, 1, .rws, zeroReset⟩
abbrev KEY_TAMPER_LOG_TAMP0 : Fld := ⟨2011, 0, 1, .rws, zeroReset⟩
/- KEY_RNG (spec 14). -/
abbrev KEY_RNG_VALUE : Fld := ⟨609, 0, 32, .ro, zeroReset⟩
/- KEY_ATTR (spec 14). -/
abbrev KEY_ATTR_TYPE : Fld := ⟨610, 0, 8, .rw, zeroReset⟩
abbrev KEY_ATTR_ORIGIN : Fld := ⟨611, 8, 8, .rw, zeroReset⟩
abbrev KEY_ATTR_USES : Fld := ⟨612, 16, 16, .rw, zeroReset⟩
abbrev KEY_ATTR_CKPT_LOG2 : Fld := ⟨613, 32, 8, .rw, zeroReset⟩
abbrev KEY_ATTR_LIMIT : Fld := ⟨614, 64, 64, .rw, zeroReset⟩
/- KEY_IDPUB (spec 14). -/
abbrev KEY_IDPUB_BYTES : Fld := ⟨615, 0, 32, .ro, zeroReset⟩
/- KEY_SLOT (spec 14). -/
abbrev KEY_SLOT_ATTR : Fld := ⟨616, 0, 128, .ro, zeroReset⟩
abbrev KEY_SLOT_COUNT : Fld := ⟨617, 128, 64, .ro, zeroReset⟩
abbrev KEY_SLOT_REC_COUNTER : Fld := ⟨618, 192, 32, .ro, zeroReset⟩
abbrev KEY_SLOT_GEN : Fld := ⟨619, 224, 16, .ro, zeroReset⟩
abbrev KEY_SLOT_STATE : Fld := ⟨620, 240, 2, .ro, zeroReset⟩
/- KEY_CNT (spec 14). -/
abbrev KEY_CNT_COUNT : Fld := ⟨621, 0, 64, .ro, zeroReset⟩
/- KEY_NONCE (spec 14). -/
abbrev KEY_NONCE_BYTES : Fld := ⟨622, 0, 32, .rw, zeroReset⟩
/- KEY_LABEL (spec 14). -/
abbrev KEY_LABEL_BYTES : Fld := ⟨623, 0, 32, .rw, zeroReset⟩
/- KEY_FLEET (spec 14). -/
abbrev KEY_FLEET_KEY_ID : Fld := ⟨624, 0, 32, .ro, zeroReset⟩
abbrev KEY_FLEET_REVOKED : Fld := ⟨625, 0, 1, .ro, zeroReset⟩
abbrev KEY_FLEET_PUBKEY : Fld := ⟨626, 0, 768, .ro, zeroReset⟩
/- CIP_CTL (spec 15). -/
abbrev CIP_CTL_CNT_CLR : Fld := ⟨627, 31, 1, .wo, zeroReset⟩
abbrev CIP_CTL_EAPOL_Q : Fld := ⟨628, 0, 5, .rw, zeroReset⟩
/- CIP_STAT (spec 15). -/
abbrev CIP_STAT_UNIT_FAULT_EVT : Fld := ⟨629, 20, 1, .w1c, zeroReset⟩
abbrev CIP_STAT_RESYNC_EVT : Fld := ⟨630, 19, 1, .w1c, zeroReset⟩
abbrev CIP_STAT_SEAL_FAIL_EVT : Fld := ⟨631, 18, 1, .w1c, zeroReset⟩
abbrev CIP_STAT_TX_BLOCK_EVT : Fld := ⟨632, 17, 1, .w1c, zeroReset⟩
abbrev CIP_STAT_LA_DONE_EVT : Fld := ⟨633, 16, 1, .w1c, zeroReset⟩
/- CIP_IRQ_EN (spec 15). -/
abbrev CIP_IRQ_EN_EN : Fld := ⟨634, 16, 5, .rw, zeroReset⟩
/- CIP_SCA (spec 15). -/
abbrev CIP_SCA_DUMMY_MAX : Fld := ⟨635, 4, 3, .rwl, (fun _ => 7)⟩
abbrev CIP_SCA_SHUFFLE : Fld := ⟨636, 1, 1, .rwl, (fun _ => 1)⟩
abbrev CIP_SCA_DUMMY : Fld := ⟨637, 0, 1, .rwl, (fun _ => 1)⟩
/- CIP_LA_CMD (spec 15). -/
abbrev CIP_LA_CMD_SLOT : Fld := ⟨638, 24, 8, .wo, zeroReset⟩
abbrev CIP_LA_CMD_FLEET : Fld := ⟨639, 20, 4, .wo, zeroReset⟩
abbrev CIP_LA_CMD_TAGLEN : Fld := ⟨640, 15, 5, .wo, zeroReset⟩
abbrev CIP_LA_CMD_OP : Fld := ⟨641, 0, 4, .wo, zeroReset⟩
/- CIP_LA_LEN (spec 15). -/
abbrev CIP_LA_LEN_AAD_LEN : Fld := ⟨642, 16, 16, .rw, zeroReset⟩
abbrev CIP_LA_LEN_TEXT_LEN : Fld := ⟨643, 0, 16, .rw, zeroReset⟩
/- CIP_LA_STAT (spec 15). -/
abbrev CIP_LA_STAT_BUSY : Fld := ⟨644, 31, 1, .ro, zeroReset⟩
abbrev CIP_LA_STAT_RESULT : Fld := ⟨645, 8, 8, .ro, zeroReset⟩
/- CIP_PORT_CNT (spec 15). -/
abbrev CIP_PORT_CNT_COUNT : Fld := ⟨646, 0, 64, .ro, zeroReset⟩
/- CIP_SEAL_CNT (spec 15). -/
abbrev CIP_SEAL_CNT_COUNT : Fld := ⟨647, 0, 64, .ro, zeroReset⟩
/- CIP_PORT (spec 15). -/
abbrev CIP_PORT_TX_PROTECT : Fld := ⟨648, 31, 1, .rw, zeroReset⟩
abbrev CIP_PORT_RX_EN : Fld := ⟨649, 30, 1, .rw, zeroReset⟩
abbrev CIP_PORT_ENCRYPT : Fld := ⟨650, 29, 1, .rw, zeroReset⟩
abbrev CIP_PORT_INCLUDE_SCI : Fld := ⟨651, 28, 1, .rw, zeroReset⟩
abbrev CIP_PORT_ES : Fld := ⟨652, 27, 1, .rw, zeroReset⟩
abbrev CIP_PORT_SCB : Fld := ⟨653, 26, 1, .rw, zeroReset⟩
abbrev CIP_PORT_VALIDATE : Fld := ⟨654, 24, 2, .rw, zeroReset⟩
abbrev CIP_PORT_REPLAY_PROTECT : Fld := ⟨655, 23, 1, .rw, zeroReset⟩
abbrev CIP_PORT_CONF_OFFSET : Fld := ⟨656, 21, 2, .rw, zeroReset⟩
abbrev CIP_PORT_SUITE : Fld := ⟨657, 19, 2, .rw, zeroReset⟩
abbrev CIP_PORT_TX_AN : Fld := ⟨658, 16, 2, .rw, zeroReset⟩
abbrev CIP_PORT_SCI : Fld := ⟨659, 0, 64, .rw, zeroReset⟩
abbrev CIP_PORT_PEER_SCI : Fld := ⟨660, 0, 64, .rw, zeroReset⟩
abbrev CIP_PORT_REPLAY_WIN : Fld := ⟨661, 0, 32, .rw, zeroReset⟩
/- CIP_TXSA (spec 15). -/
abbrev CIP_TXSA_VALID : Fld := ⟨662, 31, 1, .rw, zeroReset⟩
abbrev CIP_TXSA_SLOT : Fld := ⟨663, 0, 8, .rw, zeroReset⟩
abbrev CIP_TXSA_PN : Fld := ⟨664, 0, 64, .rw, zeroReset⟩
abbrev CIP_TXSA_SSCI : Fld := ⟨665, 0, 32, .rw, zeroReset⟩
abbrev CIP_TXSA_SALT : Fld := ⟨666, 0, 96, .rw, zeroReset⟩
/- CIP_RXSC (spec 15). -/
abbrev CIP_RXSC_VALID : Fld := ⟨667, 31, 1, .rw, zeroReset⟩
abbrev CIP_RXSC_PORT : Fld := ⟨668, 0, 6, .rw, zeroReset⟩
abbrev CIP_RXSC_SCI : Fld := ⟨669, 0, 64, .rw, zeroReset⟩
/- CIP_RXSA (spec 15). -/
abbrev CIP_RXSA_VALID : Fld := ⟨670, 31, 1, .rw, zeroReset⟩
abbrev CIP_RXSA_SLOT : Fld := ⟨671, 0, 8, .rw, zeroReset⟩
abbrev CIP_RXSA_PN : Fld := ⟨672, 0, 64, .rw, zeroReset⟩
abbrev CIP_RXSA_SSCI : Fld := ⟨673, 0, 32, .rw, zeroReset⟩
abbrev CIP_RXSA_SALT : Fld := ⟨674, 0, 96, .rw, zeroReset⟩
/- CIP_SEAL (spec 15). -/
abbrev CIP_SEAL_VALID : Fld := ⟨675, 31, 1, .rw, zeroReset⟩
abbrev CIP_SEAL_DIR : Fld := ⟨676, 30, 1, .rw, zeroReset⟩
abbrev CIP_SEAL_HOLD : Fld := ⟨677, 29, 1, .rw, zeroReset⟩
abbrev CIP_SEAL_LANE : Fld := ⟨678, 24, 5, .rw, zeroReset⟩
abbrev CIP_SEAL_KCLASS : Fld := ⟨679, 22, 2, .rw, zeroReset⟩
abbrev CIP_SEAL_FV_LEN_M1 : Fld := ⟨680, 20, 2, .rw, zeroReset⟩
abbrev CIP_SEAL_MAC_LEN_M1 : Fld := ⟨681, 16, 4, .rw, zeroReset⟩
abbrev CIP_SEAL_SLOT : Fld := ⟨682, 8, 8, .rw, zeroReset⟩
abbrev CIP_SEAL_PASS_FAIL : Fld := ⟨683, 7, 1, .rw, zeroReset⟩
abbrev CIP_SEAL_KEY : Fld := ⟨684, 0, 29, .rw, zeroReset⟩
abbrev CIP_SEAL_DATA_ID : Fld := ⟨685, 0, 32, .rw, zeroReset⟩
abbrev CIP_SEAL_WINDOW : Fld := ⟨686, 16, 16, .rw, zeroReset⟩
abbrev CIP_SEAL_PLEN : Fld := ⟨687, 0, 12, .rw, zeroReset⟩
abbrev CIP_SEAL_LAST : Fld := ⟨2012, 0, 64, .rws, zeroReset⟩
abbrev CIP_SEAL_FAIL_RUN : Fld := ⟨688, 0, 16, .ro, zeroReset⟩
/- DMA_CTL (spec 16). -/
abbrev DMA_CTL_CNT_CLR : Fld := ⟨689, 31, 1, .wo, zeroReset⟩
abbrev DMA_CTL_CPL_TO_US : Fld := ⟨690, 0, 16, .rw, (fun _ => 100)⟩
/- DMA_PCIE_STAT (spec 16). -/
abbrev DMA_PCIE_STAT_BME : Fld := ⟨691, 8, 1, .ro, zeroReset⟩
abbrev DMA_PCIE_STAT_DSTATE : Fld := ⟨692, 6, 2, .ro, zeroReset⟩
abbrev DMA_PCIE_STAT_WIDTH : Fld := ⟨693, 3, 3, .ro, zeroReset⟩
abbrev DMA_PCIE_STAT_SPEED : Fld := ⟨694, 1, 2, .ro, zeroReset⟩
abbrev DMA_PCIE_STAT_LINK_UP : Fld := ⟨695, 0, 1, .ro, zeroReset⟩
/- DMA_VEC_REARM (spec 16). -/
abbrev DMA_VEC_REARM_VEC : Fld := ⟨696, 0, 64, .w1s, zeroReset⟩
/- DMA_HVEC (spec 16). -/
abbrev DMA_HVEC_EN : Fld := ⟨697, 31, 1, .rw, zeroReset⟩
abbrev DMA_HVEC_VECTOR : Fld := ⟨698, 0, 6, .rw, zeroReset⟩
/- DMA_RING_BASE (spec 16). -/
abbrev DMA_RING_BASE_ADDR : Fld := ⟨699, 12, 52, .rw, zeroReset⟩
/- DMA_RING_CFG (spec 16). -/
abbrev DMA_RING_CFG_EN : Fld := ⟨700, 31, 1, .rw, zeroReset⟩
abbrev DMA_RING_CFG_TARGET : Fld := ⟨701, 30, 1, .rw, zeroReset⟩
abbrev DMA_RING_CFG_RX_HOLD : Fld := ⟨702, 29, 1, .rw, zeroReset⟩
abbrev DMA_RING_CFG_KEEP_FCS : Fld := ⟨703, 28, 1, .rw, zeroReset⟩
abbrev DMA_RING_CFG_SIZE_LOG2 : Fld := ⟨704, 8, 4, .rw, (fun _ => 10)⟩
/- DMA_RING_STAT (spec 16). -/
abbrev DMA_RING_STAT_NOBUF_EVT : Fld := ⟨705, 19, 1, .w1c, zeroReset⟩
abbrev DMA_RING_STAT_HOLD_EVT : Fld := ⟨706, 18, 1, .w1c, zeroReset⟩
abbrev DMA_RING_STAT_ERR_EVT : Fld := ⟨707, 17, 1, .w1c, zeroReset⟩
abbrev DMA_RING_STAT_COMPL_EVT : Fld := ⟨708, 16, 1, .w1c, zeroReset⟩
abbrev DMA_RING_STAT_HOLDING : Fld := ⟨709, 1, 1, .ro, zeroReset⟩
abbrev DMA_RING_STAT_STOPPED : Fld := ⟨710, 0, 1, .ro, zeroReset⟩
/- DMA_RING_IRQ (spec 16). -/
abbrev DMA_RING_IRQ_EN : Fld := ⟨711, 28, 4, .rw, zeroReset⟩
abbrev DMA_RING_IRQ_COAL_US : Fld := ⟨712, 8, 16, .rw, zeroReset⟩
abbrev DMA_RING_IRQ_COAL_CNT : Fld := ⟨713, 0, 8, .rw, (fun _ => 1)⟩
/- DMA_RING_HOLD (spec 16). -/
abbrev DMA_RING_HOLD_HOLD_NS : Fld := ⟨714, 0, 20, .rw, (fun _ => 10000)⟩
/- DMA_RING_CMD (spec 16). -/
abbrev DMA_RING_CMD_RESTART : Fld := ⟨715, 0, 1, .wo, zeroReset⟩
/- DMA_RING_CNT (spec 16). -/
abbrev DMA_RING_CNT_COUNT : Fld := ⟨716, 0, 64, .ro, zeroReset⟩
/- DMA_RX_CAUSE (spec 16). -/
abbrev DMA_RX_CAUSE_RING : Fld := ⟨717, 0, 32, .rc, zeroReset⟩
/- DMA_RX_CAUSE_SNAP (spec 16). -/
abbrev DMA_RX_CAUSE_SNAP_RING : Fld := ⟨718, 0, 32, .ro, zeroReset⟩
/- DMA_TX_CAUSE (spec 16). -/
abbrev DMA_TX_CAUSE_RING : Fld := ⟨719, 0, 32, .rc, zeroReset⟩
/- DMA_TX_CAUSE_SNAP (spec 16). -/
abbrev DMA_TX_CAUSE_SNAP_RING : Fld := ⟨720, 0, 32, .ro, zeroReset⟩
/- DMA_RING_HEAD (spec 16). -/
abbrev DMA_RING_HEAD_HEAD : Fld := ⟨721, 0, 15, .ro, zeroReset⟩
/- DMA_RING_TAIL (spec 16). -/
abbrev DMA_RING_TAIL_TAIL : Fld := ⟨722, 0, 15, .rw, zeroReset⟩
/- BRG_CTL (spec 17). -/
abbrev BRG_CTL_CNT_CLR : Fld := ⟨723, 31, 1, .wo, zeroReset⟩
abbrev BRG_CTL_EN : Fld := ⟨724, 30, 1, .rw, zeroReset⟩
abbrev BRG_CTL_CLASS : Fld := ⟨725, 27, 3, .rw, zeroReset⟩
abbrev BRG_CTL_MY_DEV : Fld := ⟨726, 12, 12, .rwl, zeroReset⟩
abbrev BRG_CTL_VID : Fld := ⟨727, 0, 12, .rw, (fun _ => 1)⟩
/- BRG_ETYPE (spec 17). -/
abbrev BRG_ETYPE_ETYPE : Fld := ⟨728, 0, 16, .rwl, (fun _ => 0x88B5)⟩
/- BRG_MAC_PREFIX (spec 17). -/
abbrev BRG_MAC_PREFIX_PREFIX : Fld := ⟨729, 0, 36, .rwl, (fun _ => 0x025647000)⟩
/- BRG_TO (spec 17). -/
abbrev BRG_TO_WR_US : Fld := ⟨730, 16, 16, .rw, (fun _ => 2000)⟩
abbrev BRG_TO_RD_US : Fld := ⟨731, 0, 16, .rw, (fun _ => 500)⟩
/- BRG_RETRY (spec 17). -/
abbrev BRG_RETRY_RETRY_MAX : Fld := ⟨732, 8, 8, .rw, (fun _ => 16)⟩
abbrev BRG_RETRY_BACKOFF_US : Fld := ⟨733, 0, 8, .rw, (fun _ => 10)⟩
/- BRG_POLL_PERIOD (spec 17). -/
abbrev BRG_POLL_PERIOD_PERIOD_US : Fld := ⟨734, 0, 24, .rw, (fun _ => 10000)⟩
/- BRG_STAT (spec 17). -/
abbrev BRG_STAT_LATE_EVT : Fld := ⟨735, 20, 1, .w1c, zeroReset⟩
abbrev BRG_STAT_WATCH_EVT : Fld := ⟨736, 19, 1, .w1c, zeroReset⟩
abbrev BRG_STAT_UNREACH_EVT : Fld := ⟨737, 18, 1, .w1c, zeroReset⟩
abbrev BRG_STAT_WERR_EVT : Fld := ⟨738, 17, 1, .w1c, zeroReset⟩
abbrev BRG_STAT_INIT_OUT : Fld := ⟨739, 8, 7, .ro, zeroReset⟩
abbrev BRG_STAT_RESP_OUT : Fld := ⟨740, 0, 7, .ro, zeroReset⟩
/- BRG_IRQ_EN (spec 17). -/
abbrev BRG_IRQ_EN_EN : Fld := ⟨741, 17, 4, .rw, zeroReset⟩
/- BRG_RESP_CFG (spec 17). -/
abbrev BRG_RESP_CFG_RESP_EN : Fld := ⟨742, 31, 1, .rwl, zeroReset⟩
abbrev BRG_RESP_CFG_REQUIRE_SECURE : Fld := ⟨743, 30, 1, .rwl, zeroReset⟩
/- BRG_RESP_PORTS (spec 17). -/
abbrev BRG_RESP_PORTS_PORTS : Fld := ⟨744, 0, 40, .rwl, zeroReset⟩
/- BRG_APT (spec 17). -/
abbrev BRG_APT_EN : Fld := ⟨745, 31, 1, .rw, zeroReset⟩
abbrev BRG_APT_POISON : Fld := ⟨746, 30, 1, .w1c, zeroReset⟩
abbrev BRG_APT_BASE : Fld := ⟨747, 12, 5, .rw, zeroReset⟩
abbrev BRG_APT_DEV : Fld := ⟨748, 0, 12, .rw, zeroReset⟩
/- BRG_WATCH_CHG (spec 17). -/
abbrev BRG_WATCH_CHG_CHG : Fld := ⟨749, 0, 64, .w1c, zeroReset⟩
/- BRG_CNT (spec 17). -/
abbrev BRG_CNT_COUNT : Fld := ⟨750, 0, 64, .ro, zeroReset⟩
/- BRG_WERR (spec 17). -/
abbrev BRG_WERR_VALID : Fld := ⟨751, 31, 1, .w1c, zeroReset⟩
abbrev BRG_WERR_INIT : Fld := ⟨752, 24, 2, .ro, zeroReset⟩
abbrev BRG_WERR_STATUS : Fld := ⟨753, 16, 8, .ro, zeroReset⟩
abbrev BRG_WERR_DEV : Fld := ⟨754, 0, 12, .ro, zeroReset⟩
abbrev BRG_WERR_ADDR : Fld := ⟨755, 0, 32, .ro, zeroReset⟩
abbrev BRG_WERR_DATA : Fld := ⟨756, 0, 32, .ro, zeroReset⟩
/- BRG_LATE_DATA (spec 17). -/
abbrev BRG_LATE_DATA_VALID : Fld := ⟨757, 31, 1, .w1c, zeroReset⟩
abbrev BRG_LATE_DATA_OVERWRITTEN : Fld := ⟨758, 30, 1, .ro, zeroReset⟩
abbrev BRG_LATE_DATA_INIT : Fld := ⟨759, 24, 2, .ro, zeroReset⟩
abbrev BRG_LATE_DATA_STATUS : Fld := ⟨760, 16, 8, .ro, zeroReset⟩
abbrev BRG_LATE_DATA_DEV : Fld := ⟨761, 0, 12, .ro, zeroReset⟩
abbrev BRG_LATE_DATA_ADDR : Fld := ⟨762, 0, 32, .ro, zeroReset⟩
abbrev BRG_LATE_DATA_DATA : Fld := ⟨763, 0, 32, .ro, zeroReset⟩
/- BRG_WATCH (spec 17). -/
abbrev BRG_WATCH_EN : Fld := ⟨764, 31, 1, .rw, zeroReset⟩
abbrev BRG_WATCH_UNREACH : Fld := ⟨765, 30, 1, .ro, zeroReset⟩
abbrev BRG_WATCH_DEV : Fld := ⟨766, 0, 12, .rw, zeroReset⟩
abbrev BRG_WATCH_SUMMARY : Fld := ⟨767, 0, 32, .ro, zeroReset⟩
/- NSL_CTL (spec 19). -/
abbrev NSL_CTL_CNT_CLR : Fld := ⟨768, 31, 1, .wo, zeroReset⟩
abbrev NSL_CTL_EN : Fld := ⟨769, 0, 1, .rw, zeroReset⟩
/- NSL_STAT (spec 19). -/
abbrev NSL_STAT_ALL_ASLEEP_EVT : Fld := ⟨770, 20, 1, .w1c, zeroReset⟩
abbrev NSL_STAT_NODE_FULL_EVT : Fld := ⟨771, 19, 1, .w1c, zeroReset⟩
abbrev NSL_STAT_OFFENDER_EVT : Fld := ⟨772, 18, 1, .w1c, zeroReset⟩
abbrev NSL_STAT_NET_WAKE_EVT : Fld := ⟨773, 17, 1, .w1c, zeroReset⟩
abbrev NSL_STAT_NET_SLEEP_EVT : Fld := ⟨774, 16, 1, .w1c, zeroReset⟩
abbrev NSL_STAT_ASLEEP : Fld := ⟨775, 0, 16, .ro, zeroReset⟩
/- NSL_IRQ_EN (spec 19). -/
abbrev NSL_IRQ_EN_EN : Fld := ⟨776, 16, 5, .rw, zeroReset⟩
/- NSL_ETYPE (spec 19). -/
abbrev NSL_ETYPE_ETYPE : Fld := ⟨777, 0, 16, .rwl, (fun _ => 0x88B7)⟩
/- NSL_LOG_HEAD (spec 19). -/
abbrev NSL_LOG_HEAD_WRAPPED : Fld := ⟨778, 31, 1, .ro, zeroReset⟩
abbrev NSL_LOG_HEAD_HEAD : Fld := ⟨779, 0, 5, .ro, zeroReset⟩
/- NSL_EXEMPT (spec 19). -/
abbrev NSL_EXEMPT_EN : Fld := ⟨780, 31, 1, .rw, zeroReset⟩
abbrev NSL_EXEMPT_NET : Fld := ⟨781, 16, 4, .rw, zeroReset⟩
abbrev NSL_EXEMPT_NODE : Fld := ⟨782, 0, 8, .rw, zeroReset⟩
/- NSL_CNT (spec 19). -/
abbrev NSL_CNT_COUNT : Fld := ⟨783, 0, 64, .ro, zeroReset⟩
/- AOC_WAKE_SRC (spec 19). -/
abbrev AOC_WAKE_SRC_SEC : Fld := ⟨2216, 32, 32, .ro, zeroReset⟩
abbrev AOC_WAKE_SRC_VALID : Fld := ⟨2217, 31, 1, .w1c, zeroReset⟩
abbrev AOC_WAKE_SRC_MORE : Fld := ⟨2218, 30, 1, .ro, zeroReset⟩
abbrev AOC_WAKE_SRC_CODE : Fld := ⟨2219, 24, 4, .ro, zeroReset⟩
abbrev AOC_WAKE_SRC_INDEX : Fld := ⟨2220, 16, 8, .ro, zeroReset⟩
abbrev AOC_WAKE_SRC_SUB : Fld := ⟨2221, 0, 15, .ro, zeroReset⟩
/- AOC_WAKE_PEND (spec 19). -/
abbrev AOC_WAKE_PEND_CODE : Fld := ⟨2222, 1, 15, .w1c, zeroReset⟩
/- AOC_WAKE_EN (spec 19). -/
abbrev AOC_WAKE_EN_TAMPER : Fld := ⟨2223, 9, 1, .rw, zeroReset⟩
abbrev AOC_WAKE_EN_RTC : Fld := ⟨2224, 8, 1, .rw, zeroReset⟩
abbrev AOC_WAKE_EN_WAKE_IN : Fld := ⟨2225, 0, 8, .rw, zeroReset⟩
/- AOC_WAKE_IN_CFG (spec 19). -/
abbrev AOC_WAKE_IN_CFG_FILT_MS : Fld := ⟨2226, 16, 8, .rw, (fun _ => 10)⟩
abbrev AOC_WAKE_IN_CFG_POL : Fld := ⟨2227, 0, 8, .rw, zeroReset⟩
/- AOC_RTC (spec 19). -/
abbrev AOC_RTC_SEC : Fld := ⟨2228, 0, 32, .rw, zeroReset⟩
/- AOC_RTC_ALARM (spec 19). -/
abbrev AOC_RTC_ALARM_SEC : Fld := ⟨2229, 0, 32, .rw, zeroReset⟩
/- NSL_NET (spec 19). -/
abbrev NSL_NET_MEMBERS : Fld := ⟨784, 0, 64, .rw, zeroReset⟩
abbrev NSL_NET_EN : Fld := ⟨785, 31, 1, .rw, zeroReset⟩
abbrev NSL_NET_KIND : Fld := ⟨786, 30, 1, .rw, zeroReset⟩
abbrev NSL_NET_ENFORCE : Fld := ⟨787, 29, 1, .rw, zeroReset⟩
abbrev NSL_NET_LOCAL_NEED : Fld := ⟨788, 28, 1, .rw, zeroReset⟩
abbrev NSL_NET_MY_NODE : Fld := ⟨789, 16, 8, .rw, zeroReset⟩
abbrev NSL_NET_WAKE_IN : Fld := ⟨790, 8, 8, .rw, zeroReset⟩
abbrev NSL_NET_LOCAL_FLAGS : Fld := ⟨791, 2, 6, .rw, zeroReset⟩
abbrev NSL_NET_MAX_AWAKE_S : Fld := ⟨792, 16, 16, .rw, (fun _ => 600)⟩
abbrev NSL_NET_ID_BASE : Fld := ⟨793, 0, 11, .rw, zeroReset⟩
abbrev NSL_NET_T_QUIET_MS : Fld := ⟨794, 16, 16, .rw, (fun _ => 1000)⟩
abbrev NSL_NET_T_PRES_MS : Fld := ⟨795, 0, 16, .rw, (fun _ => 100)⟩
abbrev NSL_NET_HOLD_MS : Fld := ⟨796, 16, 16, .rw, (fun _ => 3000)⟩
abbrev NSL_NET_T_WAIT_MS : Fld := ⟨797, 0, 16, .rw, (fun _ => 2000)⟩
abbrev NSL_NET_NEEDERS : Fld := ⟨798, 16, 8, .ro, zeroReset⟩
abbrev NSL_NET_WAKE_IDX : Fld := ⟨799, 8, 8, .ro, zeroReset⟩
abbrev NSL_NET_WAKE_CODE : Fld := ⟨800, 4, 4, .ro, zeroReset⟩
abbrev NSL_NET_HOLDING : Fld := ⟨801, 2, 1, .ro, zeroReset⟩
abbrev NSL_NET_STATE : Fld := ⟨802, 0, 2, .ro, zeroReset⟩
/- NSL_LOG (spec 19). -/
abbrev NSL_LOG_VALID : Fld := ⟨803, 31, 1, .ro, zeroReset⟩
abbrev NSL_LOG_ENFORCED : Fld := ⟨804, 30, 1, .ro, zeroReset⟩
abbrev NSL_LOG_NET : Fld := ⟨805, 24, 4, .ro, zeroReset⟩
abbrev NSL_LOG_NODE : Fld := ⟨806, 16, 8, .ro, zeroReset⟩
abbrev NSL_LOG_FLAGS : Fld := ⟨807, 8, 8, .ro, zeroReset⟩
abbrev NSL_LOG_PORT : Fld := ⟨808, 0, 7, .ro, zeroReset⟩
abbrev NSL_LOG_DURATION_S : Fld := ⟨809, 0, 32, .ro, zeroReset⟩
abbrev NSL_LOG_T0_SEC : Fld := ⟨810, 0, 32, .ro, zeroReset⟩
/- NSL_NODE (spec 19). -/
abbrev NSL_NODE_VALID : Fld := ⟨811, 31, 1, .ro, zeroReset⟩
abbrev NSL_NODE_NEED : Fld := ⟨812, 30, 1, .ro, zeroReset⟩
abbrev NSL_NODE_CAPPED : Fld := ⟨813, 29, 1, .ro, zeroReset⟩
abbrev NSL_NODE_EXEMPT : Fld := ⟨814, 28, 1, .ro, zeroReset⟩
abbrev NSL_NODE_NET : Fld := ⟨815, 24, 4, .ro, zeroReset⟩
abbrev NSL_NODE_NODE : Fld := ⟨816, 16, 8, .ro, zeroReset⟩
abbrev NSL_NODE_FLAGS : Fld := ⟨817, 8, 8, .ro, zeroReset⟩
abbrev NSL_NODE_PORT : Fld := ⟨818, 0, 7, .ro, zeroReset⟩
abbrev NSL_NODE_NEED_S : Fld := ⟨819, 0, 32, .ro, zeroReset⟩
abbrev NSL_NODE_LAST_MS : Fld := ⟨820, 0, 32, .ro, zeroReset⟩
/- LC_GLB_STAT (spec 20). -/
abbrev LC_GLB_STAT_CFG_DEFERRED : Fld := ⟨2230, 2, 1, .ro, zeroReset⟩
abbrev LC_GLB_STAT_ABSENT_SEEN : Fld := ⟨2231, 1, 1, .w1c, zeroReset⟩
abbrev LC_GLB_STAT_CFG_VALID : Fld := ⟨2232, 0, 1, .ro, zeroReset⟩
/- LC_ON (spec 20). -/
abbrev LC_ON_ON : Fld := ⟨2233, 0, 24, .wo, zeroReset⟩
/- LC_OFF (spec 20). -/
abbrev LC_OFF_OFF : Fld := ⟨2234, 0, 24, .wo, zeroReset⟩
/- LC_CMD (spec 20). -/
abbrev LC_CMD_CMD : Fld := ⟨2235, 0, 24, .ro, zeroReset⟩
/- LC_CLR (spec 20). -/
abbrev LC_CLR_CLR : Fld := ⟨2236, 0, 24, .wo, zeroReset⟩
/- LC_EVT (spec 20). -/
abbrev LC_EVT_CH : Fld := ⟨2237, 0, 24, .ro, zeroReset⟩
/- LC_IRQ_EN (spec 20). -/
abbrev LC_IRQ_EN_EN : Fld := ⟨2238, 0, 24, .rw, zeroReset⟩
/- LC_BANK (spec 20). -/
abbrev LC_BANK_VLD_MV : Fld := ⟨2239, 16, 16, .ro, zeroReset⟩
abbrev LC_BANK_INRUSH : Fld := ⟨2240, 0, 6, .ro, zeroReset⟩
/- LC_VLD_DIP (spec 20). -/
abbrev LC_VLD_DIP_DIP_MV : Fld := ⟨2241, 0, 16, .rw, zeroReset⟩
/- LC_CFG_DIGEST (spec 20). -/
abbrev LC_CFG_DIGEST_DIGEST : Fld := ⟨2242, 0, 32, .ro, zeroReset⟩
/- LC_CH_CFG (spec 20). -/
abbrev LC_CH_CFG_PRESENT : Fld := ⟨2243, 31, 1, .ro, zeroReset⟩
abbrev LC_CH_CFG_PENDING : Fld := ⟨2244, 30, 1, .ro, zeroReset⟩
abbrev LC_CH_CFG_XSECT : Fld := ⟨2245, 24, 3, .ro, zeroReset⟩
abbrev LC_CH_CFG_PROFILE : Fld := ⟨2246, 20, 4, .ro, zeroReset⟩
abbrev LC_CH_CFG_RETRY_N : Fld := ⟨2247, 16, 4, .ro, zeroReset⟩
abbrev LC_CH_CFG_P0_MS : Fld := ⟨2248, 0, 16, .ro, zeroReset⟩
/- LC_CH_LIM (spec 20). -/
abbrev LC_CH_LIM_WIRE_MOHM : Fld := ⟨2249, 16, 16, .ro, zeroReset⟩
abbrev LC_CH_LIM_ELIM_MJ : Fld := ⟨2250, 0, 8, .ro, zeroReset⟩
/- LC_CH_BOARD (spec 20). -/
abbrev LC_CH_BOARD_I_RATED_MA : Fld := ⟨2251, 16, 16, .ro, zeroReset⟩
abbrev LC_CH_BOARD_SC_DA : Fld := ⟨2252, 0, 16, .ro, zeroReset⟩
/- LC_CH_SENSE (spec 20). -/
abbrev LC_CH_SENSE_SHUNT_UOHM : Fld := ⟨2253, 16, 16, .ro, zeroReset⟩
abbrev LC_CH_SENSE_OPEN_MA : Fld := ⟨2254, 0, 16, .ro, zeroReset⟩
/- LC_CH_STAT (spec 20). -/
abbrev LC_CH_STAT_REFUSED_EVT : Fld := ⟨2255, 31, 1, .w1c, zeroReset⟩
abbrev LC_CH_STAT_OPEN_EVT : Fld := ⟨2256, 30, 1, .w1c, zeroReset⟩
abbrev LC_CH_STAT_LATCH_EVT : Fld := ⟨2257, 29, 1, .w1c, zeroReset⟩
abbrev LC_CH_STAT_FAULT_EVT : Fld := ⟨2258, 28, 1, .w1c, zeroReset⟩
abbrev LC_CH_STAT_LAST_FAULT : Fld := ⟨2259, 20, 4, .ro, zeroReset⟩
abbrev LC_CH_STAT_FAULT_CNT : Fld := ⟨2260, 16, 4, .ro, zeroReset⟩
abbrev LC_CH_STAT_SHORT_BAT : Fld := ⟨2261, 10, 1, .ro, zeroReset⟩
abbrev LC_CH_STAT_OPEN_OFF : Fld := ⟨2262, 9, 1, .ro, zeroReset⟩
abbrev LC_CH_STAT_OPEN_ON : Fld := ⟨2263, 8, 1, .ro, zeroReset⟩
abbrev LC_CH_STAT_STATE : Fld := ⟨2264, 0, 3, .ro, zeroReset⟩
/- LC_CH_MEAS (spec 20). -/
abbrev LC_CH_MEAS_PEAK_10MA : Fld := ⟨2265, 16, 16, .ro, zeroReset⟩
abbrev LC_CH_MEAS_I_10MA : Fld := ⟨2266, 0, 16, .ro, zeroReset⟩
/- LC_CH_WIRE (spec 20). -/
abbrev LC_CH_WIRE_LT_10UJ : Fld := ⟨2267, 16, 16, .ro, zeroReset⟩
abbrev LC_CH_WIRE_Q_PERMILLE : Fld := ⟨2268, 0, 16, .ro, zeroReset⟩
/- LC_CH_CNT (spec 20). -/
abbrev LC_CH_CNT_COUNT : Fld := ⟨2269, 0, 64, .ro, zeroReset⟩
/- UPD_STAT (spec 22). -/
abbrev UPD_STAT_CONFIRM_DUE_EVT : Fld := ⟨821, 18, 1, .w1c, zeroReset⟩
abbrev UPD_STAT_REFUSED_EVT : Fld := ⟨822, 17, 1, .w1c, zeroReset⟩
abbrev UPD_STAT_DONE_EVT : Fld := ⟨823, 16, 1, .w1c, zeroReset⟩
abbrev UPD_STAT_LAST_ERR : Fld := ⟨824, 8, 8, .ro, zeroReset⟩
abbrev UPD_STAT_ACTIVE_BANK : Fld := ⟨825, 5, 1, .ro, zeroReset⟩
abbrev UPD_STAT_TOMBSTONED : Fld := ⟨826, 4, 1, .ro, zeroReset⟩
abbrev UPD_STAT_AUTHED : Fld := ⟨827, 3, 1, .ro, zeroReset⟩
abbrev UPD_STAT_CONFIRM_PENDING : Fld := ⟨828, 2, 1, .ro, zeroReset⟩
abbrev UPD_STAT_READY : Fld := ⟨829, 1, 1, .ro, zeroReset⟩
abbrev UPD_STAT_BUSY : Fld := ⟨830, 0, 1, .ro, zeroReset⟩
/- UPD_IRQ_EN (spec 22). -/
abbrev UPD_IRQ_EN_EN : Fld := ⟨831, 16, 3, .rw, zeroReset⟩
/- UPD_CMD (spec 22). -/
abbrev UPD_CMD_RESTART : Fld := ⟨832, 31, 1, .wo, zeroReset⟩
abbrev UPD_CMD_INDEX : Fld := ⟨833, 16, 12, .wo, zeroReset⟩
abbrev UPD_CMD_OP : Fld := ⟨834, 0, 4, .wo, zeroReset⟩
/- UPD_LEN (spec 22). -/
abbrev UPD_LEN_LEN : Fld := ⟨835, 0, 19, .rw, zeroReset⟩
/- UPD_PROGRESS (spec 22). -/
abbrev UPD_PROGRESS_PRESENT : Fld := ⟨836, 16, 12, .ro, zeroReset⟩
abbrev UPD_PROGRESS_TOTAL : Fld := ⟨837, 0, 12, .ro, zeroReset⟩
/- UPD_BAD_SHEET (spec 22). -/
abbrev UPD_BAD_SHEET_INDEX : Fld := ⟨838, 0, 12, .ro, zeroReset⟩
/- UPD_CONFIRM_CFG (spec 22). -/
abbrev UPD_CONFIRM_CFG_REMAIN_S : Fld := ⟨839, 16, 16, .ro, zeroReset⟩
abbrev UPD_CONFIRM_CFG_TIMEOUT_S : Fld := ⟨840, 0, 16, .rwl, (fun _ => 30)⟩
/- UPD_ACTIVE_VER (spec 22). -/
abbrev UPD_ACTIVE_VER_VALUE : Fld := ⟨841, 0, 32, .ro, zeroReset⟩
/- UPD_STAGED_VER (spec 22). -/
abbrev UPD_STAGED_VER_VALUE : Fld := ⟨842, 0, 32, .ro, zeroReset⟩
/- UPD_COMMIT_SEQ (spec 22). -/
abbrev UPD_COMMIT_SEQ_VALUE : Fld := ⟨843, 0, 32, .ro, zeroReset⟩
/- UPD_NONCE (spec 22). -/
abbrev UPD_NONCE_BYTES : Fld := ⟨844, 0, 32, .ro, zeroReset⟩
/- UPD_TOMB (spec 22). -/
abbrev UPD_TOMB_BYTES : Fld := ⟨845, 0, 32, .ro, zeroReset⟩

end F
end Sys2Proof.Machine
end

