-- ==== Sys2Proof/Machine/Sparse.lean ====
section
/-! DEFINITION. Sparse indexed storage: what has been written, by strictly rising index, and byte
memories in the same form. -/
namespace Sys2Proof.Machine

/-- Elements of an indexed collection that differ from the default, by strictly rising index. -/
abbrev Tbl (α : Type) := List (Nat × α)

namespace Tbl

/-- The element at `i`, if one is listed. -/
def find {α : Type} : Tbl α → Nat → Option α
  | [], _ => none
  | (j, a) :: t, i => if j = i then some a else find t i

/-- The element at `i`, or the default `d`. -/
def get {α : Type} (t : Tbl α) (d : α) (i : Nat) : α := (find t i).getD d

/-- The collection without the element at `i`. -/
def erase {α : Type} : Tbl α → Nat → Tbl α
  | [], _ => []
  | (j, a) :: t, i => if j = i then erase t i else (j, a) :: erase t i

/-- The collection with `(i, a)` put before the first greater index. -/
def ins {α : Type} : Tbl α → Nat → α → Tbl α
  | [], i, a => [(i, a)]
  | (j, b) :: t, i, a => if i < j then (i, a) :: (j, b) :: t else (j, b) :: ins t i a

/-- The collection with `a` listed at `i`. -/
def put {α : Type} (t : Tbl α) (i : Nat) (a : α) : Tbl α := ins (erase t i) i a

/-- The collection with the element at `i` now `a`; nothing is listed for the default `d`. -/
def set {α : Type} [DecidableEq α] (t : Tbl α) (d : α) (i : Nat) (a : α) : Tbl α :=
  if a = d then erase t i else put t i a

/-- The lowest index from `k` on that is not listed in a collection whose indices rise. -/
def freeFrom {α : Type} : Tbl α → Nat → Nat
  | [], k => k
  | (j, _) :: t, k => if j = k then freeFrom t (k + 1) else if j < k then freeFrom t k else k

/-- The lowest index below `n` that is not listed. -/
def free {α : Type} (t : Tbl α) (n : Nat) : Option Nat :=
  if freeFrom t 0 < n then some (freeFrom t 0) else none

/-- Indices strictly rise. -/
def sorted {α : Type} : Tbl α → Bool
  | [] => true
  | [_] => true
  | a :: b :: t => decide (a.1 < b.1) && sorted (b :: t)

end Tbl

/-- A byte memory: the bytes that have been written, by strictly rising address. -/
abbrev Mem := List Host.Cell

namespace Mem

/-- The byte at `a`; an address that nothing has written reads 0. -/
def byte (m : Mem) (a : Nat) : Byte := Tbl.get m 0 a

/-- The memory after byte `b` is written at `a`: writing 0 lists nothing. -/
def write (m : Mem) (a : Nat) (b : Byte) : Mem := Tbl.set m 0 a b

/-- Bytes `a` to `a + n - 1`. -/
def read (m : Mem) (a : Nat) : Nat → List Byte
  | 0 => []
  | n + 1 => m.byte a :: read m (a + 1) n

/-- The memory after the bytes `bs` are written from `a` on. -/
def writes (m : Mem) (a : Nat) : List Byte → Mem
  | [] => m
  | b :: t => writes (m.write a b) (a + 1) t

/-- The canonical form: strictly rising addresses, and no entry equal to what an unlisted address reads as. -/
def wf (m : Mem) : Bool := Tbl.sorted m && m.all (fun c => decide (c.2 ≠ 0))

end Mem

end Sys2Proof.Machine
end

