-- ==== Sys2Proof/Machine/State.lean ====
section
/-! DEFINITION. The state of the device: every register (the register file), and everything the spec
gives the machine beside its registers, by block; the queue of waiting commands; the ways a step can
stop; and the state right after power-on reset. -/
namespace Sys2Proof.Machine

/-- Why a command stops. No command of this device stops the block: a fault of a unit is a report, an
error answer or a state change (21 R409, 00 R6). The one stop is a register access that software must
not make. -/
inductive Fault where
  /-- Raised by a register access whose offset is no multiple of 4: 00 R4 forbids it to software, and the
  spec gives it no effect. Safe: the model stops where the device does something the spec does not say. -/
  | misalignedAccess
  deriving DecidableEq, Repr

/-- Why a command has no meaning. -/
inductive Refusal where
  /-- Raised by the dispatch alone, for a command without a meaning. Safe: the model stops. -/
  | notModelled (mnemonic : String)
  deriving DecidableEq, Repr

/-! ## The model's own fields, register access and the Ferrule link -/

/-- How an access or command was answered to its initiator (00 R6, 17 R364). -/
inductive AnsKind where
  | done | unsupportedRequest | accessFault | completerAbort | remoteError | refused
  deriving DecidableEq, Repr

/-- The last answer given to an initiator. -/
structure Answer where
  ini : Initiator
  kind : AnsKind
  data : Nat
  deriving DecidableEq, Repr

/-- The bus side of multi-word registers (00 R5): upper words written and held, and upper words latched
by a read of the low word, per initiator and word offset. -/
structure BusSt where
  held : List (Initiator × Nat × Nat)
  latched : List (Initiator × Nat × Nat)
  deriving DecidableEq, Repr

/-- One direction of the Ferrule link (01 R11): the sender's next sequence number, the number the receiver
expects, the unacknowledged transfer and how often it was retransmitted. -/
structure FerruleDir where
  next : Nat
  expect : Nat
  pending : Option FerruleMsg
  retries : Nat
  deriving DecidableEq, Repr

/-- The Ferrule link (01 R11 to R13): both directions, whether the link is up, whether the power die has
entered main-die absent, and whether the link was ever up. -/
structure FerruleSt where
  toPower : FerruleDir
  toMain : FerruleDir
  up : Bool
  absent : Bool
  everUp : Bool
  deriving DecidableEq, Repr

/-- The block-level recoveries (01 R18, 13 R301). -/
inductive Recovery where
  | pipeline (pipe : Nat)
  | engine (n : Nat)
  | restructure (group variant : Nat)
  | macsec (unit : Nat)
  | audit
  | serdes (port : Nat)
  | lane (n : Nat)
  deriving DecidableEq, Repr

/-- The recoveries of one management domain (01 R20): the running one, the waiting ones in the order in which their faults reached the
Blotter, and those whose faults have been detected and are still on their way to it. -/
structure DomRec where
  running : Option Recovery
  waiting : List Recovery
  coming : List Recovery
  deriving DecidableEq, Repr

/-- The recovery sequencer (01 R20). -/
structure RecovSt where
  platform : DomRec
  forwarding : DomRec
  fields : DomRec
  security : DomRec
  deriving DecidableEq, Repr

/-! ## Start-up and resets (03) -/

/-- Where the power die stands (03 R57). -/
inductive PdPhase where
  | off | por | aocStart | run
  deriving DecidableEq, Repr

/-- Where the main die stands (03 R58, R59, R64, R69): unpowered, held in reset, released and waiting for
its PLL, in the boot ROM, in the second stage and later steps, running at STAGE 7, in recovery mode. -/
inductive MainPhase where
  | off | held | released | rom | starting | running | recovery
  deriving DecidableEq, Repr

/-- The power die's part of the start (03 R57, R58; 18 R375, R382): its phase, INH_OUT, failed rail starts,
whether the 1 s to the rail retry runs, the cause the next main-die start captures in GLB_RST_CAUSE,
whether the 10 ms after lowering INH_OUT run, a wake recorded meanwhile, and a sag reset that waits. -/
structure PdSt where
  phase : PdPhase
  inh : Bool
  railFails : Nat
  retryWait : Bool
  cause : Nat
  holdOff : Bool
  wakeHeld : Bool
  sagWait : Bool
  deriving DecidableEq, Repr
/-- The watchdog's down-count (03 R76): not started, running to zero at a tick of `now`, or paused with its count. -/
inductive Wdog where
  | off | runs (ends : Nat) | paused (rest : Nat)
  deriving DecidableEq, Repr

/-- The privilege modes of a Scribe core (03 R71). -/
inductive CoreMode where
  | m | s | u
  deriving DecidableEq, Repr

/-- A Scribe core as it starts (03 R71, R72): it has started, at this address, in this mode, with this satp (Sv39 translation; 0: none). -/
structure CoreSt where
  started : Bool
  at_ : Nat
  mode : CoreMode
  satp : Nat
  deriving DecidableEq, Repr

/-- A core that has not started; PRESUMED: satp is 0 at a start (RISC-V), which 03 does not say. -/
def CoreSt.init : CoreSt := ⟨false, 0, .m, 0⟩

/-! ## Time-stamp points (12) -/

/-- What a time-stamp point finds in a Ruler: its time, what its edges have added, whether it runs, how often it was stepped. -/
structure RulerSnap where
  time : Nat
  ran : Int
  runs : Bool
  steps : Nat
  deriving DecidableEq, Repr

/-- T0 to T7 at one time-stamp point. -/
abbrev Snap := List RulerSnap

/-! ## Frames in the ingress pipelines, and Quickstroke (07) -/

/-- What becomes of a speculative transmission (07 R160 to R162): granted, its first bit on the wire, withdrawn,
struck, or confirmed. -/
inductive SpecSt where
  | granted | sending | withdrawn | struck | confirmed
  deriving DecidableEq, Repr

/-- A speculative transmission (07 R157): the predicted port, class and tag operation, its state, the mirror port
that sends the same frame, if one does (07 R165), the Rulers at the release point (12 R275, R280), and its tick. -/
structure Spec where
  egr : Nat
  cls : Nat
  tagop : Nat
  newVid : Nat
  st : SpecSt
  mirror : Option Nat
  sent : Snap
  since : Nat
  deriving DecidableEq, Repr

/-- A destination of step 4 or a REDIRECT (07 R151): its port, its queue, its tag operation (09 R448), and the aggregation
bucket that chose it (13 R298). -/
structure VDest where
  port : Nat
  q : Nat
  tagop : Nat
  bucket : Option Nat
  deriving DecidableEq, Repr

/-- A counter that a verdict charges (07 R152): of PPx_CNT, TBL_CNT, TBL_RED_CNT, SIG_CNT, or CIP_PORT_CNT of the port. -/
inductive Charge where
  | pp (k : Nat)
  | tbl (k : Nat)
  | red (k : Nat)
  | sig (k : Nat)
  | cip (k : Nat)
  deriving DecidableEq, Repr

/-- The decision part of a verdict (07 R152): the destination set; the queues of lane copies with the key they carry; the
queues of the copies to the CPU and to Nib engines; the mirror port; initial class and class; colour and the policer
charged; the edits of the frame record; whether the frame is dropped, and whether in steps 1 to 3; the veto code of a
denial; the Stencil rule chosen; whether it forbids speculation; whether an edit beyond those of 07 R157 is needed; its
VID; the signal limiter charged; the ring port on which an HSR frame may pass; whether the Ligature bridge takes the frame;
the counters charged; whether the tables of its epoch let its SA be learned (08 R175, R189); the SA that routing writes. -/
structure Verdict where
  dests : List VDest
  lanes : List (Nat × Option Nat)
  queues : List Nat
  mirror : Option Nat
  initCls : Nat
  cls : Nat
  yellow : Bool
  red : Bool
  policer : Option Nat
  routed : Bool
  newVid : Nat
  nat : Nat
  dmac : Nat
  natAddr : Nat
  ipDelta : Nat
  l4Delta : Nat
  drop : Bool
  early : Bool
  denied : Bool
  stencil : Option Nat
  noSpec : Bool
  edits : Bool
  vid : Nat
  lim : Option Nat
  pass : Option Nat
  brg : Bool
  charges : List Charge
  learn : Bool
  smac : Nat
  deriving DecidableEq, Repr

/-- A frame between its arrival and its whole verdict: ingress port; its bytes from the DA to the FCS (in plaintext after
in-line MACsec decryption); whether it has arrived whole, and then whether FCS, length and ICV passed; whether it came
protected; its time-stamp record; its speculative transmission; the decision part with the epoch it used; whether the
integrity part is final; the RX seal entry that checks it, its number in the order of the checks, and the result, when known (15 R333); whether its source asked
for an egress time-stamp record (10 R237); the VID and class that the Ligature bridge gives its own (17 R355); and the Rulers at its
time-stamp point (12 R275), when that came before the frame was whole. -/
structure Flight where
  port : Nat
  bytes : List Byte
  whole : Bool
  fcsOk : Bool
  lenOk : Bool
  icvOk : Bool
  secured : Bool
  tsIndex : Nat
  spec : Option Spec
  verdict : Option Verdict
  epoch : Nat
  integ : Bool
  sealEnt : Option Nat
  sealNo : Nat
  sealRes : Option Bool
  txReq : Bool
  fixed : Option (Nat × Nat)
  snap : Option Snap
  deriving DecidableEq, Repr

/-- A frame that has arrived whole and good. -/
def Flight.good (port : Nat) (bytes : List Byte) (tsIndex : Nat) : Flight :=
  ⟨port, bytes, true, true, true, true, false, tsIndex, none, none, 0, false, none, 0, none, false, none, none⟩

/-- A Stroke cache entry (07 R154, R155). -/
structure Stroke where
  noSpec : Bool
  inPort : Nat
  egr : Nat
  cls : Nat
  nru : Bool
  vid : Nat
  da : Nat
  tagop : Nat
  newVid : Nat
  deriving DecidableEq, Repr

/-! ## Forwarding tables (08) -/

/-- The table sizes that the Scroll's MEMORY section sets (02 R40). -/
structure MemCfg where
  fdbEntries : Nat
  routeV4 : Nat
  routeV6 : Nat
  nat : Nat
  sigroute : Nat
  deriving DecidableEq, Repr

/-- An FDB entry (08 R174). -/
structure FdbEntry where
  mac : Nat
  vid : Nat
  static : Bool
  age : Nat
  sync : Bool
  kind : Nat
  dest : Nat
  deriving DecidableEq, Repr

/-- A route prefix (08 R183). -/
structure Route where
  pfx : Nat
  len : Nat
  nh : Nat
  deriving DecidableEq, Repr

/-- A write in the update buffer (08 R188): the epoch it belongs to, and the operation. -/
structure BufWrite where
  epoch : Nat
  op : TblOp
  deriving DecidableEq, Repr

/-- A learn request (08 R177): the ingress port, and the aggregation group that it belongs to (13 R295). -/
structure LearnReq where
  vid : Nat
  mac : Nat
  port : Nat
  agg : Option Nat
  deriving DecidableEq, Repr
/-- A node of a route trie with bad parity (08 R187): of which table, the address bits that lead to it and their number, and the tick at
which it has been rebuilt. -/
structure BadNode where
  v6 : Bool
  pfx : Nat
  len : Nat
  rebuilt : Nat
  deriving DecidableEq, Repr

/-! ## Inkwell, Reservoir and queues (09) -/

/-- A frame in Inkwell: its bytes from the DA to the FCS as held in its cells, the cells (the first one names the
record), and its frame record (09 R196): queue entries not yet finished; how many of them lie in the shared
pool; colour; ECN_CE; ingress port; ROUTED; epoch; time-stamp record; tag operation and VID; NAT action; new DA
and SA; translated address; checksum adjustments. Beside the record: the verdict class and the TPID of a pushed
tag (09 R448), whether a cell holds an uncorrectable error (09 R218), and whether its source passed an RX seal
entry with HOLD set (15 R329), and whether it asked for an egress time-stamp record (10 R237). -/
structure Frame where
  bytes : List Byte
  cells : List Nat
  copies : Nat
  poolRefs : Nat
  yellow : Bool
  ecnCe : Bool
  inPort : Nat
  routed : Bool
  epoch : Nat
  tsIndex : Nat
  tagop : Nat
  newVid : Nat
  nat : Nat
  dmac : Nat
  smac : Nat
  natAddr : Nat
  ipDelta : Nat
  l4Delta : Nat
  cls : Nat
  tpid : Nat
  damaged : Bool
  sealedOk : Bool
  txReq : Bool
  deriving DecidableEq, Repr

/-- A frame without edits, not yet stored. -/
def Frame.plain (bytes : List Byte) (inPort cls epoch tsIndex : Nat) : Frame :=
  ⟨bytes, [], 0, 0, false, false, inPort, false, epoch, tsIndex, 0, 0, 0, 0, 0, 0, 0, 0, cls, 0x8100, false, false, false⟩

/-- What belongs to one copy of a frame: the tag operation of its destination; whether it takes no edit of 09 R196
(09 R448); the sequenceNr it carries into a PRP or HSR pair (13 R289); the aggregation bucket it counts against
(13 R298); the new key of a lane copy (11 R250), and whether the hardware route made it (11 R249). -/
structure CopyEd where
  tagop : Nat
  plain : Bool
  red : Option Nat
  bucket : Option Nat
  newKey : Option Nat
  route : Bool
  deriving DecidableEq, Repr

/-- A copy without any edit of its own. -/
def CopyEd.none : CopyEd := ⟨0, false, .none, .none, .none, false⟩

/-- A copy to the CPU, to a mirror port or to a Nib engine: the bytes held in Inkwell. -/
def CopyEd.bare : CopyEd := ⟨0, true, .none, .none, .none, false⟩

/-- The queue to which a copy of a frame goes, and the copy's edits. -/
structure Dest where
  q : Nat
  ed : CopyEd
  deriving DecidableEq, Repr

/-- A queue entry (09 R197): its index in the entry RAM, the first cell of its frame, and its copy's edits. -/
structure QEnt where
  entry : Nat
  first : Nat
  ed : CopyEd
  deriving DecidableEq, Repr

/-- A frame of a deep queue's middle: the record and bytes in the Reservoir, and its entry's edits. -/
structure MidFrame where
  frame : Frame
  ed : CopyEd
  deriving DecidableEq, Repr

/-- A Reservoir block (09 R204): its number, FILL, FIRST, SEQ. -/
structure Blk where
  num : Nat
  fill : Nat
  first : Nat
  seq : Nat
  deriving DecidableEq, Repr

/-- A queue (09 R199, R203): the part that its consumer reads; and, for a deep one, the frames wholly written to
the Reservoir, the bytes of the first of them already assembled in the head, the blocks, the tail, the bytes of
the tail's first frame already written to blocks, whether those met damage, the SEQ of the next block written and
of the next block read, whether the oldest block is requested, whether a stall without a free block has been
counted, the head's cells that hold bytes read back of frames not yet in the head, and the bytes of the oldest block that
belong to frames dropped unread (08 R192). A queue that is not deep uses the head only. -/
structure Queue where
  head : List QEnt
  mid : List MidFrame
  midDone : Nat
  blocks : List Blk
  tail : List QEnt
  tailOff : Nat
  tailBad : Bool
  nextSeq : Nat
  expSeq : Nat
  refill : Bool
  stalled : Bool
  asm : List Nat
  skip : Nat
  deriving DecidableEq, Repr

/-- An empty queue. -/
def Queue.init : Queue := ⟨[], [], 0, [], [], 0, false, 0, 0, false, false, [], 0⟩

/-- A FIFO packet (09 R212 to R217): its payload; whether it is open; whether it ended as aborted; its FLAGS; whether it is
in consumption; whether a flush takes it once it has ended or been popped; its Inkwell cells; whether
its bytes in the Reservoir met damage. -/
structure Pkt where
  bytes : List Byte
  isOpen : Bool
  aborted : Bool
  flags : Nat
  inCons : Bool
  flushed : Bool
  cells : List Nat
  bad : Bool
  deriving DecidableEq, Repr

/-- What the producer of a FIFO has: no open packet, an open packet, or a packet that the device aborted, whose
further DATA is discarded until COMMIT or ABORT (09 R216). -/
inductive ProdSt where
  | none | building | dead
  deriving DecidableEq, Repr

/-- A software FIFO (09 R212): its packets, oldest first, the producer's state, and, for a deep one, the packets in
the Reservoir between those of the head and those of the tail, with their blocks, and the head's cells that hold bytes read back of
packets not yet in the head. -/
structure Fifo where
  pkts : List Pkt
  prod : ProdSt
  mid : List Pkt
  midDone : Nat
  blocks : List Blk
  tail : List Pkt
  tailOff : Nat
  nextSeq : Nat
  expSeq : Nat
  refill : Bool
  stalled : Bool
  asm : List Nat
  deriving DecidableEq, Repr

/-- An empty FIFO. -/
def Fifo.init : Fifo := ⟨[], .none, [], 0, [], [], 0, 0, 0, false, false, []⟩

/-- The cells and entries of Inkwell and the blocks of the Reservoir (09 R195, R197, R204): the bank that the next
allocation tries first; per bank how many cells have been taken in order from the fresh end of its list, and the
cells given back, last first; the same for entries and blocks; and the cells and entries that no chain reaches
until an audit returns them, how many of these were lost before the running audit began, and whether one more is asked for (09 R219). -/
structure InkSt where
  bank : Nat
  fresh : Tbl Nat
  freed : Tbl (List Nat)
  used : Nat
  entFresh : Nat
  entFreed : List Nat
  entUsed : Nat
  lostCells : List Nat
  lostEnts : List Nat
  blkFresh : Nat
  blkFreed : List Nat
  blkUsed : Nat
  auditAgain : Bool
  auditCells : Nat
  auditEnts : Nat
  deriving DecidableEq, Repr

/-- The DWRR round of a port (09 R208): the current class, whether the round has arrived there already, and the
deficits of the classes. -/
structure Sched where
  cur : Nat
  arrived : Bool
  dc : List Int
  deriving DecidableEq, Repr

/-- The round before its first frame. -/
def Sched.init : Sched := ⟨7, false, [0, 0, 0, 0, 0, 0, 0, 0]⟩


/-! ## Rulers (12) -/

/-- The jump guard of a Ruler (12 R270). -/
inductive Guard where
  | normal | guarded | accepted
  deriving DecidableEq, Repr

/-- One Ruler (12 R265): its time in units of 2^-48 ns, seconds included; the rounding remainder carried
into the next tick; a slew's remaining offset in units of 2^-48 ns / 10^9 and its rate in the units of
ADJ; the guard; how often a STEP or SET changed it (12 R283); and what its edges and slews alone have added, which no step or set
enters (12 R279). -/
structure Ruler where
  time : Nat
  err : Nat
  slewLeft : Int
  slewRate : Int
  slewing : Bool
  guard : Guard
  stepCount : Nat
  ran : Int
  deriving DecidableEq, Repr

/-- A Ruler with time 0 and no slew. -/
def Ruler.init : Ruler := ⟨0, 0, 0, 0, false, .normal, 0, 0⟩

/-- A time-stamp record (12 R271): VALID, direction, port, captured Rulers and whether each was running,
the captured times in units of 2^-48 ns by rising Ruler, and whether its frame has been consumed, so that
the record waits for HOLD_MS (12 R273); and, beside the record, what the edges of T0 to T7 had added at its
time-stamp point (12 R279). -/
structure TsRec where
  valid : Bool
  tx : Bool
  port : Nat
  captured : Nat
  running : Nat
  times : List Nat
  held : Bool
  ran : List Int
  deriving DecidableEq, Repr

/-- An entry of the egress report ring (12 R274). -/
structure TxReport where
  port : Nat
  kind : Nat
  recIdx : Nat
  seqId : Nat
  msgType : Nat
  domain : Nat
  deriving DecidableEq, Repr

/-- A PPS pin (12 R281, R282): asserted, next target time, tick of the last captured edge. -/
structure PpsPin where
  asserted : Bool
  target : Option Nat
  lastEdge : Option Nat
  deriving DecidableEq, Repr

/-! ## Redundancy and aggregation (13) -/

/-- A duplicate-discard entry (13 R291): its key (pair, SA, sequenceNr), its flags and the time it was made. -/
structure DdEnt where
  pair : Nat
  sa : Nat
  seq : Nat
  delivered : Bool
  fwdA : Bool
  fwdB : Bool
  sent : Bool
  born : Nat
  deriving DecidableEq, Repr

/-- An aggregation group (13 R295, R297): whether its configuration is in force, and the member positions over which its
buckets were pinned when it was configured. -/
structure AggSt where
  on : Bool
  base : List Nat
  deriving DecidableEq, Repr


/-! ## Load channels (20) -/

/-- The protection parameters of one channel (02 LOADS record); `segs` are the segments of its custom
profile, (END_US, LIMIT_MA). -/
structure LoadRec where
  present : Bool
  profile : Nat
  xsect : Nat
  wireMohm : Nat
  elimMj : Nat
  p0Ms : Nat
  retryN : Nat
  segs : List (Nat × Nat)
  deriving DecidableEq, Repr

/-- What a load channel holds beside its registers: envelope clock and frozen time in ticks of TCLK
(20 R396, R397), the heat state Q in units of 10^-12 A² (20 R400), the custom segments in force, parameters
that wait for off (02 R48), and whether FAULT_EVT and LATCH_EVT were set when the main die went absent
(20 R405). -/
structure LoadCh where
  clk : Nat
  frozen : Nat
  q : Nat
  segs : List (Nat × Nat)
  waiting : Option LoadRec
  faultBefore : Bool
  latchBefore : Bool
  deriving DecidableEq, Repr

/-- A channel at power-die power-on reset. -/
def LoadCh.init : LoadCh := ⟨0, 0, 0, [], none, false, false⟩

/-! ## Blotter (21) -/

/-- A report waiting in the Blotter's input queue (21 R410): its class as decided on arrival, and whether it
was escalated. -/
structure BltEntry where
  rep : Report
  cls : Nat
  esc : Bool
  deriving DecidableEq, Repr

/-- The Blotter's input queue (21 R410), and the count of reports in each source's open window (21 R411). -/
structure BltSt where
  queue : List BltEntry
  windows : Tbl Nat
  deriving DecidableEq, Repr

/-! ## The Scroll and the flash (02, 22) -/

/-- A section of a Scroll (02 R33): its place in the section table, TYPE, SCOPE, VARIANT, the 16 bytes of its table entry, its body. -/
structure Sect where
  idx : Nat
  typ : Nat
  scope : Nat
  variant : Nat
  entry : List Byte
  body : List Byte
  deriving DecidableEq, Repr

/-- Scroll control beside its registers (02 R46 to R54): the hard sections of the base Scroll in force; the verified soft Scroll
that waits for its commit; an APPLY that waits for a restructure; the soft Scroll in force; the place and SEQ that a persist
writes; software writes held until the commit (initiator, offset, value); how far the restructure has come: 1 stopped and
flushed, 2 loaded; the entry writes of the update buffer kept for the waiting soft Scroll (R50); and the lanes whose frame in progress
has ended since the restructure began (R54). -/
structure ScrSt where
  base : List Sect
  applying : Option (List Byte)
  applyWait : Bool
  inForce : Option (List Byte)
  persist : Option (Nat × Nat)
  held : List (Initiator × Nat × Nat)
  stage : Nat
  room : Nat
  took : List Nat
  deriving DecidableEq, Repr

/-- A record of the soft slot (02 R51): SEQ, and the soft Scroll, LENGTH bytes. -/
structure SoftRec where
  seq : Nat
  bytes : List Byte
  deriving DecidableEq, Repr

/-- A flash bank (22 R418): the manifest, the sheets whose bitmap bit is 0, and the soft records A and B that are not empty. -/
structure Bank where
  man : List Byte
  sheets : Tbl (List Byte)
  soft : Tbl SoftRec
  deriving DecidableEq, Repr

/-- An erased bank. -/
def Bank.init : Bank := ⟨[], [], []⟩

/-- The content of a commit record (22 R423). -/
structure CommitRec where
  seq : Nat
  bank : Nat
  confirmed : Bool
  version : Nat
  digest : List Byte
  deriving DecidableEq, Repr

/-- The content of a TOMBSTONE record (22 R426): FAIL_CODE, BANK, SET_VERSION, RTC_SEC. -/
structure Tomb where
  code : Nat
  bank : Nat
  version : Nat
  rtc : Nat
  deriving DecidableEq, Repr

/-- The xSPI flash beside its key region (22 R418): the bytes of the commit records at places 0 (A) and 1 (B) that are not erased, banks 0
and 1, and the bytes of the TOMBSTONE record, none when it is erased. -/
structure FlashSt where
  commits : Tbl (List Byte)
  banks : Tbl Bank
  tomb : List Byte
  deriving DecidableEq, Repr

/-- The update block and the maintenance UART beside their registers (22, 03 R70): the tick at which the start reached STAGE 7 while
the active set is unconfirmed; the UART's bit rate; the last REPLY frame that it sent. -/
structure UpdSt where
  confirmAt : Option Nat
  rate : Nat
  reply : List Byte
  deriving DecidableEq, Repr



/-! ## Ethernet ports (04) -/

/-- A frame that a port's transmitter holds: its class queue, its queue entry (none for a confirmed speculative copy,
07 R162), its first Inkwell cell, its copy's edits, its bytes as sent, and whether the transparent clock corrected it (none: it carries no
PTP event message, 12 R278, R280). -/
structure Tx where
  q : Nat
  ent : Option QEnt
  first : Nat
  ed : CopyEd
  bytes : List Byte
  tc : Option Bool
  deriving DecidableEq, Repr

/-- A received PAUSE or PFC that has not yet taken effect (04 R87): the time in quanta of each class it names. -/
abbrev PauseReq := List (Nat × Nat)

/-- How a port ended the last frame on its line: with its FCS; a strike block; a block of the complemented CRC-32 and /T/; the complemented
CRC-32 as four data bytes (07 R161, 09 R218). -/
inductive WireEnd where
  | fcs | strikeBlock | crcBlock | crcBytes
  deriving DecidableEq, Repr

/-- What a port holds beside its registers: the frame on its transmitter; the last SGMII in-band status word (link, speed, full
duplex, 04 R79); whether loss has started the link-down delay (04 R80); pauses on their
way; the time in quanta of each paused class; the classes for which the port has sent XOFF (04 R88); and of Taper
(04 R92 to R96) the proposal number, rate, FLAGS and resends, the consecutive windows below DOWN_PCT, whether the
last window was, the tick of the last rate change or dwell restart, the rate of the last refused bound proposal and
the tick of its REFUSE, the rate being retrained to, whether its pipeline has dropped the frame that
is still arriving (07 R168), whether a forced PROPOSE is still to be sent (04 R94), what Clause 37 has advertised (full duplex, PAUSE
honoured, PAUSE generated; 04 R82), and how its last frame ended on the line. -/
structure EthPort where
  tx : Option Tx
  inband : Option (Bool × Nat × Bool)
  losing : Bool
  pend : List PauseReq
  quanta : List Nat
  xoff : Nat
  seq : Nat
  propRate : Nat
  propFlags : Nat
  resends : Nat
  lows : Nat
  lastLow : Bool
  dwell : Option Nat
  boundRefused : Option (Nat × Nat)
  newRate : Nat
  gone : Bool
  forceDue : Bool
  advert : Option (Bool × Bool × Bool)
  ended : WireEnd
  deriving DecidableEq, Repr

/-- A port at reset. -/
def EthPort.init : EthPort := ⟨none, none, false, [], [0, 0, 0, 0, 0, 0, 0, 0], 0, 0, 0, 0, 0, 0, false, none, none, 0, false, false, none, .fcs⟩

/-! ## CAN, T1S and MVB lanes (05, 06) -/

/-- The states of a CAN lane (05 R113). -/
inductive CanSt where
  | stopped | integrating | active | busOff | recovering | standby
  deriving DecidableEq, Repr

/-- What a CAN lane has in arbitration or transmission: the head of a queue, a reference message, or a presence message
(05 R110, R119; 19 R386), with the bytes as sent. -/
inductive CanTx where
  | queued (q : Nat) (e : QEnt) (bytes : List Byte)
  | ref (bytes : List Byte)
  | presence (bytes : List Byte)
  deriving DecidableEq, Repr

/-- What a CAN lane holds beside its registers (05): state; EN written 0 while a frame was in progress, and the timing latched by an EN
written 1 again before its end (R103); waiting for 11 recessive bits after an error in restricted operation or a protocol exception
(R107, R108); the latched timing fields; TEC and REC; what is in arbitration; the Rulers at the SOF of the frame on the bus (R117); the
heads that have passed the filters, by class: queue entry and bytes as sent; a reference message due, and once it has passed the lane's
checks its sealed bytes (none if unsealed); a presence message due, and whether it has passed them; SEQ, and the Rulers at the SOF of
the previous reference message (R118). The token limiters' unspent tokens are registers. -/
structure CanLane where
  st : CanSt
  stopping : Bool
  next : Option (List Nat)
  waits : Bool
  timing : List Nat
  tec : Nat
  recC : Nat
  arb : Option CanTx
  sof : Option Snap
  passed : Tbl (QEnt × List Byte)
  refDue : Bool
  refOut : Option (List Byte)
  presDue : Option (List Byte)
  presOut : Bool
  tmSeq : Nat
  tmPrev : Option Snap
  deriving DecidableEq, Repr

/-- A CAN lane at reset. -/
def CanLane.init : CanLane := ⟨.stopped, false, none, false, [], 0, 0, none, none, [], false, none, none, false, 0, none⟩

/-- What a T1S lane holds beside its registers (06 R128 to R131, R142): a BEACON was seen; ED was seen within 100 ms; the
ID whose opportunity runs, none between opportunities; the ID whose opportunity comes next, counted from the BEACON, none while no
BEACON has opened a cycle; frames sent in the present opportunity; the frame being sent, and the Rulers at its start; the
attempts of the head frame; the back-off in bit times; a mode switch that waits for the frame in progress; a
presence message due. -/
structure T1sLane where
  beacon : Bool
  ed : Bool
  opp : Option Nat
  coming : Option Nat
  burst : Nat
  tx : Option Tx
  txSnap : Snap
  attempts : Nat
  backoff : Option Nat
  switchTo : Option Bool
  presDue : Option (List Byte)
  deriving DecidableEq, Repr

/-- A T1S lane at reset. -/
def T1sLane.init : T1sLane := ⟨false, false, none, none, 0, none, [], 0, none, none, none⟩

/-- What an MVB lane holds beside its registers (06 R137 to R142): whether a basic period has been opened since ADMIN_RUN was
set; the poll entry to look at next; whether an overrun was reported in the period; F_code * 4,096 + address of the master
frame that awaits its reply; the slave frame to send after REPLY_DLY; whether a valid master frame came within SILENCE_MS;
and the tick of each port's last sink update. -/
structure MvbLane where
  began : Bool
  cursor : Nat
  overran : Bool
  waiting : Option Nat
  reply : Option (List Byte)
  heard : Bool
  updAt : Tbl Nat
  deriving DecidableEq, Repr

/-- An MVB lane at reset. -/
def MvbLane.init : MvbLane := ⟨false, 0, false, none, none, false, []⟩

/-! ## Nib engines (10) -/

/-- The current frame of an engine (10 R236): the head taken from a Nib queue, or the head packet of a FIFO. -/
inductive NibCur where
  | frame (q : Nat) (e : QEnt)
  | packet (f : Nat)
  deriving DecidableEq, Repr

/-- What an AWAITING engine waits in (10 R221, R234): WFI, or VG.AWAIT with its destination register and mask. -/
inductive NibWait where
  | wfi
  | await (rd mask : Nat)
  deriving DecidableEq, Repr

/-- A Nib engine beside its registers (10): x1 to x31; pc; the writable CSRs (R226); both SRAMs; the event queue, oldest
first, the events lost since the last OVERFLOW word, and each timer's expiries since its event was last taken (R233); the
time latch, and whether its Ruler was stopped (R228); the current frame (R236); what it waits in; the ticks of its
recoveries in the last 10 s (R240); and, of the gateway program on it (11 R257, R261, R262), whether it has started, the
outputs that are pending, and the tick of each output's last send; and whether a parity error halted it (R240). -/
structure NibEng where
  x : Tbl Word
  pc : Word
  mtvec : Word
  mepc : Word
  mcause : Word
  mtval : Word
  mscratch : Word
  mcycle : Nat
  minstret : Nat
  isram : Mem
  dsram : Mem
  evq : List Nat
  lost : Nat
  expired : Tbl Nat
  latch : Nat
  latchStopped : Bool
  cur : Option NibCur
  waiting : Option NibWait
  restarts : List Nat
  gwOn : Bool
  gwPend : List Nat
  gwLast : Tbl Nat
  parityHalt : Bool
  deriving DecidableEq, Repr

/-- An engine at reset. -/
def NibEng.init : NibEng := ⟨[], 0, 0, 0, 0, 0, 0, 0, 0, [], [], [], 0, [], 0, false, none, none, [], false, [], [], false⟩

/-! ## Key store (14) -/

/-- Attributes of a slot (14 R305). -/
structure KeyAttr where
  typ : Nat
  origin : Nat
  uses : Nat
  ckpt : Nat
  limit : Nat
  deriving DecidableEq, Repr

/-- No key. -/
def KeyAttr.empty : KeyAttr := ⟨0, 0, 0, 0, 0⟩

/-- The content of a slot record: what its plaintext holds (14 R307). -/
structure KeyRec where
  attr : KeyAttr
  key : List Byte
  counter : Nat
  gen : Nat
  deriving DecidableEq, Repr

/-- A slot in key RAM (14 R305 to R308, R317): attributes, the key's two shares (the key XOR the mask, and the mask) with the time at which
the mask was drawn, usage count, RESERVED, the RESERVED of a reservation write in progress, COUNTER and GEN of the record in force. -/
structure KeySlot where
  attr : KeyAttr
  share : List Byte
  mask : List Byte
  maskAt : Nat
  count : Nat
  reserved : Nat
  writing : Option Nat
  counter : Nat
  gen : Nat
  deriving DecidableEq, Repr

/-- An empty slot that no record names. -/
def KeySlot.empty : KeySlot := ⟨KeyAttr.empty, [], [], 0, 0, 0, none, 0, 0⟩

/-- The CTR_DRBG (14 R314): Key, V, and the requests since it was last seeded. -/
structure Drbg where
  key : List Byte
  v : Nat
  count : Nat
  deriving DecidableEq, Repr

/-- A key update message that has passed step 4 of 14 R312: its TYPE, SLOT, COUNTER m, PARAM, and the record written. -/
structure KeyCmd where
  typ : Nat
  slot : Nat
  m : Nat
  param : Nat
  record : Option KeyRec
  deriving DecidableEq, Repr

/-! ## Cipher complex (15) -/

/-- A lookaside command in progress: its result, and the text and tag, digest or signature that it will write (15 R336). -/
structure LaRun where
  result : Nat
  text : List Byte
  tag : List Byte
  deriving DecidableEq, Repr

/-- A frame whose copies, but for those of the hardware route, wait for a seal check without HOLD (15 R334): lane, seal entry, lane frame,
the copies that go out when the check passes, and its number in the order of the checks. -/
structure SealWait where
  lane : Nat
  entry : Nat
  frame : Frame
  copies : List Dest
  no : Nat
  deriving DecidableEq, Repr


/-! ## Host interface and DMA (16) -/

/-- A receive frame held in the ring, waiting for descriptors (16 R346): its queue entry, the descriptors filled, and
GLB_MTIME[31:0] when it left its queue. -/
structure DmaHeld where
  ent : QEnt
  taken : Nat
  time : Nat
  deriving DecidableEq, Repr

/-- A ring beside its registers (16 R343, R346): completions not yet counted by COMPL_EVT, the held frame, and ADDR and
SIZE_LOG2 of the last run. -/
structure DmaRing where
  uncounted : Nat
  held : Option DmaHeld
  ran : Option (Nat × Nat)
  deriving DecidableEq, Repr

/-- A ring at reset. -/
def DmaRing.init : DmaRing := ⟨0, none, none⟩

/-- The MSI-X side (16 R340, R342): vectors that have sent and are not rearmed, vectors whose pending bit is set, and the
words of the MSI-X table by number. -/
structure MsixSt where
  disarmed : List Nat
  pba : List Nat
  table : Tbl Nat
  deriving DecidableEq, Repr
/-- The endpoint's configuration (16 R339, R340): the codes of max payload size (128 bytes doubled that often) and max read request size,
the base addresses of BAR0 (in 32 MiB) and BAR2 (in 64 MiB), and the AER uncorrectable error status. -/
structure PcieCfg where
  mps : Nat
  mrrs : Nat
  bar0 : Nat
  bar2 : Nat
  aer : Nat
  deriving DecidableEq, Repr

/-- The configuration after a reset. PRESUMED: the payload and request sizes are the defaults of the PCI Express specification. -/
def PcieCfg.init : PcieCfg := ⟨0, 2, 0, 0, 0⟩

/-! ## Ligature (17) -/

/-- An outstanding transaction of the bridge's initiator (17 R359 to R364): slot and generation; initiator (0 PCIe, 1 S0, 2 S1);
target device; whether it writes; aperture; remote offset; write data; SEQ; resends so far; whether it waits for its back-off;
its final status once received, with the data read; whether an earlier write of its stream has failed; whether its request carries RESYNC. -/
structure LigReq where
  slot : Nat
  gen : Nat
  ini : Nat
  dev : Nat
  write : Bool
  ap : Nat
  addr : Nat
  data : Nat
  seq : Nat
  resends : Nat
  backoff : Bool
  status : Option Nat
  rdata : Nat
  taint : Bool
  resync : Bool
  deriving DecidableEq, Repr

/-- A stream at its initiator (17 R360): the next SEQ, and whether its next request carries RESYNC. -/
structure LigStream where
  next : Nat
  resync : Bool
  deriving DecidableEq, Repr

/-- A stream before its first request (17 R368). -/
def LigStream.init : LigStream := ⟨0, true⟩

/-- An access that waits for a slot (17 R359): initiator, aperture, whether it writes, remote offset within the window, data. -/
structure LigAcc where
  ini : Nat
  write : Bool
  off : Nat
  data : Nat
  deriving DecidableEq, Repr

/-- The Ligature bridge beside its registers (17): outstanding transactions in the order of issue; accesses that wait for a
slot; slots used before, with their generation; streams by 4,096 * initiator + device; late reads by slot; of the responder the
slots taken, the expected SEQ by 4,096 * initiator + device, and the input FIFO; of the watch entries those with a poll unanswered, and their misses. -/
structure LigSt where
  out : List LigReq
  wait : List LigAcc
  gens : Tbl Nat
  streams : Tbl LigStream
  late : Tbl LigReq
  resp : Nat
  expect : Tbl Nat
  fifo : List (List Byte)
  polled : List Nat
  misses : Tbl Nat
  deriving DecidableEq, Repr

/-! ## Power states and supply management (18) -/

/-- A voltage change of both rails in progress (18 R379): the setpoints asked for, those before, whether it raises, how
often the write was repeated, and whether it now repeats every 1 ms after a failure. -/
structure AvsChange where
  core : Nat
  sram : Nat
  oldCore : Nat
  oldSram : Nat
  raising : Bool
  tries : Nat
  repeating : Bool
  deriving DecidableEq, Repr

/-- The transition in progress (18 R370 to R375): target, whether it waits for S1, whether its commit step is past. -/
structure Trans where
  target : Nat
  waitS1 : Bool
  committed : Bool
  deriving DecidableEq, Repr

/-- Power management beside its registers: the transition; the wake (code and index) that brings about
the exit from DOZE; the exit from DOZE under
way; the voltage change; the setpoints of VDD_CORE and VDD_SRAM in force; until which tick the offsets are taken from lower
setpoints, and those (18 R381). -/
structure PwrSt where
  trans : Option Trans
  wake : Option (Nat × Nat)
  exiting : Bool
  avs : Option AvsChange
  cur : Nat × Nat
  settle : Option (Nat × Nat × Nat)
  deriving DecidableEq, Repr

/-! ## Network sleep (19) -/

/-- A tracked node beside its NSL_NODE words (19 R391, R392): tick at which its need run started, tick of its last presence
message, and whether its run has been logged. -/
structure NslNode where
  since : Nat
  last : Nat
  logged : Bool
  deriving DecidableEq, Repr

/-- The state of the device. `regs` holds every register field (by field and element); the queue
`pending` holds the waiting commands, first in, first out. -/
structure State where
  regs : RegFile
  /-- Ticks of TCLK since the model's start (12 R265). -/
  now : Nat
  /-- How many free values have been drawn (the model's own). -/
  freeCtr : Nat
  /-- The last answer to an initiator (the model's own). -/
  answer : Option Answer
  /-- Held and latched words (00 R5). -/
  bus : BusSt
  /-- The Ferrule link (01 R11 to R13). -/
  ferrule : FerruleSt
  /-- Recoveries running and waiting (01 R20). -/
  recov : RecovSt
  /-- The power die's start sequence (03 R57). -/
  pd : PdSt
  /-- Where the main die stands (03 R59). -/
  phase : MainPhase
  /-- MAINT_N was low at the release of main-die power-on reset (03 R69). -/
  maintLow : Bool
  /-- The watchdog's down-count (03 R76). -/
  wdog : Wdog
  /-- The Scribe cores as they started (03 R71, R72). -/
  cores : Tbl CoreSt
  /-- The watchdog has reached zero since its last kick (03 R76). -/
  wdogWarned : Bool
  /-- Interrupt sources in service (03 R75). -/
  inService : List Nat
  /-- Frames in the pipelines, oldest first (07 R152). -/
  flight : List Flight
  /-- Valid Stroke cache entries, by 8,192 * pipeline + 4 * set + way (07 R154). -/
  strokes : Tbl Stroke
  /-- Table sizes (02 R40). -/
  memCfg : MemCfg
  /-- Per pipeline the FDB by slot number, stash entries from 65,536 on (08 R170, R187). -/
  fdb : Tbl (Tbl FdbEntry)
  /-- Windowed table entries, by table ID * 2^20 + index, words from bit 0 up (08 R181, R184 to R186, 07 Stencil rules). -/
  rows : Tbl Nat
  /-- Stencil rules as last written (07 R150). -/
  shadow : Tbl Nat
  /-- IPv4 prefixes (08 R183). -/
  routes4 : List Route
  /-- IPv6 prefixes. -/
  routes6 : List Route
  /-- Policer buckets TC and TP in 1/200,000 byte, by 4,096 * pipeline + index (08 R186). -/
  tokens : Tbl (Nat × Nat)
  /-- The update buffer, in order of writing (08 R188). -/
  updBuf : List BufWrite
  /-- TBL_ROUTER_MAC as the current epoch sees it (08 TBL_ROUTER_MAC). -/
  routerMac : Nat
  /-- Per pipeline the queue of learn requests, at most 64 (08 R177). -/
  learnQ : Tbl (List LearnReq)
  /-- TBL_DRAIN was not older than TBL_DRAIN_TARGET when last seen (08 R191). -/
  drainMet : Bool
  /-- Ticks of TCLK since the main-die start, four to a count of GLB_MTIME (03 R72). -/
  mtime : Nat
  /-- The host's memory, as the device reads and writes it over PCIe (16). -/
  hostMem : Mem
  /-- L2 SRAM and the Reservoir Scribe region, by Scribe physical address (03 R73). -/
  scribeMem : Mem
  /-- The PCIe link is up and the endpoint is out of reset (16 R339). -/
  pcieUp : Bool
  /-- Policers found with bad parity and not yet scrubbed, by 4,096 * pipeline + index (08 R187). -/
  polBad : List Nat
  /-- Trie nodes found with bad parity and not yet rebuilt (08 R187). -/
  trieBad : List BadNode
  /-- Policers whose parameter copy is lost, by 4,096 * pipeline + index (08 R187). -/
  polLost : List Nat
  /-- The rate in MT/s at which the memory of the Reservoir has trained, 0 before (23 R441). -/
  dramRate : Nat
  /-- The frames in Inkwell, by first cell (09 R196). -/
  frames : Tbl Frame
  /-- Queues 0 to 511 (09 R198). -/
  queues : Tbl Queue
  /-- Software FIFOs 0 to 255 (09 R212). -/
  fifos : Tbl Fifo
  /-- The recirculation list of port 66, by first cell (09 R198). -/
  recirc : List Nat
  /-- Free cells, entries and blocks (09 R195). -/
  ink : InkSt
  /-- The DWRR rounds of ports 0 to 39 (09 R208). -/
  sched : Tbl Sched
  /-- The exact credits of the shapers, in 1/3,200,000,000 byte (09 R209). -/
  cbs : Tbl Int
  /-- The signal routing table by slot number, an entry's words from bit 0 up (11 R245, R246). -/
  sigTable : Tbl Nat
  /-- Rulers T0 to T7 (12 R265). -/
  rulers : Tbl Ruler
  /-- 8,192 time-stamp records (12 R271); an unlisted one is free. -/
  tsRecs : Tbl TsRec
  /-- The egress report ring, 1,024 entries (12 R274). -/
  txRing : Tbl TxReport
  /-- Count of requested records per port, 16 bit (12 R274). -/
  txReqCount : Tbl Nat
  /-- PPS_OUT0 and PPS_OUT1 (12 R281). -/
  ppsOut : Tbl PpsPin
  /-- PPS_IN0 and PPS_IN1 (12 R282). -/
  ppsIn : Tbl PpsPin
  /-- The Scroll's capture mask per port, 8 bit (12 R271, 02 R42). -/
  capMask : Tbl Nat
  /-- The duplicate-discard table, by 4 * set + way (13 R291). -/
  dd : Tbl DdEnt
  /-- Aggregation groups 0 to 15 (13 R295). -/
  agg : Tbl AggSt
  /-- Member positions of buckets that have moved since their group was configured, by 256 * group + bucket (13 R297). -/
  pins : Tbl Nat
  /-- The tick of the last enqueue of each aggregation bucket, by 256 * group + bucket (13 R298). -/
  enqAt : Tbl Nat
  /-- Fraction of the RTC second in 1/32,768 s (21 BLT_PLOG, 19 R394). -/
  rtcFrac : Nat
  /-- Load channels LC0 to LC23 (20). -/
  loads : Tbl LoadCh
  /-- Whether VLDb is below its dip threshold (20 R397). -/
  vldDip : Tbl Bool
  /-- The power-die configuration held (20 R395). -/
  pdConfig : Option (List Byte)
  /-- A configuration deferred until every channel is off (03 R66). -/
  pdConfigWait : Option (List Byte)
  /-- VBAT is, or has been in the last 10 ms, below its warning threshold: no retry starts (20 R407). -/
  retryHold : Bool
  /-- Reports on their way to the Blotter (01 R19). -/
  transit : List Report
  /-- The Blotter's input queue and open windows (21 R410, R411). -/
  blt : BltSt
  /-- Entries of sources 0x005 and 0x006 that the Blotter copies at the next start (21 R413): source, element, INFO, RTC seconds, RTC fraction. -/
  plogCopy : List (Nat × Nat × Nat × Nat × Nat)
  /-- The level of FLT_P while it beats (21 R416). -/
  fltBeat : Bool
  /-- A TERMINAL report has stopped the main die (21 R415). -/
  stopped : Bool
  /-- Scroll control (02). -/
  scr : ScrSt
  /-- The xSPI flash: commit records, banks, TOMBSTONE (22 R418). -/
  flash : FlashSt
  /-- The update block and the maintenance UART (22, 03 R70). -/
  upd : UpdSt
  /-- Words written to the insert and delete ports, by BAR0 word offset (08 R194). -/
  portHold : Tbl Nat
  /-- The Scroll staging window, 512 KiB (02). -/
  staging : Mem
  /-- The sheet buffer, 4 KiB (22). -/
  sheetBuf : Mem
  /-- The manifest window, 256 KiB (22). -/
  manWin : Mem
  /-- Scribe cores stopped by a lockstep mismatch, a bit each (03 R71). -/
  coreStop : Nat
  /-- Ethernet ports 0 to 39 (04). -/
  eth : Tbl EthPort
  /-- The last control frame, message or lane frame that each port or lane put on its line, by port (04 R95, 19 R384, 06 R137). -/
  lastTx : Tbl (List Byte)
  /-- The CAN side of lanes 0 to 23 (05). -/
  can : Tbl CanLane
  /-- Filter entries found with bad parity and not rewritten since, by 64 * lane + entry (05 R116). -/
  canBad : List Nat
  /-- The T1S side of lanes 0 to 23 (06). -/
  t1s : Tbl T1sLane
  /-- The MVB side of lanes 0 to 23 (06). -/
  mvb : Tbl MvbLane
  /-- Port data slots, by 8,192 * lane + 32 * port + byte (06). -/
  mvbData : Mem
  /-- Poll list entries as words, by 1,024 * lane + entry; kept over a main-die reset (06 R145). -/
  mvbPoll : Tbl Nat
  /-- Lanes whose RXD the AOC watches, a bit each (05 R122, 06 R144). -/
  aocArmed : Nat
  /-- Nib engines N0 to N9 (10). -/
  nib : Tbl NibEng
  /-- The Signal Store, 2 MiB by byte (10 R223). -/
  ss : Mem
  /-- 64-bit words of the Signal Store that hold an uncorrectable error (10 R241). -/
  ssBad : List Nat
  /-- Key RAM (14 R305). -/
  keySlots : Tbl KeySlot
  /-- The key update in progress (14 R312). -/
  keyCmd : Option KeyCmd
  /-- The DRBG, once it has been seeded (14 R314). -/
  drbg : Option Drbg
  /-- The scramble key under which the rows of key RAM are permuted (14 R317). -/
  keyScramble : List Byte
  /-- The data mask that words of key RAM pass through (14 R317). -/
  keyDataMask : List Byte
  /-- A TRNG health test has failed (14 R314). -/
  trngFail : Bool
  /-- The key message window (14). -/
  keyMsg : Mem
  /-- The attestation window: the last statement (14). -/
  keyAtt : List Byte
  /-- Blown bits of KUC_HIGH (14 R302). -/
  kucHigh : Nat
  /-- REVOKED fuses, a bit for each FLEET position (14 R302). -/
  fleetRevoked : Nat
  /-- The key region of the flash, but for the factory certificate (14 R306 to R309). -/
  keyFlash : Mem
  /-- The persistent tamper flag (14 R319). -/
  tamperFlag : Bool
  /-- The last tamper event that the AOC recorded in SLEEP: input, RTC seconds (14 R319). -/
  tampRec : Option (Nat × Nat)
  /-- The expanded round keys that the cipher units keep, by 256 * unit + slot (15 R322). -/
  keyCopies : Tbl (List Byte)
  /-- Transmit SAs whose last PN has been taken (15 R326). -/
  pnOver : List Nat
  /-- SECURE_OR_BLOCK ports 0 to 63, a bit each (02 SECPOL). -/
  secpol : Nat
  /-- The lookaside command in progress (15 R336). -/
  laRun : Option LaRun
  /-- The lookaside window (15). -/
  laWin : Mem
  /-- The number of the next seal check (15 R333). -/
  sealNo : Nat
  /-- Frames whose copies wait for a seal check (15 R334). -/
  sealWait : List SealWait
  /-- Lane frames that wait before Pipeline A for the check of their seal, oldest first (15 R333, R334). -/
  sealHeld : List Flight
  /-- The PCIe endpoint's configuration (16 R339, R340). -/
  pcie : PcieCfg
  /-- Rings 0 to 63 (16 R343). -/
  rings : Tbl DmaRing
  /-- The transmit ring served last (16 R343). -/
  ringLast : Nat
  /-- MSI-X vectors and table (16 R340, R342). -/
  msix : MsixSt
  /-- The Ligature bridge (17). -/
  lig : LigSt
  /-- Tisuler frames that the decision stage gave to the bridge, oldest first: ingress port, whether the frame passed an ICV check, bytes (17 R354). -/
  brgRx : List (Nat × Bool × List Byte)
  /-- Transitions and voltage changes (18). -/
  pwr : PwrSt
  /-- Rails whose supply warning has not re-armed, a bit each (18 R382). -/
  warned : Nat
  /-- The 32.768 kHz crystal has stopped: the AOC runs the RTC from its internal oscillator (23). -/
  xtalStopped : Bool
  /-- The part of 1/32,768 s of the RTC that has passed, in 1/400,000,000 of it times 32,768. -/
  rtcAcc : Nat
  /-- Networks that are enabled and keep the rules of their members, a bit each (19 R383). -/
  nslOn : Nat
  /-- Tracked nodes, by NSL_NODE entry (19 R391). -/
  nslNodes : Tbl NslNode
  /-- The commands waiting, first in, first out. -/
  pending : List Instr
  deriving DecidableEq, Repr

/-- The machine right after power-on reset of both dies: VBAT has not yet risen, every register holds its
reset value, no unit holds anything, no command waits. -/
def State.reset : State where
  regs := []
  now := 0
  freeCtr := 0
  answer := none
  bus := ⟨[], []⟩
  ferrule := ⟨⟨0, 0, none, 0⟩, ⟨0, 0, none, 0⟩, false, false, false⟩
  recov := ⟨⟨none, [], []⟩, ⟨none, [], []⟩, ⟨none, [], []⟩, ⟨none, [], []⟩⟩
  pd := ⟨.off, false, 0, false, 1, false, false, false⟩
  phase := .off
  maintLow := false
  wdog := .off
  cores := []
  wdogWarned := false
  inService := []
  flight := []
  strokes := []
  memCfg := ⟨65536, 16384, 4096, 8192, 16384⟩
  fdb := []
  rows := []
  shadow := []
  routes4 := []
  routes6 := []
  tokens := []
  updBuf := []
  routerMac := 0
  learnQ := []
  drainMet := true
  mtime := 0
  hostMem := []
  scribeMem := []
  pcieUp := false
  polBad := []
  trieBad := []
  polLost := []
  dramRate := 0
  frames := []
  queues := []
  fifos := []
  recirc := []
  ink := ⟨0, [], [], 0, 0, [], 0, [], [], 0, [], 0, false, 0, 0⟩
  sched := []
  cbs := []
  sigTable := []
  rulers := []
  tsRecs := []
  txRing := []
  txReqCount := []
  ppsOut := []
  ppsIn := []
  capMask := []
  dd := []
  agg := []
  pins := []
  enqAt := []
  rtcFrac := 0
  loads := []
  vldDip := []
  pdConfig := none
  pdConfigWait := none
  retryHold := false
  transit := []
  blt := ⟨[], []⟩
  plogCopy := []
  fltBeat := false
  stopped := false
  scr := ⟨[], none, false, none, none, [], 0, 0, []⟩
  flash := ⟨[], [], []⟩
  upd := ⟨none, 115200, []⟩
  portHold := []
  staging := []
  sheetBuf := []
  manWin := []
  coreStop := 0
  eth := []
  lastTx := []
  can := []
  canBad := []
  t1s := []
  mvb := []
  mvbData := []
  mvbPoll := []
  aocArmed := 0
  nib := []
  ss := []
  ssBad := []
  keySlots := []
  keyCmd := none
  drbg := none
  keyScramble := []
  keyDataMask := []
  trngFail := false
  keyMsg := []
  keyAtt := []
  kucHigh := 0
  fleetRevoked := 0
  keyFlash := []
  tamperFlag := false
  tampRec := none
  keyCopies := []
  pnOver := []
  secpol := 0
  laRun := none
  laWin := []
  sealNo := 0
  sealWait := []
  sealHeld := []
  pcie := PcieCfg.init
  rings := []
  ringLast := 63
  msix := ⟨[], [], []⟩
  lig := ⟨[], [], [], [], [], 0, [], [], [], []⟩
  brgRx := []
  pwr := ⟨none, none, false, none, (780, 820), none⟩
  warned := 0
  xtalStopped := false
  rtcAcc := 0
  nslOn := 0
  nslNodes := []
  pending := []

/-- What a command's meaning answers. -/
abbrev Out := Host.Outcome State Fault Refusal

end Sys2Proof.Machine
end

