-- ==== Sys2Proof/Machine/Ops.lean ====
section
/-! DEFINITION. The named operations over the state that every command uses: reading and writing a
register field, counting, setting an event, reporting a fault, answering an initiator, drawing a free
value, asking for a recovery. -/
namespace Sys2Proof.Machine

namespace State

/-- The value of register field `f` of element `i`. -/
def rd (s : State) (f : Fld) (i : Nat) : Nat := s.regs.get f i

/-- The state after field `f` of element `i` takes `v` (its low bits, by the field's width). -/
def wr (s : State) (f : Fld) (i v : Nat) : State := { s with regs := s.regs.set f i v }

/-- Whether the field is not 0. -/
def on (s : State) (f : Fld) (i : Nat) : Bool := decide (s.rd f i ≠ 0)

/-- The field set to 1: an event or status bit. -/
def evt (s : State) (f : Fld) (i : Nat) : State := s.wr f i 1

/-- The field set from a Bool. -/
def wrb (s : State) (f : Fld) (i : Nat) (b : Bool) : State := s.wr f i (b2n b)

/-- A counter plus 1; it wraps at its width. -/
def bump (s : State) (f : Fld) (i : Nat) : State := s.wr f i (s.rd f i + 1)

/-- A counter plus `n`; it wraps at its width. -/
def bumpBy (s : State) (f : Fld) (i n : Nat) : State := s.wr f i (s.rd f i + n)

/-- A counter plus 1 that stays at its largest value. -/
def bumpSat (s : State) (f : Fld) (i : Nat) : State :=
  s.wr f i (min (s.rd f i + 1) (2 ^ f.width - 1))

/-- Bit `b` of field `f` of element `i`. -/
def bit (s : State) (f : Fld) (i b : Nat) : Bool := (s.rd f i).testBit b

/-- Bit `b` of the field set. -/
def setBit (s : State) (f : Fld) (i b : Nat) : State := s.wr f i (setBitN (s.rd f i) b)

/-- Bit `b` of the field cleared. -/
def clrBit (s : State) (f : Fld) (i b : Nat) : State := s.wr f i (clrBitN (s.rd f i) b)

/-- Bit `b` of the field put to `v`. -/
def putBit (s : State) (f : Fld) (i b : Nat) (v : Bool) : State := if v then s.setBit f i b else s.clrBit f i b

/-- Every element of the field back at its reset value. -/
def clearFld (s : State) (f : Fld) : State := { s with regs := s.regs.clearFld f }

/-- Those elements of the field that satisfy `p` back at their reset value. -/
def clearWhere (s : State) (f : Fld) (p : Nat → Bool) : State := { s with regs := s.regs.clearWhere f p }

/-- A fault report on its way to the Blotter (01 R19): source, element, detail. -/
def report (s : State) (src elem info : Nat) : State :=
  { s with transit := s.transit ++ [⟨src, elem, info⟩] }

/-- A fault report for which no rule states the detail: its INFO is a free value. -/
def reportX (s : State) (src elem : Nat) : State :=
  { s with
    transit := s.transit ++ [⟨src, elem, (Config.reportInfo s.freeCtr).toNat⟩]
    freeCtr := s.freeCtr + 1 }

/-- The bit of the AER uncorrectable error status that an answer over PCIe sets (16 R339). -/
def aerBit (k : AnsKind) (aer : Nat) : Nat :=
  match k with
  | .unsupportedRequest => setBitN aer 20
  | .completerAbort => setBitN aer 15
  | _ => aer

/-- The state with an answer given to an initiator. -/
def reply (s : State) (ini : Initiator) (k : AnsKind) (data : Nat) : State :=
  { s with
    answer := some ⟨ini, k, data⟩
    pcie := if ini = .pcie then { s.pcie with aer := aerBit k s.pcie.aer } else s.pcie }

/-- One more free value has been drawn. -/
def drawn (s : State) : State := { s with freeCtr := s.freeCtr + 1 }

/-- The Ferrule link carries commands: it is initialised and the power die is not in main-die absent (01 R13). -/
def linkUp (s : State) : Bool := s.ferrule.up && !s.ferrule.absent

/-- Whether the main die runs, so that its blocks act: it is powered, out of reset and past its PLL. -/
def mainUp (s : State) : Bool :=
  decide (s.phase ≠ .off) && decide (s.phase ≠ .held) && decide (s.phase ≠ .released)

/-- A Scribe core makes no access: it has stopped on a lockstep mismatch, or S1 is held in reset (03 R71, R72). -/
def coreHalted (s : State) (ini : Initiator) : Bool :=
  match ini with
  | .s0 => s.coreStop.testBit 0
  | .s1 => s.coreStop.testBit 1 || !s.on F.GLB_SCRIBE_CTL_S1_RUN 0
  | _ => false

/-- SCR_LOCK: every RWL field is read-only (02 R56). -/
def locked (s : State) : Bool := s.on F.SCR_LOCK_LOCK 0

/-- The commit step of DOZE or SLEEP is past, or the device is in DOZE or in recovery mode: no forwarding (18 R369, R373; 09 R220,
08 R193; 03 R69). -/
def gated (s : State) : Bool :=
  decide (s.phase = .recovery) || decide (s.rd F.PWR_STAT_STATE 0 = 2) || (match s.pwr.trans with | some t => t.committed | none => false)

end State

/-- The recoveries of domain `d`. -/
def RecovSt.of (r : RecovSt) (d : Domain) : DomRec :=
  match d with
  | .platform => r.platform | .forwarding => r.forwarding | .fields => r.fields | .security => r.security

/-- The sequencer with the recoveries of domain `d` replaced. -/
def RecovSt.put (r : RecovSt) (d : Domain) (x : DomRec) : RecovSt :=
  match d with
  | .platform => { r with platform := x }
  | .forwarding => { r with forwarding := x }
  | .fields => { r with fields := x }
  | .security => { r with security := x }

/-- A recovery joins its domain's waiting recoveries in the order of arrival (01 R20), once. -/
def State.request (s : State) (d : Domain) (r : Recovery) : State :=
  let x := s.recov.of d
  if x.running = some r ∨ r ∈ x.waiting then s
  else { s with recov := s.recov.put d { x with waiting := x.waiting ++ [r] } }

/-- A fault whose report is on its way to the Blotter asks for a recovery (01 R19, R20). -/
def State.requestFault (s : State) (d : Domain) (r : Recovery) : State :=
  let x := s.recov.of d
  if x.running = some r ∨ r ∈ x.waiting ∨ r ∈ x.coming then s
  else { s with recov := s.recov.put d { x with coming := x.coming ++ [r] } }

/-- The report of that fault has reached the Blotter: the recovery joins those that wait, behind them. -/
def State.requestArrived (s : State) (d : Domain) (r : Recovery) : State :=
  let x := s.recov.of d
  if r ∈ x.coming then { s with recov := s.recov.put d { x with waiting := x.waiting ++ [r], coming := x.coming.erase r } } else s

/-- A running recovery of domain `d` ends (01 R20). -/
def State.endRecovery (s : State) (d : Domain) (r : Recovery) : State :=
  let x := s.recov.of d
  if x.running = some r then { s with recov := s.recov.put d { x with running := none } }
  else { s with recov := s.recov.put d { x with waiting := x.waiting.filter (fun q => decide (q ≠ r)), coming := x.coming.filter (fun q => decide (q ≠ r)) } }

/-- Element identifiers (01 R18): kind in bits [15:12], index in bits [11:0]. -/
def elemId (kind idx : Nat) : Nat := kind * 4096 + idx % 4096

/-- The element identifier of the whole device. -/
def elemDevice : Nat := 0xF000

/-- Ticks of TCLK (2.5 ns, 01 R21) in a microsecond and in a millisecond. -/
def ticksUs : Nat := 400
def ticksMs : Nat := 400000

/-- Serial-number order of 32-bit numbers (08 R190): `a` is newer than `b`. -/
def serialNewer (a b : Nat) : Bool := decide (a ≠ b) && decide ((a + 2 ^ 32 - b) % 2 ^ 32 < 2 ^ 31)

end Sys2Proof.Machine
end

