-- ==== Sys2Proof/Machine/NibBase.lean ====
section
/-! DEFINITION. The event queues of the Nib engines (spec 10 R233), and who posts to them. -/
namespace Sys2Proof.Machine

/-- Engine `n`. -/
def State.nibEng (s : State) (n : Nat) : NibEng := s.nib.get NibEng.init n

/-- The state with it replaced. -/
def State.setNib (s : State) (n : Nat) (e : NibEng) : State := { s with nib := s.nib.set NibEng.init n e }

/-- A counter of engine `n`. -/
def State.nibCnt (s : State) (n k : Nat) : State := s.bump F.NIB_CNT_COUNT (9 * n + k)

/-- Words that an event queue holds. -/
def evqSize : Nat := 64

/-- KIND of an event word. -/
def evKind (w : Nat) : Nat := bits w 28 4

/-- A new word joins the event queue of engine `n`, or is lost when the queue is full (R233). -/
def State.nibPush (s : State) (n w : Nat) : State :=
  let e := s.nibEng n
  if e.evq.length < evqSize then
    let s := (s.setNib n { e with evq := e.evq ++ [w] }).nibCnt n 3
    s.wr F.NIB_EVQ_PEAK n (max (s.rd F.NIB_EVQ_PEAK n) (e.evq.length + 1))
  else ((s.setNib n { e with lost := e.lost + 1 }).nibCnt n 4).evt F.NIB_STAT_EVQ_OVF_EVT n

/-- An event of a coalesced source: a word of it in the queue is updated in place (R233). `same` tells its words. -/
def State.nibCoalesce (s : State) (n w : Nat) (same : Nat → Bool) : State :=
  let e := s.nibEng n
  if e.evq.any same then s.setNib n { e with evq := e.evq.map (fun v => if same v then w else v) } else s.nibPush n w

/-- Engine `n` is held in reset (R243). -/
def State.nibHeld (s : State) (n : Nat) : Bool := s.bit F.GLB_BLK_RST_NIB 0 n

/-- An event is posted to engine `n`, unless the engine is held in reset. -/
def State.nibPost (s : State) (n w : Nat) (same : Nat → Bool) : State := if s.nibHeld n then s else s.nibCoalesce n w same

/-- A QUEUE event of queue `q`; a DOORBELL event; an MVB event. -/
def queueEv (q : Nat) : Nat := 0x1 * 2 ^ 28 + q % 1024
def doorbellEv (sender v : Nat) : Nat := 0x4 * 2 ^ 28 + sender * 2 ^ 24 + v % 2 ^ 24
def mvbEv (lane k : Nat) : Nat := 0x3 * 2 ^ 28 + lane * 2 ^ 8 + k

/-- A TIMER event after `c` expiries; whether a word is one of timer `t`. -/
def timerEv (t c : Nat) : Nat := 0x2 * 2 ^ 28 + min c 255 * 2 ^ 8 + t
def isTimerEv (t w : Nat) : Bool := decide (evKind w = 2) && decide (w % 4 = t)

/-- An OVERFLOW event after `c` losses. -/
def overflowEv (c : Nat) : Nat := 0xF * 2 ^ 28 + min c 65535

/-- The engine that takes queue `q`: a Nib queue by NIB_QSUB, a FIFO (512 on) by NIB_FSUB (R233, R236). -/
def State.nibConsumer (s : State) (q : Nat) : Option Nat :=
  if 448 ≤ q ∧ q < 512 then
    (if s.on F.NIB_QSUB_EN (q - 448) && decide (s.rd F.NIB_QSUB_ENGINE (q - 448) < 10) then some (s.rd F.NIB_QSUB_ENGINE (q - 448)) else none)
  else if 512 ≤ q ∧ q < 768 then
    (if s.on F.NIB_FSUB_CONS_EN (q - 512) && decide (s.rd F.NIB_FSUB_CONS_ENGINE (q - 512) < 10) then some (s.rd F.NIB_FSUB_CONS_ENGINE (q - 512)) else none)
  else none

/-- Queue `q` has something for its engine: a QUEUE event. -/
def State.queueEvent (s : State) (q : Nat) : State :=
  match s.nibConsumer q with
  | some n => s.nibPost n (queueEv q) (fun w => decide (w = queueEv q))
  | none => s

/-- A sink update of port `k` on MVB lane `l` (06 R137): an MVB event to the engine of NIB_MVB_SUB. -/
def State.mvbEvent (s : State) (l k : Nat) : State :=
  if s.on F.NIB_MVB_SUB_EN l && decide (s.rd F.NIB_MVB_SUB_ENGINE l < 10) then
    s.nibPost (s.rd F.NIB_MVB_SUB_ENGINE l) (mvbEv l k) (fun w => decide (w = mvbEv l k))
  else s

/-- The oldest event whose KIND bit is set in `mask` (0 acts as 0xFFFF) is taken (R234); then one OVERFLOW word is posted
when events were lost. -/
def State.nibTake (s : State) (n mask : Nat) : Option (State × Nat) :=
  let e := s.nibEng n
  let m := if mask % 65536 = 0 then 0xFFFF else mask % 65536
  match e.evq.findIdx? (fun w => m.testBit (evKind w)) with
  | none => none
  | some i =>
    let w := e.evq.getD i 0
    let exp := if evKind w = 2 then e.expired.set 0 (w % 4) 0 else e.expired
    let s := s.setNib n { e with evq := e.evq.eraseIdx i, lost := 0, expired := exp }
    some (if e.lost = 0 then s else s.nibPush n (overflowEv e.lost), w)

/-- A consumed frame's receive record waits for HOLD_MS (12 R273): queue `q` is a CPU or Nib queue. -/
def State.tsHold (s : State) (q i : Nat) : State :=
  if 416 ≤ q ∧ q < 512 then
    match s.tsRecs.find i with
    | some r => if r.tx then s else { s with tsRecs := s.tsRecs.put i { r with held := true } }
    | none => s
  else s

end Sys2Proof.Machine
end

