-- ==== Sys2Proof/Machine/Rulers.lean ====
section
/-! DEFINITION. Rulers and network time (spec 12): the time bases, the jump guard, time-stamp records,
the egress report ring and the PPS pins. -/
namespace Sys2Proof.Machine

/-- One second in units of 2^-48 ns. -/
def secUnits : Nat := 1000000000 * 2 ^ 48

/-- The modulus of a Ruler's time: the seconds wrap after 2^48 - 1 (12 R265). -/
def rulerMod : Nat := 2 ^ 48 * secUnits

/-- Ruler `t`. -/
def State.ruler (s : State) (t : Nat) : Ruler := s.rulers.get Ruler.init t

/-- The state with Ruler `t` replaced. -/
def State.setRuler (s : State) (t : Nat) (r : Ruler) : State := { s with rulers := s.rulers.set Ruler.init t r }

/-- Seconds, nanoseconds and the 16-bit fraction of a time (12 R265). -/
def timeSec (x : Nat) : Nat := x / secUnits % 2 ^ 48
def timeNs (x : Nat) : Nat := x / 2 ^ 48 % 1000000000
def timeFrac (x : Nat) : Nat := x / 2 ^ 32 % 2 ^ 16

/-- The time of `sec` seconds, `ns` nanoseconds and a fraction, hidden bits 0. -/
def mkTime (sec ns frac : Nat) : Nat := (sec * secUnits + ns * 2 ^ 48 + frac * 2 ^ 32) % rulerMod

/-- Whether Ruler `t` runs (12 R268). -/
def State.rulerRuns (s : State) (t : Nat) : Bool := s.on F.RUL_CTL_RUN t

/-- ADJ of Ruler `t` as a signed number of 2^-16 ppb. -/
def State.adj (s : State) (t : Nat) : Int := toSigned 40 (s.rd F.RUL_ADJ_ADJ t)

/-- ADJ and ADJ + SLEWRATE stay within 1,000 ppm (12 R266). -/
def clampAdj (x : Int) : Int := max (-65536000000) (min 65536000000 x)

/-- A time moved by a signed number of units, wrapping with the seconds. -/
def moveTime (x : Nat) (d : Int) : Nat := (((x : Int) + d) % (rulerMod : Int)).toNat

/-- A slew ends: nothing is left to add. -/
def Ruler.endSlew (r : Ruler) : Ruler := { r with slewing := false, slewLeft := 0, slewRate := 0 }

/-- What one TCLK edge adds for the slew, in units of 2^-48 ns / 10^9: the part of the limited rate above
ADJ, and never more than what is left. -/
def Ruler.slewPart (r : Ruler) (adj : Int) : Int :=
  if r.slewing then
    let c := (clampAdj (adj + r.slewRate) - adj) * (5 * 2 ^ 31)
    if r.slewLeft.natAbs ≤ c.natAbs then r.slewLeft else c
  else 0

/-- One TCLK edge of a running Ruler (12 R265): the increment 2.5 ns * (1 + (ADJ + SLEWRATE) * 2^-16 * 10^-9)
in units of 2^-48 ns, its rounding remainder carried. -/
def Ruler.tick (r : Ruler) (adj : Int) : Ruler :=
  let part := r.slewPart adj
  let acc : Int := (5 * 2 ^ 31) * (65536 * 1000000000 + adj) + part + (r.err : Int)
  let left := r.slewLeft - part
  { r with
    time := moveTime r.time (acc / 1000000000)
    err := (acc % 1000000000).toNat
    ran := r.ran + acc / 1000000000
    slewLeft := if r.slewing then left else 0 }

/-- The end of a slew whose whole offset has been added (12 R267): SLEW_DONE_EVT. -/
def State.slewEnded (s : State) (t : Nat) : State :=
  ((s.setRuler t (s.ruler t).endSlew).wr F.RUL_STAT_SLEWING t 0).evt F.RUL_STAT_SLEW_DONE_EVT t

/-- One TCLK edge of Ruler `t` when it runs; a slew that has added its whole offset ends. -/
def State.rulerTick (s : State) (t : Nat) : State :=
  if s.rulerRuns t then
    let r := (s.ruler t).tick (s.adj t)
    let s := s.setRuler t r
    if r.slewing && decide (r.slewLeft = 0) then s.slewEnded t else s
  else s

/-- One TCLK edge: every running Ruler advances. -/
def State.rulersTick (s : State) : State := (List.range 8).foldl State.rulerTick s

/-- T0's seconds [31:0] and nanoseconds, as log entries record them. -/
def State.t0Sec (s : State) : Nat := timeSec (s.ruler 0).time % 2 ^ 32
def State.t0Ns (s : State) : Nat := timeNs (s.ruler 0).time

/-- T0 is seeded with the RTC seconds and 0 ns and runs at ADJ 0; T1 to T7 are stopped (03 R67, 12 R268). -/
def State.seedT0 (s : State) (rtc : Nat) : State :=
  ({ s with rulers := Tbl.set [] Ruler.init 0 { Ruler.init with time := mkTime rtc 0 0 } }).wr F.RUL_STAT_RUNNING 0 1

/-- The kinds of change that the jump guard judges (12 R269). -/
inductive Change where
  | step | set | slew | adj
  deriving DecidableEq, Repr

/-- The implied jump of a change, in units of 2^-48 ns (12 R269). -/
def State.impliedJump (s : State) (t : Nat) (c : Change) (newAdj : Int) : Nat :=
  match c with
  | .step | .slew => (toSigned 64 (s.rd F.RUL_OFFSET_OFFSET t)).natAbs * 2 ^ 32
  | .set =>
    ((mkTime (s.rd F.RUL_SET_SEC t) (s.rd F.RUL_SET_NS t) (s.rd F.RUL_SET_FRAC t) : Int)
      - ((s.ruler t).time : Int)).natAbs
  | .adj => (newAdj - s.adj t).natAbs * 2 ^ 32

/-- SLEWRATE in the units of ADJ: OFFSET over SLEW_US microseconds; SLEW_US 0 acts as 1 (12 R267). -/
def State.slewRateOf (s : State) (t : Nat) : Int :=
  toSigned 64 (s.rd F.RUL_OFFSET_OFFSET t) * 1000000 / ((max 1 (s.rd F.RUL_SLEW_SLEW_US t) : Nat) : Int)

/-- Whether the requested slew rate exceeds 1,000 ppm. -/
def State.slewTooFast (s : State) (t : Nat) : Bool :=
  decide ((toSigned 64 (s.rd F.RUL_OFFSET_OFFSET t)).natAbs * 1000000
    > 65536000000 * max 1 (s.rd F.RUL_SLEW_SLEW_US t))

/-- Whether the guard finds the change beyond the limit: the Ruler runs, the limit is not 0, and the
change is not the one that ACCEPT exempted (12 R269, R270). -/
def State.overLimit (s : State) (t : Nat) (c : Change) (newAdj : Int) : Bool :=
  s.rulerRuns t && decide ((s.ruler t).guard ≠ .accepted) && s.on F.RUL_JUMP_LIMIT_LIMIT_NS t
    && decide (s.impliedJump t c newAdj > s.rd F.RUL_JUMP_LIMIT_LIMIT_NS t * 2 ^ 48)

/-- The refusal code of a change to Ruler `t`, 0 when it is applied (12 R267 to R270). T0 refuses every
change with 3; a stopped Ruler refuses a SLEW with 3; a GUARDED running Ruler refuses every change with 2. -/
def State.refuseCode (s : State) (t : Nat) (c : Change) (newAdj : Int) : Nat :=
  if t = 0 then 3
  else if c = .slew ∧ s.rulerRuns t = false then 3
  else if s.rulerRuns t = true ∧ (s.ruler t).guard = .guarded then 2
  else if c = .slew ∧ (s.ruler t).slewing = true then 5
  else if c = .slew ∧ s.slewTooFast t = true then 4
  else if s.overLimit t c newAdj = true then 1
  else 0

/-- A refused change (12 R267, R269): LAST_REFUSE; a refusal by the jump guard counts; a change beyond the
limit also sets GUARD_EVT and GUARDED, is logged, and is reported as NOTE source 0x178 + t. -/
def State.refuseChange (s : State) (t : Nat) (c : Change) (newAdj : Int) (code : Nat) : State :=
  let s := s.wr F.RUL_STAT_LAST_REFUSE t code
  if code = 1 then
    let jump := s.impliedJump t c newAdj / 2 ^ 48
    let s := s.bump F.RUL_CNT_COUNT 4
    let s := (s.evt F.RUL_STAT_GUARD_EVT t).evt F.RUL_STAT_GUARDED t
    let s := s.wr F.RUL_GUARD_LOG_JUMP_NS t (min jump 0xFFFFFFFF)
    let s := s.setRuler t { s.ruler t with guard := .guarded }
    s.report (0x178 + t) (elemId 8 t) (min jump 0xFFFFFFFF)
  else if code = 2 then s.bump F.RUL_CNT_COUNT 4
  else s

/-- The guard after an applied change: an ACCEPT exempts one change only (12 R270). -/
def Ruler.spent (r : Ruler) : Ruler := if r.guard = .accepted then { r with guard := .normal } else r

/-- The first target time after the present time of the Ruler a PPS output follows (12 R281). -/
def State.ppsNextTarget (s : State) (k : Nat) : Option Nat :=
  let t := s.rd F.RUL_PPS_OUT_RULER k
  let off := toSigned 32 (s.rd F.RUL_PPS_OUT_OFFSET_NS k) * (2 ^ 48 : Int)
  let now : Int := ((s.ruler t).time : Int)
  if s.on F.RUL_PPS_OUT_EN k && s.rulerRuns t then
    let n := (now - off) / (secUnits : Int) + 1
    some (moveTime 0 (n * (secUnits : Int) + off))
  else none

/-- A PPS pin. -/
def PpsPin.init : PpsPin := ⟨false, none, none⟩

/-- The targets of the PPS outputs that follow Ruler `t` move to the first one after its new time (12 R281). -/
def State.ppsRetarget (s : State) (t : Nat) : State :=
  (List.range 2).foldl (fun s k =>
    if s.rd F.RUL_PPS_OUT_RULER k = t then
      { s with ppsOut := s.ppsOut.set PpsPin.init k { s.ppsOut.get PpsPin.init k with target := s.ppsNextTarget k } }
    else s) s

/-- A PPS output whose Ruler is stopped or whose EN is 0 is deasserted (12 R281). -/
def State.ppsGate (s : State) : State :=
  (List.range 2).foldl (fun s k =>
    if s.on F.RUL_PPS_OUT_EN k && s.rulerRuns (s.rd F.RUL_PPS_OUT_RULER k) then s
    else { s with ppsOut := s.ppsOut.set PpsPin.init k { s.ppsOut.get PpsPin.init k with asserted := false, target := none } }) s

/-- A STEP or SET is applied: the time takes `x`, a slew ends, STEP_EVT, the Ruler is marked stepped
(12 R267). -/
def State.applyStep (s : State) (t x : Nat) : State :=
  let r := ((s.ruler t).endSlew).spent
  let s := s.setRuler t { r with time := x, stepCount := r.stepCount + 1 }
  ((s.wr F.RUL_STAT_SLEWING t 0).evt F.RUL_STAT_STEP_EVT t).ppsRetarget t

/-- STEP (12 R267). -/
def execRulStep (t : Fin 8) (s : State) : Out :=
  let code := s.refuseCode t .step 0
  if code ≠ 0 then .next (s.refuseChange t .step 0 code)
  else .next (s.applyStep t (moveTime (s.ruler t).time (toSigned 64 (s.rd F.RUL_OFFSET_OFFSET t) * (2 ^ 32 : Int))))

/-- SET (12 R267): the hidden bits become 0. -/
def execRulSet (t : Fin 8) (s : State) : Out :=
  let code := s.refuseCode t .set 0
  if code ≠ 0 then .next (s.refuseChange t .set 0 code)
  else .next (s.applyStep t (mkTime (s.rd F.RUL_SET_SEC t) (s.rd F.RUL_SET_NS t) (s.rd F.RUL_SET_FRAC t)))

/-- SLEW (12 R267): the Ruler starts adding RUL_OFFSET gradually. -/
def execRulSlew (t : Fin 8) (s : State) : Out :=
  let code := s.refuseCode t .slew 0
  if code ≠ 0 then .next (s.refuseChange t .slew 0 code)
  else
    let r := (s.ruler t).spent
    .next ((s.setRuler t { r with
      slewing := true
      slewRate := s.slewRateOf t
      slewLeft := toSigned 64 (s.rd F.RUL_OFFSET_OFFSET t) * (2 ^ 32 : Int) * 1000000000 }).evt F.RUL_STAT_SLEWING t)

/-- ACCEPT (12 R267, R270): it ends GUARDED and exempts the next change; T0 refuses it with code 3. -/
def execRulAccept (t : Fin 8) (s : State) : Out :=
  if t.val = 0 then .next (s.refuseChange 0 .step 0 3)
  else if (s.ruler t).guard = .guarded then
    .next ((s.setRuler t { s.ruler t with guard := .accepted }).wr F.RUL_STAT_GUARDED t 0)
  else .next s

/-- The end of a slew (12 R267): what is left of the offset is added, to what the Ruler's rate has added too (R279), and SLEW_DONE_EVT is
set. -/
def execSlewDone (t : Fin 8) (s : State) : Out :=
  let r := s.ruler t
  if r.slewing then
    .next ((s.setRuler t { r with
      time := moveTime r.time (r.slewLeft / 1000000000), ran := r.ran + r.slewLeft / 1000000000 }).slewEnded t)
  else .next s

/-- A write of RUL_ADJ (12 R266, R269): stored within 1,000 ppm, unless the guard refuses it. T0 ignores it. -/
def execRulAdjWrite (t : Fin 8) (adj : BitVec 40) (s : State) : Out :=
  if t.val = 0 then .next s
  else
    let v := clampAdj (toSigned 40 adj.toNat)
    let code := s.refuseCode t .adj v
    if code ≠ 0 then .next (s.refuseChange t .adj v code)
    else .next ((s.setRuler t (s.ruler t).spent).wr F.RUL_ADJ_ADJ t (ofSigned 40 v))

/-- A write of RUN (12 R268): T1 to T7 start from their current time or stop there; T0 always runs. -/
def execRulRunWrite (t : Fin 8) (run : Bool) (s : State) : Out :=
  if t.val = 0 then .next s
  else .next ((((s.wrb F.RUL_CTL_RUN t run).wrb F.RUL_STAT_RUNNING t run).ppsRetarget t).ppsGate)

/-- A record is freed (12 R273). -/
def State.freeTs (s : State) (i : Nat) : State := { s with tsRecs := s.tsRecs.erase i }

/-- HOLD_MS after its frame was consumed, a receive record is freed (12 R273). -/
def execTsRecordHoldExpiry (idx : Fin 8192) (s : State) : Out :=
  match s.tsRecs.find idx with
  | some r => if r.held && !r.tx then .next (s.freeTs idx) else .next s
  | none => .next s

/-- The records of the reports from ring entry `i` on, `n` entries, are freed. -/
def State.freeReports (s : State) (i : Nat) : Nat → State
  | 0 => s
  | n + 1 =>
    let s' := match s.txRing.find i with
      | some r => s.freeTs r.recIdx
      | none => s
    State.freeReports { s' with txRing := s'.txRing.erase i } ((i + 1) % 1024) n

/-- Software advances RUL_TXQ_TAIL (12 R273, R274): the transmit records of the consumed reports are freed.
The tail moves at most up to HEAD. -/
def execTxqTailWrite (tail : Fin 1024) (s : State) : Out :=
  let old := s.rd F.RUL_TXQ_TAIL_TAIL 0
  let used := (s.rd F.RUL_TXQ_HEAD_HEAD 0 + 1024 - old) % 1024
  let n := min ((tail.val + 1024 - old) % 1024) used
  .next ((s.freeReports old n).wr F.RUL_TXQ_TAIL_TAIL 0 tail)

/-- The up to three lowest Rulers other than T0 that a mask names (12 R271, R282). -/
def capturedRulers (mask : Nat) : List Nat :=
  (((List.range 8).filter (fun t => decide (t ≠ 0) && mask.testBit t)).take 3)

/-- The Rulers now. -/
def State.snap (s : State) : Snap :=
  (List.range 8).map (fun t => ⟨(s.ruler t).time, (s.ruler t).ran, s.rulerRuns t, (s.ruler t).stepCount⟩)

/-- One Ruler of a snapshot. -/
def snapAt (sn : Snap) (t : Nat) : RulerSnap := sn.getD t ⟨0, 0, false, 0⟩

/-- A record of T0 and the Rulers of `mask` as they were at `sn`, with every time moved by `comp` units (12 R271, R275). -/
def recordOf (sn : Snap) (tx : Bool) (port mask : Nat) (comp : Int) : TsRec :=
  let rs := 0 :: capturedRulers mask
  { valid := true, tx := tx, port := port
    captured := rs.foldl setBitN 0
    running := rs.foldl (fun w t => if (snapAt sn t).runs then setBitN w t else w) 0
    times := rs.map (fun t => moveTime (snapAt sn t).time comp)
    held := false
    ran := (List.range 8).map (fun t => (snapAt sn t).ran + comp) }

/-- A record of the time-stamp point `sn` is taken (12 R272): its index, or 0xFFFF with TS_NOREC counted and NOREC_EVT set when none is
free. -/
def State.captureAt (s : State) (sn : Snap) (tx : Bool) (port mask : Nat) (comp : Int) : State × Nat :=
  match s.tsRecs.free 8192 with
  | some i => ({ s with tsRecs := s.tsRecs.put i (recordOf sn tx port mask comp) }, i)
  | none => ((s.bump F.RUL_CNT_COUNT 2).evt F.RUL_TS_STAT_NOREC_EVT 0, 0xFFFF)

/-- A record of this instant is taken. -/
def State.capture (s : State) (tx : Bool) (port mask : Nat) (comp : Int) : State × Nat := s.captureAt s.snap tx port mask comp

/-- A transmit record is announced in the egress report ring (12 R274), or discarded with the report when
the ring is full. -/
def State.egressReport (s : State) (r : TxReport) : State :=
  let h := s.rd F.RUL_TXQ_HEAD_HEAD 0
  if (h + 1) % 1024 = s.rd F.RUL_TXQ_TAIL_TAIL 0 then
    ((s.freeTs r.recIdx).bump F.RUL_CNT_COUNT 3).evt F.RUL_TS_STAT_TXQ_OVF_EVT 0
  else
    ({ s with txRing := s.txRing.put h r }).wr F.RUL_TXQ_HEAD_HEAD 0 ((h + 1) % 1024)

/-- A PPS output reaches its target time (12 R281): the pin is asserted when EN is set and its Ruler runs,
and the next target is a second later. -/
def execPpsOutPulse (k : Fin 2) (s : State) : Out :=
  let p := s.ppsOut.get PpsPin.init k
  if s.on F.RUL_PPS_OUT_EN k && s.rulerRuns (s.rd F.RUL_PPS_OUT_RULER k) then
    let tgt := match p.target with
      | some x => some ((x + secUnits) % rulerMod)
      | none => s.ppsNextTarget k
    .next { s with ppsOut := s.ppsOut.set PpsPin.init k { p with asserted := true, target := tgt } }
  else .next s

/-- The level of a PPS output (12 R281): POL = 1 inverts it; none while the pin is high-impedance, the main die being in reset or
unpowered. -/
def State.ppsLevel (s : State) (k : Nat) : Option Bool :=
  if s.mainUp then some ((s.ppsOut.get PpsPin.init k).asserted != s.on F.RUL_PPS_OUT_POL k) else none

/-- The pulse width has passed (12 R281): the pin is deasserted. -/
def execPpsOutPulseEnd (k : Fin 2) (s : State) : Out :=
  let p := s.ppsOut.get PpsPin.init k
  .next { s with ppsOut := s.ppsOut.set PpsPin.init k { p with asserted := false } }

/-- Whether an edge follows the previous captured one by 1 µs or more (12 R282). -/
def State.edgeFarEnough (s : State) (k : Nat) : Bool :=
  match (s.ppsIn.get PpsPin.init k).lastEdge with
  | some t => decide (t + ticksUs ≤ s.now)
  | none => true

/-- An edge on a PPS input (12 R282): the record of the input's last capture is freed, a new one is taken
with 7.5 ns removed, REC, COUNT, PPS_IN_EVT. -/
def execPpsInEdge (k : Fin 2) (falling : Bool) (s : State) : Out :=
  if s.on F.RUL_PPS_IN_EN k && decide (s.on F.RUL_PPS_IN_EDGE k = falling) && s.edgeFarEnough k then
    let old := s.rd F.RUL_PPS_IN_REC k
    let s := if old = 0xFFFF then s else s.freeTs old
    let (s, i) := s.capture false 0xFF (s.rd F.RUL_PPS_IN_MASK k) (-(15 * 2 ^ 47 : Int))
    let s := (s.wr F.RUL_PPS_IN_REC k i).bump F.RUL_PPS_IN_COUNT k
    let s := (s.evt F.RUL_TS_STAT_PPS_IN_EVT 0).bump F.RUL_CNT_COUNT 5
    .next { s with ppsIn := s.ppsIn.set PpsPin.init k { s.ppsIn.get PpsPin.init k with lastEdge := some s.now } }
  else .next s

/-- A mismatch of a Ruler's two copies (12 R284): T1 to T7 stop with FAULT_EVT, SEVERE; T0 is CRITICAL. -/
def State.copyMismatch (s : State) (t : Nat) : State :=
  let s := s.evt F.RUL_STAT_FAULT_EVT t
  let s := if t = 0 then s else ((s.wr F.RUL_CTL_RUN t 0).wr F.RUL_STAT_RUNNING t 0).ppsGate
  s.reportX (0x170 + t) (elemId 8 t)

/-- A SECDED error in record `i` (12 R284): ECC_EVT; a corrected one counts REC_ECC and is a NOTE, another makes the record read with
VALID 0. -/
def State.recordEcc (s : State) (i : Nat) (corrected : Bool) : State :=
  match s.tsRecs.find i with
  | none => s
  | some r =>
    let s := s.evt F.RUL_TS_STAT_ECC_EVT 0
    if corrected then (s.bump F.RUL_CNT_COUNT 6).reportX 0x180 (elemId 8 0)
    else { s with tsRecs := s.tsRecs.put i { r with valid := false } }

/-- RULER_COPY_MISMATCH: a fault of the Ruler block (12 R284). -/
def execRulerCopyMismatch (what : RulFault) (s : State) : Out :=
  .next (match what with
    | .copy t => s.copyMismatch t
    | .record i corrected => s.recordEcc i corrected)

/-- The counters of the Ruler block are cleared (12 R284). -/
def execRulCntClr (s : State) : Out := .next (s.clearFld F.RUL_CNT_COUNT)

end Sys2Proof.Machine
end

