-- ==== Sys2Proof/Machine/Queues.lean ====
section
/-! DEFINITION. Inkwell, the Reservoir, the 768 queues and the software FIFOs (spec 09). -/
namespace Sys2Proof.Machine

/-! ## Cells, entries and blocks -/

/-- Cells of a frame of `n` bytes (09 R195). -/
def cellsOf (n : Nat) : Nat := (n + 255) / 256

/-- The bank that gives the next cell: from `b` on, the first whose free list is not empty. -/
def InkSt.nextBank (k : InkSt) (b : Nat) : Nat → Option Nat
  | 0 => none
  | n + 1 =>
    if (k.freed.get [] b).isEmpty && decide (4096 ≤ k.fresh.get 0 b) then InkSt.nextBank k ((b + 1) % 32) n
    else some b

/-- One cell is taken, the banks in rotation (09 R195). -/
def InkSt.takeCell (k : InkSt) : InkSt × Option Nat :=
  match k.nextBank k.bank 32 with
  | none => (k, none)
  | some b =>
    let k := { k with bank := (b + 1) % 32, used := k.used + 1 }
    match k.freed.get [] b with
    | c :: t => ({ k with freed := k.freed.set [] b t }, some c)
    | [] => ({ k with fresh := k.fresh.set 0 b (k.fresh.get 0 b + 1) }, some (b + 32 * k.fresh.get 0 b))

/-- `n` cells are taken; fewer when Inkwell is full. -/
def InkSt.takeCells (k : InkSt) : Nat → InkSt × List Nat
  | 0 => (k, [])
  | n + 1 =>
    match k.takeCell with
    | (k, some c) => let r := InkSt.takeCells k n; (r.1, c :: r.2)
    | (k, none) => (k, [])

/-- Cells return to the free lists of their banks. -/
def InkSt.giveCells (k : InkSt) : List Nat → InkSt
  | [] => k
  | c :: t => InkSt.giveCells { k with freed := k.freed.set [] (c % 32) (c :: k.freed.get [] (c % 32)), used := k.used - 1 } t

/-- A queue entry is taken; none when all 131,072 are in use (09 R197). -/
def InkSt.takeEnt (k : InkSt) : InkSt × Option Nat :=
  match k.entFreed with
  | e :: t => ({ k with entFreed := t, entUsed := k.entUsed + 1 }, some e)
  | [] => if k.entFresh < 131072 then ({ k with entFresh := k.entFresh + 1, entUsed := k.entUsed + 1 }, some k.entFresh) else (k, none)

/-- A queue entry is given back. -/
def InkSt.giveEnt (k : InkSt) (e : Nat) : InkSt := { k with entFreed := e :: k.entFreed, entUsed := k.entUsed - 1 }

/-- A Reservoir block is taken (09 R204); `total` blocks exist. -/
def InkSt.takeBlk (k : InkSt) (total : Nat) : InkSt × Option Nat :=
  match k.blkFreed with
  | b :: t => ({ k with blkFreed := t, blkUsed := k.blkUsed + 1 }, some b)
  | [] => if k.blkFresh < total then ({ k with blkFresh := k.blkFresh + 1, blkUsed := k.blkUsed + 1 }, some k.blkFresh) else (k, none)

/-- Blocks return to their free list. -/
def InkSt.giveBlks (k : InkSt) (bs : List Blk) : InkSt :=
  { k with blkFreed := bs.map Blk.num ++ k.blkFreed, blkUsed := k.blkUsed - bs.length }

/-! ## Queues -/

/-- Queue `q`, 0 to 511. -/
def State.queue (s : State) (q : Nat) : Queue := s.queues.get Queue.init q

/-- The state with queue `q` replaced. -/
def State.setQueue (s : State) (q : Nat) (x : Queue) : State := { s with queues := s.queues.set Queue.init q x }

/-- FIFO `f`. -/
def State.fifo (s : State) (f : Nat) : Fifo := s.fifos.get Fifo.init f

/-- The state with FIFO `f` replaced. -/
def State.setFifo (s : State) (f : Nat) (x : Fifo) : State := { s with fifos := s.fifos.set Fifo.init f x }

/-- Whether queue `q` is deep (02 R41). -/
def State.deep (s : State) (q : Nat) : Bool := s.on F.QUE_CFG_DEEP q

/-- Cells of the frame that an entry names. -/
def State.entCells (s : State) (e : QEnt) : Nat :=
  match s.frames.find e.first with
  | some f => f.cells.length
  | none => 0

/-- Cells of a list of entries. -/
def State.entsCells (s : State) (l : List QEnt) : Nat := l.foldl (fun n e => n + s.entCells e) 0

/-- Inkwell cells of the packets of a FIFO. -/
def pktsCells (l : List Pkt) : Nat := l.foldl (fun n p => n + p.cells.length) 0

/-- used_q: the cells of `q` in its pool, for a deep queue its tail only (09 R201). -/
def State.usedQ (s : State) (q : Nat) : Nat :=
  if q < 512 then s.entsCells (if s.deep q then (s.queue q).tail else (s.queue q).head)
  else if s.deep q then pktsCells (s.fifo (q - 512)).tail
  else pktsCells (s.fifo (q - 512)).pkts

/-- CELLS of QUE_DEPTH: Inkwell cells, head and tail. -/
def State.depthCells (s : State) (q : Nat) : Nat :=
  if q < 512 then s.entsCells (s.queue q).head + (s.queue q).asm.length + s.entsCells (s.queue q).tail
  else pktsCells (s.fifo (q - 512)).pkts + (s.fifo (q - 512)).asm.length + pktsCells (s.fifo (q - 512)).tail

/-- BLOCKS of QUE_DEPTH. -/
def State.depthBlocks (s : State) (q : Nat) : Nat :=
  if q < 512 then (s.queue q).blocks.length else (s.fifo (q - 512)).blocks.length

/-- The pool of queue `q`: 0 shared, 1 FIFO (09 R200). -/
def poolOf (q : Nat) : Nat := if q < 512 then 0 else 1

/-- Cells of pool `i` in use: the shared pool gives up a frame's cells once, however many queues hold it; the
recirculation list's frames count there too (09 R198, R201). -/
def State.poolUsed (s : State) (i : Nat) : Nat :=
  if i = 0 then s.frames.foldl (fun n e => if e.2.poolRefs = 0 then n else n + e.2.cells.length) 0
  else s.fifos.foldl (fun n e => n + pktsCells (if s.deep (512 + e.1) then e.2.tail else e.2.pkts)) 0

/-- FREE of QUE_POOL. -/
def State.poolFree (s : State) (i : Nat) : Nat := s.rd F.QUE_POOL_SIZE i - s.poolUsed i

/-- MIN_CELLS of the queues that have one, by queue (09 R200). -/
def State.minCells (s : State) : List (Nat × Nat) :=
  s.regs.filterMap (fun e => if e.1.1 = F.QUE_CFG_MIN_CELLS.id then some (e.1.2, e.2) else none)

/-- The sum of MIN_CELLS over the queues of pool `i`. -/
def State.minSum (s : State) (i : Nat) : Nat :=
  s.minCells.foldl (fun n e => if poolOf e.1 = i then n + e.2 else n) 0

/-- The unused reserve of pool `i`. -/
def State.unusedReserve (s : State) (i : Nat) : Nat :=
  s.minCells.foldl (fun n e => if poolOf e.1 = i then n + (e.2 - s.usedQ e.1) else n) 0

/-- The dynamic free space F (09 R200). -/
def State.dynFree (s : State) (i : Nat) : Int := (s.poolFree i : Int) - (s.unusedReserve i : Int)

/-- The pool test of R201 for `n` cells, with the free space `F` given. -/
def State.poolTest (s : State) (q n : Nat) (yellow : Bool) (F : Int) : Bool :=
  let used := s.usedQ q
  let mn := s.rd Sys2Proof.Machine.F.QUE_CFG_MIN_CELLS q
  let above := used - mn
  let need := (used + n - mn) - above
  let alpha := min 8 (s.rd Sys2Proof.Machine.F.QUE_CFG_ALPHA q)
  decide ((need : Int) ≤ F) && decide (((above + need) * 16 * (if yellow then 2 else 1) : Nat) ≤ (2 ^ alpha : Int) * F)

/-- The port whose link governs queue `q`, if one does: 0 to 39 and the lanes 40 to 63. -/
def queuePort (q : Nat) : Option Nat :=
  if q < 320 then some (q / 8) else if q < 416 then some (40 + (q - 320) / 4) else none

/-- The Scroll group of a port: trunk, access A, access B, lanes (01 R15). -/
def portGroup (p : Nat) : Nat := if p < 8 then 0 else if p < 24 then 1 else if p < 40 then 2 else 3

/-- The management domain of a port group (01 R17). -/
def groupDomain (g : Nat) : Domain := if g = 3 then .fields else .forwarding

/-- The restructure of group `g` runs (02 R54): it has begun, and no port of the group is enabled again. -/
def State.restructRuns (s : State) (g : Nat) : Bool :=
  match (s.recov.of (groupDomain g)).running with
  | some (.restructure h _) => decide (h = g)
  | _ => false

/-- The port belongs to a group that is being restructured (02 R54). -/
def State.portRestructuring (s : State) (p : Nat) : Bool := s.restructRuns (portGroup p)

/-- How queue `q` judges a frame of `n` cells (09 R201): none when it admits it, else the QUE_CNT index that counts
the drop. -/
def State.judge (s : State) (q n : Nat) (yellow : Bool) (F : Int) : Option Nat :=
  let down := match queuePort q with
    | some p => if s.portRestructuring p then some 2 else if s.on Sys2Proof.Machine.F.QUE_PORT_CFG_DOWN_DROP p then some 4 else none
    | none => none
  match down with
  | some k => some k
  | none =>
    if s.rd Sys2Proof.Machine.F.QUE_CFG_DROP_DEPTH q < s.depthCells q + 8 * s.depthBlocks q + n then some 3
    else if s.poolTest q n yellow F && decide (s.ink.entUsed < 131072) then none
    else some 2

/-- A counter of queue `q`. -/
def State.qcnt (s : State) (q k : Nat) : State := s.bump F.QUE_CNT_COUNT (8 * q + k)

/-- Whether admission marks the frame in queue `q` (09 R202). `ecn` is its ECN field. -/
def State.marks (s : State) (q ecn : Nat) : Bool :=
  s.on F.QUE_CFG_MARK_DEPTH q && decide (s.rd F.QUE_CFG_MARK_DEPTH q ≤ s.depthCells q + 8 * s.depthBlocks q)
    && (decide (ecn = 1) || decide (ecn = 2))

/-- An entry leaves the shared pool's part of its queue. -/
def State.unpool (s : State) (first : Nat) : State :=
  match s.frames.find first with
  | some f => { s with frames := s.frames.put first { f with poolRefs := f.poolRefs - 1 } }
  | none => s

/-- Bytes of a stored frame in the blocks: its 32-byte record and its bytes, padded to a multiple of 8. -/
def storedSize (n : Nat) : Nat := (32 + n + 7) / 8 * 8

/-- Cells that the first `done` bytes of stored frames of these lengths fill in the head (09 R203): records take no cell. -/
def asmNeed : List Nat → Nat → Nat
  | [], _ => 0
  | n :: t, done =>
    if storedSize n ≤ done then cellsOf n + asmNeed t (done - storedSize n) else cellsOf (min n (done - 32))

/-- Which of the frames has cell number `i` of those. -/
def asmOwner : List Nat → Nat → Nat
  | [], _ => 0
  | n :: t, i => if i < cellsOf n then 0 else asmOwner t (i - cellsOf n) + 1

/-- Lengths of the frames of queue `q` whose bytes lie in the Reservoir: the middle, and the tail's first one when it is partly written. -/
def State.midLens (s : State) (q : Nat) : List Nat :=
  let x := s.queue q
  x.mid.map (fun m => m.frame.bytes.length)
    ++ (if x.tailOff = 0 then [] else match x.tail with
      | e :: _ => (match s.frames.find e.first with | some f => [f.bytes.length] | none => [])
      | [] => [])

/-- Bytes read back take cells of the head, which has 64 (09 R203). -/
def State.asmFill (s : State) (q : Nat) : State :=
  let x := s.queue q
  let need := asmNeed (s.midLens q) x.midDone - x.asm.length
  let r := s.ink.takeCells (min need (64 - s.entsCells x.head - x.asm.length))
  ({ s with ink := r.1 }).setQueue q { x with asm := x.asm ++ r.2 }

/-- A frame read back from the Reservoir enters the head with the cells that its bytes have taken, and an entry. -/
def State.headIn (s : State) (q : Nat) (m : MidFrame) (cells : List Nat) : State :=
  match cells, s.ink.takeEnt with
  | c :: t, (k, some e) =>
    let s := { s with ink := k, frames := s.frames.put c { m.frame with cells := c :: t, copies := 1, poolRefs := 0 } }
    let x := s.queue q
    s.setQueue q { x with head := x.head ++ [⟨e, c, m.ed⟩] }
  | _, _ => s

/-- Frames whose last byte has been read back, and is in the head's cells, are whole there; `fuel` bounds their number. -/
def State.assemble (s : State) (q : Nat) : Nat → State
  | 0 => s
  | fuel + 1 =>
    let x := s.queue q
    match x.mid with
    | [] => s
    | m :: rest =>
      let n := cellsOf m.frame.bytes.length
      let z := storedSize m.frame.bytes.length
      if z ≤ x.midDone ∧ n ≤ x.asm.length ∧ s.ink.entUsed < 131072 then
        State.assemble ((s.setQueue q { x with mid := rest, midDone := x.midDone - z, asm := x.asm.drop n }).headIn q m (x.asm.take n)) q fuel
      else s

/-- The entries of the tail move to an empty-middle head while they fit its 64 cells (09 R203); `fuel` bounds the
number of frames moved. -/
def State.deepMove (s : State) (q : Nat) : Nat → State
  | 0 => s
  | fuel + 1 =>
    let x := s.queue q
    match x.tail with
    | [] => s
    | e :: t =>
      if x.blocks.isEmpty && x.mid.isEmpty && decide (x.tailOff = 0) && decide (s.entsCells x.head + s.entCells e ≤ 64) then
        State.deepMove ((s.setQueue q { x with head := x.head ++ [e], tail := t }).unpool e.first) q fuel
      else s

/-- The service of a deep queue after any change. -/
def State.deepService (s : State) (q : Nat) : State :=
  if s.deep q then ((s.asmFill q).assemble q (s.queue q).mid.length).deepMove q (s.queue q).tail.length else s

/-- One admitted copy joins the tail of its queue (09 R199); a Nib queue that was empty calls its engine (10 R233). -/
def State.join (s : State) (first : Nat) (d : Dest) : State :=
  match s.ink.takeEnt with
  | (k, some e) =>
    let s := { s with ink := k }
    let x := s.queue d.q
    let ent : QEnt := ⟨e, first, d.ed⟩
    let s := match d.ed.bucket with | some n => { s with enqAt := s.enqAt.put n s.now } | none => s
    let s := s.setQueue d.q (if s.deep d.q then { x with tail := x.tail ++ [ent] } else { x with head := x.head ++ [ent] })
    let s := (s.qcnt d.q 0).deepService d.q
    if x.head.isEmpty && x.mid.isEmpty && x.tail.isEmpty then s.queueEvent d.q else s
  | (_, none) => s

/-- A frame is offered to its queues (09 R201): every queue judges it by the state before the frame; the drops are
counted; the ECN mark is applied; when a queue admits it, or `keep` further references hold it, its cells are taken once,
its record is stored with COPIES, and each copy joins its queue. A copy that finds no free entry is an admission drop (09 R197), and
so is each copy when Inkwell has lost the cells. The answer names its first cell. -/
def State.offerKeep (s : State) (f : Frame) (ecn : Nat) (ds : List Dest) (keep : Nat) : State × Option Nat :=
  let n := cellsOf f.bytes.length
  let F := s.dynFree 0
  let pass := ds.filter (fun d => (s.judge d.q n f.yellow F).isNone)
  let room := if s.ink.used + n ≤ 131072 then 131072 - s.ink.entUsed else 0
  let ok := pass.take room
  let s1 := ds.foldl (fun t d => match s.judge d.q n f.yellow F with | some k => t.qcnt d.q k | none => t) s
  let s1 := (pass.drop room).foldl (fun t d => t.qcnt d.q 2) s1
  if (ok.isEmpty && decide (keep = 0)) || decide (131072 < s.ink.used + n) then (s1, none)
  else
    let marked := ok.filter (fun d => s.marks d.q ecn)
    let s2 := marked.foldl (fun t d => t.qcnt d.q 6) s1
    match s2.ink.takeCells n with
    | (k, c :: t) =>
      let f := { f with cells := c :: t, copies := ok.length + keep, poolRefs := ok.length + keep, ecnCe := !marked.isEmpty }
      (ok.foldl (fun t d => t.join c d) { s2 with ink := k, frames := s2.frames.put c f }, some c)
    | (_, []) => (s2, none)

/-- A frame is offered to its queues alone. -/
def State.offer (s : State) (f : Frame) (ecn : Nat) (ds : List Dest) : State := (s.offerKeep f ecn ds 0).1

/-- Something still refers to a time-stamp record: a frame in Inkwell, in the Reservoir or in a pipeline, or one that
waits for a seal check. -/
def State.tsUsed (s : State) (i : Nat) : Bool :=
  s.frames.any (fun e => decide (e.2.tsIndex = i)) || s.flight.any (fun f => decide (f.tsIndex = i))
    || s.queues.any (fun e => e.2.mid.any (fun m => decide (m.frame.tsIndex = i)))
    || s.sealWait.any (fun w => decide (w.frame.tsIndex = i)) || s.sealHeld.any (fun f => decide (f.tsIndex = i))

/-- The last copy of a frame is finished or dropped (12 R273): its receive record is freed, unless a consumer's hold runs. -/
def State.tsDone (s : State) (i : Nat) : State :=
  match s.tsRecs.find i with
  | some r => if r.held || r.tx || s.tsUsed i then s else s.freeTs i
  | none => s

/-- An entry is finished (09 R197): COPIES falls, and at 0 the frame's cells return. `pooled` says that the entry
still counted against the shared pool. -/
def State.finishRef (s : State) (first : Nat) (pooled : Bool) : State :=
  match s.frames.find first with
  | some f =>
    if f.copies ≤ 1 then State.tsDone { s with frames := s.frames.erase first, ink := s.ink.giveCells f.cells } f.tsIndex
    else { s with frames := s.frames.put first { f with copies := f.copies - 1, poolRefs := f.poolRefs - b2n pooled } }
  | none => s

/-- The same for a queue entry, whose index returns to the entry RAM. -/
def State.finish (s : State) (e : QEnt) (pooled : Bool) : State :=
  let s := { s with ink := s.ink.giveEnt e.entry }
  s.finishRef e.first pooled

/-- An entry of queue `q` is finished; a frame that a CPU or Nib queue held keeps its receive record for HOLD_MS (12 R273). -/
def State.finishIn (s : State) (q : Nat) (e : QEnt) (pooled : Bool) : State :=
  (match s.frames.find e.first with | some f => s.tsHold q f.tsIndex | none => s).finish e pooled

/-- The head frame of queue `q`, if it is whole. -/
def State.headOf (s : State) (q : Nat) : Option (QEnt × Frame) :=
  match (s.queue q).head with
  | [] => none
  | e :: _ => match s.frames.find e.first with
    | some f => some (e, f)
    | none => none

/-- The head entry is taken from queue `q` and counted in DEQ_FRAMES; its frame stays until the entry is finished. -/
def State.take (s : State) (q : Nat) : State :=
  let x := s.queue q
  ((s.setQueue q { x with head := x.head.drop 1 }).qcnt q 1).deepService q

/-- A frame cut by link loss or confirmed in speculation returns to the head of its queue (09 R211, 07 R162). -/
def State.putBack (s : State) (q : Nat) (e : QEnt) : State :=
  let x := s.queue q
  s.setQueue q { x with head := e :: x.head }

/-- The head frame of `q` is dropped, and counted under `k`. -/
def State.dropHead (s : State) (q k : Nat) : State :=
  match s.headOf q with
  | some (e, _) => ((s.take q).finishIn q e (!s.deep q)).qcnt q k
  | none => s

/-- The head of CAN lane queue `q` is no longer the one that has passed the lane's filters and seal (05 R115, 15 R332). -/
def State.forgetHead (s : State) (q : Nat) : State :=
  if 320 ≤ q ∧ q < 416 then
    let n := (q - 320) / 4
    let x := s.can.get CanLane.init n
    { s with can := s.can.set CanLane.init n { x with passed := x.passed.erase ((q - 320) % 4) } }
  else s

/-- The head of a lane queue that its CAN lane has started (09 R210): it stays in its queue until its end. -/
def State.startedHead (s : State) (q : Nat) : List QEnt :=
  if 320 ≤ q ∧ q < 416 then
    match (s.can.get CanLane.init ((q - 320) / 4)).arb, (s.queue q).head with
    | some (.queued r e _), h :: _ => if r = q ∧ e = h then [h] else []
    | _, _ => []
  else []

/-- Every frame that queue `q` holds is dropped, each counted under `k` (09 R210), but for one that its lane has started; its Reservoir
blocks return to the free list without being read. -/
def State.flushQueue (s : State) (q k : Nat) : State :=
  let kept := s.startedHead q
  let s := if kept.isEmpty then s.forgetHead q else s
  let x := s.queue q
  let gone := x.head.drop kept.length
  let n := gone.length + x.mid.length + x.tail.length
  let d := s.deep q
  let s := gone.foldl (fun t e => t.finishIn q e (!d)) s
  let s := x.tail.foldl (fun t e => t.finishIn q e true) s
  let s := { s with ink := (s.ink.giveBlks x.blocks).giveCells x.asm }
  let s := s.setQueue q { Queue.init with head := kept, nextSeq := x.nextSeq, expSeq := x.nextSeq }
  let s := x.mid.foldl (fun t m => (t.tsHold q m.frame.tsIndex).tsDone m.frame.tsIndex) s
  s.bumpBy F.QUE_CNT_COUNT (8 * q + k) n

/-! ## The minimum epoch of a port (08 R192) -/

/-- The egress port of queue `q`: an Ethernet port, a lane, 64 for CPU queues, 65 for Nib queues. -/
def queueEgress (q : Nat) : Nat := if q < 320 then q / 8 else if q < 416 then 40 + (q - 320) / 4 else if q < 448 then 64 else 65

/-- A frame of epoch `e` is too old for port `p`. -/
def State.tooOld (s : State) (p e : Nat) : Bool := serialNewer (s.rd F.TBL_PORT_MIN_EPOCH_MIN p) e

/-- Blocks of which only dropped frames hold bytes return to the free list unread; `fuel` bounds them. -/
def Queue.skipBlocks (x : Queue) : Nat → Queue × List Blk
  | 0 => (x, [])
  | fuel + 1 =>
    match x.blocks with
    | [] => (x, [])
    | b :: rest =>
      if b.fill ≤ x.skip then
        let r := Queue.skipBlocks { x with blocks := rest, skip := x.skip - b.fill, refill := false, expSeq := (x.expSeq + 1) % 2 ^ 32 } fuel
        (r.1, b :: r.2)
      else (x, [])

/-- The first stored frame of queue `q`, of `n` bytes, is dropped without its bytes being read: what has been read of it leaves the head's
cells, the rest is skipped. `y` is the queue without it. -/
def State.dropStored (s : State) (q n : Nat) (y : Queue) : State :=
  let z := storedSize n
  let c := asmNeed [n] y.midDone
  let r := Queue.skipBlocks { y with midDone := y.midDone - z, skip := y.skip + (z - y.midDone), asm := y.asm.drop c } y.blocks.length
  ({ s with ink := (s.ink.giveCells (y.asm.take c)).giveBlks r.2 }).setQueue q r.1

/-- The oldest frame of a deep queue, whose head is empty, is too old: it is dropped from the Reservoir, or from the tail with what the
Reservoir holds of it. Whether one was. -/
def State.pruneStored (s : State) (q : Nat) : State × Bool :=
  let x := s.queue q
  match x.mid, x.tail with
  | m :: rest, _ =>
    if s.tooOld (queueEgress q) m.frame.epoch then
      (((s.dropStored q m.frame.bytes.length { x with mid := rest }).tsDone m.frame.tsIndex).deepService q, true)
    else (s, false)
  | [], e :: t =>
    match s.frames.find e.first with
    | some f =>
      if x.tailOff ≠ 0 ∧ s.tooOld (queueEgress q) f.epoch = true then
        let s := { s with ink := (s.ink.giveCells x.asm).giveBlks x.blocks }
        let s := s.setQueue q { x with tail := t, tailOff := 0, tailBad := false, midDone := 0, skip := 0, asm := [], blocks := [], refill := false, expSeq := x.nextSeq }
        ((s.finish e true).deepService q, true)
      else (s, false)
    | none => (s, false)
  | [], [] => (s, false)

/-- The heads of queue `q` that are too old are dropped, each counted in EPOCH_DROP; so are heads that damage has marked
(09 R218). -/
def State.prune (s : State) (q : Nat) : Nat → State
  | 0 => s
  | fuel + 1 =>
    match s.headOf q with
    | some (e, f) =>
      if s.tooOld (queueEgress q) f.epoch then
        State.prune ((((s.take q).finishIn q e (!s.deep q)).bump F.TBL_CNT_COUNT 14)) q fuel
      else if f.damaged then State.prune (s.dropHead q 7) q fuel
      else s
    | none =>
      let r := s.pruneStored q
      if (s.queue q).head.isEmpty && r.2 then State.prune (r.1.bump F.TBL_CNT_COUNT 14) q fuel else s

/-- The head of queue `q` after such drops. -/
def State.pruned (s : State) (q : Nat) : State :=
  let x := s.queue q
  s.prune q (x.head.length + x.mid.length + x.tail.length)

/-! ## The head of a FIFO (09 R214) -/

/-- CT_THRESHOLD as it acts: rounded up to a multiple of 4, at least 4. -/
def State.ctThreshold (s : State) (f : Nat) : Nat := max 4 ((s.rd F.QUE_FIFO_CFG_CT_THRESHOLD f + 3) / 4 * 4)

/-- Framing CUT_THROUGH (09 R214). -/
def State.cutThrough (s : State) (f : Nat) : Bool := s.on F.QUE_FIFO_CFG_FRAMING f

/-- Whether packet `p` is visible at the head (09 R214). -/
def State.pktVisible (s : State) (f : Nat) (p : Pkt) : Bool :=
  !p.isOpen || (s.cutThrough f && decide (s.ctThreshold f ≤ p.bytes.length))

/-- The packet at the head of the FIFO: the oldest packet, when no older one waits in the Reservoir or its tail. -/
def Fifo.headPkt (x : Fifo) : Option Pkt :=
  match x.pkts with
  | p :: _ => some p
  | [] => if x.blocks.isEmpty && x.mid.isEmpty then x.tail.head? else none

/-- The visible head packet. -/
def State.fifoHead (s : State) (f : Nat) : Option Pkt :=
  match (s.fifo f).headPkt with
  | some p => if s.pktVisible f p then some p else none
  | none => none

/-- What a change of FIFO `f` means to its engine: a head packet that becomes visible calls it (10 R233). -/
def State.fifoWatch (s : State) (f : Nat) (t : State) : State :=
  if (s.fifoHead f).isNone && (t.fifoHead f).isSome then t.queueEvent (512 + f) else t

/-! ## The Reservoir (09 R203 to R206) -/

/-- Content bytes of a block after its header. -/
def blkRoom : Nat := 1904

/-- Frames of a stream that end within `n` bytes of it: how many, and the bytes left over for the next one. -/
def wholeFrames : List Nat → Nat → Nat × Nat
  | [], n => (0, n)
  | z :: t, n => if z ≤ n then let r := wholeFrames t (n - z); (r.1 + 1, r.2) else (0, n)

/-- FIRST of a block: the offset of the first record that starts in it. `off` bytes of the first frame lie in
earlier blocks. -/
def firstRecord (sizes : List Nat) (off fill : Nat) : Nat :=
  if off = 0 then 0
  else match sizes with
    | z :: _ :: _ => if z - off < fill then z - off else 0xFFFF
    | _ => 0xFFFF

/-- Sizes of the frames of a deep queue's tail. -/
def State.tailSizes (s : State) (q : Nat) : List Nat :=
  (s.queue q).tail.map (fun e => match s.frames.find e.first with | some f => storedSize f.bytes.length | none => 0)

/-- Queue blocks of the Reservoir: TOTAL of RSV_BLOCKS (09 R204). -/
def State.rsvTotal (s : State) : Nat := s.rd F.RSV_BLOCKS_TOTAL 0

/-- A spill finds no free block (09 R206): RSV_FULL is counted once a stall. -/
def State.rsvFull (s : State) (counted : Bool) : State :=
  if counted then s else (s.bump F.RSV_CNT_COUNT 5).evt F.QUE_STAT_RSV_FULL_EVT 0

/-- The tail of deep queue `q` is written to one block (09 R203): frames written to their end leave Inkwell. -/
def State.spill (s : State) (q : Nat) : State :=
  let x := s.queue q
  let sizes := s.tailSizes q
  let avail := sizes.foldl (· + ·) 0 - x.tailOff
  let fits := match x.tail with
    | [] => true
    | e :: _ => x.blocks.isEmpty && x.mid.isEmpty && decide (x.tailOff = 0) && decide (s.entsCells x.head + s.entCells e ≤ 64)
  if !(s.deep q) || fits then s
  else match s.ink.takeBlk s.rsvTotal with
    | (_, none) => (s.rsvFull x.stalled).setQueue q { x with stalled := true }
    | (k, some b) =>
      let fill := min blkRoom avail
      let r := wholeFrames sizes (x.tailOff + fill)
      let gone := x.tail.take r.1
      let moved := gone.filterMap (fun e => match s.frames.find e.first with
        | some f => some (⟨f, e.ed⟩ : MidFrame) | none => none)
      let moved := match moved with
        | m :: l => { m with frame := { m.frame with damaged := m.frame.damaged || x.tailBad } } :: l
        | [] => []
      let y := { x with
        mid := x.mid ++ moved
        blocks := x.blocks ++ [({ num := b, fill := fill, first := firstRecord sizes x.tailOff fill, seq := x.nextSeq } : Blk)]
        tail := x.tail.drop r.1, tailOff := r.2, tailBad := x.tailBad && decide (r.1 = 0)
        nextSeq := (x.nextSeq + 1) % 2 ^ 32, stalled := false }
      let s := ({ s with ink := k }).setQueue q y
      let s := gone.foldl (fun t e => t.finish e true) s
      s.bump F.RSV_CNT_COUNT 0

/-- RSV_ECC_LOG records an error (09 R206). -/
def State.rsvLog (s : State) (uncorr : Bool) (unit blk q : Nat) : State :=
  (((s.wrb F.RSV_ECC_LOG_UNCORR 0 uncorr).wr F.RSV_ECC_LOG_UNIT 0 unit).wr F.RSV_ECC_LOG_BLOCK 0 blk).wr F.RSV_ECC_LOG_QUEUE 0 q

/-- Frames of these lengths that `done` bytes hold whole: how many, and their bytes. -/
def readBack : List Nat → Nat → Nat × Nat
  | [], _ => (0, 0)
  | n :: t, done => if storedSize n ≤ done then let r := readBack t (done - storedSize n); (r.1 + 1, r.2 + storedSize n) else (0, 0)

/-- The chain of queue `q` is broken (09 R206): the rest of the middle and the tail are dropped as DAMAGE_DROP, and
the blocks return to the free list. Frames of the head, and those read back whole, stay: they lie before the damage. -/
def State.chainDamage (s : State) (q : Nat) : State :=
  let x := s.queue q
  let r := readBack (x.mid.map (fun m => m.frame.bytes.length)) x.midDone
  let lost := x.mid.drop r.1
  let c := asmNeed (s.midLens q) r.2
  let s := x.tail.foldl (fun t e => t.finish e true) s
  let s := { s with ink := (s.ink.giveBlks x.blocks).giveCells (x.asm.drop c) }
  let s := s.setQueue q { Queue.init with
    head := x.head, mid := x.mid.take r.1, midDone := r.2, asm := x.asm.take c, nextSeq := x.nextSeq, expSeq := x.nextSeq }
  let s := lost.foldl (fun t m => t.tsDone m.frame.tsIndex) s
  let s := s.bumpBy F.QUE_CNT_COUNT (8 * q + 7) (lost.length + x.tail.length)
  (s.evt F.QUE_STAT_RSV_UNCORR_EVT 0).reportX 0x142 (elemId 5 q)

/-- Damage in the bytes of unit `u` of the block being read: the frames of the middle that lie there are dropped. -/
def dropDamaged (sizes : List Nat) (lo hi acc : Nat) : List Bool :=
  match sizes with
  | [] => []
  | z :: t => (decide (acc < hi) && decide (lo < acc + z)) :: dropDamaged t lo hi (acc + z)

/-- The bytes of the middle, from where to before where, that a bad unit of the block being read held: unit 0 begins with the block
header, and `off` bytes of the middle came before the block (`skip` bytes of it are not wanted, 08 R192). Nothing for a good read. -/
def damageAt (r : RefillResult) (off fill : Nat) : Nat × Nat :=
  match r with
  | .bytes u => (off + (60 * u - 16), off + min (60 * u + 44) fill)
  | _ => (0, 0)

/-- The oldest block of queue `q` has been read. -/
def State.blockRead (s : State) (q : Nat) (r : RefillResult) : State :=
  let x := s.queue q
  match x.blocks with
  | [] => s
  | b :: rest =>
    match r with
    | .header u =>
      (((s.rsvLog true u b.num q).bump F.RSV_CNT_COUNT 3)).chainDamage q
    | .seq v =>
      if v = x.expSeq then s
      else (((s.rsvLog true 0 b.num q).bump F.RSV_CNT_COUNT 4)).chainDamage q
    | _ =>
      let s := match r with
        | .corrected u => ((s.rsvLog false u b.num q).bump F.RSV_CNT_COUNT 2).reportX 0x141 (elemId 5 q)
        | .bytes u => (((s.rsvLog true u b.num q).bump F.RSV_CNT_COUNT 3)).evt F.QUE_STAT_RSV_UNCORR_EVT 0
        | _ => s
      let sizes := x.mid.map (fun m => storedSize m.frame.bytes.length)
      let d := damageAt r x.midDone b.fill
      let d := (d.1 - x.skip, d.2 - x.skip)
      let bad := dropDamaged sizes d.1 d.2 0
      let tailHit := decide (sizes.foldl (· + ·) 0 < d.2)
      let y := { x with
        mid := (x.mid.zip bad).map (fun mb => if mb.2 then { mb.1 with frame := { mb.1.frame with damaged := true } } else mb.1)
        midDone := x.midDone + (b.fill - x.skip), skip := 0, blocks := rest, refill := false
        expSeq := (x.expSeq + 1) % 2 ^ 32, tailBad := x.tailBad || tailHit }
      let s := ({ s with ink := s.ink.giveBlks [b] }).setQueue q y
      (s.bump F.RSV_CNT_COUNT 1).deepService q

/-! ## Flushes and link loss (09 R210, R211) -/

/-- The classes of port `p`'s queues: 8 of an Ethernet port, 4 of a lane. -/
def portQueues (p : Nat) : List Nat :=
  if p < 40 then (List.range 8).map (fun c => 8 * p + c) else (List.range 4).map (fun c => 320 + 4 * (p - 40) + c)

/-- The linger of port `p` ends (09 R211 step 5): every class is flushed, and arrivals are dropped until the link
returns. -/
def State.lingerEnd (s : State) (p : Nat) : State :=
  let s := (portQueues p).foldl (fun t q => t.flushQueue q 5) s
  (s.wr F.QUE_PORT_CFG_LINGERING p 0).wr F.QUE_PORT_CFG_DOWN_DROP p 1

/-- The link of port `p` goes down (09 R211): the classes of STALE_FLUSH are flushed at once, the others linger; a
PORT_LINGER of 0 flushes at once. `noLinger` is a restructure. -/
def State.queuesDown (s : State) (p : Nat) (noLinger : Bool) : State :=
  let stale := (portQueues p).filter (fun q => s.bit F.QUE_PORT_CFG_STALE_FLUSH p (if p < 40 then q % 8 else q % 4))
  let s := stale.foldl (fun t q => t.flushQueue q 5) s
  if noLinger || decide (s.rd F.QUE_PORT_CFG_PORT_LINGER p = 0) then s.lingerEnd p
  else s.wr F.QUE_PORT_CFG_LINGERING p 1

/-- The link of port `p` returns: what was kept leaves first; arrivals are admitted again. -/
def State.queuesUp (s : State) (p : Nat) : State :=
  (s.wr F.QUE_PORT_CFG_LINGERING p 0).wr F.QUE_PORT_CFG_DOWN_DROP p 0

/-- QUE_FLUSH with GO (09 R210): ignored above queue 511, and as a whole while a flush runs. Every frame that the
queue holds lies before the boundary. -/
def execQueFlushGo (q : Nat) (s : State) : Out :=
  .next (if 511 < q ∨ s.on F.QUE_FLUSH_GO 0 = true then s
    else ((s.flushQueue q 5).wr F.QUE_FLUSH_QUEUE 0 q).wr F.QUE_FLUSH_GO 0 1)

/-- The flush is done (09 R210): GO reads 0. -/
def execQueFlushDone (s : State) : Out := .next (s.wr F.QUE_FLUSH_GO 0 0)

/-- PORT_LINGER has passed (09 R211). -/
def execLingerEnd (p : Fin 64) (s : State) : Out :=
  .next (if s.on F.QUE_PORT_CFG_LINGERING p && !s.gated then s.lingerEnd p else s)

/-- A write of QUE_CFG[q] (09 R200): refused whole, with MIN_REFUSED_EVT, when MIN_CELLS would bring the sum above
half of its pool. -/
def execQueCfgWrite (q : Fin 768) (minCells : BitVec 18) (alpha : BitVec 4) (mark drop : BitVec 26) (s : State) : Out :=
  let pool := poolOf q
  let sum := s.minSum pool - s.rd F.QUE_CFG_MIN_CELLS q + minCells.toNat
  .next (if s.rd F.QUE_POOL_SIZE pool < 2 * sum then s.evt F.QUE_STAT_MIN_REFUSED_EVT 0
    else (((s.wr F.QUE_CFG_MIN_CELLS q minCells.toNat).wr F.QUE_CFG_ALPHA q alpha.toNat).wr
      F.QUE_CFG_MARK_DEPTH q mark.toNat).wr F.QUE_CFG_DROP_DEPTH q drop.toNat)

/-- A deep queue's tail frames are packed into a block (09 R203); for a deep FIFO its committed packets. -/
def Fifo.spillable (x : Fifo) : List Pkt := x.tail.takeWhile (fun p => !p.isOpen)

/-- Stored size of a packet: record, length word and payload. -/
def pktSize (p : Pkt) : Nat := storedSize (4 + p.bytes.length)

/-- Packets move from the tail of a deep FIFO to its head while the middle is empty and they fit (09 R203). -/
def Fifo.move (x : Fifo) : Nat → Fifo
  | 0 => x
  | fuel + 1 =>
    match x.tail with
    | [] => x
    | p :: t =>
      if x.blocks.isEmpty && x.mid.isEmpty && decide (x.tailOff = 0) && decide (pktsCells x.pkts + p.cells.length ≤ 64) && !p.isOpen then
        Fifo.move { x with pkts := x.pkts ++ [p], tail := t } fuel
      else x

/-- Lengths in the Reservoir of the packets of FIFO `f` whose bytes lie there. -/
def Fifo.midLens (x : Fifo) : List Nat :=
  (x.mid ++ (if x.tailOff = 0 then [] else x.tail.take 1)).map (fun p => 4 + p.bytes.length)

/-- Bytes read back take cells of the head, which has 64 (09 R203). -/
def State.fifoFill (s : State) (f : Nat) : State :=
  let x := s.fifo f
  let need := asmNeed x.midLens x.midDone - x.asm.length
  let r := s.ink.takeCells (min need (64 - pktsCells x.pkts - x.asm.length))
  ({ s with ink := r.1 }).setFifo f { x with asm := x.asm ++ r.2 }

/-- Packets whose last byte has been read back are whole in the head. -/
def Fifo.assemble (x : Fifo) : Nat → Fifo
  | 0 => x
  | fuel + 1 =>
    match x.mid with
    | [] => x
    | p :: rest =>
      let n := cellsOf (4 + p.bytes.length)
      if pktSize p ≤ x.midDone ∧ n ≤ x.asm.length then
        Fifo.assemble { x with mid := rest, midDone := x.midDone - pktSize p, asm := x.asm.drop n, pkts := x.pkts ++ [{ p with cells := x.asm.take n }] } fuel
      else x

/-- The FIFO with its head packet replaced; without its head packet. -/
def Fifo.dropHead (x : Fifo) : Fifo :=
  match x.pkts with
  | _ :: t => { x with pkts := t }
  | [] => { x with tail := x.tail.drop 1 }

/-- Packets that damage has marked are dropped at the head (09 R206, R218), each counted in DAMAGE_DROP. -/
def State.fifoPrune (s : State) (f : Nat) : Nat → State
  | 0 => s
  | fuel + 1 =>
    match (s.fifo f).headPkt with
    | some p =>
      if p.bad && !p.isOpen then
        State.fifoPrune ((({ s with ink := s.ink.giveCells p.cells }).setFifo f (s.fifo f).dropHead).qcnt (512 + f) 7) f fuel
      else s
    | none => s

/-- The service of a FIFO after any change. -/
def State.fifoService (s : State) (f : Nat) : State :=
  let s := if s.deep (512 + f) then
      let s := s.fifoFill f
      let x := (s.fifo f).assemble (s.fifo f).mid.length
      s.setFifo f (x.move x.tail.length)
    else s
  s.fifoPrune f ((s.fifo f).pkts.length + (s.fifo f).tail.length)

/-- The tail of a deep FIFO is written to one block. -/
def State.fifoSpill (s : State) (f : Nat) : State :=
  let x := s.fifo f
  let cand := x.spillable
  let sizes := cand.map pktSize
  let avail := sizes.foldl (· + ·) 0 - x.tailOff
  if !(s.deep (512 + f)) || decide (avail = 0) then s
  else match s.ink.takeBlk s.rsvTotal with
    | (_, none) => (s.rsvFull x.stalled).setFifo f { x with stalled := true }
    | (k, some b) =>
      let fill := min blkRoom avail
      let r := wholeFrames sizes (x.tailOff + fill)
      let gone := cand.take r.1
      let k := gone.foldl (fun k p => k.giveCells p.cells) k
      (({ s with ink := k }).setFifo f { x with
        mid := x.mid ++ gone.map (fun (p : Pkt) => { p with cells := [] })
        blocks := x.blocks ++ [({ num := b, fill := fill, first := firstRecord sizes x.tailOff fill, seq := x.nextSeq } : Blk)]
        tail := x.tail.drop r.1, tailOff := r.2
        nextSeq := (x.nextSeq + 1) % 2 ^ 32, stalled := false }).bump F.RSV_CNT_COUNT 0

/-- The oldest block of a deep FIFO has been read. -/
def State.fifoBlockRead (s : State) (f : Nat) (r : RefillResult) : State :=
  let x := s.fifo f
  match x.blocks with
  | [] => s
  | b :: rest =>
    let damage (s : State) : State :=
      let n := readBack x.midLens x.midDone
      let c := asmNeed x.midLens n.2
      let k := ((s.ink.giveBlks x.blocks).giveCells ((x.tail.filter (fun p => !p.isOpen)).flatMap Pkt.cells)).giveCells (x.asm.drop c)
      let gone := (x.mid.length - n.1) + (x.tail.filter (fun p => !p.isOpen)).length
      let s := ({ s with ink := k }).setFifo f { x with
        mid := x.mid.take n.1, midDone := n.2, asm := x.asm.take c, blocks := [], tail := x.tail.filter (fun p => p.isOpen), tailOff := 0
        expSeq := x.nextSeq, refill := false }
      ((s.bumpBy F.QUE_CNT_COUNT (8 * (512 + f) + 7) gone).evt F.QUE_STAT_RSV_UNCORR_EVT 0).reportX 0x142 (elemId 5 (512 + f))
    match r with
    | .header u => damage ((s.rsvLog true u b.num (512 + f)).bump F.RSV_CNT_COUNT 3)
    | .seq v => if v = x.expSeq then s else damage ((s.rsvLog true 0 b.num (512 + f)).bump F.RSV_CNT_COUNT 4)
    | _ =>
      let s := match r with
        | .corrected u => ((s.rsvLog false u b.num (512 + f)).bump F.RSV_CNT_COUNT 2).reportX 0x141 (elemId 5 (512 + f))
        | .bytes u => ((s.rsvLog true u b.num (512 + f)).bump F.RSV_CNT_COUNT 3).evt F.QUE_STAT_RSV_UNCORR_EVT 0
        | _ => s
      let sizes := x.mid.map pktSize
      let d := damageAt r x.midDone b.fill
      let mid := (x.mid.zip (dropDamaged sizes d.1 d.2 0)).map (fun m => { m.1 with bad := m.1.bad || m.2 })
      let tail := match x.tail with
        | p :: l => { p with bad := p.bad || decide (sizes.foldl (· + ·) 0 < d.2) } :: l
        | [] => []
      (({ s with ink := s.ink.giveBlks [b] }).setFifo f { x with
        mid := mid, midDone := x.midDone + b.fill, tail := tail, blocks := rest, refill := false, expSeq := (x.expSeq + 1) % 2 ^ 32 }).bump
        F.RSV_CNT_COUNT 1

/-- A deep queue's tail is spilled into one block (09 R203): when the tail fills a block or its oldest frame has
waited 2 µs. -/
def execSpillBlockWrite (q : Fin 768) (s : State) : Out :=
  .next (if q.val < 512 then s.spill q else s.fifoWatch (q - 512) ((s.fifoSpill (q - 512)).fifoService (q - 512)))

/-- The oldest block of `q` is requested (09 R203): the middle is not empty and the head has 8 free cells. -/
def execRefillRequest (q : Fin 768) (s : State) : Out :=
  .next (if q.val < 512 then
    let s := s.pruned q
    let x := s.queue q
    if s.deep q && !x.blocks.isEmpty && decide (s.entsCells x.head + x.asm.length + 8 ≤ 64) then s.setQueue q { x with refill := true } else s
  else
    let x := s.fifo (q - 512)
    if s.deep q && !x.blocks.isEmpty && decide (pktsCells x.pkts + x.asm.length + 8 ≤ 64) then s.setFifo (q - 512) { x with refill := true } else s)

/-- A requested block has been read (09 R205, R206). -/
def execRefillDone (q : Fin 768) (r : RefillResult) (s : State) : Out :=
  .next (if q.val < 512 then (if (s.queue q).refill then s.blockRead q r else s)
    else (if (s.fifo (q - 512)).refill then s.fifoWatch (q - 512) ((s.fifoBlockRead (q - 512) r).fifoService (q - 512)) else s))

/-- A fault of the LPDDR5X controller stops both channels (09 R206): CRITICAL against the device. -/
def execReservoirControllerFault (s : State) : Out := .next (s.reportX 0x002 elemDevice)

/-! ## Software FIFOs (09 R212 to R217) -/

/-- The length word of a packet (09 R213). -/
def Pkt.word (p : Pkt) : Nat :=
  if p.isOpen then 0xFFFFFFFF
  else if p.aborted then 2 ^ 31 + 2 ^ 30 + p.bytes.length
  else 2 ^ 31 + p.flags % 64 * 2 ^ 24 + p.bytes.length

/-- LAST_PROD. -/
def State.lastProd (s : State) (f v : Nat) : State := s.wr F.QUE_FIFO_STAT_LAST_PROD f v

/-- The packets of a FIFO in order, where the newest may be open: the list the newest is in. -/
def Fifo.pushPkt (x : Fifo) (deep : Bool) (p : Pkt) : Fifo :=
  if deep then { x with tail := x.tail ++ [p] } else { x with pkts := x.pkts ++ [p] }

/-- The newest packet, and the FIFO with it replaced or removed. -/
def Fifo.newest (x : Fifo) (deep : Bool) : Option Pkt := if deep then x.tail.getLast? else x.pkts.getLast?
def Fifo.dropNewest (x : Fifo) (deep : Bool) : Fifo :=
  if deep then { x with tail := x.tail.dropLast } else { x with pkts := x.pkts.dropLast }
def Fifo.setNewest (x : Fifo) (deep : Bool) (p : Pkt) : Fifo := (x.dropNewest deep).pushPkt deep p

/-- FLUSH of FIFO `f` reads 0 once no packet from before the boundary is left (09 R217). -/
def State.flushCheck (s : State) (f : Nat) : State :=
  let x := s.fifo f
  if (x.pkts ++ x.mid ++ x.tail).any Pkt.flushed then s else s.wr F.QUE_FIFO_FLUSH_FLUSH f 0

/-- The newest packet is freed and counted in FLUSH_DROP. -/
def State.freeNewest (s : State) (f : Nat) : State :=
  let x := s.fifo f
  let d := s.deep (512 + f)
  match x.newest d with
  | some p => ((({ s with ink := s.ink.giveCells p.cells }).setFifo f (x.dropNewest d)).qcnt (512 + f) 5).flushCheck f
  | none => s

/-- The open packet ends: aborted or committed with FLAGS. A LENGTH_FIRST packet that is aborted, or one before a
flush boundary that is not in consumption, is freed (09 R214, R217). -/
def State.endPkt (s : State) (f : Nat) (p : Pkt) : State :=
  let s := s.setFifo f ((s.fifo f).setNewest (s.deep (512 + f)) p)
  if (p.flushed && !p.inCons) || (p.aborted && !s.cutThrough f) then s.freeNewest f
  else (s.fifoService f).flushCheck f

/-- OPEN (09 R212): refused while a packet is open. -/
def State.fifoOpen (s : State) (f : Nat) : State :=
  let x := s.fifo f
  if x.prod ≠ .none then s.lastProd f 4
  else
    let y := x.pushPkt (s.deep (512 + f)) ⟨[], true, false, 0, false, false, [], false⟩
    s.setFifo f { y with prod := .building }

/-- The device aborts the open packet (09 R216): LAST_PROD, ADMIT_DROP, FIFO_ABORT_EVT. -/
def State.autoAbort (s : State) (f : Nat) (p : Pkt) (code : Nat) : State :=
  let s := s.setFifo f { s.fifo f with prod := .dead }
  let s := (s.endPkt f { p with isOpen := false, aborted := true }).lastProd f code
  (s.qcnt (512 + f) 2).evt F.QUE_STAT_FIFO_ABORT_EVT 0

/-- Whether a FIFO may take one more cell (09 R216): the pool test of R201 and DROP_DEPTH. -/
def State.fifoAdmits (s : State) (f : Nat) : Bool :=
  let q := 512 + f
  decide (s.depthCells q + 8 * s.depthBlocks q + 1 ≤ s.rd F.QUE_CFG_DROP_DEPTH q) && s.poolTest q 1 false (s.dynFree 1)

/-- A DATA write (09 R212, R216): four payload bytes. -/
def State.fifoData (s : State) (f : Nat) (w : Word) : State :=
  let x := s.fifo f
  let d := s.deep (512 + f)
  match x.prod, x.newest d with
  | .building, some p =>
    let n := p.bytes.length + 4
    if 16380 < n then s.autoAbort f p 6
    else if cellsOf (4 + n) ≤ p.cells.length then s.setFifo f (x.setNewest d { p with bytes := p.bytes ++ leBytes 4 w.toNat })
    else if s.fifoAdmits f then
      match s.ink.takeCell with
      | (k, some c) => ({ s with ink := k }).setFifo f (x.setNewest d { p with bytes := p.bytes ++ leBytes 4 w.toNat, cells := p.cells ++ [c] })
      | (_, none) => s.autoAbort f p 3
    else s.autoAbort f p 3
  | .dead, _ => s
  | _, _ => s.lastProd f 5

/-- COMMIT (09 R212): the length is the bytes appended less TRIM. -/
def State.fifoCommit (s : State) (f flags trim : Nat) : State :=
  let x := s.fifo f
  match x.prod, x.newest (s.deep (512 + f)) with
  | .building, some p =>
    let s := s.setFifo f { x with prod := .none }
    ((s.qcnt (512 + f) 0).endPkt f { p with isOpen := false, flags := flags, bytes := p.bytes.take (p.bytes.length - trim) }).lastProd f 1
  | .dead, _ => s.setFifo f { x with prod := .none }
  | _, _ => s.lastProd f 5

/-- ABORT (09 R212). -/
def State.fifoAbort (s : State) (f : Nat) : State :=
  let x := s.fifo f
  match x.prod, x.newest (s.deep (512 + f)) with
  | .building, some p =>
    let s := s.setFifo f { x with prod := .none }
    (s.endPkt f { p with isOpen := false, aborted := true }).lastProd f 2
  | .dead, _ => s.setFifo f { x with prod := .none }
  | _, _ => s.lastProd f 5

/-- The head packet with `g` applied. -/
def Fifo.onHead (x : Fifo) (g : Pkt → Pkt) : Fifo :=
  match x.pkts with
  | p :: t => { x with pkts := g p :: t }
  | [] => match x.tail with
    | p :: t => { x with tail := g p :: t }
    | [] => x

/-- What a read at offset `off` of the consume window returns (09 R215). -/
def State.fifoWindow (s : State) (f off : Nat) : Nat :=
  match s.fifoHead f with
  | none => 0
  | some p => if off = 0 then p.word else leNat ((p.bytes.drop (off - 4)).take 4)

/-- A read of the consume window puts the visible head packet in consumption. -/
def State.fifoConsume (s : State) (f : Nat) : State :=
  match s.fifoHead f with
  | none => s
  | some _ => s.setFifo f ((s.fifo f).onHead (fun p => { p with inCons := true }))

/-- POP (09 R215): ignored while no packet is visible and while the head packet is pending. -/
def State.fifoPop (s : State) (f : Nat) : State :=
  match s.fifoHead f with
  | none => s
  | some p =>
    if p.isOpen then s
    else
      let s := ({ s with ink := s.ink.giveCells p.cells }).setFifo f (s.fifo f).dropHead
      ((s.qcnt (512 + f) 1).fifoService f).flushCheck f

/-- A flush of FIFO `f` (09 R217): the packets before the boundary are freed, but the open one and one in
consumption are marked. -/
def State.fifoFlush (s : State) (f : Nat) : State :=
  let x := s.fifo f
  let all := x.pkts ++ x.mid ++ x.tail
  let keep := all.filter (fun p => p.isOpen || p.inCons)
  let gone := all.filter (fun p => !(p.isOpen || p.inCons))
  let keep' := keep.map (fun p => { p with flushed := true })
  let k := ((s.ink.giveBlks x.blocks).giveCells (gone.flatMap Pkt.cells)).giveCells x.asm
  let deep := s.deep (512 + f)
  let y : Fifo := { x with
    pkts := if deep then keep'.filter (fun p => !p.isOpen) else keep'
    tail := if deep then keep'.filter (fun p => p.isOpen) else []
    mid := [], midDone := 0, asm := [], blocks := [], tailOff := 0, expSeq := x.nextSeq, refill := false }
  let s := ({ s with ink := k }).setFifo f y
  (((s.bumpBy F.QUE_CNT_COUNT (8 * (512 + f) + 5) gone.length)).wr F.QUE_FIFO_FLUSH_FLUSH f 1).flushCheck f

/-- FIFO_OPEN. -/
def execFifoOpen (f : Fin 256) (s : State) : Out := .next (s.fifoWatch f (s.fifoOpen f))

/-- FIFO_DATA. -/
def execFifoData (f : Fin 256) (w : Word) (s : State) : Out := .next (s.fifoWatch f (s.fifoData f w))

/-- FIFO_COMMIT. -/
def execFifoCommit (f : Fin 256) (flags : BitVec 6) (trim : BitVec 2) (s : State) : Out :=
  .next (s.fifoWatch f (s.fifoCommit f flags.toNat trim.toNat))

/-- FIFO_ABORT. -/
def execFifoAbort (f : Fin 256) (s : State) : Out := .next (s.fifoWatch f (s.fifoAbort f))

/-- A read of the consume window (09 R215), answered to its initiator. -/
def execFifoConsumeRead (ini : Initiator) (f : Fin 256) (word : Fin 4096) (s : State) : Out :=
  .next (if s.coreHalted ini then s else (s.reply ini .done (s.fifoWindow f (4 * word))).fifoConsume f)

/-- QUE_FIFO_POP. -/
def execFifoPop (f : Fin 256) (s : State) : Out := .next (s.fifoWatch f (s.fifoPop f))

/-- QUE_FIFO_FLUSH. -/
def execFifoFlush (f : Fin 256) (s : State) : Out := .next (s.fifoWatch f (s.fifoFlush f))

/-! ## Faults and audits (09 R218, R219) -/

/-- The frame that holds cell `c`. -/
def State.frameWith (s : State) (c : Nat) : Option (Nat × Frame) := s.frames.find? (fun e => decide (c ∈ e.2.cells))

/-- Cell `c` lies on no free list: a frame or a FIFO packet holds it. -/
def State.cellUsed (s : State) (c : Nat) : Bool :=
  (s.frameWith c).isSome || s.queues.any (fun e => decide (c ∈ e.2.asm))
    || s.fifos.any (fun e => decide (c ∈ e.2.asm) || (e.2.pkts ++ e.2.tail).any (fun p => decide (c ∈ p.cells)))

/-- INK_ECC_LOG records an error. -/
def State.inkLog (s : State) (uncorr link entry : Bool) (idx : Nat) : State :=
  (((s.wrb F.INK_ECC_LOG_UNCORR 0 uncorr).wrb F.INK_ECC_LOG_LINK 0 link).wrb F.INK_ECC_LOG_ENTRY 0 entry).wr F.INK_ECC_LOG_CELL 0 idx

/-- Packet `i` of a list is marked as damaged. -/
def markPkt (l : List Pkt) (i : Nat) : List Pkt := l.zipIdx.map (fun e => if e.2 = i then { e.1 with bad := true } else e.1)

/-- Frame `i` of those of queue `q` that lie in the Reservoir is marked: in the middle, or the one partly in the tail. -/
def Queue.markStored (x : Queue) (i : Nat) : Queue :=
  if i < x.mid.length then
    { x with mid := x.mid.zipIdx.map (fun e => if e.2 = i then { e.1 with frame := { e.1.frame with damaged := true } } else e.1) }
  else { x with tailBad := true }

/-- The same of a FIFO. -/
def Fifo.markStored (x : Fifo) (i : Nat) : Fifo :=
  if i < x.mid.length then { x with mid := markPkt x.mid i } else { x with tail := markPkt x.tail 0 }

/-- The packets of a FIFO that hold cell `c` are marked. -/
def Fifo.markCell (x : Fifo) (c : Nat) : Fifo :=
  let x := if c ∈ x.asm then x.markStored (asmOwner x.midLens (x.asm.idxOf c)) else x
  let one (p : Pkt) : Pkt := if c ∈ p.cells then { p with bad := true } else p
  { x with pkts := x.pkts.map one, tail := x.tail.map one }

/-- The frame or packet of cell `c` is marked: it is dropped at its head, and every copy counts DAMAGE_DROP there. -/
def State.markDamaged (s : State) (c : Nat) : State :=
  match s.frameWith c with
  | some (i, f) => { s with frames := s.frames.put i { f with damaged := true } }
  | none =>
    let s := { s with queues := s.queues.map (fun (e : Nat × Queue) =>
      if c ∈ e.2.asm then (e.1, e.2.markStored (asmOwner (s.midLens e.1) (e.2.asm.idxOf c))) else e) }
    (s.fifos.filter (fun (e : Nat × Fifo) => decide (e.2 ≠ e.2.markCell c))).foldl (fun (t : State) (e : Nat × Fifo) =>
      t.fifoWatch e.1 ((t.setFifo e.1 ((t.fifo e.1).markCell c)).fifoService e.1)) s

/-- The scrubber reads a cell (09 R218). -/
def execInkwellScrub (c : Fin 131072) (r : CellRead) (s : State) : Out :=
  match r with
  | .good => .next s
  | .corrected =>
    .next (((s.bump F.INK_CNT_COUNT 0).inkLog false false false c).report (0x100 + c.val % 32) (elemId 4 (c.val % 32)) c)
  | .uncorrectable =>
    let s := ((s.bump F.INK_CNT_COUNT 1).inkLog true false false c).evt F.QUE_STAT_CELL_UNCORR_EVT 0
    .next (if s.cellUsed c then (s.markDamaged c).report (0x120 + c.val % 32) (elemId 4 (c.val % 32)) c
      else s.report (0x100 + c.val % 32) (elemId 4 (c.val % 32)) c)

/-- An audit that begins now serves what has been lost before. -/
def InkSt.auditFrom (k : InkSt) : InkSt := { k with auditAgain := false, auditCells := k.lostCells.length, auditEnts := k.lostEnts.length }

/-- An audit starts, or one further audit is asked for while one runs (09 R219). -/
def State.auditRequest (s : State) : State :=
  if s.on F.QUE_STAT_AUDITING 0 then { s with ink := { s.ink with auditAgain := true } }
  else { s with ink := s.ink.auditFrom }.wr F.QUE_STAT_AUDITING 0 1

/-- Entries lost from a queue (09 R219): their cells and entry indexes stay unreachable until the audit. `pooled` says that they
counted against the shared pool. -/
def State.loseEnts (s : State) (l : List QEnt) (pooled : Bool) : State :=
  l.foldl (fun t e =>
    match t.frames.find e.first with
    | some f =>
      let t := { t with ink := { t.ink with lostEnts := t.ink.lostEnts ++ [e.entry] } }
      if f.copies ≤ 1 then { t with frames := t.frames.erase e.first, ink := { t.ink with lostCells := t.ink.lostCells ++ f.cells } }
      else { t with frames := t.frames.put e.first { f with copies := f.copies - 1, poolRefs := f.poolRefs - b2n pooled } }
    | none => t) s

/-- Every frame of queue `q` behind entry `i` is lost (09 R219), each counted in DAMAGE_DROP: entries count from the head, and a deep
queue's tail follows. What lies in the Reservoir behind a damaged head is lost with it, and its blocks return. A tail frame partly
written to the Reservoir has left the chain. -/
def State.breakQueue (s : State) (q i : Nat) : State :=
  let s := if i = 0 then s.forgetHead q else s
  let x := s.queue q
  let d := s.deep q
  if i < x.head.length ∨ d = false then
    let gone := x.head.drop i
    let s := s.setQueue q { Queue.init with head := x.head.take i, nextSeq := x.nextSeq, expSeq := x.nextSeq }
    let k := s.ink.giveBlks x.blocks
    let s := (({ s with ink := { k with lostCells := k.lostCells ++ x.asm } }).loseEnts gone (!d)).loseEnts x.tail true
    let s := x.mid.foldl (fun t m => t.tsDone m.frame.tsIndex) s
    s.bumpBy F.QUE_CNT_COUNT (8 * q + 7) (gone.length + x.mid.length + x.tail.length)
  else
    let j := max (i - x.head.length) (if x.tailOff = 0 then 0 else 1)
    let gone := x.tail.drop j
    ((s.setQueue q { x with tail := x.tail.take j }).loseEnts gone true).bumpBy F.QUE_CNT_COUNT (8 * q + 7) gone.length

/-- Every packet of FIFO `f` behind packet `i` is lost (09 R219), each counted in DAMAGE_DROP: packets count from the head, and a deep
FIFO's tail follows. With an open one its producer is left as after the device's abort (R216). -/
def State.breakFifo (s : State) (f i : Nat) : State :=
  let x := s.fifo f
  let inHead := decide (i < x.pkts.length) || !s.deep (512 + f)
  let j := if inHead then i else max (i - x.pkts.length) (if x.tailOff = 0 then 0 else 1)
  let gone := if inHead then x.pkts.drop i ++ x.tail else x.tail.drop j
  let mid := if inHead then x.mid else []
  let y : Fifo := if inHead then { x with pkts := x.pkts.take i, mid := [], midDone := 0, asm := [], blocks := [], tail := [], tailOff := 0, expSeq := x.nextSeq, refill := false }
    else { x with tail := x.tail.take j }
  let y := { y with prod := if gone.any Pkt.isOpen then .dead else y.prod }
  let k := s.ink.giveBlks (if inHead then x.blocks else [])
  let k := { k with lostCells := k.lostCells ++ gone.flatMap Pkt.cells ++ (if inHead then x.asm else []) }
  (({ s with ink := k }).setFifo f y).bumpBy F.QUE_CNT_COUNT (8 * (512 + f) + 7) (gone.length + mid.length)

/-- The free list of the bank of cell `c` is cut there (09 R219): that cell and those behind it are unreachable until the audit. -/
def State.cutFreeList (s : State) (c : Nat) : State :=
  let b := c % 32
  let n := s.ink.fresh.get 0 b
  let l := s.ink.freed.get [] b ++ (List.range (4096 - n)).map (fun j => b + 32 * (n + j))
  let lost := l.dropWhile (fun x => decide (x ≠ c))
  if lost.isEmpty then s
  else { s with ink := { s.ink with
    freed := s.ink.freed.set [] b (l.takeWhile (fun x => decide (x ≠ c))), fresh := s.ink.fresh.set 0 b 4096
    lostCells := s.ink.lostCells ++ lost, used := s.ink.used + lost.length } }

/-- A parity error in a link word or queue entry (09 R219). -/
def execLinkParityError (w : LinkDamage) (s : State) : Out :=
  let s := (s.bump F.INK_CNT_COUNT 2).evt F.QUE_STAT_LINK_PARITY_EVT 0
  match w with
  | .queue q i isEntry idx =>
    let s := s.inkLog true true isEntry idx
    .next (((if q < 512 then s.breakQueue q i else s.fifoWatch (q - 512) ((s.breakFifo (q - 512) i).flushCheck (q - 512))).report 0x140 (elemId 5 q) idx).auditRequest)
  | .freeList c =>
    let s := s.inkLog true true false c
    .next (((s.cutFreeList c).report 0x143 (elemId 3 0) c).auditRequest)

/-- QUE_CTL.AUDIT. -/
def execCellAuditStart (s : State) : Out := .next s.auditRequest

/-- An audit ends (09 R219): the cells and entries that were lost before it began return to the free lists; a request made meanwhile
starts one further audit; a structural change that waits for it goes on. -/
def execCellAuditDone (s : State) : Out :=
  .next (if s.on F.QUE_STAT_AUDITING 0 then
    let cells := s.ink.lostCells.take s.ink.auditCells
    let k := s.ink.giveCells cells
    let k := (s.ink.lostEnts.take s.ink.auditEnts).foldl InkSt.giveEnt k
    let s' := { s with ink := InkSt.auditFrom { k with lostCells := s.ink.lostCells.drop s.ink.auditCells, lostEnts := s.ink.lostEnts.drop s.ink.auditEnts } }
    let s' := (s'.bumpBy F.INK_CNT_COUNT 3 cells.length).evt F.QUE_STAT_AUDIT_DONE_EVT 0
    (s'.wrb F.QUE_STAT_AUDITING 0 s.ink.auditAgain).endRecovery .forwarding .audit
  else s)

/-- QUE_CTL.CNT_CLR. -/
def execQueCntClr (s : State) : Out :=
  .next ((((s.clearFld F.QUE_CNT_COUNT).clearFld F.INK_CNT_COUNT).clearFld F.RSV_CNT_COUNT).clearFld F.QUE_RECIRC_DROP_COUNT)

end Sys2Proof.Machine
end

