-- ==== Sys2Proof/Machine/Lanes.lean ====
section
/-! DEFINITION. What the personalities of a lane share (spec 05, 06): link and standby, and which ports sleep with their
network (19 R388). -/
namespace Sys2Proof.Machine

/-- What a port or lane last put on its line. -/
def State.send (s : State) (p : Nat) (bs : List Byte) : State := { s with lastTx := s.lastTx.set [] p bs }

/-- The personality of lane `n` (05 LSL_PERS): 1 CAN, 2 T1S, 3 MVB. -/
def State.pers (s : State) (n : Nat) : Nat := s.rd F.LSL_PERS_PERSONALITY n

/-- Port `p` is a member of a network that is ASLEEP (19 R388). -/
def State.portAsleep (s : State) (p : Nat) : Bool :=
  (List.range 16).any (fun k => s.on F.NSL_NET_EN k && decide (s.rd F.NSL_NET_STATE k = 2) && s.bit F.NSL_NET_MEMBERS k p)

/-- The device is entering DOZE or SLEEP and its commit step lies ahead (18 R373). -/
def State.entering (s : State) : Bool :=
  match s.pwr.trans with
  | some t => decide (2 ≤ t.target) && !t.waitS1 && !t.committed
  | none => false

/-- Ingress has stopped: step 1 of an entry is past, or the device is in DOZE or in recovery mode (18 R373, 04 R98, 03 R69). -/
def State.dozing (s : State) : Bool :=
  decide (s.phase = .recovery) || decide (s.rd F.PWR_STAT_STATE 0 = 2) || (match s.pwr.trans with | some t => decide (2 ≤ t.target) && !t.waitS1 | none => false)

/-- Frames flow: the device is in RUN or TRIM, no entry has begun, and no lane or port sleeps. -/
def State.portLive (s : State) (p : Nat) : Bool := !s.dozing && !s.portAsleep p

/-- The transmitter of port `p` is enabled: ETH_CTL.TX_EN of an Ethernet port (04). -/
def State.txOn (s : State) (p : Nat) : Bool := decide (40 ≤ p) || s.on F.ETH_CTL_TX_EN p

/-- Port `p` sends: until the commit step of an entry, unless its network sleeps or its group is restructured (18 R373, 19 R388, 02 R54). -/
def State.portSends (s : State) (p : Nat) : Bool := !s.gated && !s.portAsleep p && s.txOn p && !s.portRestructuring p

/-! ## CAN -/

/-- The CAN side of lane `n`. -/
def State.canLane (s : State) (n : Nat) : CanLane := s.can.get CanLane.init n

/-- The state with it replaced. -/
def State.setCan (s : State) (n : Nat) (x : CanLane) : State := { s with can := s.can.set CanLane.init n x }

/-- STATE of LSL_CAN_ERR (05 R111, R113). -/
def CanLane.errState (x : CanLane) : Nat :=
  match x.st with
  | .active => if 127 < x.tec ∨ 127 < x.recC then 1 else 0
  | .busOff | .recovering => 2
  | _ => 3

/-- The registers that show the lane's state: counters, WARN, STATE, RP, LINK, AUX, and the events of a change (05 R111, R113, R120). -/
def State.canShow (s : State) (n : Nat) : State :=
  let x := s.canLane n
  let warn := decide (96 ≤ x.tec) || decide (96 ≤ x.recC)
  let s := if warn && !s.on F.LSL_CAN_ERR_WARN n then s.evt F.LSL_CAN_STAT_WARN_EVT n else s
  let s := if x.errState = 1 ∧ s.rd F.LSL_CAN_ERR_STATE n = 0 then s.evt F.LSL_CAN_STAT_PASSIVE_EVT n else s
  let s := ((s.wr F.LSL_CAN_ERR_TEC n x.tec).wr F.LSL_CAN_ERR_REC n (min x.recC 127)).wrb F.LSL_CAN_ERR_RP n (decide (127 < x.recC))
  let s := (s.wrb F.LSL_CAN_ERR_WARN n warn).wr F.LSL_CAN_ERR_STATE n x.errState
  let s := s.wrb F.LSL_CAN_STAT_LINK n (decide (x.st = .active))
  let s := s.wrb F.LSL_CAN_STAT_TX_PEND n x.arb.isSome
  s.wrb F.LSL_CAN_STAT_STBY n (decide (x.st = .stopped) || decide (x.st = .standby) || s.on F.LSL_CAN_CTL_STBY n)

/-- The lane enters state `st`; a link that was up goes down for its queues (09 R211), and one that comes up returns them. -/
def State.canTo (s : State) (n : Nat) (st : CanSt) : State :=
  let was := decide ((s.canLane n).st = .active)
  let x := s.canLane n
  let s := (s.setCan n (if st = .active then { x with st := st } else { x with st := st, arb := none, sof := none, waits := false })).canShow n
  if was && decide (st ≠ .active) then s.queuesDown (40 + n) false
  else if !was && decide (st = .active) then s.queuesUp (40 + n)
  else s

/-! ## T1S and MVB -/

/-- The T1S side of lane `n`. -/
def State.t1sLane (s : State) (n : Nat) : T1sLane := s.t1s.get T1sLane.init n

/-- The state with it replaced. -/
def State.setT1s (s : State) (n : Nat) (x : T1sLane) : State := { s with t1s := s.t1s.set T1sLane.init n x }

/-- The MVB side of lane `n`. -/
def State.mvbLane (s : State) (n : Nat) : MvbLane := s.mvb.get MvbLane.init n

/-- The state with it replaced. -/
def State.setMvb (s : State) (n : Nat) (x : MvbLane) : State := { s with mvb := s.mvb.set MvbLane.init n x }

/-- The lane is the PLCA coordinator (06 R128). -/
def State.t1sCoord (s : State) (n : Nat) : Bool := s.on F.LSL_T1S_CTL_PLCA_EN n && decide (s.rd F.LSL_T1S_PLCA_NODE_ID n = 0)

/-- The lane may run PLCA. -/
def State.t1sPlca (s : State) (n : Nat) : Bool := s.on F.LSL_T1S_CTL_PLCA_EN n && decide (s.rd F.LSL_T1S_PLCA_NODE_ID n < 255)

/-- The frame in progress when the restructure of lane `n`'s group began may still end (02 R54). -/
def State.laneLast (s : State) (n : Nat) : Bool :=
  s.portRestructuring (40 + n) && decide (s.scr.stage = 0) && !s.scr.took.contains n && s.portLive (40 + n)

/-- It has ended. -/
def State.laneTook (s : State) (n : Nat) : State :=
  if s.portRestructuring (40 + n) then { s with scr := { s.scr with took := n :: s.scr.took } } else s

/-- Lane `n` does not take part in its bus: it has been handed to the AOC, stopped for DOZE, SLEEP or its network, or its group is
restructured and no frame of it is in progress. -/
def State.laneParked (s : State) (n : Nat) : Bool :=
  s.dozing || s.portAsleep (40 + n) || (s.portRestructuring (40 + n) && (s.t1sLane n).tx.isNone)

/-- The link of a T1S lane (06 R142). -/
def State.t1sLink (s : State) (n : Nat) : Bool :=
  s.on F.LSL_T1S_CTL_EN n && !s.laneParked n && (s.t1sCoord n || (s.t1sLane n).beacon || (s.t1sLane n).ed)

/-- A bus administrator: ROLE bit 0 and ADMIN_RUN (06 R138). -/
def State.mvbAdmin (s : State) (n : Nat) : Bool :=
  s.bit F.LSL_PERS_ROLE n 0 && s.on F.LSL_MVB_CTL_ADMIN_RUN n && s.on F.LSL_MVB_CTL_EN n

/-- The link of an MVB lane (06 R142). -/
def State.mvbLink (s : State) (n : Nat) : Bool :=
  s.on F.LSL_MVB_CTL_EN n && !s.laneParked n && (s.mvbAdmin n || (s.mvbLane n).heard)

/-- A link bit follows its condition; its queues follow the link (09 R211). -/
def State.linkTo (s : State) (f : Fld) (n : Nat) (up : Bool) : State :=
  if s.on f n && !up then (s.wr f n 0).queuesDown (40 + n) false
  else if !s.on f n && up then (s.wr f n 1).queuesUp (40 + n)
  else s

/-- The link of a T1S or MVB lane is brought up to date. -/
def State.laneLink (s : State) (n : Nat) : State :=
  if s.pers n = 2 then s.linkTo F.LSL_T1S_STAT_LINK n (s.t1sLink n)
  else if s.pers n = 3 then (s.linkTo F.LSL_MVB_STAT_LINK n (s.mvbLink n)).wrb F.LSL_MVB_STAT_ADMIN n (s.mvbAdmin n)
  else s

/-! ## Standby (05 R120 to R122, 06 R144) -/

/-- The lane has wake detection: WAKE.EN of a CAN lane, WAKE_EN of a T1S or MVB lane. -/
def State.laneWakes (s : State) (n : Nat) : Bool :=
  if s.pers n = 1 then s.on F.LSL_CAN_WAKE_EN n
  else if s.pers n = 2 then s.on F.LSL_T1S_CTL_WAKE_EN n
  else if s.pers n = 3 then s.on F.LSL_MVB_CTL_WAKE_EN n
  else false

/-- Whether the AOC watches the lane's RXD: its detector is armed. -/
def State.laneArmed (s : State) (n : Nat) : Bool := s.aocArmed.testBit n

/-- The AOC's detector of the lane is armed or disarmed. -/
def State.setArmed (s : State) (n : Nat) (b : Bool) : State :=
  { s with aocArmed := if b then setBitN s.aocArmed n else clrBitN s.aocArmed n }

/-- A frame that a T1S lane was sending returns to the head of its queue. -/
def State.t1sReturn (s : State) (n : Nat) : State :=
  let x := s.t1sLane n
  match x.tx with
  | none => s
  | some t =>
    let s := s.setT1s n { x with tx := none }
    match t.ent with
    | some e => s.putBack t.q e
    | none => s.setT1s n { s.t1sLane n with presDue := some (t.bytes.take (t.bytes.length - 4)) }

/-- The lane leaves its bus for DOZE, SLEEP or its network's sleep: a CAN lane with a frame in progress ends it first (05 R122), as
does a T1S lane; an MVB poll in progress ends (06 R144). STANDBY with wake detection, else stopped. A T1S or MVB lane hands
RXD to the AOC when it has wake detection. -/
def State.laneStandby (s : State) (n : Nat) : State :=
  if s.pers n = 1 then
    (if (s.canLane n).arb.isSome || (s.canLane n).sof.isSome then s else s.canTo n (if s.on F.LSL_CAN_WAKE_EN n then .standby else .stopped))
  else if s.pers n = 2 then ((s.setT1s n { s.t1sLane n with opp := none, backoff := none }).setArmed n (s.laneWakes n)).laneLink n
  else if s.pers n = 3 then (s.setArmed n (s.laneWakes n)).laneLink n
  else s

/-- The lane returns: a CAN lane that is enabled integrates again (05 R113, 18 R374), another one is stopped; the others follow their link
conditions. -/
def State.laneResume (s : State) (n : Nat) : State :=
  let s := s.setArmed n false
  if s.pers n = 1 then
    let x := s.canLane n
    if s.laneParked n then s
    else if s.on F.LSL_CAN_CTL_EN n && !x.timing.isEmpty && (decide (x.st = .standby) || decide (x.st = .stopped)) then s.canTo n .integrating
    else if x.st = .standby then s.canTo n .stopped
    else s
  else s.laneLink n

/-- The lanes 0 to 23. -/
def laneNums : List Nat := List.range 24

end Sys2Proof.Machine
end

