-- ==== Sys2Proof/Machine/Aoc.lean ====
section
/-! DEFINITION. The wake record of the AOC and what a wake does to the power state (spec 19 R393, R394; 18 R373 to R375). -/
namespace Sys2Proof.Machine

/-- A transition ends (18 R370): TARGET reads STATE, the result and TRANS_DONE_EVT are set. -/
def State.transEnd (s : State) (result target : Nat) : State :=
  let s := { s with pwr := { s.pwr with trans := none } }
  let s := (s.wr F.PWR_STAT_IN_TRANSITION 0 0).wr F.PWR_STAT_LAST_RESULT 0 result
  ((s.wr F.PWR_STAT_LAST_TARGET 0 target).evt F.PWR_STAT_TRANS_DONE_EVT 0).wr F.PWR_MODE_TARGET 0 (s.rd F.PWR_STAT_STATE 0)

/-- An entry is refused or aborted (18 R371, R373): ABORT_EVT. -/
def State.transAbort (s : State) (result target : Nat) : State := (s.transEnd result target).evt F.PWR_STAT_ABORT_EVT 0

/-- A wake before the commit step (18 R373): the steps of the entry are undone. -/
def State.entryAborted (s : State) (target : Nat) : State :=
  let s := (s.transAbort 2 target).bump F.PWR_CNT_COUNT 1
  laneNums.foldl State.laneResume s

/-- The exit from DOZE is due to the first wake. -/
def State.wakeFrom (s : State) (code idx : Nat) : State :=
  if s.pwr.wake.isSome then s else { s with pwr := { s.pwr with wake := some (code, idx) } }

/-- What a wake does to the power state: it aborts an entry before its commit step, or brings about the exit from DOZE or
the start from SLEEP (18 R373 to R375). While the device starts it has no further effect (03). -/
def State.wakePower (s : State) (code idx : Nat) : State :=
  if s.pd.phase ≠ .run then s
  else if s.pd.inh = false then { s with pd := { s.pd with wakeHeld := true } }
  else match s.pwr.trans with
    | some t =>
      if 2 ≤ t.target then
        if t.committed then s.wakeFrom code idx else s.entryAborted t.target
      else s
    | none => if s.rd F.PWR_STAT_STATE 0 = 2 then s.wakeFrom code idx else s

/-- A wake of a code and index reaches the AOC (19 R394): the first one is recorded with the RTC time, every one sets its
PEND bit; one that finds VALID set sets MORE. After a TERMINAL reaction wakes are ignored (21 R415). -/
def State.aocWake (s : State) (code idx : Nat) : State :=
  if s.stopped then s
  else
  let s := s.setBit F.AOC_WAKE_PEND_CODE 0 (code - 1)
  let s :=
    if s.on F.AOC_WAKE_SRC_VALID 0 then s.wr F.AOC_WAKE_SRC_MORE 0 1
    else ((((s.wr F.AOC_WAKE_SRC_VALID 0 1).wr F.AOC_WAKE_SRC_CODE 0 code).wr F.AOC_WAKE_SRC_INDEX 0 idx).wr
      F.AOC_WAKE_SRC_SEC 0 (s.rd F.AOC_RTC_SEC 0)).wr F.AOC_WAKE_SRC_SUB 0 s.rtcFrac
  s.wakePower code idx

/-- The states in which wakes count: an entry or DOZE, the main die without supply after SLEEP, or a start (19 R393, 03). -/
def State.wakeable (s : State) : Bool :=
  decide (s.rd F.PWR_STAT_STATE 0 = 2) || (match s.pwr.trans with | some t => decide (2 ≤ t.target) | none => false)
    || (decide (s.pd.phase = .run) && (!s.pd.inh || decide (s.phase ≠ .running)))

/-- WAKE_IN pin `n` wakes the device (19 R393). -/
def State.wakeInEnabled (s : State) (n : Nat) : Bool := s.bit F.AOC_WAKE_EN_WAKE_IN 0 n

/-- Some source is enabled for the target state (18 R371, 19 R393). -/
def State.wakeEnabled (s : State) (target : Nat) : Bool :=
  laneNums.any (fun n => decide (s.pers n ≠ 0) && s.laneWakes n)
    || decide (s.rd F.AOC_WAKE_EN_WAKE_IN 0 ≠ 0)
    || (s.on F.AOC_WAKE_EN_RTC 0 && s.on F.AOC_RTC_ALARM_SEC 0)
    || s.on F.AOC_WAKE_EN_TAMPER 0
    || (decide (target = 2) && ((List.range 40).any (fun p =>
          s.on F.ETH_WAKE_CFG_EN p && (s.on F.ETH_WAKE_CFG_PAT_EN p || s.on F.ETH_WAKE_CFG_LINK_WAKE p)) || s.pcieUp))

end Sys2Proof.Machine
end

