-- ==== Sys2Proof/Machine/Curve.lean ====
section
/-! DEFINITION. The curve brainpoolP384r1 (RFC 5639), and ECDSA with SHA-384 and the shared secret of a key update on it
(02 R34, 14 R304, R311, R316, 15 R336, 22 R419). -/
namespace Sys2Proof.Machine

/-! ## The curve -/

def curveP : Nat := 0x8CB91E82A3386D280F5D6F7E50E641DF152F7109ED5456B412B1DA197FB71123ACD3A729901D1A71874700133107EC53
def curveA : Nat := 0x7BC382C63D8C150C3C72080ACE05AFA0C2BEA28E4FB22787139165EFBA91F90F8AA5814A503AD4EB04A8C7DD22CE2826
def curveB : Nat := 0x04A8C7DD22CE28268B39B55416F0447C2FB77DE107DCD2A62E880EA53EEB62D57CB4390295DBC9943AB78696FA504C11
def curveG : Nat × Nat :=
  (0x1D1C64F068CF45FFA2A63A81B7C13F6B8847A3E77EF14FE3DB7FCAFE0CBD10E8E826E03436D646AAEF87B2E247D4AF1E,
   0x8ABE1D7520F9C2A45CB1EB8E95CFD55262B70B29FEEC5864E19C054FF99129280E4646217791811142820341263C5315)

/-- The order of the base point. -/
def curveOrder : Nat := 0x8CB91E82A3386D280F5D6F7E50E641DF152F7109ED5456B31F166E6CAC0425A7CF3AB6AF6B7FC3103B883202E9046565

/-- `b ^ e` modulo `m`, over the lowest `n` bits of `e`. -/
def powMod (m b e : Nat) : Nat → Nat
  | 0 => 1 % m
  | n + 1 =>
    let r := powMod m b (e / 2) n
    r * r % m * (if e.testBit 0 then b else 1) % m

/-- The inverse modulo a prime of 384 bits. -/
def invMod (m a : Nat) : Nat := powMod m (a % m) (m - 2) 384

/-- A point of the curve; none is the point at infinity. -/
abbrev Point := Option (Nat × Nat)

/-- The third point of a line of slope `l` through two points, mirrored. -/
def pointThird (l x1 y1 x2 : Nat) : Point :=
  let x := (l * l + 2 * curveP - x1 - x2) % curveP
  some (x, (l * (x1 + curveP - x) + curveP - y1) % curveP)

/-- The sum of two points. -/
def pointAdd (a b : Point) : Point :=
  match a, b with
  | none, _ => b
  | _, none => a
  | some (x1, y1), some (x2, y2) =>
    if x1 = x2 then
      if (y1 + y2) % curveP = 0 then none
      else pointThird ((3 * x1 * x1 + curveA) * invMod curveP (2 * y1) % curveP) x1 y1 x2
    else pointThird ((y2 + curveP - y1) * invMod curveP (x2 + curveP - x1) % curveP) x1 y1 x2

/-- `k` times a point, over the lowest `n` bits of `k`. -/
def pointMul (k : Nat) (a : Point) : Nat → Point
  | 0 => none
  | n + 1 => let r := pointMul (k / 2) a n; let d := pointAdd r r; if k.testBit 0 then pointAdd d a else d

/-- The point that 96 bytes name, x and y, if it lies on the curve. -/
def pointOf (b : List Byte) : Point :=
  let x := beNat (b.take 48)
  let y := beNat ((b.drop 48).take 48)
  if x < curveP ∧ y < curveP ∧ (y * y) % curveP = (x * x * x + curveA * x + curveB) % curveP then some (x, y) else none

/-- Its 96 bytes. -/
def pointBytes (a : Point) : List Byte :=
  match a with
  | some (x, y) => beBytes 48 x ++ beBytes 48 y
  | none => beBytes 96 0

/-! ## Keys, ECDSA and the shared secret -/

/-- The public key of a private key, 96 bytes. -/
@[irreducible] def publicKey (d : Nat) : List Byte := pointBytes (pointMul d (some curveG) 384)

/-- Whether a signature of 96 bytes over a message verifies under a public key of 96 bytes. -/
@[irreducible] def ecdsaVerify (pub m sig : List Byte) : Bool :=
  let n := curveOrder
  let r := beNat (sig.take 48)
  let s := beNat ((sig.drop 48).take 48)
  match pointOf pub with
  | none => false
  | some q =>
    if r = 0 ∨ n ≤ r ∨ s = 0 ∨ n ≤ s then false
    else
      let w := invMod n s
      match pointAdd (pointMul (beNat (sha384 m) * w % n) (some curveG) 384) (pointMul (r * w % n) (some q) 384) with
      | some (x, _) => decide (x % n = r)
      | none => false

/-- The signature of a message under private key `d` with nonce `k`, 96 bytes. -/
@[irreducible] def ecdsaSign (d : Nat) (m : List Byte) (k : Nat) : List Byte :=
  let n := curveOrder
  let r := match pointMul k (some curveG) 384 with | some (x, _) => x % n | none => 0
  beBytes 48 r ++ beBytes 48 (invMod n k * (beNat (sha384 m) + r * d) % n)

/-- The x-coordinate of a private key times the point of a public key, 48 bytes; none when those bytes name no point. -/
@[irreducible] def ecdhX (d : Nat) (pub : List Byte) : Option (List Byte) :=
  match pointMul d (pointOf pub) 384 with
  | some (x, _) => some (beBytes 48 x)
  | none => none

end Sys2Proof.Machine
end

