-- ==== Sys2Proof/Machine/Aes.lean ====
section
/-! DEFINITION. AES (FIPS 197), and its modes that the spec names: CMAC (NIST SP 800-38B), GCM (NIST SP 800-38D) and key unwrap
(RFC 3394) (14 R311, 15 R322 to R336). -/
namespace Sys2Proof.Machine

/-! ## The block cipher -/

/-- The S-box of FIPS 197, 64 entries a word, the first lowest. -/
def sboxWord (k : Nat) : Nat :=
  match k with
  | 0 => 0x75B227EBE28012079A059618C323C7041531D871F1E5A534CCF73F362693FDB7C072A49CAFA2D4ADF04759FA7DC982CA76ABD7FE2B670130C56F6BF27B777C63
  | 1 => 0xD2F3FF1021DAB6BCF5389D928F40A351A89F3C507F02F94585334D43FBAAEFD0CF584C4A39BECB6A5BB1FC20ED00D153842FE329B3D63B52A05A6E1B1A2C8309
  | 2 => 0x08AE7A65EAF4566CA94ED58D6D37C8E779E4959162ACD3C25C2406490A3A32E0DB0B5EDE14B8EE4688902A22DC4F816073195D643D7EA7C41744975FEC130CCD
  | _ => 0x16BB54B00F2D99416842E6BF0D89A18CDF2855CEE9871E9B948ED9691198F8E19E1DC186B95735610EF6034866B53E708A8BBD4B1F74DDE8C6B4A61C2E2578BA

/-- Its inverse. -/
def sboxInvWord (k : Nat) : Nat :=
  match k with
  | 0 => 0x25D18B6D49A25B76B224D92866A12E084EC3FA420B954CEE3D23C2A632947B54CBE9DEC444438E3487FF2F9B8239E37CFBD7F3819EA340BF38A53630D56A0952
  | 1 => 0x6B8A130103BDAFC1020F3FCA8F1E2CD00645B3B80558E4F70AD3BC8C00ABD890849D8DA75746155EDAB9EDFD5048706C92B6655DCC5CA4D41698688664F6F872
  | 2 => 0xF45ACD78FEC0DB9A2079D2C64B3E56FC1BBE18AA0E62B76F89C5291D711AF1476EDF751CE837F9E28535ADE72274AC9673E6B4F0CECFF297EADC674F4111913A
  | _ => 0x7D0C2155631469E126D677BA7E042B17619953833CBBEBC8B0F52AAE4D3BE0A0EF9CC9939F7AE52D0D4AB519A97F51605FEC8027591012B131C7078833A8DD1F

def sbox (b : Nat) : Nat := (sboxWord (b / 64) >>> (8 * (b % 64))) % 256
def sboxInv (b : Nat) : Nat := (sboxInvWord (b / 64) >>> (8 * (b % 64))) % 256

/-- Multiplication by x, and by a constant of four bits, in the field of AES. -/
def xtime (b : Nat) : Nat := if 128 ≤ b then (2 * b % 256) ^^^ 0x1B else 2 * b
def aesMul (c b : Nat) : Nat :=
  let b2 := xtime b
  let b4 := xtime b2
  (if c.testBit 0 then b else 0) ^^^ (if c.testBit 1 then b2 else 0) ^^^ (if c.testBit 2 then b4 else 0) ^^^ (if c.testBit 3 then xtime b4 else 0)

/-- XOR of two lists. -/
def xorL (a b : List Nat) : List Nat := (a.zip b).map (fun x => x.1 ^^^ x.2)

/-- The key schedule continued by `n` words from word `i` on, for keys of `nk` words; the words so far, last first. -/
def aesExpand (nk : Nat) : Nat → Nat → List (List Nat) → List (List Nat)
  | 0, _, w => w
  | n + 1, i, w =>
    let t := w.getD 0 []
    let rot := (t.drop 1 ++ t.take 1).map sbox
    let u := if i % nk = 0 then xorL rot [[1, 2, 4, 8, 16, 32, 64, 128, 0x1B, 0x36].getD (i / nk - 1) 0, 0, 0, 0]
      else if nk = 8 ∧ i % nk = 4 then t.map sbox else t
    aesExpand nk n (i + 1) (xorL (w.getD (nk - 1) []) u :: w)

/-- The round keys of a key of 16 or 32 bytes, in order. -/
def aesKeys (key : List Nat) : List (List Nat) :=
  let nk := key.length / 4
  let w := (List.range nk).map (fun i => (key.drop (4 * i)).take 4)
  let all := (aesExpand nk (3 * nk + 28) nk w.reverse).reverse
  (List.range (nk + 7)).map (fun r => ((all.drop (4 * r)).take 4).flatten)

/-- The rows of the state shifted, by `d` columns for each row. -/
def aesShift (d : Nat) (s : List Nat) : List Nat := (List.range 16).map (fun i => s.getD (i % 4 + 4 * ((i / 4 + d * (i % 4)) % 4)) 0)

/-- The columns mixed with the row of constants `m`. -/
def aesMix (m : List Nat) (s : List Nat) : List Nat :=
  (List.range 16).map (fun i =>
    ((List.range 4).map (fun j => aesMul (m.getD ((j + 4 - i % 4) % 4) 0) (s.getD (4 * (i / 4) + j) 0))).foldl (fun a b => a ^^^ b) 0)

/-- A block encrypted. -/
def aesEnc (key blk : List Nat) : List Nat :=
  match aesKeys key with
  | [] => blk
  | k0 :: ks =>
    let s := ks.dropLast.foldl (fun s k => xorL (aesMix [2, 3, 1, 1] (aesShift 1 (s.map sbox))) k) (xorL blk k0)
    xorL (aesShift 1 (s.map sbox)) (ks.getLastD [])

/-- A block decrypted. -/
def aesDec (key blk : List Nat) : List Nat :=
  match (aesKeys key).reverse with
  | [] => blk
  | k0 :: ks =>
    let s := ks.dropLast.foldl (fun s k => aesMix [14, 11, 13, 9] (xorL ((aesShift 3 s).map sboxInv) k)) (xorL blk k0)
    xorL ((aesShift 3 s).map sboxInv) (ks.getLastD [])

/-- A block cipher call on a number of 128 bits. -/
def aesNat (key : List Byte) (b : Nat) : Nat :=
  (aesEnc (key.map BitVec.toNat) ((beBytes 16 b).map BitVec.toNat)).foldl (fun a x => a * 256 + x) 0

/-! ## CMAC -/

/-- A subkey from the one before. -/
def cmacDouble (x : Nat) : Nat := (2 * x % 2 ^ 128) ^^^ (if x.testBit 127 then 0x87 else 0)

/-- `n` full blocks chained. -/
def cmacChain (key : List Byte) : Nat → Nat → List Byte → Nat
  | 0, x, _ => x
  | n + 1, x, m => cmacChain key n (aesNat key (x ^^^ beNat (m.take 16))) (m.drop 16)

/-- AES-CMAC: 16 bytes. -/
@[irreducible] def cmac (key m : List Byte) : List Byte :=
  let k1 := cmacDouble (aesNat key 0)
  let n := (m.length + 15) / 16 - 1
  let last := m.drop (16 * n)
  let b := if last.length = 16 then beNat last ^^^ k1
    else beNat (last ++ [0x80] ++ List.replicate (15 - last.length) 0) ^^^ cmacDouble k1
  beBytes 16 (aesNat key (cmacChain key n 0 m ^^^ b))

/-! ## GCM -/

/-- Multiplication in the field of GCM: the bits of `x` from the highest of the `n` that are left. -/
def gcmMul (x : Nat) : Nat → Nat → Nat → Nat
  | 0, z, _ => z
  | n + 1, z, v => gcmMul x n (if x.testBit n then z ^^^ v else z) (if v.testBit 0 then (v >>> 1) ^^^ (0xE1 <<< 120) else v >>> 1)

/-- GHASH of `n` blocks. -/
def ghash (h : Nat) : Nat → Nat → List Byte → Nat
  | 0, y, _ => y
  | n + 1, y, m => ghash h n (gcmMul (y ^^^ beNat (m.take 16)) 128 0 h) (m.drop 16)

/-- A byte string with zeros up to whole blocks. -/
def gcmPad (m : List Byte) : List Byte := m ++ List.replicate ((16 - m.length % 16) % 16) 0

/-- Counter mode from counter block `c` on: `n` blocks of the text. -/
def gcmCtr (key : List Byte) : Nat → Nat → List Byte → List Byte
  | 0, _, _ => []
  | n + 1, c, m =>
    ((m.take 16).zip (beBytes 16 (aesNat key c))).map (fun x => x.1 ^^^ x.2)
      ++ gcmCtr key n (c / 2 ^ 32 * 2 ^ 32 + (c + 1) % 2 ^ 32) (m.drop 16)

/-- The tag over AAD and ciphertext, for an IV of 12 bytes. -/
def gcmTag (key iv aad ct : List Byte) : List Byte :=
  let m := gcmPad aad ++ gcmPad ct ++ beBytes 8 (8 * aad.length) ++ beBytes 8 (8 * ct.length)
  beBytes 16 (ghash (aesNat key 0) (m.length / 16) 0 m ^^^ aesNat key (beNat iv * 2 ^ 32 + 1))

/-- AES-GCM encryption with an IV of 12 bytes: ciphertext and 16-byte tag. -/
@[irreducible] def gcmEnc (key iv aad text : List Byte) : List Byte × List Byte :=
  let ct := gcmCtr key ((text.length + 15) / 16) (beNat iv * 2 ^ 32 + 2) text
  (ct, gcmTag key iv aad ct)

/-- AES-GCM decryption: none when the tag, cut to the length given, does not match. -/
@[irreducible] def gcmDec (key iv aad ct tag : List Byte) : Option (List Byte) :=
  if (gcmTag key iv aad ct).take tag.length = tag then some (gcmCtr key ((ct.length + 15) / 16) (beNat iv * 2 ^ 32 + 2) ct) else none

/-! ## Key wrap -/

/-- One pass over the blocks from the first to the last; `t` is the step count of the first. -/
def wrapPass (kek : List Nat) : Nat → List Nat → List (List Nat) → List Nat × List (List Nat)
  | _, a, [] => (a, [])
  | t, a, r :: rs =>
    let b := aesEnc kek (a ++ r)
    let q := wrapPass kek (t + 1) (xorL (b.take 8) ((beBytes 8 t).map BitVec.toNat)) rs
    (q.1, b.drop 8 :: q.2)

/-- Passes `j` to `j + k - 1` over `n` blocks. -/
def wrapPasses (kek : List Nat) (n j : Nat) : Nat → List Nat → List (List Nat) → List Nat × List (List Nat)
  | 0, a, r => (a, r)
  | k + 1, a, r => let q := wrapPass kek (n * j + 1) a r; wrapPasses kek n (j + 1) k q.1 q.2

/-- AES key wrap of whole blocks of 8 bytes. -/
@[irreducible] def keyWrap (kek p : List Byte) : List Byte :=
  let n := p.length / 8
  let r := (List.range n).map (fun i => ((p.map BitVec.toNat).drop (8 * i)).take 8)
  let q := wrapPasses (kek.map BitVec.toNat) n 0 6 (List.replicate 8 0xA6) r
  (q.1 ++ q.2.flatten).map (fun x => BitVec.ofNat 8 x)

/-- One pass over the blocks from the last to the first; `t` is the step count of the last. -/
def unwrapPass (kek : List Nat) : Nat → List Nat → List (List Nat) → List Nat × List (List Nat)
  | _, a, [] => (a, [])
  | t, a, r :: rs =>
    let x := xorL a ((beBytes 8 t).map BitVec.toNat)
    let b := aesDec kek (x ++ r)
    let q := unwrapPass kek (t - 1) (b.take 8) rs
    (q.1, b.drop 8 :: q.2)

/-- `j` passes over `n` blocks, last block first. -/
def unwrapPasses (kek : List Nat) (n : Nat) : Nat → List Nat → List (List Nat) → List Nat × List (List Nat)
  | 0, a, r => (a, r)
  | j + 1, a, r => let q := unwrapPass kek (n * (j + 1)) a r; unwrapPasses kek n j q.1 q.2

/-- AES key unwrap: none when its integrity check fails. -/
@[irreducible] def keyUnwrap (kek c : List Byte) : Option (List Byte) :=
  let b := c.map BitVec.toNat
  let n := b.length / 8 - 1
  let r := (List.range n).map (fun i => (b.drop (8 * (i + 1))).take 8)
  let q := unwrapPasses (kek.map BitVec.toNat) n 6 (b.take 8) r.reverse
  if q.1 = List.replicate 8 0xA6 then some (q.2.reverse.flatten.map (fun x => BitVec.ofNat 8 x)) else none

end Sys2Proof.Machine
end

