-- ==== Sys2Proof/Machine/Drbg.lean ====
section
/-! DEFINITION. The DRBG of the key store (spec 14 R314): CTR_DRBG with AES-256 and the derivation function of NIST SP 800-90A, seeded by
the TRNG. -/
namespace Sys2Proof.Machine

/-- A byte string cut or padded with zeros to `n` bytes. -/
def fit (n : Nat) (l : List Byte) : List Byte := (l ++ List.replicate n 0).take n

/-- XOR of two byte strings. -/
def xorBytes (a b : List Byte) : List Byte := (a.zip b).map (fun x => x.1 ^^^ x.2)

/-- UID. -/
def uidBytes : List Byte := fit 16 Config.uid

/-! ## The mechanism -/

/-- `n` blocks of the cipher in counter mode, from the block after `v` on. -/
def drbgStream (key : List Byte) (v : Nat) : Nat → List Byte
  | 0 => []
  | n + 1 => beBytes 16 (aesNat key ((v + 1) % 2 ^ 128)) ++ drbgStream key ((v + 1) % 2 ^ 128) n

/-- `n` blocks, each the cipher's answer to the one before; the first to `x`. -/
def drbgChain (key : List Byte) (x : Nat) : Nat → List Byte
  | 0 => []
  | n + 1 => beBytes 16 (aesNat key x) ++ drbgChain key (aesNat key x) n

/-- The derivation function: 48 bytes of seed material. -/
@[irreducible] def drbgDf (m : List Byte) : List Byte :=
  let b := gcmPad (beBytes 4 m.length ++ beBytes 4 48 ++ m ++ [0x80])
  let k := (List.range 32).map (fun i => BitVec.ofNat 8 i)
  let t := (List.range 3).flatMap (fun i =>
    beBytes 16 (cmacChain k (b.length / 16 + 1) 0 (beBytes 4 i ++ List.replicate 12 0 ++ b)))
  drbgChain (t.take 32) (beNat (t.drop 32)) 3

/-- Key and V after an update with 48 bytes. -/
@[irreducible] def Drbg.update (d : Drbg) (m : List Byte) : Drbg :=
  let t := xorBytes (drbgStream d.key d.v 3) m
  { d with key := t.take 32, v := beNat (t.drop 32) }

/-- The DRBG instantiated: entropy and nonce, then the personalisation string. -/
def Drbg.start (entropy : List Byte) : Drbg := { (⟨fit 32 [], 0, 0⟩ : Drbg).update (drbgDf (entropy ++ uidBytes)) with count := 0 }

/-- The DRBG reseeded. -/
def Drbg.reseed (d : Drbg) (entropy : List Byte) : Drbg := { d.update (drbgDf entropy) with count := 0 }

/-- One request for `n` bytes. -/
def Drbg.request (d : Drbg) (n : Nat) : Drbg × List Byte :=
  let k := (n + 15) / 16
  ({ ({ d with v := (d.v + k) % 2 ^ 128 }).update (fit 48 []) with count := d.count + 1 }, (drbgStream d.key d.v k).take n)

/-! ## Requests -/

/-- The DRBG is seeded from the TRNG, unless a health test has failed. -/
def State.seedDrbg (s : State) : State :=
  if s.trngFail then s
  else
    let e := Config.entropy s.freeCtr
    ({ s with drbg := some (match s.drbg with | some d => d.reseed e | none => Drbg.start e) } : State).drawn

/-- `n` random bytes. The DRBG is seeded before its first request, and reseeded after every 65,536. A stopped one gives zeros. -/
def State.random (s : State) (n : Nat) : State × List Byte :=
  if s.trngFail then (s, fit n [])
  else
    let s := match s.drbg with
      | some d => if 65536 ≤ d.count then s.seedDrbg else s
      | none => s.seedDrbg
    match s.drbg with
    | some d => ({ s with drbg := some (d.request n).1 }, (d.request n).2)
    | none => (s, fit n [])

end Sys2Proof.Machine
end

