-- ==== Sys2Proof/Machine/Keys.lean ====
section
/-! DEFINITION. Key store and attestation (spec 14): derivation, slots, their records in flash, the key-update counter, key
update messages, generation, attestation and tamper. -/
namespace Sys2Proof.Machine

/-- The bytes of an ASCII label. -/
def ascii (s : String) : List Byte := s.toList.map (fun c => BitVec.ofNat 8 c.toNat)

/-! ## Derivation (14 R304) -/

/-- The blocks K(i), K(i + 1), ... of the KDF, `n` of them. -/
def kdfBlocks (kin label ctx : List Byte) (bits i : Nat) : Nat → List Byte
  | 0 => []
  | n + 1 => fit 48 (hmac384 kin (beBytes 4 i ++ label ++ [0] ++ ctx ++ beBytes 4 bits)) ++ kdfBlocks kin label ctx bits (i + 1) n

/-- The KDF: `bits` bits, a multiple of 8. -/
def kdf (kin label ctx : List Byte) (bits : Nat) : List Byte := fit (bits / 8) (kdfBlocks kin label ctx bits 1 ((bits + 383) / 384))

/-- The identity private key. -/
def idKey : Nat := beNat (kdf Config.drs (ascii "VGN-IDK") uidBytes 512) % (curveOrder - 1) + 1

/-- The KEK of slot records. -/
def recKek : List Byte := kdf Config.drs (ascii "VGN-KEK") uidBytes 256

/-- K_CTR(H), the key of counter records. -/
def ctrKey (h : Nat) : List Byte := kdf Config.drs (ascii "VGN-CTR") (uidBytes ++ beBytes 2 h) 256

/-- K_USE, the key of use reservation records. -/
def useKey : List Byte := kdf Config.drs (ascii "VGN-USE") uidBytes 256

/-- The nonce of a signature by the identity key: 56 random bytes, taken into 1 to n - 1. -/
def State.signNonce (s : State) : State × Nat :=
  let r := s.random 56
  (r.1, beNat r.2 % (curveOrder - 1) + 1)

/-! ## Attributes and slots (14 R305, R306) -/

/-- Attributes are valid. -/
def KeyAttr.valid (a : KeyAttr) : Bool :=
  decide (1 ≤ a.typ) && decide (a.typ ≤ 5) && decide (a.uses ≠ 0) && decide (a.uses < 512)
    && (decide (a.typ ≤ 2) || decide (bits a.uses 0 4 = 0))
    && (decide (3 ≤ a.typ) && decide (a.typ ≤ 4) || decide (bits a.uses 4 4 = 0))
    && (decide (a.typ = 5) || decide (bits a.uses 8 1 = 0))
    && decide (4 ≤ a.ckpt) && decide (a.ckpt ≤ 40) && decide (1 ≤ a.limit)

/-- The 16 bytes of attributes in a key update message (14 R311). -/
def KeyAttr.bytes (a : KeyAttr) : List Byte :=
  beBytes 1 a.typ ++ beBytes 1 a.origin ++ beBytes 2 a.uses ++ beBytes 1 a.ckpt ++ beBytes 3 0 ++ beBytes 8 a.limit

/-- The attributes that those 16 bytes hold. -/
def attrOf (b : List Byte) : KeyAttr :=
  let n (i k : Nat) := beNat ((b.drop i).take k)
  ⟨n 0 1, n 1 1, n 2 2, n 4 1, n 8 8⟩

/-- Bytes of the key of a slot TYPE. -/
def keyBytes (typ : Nat) (k : List Byte) : List Byte := if typ = 1 ∨ typ = 3 then fit 16 k else fit 32 k

/-- The key of a slot in key RAM, from its shares (14 R317). -/
def KeySlot.key (x : KeySlot) : List Byte := xorBytes x.share x.mask

/-- The slot's key under a new mask, drawn at time `t`. -/
def KeySlot.remask (x : KeySlot) (mask : List Byte) (t : Nat) : KeySlot :=
  { x with share := xorBytes x.key mask, mask := mask, maskAt := t }

/-- The attributes in the layout of KEY_ATTR. -/
def KeyAttr.word (a : KeyAttr) : Nat := a.typ + a.origin * 2 ^ 8 + a.uses * 2 ^ 16 + a.ckpt * 2 ^ 32 + a.limit * 2 ^ 64

/-- Slot `n` in key RAM. -/
def State.keySlot (s : State) (n : Nat) : KeySlot := s.keySlots.get KeySlot.empty n

/-- The state with it replaced. -/
def State.setSlot (s : State) (n : Nat) (x : KeySlot) : State := { s with keySlots := s.keySlots.set KeySlot.empty n x }

/-- STATE of a slot: 0 EMPTY, 1 READY, 2 EXHAUSTED. -/
def KeySlot.state (x : KeySlot) : Nat := if x.attr.typ = 0 then 0 else if x.count < x.attr.limit then 1 else 2

/-! ## Records in flash (14 R307, R308) -/

/-- `n` bytes of the key region as a number. -/
def State.keyNum (s : State) (a n : Nat) : Nat := beNat (s.keyFlash.read a n)

/-- Bytes written to the key region. -/
def State.keyProgram (s : State) (a : Nat) (b : List Byte) : State := { s with keyFlash := s.keyFlash.writes a b }

/-- Byte `a` of the key region: the factory certificate stands at 0x15000. -/
def State.keyRegion (s : State) (a : Nat) : Byte :=
  if 0x15000 ≤ a ∧ a < 0x16000 then Config.factoryCert.getD (a - 0x15000) 0 else s.keyFlash.byte a

/-- The places of the records of slot `n`, and of the counter. -/
def recAddr (n p : Nat) : Nat := 0x1000 + 256 * n + 128 * p
def resAddr (n p : Nat) : Nat := 0x11000 + 64 * n + 32 * p
def ctrAddr (p : Nat) : Nat := 64 * p

/-- The plaintext of a slot record, 56 bytes. -/
def KeyRec.plain (r : KeyRec) : List Byte := fit 32 r.key ++ r.attr.bytes ++ beBytes 4 r.counter ++ beBytes 2 r.gen ++ [0, 0]

/-- The content that a plaintext holds. -/
def recOf (p : List Byte) : KeyRec := ⟨attrOf ((p.drop 32).take 16), p.take 32, beNat ((p.drop 48).take 4), beNat ((p.drop 52).take 2)⟩

/-- The 72 bytes of a slot record. -/
def KeyRec.bytes (r : KeyRec) (n : Nat) : List Byte := beBytes 4 0x4B534C31 ++ beBytes 2 n ++ [0, 0] ++ keyWrap recKek r.plain

/-- The slot record in place `p` of slot `n`, if it is valid: MAGIC, SLOT and the integrity check of the unwrap. -/
def State.recAt (s : State) (n p : Nat) : Option KeyRec :=
  if s.keyNum (recAddr n p) 4 = 0x4B534C31 ∧ s.keyNum (recAddr n p + 4) 2 = n then
    (keyUnwrap recKek (s.keyFlash.read (recAddr n p + 8) 64)).map recOf
  else none

/-- The order of (COUNTER, GEN). -/
def recBefore (a b : Nat × Nat) : Bool := decide (a.1 < b.1) || (decide (a.1 = b.1) && decide (a.2 < b.2))

/-- The record in force of slot `n` under device counter `c`. -/
def State.recInForce (s : State) (n c : Nat) : Option KeyRec :=
  let ok (p : Nat) : Option KeyRec := (s.recAt n p).filter (fun r => decide (r.counter ≤ c))
  match ok 0, ok 1 with
  | some a, some b => if recBefore (a.counter, a.gen) (b.counter, b.gen) then some b else some a
  | some a, none => some a
  | none, b => b

/-- GEN of the next record of a slot. -/
def State.nextGen (s : State) (n : Nat) : Nat :=
  match s.recInForce n (s.rd F.KEY_KUC_COUNTER 0) with | some r => (r.gen + 1) % 65536 | none => 1

/-- The place that a write of a slot record goes to: one without a valid record, else the older one. -/
def State.recPlace (s : State) (n : Nat) : Nat :=
  match s.recAt n 0, s.recAt n 1 with
  | none, _ => 0
  | _, none => 1
  | some a, some b => if recBefore (b.counter, b.gen) (a.counter, a.gen) then 1 else 0

/-- A slot record is written. -/
def State.putRec (s : State) (n : Nat) (r : KeyRec) : State := s.keyProgram (recAddr n (s.recPlace n)) (r.bytes n)

/-- The first 16 bytes of a use reservation record. -/
def resBody (n counter gen reserved : Nat) : List Byte := beBytes 2 n ++ beBytes 4 counter ++ beBytes 2 gen ++ beBytes 8 reserved

/-- The authentication code of a use reservation record. -/
def resMac (body : List Byte) : List Byte := (hmac384 useKey body).take 16

/-- RESERVED of the reservation in place `p` of slot `n`, if it is valid and belongs to a record. -/
def State.resAt (s : State) (n p counter gen : Nat) : Option Nat :=
  let v := s.keyNum (resAddr n p + 8) 8
  if s.keyFlash.read (resAddr n p) 16 = resBody n counter gen v ∧ s.keyFlash.read (resAddr n p + 16) 16 = resMac (resBody n counter gen v)
  then some v else none

/-- The newest reservation that belongs to a record. -/
def State.reservedOf (s : State) (n counter gen : Nat) : Nat := max ((s.resAt n 0 counter gen).getD 0) ((s.resAt n 1 counter gen).getD 0)

/-- A reservation record is written: to the place without a valid one that belongs to the record, else over the older. -/
def State.putRes (s : State) (n counter gen reserved : Nat) : State :=
  let p := match s.resAt n 0 counter gen, s.resAt n 1 counter gen with
    | none, _ => 0
    | _, none => 1
    | some a, some b => if b < a then 1 else 0
  let body := resBody n counter gen reserved
  s.keyProgram (resAddr n p) (body ++ resMac body)

/-- A reservation write starts once the count has reached RESERVED - 2^(CKPT_LOG2 - 1) (14 R308). RESERVED stays in its 8 bytes. -/
def KeySlot.reserve (x : KeySlot) : KeySlot :=
  if x.state = 1 ∧ x.writing = none ∧ x.reserved ≤ x.count + 2 ^ (x.attr.ckpt - 1) then
    { x with writing := some (min (2 ^ 64 - 1) (x.reserved + 2 ^ x.attr.ckpt)) } else x

/-- A slot once a record is in force: its count starts at RESERVED, its key under a mask drawn at time `t`. -/
def KeyRec.slot (r : KeyRec) (reserved : Nat) (mask : List Byte) (t : Nat) : KeySlot :=
  if r.attr.typ = 0 then { KeySlot.empty with counter := r.counter, gen := r.gen }
  else KeySlot.reserve ⟨r.attr, xorBytes (fit 32 r.key) mask, mask, t, reserved, reserved, none, r.counter, r.gen⟩

/-- The cipher units' copies of slot `n` are wiped (15 R322). -/
def State.wipeCopies (s : State) (n : Nat) : State := { s with keyCopies := s.keyCopies.filter (fun e => decide (e.1 % 256 ≠ n)) }

/-- A record comes into force in key RAM: the slot's key takes a fresh mask (14 R314), and the units' copies of the slot are wiped. -/
def State.commitSlot (s : State) (n : Nat) (r : KeyRec) (reserved : Nat) : State :=
  let d := if r.attr.typ = 0 then (s, []) else s.random 32
  (d.1.setSlot n (r.slot reserved d.2 s.now)).wipeCopies n

/-- RESERVATION_WRITE_DONE (14 R308). -/
def execReservationWriteDone (n : Fin 256) (s : State) : Out :=
  let x := s.keySlot n
  match x.writing with
  | some v =>
    let s := s.putRes n x.counter x.gen v
    .next (s.setSlot n (KeySlot.reserve { x with reserved := v, writing := none }))
  | none => .next s

/-! ## Uses (14 R306, R308) -/

/-- A slot becomes EXHAUSTED (14 R306). -/
def State.exhausted (s : State) (n : Nat) : State :=
  ((s.evt F.KEY_STAT_EXHAUST_EVT 0).bump F.KEY_CNT_COUNT 5).reportX 0x1D1 (elemId 12 n)

/-- The round keys that a cipher unit expands from the key of a slot TYPE. -/
def roundKeys (typ : Nat) (key : List Byte) : List Byte :=
  (aesKeys ((keyBytes typ key).map BitVec.toNat)).flatten.map (fun x => BitVec.ofNat 8 x)

/-- Unit `u` (0 to 2 in-line, 3 sealed frames) keeps the round keys of slot `n`, loading them when it has none (15 R322). -/
def State.loadCopy (s : State) (u n : Nat) : State :=
  match s.keyCopies.find (256 * u + n) with
  | some _ => s
  | none => { s with keyCopies := s.keyCopies.put (256 * u + n) (roundKeys (s.keySlot n).attr.typ (s.keySlot n).key) }

/-- One use of slot `n`: its key and the count before it, when the complex is unsealed, the slot is READY and its
reservation covers the count. -/
def State.keyUse (s : State) (n : Nat) : State × Option (List Byte × Nat) :=
  let x := s.keySlot n
  if s.on F.KEY_STAT_UNSEALED 0 && decide (x.state = 1) then
    if x.count < x.reserved then
      let y := KeySlot.reserve { x with count := x.count + 1 }
      let s := s.setSlot n y
      (if y.state = 2 then s.exhausted n else s, some (x.key, x.count))
    else (s.bump F.KEY_CNT_COUNT 6, none)
  else (s, none)

/-- One use of slot `n` by cipher unit `u`, which keeps the slot's round keys. -/
def State.unitUse (s : State) (u n : Nat) : State × Option (List Byte × Nat) :=
  let r := s.keyUse n
  (if r.2.isSome then r.1.loadCopy u n else r.1, r.2)

/-- A slot whose PN is exhausted reads EXHAUSTED (15 R326). -/
def State.keyExhaust (s : State) (n : Nat) : State :=
  let x := s.keySlot n
  if x.state = 1 then (s.setSlot n { x with count := x.attr.limit }).exhausted n else s

/-- A slot may be used for a purpose: unsealed, READY and the bit of USES set. -/
def State.keyReady (s : State) (n use : Nat) : Bool :=
  s.on F.KEY_STAT_UNSEALED 0 && decide ((s.keySlot n).state = 1) && (s.keySlot n).attr.uses.testBit use

/-! ## The key-update counter (14 R309, R310) -/

/-- The first 8 bytes of a counter record. -/
def ctrBody (l h : Nat) : List Byte := beBytes 4 0x4B435452 ++ beBytes 2 l ++ beBytes 2 h

/-- The authentication code of a counter record. -/
def ctrMac (l h : Nat) : List Byte := (hmac384 (ctrKey h) (ctrBody l h)).take 24

/-- L and H of the counter record in place `p`, if it is valid. -/
def State.ctrAt (s : State) (p : Nat) : Option (Nat × Nat) :=
  let l := s.keyNum (ctrAddr p + 4) 2
  let h := s.keyNum (ctrAddr p + 6) 2
  if s.keyNum (ctrAddr p) 4 = 0x4B435452 ∧ l < 1024 ∧ s.keyFlash.read (ctrAddr p + 8) 24 = ctrMac l h then some (l, h) else none

/-- L: from the newest record valid under K_CTR(H). -/
def State.ctrLow (s : State) : Nat :=
  let l (p : Nat) : Nat := match s.ctrAt p with | some r => if r.2 = s.kucHigh then r.1 else 0 | none => 0
  max (l 0) (l 1)

/-- The device counter that flash and fuses give. -/
def State.ctrHeld (s : State) : Nat := 1024 * s.kucHigh + s.ctrLow

/-- The place that a counter record is written to: the older one. -/
def State.ctrPlace (s : State) : Nat :=
  match s.ctrAt 0, s.ctrAt 1 with
  | none, _ => 0
  | _, none => 1
  | some a, some b => if 1024 * b.2 + b.1 < 1024 * a.2 + a.1 then 1 else 0

/-- The device counter advances to `m` (14 R312 step 5): fuses, and a counter record in the older place. -/
def State.ctrAdvance (s : State) (m : Nat) : State :=
  let h := max s.kucHigh (m / 1024)
  let s := ({ s with kucHigh := h } : State).keyProgram (ctrAddr s.ctrPlace) (ctrBody (m % 1024) h ++ ctrMac (m % 1024) h)
  (s.wr F.KEY_KUC_H 0 h).wr F.KEY_KUC_COUNTER 0 m

/-- The counter is resolved, rolling a valid record above it forward (14 R310). -/
def State.ctrResolve (s : State) : State :=
  let c := s.ctrHeld
  let m := (List.range 512).foldl (fun m i => match s.recAt (i / 2) (i % 2) with
    | some r => if c < r.counter ∧ r.counter ≤ c + 1024 then max m r.counter else m
    | none => m) c
  if c < m then s.ctrAdvance m else (s.wr F.KEY_KUC_H 0 s.kucHigh).wr F.KEY_KUC_COUNTER 0 c

/-- The device counter. -/
def State.keyCtrNow (s : State) : Nat := s.rd F.KEY_KUC_COUNTER 0

/-- Slot `n` is loaded from its record in force; one whose count starts at LIMIT or above is EXHAUSTED (14 R306, R308). -/
def State.loadSlot (s : State) (n : Nat) : State :=
  match s.recInForce n s.keyCtrNow with
  | some r =>
    let s := s.commitSlot n r (s.reservedOf n r.counter r.gen)
    if (s.keySlot n).state = 2 then s.exhausted n else s
  | none => (s.setSlot n KeySlot.empty).wipeCopies n

/-- Steps 3 and 4 of 03 R61: the DRBG is reseeded (14 R314), scramble key and data mask are drawn (14 R317), the slots are unwrapped, and
the private key bus is enabled. -/
def State.loadSlots (s : State) : State :=
  let k := s.seedDrbg.random 32
  let d := k.1.random 32
  let s := (List.range 256).foldl State.loadSlot { d.1 with keyScramble := k.2, keyDataMask := d.2 }
  (s.wr F.KEY_STAT_UNSEALED 0 1).wr F.KEY_STAT_ZEROISED 0 0

/-- Unseal (03 R61): refused while the tamper flag is set; the counter is resolved in either case (14 R310). -/
def State.unseal (s : State) : State :=
  let s := s.wrb F.KEY_STAT_TAMPER_FLAG 0 s.tamperFlag
  let s := s.ctrResolve
  let pub := fit 96 (publicKey idKey)
  let s := (List.range 24).foldl (fun t n => t.wr F.KEY_IDPUB_BYTES n (beNat ((pub.drop (4 * n)).take 4))) s
  if s.tamperFlag then s.wr F.GLB_BOOT_STAT_TAMPER_REFUSED 0 1 else s.loadSlots

/-! ## Commands (14 R312, R315) -/

/-- A command is refused with a code. -/
def State.keyRefuse (s : State) (code : Nat) : State :=
  ((s.wr F.KEY_STAT_LAST_ERR 0 code).evt F.KEY_STAT_REFUSED_EVT 0).bump F.KEY_CNT_COUNT 4

/-- A command has finished. -/
def State.keyDone (s : State) (cnt : Nat) : State :=
  ((s.wr F.KEY_STAT_LAST_ERR 0 0).evt F.KEY_STAT_DONE_EVT 0).bump F.KEY_CNT_COUNT cnt

/-- The message window reads 0 once an UPDATE finishes. -/
def State.updEnd (s : State) : State := ({ s with keyMsg := [] }).wr F.KEY_STAT_BUSY 0 0

/-- The FLEET position of a KEY_ID that is used and not revoked (14 R303). -/
def State.fleetPos (s : State) (id : Nat) : Option Nat :=
  firstIdx (fun k => decide ((Config.fleetId k).toNat ≠ 0) && decide ((Config.fleetId k).toNat = id) && !s.fleetRevoked.testBit k) 0 4

/-- A FLEET position counts as unrevoked. -/
def State.fleetLive (s : State) (k : Nat) : Bool := decide ((Config.fleetId k).toNat ≠ 0) && !s.fleetRevoked.testBit k

/-- A message's bytes `i` to `i + n - 1` as a number. -/
def msgNat (m : List Byte) (i n : Nat) : Nat := beNat ((m.drop i).take n)

/-- The attributes in a key update message. -/
def msgAttr (m : List Byte) : KeyAttr := attrOf ((m.drop 32).take 16)

/-- Step 1 of 14 R312, and the refusals of TYPE 4 and of the tamper-clear: the code of the first check that fails, 0 when all pass. -/
def State.updFormat (s : State) (m : List Byte) (tampActive : Bool) : Nat :=
  let typ := msgNat m 4 1
  let slot := msgNat m 6 2
  let cnt := msgNat m 24 4
  let fmt := decide (msgNat m 0 4 = 0x4B554D31) && decide (1 ≤ typ) && decide (typ ≤ 4) && decide (msgNat m 5 1 = 1)
    && (if typ ≤ 2 then decide (slot < 256) else decide (slot = 0xFFFF))
    && decide (msgNat m 37 3 = 0) && decide (msgNat m 188 4 = 0)
    && (decide (typ = 1) || (decide (msgNat m 32 16 = 0) && decide (msgNat m 48 136 = 0)))
    && (decide (typ = 4) || decide (msgNat m 184 4 = 0))
  if !fmt then 0x01
  else if (m.drop 8).take 16 ≠ uidBytes then 0x02
  else if s.keyCtrNow = 262144 then 0x0E
  else if cnt ≤ s.keyCtrNow then 0x03
  else if s.keyCtrNow + 1024 < cnt then 0x04
  else if 262144 < cnt then 0x0E
  else if s.tamperFlag ∧ typ ≤ 2 then 0x0C
  else if typ = 3 ∧ tampActive then 0x10
  else 0

/-- Step 2: the fleet key and the signature. A TYPE 4 message may name neither the signing key nor the last unrevoked one. -/
def State.updSigned (s : State) (m : List Byte) : Nat :=
  match s.fleetPos (msgNat m 28 4) with
  | none => 0x05
  | some k =>
    if ecdsaVerify (Config.fleetKey k) (m.take 192) ((m.drop 192).take 96) = false then 0x06
    else if msgNat m 4 1 = 4 then
      match s.fleetPos (msgNat m 184 4) with
      | none => 0x05
      | some j => if j = k ∨ ((List.range 4).filter s.fleetLive).length ≤ 1 then 0x11 else 0
    else 0

/-- Step 3 of a TYPE 1 message: the key, or the code. -/
def updKey (m : List Byte) : Nat × List Byte :=
  let kek (z : List Byte) := kdf z (ascii "VGN-KUM") (uidBytes ++ (m.drop 24).take 4 ++ (m.drop 6).take 2) 256
  match (ecdhX idKey ((m.drop 48).take 96)).bind (fun z => keyUnwrap (kek z) ((m.drop 144).take 40)) with
  | none => (0x07, [])
  | some k => if (msgAttr m).valid && decide ((msgAttr m).origin = 0) then (0, fit 32 k) else (0x08, [])

/-- KEY_UPDATE: steps 1 to 4 of 14 R312. `written` says that the slot record was written and read back valid, `tampActive` that
a TAMP_IN input is active. -/
def execKeyUpdate (written tampActive : Bool) (s : State) : Out :=
  if s.on F.KEY_STAT_BUSY 0 then .next (s.keyRefuse 0x0B)
  else
    let m := s.keyMsg.read 0 288
    let typ := msgNat m 4 1
    let slot := msgNat m 6 2
    let c1 := s.updFormat m tampActive
    let c2 := if c1 = 0 then s.updSigned m else c1
    let k := if c2 = 0 ∧ typ = 1 then updKey m else (c2, [])
    if k.1 ≠ 0 then .next (s.keyRefuse k.1).updEnd
    else if typ ≤ 2 then
      let r : KeyRec := ⟨if typ = 1 then msgAttr m else KeyAttr.empty, k.2, msgNat m 24 4, s.nextGen slot⟩
      if written then
        .next ((({ s with keyCmd := some ⟨typ, slot, msgNat m 24 4, msgNat m 184 4, some r⟩ }).putRec slot r).wr F.KEY_STAT_BUSY 0 1)
      else .next (s.keyRefuse 0x0A).updEnd
    else .next (({ s with keyCmd := some ⟨typ, 0, msgNat m 24 4, msgNat m 184 4, none⟩ }).wr F.KEY_STAT_BUSY 0 1)

/-- KEY_UPDATE_COMMIT: steps 5 and 6 of 14 R312; a TYPE 3 message clears the tamper flag and unseals (14 R320). -/
def execKeyUpdateCommit (s : State) : Out :=
  match s.keyCmd with
  | none => .next s
  | some c =>
    let s := ({ s with keyCmd := none }).ctrAdvance c.m
    let s := match c.record with
      | some r => if s.on F.KEY_STAT_UNSEALED 0 then s.commitSlot c.slot r 0 else s
      | none => s
    let s := if c.typ = 3 then (({ s with tamperFlag := false }).wr F.KEY_STAT_TAMPER_FLAG 0 0).loadSlots else s
    let s := if c.typ = 4 then
      (match s.fleetPos c.param with | some k => { s with fleetRevoked := setBitN s.fleetRevoked k } | none => s) else s
    .next (s.keyDone 0).updEnd

/-- A command on a slot may start: not BUSY, and the complex is unsealed. -/
def State.keyCmdCode (s : State) : Nat := if s.on F.KEY_STAT_BUSY 0 then 0x0B else if s.on F.KEY_STAT_UNSEALED 0 then 0 else 0x0D

/-- The attributes in KEY_ATTR. -/
def State.attrReg (s : State) : KeyAttr :=
  ⟨s.rd F.KEY_ATTR_TYPE 0, s.rd F.KEY_ATTR_ORIGIN 0, s.rd F.KEY_ATTR_USES 0, s.rd F.KEY_ATTR_CKPT_LOG2 0, s.rd F.KEY_ATTR_LIMIT 0⟩

/-- A new key made inside the device is written and committed. -/
def State.newKey (s : State) (n : Nat) (a : KeyAttr) (key : List Byte) : State :=
  let r : KeyRec := ⟨a, key, s.keyCtrNow, s.nextGen n⟩
  (s.putRec n r).commitSlot n r 0

/-- A key drawn from the DRBG: 16 bytes for TYPE 1 and 3, else 32. -/
def State.drawKey (s : State) (typ : Nat) : State × List Byte :=
  let r := s.random (if typ = 1 ∨ typ = 3 then 16 else 32)
  (r.1, fit 32 r.2)

/-- KEY_GENERATE. -/
def execKeyGenerate (n : Fin 256) (written : Bool) (s : State) : Out :=
  let a := s.attrReg
  if s.keyCmdCode ≠ 0 then .next (s.keyRefuse s.keyCmdCode)
  else if (s.keySlot n).state ≠ 0 then .next (s.keyRefuse 0x09)
  else if !(a.valid && decide (a.origin = 0)) then .next (s.keyRefuse 0x08)
  else if s.trngFail then .next (s.keyRefuse 0x0F)
  else if !written then .next (s.keyRefuse 0x0A)
  else
    let k := s.drawKey a.typ
    .next ((k.1.newKey n { a with origin := 1 } k.2).keyDone 1)

/-- KEY_DERIVE: one use of the source is counted. -/
def execKeyDerive (src n : Fin 256) (written : Bool) (s : State) : Out :=
  let a := s.attrReg
  let x := s.keySlot src
  if s.keyCmdCode ≠ 0 then .next (s.keyRefuse s.keyCmdCode)
  else if x.state ≠ 1 then .next (s.keyRefuse 0x12)
  else if x.attr.typ ≠ 5 ∨ x.attr.uses.testBit 8 = false then .next (s.keyRefuse 0x11)
  else if (s.keySlot n).state ≠ 0 then .next (s.keyRefuse 0x09)
  else if !(a.valid && decide (a.origin = 0)) then .next (s.keyRefuse 0x08)
  else if !written then .next (s.keyRefuse 0x0A)
  else match s.keyUse src with
    | (s, none) => .next (s.keyRefuse 0x13)
    | (s, some (k, _)) =>
      let label := (List.range 8).flatMap (fun i => beBytes 4 (s.rd F.KEY_LABEL_BYTES i))
      let key := fit 32 (kdf k label (uidBytes ++ beBytes 2 n) (if a.typ = 1 ∨ a.typ = 3 then 128 else 256))
      .next ((s.newKey n { a with origin := x.attr.origin } key).keyDone 2)

/-- KEY_ERASE. -/
def execKeyErase (n : Fin 256) (written : Bool) (s : State) : Out :=
  let x := s.keySlot n
  if s.keyCmdCode ≠ 0 then .next (s.keyRefuse s.keyCmdCode)
  else if x.attr.typ = 0 then .next (s.keyRefuse 0x12)
  else if x.attr.origin ≠ 1 then .next (s.keyRefuse 0x11)
  else if !written then .next (s.keyRefuse 0x0A)
  else .next (((s.newKey n KeyAttr.empty []).wr F.KEY_STAT_LAST_ERR 0 0).evt F.KEY_STAT_DONE_EVT 0)

/-- KEY_ATTEST (14 R316). -/
def execKeyAttest (n : Fin 256) (s : State) : Out :=
  let x := s.keySlot n
  if s.keyCmdCode ≠ 0 then .next (s.keyRefuse s.keyCmdCode)
  else if s.trngFail then .next (s.keyRefuse 0x0F)
  else
    let rev := [F.GLB_DEV_REV_MAJOR, F.GLB_DEV_REV_MINOR, F.GLB_DEV_REV_METAL, F.GLB_DEV_REV_PD_REV].flatMap (fun f => beBytes 1 (s.rd f 0))
    let body := beBytes 4 0x4B415431 ++ beBytes 2 n ++ beBytes 1 x.state ++ beBytes 1 (1 + 2 * b2n s.tamperFlag) ++ uidBytes
      ++ beBytes 4 (s.rd F.GLB_DEV_ID_ID 0) ++ rev ++ x.attr.bytes ++ beBytes 8 x.count ++ beBytes 4 s.keyCtrNow ++ beBytes 4 x.counter
      ++ (List.range 8).flatMap (fun i => beBytes 4 (s.rd F.KEY_NONCE_BYTES i))
    let k := s.signNonce
    .next (({ k.1 with keyAtt := body ++ fit 96 (ecdsaSign idKey body k.2) }).keyDone 3)

/-! ## Key RAM, TRNG and tamper (14 R314, R317 to R319) -/

/-- 2^REMASK_LOG2 MCLK cycles in ticks; values outside 12 to 20 act as 14. -/
def State.remaskPeriod (s : State) : Nat :=
  let k := s.rd F.KEY_CTL_REMASK_LOG2 0
  2 ^ (if 12 ≤ k ∧ k ≤ 20 then k else 14) * 4 / 3

/-- KEY_REMASK: a new mask is drawn for the slot, once its mask has stood for the period of REMASK_LOG2. A failed TRNG gives none. -/
def execKeyRemask (n : Fin 256) (s : State) : Out :=
  let x := s.keySlot n
  .next (if x.attr.typ = 0 ∨ s.now < x.maskAt + s.remaskPeriod ∨ s.trngFail = true then s
    else (s.random 32).1.setSlot n (x.remask (s.random 32).2 s.now))

/-- KEY_RAM_PARITY: the slot reads EMPTY until the next unseal, and the units' copies of it are wiped. -/
def execKeyRamParity (n : Fin 256) (s : State) : Out :=
  .next (((s.setSlot n KeySlot.empty).wipeCopies n).reportX 0x1D0 (elemId 12 n))

/-- TRNG_HEALTH_FAIL. -/
def execTrngHealthFail (s : State) : Out := .next ((({ s with trngFail := true }).evt F.KEY_STAT_TRNG_FAIL_EVT 0).reportX 0x1D2 (elemId 12 0))

/-- KEY_RNG_READ: a new DRBG word; 0 after a TRNG failure. -/
def execKeyRngRead (ini : Initiator) (s : State) : Out :=
  .next (if s.coreHalted ini then s else if s.trngFail then s.reply ini .done 0
    else let r := s.random 4; r.1.reply ini .done (beNat r.2))

/-- KEY_CTL.CNT_CLR. -/
def execKeyCntClr (s : State) : Out := .next (s.clearFld F.KEY_CNT_COUNT)

end Sys2Proof.Machine
end

