-- ==== Sys2Proof/Machine/Cuckoo.lean ====
section
/-! DEFINITION. The cuckoo hash tables of the FDB and the signal routing table (spec 08 R171 to R173, 11 R245):
hashing, lookup, insertion with the shortest chain of moves, and the return of stash entries. -/
namespace Sys2Proof.Machine

/-- One bit step of crc32_msb (08 R171). -/
def crcStep (poly c : Nat) : Nat :=
  if c.testBit 31 then ((c <<< 1) ^^^ poly) % 2 ^ 32 else (c <<< 1) % 2 ^ 32

/-- `n` bit steps. -/
def crcSteps (poly : Nat) : Nat → Nat → Nat
  | 0, c => c
  | n + 1, c => crcSteps poly n (crcStep poly c)

/-- crc32_msb over the bytes of a key, no final xor (08 R171). -/
def crc32Msb (poly : Nat) (k : List Byte) : Nat :=
  k.foldl (fun c b => crcSteps poly 8 (c ^^^ (b.toNat <<< 24))) 0xFFFFFFFF

/-- H0 and H1 of an 8-byte key, with the mask of the bank (08 R171). -/
def hashes (k : List Byte) (mask : Nat) : Nat × Nat :=
  (crc32Msb 0x04c11db7 k &&& mask, (crc32Msb 0x1edc6f41 k >>> 16) &&& mask)

/-- The numbering of the slots of a table: buckets of a bank in the window, the number of the first stash entry, and
the stash's size (08 R187). -/
structure Geo where
  stride : Nat
  stash : Nat
  stashN : Nat

/-- The four slots of a key: bank 0's bucket, then bank 1's, lower slot first. -/
def Geo.slots (g : Geo) (h : Nat × Nat) : List Nat :=
  [2 * h.1, 2 * h.1 + 1, 2 * (g.stride + h.2), 2 * (g.stride + h.2) + 1]

/-- The numbers of the stash entries. -/
def Geo.stashSlots (g : Geo) : List Nat := (List.range g.stashN).map (g.stash + ·)

/-- The first of the slots whose entry satisfies `m`: at most one holds a key (08 R172). -/
def slotWith {α : Type} (t : Tbl α) (m : α → Bool) : List Nat → Option (Nat × α)
  | [] => none
  | s :: rest =>
    match t.find s with
    | some e => if m e then some (s, e) else slotWith t m rest
    | none => slotWith t m rest

/-- The stash entry that satisfies `m`. -/
def stashWith {α : Type} (t : Tbl α) (g : Geo) (m : α → Bool) : Option (Nat × α) :=
  t.find? (fun e => decide (g.stash ≤ e.1) && m e.2)

/-- Where a key sits: in its two buckets or in the stash (08 R172). -/
def cuckooFind {α : Type} (t : Tbl α) (g : Geo) (h : Nat × Nat) (m : α → Bool) : Option (Nat × α) :=
  match slotWith t m (g.slots h) with
  | some x => some x
  | none => stashWith t g m

/-- The first free slot of a list. -/
def freeSlot {α : Type} (t : Tbl α) : List Nat → Option Nat
  | [] => none
  | s :: rest => if (t.find s).isNone then some s else freeSlot t rest

/-- The bucket in the other bank of the entry that sits in slot `s`. -/
def Geo.other (g : Geo) (s : Nat) (h : Nat × Nat) : List Nat :=
  if s < 2 * g.stride then (g.slots h).drop 2 else (g.slots h).take 2

/-- One level of the breadth-first search for a chain (08 R173): paths, newest slot first, whose newest slot holds an entry
that may move. It answers a path that ends at a free slot, or the paths one move longer. -/
def chainLevel {α : Type} (t : Tbl α) (g : Geo) (h : α → Nat × Nat) (fixed : α → Bool) :
    List (List Nat) → List Nat → List (List Nat) → Option (List Nat) × List Nat × List (List Nat)
  | [], seen, out => (none, seen, out)
  | p :: rest, seen, out =>
    match p with
    | [] => chainLevel t g h fixed rest seen out
    | s :: _ =>
      match t.find s with
      | none => chainLevel t g h fixed rest seen out
      | some e =>
        let alt := g.other s (h e)
        match freeSlot t alt with
        | some f => (some (f :: p), seen, out)
        | none =>
          let new := alt.filter (fun x => !seen.contains x && (match t.find x with | some y => !fixed y | none => false))
          chainLevel t g h fixed rest (seen ++ new) (out ++ new.map (· :: p))

/-- The shortest chain of at most `n` moves from the given paths. -/
def chain {α : Type} (t : Tbl α) (g : Geo) (h : α → Nat × Nat) (fixed : α → Bool) :
    Nat → List Nat → List (List Nat) → Option (List Nat)
  | 0, _, _ => none
  | n + 1, seen, paths =>
    match chainLevel t g h fixed paths seen [] with
    | (some p, _, _) => some p
    | (none, seen, out) => if out.isEmpty then none else chain t g h fixed n seen out

/-- The moves of a chain, from its end backwards: the newest slot is free and takes the entry of the next one. The answer
is the table and the slot that the chain frees. -/
def runChain {α : Type} (t : Tbl α) : List Nat → Tbl α × Option Nat
  | [] => (t, none)
  | [s] => (t, some s)
  | f :: s :: rest =>
    match t.find s with
    | some e => runChain ((Tbl.put t f e).erase s) (s :: rest)
    | none => (t, none)

/-- An insertion (08 R173): over the same key; into a free slot; by a chain of at most 8 moves; into the stash; or FULL. -/
def cuckooInsert {α : Type} (t : Tbl α) (g : Geo) (h : α → Nat × Nat) (fixed : α → Bool) (same : α → Bool) (e : α) : Option (Tbl α) :=
  match cuckooFind t g (h e) same with
  | some (s, _) => some (t.put s e)
  | none =>
    match freeSlot t (g.slots (h e)) with
    | some s => some (t.put s e)
    | none =>
      let start := (g.slots (h e)).filter (fun s => match t.find s with | some y => !fixed y | none => false)
      match chain t g h fixed 8 (g.slots (h e)) (start.map (fun s => [s])) with
      | some p =>
        match runChain t p with
        | (t, some s) => some (t.put s e)
        | (_, none) => none
      | none =>
        match freeSlot t g.stashSlots with
        | some s => some (t.put s e)
        | none => none

/-- After a deletion the lowest-numbered movable stash entry whose buckets have a free slot goes back there (08 R173). -/
def stashReturn {α : Type} (t : Tbl α) (g : Geo) (h : α → Nat × Nat) (fixed : α → Bool) : Tbl α :=
  match t.find? (fun e => decide (g.stash ≤ e.1) && !fixed e.2 && (freeSlot t (g.slots (h e.2))).isSome) with
  | some (i, e) =>
    match freeSlot t (g.slots (h e)) with
    | some s => (Tbl.erase t i).put s e
    | none => t
  | none => t

end Sys2Proof.Machine
end

