-- ==== Sys2Proof/Machine/Tables.lean ====
section
/-! DEFINITION. Forwarding tables and learning (spec 08): the FDB, the VLAN, route, next-hop and NAT tables, the policers,
the update buffer and its epochs, learning, aging and notifications. -/
namespace Sys2Proof.Machine

/-! ## The FDB -/

/-- Slot numbers of an FDB (08 R187, R194). -/
def fdbGeo : Geo := ⟨16384, 65536, 64⟩

/-- The key of an FDB entry as 8 bytes (08 R171). -/
def fdbKey (vid mac : Nat) : List Byte := beBytes 2 (vid % 4096) ++ beBytes 6 mac

/-- H0 and H1 of a key, by the size that the Scroll sets. -/
def State.fdbHash (s : State) (vid mac : Nat) : Nat × Nat :=
  hashes (fdbKey vid mac) (if s.memCfg.fdbEntries = 32768 then 0x1FFF else 0x3FFF)

/-- The FDB of pipeline `i`. -/
def State.fdbOf (s : State) (i : Nat) : Tbl FdbEntry := s.fdb.get [] i

/-- The state with the FDB of pipeline `i` replaced. -/
def State.setFdb (s : State) (i : Nat) (t : Tbl FdbEntry) : State := { s with fdb := s.fdb.set [] i t }

/-- Whether an entry holds the key. -/
def FdbEntry.holds (vid mac : Nat) (e : FdbEntry) : Bool := decide (e.vid = vid) && decide (e.mac = mac)

/-- The slot and entry that hold a key in the table itself. -/
def State.fdbSlot (s : State) (i vid mac : Nat) : Option (Nat × FdbEntry) :=
  cuckooFind (s.fdbOf i) fdbGeo (s.fdbHash vid mac) (FdbEntry.holds vid mac)

/-- The insertion of an entry into pipeline `i`'s FDB; none is FULL. -/
def State.fdbInsert (s : State) (i : Nat) (e : FdbEntry) : Option State :=
  (cuckooInsert (s.fdbOf i) fdbGeo (fun x => s.fdbHash x.vid x.mac) FdbEntry.static (FdbEntry.holds e.vid e.mac) e).map (s.setFdb i)

/-- The entry in slot `n` is deleted, and a stash entry may return. -/
def State.fdbErase (s : State) (i n : Nat) : State :=
  s.setFdb i (stashReturn ((s.fdbOf i).erase n) fdbGeo (fun x => s.fdbHash x.vid x.mac) FdbEntry.static)

/-- Whether a selection takes in pipeline `i`. -/
def fdbSelHas (x : FdbSel) (i : Nat) : Bool :=
  match x with
  | .pipeA => decide (i = 0)
  | .pipeB => decide (i = 1)
  | .both => true

/-- Whether an operation concerns key (vid, mac) of pipeline `i`'s FDB: none when not; else the entry written, or none for a
deletion. -/
def opOnKey (op : TblOp) (i vid mac : Nat) : Option (Option FdbEntry) :=
  match op with
  | .fdbInsert sel m v st sy age k d =>
    if fdbSelHas sel i && decide (m.toNat = mac) && decide (v.toNat = vid) then
      some (some ⟨m.toNat, v.toNat, st, age.toNat, sy, k.toNat, d.toNat⟩) else none
  | .fdbDelete sel m v => if fdbSelHas sel i && decide (m.toNat = mac) && decide (v.toNat = vid) then some none else none
  | _ => none

/-! ## The update buffer (08 R188, R189) -/

/-- TBL_EPOCH. -/
def State.epoch (s : State) : Nat := s.rd F.TBL_EPOCH_EPOCH 0

/-- Whether a buffered write is committed: its epoch is the present one or older. -/
def State.committed (s : State) (w : BufWrite) : Bool := !serialNewer w.epoch s.epoch

/-- Uncommitted writes: PENDING of TBL_BUF. -/
def State.pendingWrites (s : State) : Nat := (s.updBuf.filter (fun w => !s.committed w)).length

/-- The last committed and not yet applied operation on an FDB key. -/
def State.fdbOverlay (s : State) (i vid mac : Nat) : Option (Option FdbEntry) :=
  s.updBuf.foldl (fun r w => if s.committed w then (match opOnKey w.op i vid mac with | some x => some x | none => r) else r) none

/-- The lookup of (VID, MAC) as a frame of the present epoch sees it (08 R172, R189). -/
def State.fdbLookup (s : State) (i vid mac : Nat) : Option FdbEntry :=
  match s.fdbOverlay i vid mac with
  | some r => r
  | none => (s.fdbSlot i vid mac).map Prod.snd

/-- The key of a windowed table entry. -/
def rowKey (tid idx : Nat) : Nat := tid * 2 ^ 20 + idx

/-- Bits of a word of a windowed entry that hold a field; the others are reserved and read 0. -/
def rowMask (tid word : Nat) : Nat :=
  match tid, word with
  | 0x03, 2 => 0x7 | 0x03, 5 => 0x7 | 0x03, 6 => 0xF8000000 | 0x03, 7 => 0
  | 0x06, 1 => 0x0FFFFFFF | 0x06, 2 => 0xE000007F | 0x06, 3 => 0
  | 0x07, 2 => 0x80000000 | 0x07, 3 => 0
  | 0x08, 0 => 0x801FFFFF | 0x08, 1 => 0x1FFFFF | 0x08, 2 => 0xFFFFFF | 0x08, 3 => 0xFFFFFF
  | 0x09, 0 => 0x801FFFFF | 0x09, 1 => 0x1FFFFF | 0x09, 2 => 0xFFFFFF | 0x09, 3 => 0xFFFFFF
  | 0x10, 16 => 0xFFEFFF7F | 0x10, 17 => 0x1F
  | 0x11, 16 => 0xFFEFFF7F | 0x11, 17 => 0x1F
  | t, w =>
    if t = 0x08 ∨ t = 0x09 then 0
    else if (t = 0x10 ∨ t = 0x11) ∧ 18 ≤ w then 0
    else 0xFFFFFFFF

/-- A windowed entry with one word written. -/
def putWord (row tid word val : Nat) : Nat :=
  let m := val &&& rowMask tid word
  row - (bits row (32 * word) 32) * 2 ^ (32 * word) + m * 2 ^ (32 * word)

/-- An entry of a windowed table as applied. -/
def State.rowApplied (s : State) (tid idx : Nat) : Nat := s.rows.get 0 (rowKey tid idx)

/-- An entry as a frame of the present epoch sees it: committed writes over the applied entry. -/
def State.row (s : State) (tid idx : Nat) : Nat :=
  s.updBuf.foldl (fun r w =>
    if s.committed w then (match w.op with
      | .word t i k v => if t = tid ∧ i = idx then putWord r tid k v.toNat else r
      | _ => r) else r) (s.rowApplied tid idx)

/-- A field of an entry: `n` bits from bit `lo` of word `w`. -/
def fieldOf (row w lo n : Nat) : Nat := bits row (32 * w + lo) n

/-- Policer parameters: CIR, PIR, CBS, PBS. -/
def polParams (row : Nat) : Nat × Nat × Nat × Nat := (fieldOf row 0 0 21, fieldOf row 1 0 21, fieldOf row 2 0 24, fieldOf row 3 0 24)

/-- Policer bucket units in a byte (08 R186): TCLK adds CIR units of 1/200,000 byte a tick. -/
def polUnit : Nat := 200000

/-- Both buckets of a policer are full. -/
def State.policerFull (s : State) (i n : Nat) : State :=
  let p := polParams (s.row (8 + i) n)
  { s with tokens := s.tokens.set (0, 0) (4096 * i + n) (p.2.2.1 * polUnit, p.2.2.2 * polUnit) }

/-- The address bits of a prefix: those below LEN read 0. -/
def maskPfx (v6 : Bool) (pfx len : Nat) : Nat :=
  let w := if v6 then 128 else 32
  pfx / 2 ^ (w - min len w) * 2 ^ (w - min len w)

/-- The routes as a frame of the present epoch sees them. -/
def routesAfter (v6 : Bool) (l : List Route) (op : TblOp) : List Route :=
  match op with
  | .routeInsert x p n h =>
    if x = v6 then (l.filter (fun r => !(decide (r.pfx = maskPfx v6 p n) && decide (r.len = n)))) ++ [⟨maskPfx v6 p n, n, h⟩] else l
  | .routeDelete x p n =>
    if x = v6 then l.filter (fun r => !(decide (r.pfx = maskPfx v6 p n) && decide (r.len = n))) else l
  | _ => l

/-- The route list of a family, committed writes included. -/
def State.routes (s : State) (v6 : Bool) : List Route :=
  s.updBuf.foldl (fun l w => if s.committed w then routesAfter v6 l w.op else l) (if v6 then s.routes6 else s.routes4)

/-- A node with bad parity keeps route `r` from a lookup of `addr` (08 R187): the lookup reads the node, which misses, and the route is held
in it or below it. DEDUCED: the node is the entry that misses, so shorter prefixes, held above it, are still found. -/
def BadNode.hides (b : BadNode) (v6 : Bool) (now addr : Nat) (r : Route) : Bool :=
  decide (b.v6 = v6) && decide (now < b.rebuilt) && decide (maskPfx v6 addr b.len = b.pfx) && (decide (b.len = 0) || decide (b.len < r.len))

/-- The longest prefix that matches an address (08 R182). -/
def State.lpm (s : State) (v6 : Bool) (addr : Nat) : Option Route :=
  (s.routes v6).foldl (fun best r =>
    if maskPfx v6 addr r.len = r.pfx ∧ s.trieBad.any (fun b => b.hides v6 s.now addr r) = false then
      (match best with
        | some b => if b.len < r.len then some r else best
        | none => some r)
    else best) none

/-! ## Learn notifications (08 R180) -/

/-- The number of records in the ring. -/
def State.lnSize (s : State) : Nat :=
  let n := s.rd F.TBL_LN_CFG_SIZE_LOG2 0
  2 ^ (if 6 ≤ n ∧ n ≤ 16 then n else 6)

/-- GLB_MTIME (03): 10 ns units. -/
def State.mtimeNow (s : State) : Nat := s.mtime / 4 % 2 ^ 64

/-- A write of bytes to host memory or to a Scribe physical address. -/
def State.writeMem (s : State) (scribe : Bool) (a : Nat) (bs : List Byte) : State :=
  if scribe then { s with scribeMem := s.scribeMem.writes a bs } else { s with hostMem := s.hostMem.writes a bs }

/-- An event of the FDB is notified: EVENT code, pipeline, port, old port, key. Events of SYNC entries write no record. -/
def State.notify (s : State) (code i port old vid mac : Nat) (sync : Bool) : State :=
  if !(s.on F.TBL_LN_CFG_EN 0) || sync || !(s.bit F.TBL_LN_CFG_EVENTS 0 (code - 1)) then s
  else
    let scribe := s.on F.TBL_LN_CFG_TARGET 0
    let h := s.rd F.TBL_LN_HEAD_HEAD 0
    let n := s.lnSize
    if (h + 1) % n = s.rd F.TBL_LN_TAIL_TAIL 0 % n ∨ (scribe = false ∧ s.pcieUp = false) then
      (s.bump F.TBL_CNT_COUNT 17).evt F.TBL_STAT_LN_OVF_EVT 0
    else
      let rec' := beBytes 1 code ++ beBytes 1 i ++ beBytes 1 port ++ beBytes 1 old ++ beBytes 2 vid ++ beBytes 6 mac
        ++ beBytes 4 (s.mtimeNow % 2 ^ 32)
      ((s.writeMem scribe (s.rd F.TBL_LN_BASE_ADDR 0 * 4096 + 16 * h) rec').wr F.TBL_LN_HEAD_HEAD 0 ((h + 1) % n)).evt F.TBL_STAT_LN_EVT 0

/-! ## Learning and aging (08 R175 to R179) -/

/-- Learned entries of port `p` in pipeline `i`: dynamic, not SYNC, DEST_KIND 0 (TBL_PORT_LCOUNT). -/
def State.lcount (s : State) (i p : Nat) : Nat :=
  ((s.fdbOf i).filter (fun e => !e.2.static && !e.2.sync && decide (e.2.kind = 0) && decide (e.2.dest = p))).length

/-- A learn request joins pipeline `i`'s queue, merging with one for the same key, or is dropped when 64 wait. -/
def State.learnRequest (s : State) (i : Nat) (r : LearnReq) : State :=
  let q := s.learnQ.get [] i
  if q.any (fun x => decide (x.vid = r.vid) && decide (x.mac = r.mac)) then
    { s with learnQ := s.learnQ.set [] i (q.map (fun x => if x.vid = r.vid ∧ x.mac = r.mac then r else x)) }
  else if 64 ≤ q.length then s.bump F.TBL_CNT_COUNT 5
  else { s with learnQ := s.learnQ.set [] i (q ++ [r]) }

/-- The port that an entry names, or 0xFF. -/
def FdbEntry.portOr (e : FdbEntry) : Nat := if e.kind = 0 then e.dest else 0xFF

/-- One learn request is carried out (08 R176); a frame received on a member of a group teaches the group (13 R295). -/
def State.learn (s : State) (i : Nat) (r : LearnReq) : State :=
  let kind := match r.agg with | some _ => 1 | none => 0
  let dest := match r.agg with | some g => g | none => r.port
  match s.fdbSlot i r.vid r.mac with
  | none =>
    if s.on F.TBL_PORT_LEARN_LIMIT r.port && decide (s.rd F.TBL_PORT_LEARN_LIMIT r.port ≤ s.lcount i r.port) then
      s.bump F.TBL_CNT_COUNT 7
    else match s.fdbInsert i ⟨r.mac, r.vid, false, 0, false, kind, dest⟩ with
      | some s => (s.bump F.TBL_CNT_COUNT i).notify 1 i r.port 0xFF r.vid r.mac false
      | none => (s.bump F.TBL_CNT_COUNT 6).notify 4 i r.port 0xFF r.vid r.mac false
  | some (n, e) =>
    let same := decide (e.kind = kind) && decide (e.dest = dest)
    if e.static then (if same then s else s.bump F.TBL_CNT_COUNT 3)
    else if same then s.setFdb i ((s.fdbOf i).put n { e with age := 0 })
    else ((s.setFdb i ((s.fdbOf i).put n { e with age := 0, kind := kind, dest := dest })).bump F.TBL_CNT_COUNT 2).notify
      2 i r.port e.portOr r.vid r.mac e.sync

/-- The oldest learn request of a pipeline (08 R177, R179): it is discarded while the update buffer holds a write for its
key. -/
def execLearnInsert (p : Pipe) (s : State) : Out :=
  let q := if s.gated then [] else s.learnQ.get [] p.idx
  match q with
  | [] => .next s
  | r :: t =>
    let s := { s with learnQ := s.learnQ.set [] p.idx t }
    .next (if s.updBuf.any (fun w => (opOnKey w.op p.idx r.vid r.mac).isSome) then s else s.learn p.idx r)

/-- The aging sweep visits a slot (08 R178). -/
def execAgeSweepVisit (p : Pipe) (slot : Fin 65600) (s : State) : Out :=
  match (s.fdbOf p.idx).find slot with
  | none => .next s
  | some e =>
    .next (if e.static || e.sync || s.gated || !(s.on F.TBL_FDB_AGE_CFG_PERIOD_S 0) then s
      else if e.age = 3 then
        ((s.fdbErase p.idx slot).bump F.TBL_CNT_COUNT 4).notify 3 p.idx e.portOr 0xFF e.vid e.mac false
      else s.setFdb p.idx ((s.fdbOf p.idx).put slot { e with age := e.age + 1 }))

/-- A write of TBL_LN_CFG (08 R180): EN from 0 to 1 sets HEAD and TAIL to 0. -/
def execLnCfgEnable (en target : Bool) (sizeLog2 : BitVec 5) (events : BitVec 4) (s : State) : Out :=
  let s' := if en && !(s.on F.TBL_LN_CFG_EN 0) then (s.wr F.TBL_LN_HEAD_HEAD 0 0).wr F.TBL_LN_TAIL_TAIL 0 0 else s
  .next ((((s'.wrb F.TBL_LN_CFG_EN 0 en).wrb F.TBL_LN_CFG_TARGET 0 target).wr F.TBL_LN_CFG_SIZE_LOG2 0 sizeLog2.toNat).wr
    F.TBL_LN_CFG_EVENTS 0 events.toNat)

/-! ## Epochs (08 R188 to R192) -/

/-- The older of two epochs, where one may be absent. -/
def olderOf (a : Option Nat) (b : Nat) : Option Nat :=
  match a with
  | some x => if serialNewer x b then some b else some x
  | none => some b

/-- The epochs of the frames that wait in queues, in the Reservoir, in the recirculation list, for a seal check and in the pipelines. -/
def State.heldEpochs (s : State) : List Nat :=
  let ofFirst (c : Nat) : List Nat := match s.frames.find c with | some f => [f.epoch] | none => []
  (s.queues.flatMap (fun e => (e.2.head ++ e.2.tail).flatMap (fun x => ofFirst x.first) ++ e.2.mid.map (fun m => m.frame.epoch)))
    ++ s.recirc.flatMap ofFirst ++ s.sealWait.map (fun w => w.frame.epoch)
    ++ (s.flight.filter (fun f => f.verdict.isSome)).map Flight.epoch

/-- TBL_DRAIN: the oldest epoch held, or TBL_EPOCH (08 R191). -/
def State.drain (s : State) : Nat := (s.heldEpochs.foldl olderOf none).getD s.epoch

/-- TBL_DRAIN is not older than TBL_DRAIN_TARGET. -/
def State.drained (s : State) : Bool := !serialNewer (s.rd F.TBL_DRAIN_TARGET_TARGET 0) s.drain

/-- TBL_EPOCH is incremented: the uncommitted writes become committed; policers written are full; TBL_ROUTER_MAC takes
effect. -/
def State.bumpNow (s : State) : State :=
  let fresh := s.updBuf.filter (fun w => !s.committed w)
  let s := (s.bump F.TBL_EPOCH_EPOCH 0).wr F.TBL_STAT_BUMP_HELD 0 0
  let s := { s with routerMac := s.rd F.TBL_ROUTER_MAC_ADDR 0 }
  let s := fresh.foldl (fun s w => match w.op with
    | .word t i _ _ => if t = 8 ∨ t = 9 then s.policerFull (t - 8) i else s
    | _ => s) s
  s.wrb F.TBL_STAT_APPLYING 0 (!s.updBuf.isEmpty)

/-- A BUMP would place the oldest frame 2^31 or more epochs back (08 R190). -/
def State.bumpBlocked (s : State) : Bool := decide (2 ^ 31 ≤ (s.epoch + 1 + 2 ^ 32 - s.drain) % 2 ^ 32)

/-- DRAIN_DONE_EVT at the moment TBL_DRAIN stops being older than the target (08 R191), and a held BUMP that may go on. -/
def State.drainService (s : State) : State :=
  let s := if s.on F.TBL_STAT_BUMP_HELD 0 && !s.bumpBlocked then s.bumpNow else s
  let met := s.drained
  let s' := if met && !s.drainMet then s.evt F.TBL_STAT_DRAIN_DONE_EVT 0 else s
  { s' with drainMet := met }

/-- The commands of one or two entry writes (08 R188, R194). -/
def opEntries (op : TblOp) : List TblOp :=
  match op with
  | .fdbInsert .both m v st sy a k d => [.fdbInsert .pipeA m v st sy a k d, .fdbInsert .pipeB m v st sy a k d]
  | .fdbDelete .both m v => [.fdbDelete .pipeA m v, .fdbDelete .pipeB m v]
  | o => [o]

/-- The window words exist (08 R170, R181 to R186; 07 R150). -/
def State.opInRange (s : State) (op : TblOp) : Bool :=
  match op with
  | .word 0x03 i w _ => decide (i < 4096) && decide (w < 8)
  | .word 0x06 i w _ => decide (i < 4096) && decide (w < 4)
  | .word 0x07 i w _ => decide (i < s.memCfg.nat) && decide (w < 4)
  | .word 0x08 i w _ => decide (i < 4096) && decide (w < 8)
  | .word 0x09 i w _ => decide (i < 4096) && decide (w < 8)
  | .word 0x10 i w _ => decide (i < 1024) && decide (w < 32)
  | .word 0x11 i w _ => decide (i < 1024) && decide (w < 32)
  | .word _ _ _ _ => false
  | .routeInsert v6 _ n h => decide (n ≤ if v6 then 128 else 32) && decide (h < 4096)
  | .routeDelete v6 _ n => decide (n ≤ if v6 then 128 else 32)
  | _ => true

/-- One entry write reaches the update buffer (08 R188): discarded with BUF_FULL when 2,048 uncommitted writes wait. A
Stencil rule's shadow reads the value last written. -/
def State.bufferOne (s : State) (op : TblOp) : State :=
  if 2048 ≤ s.pendingWrites + s.scr.room then (s.bump F.TBL_CNT_COUNT 16).evt F.TBL_STAT_BUF_FULL_EVT 0
  else
    let s := { s with updBuf := s.updBuf ++ [⟨(s.epoch + 1) % 2 ^ 32, op⟩] }
    match op with
    | .word t i w v =>
      if t = 0x10 ∨ t = 0x11 then { s with shadow := s.shadow.set 0 (rowKey t i) (putWord (s.shadow.get 0 (rowKey t i)) t w v.toNat) } else s
    | _ => s

/-- A software entry write (08 R188). -/
def execTableEntryWrite (op : TblOp) (s : State) : Out :=
  .next (if s.opInRange op then (opEntries op).foldl State.bufferOne s else s)

/-- TBL_CMD.BUMP (08 R189, R190). -/
def execEpochBump (s : State) : Out :=
  .next (if s.bumpBlocked then s.wr F.TBL_STAT_BUMP_HELD 0 1 else (s.bumpNow).drainService)

/-- The slot geometry of the signal routing table (08 R187). -/
def sigGeo : Geo := ⟨8192, 32768, 16⟩

/-- An applied FDB insertion that returns FULL (08 R189). -/
def State.insertFail (s : State) (i vid mac : Nat) : State :=
  ((((s.bump F.TBL_CNT_COUNT 8).evt F.TBL_STAT_INSERT_FAIL_EVT 0).wr F.TBL_OP_FAIL_PIPE 0 i).wr F.TBL_OP_FAIL_VID 0 vid).wr
    F.TBL_OP_FAIL_MAC 0 mac

/-- The key of a signal routing entry (11 R245): KEY, LANE, KCLASS and two zero bytes. -/
def sigKey (e : Nat) : List Byte :=
  beBytes 4 (fieldOf e 0 0 29) ++ beBytes 1 (fieldOf e 1 27 5) ++ beBytes 1 (fieldOf e 0 29 2) ++ [0, 0]

/-- H0 and H1 of a signal routing entry. -/
def State.sigHash (s : State) (e : Nat) : Nat × Nat := hashes (sigKey e) (s.memCfg.sigroute / 4 - 1)

/-- Two signal routing entries hold one key: KCLASS, KEY and LANE. -/
def sigSame (a b : Nat) : Bool :=
  decide (fieldOf a 0 0 31 = fieldOf b 0 0 31) && decide (fieldOf a 1 27 5 = fieldOf b 1 27 5)

/-- A signal routing entry from its four words: VALID is set, and reserved bits read 0 (08 R194, 11 R246). -/
def sigEntry (ws : List Word) : Nat :=
  let w (i : Nat) : Nat := (ws.getD i 0).toNat
  ((w 0 ||| 2 ^ 31) % 2 ^ 32) + w 1 * 2 ^ 32 + (w 2 &&& 0xFF80FF1F) * 2 ^ 64 + (w 3 &&& 0x1FFFFFFF) * 2 ^ 96

/-- A committed write is applied to its table (08 R189). -/
def State.applyOp (s : State) (op : TblOp) : State :=
  match op with
  | .word t i w v =>
    { s with
      rows := s.rows.set 0 (rowKey t i) (putWord (s.rowApplied t i) t w v.toNat)
      polLost := if t = 8 ∨ t = 9 then s.polLost.filter (fun k => decide (k ≠ 4096 * (t - 8) + i)) else s.polLost }
  | .fdbInsert sel m v st sy a k d =>
    let i := if fdbSelHas sel 0 then 0 else 1
    match s.fdbInsert i ⟨m.toNat, v.toNat, st, a.toNat, sy, k.toNat, d.toNat⟩ with
    | some s => s
    | none => s.insertFail i v.toNat m.toNat
  | .fdbDelete sel m v =>
    let i := if fdbSelHas sel 0 then 0 else 1
    match s.fdbSlot i v.toNat m.toNat with
    | some (n, _) => s.fdbErase i n
    | none => s
  | .routeInsert v6 p n h =>
    let l := if v6 then s.routes6 else s.routes4
    let l' := routesAfter v6 l (.routeInsert v6 p n h)
    if (if v6 then s.memCfg.routeV6 else s.memCfg.routeV4) < l'.length then (s.bump F.TBL_CNT_COUNT 8).evt F.TBL_STAT_INSERT_FAIL_EVT 0
    else if v6 then { s with routes6 := l' } else { s with routes4 := l' }
  | .routeDelete v6 p n =>
    if v6 then { s with routes6 := routesAfter v6 s.routes6 (.routeDelete v6 p n) } else { s with routes4 := routesAfter v6 s.routes4 (.routeDelete v6 p n) }
  | .sigInsert ws =>
    let e := sigEntry ws
    match cuckooInsert s.sigTable sigGeo s.sigHash (fun _ => false) (sigSame e) e with
    | some t => { s with sigTable := t }
    | none =>
      ((((s.bump F.TBL_CNT_COUNT 8).evt F.TBL_STAT_INSERT_FAIL_EVT 0).wr F.SIG_OP_FAIL_KEY 0 (fieldOf e 0 0 29)).wr
        F.SIG_OP_FAIL_KCLASS 0 (fieldOf e 0 29 2)).wr F.SIG_OP_FAIL_LANE 0 (fieldOf e 1 27 5)
  | .sigDelete ws =>
    let e := sigEntry ws
    match cuckooFind s.sigTable sigGeo (s.sigHash e) (sigSame e) with
    | some (n, _) => { s with sigTable := stashReturn (s.sigTable.erase n) sigGeo s.sigHash (fun _ => false) }
    | none => s

/-- The oldest committed write moves into its table; APPLYING clears with the last one. -/
def execCommittedWriteApply (s : State) : Out :=
  match s.updBuf with
  | w :: t =>
    if s.committed w then
      let s := ({ s with updBuf := t }).applyOp w.op
      .next (s.wrb F.TBL_STAT_APPLYING 0 (s.updBuf.any s.committed))
    else .next s
  | [] => .next s

/-- A write of TBL_DRAIN_TARGET (08 R191): a new wait. -/
def execDrainTargetWrite (target : Word) (s : State) : Out :=
  .next (State.drainService { (s.wr F.TBL_DRAIN_TARGET_TARGET 0 target.toNat) with drainMet := false })

/-- TBL_CTL.CNT_CLR: it clears TBL_CNT and TBL_RED_CNT (13). -/
def execTblCntClr (s : State) : Out := .next ((s.clearFld F.TBL_CNT_COUNT).clearFld F.TBL_RED_CNT_COUNT)

/-! ## Policers (08 R186) -/

/-- The colour of a frame of `n` bytes: none is red, else whether it is yellow, with the tokens it takes. -/
def State.police (s : State) (i p n : Nat) (dei : Bool) : Option Bool :=
  let r := s.row (8 + i) p
  let prm := polParams r
  let b := s.tokens.get (0, 0) (4096 * i + p)
  if prm.1 = 0 ∧ prm.2.1 = 0 then none
  else if b.2 / polUnit < n then none
  else some (decide (b.1 / polUnit < n) || (fieldOf r 0 31 1 = 1 && dei))

/-- The tokens of a judged frame are taken. -/
def State.takeTokens (s : State) (i p n : Nat) (yellow : Bool) : State :=
  let b := s.tokens.get (0, 0) (4096 * i + p)
  { s with tokens := s.tokens.set (0, 0) (4096 * i + p) (b.1 - (if yellow then 0 else n * polUnit), b.2 - n * polUnit) }

/-- Tokens are returned, up to CBS and PBS, when the integrity part fails. -/
def State.giveTokens (s : State) (i p n : Nat) (yellow : Bool) : State :=
  let b := s.tokens.get (0, 0) (4096 * i + p)
  let prm := polParams (s.row (8 + i) p)
  let tc := if yellow then b.1 else min (b.1 + n * polUnit) (prm.2.2.1 * polUnit)
  { s with tokens := Tbl.set s.tokens (0, 0) (4096 * i + p) (tc, min (b.2 + n * polUnit) (prm.2.2.2 * polUnit)) }

/-- One tick of TCLK: the buckets of every policer that has been written accrue. -/
def State.policersTick (s : State) : State :=
  let idx := s.rows.filterMap (fun e => let t := e.1 / 2 ^ 20; if t = 8 ∨ t = 9 then some (t - 8, e.1 % 2 ^ 20) else none)
  let fresh := s.updBuf.filterMap (fun w => if s.committed w then (match w.op with
    | .word t i _ _ => if (t = 8 ∨ t = 9) ∧ (s.rows.find (rowKey t i)).isNone then some (t - 8, i) else none
    | _ => none) else none)
  (idx ++ fresh.eraseDups).foldl (fun s x =>
    let prm := polParams (s.row (8 + x.1) x.2)
    let b := s.tokens.get (0, 0) (4096 * x.1 + x.2)
    { s with tokens := Tbl.set s.tokens (0, 0) (4096 * x.1 + x.2) (
        min (b.1 + prm.1) (prm.2.2.1 * polUnit), min (b.2 + prm.2.1) (prm.2.2.2 * polUnit)) }) s

end Sys2Proof.Machine
end

