-- ==== Sys2Proof/Machine/Redundancy.lean ====
section
/-! DEFINITION. Redundancy and aggregation (spec 13): PRP and HSR pairs, the duplicate-discard table, aggregation groups and
their buckets. -/
namespace Sys2Proof.Machine

/-- One bit of a CRC-16 with polynomial 0x1021, MSB first. -/
def crc16Bit (c : Nat) : Nat := if c.testBit 15 then ((c <<< 1) ^^^ 0x1021) % 2 ^ 16 else (c <<< 1) % 2 ^ 16

/-- `n` bits of it. -/
def crc16Bits : Nat → Nat → Nat
  | 0, c => c
  | n + 1, c => crc16Bits n (crc16Bit c)

/-- The CRC-16 of 07 R154 over bytes, from an initial value. -/
def crc16 (init : Nat) (bs : List Byte) : Nat := bs.foldl (fun c b => crc16Bits 8 (c ^^^ (b.toNat <<< 8))) init

/-! ## Pairs -/

/-- The mode in which pair `i` acts (13 R288): 1 PRP, 2 HSR; both ports must run the same mode and rate, else 0. A port whose
link is down runs no rate. -/
def State.pairMode (s : State) (i : Nat) : Nat :=
  let m := s.rd F.TBL_RED_PAIR_MODE i
  let same := !(s.on F.ETH_STAT_LINK (2 * i) && s.on F.ETH_STAT_LINK (2 * i + 1))
    || decide (s.rd F.ETH_STAT_RATE (2 * i) = s.rd F.ETH_STAT_RATE (2 * i + 1))
  if (m = 1 ∨ m = 2) ∧ s.rd F.ETH_MODE_MODE (2 * i) = s.rd F.ETH_MODE_MODE (2 * i + 1) ∧ same = true then m else 0

/-- RED_CFG_EVT is set when pair `i` has a mode and cannot act in it (13 R288). -/
def State.pairCheck (s : State) (i : Nat) : State :=
  let m := s.rd F.TBL_RED_PAIR_MODE i
  if (m = 1 ∨ m = 2) ∧ s.pairMode i = 0 then s.evt F.TBL_RED_STAT_RED_CFG_EVT 0 else s

/-- The mode of the pair that port `p` belongs to, 0 for a port of none. -/
def State.redMode (s : State) (p : Nat) : Nat := if p < 8 then s.pairMode (p / 2) else 0

/-- The port under which a frame received on `p` is known: the lower port of its pair (13 R288). -/
def State.logicalPort (s : State) (p : Nat) : Nat := if s.redMode p = 0 then p else p / 2 * 2

/-- The partner in a pair. -/
def partner (p : Nat) : Nat := if p % 2 = 0 then p + 1 else p - 1

/-- A destination set with each pair's port expanded to both ports (13 R288). -/
def State.expandPairs (s : State) (ds : List Nat) : List Nat :=
  (ds.flatMap (fun p => if s.redMode p = 0 then [p] else [p / 2 * 2, p / 2 * 2 + 1])).eraseDups

/-- The set of a key in the duplicate-discard table (13 R291). -/
def ddSet (pair sa seq : Nat) : Nat := crc16 0xFFFF (beBytes 1 pair ++ beBytes 6 sa ++ beBytes 2 seq) % 2048

/-- AGE_MS as it acts, in ticks. -/
def State.ddAge (s : State) : Nat :=
  let n := s.rd F.TBL_DD_CFG_AGE_MS 0
  (if 10 ≤ n ∧ n ≤ 10000 then n else 400) * ticksMs

/-- An entry is in force: it is not older than AGE_MS. -/
def State.ddLive (s : State) (e : DdEnt) : Bool := decide (s.now ≤ e.born + s.ddAge)

/-- The way of a set that holds a key. -/
def State.ddFind (s : State) (pair sa seq : Nat) : Option (Nat × DdEnt) :=
  slotWith s.dd (fun e => s.ddLive e && decide (e.pair = pair) && decide (e.sa = sa) && decide (e.seq = seq))
    ((List.range 4).map (fun w => 4 * ddSet pair sa seq + w))

/-- A way of the set that is free or aged out. -/
def State.ddFree (s : State) (base : Nat) : Option Nat :=
  firstIdx (fun w => match s.dd.find w with | some e => !s.ddLive e | none => true) base 4

/-- The way of a set whose entry is oldest. -/
def State.ddOldest (s : State) (base : Nat) : Nat :=
  (List.range 4).foldl (fun best w =>
    match s.dd.find best, s.dd.find (base + w) with
    | some a, some b => if b.born < a.born then base + w else best
    | _, _ => best) base

/-- Flags of a key are recorded: in its entry, else in a free way, else over the oldest with DD_EVICT. -/
def State.ddRecord (s : State) (pair sa seq : Nat) (g : DdEnt → DdEnt) : State :=
  match s.ddFind pair sa seq with
  | some (w, e) => { s with dd := s.dd.put w (g e) }
  | none =>
    let base := 4 * ddSet pair sa seq
    let e := g ⟨pair, sa, seq, false, false, false, false, s.now⟩
    match s.ddFree base with
    | some w => { s with dd := s.dd.put w e }
    | none => State.bump { s with dd := s.dd.put (s.ddOldest base) e } F.TBL_RED_CNT_COUNT 1

/-! ## Redundancy control trailers and HSR tags -/

/-- Bytes before the EtherType of the payload: DA, SA and VLAN tags. -/
def macHeaderLen (tags : Nat) : Nat := 12 + 4 * tags

/-- The redundancy control trailer of a frame with `tags` VLAN tags (13 R289, R292): sequenceNr and LanId, when the suffix
is 0x88FB and LSDUsize is the count of bytes from behind the EtherType to the FCS. -/
def rctOf (bs : List Byte) (tags : Nat) : Option (Nat × Nat) :=
  let n := bs.length
  if n < macHeaderLen tags + 2 + 6 + 4 then none
  else
    let t := (bs.drop (n - 10)).take 6
    let w := beNat ((t.drop 2).take 2)
    if beNat (t.drop 4) = 0x88FB ∧ w % 4096 = (n - 4 - macHeaderLen tags - 2) % 4096 then some (beNat (t.take 2), w / 4096) else none

/-- The HSR tag behind the VLAN tags: sequenceNr and PathId, when EtherType and LSDUsize are right. -/
def hsrOf (bs : List Byte) (tags : Nat) : Option (Nat × Nat) :=
  let h := macHeaderLen tags
  let n := bs.length
  if n < h + 8 + 4 then none
  else
    let w := beNat ((bs.drop (h + 2)).take 2)
    if beNat ((bs.drop h).take 2) = 0x892F ∧ w % 4096 = (n - 4 - h - 2) % 4096 then some (beNat ((bs.drop (h + 4)).take 2), w / 4096) else none

/-- The frame without its trailer. -/
def stripRct (bs : List Byte) : List Byte := bs.take (bs.length - 10) ++ bs.drop (bs.length - 4)

/-- The frame without its HSR tag. -/
def stripHsr (bs : List Byte) (tags : Nat) : List Byte := bs.take (macHeaderLen tags) ++ bs.drop (macHeaderLen tags + 6)

/-- The frame with a trailer for `lan`, ahead of the FCS. -/
def addRct (bs : List Byte) (tags seq lan : Nat) : List Byte :=
  let body := bs.take (bs.length - 4)
  let size := (body.length + 6 - macHeaderLen tags - 2) % 4096
  body ++ beBytes 2 seq ++ beBytes 2 (lan * 4096 + size) ++ beBytes 2 0x88FB ++ bs.drop (bs.length - 4)

/-- The frame with an HSR tag behind the VLAN tags. -/
def addHsr (bs : List Byte) (tags seq path : Nat) : List Byte :=
  let h := macHeaderLen tags
  let size := (bs.length - 4 + 6 - h - 2) % 4096
  bs.take h ++ beBytes 2 0x892F ++ beBytes 2 (path * 4096 + size) ++ beBytes 2 seq ++ bs.drop h

/-! ## Aggregation -/

/-- Members of group `g` by position. -/
def State.aggMembers (s : State) (g : Nat) : List Nat :=
  (List.range (s.rd F.TBL_AGG_CFG_N_M1 g + 1)).map (fun k => bits (s.rd F.TBL_AGG_CFG_MEMBERS g) (6 * k) 6)

/-- Positions of the members whose link is up, in member order. -/
def State.aggUp (s : State) (g : Nat) : List Nat :=
  (List.range (s.rd F.TBL_AGG_CFG_N_M1 g + 1)).filter (fun k => s.on F.ETH_STAT_LINK (bits (s.rd F.TBL_AGG_CFG_MEMBERS g) (6 * k) 6))

/-- Group `g`. -/
def State.aggSt (s : State) (g : Nat) : AggSt := s.agg.get ⟨false, []⟩ g

/-- The group of which port `p` is a member, if one is in force. -/
def State.aggOf (s : State) (p : Nat) : Option Nat :=
  firstIdx (fun g => (s.aggSt g).on && (s.aggMembers g).contains p) 0 16

/-- The configuration of group `g` keeps the rules of 13 R295. -/
def State.aggValid (s : State) (g : Nat) : Bool :=
  let m := s.aggMembers g
  s.on F.TBL_AGG_CFG_EN g && decide (m.eraseDups.length = m.length) && m.all (fun p => decide (p < 40) && decide (s.redMode p = 0))
    && (List.range 16).all (fun h => decide (h = g) || !(s.aggSt h).on || !(m.any (fun p => (s.aggMembers h).contains p)))

/-- Group `g` has been configured: it is in force or disabled, and its buckets are pinned to their targets. -/
def State.aggConfigured (s : State) (g : Nat) : State :=
  let up := s.aggUp g
  let all := List.range (s.rd F.TBL_AGG_CFG_N_M1 g + 1)
  let ok := s.aggValid g
  let s' := { s with
    agg := s.agg.set ⟨false, []⟩ g (if ok then ⟨true, if up.isEmpty then all else up⟩ else ⟨false, []⟩)
    pins := s.pins.filter (fun e => decide (e.1 / 256 ≠ g)) }
  if s.on F.TBL_AGG_CFG_EN g && !ok then s'.evt F.TBL_RED_STAT_RED_CFG_EVT 0 else s'

/-- The position at `b mod n` of a list of positions. -/
def posAt (l : List Nat) (b : Nat) : Nat := l.getD (b % max 1 l.length) 0

/-- The member position to which bucket `b` of group `g` is pinned. -/
def State.pinOf (s : State) (g b : Nat) : Nat := (s.pins.find (256 * g + b)).getD (posAt (s.aggSt g).base b)

/-- Its target (13 R297); with no member up it is the pin. -/
def State.targetOf (s : State) (g b : Nat) : Nat :=
  let up := s.aggUp g
  if up.isEmpty then s.pinOf g b else posAt up b

/-- MOVING. -/
def State.moving (s : State) (g b : Nat) : Bool := (s.aggSt g).on && decide (s.pinOf g b ≠ s.targetOf g b)

/-- IN_FLIGHT: the entries of the bucket's frames that wait in queues (13 R298). -/
def State.inFlight (s : State) (g b : Nat) : Nat :=
  s.queues.foldl (fun n e =>
    n + ((e.2.head ++ e.2.tail).filter (fun x => decide (x.ed.bucket = some (256 * g + b)))).length
      + (e.2.mid.filter (fun x => decide (x.ed.bucket = some (256 * g + b)))).length) 0

/-- The port to which bucket `b` of group `g` is pinned. -/
def State.pinnedPort (s : State) (g b : Nat) : Nat := (s.aggMembers g).getD (s.pinOf g b) 0

/-- GAP_US has passed since the last enqueue of the bucket numbered `n` (13 R298). -/
def State.gapPassed (s : State) (n : Nat) : Bool :=
  match s.enqAt.find n with
  | some t => decide (t + max 1 (s.rd F.TBL_PIN_GAP_GAP_US 0) * ticksUs ≤ s.now)
  | none => true

/-- A MOVING bucket with nothing in flight, GAP_US after its last enqueue, is pinned to its target (13 R298). -/
def execBucketRepin (g : Fin 16) (b : Fin 256) (s : State) : Out :=
  .next (if s.moving g b && decide (s.inFlight g b = 0) && s.gapPassed (256 * g + b) then
    (({ s with pins := s.pins.put (256 * g + b) (s.targetOf g b) }).bump F.TBL_RED_CNT_COUNT 6).evt F.TBL_RED_STAT_MOVE_EVT 0
  else s)

/-- A member's link has changed: AGG_DOWN_EVT when a group in force has no member up. -/
def State.aggLinkChange (s : State) (p : Nat) : State :=
  match s.aggOf p with
  | some g => if (s.aggUp g).isEmpty then s.evt F.TBL_RED_STAT_AGG_DOWN_EVT 0 else s
  | none => s

/-- Group `g` is judged again: a pair that acts, or acts no more, may take a member from it or give it back (13 R295).
DEDUCED: the rules are of the configuration in force, so a group whose rules hold again is in force again. -/
def State.groupJudge (s : State) (g : Nat) : State :=
  if s.on F.TBL_AGG_CFG_EN g && decide ((s.aggSt g).on ≠ s.aggValid g) then s.aggConfigured g else s

/-- Pair `i` may have changed the mode in which it acts: RED_CFG_EVT where it cannot act, and the groups are judged again. -/
def State.pairChange (s : State) (i : Nat) : State := (List.range 16).foldl State.groupJudge (s.pairCheck i)

/-! ## Changes of a pair's MODE -/

/-- A change of MODE (13 R288): both ports' queues are flushed, and the pair's duplicate-discard entries are cleared. -/
def State.setPairMode (s : State) (i m : Nat) : State :=
  if s.rd F.TBL_RED_PAIR_MODE i = m then s
  else
    let s := (portQueues (2 * i) ++ portQueues (2 * i + 1)).foldl (fun t q => t.flushQueue q 5) s
    let s := { s with dd := s.dd.filter (fun e => decide (e.2.pair ≠ i)) }
    (s.wr F.TBL_RED_PAIR_MODE i m).pairChange i

/-- A write of TBL_RED_PAIR[i].MODE, which SCR_LOCK locks. -/
def execRedPairModeWrite (i : Fin 4) (mode : BitVec 2) (s : State) : Out :=
  .next (if s.locked then s else s.setPairMode i mode.toNat)

/-- The bucket of a hash (13 R296). -/
def bucketOf (crc : Nat) : Nat := (crc ^^^ (crc >>> 8)) &&& 0xFF

end Sys2Proof.Machine
end

