-- ==== Sys2Proof/Machine/PortBase.lean ====
section
/-! DEFINITION. What the commands of the Ethernet ports, the pipelines and the power states share (spec 04, 07): a port's
link, pauses and readiness, its speculative transmissions and the Stroke cache. -/
namespace Sys2Proof.Machine

/-- Port `p`. -/
def State.port (s : State) (p : Nat) : EthPort := s.eth.get EthPort.init p

/-- The state with it replaced. -/
def State.setPort (s : State) (p : Nat) (x : EthPort) : State := { s with eth := s.eth.set EthPort.init p x }

/-- The pipeline of ingress port `p`: B for ports 8 to 39 (01 R15). -/
def pipeOf (p : Nat) : Nat := if 8 ≤ p ∧ p < 40 then 1 else 0

/-- Bits a microsecond at each RATE of ETH_STAT (04 R78). -/
def rateMbps (r : Nat) : Nat :=
  match r with
  | 1 => 25000 | 2 => 10000 | 3 => 5000 | 4 => 2500 | 5 => 1000 | 6 => 100 | 7 => 10 | _ => 0

/-- The port's current rate in Mb/s. -/
def State.portMbps (s : State) (p : Nat) : Nat := rateMbps (s.rd F.ETH_STAT_RATE p)

/-- RATE of ETH_STAT for the Scroll's mode (04 R78, R79). -/
def State.modeRate (s : State) (p : Nat) : Nat :=
  match s.rd F.ETH_MODE_MODE p with
  | 1 => 1 | 2 => 2 | 3 => 3 | 4 => 4 | 5 => 5
  | 6 => (match s.rd F.ETH_MODE_SGMII_SPEED p with | 0 => 7 | 1 => 6 | 2 => 5 | _ => 0)
  | _ => 0

/-- A counter of port `p`. -/
def State.ethCnt (s : State) (p k : Nat) : State := s.bump F.ETH_CNT_COUNT (29 * p + k)

/-- Class `c` of port `p` is paused by the partner, and the pause is honoured (04 R86, R89). -/
def State.paused (s : State) (p c : Nat) : Bool := s.bit F.ETH_FC_STORM_PAUSED p c && !s.bit F.ETH_FC_STORM_STORMED p c

/-- The port is in a Taper hold or retrain (04 R91). -/
def State.tapering (s : State) (p : Nat) : Bool := s.on F.ETH_STAT_RETRAIN p

/-- Ready for speculation (04 R91), for a frame of class `c`. -/
def State.specReady (s : State) (p c : Nat) : Bool :=
  s.on F.ETH_STAT_LINK p && !s.paused p c && !s.on F.ETH_STAT_LPI_TX p && !s.tapering p && s.portLive p && s.txOn p && !s.portRestructuring p

/-! ## The Stroke cache (07 R154 to R156) -/

/-- The first entry number of the set of (port, DA) in pipeline `i`. -/
def strokeBase (i p da : Nat) : Nat := 8192 * i + 4 * (crc16 0xFFFF (beBytes 1 p ++ beBytes 6 da) % 2048)

/-- The way that holds a key. -/
def State.strokeFind (s : State) (i p da vid : Nat) : Option (Nat × Stroke) :=
  slotWith s.strokes (fun e => decide (e.inPort = p) && decide (e.da = da) && decide (e.vid = vid))
    ((List.range 4).map (strokeBase i p da + ·))

/-- The entry number `n` is used: NRU is set, and when all four of the set then are, the other three are cleared. -/
def State.strokeTouch (s : State) (n : Nat) : State :=
  match s.strokes.find n with
  | some e =>
    let t := s.strokes.put n { e with nru := true }
    let set := (List.range 4).map (n / 4 * 4 + ·)
    let full := set.all (fun w => match t.find w with | some x => x.nru | none => false)
    if full then { s with strokes := set.foldl (fun t w => match t.find w with
      | some x => if w = n then t else t.put w { x with nru := false } | none => t) t }
    else { s with strokes := t }
  | none => s

/-- The way that a fill takes: the one with the key, an invalid one, the lowest whose NRU is 0, else the first. -/
def State.strokeVictim (s : State) (i p da vid : Nat) : Nat :=
  match s.strokeFind i p da vid with
  | some (n, _) => n
  | none =>
    let b := strokeBase i p da
    match firstIdx (fun w => (s.strokes.find w).isNone) b 4 with
    | some w => w
    | none => (firstIdx (fun w => match s.strokes.find w with | some x => !x.nru | none => true) b 4).getD b

/-- The entries of a pipeline's Stroke cache are invalid. -/
def State.strokeFlush (s : State) (i : Nat) : State :=
  { s with strokes := s.strokes.filter (fun e => decide (e.1 / 8192 ≠ i)) }

/-- The entries that name port `p` are invalid in both pipelines (07 R156). -/
def State.strokeDropPort (s : State) (p : Nat) : State := { s with strokes := s.strokes.filter (fun e => decide (e.2.egr ≠ p)) }

/-- The entry that predicted a frame is invalidated. -/
def State.strokeDrop (s : State) (i p da vid : Nat) : State :=
  match s.strokeFind i p da vid with
  | some (n, _) => { s with strokes := s.strokes.erase n }
  | none => s

/-! ## Speculative transmissions (07 R157 to R165) -/

/-- A transmission that still holds its egress: granted or sending. -/
def Spec.live (x : Spec) : Bool := decide (x.st = .granted) || decide (x.st = .sending)

/-- Egress port `p` carries or is about to carry the transmission. -/
def Spec.uses (x : Spec) (p : Nat) : Bool := decide (x.egr = p) || decide (x.mirror = some p)

/-- The transmissions of flights that satisfy `g` take a new state. -/
def State.mapSpec (s : State) (g : Spec → Spec) : State :=
  { s with flight := s.flight.map (fun f => { f with spec := f.spec.map g }) }

/-- A granted transmission that uses port `p` and whose class satisfies `c` is withdrawn before its release point (07 R161): a pause
took effect, or readiness was lost. An original and its mirror transmission are withdrawn together (07 R165). -/
def State.withdrawPort (s : State) (p : Nat) (c : Nat → Bool) : State :=
  s.mapSpec (fun x => if x.st = .granted ∧ c x.cls = true ∧ x.uses p = true then { x with st := .withdrawn } else x)

/-- The link of port `p` is lost under its transmissions: one not yet released is withdrawn with its mirror; one on the wire of its
predicted port ends there unconfirmed; a mirror on the wire is cut alone. -/
def State.cutSpec (s : State) (p : Nat) : State :=
  s.mapSpec (fun x =>
    if x.st = .granted ∧ x.uses p = true then { x with st := .withdrawn }
    else if x.st = .sending ∧ x.egr = p then { x with st := .withdrawn }
    else if x.st = .sending ∧ x.mirror = some p then { x with mirror := none }
    else x)

/-- A transmission is on the wire of port `p`. -/
def State.onWire (s : State) (p : Nat) : Bool :=
  (s.port p).tx.isSome || s.flight.any (fun f => match f.spec with | some x => decide (x.st = .sending) && x.uses p | none => false)

/-- How port `p` ends a frame that it strikes (07 R161): an 8b/10b port with the complemented CRC-32 over the bytes sent as data bytes, a
64b/66b port with a strike block to a Vangino peer, else with a block of the complemented CRC-32. -/
def State.strikeForm (s : State) (p : Nat) : WireEnd :=
  if 4 ≤ s.rd F.ETH_MODE_MODE p then .crcBytes else if s.on F.ETH_STAT_PEER p then .strikeBlock else .crcBlock

/-- Port `p` ends its frame on the line. -/
def State.endFrame (s : State) (p : Nat) (e : WireEnd) : State := s.setPort p { s.port p with ended := e }

/-- The speculation slots of port `p` in use (07 R158): transmissions whose frame is not yet settled, and a confirmed copy on
the transmitter. -/
def State.slotsUsed (s : State) (p : Nat) : Nat :=
  (s.flight.filter (fun f => match f.spec with | some x => x.uses p | none => false)).length
    + (match (s.port p).tx with | some t => b2n t.ent.isNone | none => 0)

/-- Port `p`'s transmitter is free: no frame and no transmission on the wire. -/
def State.txFree (s : State) (p : Nat) : Bool :=
  (s.port p).tx.isNone && !s.flight.any (fun f => match f.spec with | some x => x.live && x.uses p | none => false)

/-! ## Link (04 R80) -/

/-- The frame that a link loss cut returns to the head of its queue (09 R211, 07 R162). -/
def State.returnTx (s : State) (p : Nat) : State :=
  match (s.port p).tx with
  | none => s
  | some t =>
    let s := s.setPort p { s.port p with tx := none }
    match t.ent with
    | some e => s.putBack t.q e
    | none =>
      if (s.frames.find t.first).isNone then s
      else match s.ink.takeEnt with
      | (k, some e) => ({ s with ink := k }).putBack t.q ⟨e, t.first, t.ed⟩
      | (_, none) => s.finishRef t.first false

/-- PEER of a port. -/
def State.setPeer (s : State) (p : Nat) (b : Bool) : State :=
  if s.on F.ETH_STAT_PEER p = b then s else (s.wrb F.ETH_STAT_PEER p b).evt F.ETH_STAT_PEER_CHG p

/-- The Taper state of port `p` (04 R96); RETRAIN of ETH_STAT shows a hold or retrain, in which a port that was granted a transmission
is not ready any more (07 R161). -/
def State.taperTo (s : State) (p st : Nat) : State :=
  let s := (s.wr F.ETH_TAPER_STAT_STATE p st).wrb F.ETH_STAT_RETRAIN p (decide (3 ≤ st))
  if 3 ≤ st then s.withdrawPort p (fun _ => true) else s

/-- A frame that is still arriving at port `p` when its receiver stops is cut: it fails its FCS. -/
def State.cutArriving (s : State) (p : Nat) : State :=
  { s with flight := s.flight.map (fun (f : Flight) => if f.port = p ∧ f.whole = false then { f with whole := true, fcsOk := false } else f) }

/-- The link of port `p` goes down (04 R80, R85, R87, R89; 07 R156; 09 R211; 13 R297). -/
def State.portDown (s : State) (p : Nat) (noLinger : Bool) : State :=
  let x := s.port p
  let s := s.setPort p { x with losing := false, pend := [], quanta := EthPort.init.quanta, xoff := 0, lows := 0, lastLow := false, boundRefused := none, gone := false, advert := none }
  if !s.on F.ETH_STAT_LINK p then s
  else
    let s := ((s.wr F.ETH_STAT_LINK p 0).wr F.ETH_STAT_RATE p 0).wr F.ETH_STAT_FEC_ACTIVE p 0
    let s := (s.evt F.ETH_STAT_LINK_CHG p).ethCnt p 25
    let s := ((s.wr F.ETH_FC_STORM_PAUSED p 0).wr F.ETH_FC_STORM_STORMED p 0).setPeer p false
    let s := (s.wr F.ETH_STAT_LPI_TX p 0).wr F.ETH_STAT_LPI_RX p 0
    let s := (s.taperTo p 0).wr F.ETH_TAPER_STAT_RATE p 2
    let s := ((s.returnTx p).cutSpec p).strokeDropPort p
    let s := ((s.cutArriving p).queuesDown p noLinger).aggLinkChange p
    if p < 8 then (List.range 16).foldl State.groupJudge s else s

/-- Port `p` leaves the bus side for DOZE or its network's sleep (04 R98, 19 R388): with ETH_WAKE_CFG.EN its receiver runs
on, else its SerDes is powered down and the link goes down. -/
def State.portSleep (s : State) (p : Nat) : State :=
  if s.on F.ETH_WAKE_CFG_EN p then s else s.portDown p false

end Sys2Proof.Machine
end

