-- ==== Sys2Proof/Machine/LaneFrames.lean ====
section
/-! DEFINITION. Lane frames (spec 07 R148) as bytes and as fields, and their keys (05 R114, 11 R245). -/
namespace Sys2Proof.Machine

/-- A lane frame (07 R148): header and data. -/
def laneBytes (lane kind flags sdt key af ts : Nat) (data : List Byte) : List Byte :=
  beBytes 1 lane ++ beBytes 1 kind ++ beBytes 1 flags ++ beBytes 1 sdt ++ beBytes 4 key ++ beBytes 4 af
    ++ beBytes 2 data.length ++ beBytes 2 ts ++ data

/-- The lane frame that bytes hold behind the 16-byte header; its data is cut to LENGTH. -/
def laneOf (bs : List Byte) : LaneFrame where
  kind := beNat ((bs.drop 1).take 1)
  flags := beNat ((bs.drop 2).take 1)
  sdt := beNat ((bs.drop 3).take 1)
  key := beNat ((bs.drop 4).take 4)
  af := beNat ((bs.drop 8).take 4)
  data := (bs.drop 16).take (beNat ((bs.drop 12).take 2))

/-- The lane of a lane frame. -/
def laneNo (bs : List Byte) : Nat := beNat (bs.take 1)

/-- TS_INDEX of a lane frame. -/
def laneTs (bs : List Byte) : Nat := beNat ((bs.drop 14).take 2)

/-- A lane frame as bytes. -/
def LaneFrame.bytes (x : Sys2Proof.LaneFrame) (lane ts : Nat) : List Byte :=
  laneBytes lane x.kind x.flags x.sdt x.key x.af ts x.data

/-- KCLASS (11 R245): 0 CAN base, 1 CAN extended, 2 CAN XL, 3 MVB. -/
def kclassOf (kind flags : Nat) : Nat :=
  if 0x10 ≤ kind then 3 else if kind = 3 then 2 else if flags.testBit 0 then 1 else 0

/-- A key in the place of another on a lane copy: bits above the width of the format are ignored (11 R250). -/
def keyInFormat (kc key : Nat) : Nat := if kc = 0 then key % 2 ^ 11 else if kc = 2 then key % 2 ^ 19 else key % 2 ^ 29

/-- The elements of a field of reset value 0 that hold another value. -/
def State.listed (s : State) (f : Fld) : List Nat := (s.regs.filter (fun e => decide (e.1.1 = f.id))).map (fun e => e.1.2)

end Sys2Proof.Machine
end

