-- ==== Sys2Proof/Machine/Cipher.lean ====
section
/-! DEFINITION. The cipher complex (spec 15): in-line MACsec, sealed frames and the lookaside engine. -/
namespace Sys2Proof.Machine

/-! ## MACsec configuration (15 R324, R328) -/

/-- SECPOL of port `p` is SECURE_OR_BLOCK. -/
def State.secure (s : State) (p : Nat) : Bool := s.secpol.testBit p

/-- RX_EN, TX_PROTECT and VALIDATE as they act: a SECURE_OR_BLOCK port has them set and Strict. -/
def State.cipRx (s : State) (p : Nat) : Bool := s.secure p || s.on F.CIP_PORT_RX_EN p
def State.cipTx (s : State) (p : Nat) : Bool := decide (p < 40) && (s.secure p || s.on F.CIP_PORT_TX_PROTECT p)
def State.validate (s : State) (p : Nat) : Nat := if s.secure p then 2 else min 2 (s.rd F.CIP_PORT_VALIDATE p)

/-- The unit of port `p`. -/
def unitOf (p : Nat) : Nat := if p < 8 then 0 else if p < 24 then 1 else 2

/-- A counter of CIP_PORT_CNT. -/
def State.cipCnt (s : State) (p k : Nat) : State := s.bump F.CIP_PORT_CNT_COUNT (10 * p + k)

/-- SUITE: an XPN suite, and the slot TYPE that it takes. -/
def State.xpn (s : State) (p : Nat) : Bool := decide (2 ≤ s.rd F.CIP_PORT_SUITE p)
def State.suiteType (s : State) (p : Nat) : Nat := 1 + s.rd F.CIP_PORT_SUITE p % 2

/-- The confidentiality offset. -/
def State.confOffset (s : State) (p : Nat) : Nat :=
  match s.rd F.CIP_PORT_CONF_OFFSET p with | 1 => 30 | 2 => 50 | _ => 0

/-- A slot serves an SA: READY, unsealed, of the suite's TYPE, with the bit of USES. -/
def State.saReady (s : State) (p slot use : Nat) : Bool :=
  s.keyReady slot use && decide ((s.keySlot slot).attr.typ = s.suiteType p)

/-- The initialisation vector (IEEE 802.1AE): SCI and PN, or SSCI and PN XOR the salt. -/
def macIv (xpn : Bool) (sci ssci pn salt : Nat) : List Byte :=
  if xpn then xorBytes (beBytes 4 ssci ++ beBytes 8 pn) (beBytes 12 salt) else beBytes 8 sci ++ beBytes 4 pn

/-! ## Receiving (15 R325) -/

/-- A SecTAG behind DA and SA (IEEE 802.1AE): TCI bits, AN, SL, PN, SCI, its length from the EtherType on, and whether its
reserved and excluded bits are right. -/
structure SecTag where
  es : Bool
  sc : Bool
  e : Bool
  c : Bool
  an : Nat
  sl : Nat
  pn : Nat
  sci : Nat
  len : Nat
  ok : Bool
  deriving DecidableEq, Repr

/-- The SecTAG of a frame, if its EtherType is 0x88E5. -/
def secTagOf (bs : List Byte) : Option SecTag :=
  if beNat ((bs.drop 12).take 2) = 0x88E5 then
    let t := beNat ((bs.drop 14).take 1)
    let sc := t.testBit 5
    let sl := beNat ((bs.drop 15).take 1)
    some {
      es := t.testBit 6, sc := sc, e := t.testBit 3, c := t.testBit 2, an := t % 4, sl := sl % 64
      pn := beNat ((bs.drop 16).take 4), sci := if sc then beNat ((bs.drop 20).take 8) else 0
      len := if sc then 16 else 8
      ok := !t.testBit 7 && decide (sl < 64) && !(sc && (t.testBit 6 || t.testBit 4)) && !(t.testBit 2 && decide (sl % 64 ≥ 48)) }
  else none

/-- The receive SC of a frame on port `p`: its element. -/
def State.rxSc (s : State) (p : Nat) (t : SecTag) (sa : Nat) : Option Nat :=
  let sci := if t.sc then t.sci else if t.es then sa * 65536 + 1 else s.rd F.CIP_PORT_PEER_SCI p
  firstIdx (fun i => s.on F.CIP_RXSC_VALID i && decide (s.rd F.CIP_RXSC_PORT i % 64 = p) && decide (s.rd F.CIP_RXSC_SCI i = sci)) (64 * unitOf p) 64

/-- The 64-bit PN that a 32-bit one stands for under an XPN suite (IEEE 802.1AE). -/
def xpnOf (lowest pn32 : Nat) : Nat :=
  let hi := lowest / 2 ^ 32
  if pn32 < 2 ^ 31 ∧ 2 ^ 31 ≤ lowest % 2 ^ 32 then (hi + 1) * 2 ^ 32 + pn32 else hi * 2 ^ 32 + pn32

/-- What becomes of a frame with a SecTAG: its plaintext form, none when it is dropped. -/
abbrev MacRx := Option (List Byte)

/-- The frame without SecTAG and ICV, its secure data replaced by `body`. -/
def unsecured (bs body : List Byte) : List Byte := withFcs (bs.take 12 ++ body)

/-- A received frame with SecTAG `t`, of bytes DA to FCS, judged by 15 R325. IEEE 802.1AE takes a tag as bad whose PN is 0 under a
suite without XPN, or whose SL is 0 before fewer than 48 octets of secure data. -/
def State.macsecRx (s : State) (p : Nat) (t : SecTag) (bs : List Byte) : State × MacRx :=
  let head := bs.take (12 + t.len)
  let rest := (bs.take (bs.length - 4)).drop (12 + t.len)
  let n := if t.sl = 0 then rest.length - 16 else t.sl
  let data := rest.take n
  let icv := (rest.drop n).take 16
  let v := s.validate p
  if !t.ok || decide (icv.length < 16) || (decide (t.sl = 0) && decide (data.length < 48)) || (!s.xpn p && decide (t.pn = 0)) then (s, none)
  else if v = 0 then (if t.e || t.c then (s, none) else (s.cipCnt p 9, some (unsecured bs data)))
  else
    let sa := match s.rxSc p t (beNat ((bs.drop 6).take 6)) with
      | some i => if s.on F.CIP_RXSA_VALID (4 * i + t.an) && s.saReady p (s.rd F.CIP_RXSA_SLOT (4 * i + t.an)) 1 then some (4 * i + t.an, i) else none
      | none => none
    let lost (s : State) : State × MacRx := (s.cipCnt p 7, if decide (v = 2) || t.e || t.c then none else some (unsecured bs data))
    match sa with
    | none => lost s
    | some (a, i) =>
      let lowest := s.rd F.CIP_RXSA_PN a
      let lowest := if s.xpn p then lowest else lowest % 2 ^ 32
      let pn := if s.xpn p then xpnOf lowest t.pn else t.pn
      if s.on F.CIP_PORT_REPLAY_PROTECT p && decide (pn < lowest) then (s.cipCnt p 6, none)
      else match s.unitUse (unitOf p) (s.rd F.CIP_RXSA_SLOT a) with
        | (s, none) => lost s
        | (s, some (k, _)) =>
          let key := keyBytes (s.suiteType p) k
          let iv := macIv (s.xpn p) (s.rd F.CIP_RXSC_SCI i) (s.rd F.CIP_RXSA_SSCI a) pn (s.rd F.CIP_RXSA_SALT a)
          let off := if t.e then s.confOffset p else data.length
          match gcmDec key iv (head ++ data.take off) (data.drop off) icv with
          | some pt =>
            let s := (s.cipCnt p 3).wr F.CIP_RXSA_PN a (max lowest (pn - s.rd F.CIP_PORT_REPLAY_WIN p))
            (s, some (unsecured bs (data.take off ++ fit (data.length - off) pt)))
          | none =>
            if v = 2 then (s.cipCnt p 5, none) else (s.cipCnt p 4, some (unsecured bs data))

/-! ## Transmitting (15 R326) -/

/-- A frame is not sent: OUT_BLOCKED, TX_BLOCK_EVT. -/
def State.txBlocked (s : State) (p : Nat) : State := (s.cipCnt p 2).evt F.CIP_STAT_TX_BLOCK_EVT 0

/-- A frame that leaves port `p` (DA to FCS), protected by the SA of TX_AN; none when it is blocked. The frame after the one that took an
SA's last PN is not sent and exhausts the slot; NEXT_PN of a suite without XPN is its word 1. -/
def State.macsecTx (s : State) (p : Nat) (bs : List Byte) : State × Option (List Byte) :=
  let a := 4 * p + s.rd F.CIP_PORT_TX_AN p
  let slot := s.rd F.CIP_TXSA_SLOT a
  let pn := if s.xpn p then s.rd F.CIP_TXSA_PN a else s.rd F.CIP_TXSA_PN a % 2 ^ 32
  let last := if s.xpn p then 2 ^ 64 - 1 else 2 ^ 32 - 1
  if !(s.on F.CIP_TXSA_VALID a && s.saReady p slot 0) then (s.txBlocked p, none)
  else if s.pnOver.contains a then ((s.keyExhaust slot).txBlocked p, none)
  else match s.unitUse (unitOf p) slot with
    | (s, none) => (s.txBlocked p, none)
    | (s, some (k, _)) =>
      let enc := s.on F.CIP_PORT_ENCRYPT p
      let sc := s.on F.CIP_PORT_INCLUDE_SCI p
      let sci := s.rd F.CIP_PORT_SCI p
      let data := (bs.take (bs.length - 4)).drop 12
      let tci := 64 * b2n (s.on F.CIP_PORT_ES p) + 32 * b2n sc + 16 * b2n (s.on F.CIP_PORT_SCB p) + 12 * b2n enc + s.rd F.CIP_PORT_TX_AN p
      let tag := beBytes 2 0x88E5 ++ beBytes 1 tci ++ beBytes 1 (if data.length < 48 then data.length else 0) ++ beBytes 4 (pn % 2 ^ 32)
        ++ (if sc then beBytes 8 sci else [])
      let off := if enc then s.confOffset p else data.length
      let iv := macIv (s.xpn p) sci (s.rd F.CIP_TXSA_SSCI a) pn (s.rd F.CIP_TXSA_SALT a)
      let r := gcmEnc (keyBytes (s.suiteType p) k) iv (bs.take 12 ++ tag ++ data.take off) (data.drop off)
      let out := withFcs (bs.take 12 ++ tag ++ data.take off ++ fit (data.length - off) r.1 ++ fit 16 r.2)
      let s := (s.wr F.CIP_TXSA_PN a (pn + 1)).cipCnt p (if enc then 1 else 0)
      (if pn = last then { s with pnOver := a :: s.pnOver } else s, some out)

/-! ## Round keys (15 R322) -/

/-- An enabled SA or seal entry of unit `u` names slot `n`. -/
def State.copyNamed (s : State) (u n : Nat) : Bool :=
  if u = 3 then (s.listed F.CIP_SEAL_VALID).any (fun i => s.on F.CIP_SEAL_VALID i && decide (s.rd F.CIP_SEAL_SLOT i = n))
  else (s.listed F.CIP_TXSA_VALID).any (fun a => decide (unitOf (a / 4) = u) && s.on F.CIP_TXSA_VALID a && decide (s.rd F.CIP_TXSA_SLOT a = n))
    || (s.listed F.CIP_RXSA_VALID).any (fun a => decide (a / 256 = u) && s.on F.CIP_RXSA_VALID a && decide (s.rd F.CIP_RXSA_SLOT a = n))

/-- The units keep the copies alone that their SAs and seal entries name. -/
def State.keepCopies (s : State) : State := { s with keyCopies := s.keyCopies.filter (fun e => s.copyNamed (e.1 / 256) (e.1 % 256)) }

/-! ## Sealed frames (15 R330 to R335) -/

/-- Data lengths of CAN FD (15 R330). -/
def fdLengths : List Nat := [0, 1, 2, 3, 4, 5, 6, 7, 8, 12, 16, 20, 24, 32, 48, 64]

/-- The least FD length of at least `n` bytes. -/
def fdLength (n : Nat) : Option Nat := fdLengths.find? (fun x => decide (n ≤ x))

/-- The lowest-numbered VALID entry of a direction that names the lane, key class and key of an FD or XL frame. -/
def State.sealEntry (s : State) (tx : Bool) (lane : Nat) (x : LaneFrame) : Option Nat :=
  if x.kind = 2 ∨ x.kind = 3 then
    (s.listed F.CIP_SEAL_VALID).find? (fun i => decide (s.on F.CIP_SEAL_DIR i = tx) && decide (s.rd F.CIP_SEAL_LANE i = lane)
      && decide (s.rd F.CIP_SEAL_KCLASS i = kclassOf x.kind x.flags) && decide (s.rd F.CIP_SEAL_KEY i = x.key))
  else none

/-- FV_LEN and MAC_LEN of an entry. -/
def State.sealFv (s : State) (i : Nat) : Nat := s.rd F.CIP_SEAL_FV_LEN_M1 i + 1
def State.sealMac (s : State) (i : Nat) : Nat := max 3 (s.rd F.CIP_SEAL_MAC_LEN_M1 i) + 1

/-- The data length that a payload of `p` bytes implies under an entry; none when the frame never seals. -/
def State.sealLength (s : State) (i kind p : Nat) : Option Nat :=
  let n := p + s.sealFv i + s.sealMac i
  if kind = 2 then fdLength n else if n ≤ 2048 then some n else none

/-- The message that the CMAC covers (15 R331). -/
def State.sealMsg (s : State) (i : Nat) (x : LaneFrame) (payload : List Byte) (fresh : Nat) : List Byte :=
  beBytes 4 (s.rd F.CIP_SEAL_DATA_ID i) ++ beBytes 1 x.kind ++ beBytes 1 (if x.kind = 2 then 0 else x.sdt)
    ++ beBytes 4 (if x.kind = 2 then 0 else x.af) ++ beBytes 2 payload.length ++ payload ++ beBytes 8 fresh

/-- The slot of an entry serves it: TYPE 3 or 4, READY, with the bit of USES. -/
def State.sealReady (s : State) (i use : Nat) : Bool :=
  let n := s.rd F.CIP_SEAL_SLOT i
  let typ := (s.keySlot n).attr.typ
  s.keyReady n use && (decide (typ = 3) || decide (typ = 4))

/-- The truncated CMAC. -/
def State.sealTag (s : State) (i : Nat) (key msg : List Byte) : List Byte :=
  (fit 16 (cmac (keyBytes (s.keySlot (s.rd F.CIP_SEAL_SLOT i)).attr.typ key) msg)).take (s.sealMac i)

/-- A seal counter. -/
def State.sealCnt (s : State) (k : Nat) : State := s.bump F.CIP_SEAL_CNT_COUNT k

/-- A TX entry seals a frame at the head of its queue (15 R332); none when the frame is dropped. -/
def State.sealTx (s : State) (i : Nat) (x : LaneFrame) : State × Option LaneFrame :=
  let plen := s.rd F.CIP_SEAL_PLEN i
  let p := x.data.length
  match (if p = plen ∨ (plen = 0xFFF ∧ x.kind = 3) then s.sealLength i x.kind p else none) with
  | none => (s.sealCnt 4, none)
  | some n =>
    if !s.sealReady i 6 then (s.sealCnt 6, none)
    else match s.unitUse 3 (s.rd F.CIP_SEAL_SLOT i) with
      | (s, none) => (s.sealCnt 6, none)
      | (s, some (key, fresh)) =>
        let fv := s.sealFv i
        let pad := List.replicate (n - p - fv - s.sealMac i) (0xCC : Byte)
        let data := x.data ++ pad ++ beBytes fv (fresh % 2 ^ (8 * fv)) ++ s.sealTag i key (s.sealMsg i x x.data fresh)
        ((s.sealCnt 0).wr F.CIP_SEAL_LAST i fresh, some { x with data := data })

/-- A check has failed (15 R333). -/
def State.sealFailed (s : State) (i k : Nat) : State :=
  let s := ((s.sealCnt k).evt F.CIP_STAT_SEAL_FAIL_EVT 0).bumpSat F.CIP_SEAL_FAIL_RUN i
  if s.rd F.CIP_SEAL_FAIL_RUN i = 16 then s.evt F.CIP_STAT_RESYNC_EVT 0 else s

/-- The payload length of a received frame under an entry: the data length must be the one of 15 R330. -/
def State.sealPayload (s : State) (i : Nat) (x : LaneFrame) : Option Nat :=
  let plen := s.rd F.CIP_SEAL_PLEN i
  let tail := s.sealFv i + s.sealMac i
  if plen = 0xFFF then (if x.kind = 3 ∧ tail ≤ x.data.length then some (x.data.length - tail) else none)
  else if s.sealLength i x.kind plen = some x.data.length then some plen else none

/-- The freshness value that truncated bytes stand for (15 R333), and whether the window takes it. -/
def freshOf (last fv window t : Nat) : Nat × Bool :=
  let m := 2 ^ (8 * fv)
  let c := last / m * m + t
  let c := if c ≤ last then c + m else c
  (c, decide (c - last ≤ window))

/-- An RX entry checks a frame (15 R333); whether it passes. -/
def State.sealCheck (s : State) (i : Nat) (x : LaneFrame) : State × Bool :=
  match s.sealPayload i x with
  | none => (s.sealFailed i 4, false)
  | some p =>
    if !s.sealReady i 7 then (s.sealFailed i 6, false)
    else match s.unitUse 3 (s.rd F.CIP_SEAL_SLOT i) with
      | (s, none) => (s.sealFailed i 6, false)
      | (s, some (key, _)) =>
        let fv := s.sealFv i
        let mac := s.sealMac i
        let t := beNat ((x.data.drop (x.data.length - fv - mac)).take fv)
        let f := freshOf (s.rd F.CIP_SEAL_LAST i) fv (min (max 1 (s.rd F.CIP_SEAL_WINDOW i)) (2 ^ (8 * fv) - 1)) t
        if !f.2 then (s.sealFailed i 3, false)
        else if s.sealTag i key (s.sealMsg i x (x.data.take p) f.1) = x.data.drop (x.data.length - mac) then
          (((s.sealCnt 1).wr F.CIP_SEAL_LAST i f.1).wr F.CIP_SEAL_FAIL_RUN i 0, true)
        else (s.sealFailed i 2, false)

/-- Every copy of the frame waits for the check (15 R334). -/
def State.sealHolds (s : State) (lane i : Nat) : Bool := s.secure (40 + lane) || s.on F.CIP_SEAL_HOLD i

/-- A failed frame of the entry goes on (15 R333). -/
def State.sealPassFail (s : State) (lane i : Nat) : Bool := !s.secure (40 + lane) && s.on F.CIP_SEAL_PASS_FAIL i

/-! ## The lookaside engine (15 R336) -/

/-- AAD_LEN, TEXT_LEN, and the text's offset behind the AAD. -/
def State.laAad (s : State) : Nat := s.rd F.CIP_LA_LEN_AAD_LEN 0
def State.laLen (s : State) : Nat := s.rd F.CIP_LA_LEN_TEXT_LEN 0
def State.laOff (s : State) : Nat := (s.laAad + 15) / 16 * 16

/-- The AAD and the text in the window. -/
def State.laAadBytes (s : State) : List Byte := s.laWin.read 0x100 s.laAad
def State.laText (s : State) : List Byte := s.laWin.read (0x100 + s.laOff) s.laLen

/-- A command starts unless one is in progress; BUSY is set until its end. -/
def State.laStart (s : State) (r : LaRun) : State := ({ s with laRun := some r }).wr F.CIP_LA_STAT_BUSY 0 1

/-- A command ends with an error. -/
def laError (code : Nat) : LaRun := ⟨code, [], []⟩

/-- A command that uses a slot: the code of the first check that it fails, 0 when none. -/
def State.laSlotCode (s : State) (slot use lo hi : Nat) (tagOk : Bool) : Nat :=
  let x := s.keySlot slot
  if !s.on F.KEY_STAT_UNSEALED 0 then 0x24
  else if x.state ≠ 1 then 0x20
  else if x.attr.typ < lo ∨ hi < x.attr.typ ∨ x.attr.uses.testBit use = false then 0x22
  else if 7936 < s.laAad + s.laLen ∨ tagOk = false then 0x23
  else 0

/-- A slot command: its checks, the use, and its result from the key. -/
def State.laSlot (s : State) (slot use lo hi : Nat) (tagOk : Bool) (g : List Byte → LaRun) : State :=
  if s.on F.CIP_LA_STAT_BUSY 0 then s
  else
    let c := s.laSlotCode slot use lo hi tagOk
    if c ≠ 0 then s.laStart (laError c)
    else match s.keyUse slot with
      | (s, none) => s.laStart (laError 0x20)
      | (s, some (k, _)) => s.laStart (g (keyBytes (s.keySlot slot).attr.typ k))

/-- A command without a slot. -/
def State.laPlain (s : State) (code : Nat) (r : LaRun) : State :=
  if s.on F.CIP_LA_STAT_BUSY 0 then s
  else if code ≠ 0 then s.laStart (laError code)
  else if 7936 < s.laAad + s.laLen then s.laStart (laError 0x23)
  else s.laStart r

/-- TAGLEN is 4 to 16. -/
def tagLenOk (n : Nat) : Bool := decide (4 ≤ n) && decide (n ≤ 16)

/-- LA_GCM_ENC. -/
def execLaGcmEnc (slot : Fin 256) (s : State) : Out :=
  .next (s.laSlot slot 2 1 2 true (fun k =>
    let r := gcmEnc k (s.laWin.read 0 12) s.laAadBytes s.laText
    ⟨0, fit s.laLen r.1, fit 16 r.2⟩))

/-- LA_GCM_DEC. -/
def execLaGcmDec (slot : Fin 256) (tagLen : BitVec 5) (s : State) : Out :=
  .next (s.laSlot slot 3 1 2 (tagLenOk tagLen.toNat) (fun k =>
    match gcmDec k (s.laWin.read 0 12) s.laAadBytes s.laText (s.laWin.read 0x10 tagLen.toNat) with
    | some t => ⟨0, fit s.laLen t, []⟩
    | none => laError 0x21))

/-- LA_CMAC_GEN. -/
def execLaCmacGen (slot : Fin 256) (s : State) : Out :=
  .next (s.laSlot slot 4 3 4 true (fun k => ⟨0, [], fit 16 (cmac k s.laText)⟩))

/-- LA_CMAC_VERIFY. -/
def execLaCmacVerify (slot : Fin 256) (tagLen : BitVec 5) (s : State) : Out :=
  .next (s.laSlot slot 5 3 4 (tagLenOk tagLen.toNat) (fun k =>
    if (fit 16 (cmac k s.laText)).take tagLen.toNat = s.laWin.read 0x10 tagLen.toNat then ⟨0, [], []⟩ else laError 0x21))

/-- LA_SHA384. -/
def execLaSha384 (s : State) : Out := .next (s.laPlain 0 ⟨0, [], fit 48 (sha384 s.laText)⟩)

/-- LA_ECDSA_SIGN: over SHA-384("VGN-USER" and the text); it needs the unsealed complex, and a nonce of the DRBG (14 R314). -/
def execLaEcdsaSign (s : State) : Out :=
  if s.on F.CIP_LA_STAT_BUSY 0 then .next s
  else
    let code := if !s.on F.KEY_STAT_UNSEALED 0 then 0x24 else if s.trngFail then 0x0F else 0
    let k := s.signNonce
    .next ((if code = 0 then k.1 else s).laPlain code ⟨0, [], fit 96 (ecdsaSign idKey (ascii "VGN-USER" ++ s.laText) k.2)⟩)

/-- LA_ECDSA_VERIFY: the public key of a FLEET position, or of the window for FLEET 0xF. -/
def execLaEcdsaVerify (fleet : BitVec 4) (s : State) : Out :=
  let key := if fleet = 15 then s.laWin.read 0x20 96 else Config.fleetKey fleet.toNat
  let ok := ecdsaVerify key s.laText (s.laWin.read 0x80 96)
  .next (s.laPlain (if fleet.toNat < 4 ∨ fleet = 15 then 0 else 0x22) (if ok then ⟨0, [], []⟩ else laError 0x21))

/-- LA_DONE: the output is written, zeros after an error; BUSY clears. -/
def execLaDone (s : State) : Out :=
  match s.laRun with
  | none => .next s
  | some r =>
    let win := if r.result = 0 then (s.laWin.writes (0x2100 + s.laOff) r.text).writes 0x2010 r.tag
      else s.laWin.filter (fun c => decide (c.1 < 0x2000))
    .next ((({ s with laRun := none, laWin := win }).wr F.CIP_LA_STAT_BUSY 0 0).wr F.CIP_LA_STAT_RESULT 0 r.result |>.evt F.CIP_STAT_LA_DONE_EVT 0)

/-- CIP_CTL.CNT_CLR. -/
def execCipCntClr (s : State) : Out := .next ((s.clearFld F.CIP_PORT_CNT_COUNT).clearFld F.CIP_SEAL_CNT_COUNT)

end Sys2Proof.Machine
end

