-- ==== Sys2Proof/Machine/Parse.lean ====
section
/-! DEFINITION. The parser of the ingress pipelines (spec 07 R146, R147) and the Stencil key (07 R150). -/
namespace Sys2Proof.Machine

/-- `n` bytes at offset `o`, most significant first. -/
def be (bs : List Byte) (o n : Nat) : Nat := beNat ((bs.drop o).take n)

/-- What the parser found: addresses; number of tags; the outer tag's VID, PCP and DEI; the EtherType behind tags and SecTAG;
SecTAG, PRP trailer and HSR tag; the L3 kind (0 none, 4, 6) and its offset; protocol, DSCP, ECN, TTL or hop limit; addresses
folded to 32 bits and whole; L4 protocol and offset, ports; offset of the PTP header; PARSE_TRUNC and PARSE_ERR. -/
structure Hdr where
  da : Nat
  sa : Nat
  tags : Nat
  vid : Nat
  pcp : Nat
  dei : Bool
  etype : Nat
  sectag : Bool
  prp : Bool
  hsr : Bool
  l3 : Nat
  l3at : Nat
  proto : Nat
  dscp : Nat
  ecn : Nat
  ttl : Nat
  ipsa : Nat
  ipda : Nat
  src : Nat
  dst : Nat
  l4 : Option Nat
  l4src : Nat
  l4dst : Nat
  ptp : Option Nat
  trunc : Bool
  err : Bool
  deriving DecidableEq, Repr

/-- The first 256 bytes, and no byte of the FCS, belong to headers (07 R147). -/
def inWindow (bs : List Byte) (e : Nat) : Bool := decide (e ≤ 256) && decide (e + 4 ≤ bs.length)

/-- A header that ends at `e` is absent; one that ends behind byte 256 counts PARSE_TRUNC, however long the frame is. -/
def Hdr.absent (h : Hdr) (e : Nat) : Hdr := if 256 < e then { h with trunc := true } else h

/-- The XOR of the four words of an IPv6 address (07 R150). -/
def foldAddr (a : Nat) : Nat := bits a 0 32 ^^^ bits a 32 32 ^^^ bits a 64 32 ^^^ bits a 96 32

/-- A PTP header at `o`. -/
def Hdr.ptpAt (h : Hdr) (bs : List Byte) (o : Nat) : Hdr := if inWindow bs (o + 34) then { h with ptp := some o } else h.absent (o + 34)

/-- UDP or TCP at `o`. -/
def Hdr.l4At (h : Hdr) (bs : List Byte) (o : Nat) : Hdr :=
  let n := if h.proto = 17 then 8 else 20
  if h.proto ≠ 17 ∧ h.proto ≠ 6 then h
  else if inWindow bs (o + n) then
    let h := { h with l4 := some o, l4src := be bs o 2, l4dst := be bs (o + 2) 2 }
    if h.proto = 17 ∧ (h.l4dst = 319 ∨ h.l4dst = 320) then h.ptpAt bs (o + 8) else h
  else h.absent (o + n)

/-- IPv4 at `o`. -/
def Hdr.v4At (h : Hdr) (bs : List Byte) (o : Nat) : Hdr :=
  if !inWindow bs (o + 20) then h.absent (o + 20)
  else
    let ihl := be bs o 1 % 16
    if ihl < 5 ∨ be bs (o + 2) 2 < 4 * ihl then { h with err := true }
    else if !inWindow bs (o + 4 * ihl) then h.absent (o + 4 * ihl)
    else
      let tos := be bs (o + 1) 1
      let h := { h with l3 := 4, l3at := o, proto := be bs (o + 9) 1, dscp := tos / 4, ecn := tos % 4, ttl := be bs (o + 8) 1
                        src := be bs (o + 12) 4, dst := be bs (o + 16) 4, ipsa := be bs (o + 12) 4, ipda := be bs (o + 16) 4 }
      if be bs (o + 6) 2 % 2 ^ 13 = 0 then h.l4At bs (o + 4 * ihl) else h

/-- The headers behind an IPv6 header: at most `n` extension headers are skipped (07 R146); `frag` says that a later fragment
has no L4 ports. -/
def Hdr.extAt (h : Hdr) (bs : List Byte) (o : Nat) (frag : Bool) : Nat → Hdr
  | 0 => if frag then h else h.l4At bs o
  | n + 1 =>
    if h.proto = 0 ∨ h.proto = 43 ∨ h.proto = 44 ∨ h.proto = 60 then
      let len := if h.proto = 44 then 8 else 8 * (be bs (o + 1) 1 + 1)
      if !inWindow bs (o + 8) then h.absent (o + 8)
      else if !inWindow bs (o + len) then h.absent (o + len)
      else
        let frag := frag || (decide (h.proto = 44) && decide (be bs (o + 2) 2 / 8 ≠ 0))
        Hdr.extAt { h with proto := be bs o 1 } bs (o + len) frag n
    else if frag then h else h.l4At bs o

/-- IPv6 at `o`. -/
def Hdr.v6At (h : Hdr) (bs : List Byte) (o : Nat) : Hdr :=
  if !inWindow bs (o + 40) then h.absent (o + 40)
  else
    let tc := be bs o 2 / 16 % 256
    let src := be bs (o + 8) 16
    let dst := be bs (o + 24) 16
    let h := { h with l3 := 6, l3at := o, proto := be bs (o + 6) 1, dscp := tc / 4, ecn := tc % 4, ttl := be bs (o + 7) 1
                      src := src, dst := dst, ipsa := foldAddr src, ipda := foldAddr dst }
    h.extAt bs (o + 40) false 2

/-- What lies behind the EtherType at `o`. -/
def Hdr.afterType (h : Hdr) (bs : List Byte) (o : Nat) : Hdr :=
  if h.etype = 0x0800 then h.v4At bs (o + 2)
  else if h.etype = 0x86DD then h.v6At bs (o + 2)
  else if h.etype = 0x88F7 then h.ptpAt bs (o + 2)
  else h

/-- The EtherType at `o` behind the VLAN tags: a SecTAG stops the parser, an HSR tag is passed. -/
def Hdr.typeAt (h : Hdr) (bs : List Byte) (o : Nat) : Hdr :=
  let t := be bs o 2
  let h := { h with etype := t }
  if t = 0x88E5 then { h with sectag := true }
  else if t = 0x892F then
    if inWindow bs (o + 8) then Hdr.afterType { h with hsr := true, etype := be bs (o + 6) 2 } bs (o + 6) else h.absent (o + 8)
  else h.afterType bs o

/-- The empty result. -/
def Hdr.init (da sa : Nat) (sectag prp : Bool) : Hdr :=
  ⟨da, sa, 0, 0, 0, false, 0, sectag, prp, false, 0, 0, 0, 0, 0, 0, 0, 0, 0, 0, none, 0, 0, none, false, false⟩

/-- An Ethernet frame, DA to FCS, parsed with the TPIDs of a pipeline; `secured` says that its SecTAG has been removed. -/
def parseEth (cTpid sTpid : Nat) (secured : Bool) (bs : List Byte) : Hdr :=
  let n := bs.length
  let h := Hdr.init (be bs 0 6) (be bs 6 6) secured (decide (24 ≤ n) && decide (be bs (n - 6) 2 = 0x88FB))
  if !inWindow bs 14 then h
  else
    let t := be bs 12 2
    if t < 0x0600 then { h with etype := t }
    else if t = cTpid ∨ t = sTpid then
      if !inWindow bs 18 then { h with etype := t }
      else
        let tci := be bs 14 2
        let h := { h with tags := 1, vid := tci % 4096, pcp := tci / 8192, dei := tci.testBit 12, etype := be bs 16 2 }
        if h.etype = cTpid then
          if inWindow bs 22 then Hdr.typeAt { h with tags := 2 } bs 20 else h
        else h.typeAt bs 16
    else h.typeAt bs 12

/-- A lane frame as the classifier sees it: L3PROTO holds KIND and IPDA holds KEY (07 R150). -/
def parseLane (bs : List Byte) : Hdr :=
  let x := laneOf bs
  { Hdr.init 0 0 false false with proto := x.kind, ipda := x.key }

/-- Frames of port `p` are lane frames: a lane with personality CAN or MVB (07 R148). -/
def State.lanePort (s : State) (p : Nat) : Bool :=
  decide (40 ≤ p) && decide (p < 64) && (decide (s.pers (p - 40) = 1) || decide (s.pers (p - 40) = 3))

/-- The parse of a frame of ingress port `p` in pipeline `i`. -/
def State.parse (s : State) (i p : Nat) (secured : Bool) (bs : List Byte) : Hdr :=
  if s.lanePort p then parseLane bs else parseEth (s.rd F.PP_TPID_C_TPID i) (s.rd F.PP_TPID_S_TPID i) secured bs

/-- The key of 256 bits (07 R150); without a tag its VID, PCP and DEI read 0. -/
def Hdr.key (h : Hdr) (port : Nat) : Nat :=
  port * 2 ^ 249 + h.vid * 2 ^ 237 + h.pcp * 2 ^ 234 + b2n h.dei * 2 ^ 233 + h.etype * 2 ^ 217 + h.tags * 2 ^ 215
    + b2n h.sectag * 2 ^ 214 + b2n h.prp * 2 ^ 213 + b2n h.hsr * 2 ^ 212 + h.da * 2 ^ 164 + h.sa * 2 ^ 116 + h.proto * 2 ^ 108
    + h.dscp * 2 ^ 102 + h.ecn * 2 ^ 100 + h.ipsa * 2 ^ 68 + h.ipda * 2 ^ 36 + h.l4src * 2 ^ 20 + h.l4dst * 2 ^ 4

end Sys2Proof.Machine
end

