-- ==== Sys2Proof/Machine/Lookup.lean ====
section
/-! DEFINITION. Classification and decision (spec 07 R149 to R152): the Stencil rules, the VLAN table, forwarding, routing and
NAT (08 R181 to R185), the signal routing table (11 R245 to R252), and PRP, HSR and aggregation (13). -/
namespace Sys2Proof.Machine

/-! ## Classification (07 R149, R150) -/

/-- The element of PPx_PORT_CFG[p]. -/
def ppElem (i p : Nat) : Nat := 67 * i + p

/-- The VID that a frame is classified with. -/
def State.frameVid (s : State) (i p : Nat) (h : Hdr) : Nat :=
  if h.tags ≠ 0 ∧ h.vid ≠ 0 then h.vid else s.rd F.PP_PORT_CFG_PVID (ppElem i p)

/-- The initial class. -/
def State.initClass (s : State) (i p : Nat) (h : Hdr) : Nat :=
  if h.tags ≠ 0 ∧ s.on F.PP_PORT_CFG_TRUST_PCP (ppElem i p) = true then bits (s.rd F.PP_PCP_MAP_CLASS i) (3 * h.pcp) 3
  else s.rd F.PP_PORT_CFG_DEF_CLASS (ppElem i p)

/-- ACCEPT lets the frame in. -/
def State.accepts (s : State) (i p : Nat) (h : Hdr) : Bool :=
  let tagged := decide (h.tags ≠ 0) && decide (h.vid ≠ 0)
  match s.rd F.PP_PORT_CFG_ACCEPT (ppElem i p) with
  | 0 => true | 1 => tagged | 2 => !tagged | _ => false

/-- Entries of a windowed table that have been written, as a frame of the present epoch sees them. -/
def State.rowIdxs (s : State) (tid : Nat) : List Nat :=
  s.rows.filterMap (fun e => if e.1 / 2 ^ 20 = tid then some (e.1 % 2 ^ 20) else none)
    ++ s.updBuf.filterMap (fun w => if s.committed w then (match w.op with | .word t i _ _ => if t = tid then some i else none | _ => none) else none)

/-- The lowest index of a table whose entry satisfies `g`. -/
def State.firstRow (s : State) (tid : Nat) (g : Nat → Bool) : Option Nat :=
  (s.rowIdxs tid).foldl (fun b i => if g (s.row tid i) then (match b with | some j => some (min i j) | none => some i) else b) none

/-- A Stencil rule matches a key (07 R150). -/
def ruleMatches (key row : Nat) : Bool :=
  decide (fieldOf row 16 31 1 = 1) && decide ((key ^^^ bits row 0 256) &&& bits row 256 256 = 0)

/-- The lowest-numbered matching rule. -/
def State.stencilHit (s : State) (i key : Nat) : Option Nat := s.firstRow (0x10 + i) (ruleMatches key)

/-! ## VLANs (08 R181) -/

/-- The entry of a VID; VIDs 0 and 4,095 are never looked up. -/
def State.vlan (s : State) (vid : Nat) : Nat := if vid = 0 ∨ vid = 4095 then 0 else s.row 0x03 vid

/-- Port `p` is a member of a VALID entry. -/
def vlanHas (row p : Nat) : Bool := decide (fieldOf row 6 31 1 = 1) && (bits row 0 67).testBit p

/-- UNTAG of port `p`. -/
def vlanUntag (row p : Nat) : Bool := (bits row 96 67).testBit p

/-! ## Destinations (07 R151, 09 R198, R448) -/

/-- The queue of a port for a class; 768 stands for the recirculation list of port 66. -/
def State.queueOf (s : State) (p cls : Nat) : Nat :=
  if p < 40 then 8 * p + cls else if p < 64 then 320 + 4 * (p - 40) + cls / 2
  else if p = 64 then 416 + cls else if p = 65 then 448 + bits (s.rd F.SIG_P65_MAP_QUEUE 0) (8 * cls) 6 else 768

/-- The tag operation of a destination port (09 R448); `v` is the egress VID with its VLAN entry. -/
def tagOpFor (h : Hdr) (row v p : Nat) : Nat :=
  if 64 ≤ p then 0
  else if h.tags = 0 then (if vlanUntag row p then 0 else 1)
  else if vlanUntag row p then 2
  else if h.vid = v then 0 else 3

/-- The ports that count as the ingress port: both of a pair. -/
def State.ingressSet (s : State) (p : Nat) : List Nat := if s.redMode p = 0 then [p] else [p / 2 * 2, p / 2 * 2 + 1]

/-- Where a frame is to go before filtering: ports and aggregation groups. -/
structure Reach where
  ports : List Nat
  groups : List Nat

/-- A flood set (08 R181, 13 R295): a group stands once for its members. -/
def State.floodReach (s : State) (row : Nat) : Reach where
  ports := (List.range 67).filter (fun x => vlanHas row x && (s.aggOf x).isNone)
  groups := (List.range 16).filter (fun g => (s.aggSt g).on && (s.aggMembers g).any (vlanHas row))

/-- Egress filtering (07 R151 step 6, 13 R288, R295), and pairs expanded to both ports. -/
def State.filterReach (s : State) (p row : Nat) (r : Reach) : Reach where
  ports := s.expandPairs (r.ports.filter (fun x => vlanHas row x && !(s.ingressSet p).contains x))
  groups := r.groups.filter (fun g => !(s.aggSt g).on || (decide (s.aggOf p ≠ some g) && (s.aggMembers g).any (vlanHas row)))

/-- The bytes over which group `g` hashes a frame (13 R296). -/
def State.hashBytes (s : State) (g vid : Nat) (h : Hdr) : List Byte :=
  if s.on F.TBL_AGG_CFG_HASH_L3 g && decide (h.l3 ≠ 0) then beBytes 4 h.ipsa ++ beBytes 4 h.ipda ++ beBytes 1 h.proto ++ beBytes 2 h.l4src ++ beBytes 2 h.l4dst
  else beBytes 6 h.da ++ beBytes 6 h.sa ++ beBytes 2 vid ++ beBytes 2 h.etype

/-- The member to which group `g` gives a frame, with the bucket; none for a group that is not in force. -/
def State.groupPort (s : State) (g vid : Nat) (h : Hdr) : Option (Nat × Nat) :=
  if (s.aggSt g).on then
    let b := bucketOf (crc16 (s.rd F.TBL_AGG_CFG_SEED g) (s.hashBytes g vid h))
    some (s.pinnedPort g b, 256 * g + b)
  else none

/-- The destinations of a filtered set, and a charge for each group without members in force. -/
def State.toDests (s : State) (h : Hdr) (vid v row cls : Nat) (r : Reach) : List VDest × List Charge :=
  let one (p : Nat) (b : Option Nat) : VDest := ⟨p, s.queueOf p cls, tagOpFor h row v p, b⟩
  let gs := r.groups.map (fun g => s.groupPort g vid h)
  (r.ports.map (fun p => one p none) ++ gs.filterMap (fun x => x.map (fun y => one y.1 (some y.2))),
    gs.filterMap (fun x => if x.isNone then some (Charge.red 7) else none))

/-! ## The verdict -/

/-- A verdict before any step. -/
def Verdict.init (cls vid : Nat) : Verdict where
  dests := []
  lanes := []
  queues := []
  mirror := none
  initCls := cls
  cls := cls
  yellow := false
  red := false
  policer := none
  routed := false
  newVid := vid
  nat := 0
  dmac := 0
  natAddr := 0
  ipDelta := 0
  l4Delta := 0
  drop := false
  early := false
  denied := false
  stencil := none
  noSpec := false
  edits := false
  vid := vid
  lim := none
  pass := none
  brg := false
  charges := []
  learn := false
  smac := 0

/-- The frame is dropped in a later step. -/
def Verdict.dropped (v : Verdict) (c : List Charge) : Verdict := { v with drop := true, charges := v.charges ++ c }

/-- The frame is dropped in steps 1 to 3. -/
def Verdict.refused (v : Verdict) (c : List Charge) : Verdict := { v.dropped c with early := true, denied := true }

/-! ## Routing and NAT (08 R182 to R185) -/

/-- Ones'-complement sum of 16 bits. -/
def ocAdd (a b : Nat) : Nat := (a + b) % 65536 + (a + b) / 65536

/-- What a checksum's complement gains when a 16-bit word changes. -/
def ocDelta (old new : Nat) : Nat := ocAdd (65535 - old % 65536) (new % 65536)

/-- The same for a 32-bit address. -/
def ocDelta32 (old new : Nat) : Nat := ocAdd (ocDelta (old / 65536) (new / 65536)) (ocDelta old new)

/-- The lowest NAT mapping whose word `w` holds an address. -/
def State.natFind (s : State) (w addr : Nat) : Option Nat :=
  s.firstRow 0x07 (fun r => decide (fieldOf r 2 31 1 = 1) && decide (fieldOf r w 0 32 = addr))

/-- A trap to the routing CPU queue, or a drop, with the counter charged. -/
def State.routeTrap (s : State) (v : Verdict) (trap : Bool) (c : List Charge) : Verdict :=
  if trap then { v with queues := v.queues ++ [416 + s.rd F.TBL_RT_CFG_CPU_QUEUE 0], charges := v.charges ++ c } else v.dropped c

/-- A frame for the router (08 R182): the destination address translated, the longest prefix, its next hop, the edits. -/
def State.route (s : State) (p : Nat) (h : Hdr) (v : Verdict) : Verdict :=
  let outside := s.bit F.TBL_NAT_PORT_OUTSIDE 0 p
  let dnat := if h.l3 = 4 ∧ outside = true then s.natFind 1 h.dst else none
  let dst := match dnat with | some m => fieldOf (s.row 0x07 m) 0 0 32 | none => h.dst
  if h.l3 ≠ 0 ∧ h.ttl ≤ 1 then
    let t := s.on F.TBL_RT_CFG_TTL_TRAP 0
    s.routeTrap v t (if t then [Charge.tbl 11] else [])
  else match (if h.l3 = 0 then none else s.lpm (decide (h.l3 = 6)) dst) with
    | none => s.routeTrap v (s.on F.TBL_RT_CFG_MISS_TRAP 0) [Charge.tbl 10]
    | some r =>
      let n := s.row 0x06 r.nh
      let kind := fieldOf n 2 29 2
      let dest := fieldOf n 2 0 7
      if fieldOf n 2 31 1 = 0 ∨ kind = 2 then v.dropped [Charge.tbl 12]
      else
        let nv := fieldOf n 1 16 12
        let row := s.vlan nv
        let reach := s.filterReach p row (if kind = 1 then ⟨[], [dest]⟩ else if kind = 0 then ⟨[dest], []⟩ else ⟨[], []⟩)
        let ds := s.toDests h v.vid nv row v.cls reach
        let ds := if kind = 3 then ([(⟨64, 416 + dest % 32, 0, none⟩ : VDest)], []) else ds
        let out := ds.1.any (fun d => s.bit F.TBL_NAT_PORT_OUTSIDE 0 d.port)
        let snat := if h.l3 = 4 ∧ outside = false ∧ out = true then s.natFind 0 h.src else none
        let new := match snat, dnat with
          | some m, _ => fieldOf (s.row 0x07 m) 1 0 32
          | none, some _ => dst
          | none, none => 0
        let nat := if snat.isSome then 1 else if dnat.isSome then 2 else 0
        let ad := if nat = 0 then 0 else ocDelta32 (if nat = 1 then h.src else h.dst) new
        { v with
          dests := ds.1, routed := true, edits := true, newVid := nv, nat := nat
          dmac := fieldOf n 0 0 32 + fieldOf n 1 0 16 * 2 ^ 32, natAddr := new
          ipDelta := if h.l3 = 4 then ocAdd (ocDelta (h.ttl * 256 + h.proto) ((h.ttl - 1) * 256 + h.proto)) ad else 0
          l4Delta := ad
          charges := v.charges ++ ds.2 ++ (if nat = 0 then [] else [Charge.tbl 13]) }

/-! ## The FDB (07 R151 step 4) -/

/-- What the FDB or the flood set gives: none is a drop. The last part says that the frame is for the device alone, for an HSR
ring (13 R290). -/
def State.bridge (s : State) (i p : Nat) (h : Hdr) (row : Nat) (v : Verdict) : Verdict × Bool :=
  let give (r : Reach) (v : Verdict) : Verdict :=
    let ds := s.toDests h v.vid v.vid row v.cls (s.filterReach p row r)
    { v with dests := ds.1, charges := v.charges ++ ds.2 }
  if h.da.testBit 40 then (if fieldOf row 6 27 1 = 1 then give (s.floodReach row) v else v, false)
  else match s.fdbLookup i v.vid h.da with
    | none => (if fieldOf row 6 28 1 = 1 then give (s.floodReach row) v else v.dropped [Charge.tbl 9], false)
    | some e =>
      if e.kind = 0 then (give ⟨[e.dest], []⟩ v, !(s.ingressSet p).contains e.dest)
      else if e.kind = 1 then (give ⟨[], [e.dest]⟩ v, true)
      else if e.kind = 2 then ({ v.dropped [] with denied := true }, true)
      else ({ v with dests := [⟨64, 416 + e.dest % 32, 0, none⟩] }, true)

/-! ## The signal routing table (11 R249 to R252) -/

/-- The operation of a buffered write on the key of entry `e`. -/
def sigOnKey (op : TblOp) (e : Nat) : Option (Option Nat) :=
  match op with
  | .sigInsert ws => if sigSame (sigEntry ws) e then some (some (sigEntry ws)) else none
  | .sigDelete ws => if sigSame (sigEntry ws) e then some none else none
  | _ => none

/-- The entry of a key as a frame of the present epoch sees it; the key is in the form of an entry. -/
def State.sigLookup (s : State) (e : Nat) : Option Nat :=
  let fresh := s.updBuf.foldl (fun r w => if s.committed w then (match sigOnKey w.op e with | some x => some x | none => r) else r) none
  match fresh with
  | some r => r
  | none => (cuckooFind s.sigTable sigGeo (s.sigHash e) (sigSame e)).map Prod.snd

/-- A lane frame of lane `n` is routed. -/
def State.sigRoute (s : State) (n : Nat) (x : LaneFrame) (v : Verdict) : Verdict :=
  let kc := kclassOf x.kind x.flags
  let key := x.key % 2 ^ 29 + kc * 2 ^ 29 + n * 2 ^ 59
  match (if s.on F.SIG_CTL_EN 0 then s.sigLookup key else none) with
  | none =>
    let v := { v with charges := v.charges ++ [Charge.sig 0, Charge.sig 2] }
    if s.on F.SIG_CTL_MISS_CPU 0 then { v with queues := v.queues ++ [416 + s.rd F.SIG_CTL_MISS_Q 0] } else v.dropped []
  | some e =>
    let want := (List.range 24).filter (fun m => (fieldOf e 1 0 24).testBit m)
    let good := want.filter (fun m => decide (m ≠ n) && decide (s.pers m = 1) && decide (kc ≠ 3))
    let nk := if fieldOf e 1 26 1 = 1 then some (keyInFormat kc (fieldOf e 3 0 29)) else none
    let nib := fieldOf e 2 31 1 = 1
    let cpu := fieldOf e 2 30 1 = 1
    { v with
      lanes := good.map (fun m => (320 + 4 * m + fieldOf e 1 24 2, nk))
      queues := v.queues ++ (if nib then [448 + fieldOf e 2 24 6] else []) ++ (if cpu then [416 + fieldOf e 2 0 5] else [])
      lim := if fieldOf e 2 23 1 = 1 then some (fieldOf e 2 8 8) else none
      charges := v.charges ++ [Charge.sig 0, Charge.sig 1] ++ List.replicate (want.length - good.length) (Charge.sig 7)
        ++ List.replicate good.length (Charge.sig 3) ++ (if nib then [.sig 4] else []) ++ (if cpu then [.sig 5] else []) }

/-! ## PRP and HSR (13 R288 to R293) -/

/-- The sequenceNr of a frame received on a pair: its RCT or HSR tag. -/
def State.redSeq (s : State) (p : Nat) (h : Hdr) (bs : List Byte) : Option (Nat × Nat) :=
  match s.redMode p with
  | 1 => rctOf bs h.tags
  | 2 => hsrOf bs h.tags
  | _ => none

/-- What the duplicate-discard table says of a frame: removed from the ring, discarded, delivered here, passed on. -/
structure DupRes where
  removed : Bool
  discard : Bool
  deliver : Bool
  pass : Bool

/-- The judgement of R290 and R291 at this moment. -/
def State.dupJudge (s : State) (p : Nat) (h : Hdr) (bs : List Byte) (v : Verdict) : DupRes :=
  match s.redSeq p h bs with
  | none => ⟨false, false, true, false⟩
  | some (seq, _) =>
    let e := (s.ddFind (p / 2) h.sa seq).map Prod.snd
    let has (g : DdEnt → Bool) : Bool := match e with | some x => g x | none => false
    if s.redMode p = 1 then ⟨false, has DdEnt.delivered, !has DdEnt.delivered, false⟩
    else if has DdEnt.sent then ⟨true, true, false, false⟩
    else ⟨false, false, !has DdEnt.delivered, v.pass.isSome && !(if p % 2 = 0 then has DdEnt.fwdB else has DdEnt.fwdA)⟩

/-! ## The steps of the decision stage (07 R151) -/

/-- A received peer-to-peer delay message: Pdelay_Req, Pdelay_Resp, Pdelay_Resp_Follow_Up. -/
def isPdelay (h : Hdr) (bs : List Byte) : Bool :=
  match h.ptp with
  | some o => let t := be bs o 1 % 16; decide (t = 2) || decide (t = 3) || decide (t = 10)
  | none => false

/-- The frame is for this device's Ligature bridge (17 R353, R354). -/
def State.forBridge (s : State) (h : Hdr) : Bool :=
  decide (h.etype = s.rd F.BRG_ETYPE_ETYPE 0) && decide (h.da = s.rd F.BRG_MAC_PREFIX_PREFIX 0 * 4096 + s.rd F.BRG_CTL_MY_DEV 0)

/-- Step 4, for a frame that step 3 lets pass. -/
def State.forward (s : State) (i p : Nat) (h : Hdr) (bs : List Byte) (row : Nat) (v : Verdict) : Verdict :=
  if s.lanePort p then s.sigRoute (p - 40) (laneOf bs) v
  else if s.forBridge h then { v with brg := true }
  else if p < 40 ∧ s.rd F.RUL_PORT_CFG_TC_MODE p = 2 ∧ isPdelay h bs = true then
    { v with queues := v.queues ++ [416 + s.rd F.RUL_TC_CFG_CPU_Q 0] }
  else
    let r := if fieldOf row 6 29 1 = 1 ∧ h.da = s.routerMac then (s.route p h v, true) else s.bridge i p h row v
    let v := r.1
    let toPair := v.dests.any (fun d => decide (s.redMode d.port ≠ 0))
    let tagged := (s.redSeq p h bs).isSome
    { v with
      pass := if s.redMode p = 2 ∧ tagged = true ∧ r.2 = false then some (partner p) else none
      edits := v.edits || toPair || (tagged && !v.dests.isEmpty) }

/-- Steps 1 to 6 of the decision stage (07 R151), policing apart. -/
def State.steps (s : State) (f : Flight) : Verdict :=
  let p := f.port
  let i := pipeOf p
  let h := s.parse i p f.secured f.bytes
  let lane := s.lanePort p
  let vid := match f.fixed with | some x => x.1 | none => s.frameVid i p h
  let v := Verdict.init (match f.fixed with | some x => x.2 | none => s.initClass i p h) vid
  let row := s.vlan vid
  if p < 40 ∧ s.secure p = true ∧ f.secured = false then
    if h.etype = 0x888E then { v with queues := [416 + s.rd F.CIP_CTL_EAPOL_Q 0], early := true } else v.refused [.cip 8]
  else if !s.accepts i p h then v.refused []
  else if !vlanHas row (s.logicalPort p) then v.refused [.pp 4]
  else
    let tagCharges : List Charge := match s.redMode p, s.redSeq p h f.bytes with
      | 0, _ => []
      | _, none => [.red 2]
      | 1, some (_, lan) => if lan = (if p % 2 = 0 then 0xA else 0xB) then [] else [.red 3]
      | _, some _ => []
    let rule := s.stencilHit i (h.key p)
    let r := match rule with | some k => s.row (0x10 + i) k | none => 0
    let w := match rule with | some _ => fieldOf r 16 0 32 | none => s.rd F.PP_STENCIL_DEF_ACTION i
    let cq := 416 + fieldOf r 17 0 5
    let act := bits w 28 3
    let v := { v with
      cls := if w.testBit 27 then bits w 24 3 else v.cls
      stencil := rule, noSpec := w.testBit 22, charges := tagCharges
      policer := if w.testBit 21 then some (bits w 8 12) else none }
    if act = 1 ∨ 5 ≤ act then v.refused [.pp 3]
    else if act = 3 then { v with queues := [cq], denied := true, charges := v.charges ++ [.pp 6] }
    else
      let want := (w.testBit 23 || s.on F.PP_PORT_CFG_MIRROR_IN (ppElem i p)) && s.on F.PP_MIRROR_EN i && decide (s.rd F.PP_MIRROR_PORT i < 64)
      let v := { v with
        mirror := if want then some (s.rd F.PP_MIRROR_PORT i) else none
        queues := if act = 4 then [cq] else [] }
      if act = 2 then
        let port := bits w 0 7
        let tagop := if lane then 0 else tagOpFor h row vid port
        let ps := if port < 67 then s.expandPairs [port] else []
        { v with dests := ps.map (fun x => ⟨x, s.queueOf x v.cls, tagop, none⟩), edits := decide (s.redMode port ≠ 0) }
      else s.forward i p h f.bytes row v

/-- The tables of the present epoch let the SA be learned (08 R175): only a drop of steps 1 to 3 keeps a frame from it. -/
def State.learns (s : State) (f : Flight) (v : Verdict) : Bool :=
  let i := pipeOf f.port
  let h := s.parse i f.port f.secured f.bytes
  !(v.early && v.drop) && !s.lanePort f.port && s.on (if i = 0 then F.TBL_CTL_LEARN_A else F.TBL_CTL_LEARN_B) 0
    && s.on F.TBL_PORT_LEARN_EN (s.logicalPort f.port) && decide (fieldOf (s.vlan v.vid) 6 30 1 = 1) && decide (h.sa ≠ 0) && !h.sa.testBit 40

/-- The decision part of the verdict of a frame (07 R151), policing apart, with all that it takes from the tables of its epoch
(08 R189). -/
def State.decision (s : State) (f : Flight) : Verdict :=
  let v := s.steps f
  { v with learn := s.learns f v, smac := if v.routed then s.routerMac else 0 }

end Sys2Proof.Machine
end

