-- ==== Sys2Proof/Machine/Edits.lean ====
section
/-! DEFINITION. What egress changes in a frame (spec 09 R196, R448, R202; 08 R182, R185; 13 R289, R290), time-stamps with their
compensation (12 R272 to R276) and the transparent clock (12 R277 to R280). -/
namespace Sys2Proof.Machine

/-- Bytes with others written at an offset. -/
def putBytes (bs : List Byte) (o : Nat) (new : List Byte) : List Byte := bs.take o ++ new ++ bs.drop (o + new.length)

/-! ## Time-stamps (12 R272 to R275) -/

/-- Receive and transmit latency of a port in 0.1 ns, by RATE and RS-FEC. -/
def portLatency (rate : Nat) (fec : Bool) : Nat × Nat :=
  match rate with
  | 1 => if fec then (2776, 318) else (318, 194)
  | 2 => (582, 406)
  | 3 => (1124, 780)
  | 4 => (1860, 1216)
  | 5 => (4360, 2960)
  | 6 => (43600, 29600)
  | 7 => (436000, 296000)
  | _ => (0, 0)

/-- A number of 0.1 ns, and a trim of 0.25 ns, in units of 2^-48 ns. -/
def tenths (n : Int) : Int := n * 2 ^ 48 / 10
def State.rxTrim (s : State) (p : Nat) : Int := toSigned 16 (s.rd F.RUL_PORT_CFG_RX_TRIM p) * 2 ^ 46
def State.txTrim (s : State) (p : Nat) : Int := toSigned 16 (s.rd F.RUL_PORT_CFG_TX_TRIM p) * 2 ^ 46

/-- What compensation moves a receive and a transmit time-stamp of an Ethernet port. -/
def State.rxComp (s : State) (p : Nat) : Int :=
  s.rxTrim p - tenths (portLatency (s.rd F.ETH_STAT_RATE p) (s.on F.ETH_STAT_FEC_ACTIVE p)).1
def State.txComp (s : State) (p : Nat) : Int :=
  s.txTrim p + tenths (portLatency (s.rd F.ETH_STAT_RATE p) (s.on F.ETH_STAT_FEC_ACTIVE p)).2

/-- The messageType of a PTP event message in a parsed frame. -/
def ptpEvent (h : Hdr) (bs : List Byte) : Option Nat :=
  match h.ptp with
  | some o => if be bs o 1 % 16 < 4 then some (be bs o 1 % 16) else none
  | none => none

/-- A frame received on an Ethernet port takes a record when it carries a PTP event message or TS_ALL is set; `sn` holds the Rulers at
its time-stamp point. -/
def State.rxStamp (s : State) (sn : Snap) (p : Nat) (h : Hdr) (bs : List Byte) : State × Nat :=
  if (ptpEvent h bs).isSome || s.on F.RUL_PORT_CFG_TS_ALL p then s.captureAt sn false p (s.capMask.get 0 p) (s.rxComp p) else (s, 0xFFFF)

/-- A frame leaves port `p`: with TX_TS and a PTP event message, or when a record was asked for, a record is taken and
announced; `comp` moves the times of `sn`, its time-stamp point. -/
def State.txStampBy (s : State) (sn : Snap) (p : Nat) (asked : Bool) (bs : List Byte) (comp : Int) : State :=
  let h := parseEth (s.rd F.PP_TPID_C_TPID 0) (s.rd F.PP_TPID_S_TPID 0) false bs
  let ev := ptpEvent h bs
  let byTs := ev.isSome && s.on F.RUL_PORT_CFG_TX_TS p
  if !byTs && !asked then s
  else match s.captureAt sn true p (s.capMask.get 0 p) comp with
    | (s, i) =>
      let n := s.txReqCount.get 0 p
      let s := if asked then { s with txReqCount := s.txReqCount.set 0 p ((n + 1) % 65536) } else s
      if i = 0xFFFF then s
      else
        let o := h.ptp.getD 0
        s.egressReport ⟨p, if byTs then 1 else 2, i, if h.ptp.isSome then be bs (o + 30) 2 else n,
          if h.ptp.isSome then be bs o 1 % 16 else 0xFF, if h.ptp.isSome then be bs (o + 4) 1 else 0⟩

/-- The same on an Ethernet port. -/
def State.txStamp (s : State) (sn : Snap) (p : Nat) (asked : Bool) (bs : List Byte) : State := s.txStampBy sn p asked bs (s.txComp p)

/-! ## The transparent clock (12 R278 to R280) -/

/-- The domain Ruler of a message. -/
def State.domainRuler (s : State) (domain : Nat) : Option Nat :=
  match firstIdx (fun t => decide (s.rd F.RUL_CTL_ROLE t = 1) && decide (s.rd F.RUL_CTL_DOMAIN t = domain)) 0 8 with
  | some t => if s.rulerRuns t then some t else if s.on F.RUL_TC_CFG_T0_FALLBACK 0 then some 0 else none
  | none => if s.on F.RUL_TC_CFG_T0_FALLBACK 0 then some 0 else none

/-- Both bytes of a word exchanged. -/
def swap16 (x : Nat) : Nat := x % 256 * 256 + x / 256 % 256

/-- What the checksum gains when 8 bytes change. -/
def ocDelta64 (old new : Nat) : Nat := ocAdd (ocDelta32 (old / 2 ^ 32) (new / 2 ^ 32)) (ocDelta32 (old % 2 ^ 32) (new % 2 ^ 32))

/-- The frame with a new correctionField, UDP adapted; none when a UDP over IPv6 payload has no room. -/
def tcWrite (h : Hdr) (bs : List Byte) (o cf : Nat) : Option (List Byte) :=
  let old := be bs (o + 8) 8
  let out := putBytes bs (o + 8) (beBytes 8 cf)
  match h.l4 with
  | none => some out
  | some u =>
    if h.l3 = 4 then some (putBytes out (u + 6) (beBytes 2 0))
    else
      let len := be bs (u + 4) 2
      if len < 8 + be bs (o + 2) 2 + 2 ∨ bs.length < u + len then none
      else
        let at' := u + len - 2
        let last := be bs at' 2
        let fix (x : Nat) : Nat := ocAdd x (65535 - ocDelta64 old cf)
        some (putBytes out at' (beBytes 2 (if len % 2 = 0 then fix last else swap16 (fix (swap16 last)))))

/-- The correction of a frame that leaves port `p` at the time `sn`: none when it is not corrected. -/
def State.tcEdit (s : State) (sn : Snap) (p inPort tsIndex : Nat) (h : Hdr) (bs : List Byte) : Option (List Byte) :=
  let m := s.rd F.RUL_PORT_CFG_TC_MODE p
  match ptpEvent h bs, h.ptp, s.tsRecs.find tsIndex with
  | some ty, some o, some r =>
    if s.on F.RUL_TC_CFG_EN 0 && (decide (m = 1) || decide (m = 2)) && decide (p < 40) && decide (inPort < 40) && decide (s.rd F.RUL_PORT_CFG_TC_MODE inPort = m)
        && decide (be bs (o + 1) 1 % 16 = 2) && decide (be bs o 1 / 16 ≠ 1) then
      match s.domainRuler (be bs (o + 4) 1) with
      | none => none
      | some t =>
        let res : Int := (((snapAt sn t).ran + s.txComp p) - r.ran.getD t 0) / 2 ^ 32
        let link : Int := if m = 2 ∧ ty = 0 then (s.rd F.RUL_PORT_CFG_LINK_DELAY inPort : Int) else 0
        let sum := toSigned 64 (be bs (o + 8) 8) + res + link
        tcWrite h bs o (if sum < -(2 ^ 63) ∨ 2 ^ 63 ≤ sum then 2 ^ 63 - 1 else ofSigned 64 sum)
    else none
  | _, _, _ => none

/-- The transparent clock at egress: the frame as it leaves, and whether it was corrected; none where it carries no PTP event message. -/
def State.tcApply (s : State) (sn : Snap) (p inPort tsIndex : Nat) (h : Hdr) (bs : List Byte) : Option Bool × List Byte :=
  match s.tcEdit sn p inPort tsIndex h bs with
  | some out => (some true, out)
  | none => (if (ptpEvent h bs).isSome then some false else none, bs)

/-- A frame has left: TC_CORRECTED, or TC_SKIP of an event message that left uncorrected (12 R278, R280). -/
def State.tcCount (s : State) (tc : Option Bool) : State :=
  match tc with
  | some true => s.bump F.RUL_CNT_COUNT 0
  | some false => s.bump F.RUL_CNT_COUNT 1
  | none => s

/-! ## Edits of the frame record -/

/-- A 16-bit checksum after a change of what it covers. -/
def fixSum (ck delta : Nat) : Nat := 65535 - ocAdd (65535 - ck) delta

/-- Routing and NAT (08 R182, R185): addresses, TTL or hop limit, IPv4 and L4 checksums. -/
def routeEdit (f : Frame) (h : Hdr) (bs : List Byte) : List Byte :=
  let o := h.l3at
  let bs := beBytes 6 f.dmac ++ beBytes 6 f.smac ++ bs.drop 12
  if h.l3 = 4 then
    let bs := putBytes bs (o + 8) (beBytes 1 (h.ttl - 1))
    let bs := putBytes bs (o + 10) (beBytes 2 (fixSum (be bs (o + 10) 2) f.ipDelta))
    if f.nat = 0 then bs
    else
      let bs := putBytes bs (if f.nat = 1 then o + 12 else o + 16) (beBytes 4 f.natAddr)
      match h.l4 with
      | some u =>
        if h.proto = 6 then putBytes bs (u + 16) (beBytes 2 (fixSum (be bs (u + 16) 2) f.l4Delta))
        else
          let ck := be bs (u + 6) 2
          let new := fixSum ck f.l4Delta
          if ck = 0 then bs else putBytes bs (u + 6) (beBytes 2 (if new = 0 then 65535 else new))
      | none => bs
  else if h.l3 = 6 then putBytes bs (o + 7) (beBytes 1 (h.ttl - 1))
  else bs

/-- ECN = 11 with the IPv4 header checksum adjusted (09 R202). -/
def ceEdit (h : Hdr) (bs : List Byte) : List Byte :=
  let o := h.l3at
  if h.l3 = 4 then
    let old := be bs o 2
    let new := old / 4 * 4 + 3
    let bs := putBytes bs o (beBytes 2 new)
    putBytes bs (o + 10) (beBytes 2 (fixSum (be bs (o + 10) 2) (ocDelta old new)))
  else if h.l3 = 6 then putBytes bs (o + 1) (beBytes 1 (be bs (o + 1) 1 ||| 0x30))
  else bs

/-- Zero bytes before the FCS up to 64 bytes in all. -/
def padTo64 (bs : List Byte) : List Byte :=
  bs.take (bs.length - 4) ++ List.replicate (64 - bs.length) 0 ++ bs.drop (bs.length - 4)

/-- The tag operation of a copy (09 R448). -/
def tagEdit (f : Frame) (op : Nat) (bs : List Byte) : List Byte :=
  match op with
  | 1 => bs.take 12 ++ beBytes 2 f.tpid ++ beBytes 2 (f.cls * 8192 + b2n f.yellow * 4096 + f.newVid) ++ bs.drop 12
  | 2 => padTo64 (bs.take 12 ++ bs.drop 16)
  | 3 => putBytes bs 14 (beBytes 2 (be bs 14 2 / 4096 * 4096 + f.newVid))
  | _ => bs

/-- The VLAN tags in front of a frame. -/
def tagCount (cTpid sTpid : Nat) (bs : List Byte) : Nat := (parseEth cTpid sTpid false bs).tags

/-- The RCT or HSR tag of a copy towards a pair (13 R289, R290). -/
def State.redEdit (s : State) (p seq : Nat) (bs : List Byte) : List Byte :=
  let n := tagCount (s.rd F.PP_TPID_C_TPID 0) (s.rd F.PP_TPID_S_TPID 0) bs
  match s.redMode p with
  | 1 => addRct bs n seq (if p % 2 = 0 then 0xA else 0xB)
  | 2 => addHsr bs n seq (p % 2)
  | _ => bs

/-- A frame as it leaves port `p` in plaintext at the time `sn`, from the bytes held in Inkwell: every edit of its record and of its
copy. The FCS is recomputed when one applied. Beside it, what the transparent clock did. -/
def State.egressBytes (s : State) (sn : Snap) (p : Nat) (f : Frame) (ed : CopyEd) : Option Bool × List Byte :=
  if ed.plain then (none, f.bytes)
  else
    let i := pipeOf f.inPort
    let h := parseEth (s.rd F.PP_TPID_C_TPID i) (s.rd F.PP_TPID_S_TPID i) false f.bytes
    let b := if f.routed then routeEdit f h f.bytes else f.bytes
    let b := if f.ecnCe then ceEdit h b else b
    let r := s.tcApply sn p f.inPort f.tsIndex h b
    let b := tagEdit f ed.tagop r.2
    let b := match ed.red with | some q => s.redEdit p q b | none => b
    (r.1, if b = f.bytes then b else refreshFcs b)

end Sys2Proof.Machine
end

