-- ==== Sys2Proof/Machine/Nsl.lean ====
section
/-! DEFINITION. Network sleep and wake (spec 19): networks, presence messages, maximum awake time, and the wake sources of the
AOC. -/
namespace Sys2Proof.Machine

/-- Network `k` runs: the block is enabled, and so is the network, by the rules of R383. -/
def State.netOn (s : State) (k : Nat) : Bool := s.on F.NSL_CTL_EN 0 && s.nslOn.testBit k

/-- Port `p` is a member of network `k`. -/
def State.netHas (s : State) (k p : Nat) : Bool := s.bit F.NSL_NET_MEMBERS k p

/-- The members of network `k`. -/
def State.netMembers (s : State) (k : Nat) : List Nat := (List.range 64).filter (s.netHas k)

/-- MEMBERS keeps the rules of R383: ports of the network's KIND, in no other running network. -/
def State.netValid (s : State) (k : Nat) : Bool :=
  (s.netMembers k).all (fun p =>
    (if s.on F.NSL_NET_KIND k then decide (p < 40) || decide (s.pers (p - 40) = 2)
     else decide (40 ≤ p) && decide (s.pers (p - 40) = 1))
    && (List.range 16).all (fun j => decide (j = k) || !(s.nslOn.testBit j && s.netHas j p)))

/-- Local need (19 R386). -/
def State.localNeed (s : State) (k : Nat) : Bool := s.on F.NSL_NET_LOCAL_NEED k || s.on F.NSL_NET_HOLDING k

/-- T_PRES_MS as it acts. -/
def State.tPres (s : State) (k : Nat) : Nat := max 10 (s.rd F.NSL_NET_T_PRES_MS k)

/-! ## Sending presence (19 R384, R386) -/

/-- The flags sent under local need: NEED_BUS, WOKE_NET after a wake, and LOCAL_FLAGS in bits [7:2]. -/
def State.presFlags (s : State) (k : Nat) (woke : Bool) : Nat := 1 + 2 * b2n woke + 4 * s.rd F.NSL_NET_LOCAL_FLAGS k

/-- An Ethernet presence message up to its FCS. -/
def presFrame (k sa etype node flags : Nat) : List Byte :=
  beBytes 6 (0x0356474E5300 + k) ++ beBytes 6 sa ++ beBytes 2 etype ++ [1] ++ beBytes 1 node ++ beBytes 1 flags ++ beBytes 1 k ++ beBytes 42 0

/-- A frame of the device's own, up to its FCS, goes out on Ethernet port `p`: protected where the port has TX_PROTECT (15 R326, R328),
and counted as a data frame (04 R84). A frame that protection blocks is not sent; the answer says whether it was. -/
def State.sendOwn (s : State) (p : Nat) (body : List Byte) : State × Bool :=
  let m : State × Option (List Byte) := if s.cipTx p then s.macsecTx p (withFcs body) else (s, some (withFcs body))
  match m.2 with
  | none => (m.1, false)
  | some out =>
    let s := ((m.1.send p (out.take (out.length - 4))).bumpBy F.ETH_CNT_COUNT (29 * p + 17) out.length).ethCnt p 18
    (if (beNat (body.take 6)).testBit 40 then s.ethCnt p 19 else s, true)

/-- A presence message of network `k` goes out on member `p`: at once on an Ethernet port that sends and whose link is up; on a lane it
awaits the next bus idle or opportunity. -/
def State.presOn (s : State) (k : Nat) (woke : Bool) (p : Nat) : State :=
  let node := s.rd F.NSL_NET_MY_NODE k
  let flags := s.presFlags k woke
  if p < 40 then
    if s.on F.ETH_STAT_LINK p && s.txOn p && !s.dozing then
      match s.sendOwn p (presFrame k (s.rd F.ETH_MAC_ADDR_ADDR p) (s.rd F.NSL_ETYPE_ETYPE 0) node flags) with
      | (s, true) => s.bump F.NSL_CNT_COUNT 1
      | (s, false) => s
    else s
  else if s.pers (p - 40) = 2 then
    s.setT1s (p - 40) { s.t1sLane (p - 40) with presDue := some (presFrame k 0 (s.rd F.NSL_ETYPE_ETYPE 0) node flags) }
  else
    let id := min 0x7C0 (s.rd F.NSL_NET_ID_BASE k) + node % 64
    s.setCan (p - 40) { s.canLane (p - 40) with
      presDue := some (laneBytes (p - 40) 1 0 0 id 0 0xFFFF (beBytes 1 node ++ beBytes 1 flags)), presOut := false }

/-- A presence message goes out on every member port. -/
def State.presSend (s : State) (k : Nat) (woke : Bool) : State := (s.netMembers k).foldl (fun t p => t.presOn k woke p) s

/-- PRESENCE_SEND: every T_PRES under local need, while the network is awake. -/
def execPresenceSend (k : Fin 16) (s : State) : Out :=
  .next (if s.netOn k && s.localNeed k && !s.dozing && decide (s.rd F.NSL_NET_STATE k = 0) then s.presSend k false else s)

/-! ## States (19 R387 to R389) -/

/-- STATE of a network; ASLEEP of NSL_STAT shows it. -/
def State.netTo (s : State) (k st : Nat) : State := (s.wr F.NSL_NET_STATE k st).putBit F.NSL_STAT_ASLEEP 0 k (decide (st = 2))

/-- The members of a network that was ASLEEP resume. -/
def State.netResume (s : State) (k : Nat) : State :=
  (s.netMembers k).foldl (fun t p =>
    if p < 40 then (if t.on F.ETH_STAT_LINK p then t.queuesUp p else t) else t.laneResume (p - 40)) s

/-- A network returns to AWAKE. -/
def State.netAwake (s : State) (k : Nat) : State :=
  if s.rd F.NSL_NET_STATE k = 2 then (s.netTo k 0).netResume k else s.netTo k 0

/-- A network wake (19 R387, R389): LAST_WAKE; from PREPARE_SLEEP or ASLEEP to AWAKE with HOLDING and presence with
WOKE_NET. -/
def State.netWake (s : State) (k code idx : Nat) : State :=
  if !s.netOn k then s
  else
    let st := s.rd F.NSL_NET_STATE k
    let s := (s.wr F.NSL_NET_WAKE_CODE k code).wr F.NSL_NET_WAKE_IDX k idx
    if st = 0 then s
    else
      let s := (s.netAwake k).wr F.NSL_NET_HOLDING k 1
      let s := if st = 2 then (s.bump F.NSL_CNT_COUNT 6).evt F.NSL_STAT_NET_WAKE_EVT 0 else s
      s.presSend k true

/-- The running networks that port `p` belongs to. -/
def State.netsOf (s : State) (p : Nat) : List Nat := (List.range 16).filter (fun k => s.netOn k && s.netHas k p)

/-- A wake of a member port or lane: the networks it sleeps in wake (19 R388). -/
def State.memberWake (s : State) (p code idx : Nat) : State :=
  (s.netsOf p).foldl (fun t k => if t.rd F.NSL_NET_STATE k = 2 then t.netWake k code idx else t) s

/-- A network starts: AWAKE with HOLDING, and presence is sent at once (19 R386, R390). -/
def State.netStart (s : State) (k : Nat) : State := ((s.netTo k 0).wr F.NSL_NET_HOLDING k 1).presSend k false

/-- Network `k` was configured: its EN, KIND or MEMBERS written (19 R383, R387). -/
def State.netConfigured (s : State) (k : Nat) : State :=
  let want := s.on F.NSL_NET_EN k && s.netValid k
  let was := s.nslOn.testBit k
  if want && !was then
    let s := { s with nslOn := setBitN s.nslOn k }
    if s.on F.NSL_CTL_EN 0 then s.netStart k else s
  else if !want && was then
    let s := s.netAwake k
    { s with nslOn := clrBitN s.nslOn k }
  else s

/-- NSL_CTL.EN was written: networks start, or return to AWAKE (NSL_CTL). -/
def State.nslEnabled (s : State) (was : Bool) : State :=
  let now := s.on F.NSL_CTL_EN 0
  let ks := (List.range 16).filter (fun k => s.nslOn.testBit k)
  if now && !was then ks.foldl State.netStart s
  else if !now && was then ks.foldl State.netAwake s
  else s

/-- LOCAL_NEED of network `k` is written (19 R386): a rise of local need sends presence at once and is a network wake. -/
def execLocalNeedWrite (k : Fin 16) (need : Bool) (s : State) : Out :=
  let was := s.localNeed k
  let s := s.wrb F.NSL_NET_LOCAL_NEED k need
  .next (if need && !was && s.netOn k then
    (if s.rd F.NSL_NET_STATE k = 0 then (s.netWake k 8 0).presSend k false else s.netWake k 8 0)
  else s)

/-- T_QUIET has passed since the last counted presence, without local need (19 R387). -/
def execQuietTimeout (k : Fin 16) (s : State) : Out :=
  .next (if s.netOn k && !s.localNeed k && decide (s.rd F.NSL_NET_STATE k = 0) && !s.dozing then s.netTo k 1 else s)

/-- The need run of node entry `i` ends (19 R391). -/
def State.needEnd (s : State) (i : Nat) : State := (s.wr F.NSL_NODE_NEED i 0).wr F.NSL_NODE_CAPPED i 0

/-- The entries of network `k`. -/
def State.nodesOf (s : State) (k : Nat) : List Nat :=
  (s.nslNodes.map Prod.fst).filter (fun i => s.on F.NSL_NODE_VALID i && decide (s.rd F.NSL_NODE_NET i = k))

/-- A member is put to sleep (19 R388); its link counts as down for its queues. -/
def State.memberSleep (s : State) (p : Nat) : State :=
  if p < 40 then
    let s := s.portSleep p
    if s.on F.ETH_STAT_LINK p then s.queuesDown p false else s
  else s.laneStandby (p - 40)

/-- T_WAIT ends: the commit point (19 R387). -/
def execTWaitExpiry (k : Fin 16) (s : State) : Out :=
  if s.netOn k && decide (s.rd F.NSL_NET_STATE k = 1) && !s.dozing then
    let s := s.netTo k 2
    let s := (s.netMembers k).foldl State.memberSleep s
    let s := (s.nodesOf k).foldl State.needEnd s
    let s := (s.bump F.NSL_CNT_COUNT 5).evt F.NSL_STAT_NET_SLEEP_EVT 0
    let all := (List.range 16).all (fun j => !s.netOn j || decide (s.rd F.NSL_NET_STATE j = 2))
    .next (if all then s.evt F.NSL_STAT_ALL_ASLEEP_EVT 0 else s)
  else .next s

/-- A network wake of R389, with its code and index. -/
def execNetworkWake (k : Fin 16) (code : BitVec 4) (idx : BitVec 8) (s : State) : Out := .next (s.netWake k code.toNat idx.toNat)

/-- HOLD_MS has passed since the wake: HOLDING clears (19 R387). -/
def execHoldExpiry (k : Fin 16) (s : State) : Out := .next (s.wr F.NSL_NET_HOLDING k 0)

/-! ## Presence received (19 R385, R391) -/

/-- The entry of a node, or the lowest free one. -/
def State.nodeSlot (s : State) (k node : Nat) : Option Nat :=
  match firstIdx (fun i => s.on F.NSL_NODE_VALID i && decide (s.rd F.NSL_NODE_NET i = k) && decide (s.rd F.NSL_NODE_NODE i = node)) 0 256 with
  | some i => some i
  | none => firstIdx (fun i => !s.on F.NSL_NODE_VALID i) 0 256

/-- A presence message of a node is entered in NSL_NODE. -/
def State.nodeSeen (s : State) (k p node flags : Nat) : State :=
  match s.nodeSlot k node with
  | none => (s.bump F.NSL_CNT_COUNT 4).evt F.NSL_STAT_NODE_FULL_EVT 0
  | some i =>
    let old := s.nslNodes.get ⟨s.now, s.now, false⟩ i
    let starts := flags.testBit 0 && !s.on F.NSL_NODE_NEED i && s.on F.NSL_NET_MAX_AWAKE_S k
    let s := ((s.wr F.NSL_NODE_VALID i 1).wr F.NSL_NODE_NET i k).wr F.NSL_NODE_NODE i node
    let s := (s.wr F.NSL_NODE_FLAGS i flags).wr F.NSL_NODE_PORT i p
    let s := { s with nslNodes := s.nslNodes.put i (if starts then ⟨s.now, s.now, false⟩ else { old with last := s.now }) }
    if starts then s.wr F.NSL_NODE_NEED i 1 else if !flags.testBit 0 then s.needEnd i else s

/-- A node is CAPPED. -/
def State.nodeCapped (s : State) (k node : Nat) : Bool :=
  (s.nodesOf k).any (fun i => decide (s.rd F.NSL_NODE_NODE i = node) && s.on F.NSL_NODE_CAPPED i)

/-- A presence message of network `k` received on member `p`; one that counts is a network wake (19 R385, R389). -/
def State.presRx (s : State) (k p node flags : Nat) : State :=
  if !s.netOn k || !s.netHas k p then s
  else
    let s := (s.bump F.NSL_CNT_COUNT 0).nodeSeen k p node flags
    let counted := flags.testBit 0 && decide (node ≠ s.rd F.NSL_NET_MY_NODE k) && !s.nodeCapped k node
    if counted then s.netWake k 9 node else s

/-- PRESENCE_RX. -/
def execPresenceRx (k : Fin 16) (p : Fin 64) (node flags : BitVec 8) (s : State) : Out :=
  .next (if s.dozing then s else s.presRx k p node.toNat flags.toNat)

/-- NODE_ENTRY_EXPIRY: 10 * T_PRES without presence free the entry. -/
def execNodeEntryExpiry (i : Fin 256) (s : State) : Out :=
  let fs := [F.NSL_NODE_VALID, F.NSL_NODE_NEED, F.NSL_NODE_CAPPED, F.NSL_NODE_NET, F.NSL_NODE_NODE, F.NSL_NODE_FLAGS, F.NSL_NODE_PORT]
  .next (fs.foldl (fun (t : State) f => t.wr f i 0) { s with nslNodes := s.nslNodes.erase i })

/-- NEED_RUN_TIMEOUT: 3 * T_PRES without any presence end the node's run. -/
def execNeedRunTimeout (i : Fin 256) (s : State) : Out := .next (s.needEnd i)

/-! ## Maximum awake time (19 R392) -/

/-- An enabled NSL_EXEMPT entry names the node. -/
def State.exempt (s : State) (k node : Nat) : Bool :=
  (List.range 32).any (fun j => s.on F.NSL_EXEMPT_EN j && decide (s.rd F.NSL_EXEMPT_NET j = k) && decide (s.rd F.NSL_EXEMPT_NODE j = node))

/-- One NSL_LOG entry. -/
def State.nslLog (s : State) (enforced : Bool) (k node flags port dur : Nat) : State :=
  let m := s.rd F.NSL_LOG_HEAD_HEAD 0
  let s := if s.on F.NSL_LOG_VALID m then s.wr F.NSL_LOG_HEAD_WRAPPED 0 1 else s
  let s := ((s.wr F.NSL_LOG_VALID m 1).wrb F.NSL_LOG_ENFORCED m enforced).wr F.NSL_LOG_NET m k
  let s := ((s.wr F.NSL_LOG_NODE m node).wr F.NSL_LOG_FLAGS m flags).wr F.NSL_LOG_PORT m port
  ((s.wr F.NSL_LOG_DURATION_S m dur).wr F.NSL_LOG_T0_SEC m s.t0Sec).wr F.NSL_LOG_HEAD_HEAD 0 (m + 1)

/-- A node's need run exceeds MAX_AWAKE_S: it is capped or logged, once per run. -/
def execMaxAwakeExceeded (i : Fin 256) (s : State) : Out :=
  let x := s.nslNodes.get ⟨s.now, s.now, false⟩ i
  if s.on F.NSL_NODE_VALID i && s.on F.NSL_NODE_NEED i && !x.logged then
    let k := s.rd F.NSL_NODE_NET i
    let node := s.rd F.NSL_NODE_NODE i
    let port := s.rd F.NSL_NODE_PORT i
    let cap := s.on F.NSL_NET_ENFORCE k && !s.exempt k node
    let s := { s with nslNodes := s.nslNodes.put i { x with logged := true } }
    let s := if cap then (s.wr F.NSL_NODE_CAPPED i 1).bump F.NSL_CNT_COUNT 2 else s.bump F.NSL_CNT_COUNT 3
    let dur := max (s.rd F.NSL_NET_MAX_AWAKE_S k) ((s.now - x.since) / (1000 * ticksMs))
    let s := (s.nslLog cap k node (s.rd F.NSL_NODE_FLAGS i) port dur).evt F.NSL_STAT_OFFENDER_EVT 0
    .next (s.reportX (0x090 + port) (elemId 0 port))
  else .next s

/-- NSL_CTL.CNT_CLR. -/
def execNslCntClr (s : State) : Out := .next (s.clearFld F.NSL_CNT_COUNT)

/-! ## Wake sources of the AOC (19 R393) -/

/-- WAKE_IN `n` has been active for FILT_MS: a wake of the device and of the networks of its mask. -/
def execWakeInActive (n : Fin 8) (s : State) : Out :=
  let s := if s.wakeInEnabled n && s.wakeable then s.aocWake 2 n else s
  .next ((List.range 16).foldl (fun t k =>
    if t.bit F.NSL_NET_WAKE_IN k n && t.netOn k && !t.dozing then t.netWake k 2 n else t) s)

/-- The RTC reaches ALARM. -/
def execRtcAlarm (s : State) : Out :=
  .next (if s.on F.AOC_WAKE_EN_RTC 0 && s.on F.AOC_RTC_ALARM_SEC 0 && s.wakeable then s.aocWake 5 0 else s)

end Sys2Proof.Machine
end

