-- ==== Sys2Proof/Machine/Ports.lean ====
section
/-! DEFINITION. Ethernet ports (spec 04): link, SerDes, PAUSE and PFC, low-power idle, Taper and wake patterns. -/
namespace Sys2Proof.Machine

/-! ## Flow control sent (04 R88) -/

/-- Cells, plus 8 for a Reservoir block, held by frames that entered on port `p` and whose class satisfies `c`. -/
def State.heldCells (s : State) (p : Nat) (c : Nat → Bool) : Nat :=
  s.frames.foldl (fun n e => if e.2.inPort = p ∧ c e.2.cls = true then n + e.2.cells.length else n) 0
    + s.queues.foldl (fun n e =>
        if e.2.mid.any (fun m => decide (m.frame.inPort = p) && c m.frame.cls) then n + 8 * e.2.blocks.length else n) 0

/-- A MAC control frame up to its FCS: opcode and operands, padded to 60 bytes. -/
def ctrlFrame (sa : Nat) (body : List Byte) : List Byte :=
  let h := beBytes 6 0x0180C2000001 ++ beBytes 6 sa ++ beBytes 2 0x8808 ++ body
  h ++ List.replicate (60 - h.length) 0

/-- A PAUSE frame of a time goes out. -/
def State.sendPause (s : State) (p quanta : Nat) : State :=
  (s.send p (ctrlFrame (s.rd F.ETH_MAC_ADDR_ADDR p) (beBytes 2 0x0001 ++ beBytes 2 quanta))).ethCnt p 21

/-- A PFC frame goes out: the classes of `on` with PAUSE_QUANTA, those of `off` with time 0. -/
def State.sendPfc (s : State) (p on off : Nat) : State :=
  let q := s.rd F.ETH_FC_CFG_PAUSE_QUANTA p
  (s.send p (ctrlFrame (s.rd F.ETH_MAC_ADDR_ADDR p)
    (beBytes 2 0x0101 ++ beBytes 2 (on ||| off) ++ (List.range 8).flatMap (fun c => beBytes 2 (if on.testBit c then q else 0))))).ethCnt p 22

/-- The port generates PAUSE or PFC frames: TX_EN, a mode, XON below XOFF and a time above 0; a port that sleeps sends idles only (R98). -/
def State.fcSends (s : State) (p : Nat) : Bool :=
  s.on F.ETH_FC_CFG_TX_EN p && s.on F.ETH_STAT_LINK p && s.portLive p && decide (s.rd F.ETH_FC_THR_XON_CELLS p < s.rd F.ETH_FC_THR_XOFF_CELLS p)
    && s.on F.ETH_FC_CFG_PAUSE_QUANTA p && (decide (s.rd F.ETH_FC_CFG_MODE p = 1) || decide (s.rd F.ETH_FC_CFG_MODE p = 2))

/-- The classes among the PFC classes that satisfy `g` of their count. -/
def State.fcMask (s : State) (p : Nat) (g : Nat → Nat → Bool) : Nat :=
  (List.range 8).foldl (fun m c =>
    if s.bit F.ETH_FC_CFG_PFC_CLASSES p c && g c (s.heldCells p (fun x => decide (x = c))) then setBitN m c else m) 0

/-- XOFF when the count has risen above XOFF_CELLS, XON when it has fallen to XON_CELLS (04 R88). -/
def State.fcCheck (s : State) (p : Nat) : State :=
  if 40 ≤ p ∨ s.fcSends p = false then s
  else
    let x := s.port p
    let hi := s.rd F.ETH_FC_THR_XOFF_CELLS p
    let lo := s.rd F.ETH_FC_THR_XON_CELLS p
    if s.rd F.ETH_FC_CFG_MODE p = 1 then
      let n := s.heldCells p (fun _ => true)
      if x.xoff = 0 ∧ hi < n then (s.setPort p { x with xoff := 255 }).sendPause p (s.rd F.ETH_FC_CFG_PAUSE_QUANTA p)
      else if x.xoff ≠ 0 ∧ n ≤ lo then (s.setPort p { x with xoff := 0 }).sendPause p 0
      else s
    else
      let on := s.fcMask p (fun c n => decide (hi < n) && !x.xoff.testBit c)
      let off := s.fcMask p (fun c n => decide (n ≤ lo) && x.xoff.testBit c)
      if on = 0 ∧ off = 0 then s
      else (s.setPort p { x with xoff := (List.range 8).foldl (fun m c =>
        if on.testBit c then setBitN m c else if off.testBit c then clrBitN m c else m) x.xoff }).sendPfc p on off

/-- Half of PAUSE_QUANTA has elapsed and the count stays above XON_CELLS: the frame is repeated. -/
def execPauseRepeat (p : Fin 40) (s : State) : Out :=
  let x := s.port p
  let lo := s.rd F.ETH_FC_THR_XON_CELLS p
  .next (if !s.fcSends p || decide (x.xoff = 0) then s
    else if s.rd F.ETH_FC_CFG_MODE p = 1 then
      (if lo < s.heldCells p (fun _ => true) then s.sendPause p (s.rd F.ETH_FC_CFG_PAUSE_QUANTA p) else s)
    else
      let on := s.fcMask p (fun c n => decide (lo < n) && x.xoff.testBit c)
      if on = 0 then s else s.sendPfc p on 0)

/-! ## Taper (04 R92 to R96) -/

/-- The sum of the idle slopes of the port's credit-based shapers, in units of 16 kbit/s. -/
def State.slopeSum (s : State) (p : Nat) : Nat :=
  (List.range 8).foldl (fun n c => if s.bit F.QUE_SCHED_CBS_EN p c then n + s.rd F.QUE_CBS_IDLE_SLOPE (8 * p + c) else n) 0

/-- The shaper reservations exceed 10 Gb/s. -/
def State.slopesOver (s : State) (p : Nat) : Bool := decide (10000000 < 16 * s.slopeSum p)

/-- FORCE as it acts: 3 acts as 0. -/
def State.taperForce (s : State) (p : Nat) : Nat := if s.rd F.ETH_TAPER_CTL_FORCE p = 3 then 0 else s.rd F.ETH_TAPER_CTL_FORCE p

/-- Taper is possible on the port: a trunk port in mode 1 with Taper allowed. -/
def State.taperPort (s : State) (p : Nat) : Bool :=
  decide (p < 8) && decide (s.rd F.ETH_MODE_MODE p = 1) && s.on F.ETH_MODE_TAPER_ALLOWED p

/-- EN is 1, FORCE is 0, PEER is 1, TAPER_FLOOR is at or below TAPER_CEIL and the link is up. -/
def State.taperReady (s : State) (p : Nat) : Bool :=
  s.taperPort p && s.on F.ETH_TAPER_CTL_EN p && decide (s.taperForce p = 0) && s.on F.ETH_STAT_PEER p && s.on F.ETH_STAT_LINK p
    && decide (s.rd F.ETH_TAPER_CTL_TAPER_FLOOR p ≤ s.rd F.ETH_TAPER_CTL_TAPER_CEIL p)

/-- The loop runs (04 R92): also, the device is in TRIM. -/
def State.taperLoop (s : State) (p : Nat) : Bool := s.taperReady p && decide (s.rd F.PWR_STAT_STATE 0 = 1) && s.portLive p

/-- A Taper frame up to its FCS (04 R95). -/
def State.taperFrame (s : State) (p op : Nat) (seqRate : Byte × Byte × Byte) (flags reason : Nat) : List Byte :=
  let dev := [F.GLB_DEV_REV_MAJOR, F.GLB_DEV_REV_MINOR, F.GLB_DEV_REV_METAL, F.GLB_DEV_REV_PD_REV].flatMap (fun f => beBytes 1 (s.rd f 0))
  beBytes 6 0x0180C200000E ++ beBytes 6 (s.rd F.ETH_MAC_ADDR_ADDR p) ++ beBytes 2 (s.rd F.ETH_TAPER_ETYPE_ETYPE 0)
    ++ [1] ++ beBytes 1 op ++ [seqRate.1, seqRate.2.1, seqRate.2.2] ++ beBytes 1 flags ++ beBytes 1 reason ++ beBytes 3 0
    ++ beBytes 4 (s.rd F.GLB_DEV_ID_ID 0) ++ dev ++ beBytes 28 0

/-- PROPOSE, ACCEPT or REFUSE goes out. -/
def State.taperSend (s : State) (p op seq rate flags reason : Nat) : State :=
  s.send p (s.taperFrame p op (BitVec.ofNat 8 (seq / 256), BitVec.ofNat 8 seq, BitVec.ofNat 8 rate) flags reason)

/-- MONITOR, or SUSPENDED while the loop is not running. -/
def State.taperIdle (s : State) (p : Nat) : State :=
  (s.setPort p { s.port p with lows := 0, lastLow := false }).taperTo p (if s.taperLoop p then 1 else 0)

/-- A PROPOSE of a rate (04 R96). -/
def State.propose (s : State) (p rate flags : Nat) : State :=
  let x := s.port p
  let n := (x.seq + 1) % 2 ^ 16
  ((s.setPort p { x with seq := n, propRate := rate, propFlags := flags, resends := 0 }).taperTo p 2).taperSend p 1 n rate flags 0

/-- A bound proposal is due and allowed (04 R92, R94). -/
def State.boundDue (s : State) (p : Nat) : Bool :=
  let rate := s.rd F.ETH_TAPER_STAT_RATE p
  let ceil := s.rd F.ETH_TAPER_CTL_TAPER_CEIL p
  let quiet := match (s.port p).boundRefused with
    | some (r, t) => decide (r ≠ ceil) || decide (t + s.rd F.ETH_TAPER_DWELL_DWELL_MS p * ticksMs ≤ s.now)
    | none => true
  s.taperReady p && s.portLive p && quiet && (decide (ceil = 1) || decide (ceil = 2))
    && (decide (ceil < rate) || (decide (s.rd F.PWR_STAT_STATE 0 = 0) && decide (rate < ceil)))
    && (decide (ceil = 2) || (decide (s.rd F.ETH_TAPER_CTL_TAPER_FLOOR p = 1) && !s.slopesOver p))

/-- A queue of the port holds more than UP_CELLS cells. -/
def State.upCells (s : State) (p : Nat) : Bool :=
  (List.range 8).any (fun c => decide (s.rd F.ETH_TAPER_DWELL_UP_CELLS p < s.depthCells (8 * p + c) + 8 * s.depthBlocks (8 * p + c)))

/-- A forced PROPOSE goes out (04 R94): no retrain runs, and a peer is there to judge it. -/
def State.forceReady (s : State) (p : Nat) : Bool :=
  (s.port p).forceDue && decide (s.taperForce p ≠ 0) && s.on F.ETH_STAT_PEER p && s.on F.ETH_STAT_LINK p && s.portLive p

/-- What the loop does at once (04 R92, R93, R96): it starts or suspends, sends a forced proposal, makes a bound proposal, or proposes
25G for a full queue or a shaper reservation. -/
def State.taperService (s : State) (p : Nat) : State :=
  if !s.taperPort p then s
  else
    let st := s.rd F.ETH_TAPER_STAT_STATE p
    let s := if st ≤ 1 ∧ (st = 1) ≠ (s.taperLoop p = true) then s.taperIdle p else s
    let st := s.rd F.ETH_TAPER_STAT_STATE p
    if 1 < st then s
    else if s.forceReady p then (s.setPort p { s.port p with forceDue := false }).propose p (s.taperForce p) 1
    else if s.boundDue p then s.propose p (s.rd F.ETH_TAPER_CTL_TAPER_CEIL p) 4
    else if st = 1 ∧ s.rd F.ETH_TAPER_STAT_RATE p = 1 ∧ s.rd F.ETH_TAPER_CTL_TAPER_CEIL p = 2 ∧ (s.upCells p || s.slopesOver p) = true then
      s.propose p 2 0
    else s

/-- PEER is lost, EN is cleared, FORCE is written or the device leaves TRIM: any state but RETRAIN is SUSPENDED; a HOLD
resumes at the current rate. -/
def State.taperSuspend (s : State) (p : Nat) : State :=
  if s.rd F.ETH_TAPER_STAT_STATE p = 4 then s else (s.setPort p { s.port p with lows := 0, lastLow := false }).taperTo p 0

/-- The answer to a proposal (04 R94): 0 accepts, else the REFUSE reason.
DESIGN CHOICE: a port whose own FORCE names the other rate refuses with reason 3, a proposal of 25G with CEIL 25G included: R94 accepts
25G by CEIL alone, and only code 3 of LAST_REFUSE speaks of a forced port. A RATE other than 10G and 25G is refused with reason 1. -/
def State.taperJudge (s : State) (p rate flags : Nat) : Nat :=
  if !s.on F.ETH_TAPER_CTL_EN p || !s.on F.ETH_STAT_PEER p || !s.taperPort p then 4
  else if s.taperForce p ≠ 0 ∧ s.taperForce p ≠ rate then 3
  else if rate = 2 then (if s.rd F.ETH_TAPER_CTL_TAPER_CEIL p = 2 then 0 else 1)
  else if rate ≠ 1 then 1
  else if s.rd F.ETH_TAPER_CTL_TAPER_FLOOR p ≠ 1 then 1
  else if s.slopesOver p then 2
  else if flags.testBit 0 || flags.testBit 2 then 0
  else if !s.taperLoop p then 4
  else if !(s.port p).lastLow then 5
  else 0

/-- A proposal is answered: ACCEPT and HOLD, or REFUSE. A refusal leaves the state, or after a lost contest returns to
MONITOR or SUSPENDED. DESIGN CHOICE: the REFUSE of a contest's loser counts TAPER_REFUSED too; the table of R96 names the count only in
the row for SUSPENDED and MONITOR. -/
def State.taperAnswer (s : State) (p seq rate flags : Nat) (lost : Bool) : State :=
  let r := s.taperJudge p rate flags
  if r = 0 then ((s.setPort p { s.port p with newRate := rate }).taperTo p 3).taperSend p 2 seq rate 0 0
  else
    let s := ((s.taperSend p 3 seq rate 0 r).ethCnt p 27).evt F.ETH_STAT_TAPER_EVT p
    if lost then s.taperIdle p else s

/-- TAPER_PROPOSE_RX (04 R96). DESIGN CHOICE: a PROPOSE in HOLD or RETRAIN, for which the table has no row, is ignored without an answer;
in PROPOSED with EN 0, as after a forced proposal, a PROPOSE of the same rate gets the table's ACCEPT, not R94's REFUSE with reason 4. -/
def State.taperProposed (s : State) (p seq rate flags : Nat) : State :=
  let x := s.port p
  match s.rd F.ETH_TAPER_STAT_STATE p with
  | 0 => s.taperAnswer p seq rate flags false
  | 1 => s.taperAnswer p seq rate flags false
  | 2 =>
    if rate = x.propRate then ((s.setPort p { x with newRate := rate }).taperTo p 3).taperSend p 2 seq rate 0 0
    else
      let mine := x.propFlags.testBit 2
      let theirs := flags.testBit 2
      let win := if mine != theirs then mine else decide (x.propRate = 2)
      if win then s else s.taperAnswer p seq rate flags true
  | _ => s

/-- TAPER_ACCEPT_RX: the SEQ must match. -/
def State.taperAccepted (s : State) (p seq : Nat) : State :=
  let x := s.port p
  if s.rd F.ETH_TAPER_STAT_STATE p = 2 ∧ seq = x.seq then (s.setPort p { x with newRate := x.propRate }).taperTo p 3 else s

/-- A proposal failed, by a REFUSE or without an answer: the reason is recorded and dwell restarts. Only a REFUSE holds back a bound
proposal of its rate (R92). -/
def State.taperGiveUp (s : State) (p reason : Nat) (refused : Bool) : State :=
  let x := s.port p
  let s := s.setPort p { x with
    dwell := some s.now, boundRefused := if refused && x.propFlags.testBit 2 then some (x.propRate, s.now) else x.boundRefused }
  ((s.wr F.ETH_TAPER_STAT_LAST_REFUSE p reason).evt F.ETH_STAT_TAPER_EVT p).taperIdle p

/-- TAPER_REFUSE_RX. -/
def State.taperRefused (s : State) (p reason : Nat) : State :=
  if s.rd F.ETH_TAPER_STAT_STATE p = 2 then s.taperGiveUp p reason true else s

/-- A frame for the MAC of port `p` acts; on a port that sleeps it counts RX_DOZE_DISCARD (R98). -/
def State.macFrame (s : State) (p : Nat) (act : State → State) : State :=
  if s.portLive p then act s else if s.on F.ETH_STAT_LINK p then s.ethCnt p 15 else s

/-- A HELLO from a Vangino device (04 R85). -/
def State.helloRx (s : State) (p devId : Nat) : State :=
  if p < 8 ∧ s.rd F.ETH_MODE_MODE p = 1 ∧ s.on F.ETH_CTL_PEER_OFF p = false ∧ s.on F.ETH_STAT_LINK p = true ∧ devId / 65536 = 0x5647 then
    (s.setPeer p true).taperService p
  else s

/-- A received Taper frame, by its OP (04 R95). -/
def State.taperRx (s : State) (p : Nat) (bs : List Byte) : State :=
  let b (i n : Nat) : Nat := beNat ((bs.drop i).take n)
  if 8 ≤ p then s
  else match b 15 1 with
    | 1 => s.taperProposed p (b 16 2) (b 18 1) (b 19 1)
    | 2 => s.taperAccepted p (b 16 2)
    | 3 => s.taperRefused p (b 20 1)
    | 5 => s.helloRx p (b 24 4)
    | _ => s

/-- A HELLO goes out on a trunk port in mode 1 whose link is up, unless PEER_OFF is 1 (04 R85). No rule states its SEQ and
RATE. -/
def State.helloSend (s : State) (p : Nat) : State :=
  if p < 8 ∧ s.rd F.ETH_MODE_MODE p = 1 ∧ s.on F.ETH_CTL_PEER_OFF p = false ∧ s.on F.ETH_STAT_LINK p = true ∧ s.portLive p = true then
    let n := s.freeCtr
    let bs := s.taperFrame p 5 (Config.openByte n, Config.openByte (n + 1), Config.openByte (n + 2)) (2 * s.rd F.ETH_MODE_TAPER_ALLOWED p) 0
    { s.send p bs with freeCtr := n + 3 }
  else s

/-- TAPER_HELLO_SEND. -/
def execTaperHelloSend (p : Fin 8) (s : State) : Out := .next (s.helloSend p)

/-- TAPER_HELLO_RX. -/
def execTaperHelloRx (p : Fin 8) (devId : Word) (s : State) : Out := .next (s.macFrame p (fun t => t.helloRx p devId.toNat))

/-- 300 ms without a HELLO, or PEER_OFF: PEER clears (04 R85). -/
def State.peerLost (s : State) (p : Nat) : State := (s.setPeer p false).taperSuspend p

/-- PEER_TIMEOUT. -/
def execPeerTimeout (p : Fin 8) (s : State) : Out := .next (s.peerLost p)

/-- A utilisation window ends (04 R93): the bits sent and received in it, preamble and gap counted. -/
def execTaperWindowEnd (p : Fin 8) (txBits rxBits : Nat) (s : State) : Out :=
  let x := s.port p
  let win := max 100 (s.rd F.ETH_TAPER_THR_WIN_US p)
  let n := max txBits rxBits
  let low := decide (n * 100 < s.rd F.ETH_TAPER_THR_DOWN_PCT p * 25000 * win)
  let high := decide (s.rd F.ETH_TAPER_THR_UP_PCT p * 10000 * win < n * 100)
  if s.rd F.ETH_TAPER_STAT_STATE p = 1 ∧ s.taperLoop p = true then
    let lows := if low then x.lows + 1 else 0
    let s := s.setPort p { x with lows := lows, lastLow := low }
    let dwelt := match x.dwell with
      | some t => decide (t + s.rd F.ETH_TAPER_DWELL_DWELL_MS p * ticksMs ≤ s.now)
      | none => true
    .next (if s.rd F.ETH_TAPER_STAT_RATE p = 2 then
        (if max 1 (s.rd F.ETH_TAPER_THR_DOWN_HOLD p) ≤ lows ∧ dwelt = true ∧ s.rd F.ETH_TAPER_CTL_TAPER_FLOOR p = 1 ∧ s.slopesOver p = false then
          s.propose p 1 0 else s)
      else if high ∧ s.rd F.ETH_TAPER_CTL_TAPER_CEIL p = 2 then s.propose p 2 0
      else s.taperService p)
  else .next s

/-- TAPER_PROPOSE_RX. -/
def execTaperProposeRx (p : Fin 8) (seq : BitVec 16) (rate flags : BitVec 8) (s : State) : Out :=
  .next (s.macFrame p (fun t => t.taperProposed p seq.toNat rate.toNat flags.toNat))

/-- TAPER_ACCEPT_RX. -/
def execTaperAcceptRx (p : Fin 8) (seq : BitVec 16) (s : State) : Out := .next (s.macFrame p (fun t => t.taperAccepted p seq.toNat))

/-- TAPER_REFUSE_RX. -/
def execTaperRefuseRx (p : Fin 8) (reason : BitVec 8) (s : State) : Out := .next (s.macFrame p (fun t => t.taperRefused p reason.toNat))

/-- No answer within 100 µs (04 R96): three resends, then the proposal is given up. -/
def execTaperProposeTimeout (p : Fin 8) (s : State) : Out :=
  let x := s.port p
  .next (if s.rd F.ETH_TAPER_STAT_STATE p ≠ 2 then s
    else if x.resends < 3 then (s.setPort p { x with resends := x.resends + 1 }).taperSend p 1 x.seq x.propRate x.propFlags 0
    else s.taperGiveUp p 6 false)

/-- The frame in progress has ended: RETRAIN (04 R96). -/
def execTaperHoldEnd (p : Fin 8) (s : State) : Out :=
  .next (if s.rd F.ETH_TAPER_STAT_STATE p = 3 ∧ s.txFree p = true then s.taperTo p 4 else s)

/-- 2 ms in RETRAIN without link (04 R96). -/
def execTaperRetrainTimeout (p : Fin 8) (s : State) : Out :=
  if s.rd F.ETH_TAPER_STAT_STATE p = 4 then
    let s := (s.taperTo p 0).portDown p false
    .next (((s.evt F.ETH_TAPER_STAT_FAILED p).evt F.ETH_STAT_TAPER_EVT p).reportX (0x090 + p) (elemId 0 p))
  else .next s

/-- A write of ETH_TAPER_CTL (04 R92, R94, R96): a FORCE written to a rate makes a forced PROPOSE due, which goes out at once or after a
retrain. DESIGN CHOICE: it needs no EN, skips the port's own FLOOR and idle-slope conditions, and is sent even when the rate already
equals the forced one; R94 does not say which conditions bind it. -/
def State.taperCtl (s : State) (p force ceil floor : Nat) (en : Bool) : State :=
  let forced := decide (force ≠ s.rd F.ETH_TAPER_CTL_FORCE p)
  let s := ((s.wr F.ETH_TAPER_CTL_FORCE p force).wr F.ETH_TAPER_CTL_TAPER_CEIL p ceil).wr F.ETH_TAPER_CTL_TAPER_FLOOR p floor
  let s := s.wrb F.ETH_TAPER_CTL_EN p en
  let s := if forced || !en then s.taperSuspend p else s
  let s := if forced then s.setPort p { s.port p with forceDue := decide (s.taperForce p ≠ 0) } else s
  s.taperService p

/-- TAPER_CTL_WRITE. -/
def execTaperCtlWrite (p : Fin 8) (force ceil floor : BitVec 2) (en : Bool) (s : State) : Out :=
  .next (s.taperCtl p force.toNat ceil.toNat floor.toNat en)

/-! ## Link and SerDes (04 R78 to R81) -/

/-- Signal, block lock or synchronisation is lost (04 R80, R99): the link-down delay starts. -/
def execPcsSignalLoss (p : Fin 40) (signal lock : Bool) (s : State) : Out :=
  let s := if signal then s.wr F.ETH_STAT_SIGNAL p 0 else s
  let s := if lock || signal then s.wr F.ETH_STAT_PCS_LOCK p 0 else s
  .next ((s.setPort p { s.port p with losing := true }).reportX (0x040 + p) (elemId 0 p))

/-- RS-FEC is in use: 25GBASE-R with FEC on (04 R82). -/
def State.fecUsed (s : State) (p rate : Nat) : Bool := decide (rate = 1) && s.on F.ETH_MODE_RS_FEC p

/-- A Taper retrain succeeded (04 R96). -/
def State.retrained (s : State) (p : Nat) : State :=
  let r := if (s.port p).newRate = 1 then 2 else 1
  let s := ((s.wr F.ETH_STAT_RATE p r).wrb F.ETH_STAT_FEC_ACTIVE p (s.fecUsed p r)).pairChange (p / 2)
  let s := (s.wr F.ETH_TAPER_STAT_RATE p (s.port p).newRate).setPort p { s.port p with dwell := some s.now }
  (((s.ethCnt p 26).evt F.ETH_STAT_TAPER_EVT p).taperIdle p).taperService p

/-- The last in-band status word lets an SGMII port's link up: link, at the Scroll's speed and full duplex (R79, R80). -/
def State.inbandGood (s : State) (p : Nat) : Bool := decide ((s.port p).inband = some (true, s.rd F.ETH_MODE_SGMII_SPEED p, true))

/-- The mode of port `p` lets its link up (R80). -/
def State.modeUp (s : State) (p : Nat) : Bool :=
  decide (s.rd F.ETH_MODE_MODE p ≠ 0) && (decide (s.rd F.ETH_MODE_MODE p ≠ 6) || s.inbandGood p)

/-- What Clause 37 auto-negotiation advertises on a 1000BASE-X port (R82): full duplex, and whether ETH_FC_CFG has PAUSE honoured and
generated. -/
def State.clause37 (s : State) (p : Nat) : Option (Bool × Bool × Bool) :=
  if s.rd F.ETH_MODE_MODE p = 5 then
    let on := decide (s.rd F.ETH_FC_CFG_MODE p = 1)
    some (true, on && s.on F.ETH_FC_CFG_RX_EN p, on && s.on F.ETH_FC_CFG_TX_EN p)
  else none

/-- The link comes up (04 R80): its rate, what auto-negotiation advertised, the queues return, HELLO is sent, a SerDes recovery ends. -/
def State.portUp (s : State) (p : Nat) : State :=
  let r := s.modeRate p
  let s := (s.wr F.ETH_STAT_LINK p 1).wr F.ETH_STAT_RATE p r
  let s := (s.wrb F.ETH_STAT_FEC_ACTIVE p (s.fecUsed p r)).evt F.ETH_STAT_LINK_CHG p
  let s := s.setPort p { s.port p with losing := false, advert := s.clause37 p }
  let s := if s.portAsleep p then s else s.queuesUp p
  let s := if p < 8 then s.pairChange (p / 2) else s
  let s := ((s.aggLinkChange p).endRecovery .forwarding (.serdes p)).helloSend p
  s.taperService p

/-- LINK_UP: lock has held for 50 µs, with the conditions of the mode. An SGMII port also needs a good in-band status
(04 R79). A link-up wakes the device in DOZE and a sleeping network (04 R98, 19 R388). -/
def execLinkUp (p : Fin 40) (eyeW eyeH : BitVec 8) (s : State) : Out :=
  let ok := s.modeUp p && !s.portRestructuring p && !(s.dozing && !s.on F.ETH_WAKE_CFG_EN p)
  if !ok then .next s
  else
    let s := ((s.wr F.ETH_STAT_SIGNAL p 1).wr F.ETH_STAT_PCS_LOCK p 1).wr F.ETH_SERDES_RX_ADAPT_DONE p 1
    let s := (s.wr F.ETH_SERDES_RX_EYE_W p eyeW.toNat).wr F.ETH_SERDES_RX_EYE_H p eyeH.toNat
    if p.val < 8 ∧ s.rd F.ETH_TAPER_STAT_STATE p = 4 then .next (s.retrained p)
    else if s.on F.ETH_STAT_LINK p then .next s
    else
      let s := s.portUp p
      if s.on F.ETH_WAKE_CFG_EN p && s.on F.ETH_WAKE_CFG_LINK_WAKE p then
        (if s.dozing then .next (s.aocWake 4 p) else .next (s.memberWake p 4 p))
      else .next s

/-- LINK_DOWN: 2 µs have passed since the loss. A port in RETRAIN waits for its link at the new rate (R96). -/
def execLinkDown (p : Fin 40) (s : State) : Out :=
  .next (if s.rd F.ETH_TAPER_STAT_STATE p = 4 then s else s.portDown p false)

/-- An SGMII in-band status word (04 R79, R80). -/
def execInbandStatusWord (p : Fin 40) (link : Bool) (speed : BitVec 2) (full : Bool) (s : State) : Out :=
  if s.rd F.ETH_MODE_MODE p ≠ 6 then .next s
  else
    let same := decide (speed.toNat = s.rd F.ETH_MODE_SGMII_SPEED p) && full
    let good := link && same
    let s := s.wrb F.ETH_STAT_INBAND_MISMATCH p (!same)
    .next (s.setPort p { s.port p with inband := some (link, speed.toNat, full), losing := (s.port p).losing || (!good && s.on F.ETH_STAT_LINK p) })

/-- ETH_SERDES_RX.READAPT: the link drops and is qualified afresh (04 R81). -/
def execSerdesReadapt (p : Fin 40) (s : State) : Out := .next ((s.wr F.ETH_SERDES_RX_ADAPT_DONE p 0).portDown p false)

/-- A SerDes PLL loses lock (04 R99): SEVERE, and the group controller reinitialises the lane. -/
def State.serdesLoss (s : State) (p : Nat) : State :=
  let s := (s.wr F.ETH_STAT_PCS_LOCK p 0).setPort p { s.port p with losing := true }
  (s.reportX (0x068 + p) (elemId 0 p)).requestFault .forwarding (.serdes p)

/-- SERDES_PLL_LOCK_LOSS. -/
def execSerdesPllLockLoss (p : Fin 40) (s : State) : Out := .next (s.serdesLoss p)

/-- PRE, MAIN and POST of the presets (04 R81). -/
def serdesPreset (n : Nat) : Nat × Nat × Nat :=
  match n with
  | 1 => (0, 55, 8) | 2 => (0, 49, 14) | 3 => (4, 47, 12) | 4 => (6, 41, 16) | 5 => (8, 37, 18) | 6 => (0, 60, 3) | 7 => (2, 51, 10)
  | _ => (0, 63, 0)

/-- The transmit equaliser in force (04 R81): the override unless its sum exceeds 63, which transmits with preset 0. -/
def State.serdesTx (s : State) (p : Nat) : Nat × Nat × Nat :=
  if s.on F.ETH_SERDES_TX_OVERRIDE p then
    let t := (s.rd F.ETH_SERDES_TX_PRE p, s.rd F.ETH_SERDES_TX_MAIN p, s.rd F.ETH_SERDES_TX_POST p)
    if 63 < t.1 + t.2.1 + t.2.2 then serdesPreset 0 else t
  else serdesPreset (s.rd F.ETH_MODE_SERDES_PRESET p)

/-! ## PAUSE and PFC received (04 R86, R87, R89) -/

/-- Times of 0 resume at once; the other times take effect later and replace what waits for their classes. -/
def State.pauseReq (s : State) (p : Nat) (r : PauseReq) : State :=
  let zero := r.filter (fun e => decide (e.2 = 0))
  let rest := r.filter (fun e => decide (e.2 ≠ 0))
  let named (e : Nat × Nat) : Bool := zero.any (fun z => decide (z.1 = e.1))
  let x := s.port p
  let pend := (x.pend.map (fun q => q.filter (fun e => !named e))).filter (fun q => !q.isEmpty)
  let s := s.setPort p { x with pend := if rest.isEmpty then pend else pend ++ [rest] }
  zero.foldl (fun s e => (s.clrBit F.ETH_FC_STORM_PAUSED p e.1).clrBit F.ETH_FC_STORM_STORMED p e.1) s

/-- PAUSE_FRAME_RX: honoured in mode PAUSE with RX_EN, for the PAUSE address or ETH_MAC_ADDR. -/
def State.pauseRx (s : State) (p da quanta : Nat) : State :=
  let s := s.ethCnt p 8
  if s.on F.ETH_FC_CFG_RX_EN p && decide (s.rd F.ETH_FC_CFG_MODE p = 1)
      && (decide (da = 0x0180C2000001) || decide (da = s.rd F.ETH_MAC_ADDR_ADDR p)) then
    s.pauseReq p ((List.range 8).map (fun c => (c, quanta)))
  else s

/-- PFC_FRAME_RX: honoured in mode PFC with RX_EN, for the classes of PFC_CLASSES that it enables. -/
def State.pfcRx (s : State) (p enable : Nat) (times : List Nat) : State :=
  let s := s.ethCnt p 9
  if s.on F.ETH_FC_CFG_RX_EN p && decide (s.rd F.ETH_FC_CFG_MODE p = 2) then
    s.pauseReq p (((List.range 8).filter (fun c => enable.testBit c && s.bit F.ETH_FC_CFG_PFC_CLASSES p c)).map (fun c => (c, times.getD c 0)))
  else s

/-- PAUSE_FRAME_RX. -/
def execPauseFrameRx (p : Fin 40) (da : BitVec 48) (quanta : BitVec 16) (s : State) : Out :=
  .next (s.macFrame p (fun t => t.pauseRx p da.toNat quanta.toNat))

/-- PFC_FRAME_RX. -/
def execPfcFrameRx (p : Fin 40) (enable : BitVec 8) (times : List (BitVec 16)) (s : State) : Out :=
  .next (s.macFrame p (fun t => t.pfcRx p enable.toNat (times.map BitVec.toNat)))

/-- PAUSE_TAKES_EFFECT: 1,024 bit times after the frame (04 R87). A stormed class ignores it (04 R89); granted
transmissions of a paused class are withdrawn (07 R161). -/
def execPauseTakesEffect (p : Fin 40) (s : State) : Out :=
  let x := s.port p
  match x.pend with
  | [] => .next s
  | r :: t =>
    let s := s.setPort p { x with pend := t }
    .next ((r.filter (fun e => !s.bit F.ETH_FC_STORM_STORMED p e.1)).foldl (fun s e =>
      ((s.setPort p { s.port p with quanta := setAt (s.port p).quanta e.1 e.2 }).setBit F.ETH_FC_STORM_PAUSED p e.1).withdrawPort p (fun c => decide (c = e.1))) s)

/-- Classes that act as class `c`: all of them in mode PAUSE. -/
def State.fcClasses (s : State) (p c : Nat) : List Nat := if s.rd F.ETH_FC_CFG_MODE p = 1 then List.range 8 else [c]

/-- PAUSE_TIMER_EXPIRY. -/
def execPauseTimerExpiry (p : Fin 40) (c : Fin 8) (s : State) : Out :=
  .next ((s.fcClasses p c).foldl (fun s c =>
    (s.clrBit F.ETH_FC_STORM_PAUSED p c).setPort p { s.port p with quanta := setAt (s.port p).quanta c 0 }) s)

/-- PAUSE_STORM: paused continuously for STORM_MS (04 R89). -/
def execPauseStorm (p : Fin 40) (c : Fin 8) (s : State) : Out :=
  if s.on F.ETH_FC_STORM_STORM_MS p && s.bit F.ETH_FC_STORM_PAUSED p c && !s.bit F.ETH_FC_STORM_STORMED p c then
    let s := (s.fcClasses p c).foldl (fun s c => s.setBit F.ETH_FC_STORM_STORMED p c) s
    .next (((s.ethCnt p 28).evt F.ETH_STAT_STORM_EVT p).reportX (0x090 + p) (elemId 0 p))
  else .next s

/-! ## Low-power idle (04 R90) -/

/-- EN of ETH_LPI_CFG as it reads and acts: only an access port that allows LPI has it. -/
def State.lpiEn (s : State) (p : Nat) : Bool := decide (8 ≤ p) && s.on F.ETH_LPI_CFG_EN p && s.on F.ETH_MODE_LPI_ALLOWED p

/-- The queues of port `p` hold no frame. -/
def State.queuesEmpty (s : State) (p : Nat) : Bool :=
  (portQueues p).all (fun q => let x := s.queue q; x.head.isEmpty && x.tail.isEmpty && x.mid.isEmpty)

/-- LPI_ENTRY: idle for IDLE_US. -/
def execLpiEntry (p : Fin 40) (s : State) : Out :=
  .next (if s.lpiEn p && s.queuesEmpty p && s.txFree p && s.on F.ETH_STAT_LINK p && !s.on F.ETH_STAT_LPI_TX p then
    ((s.wr F.ETH_STAT_LPI_TX p 1).ethCnt p 24).withdrawPort p (fun _ => true) else s)

/-- LPI_WAKE_DONE: TW_SYS_US after a frame made the port leave LPI. -/
def execLpiWakeDone (p : Fin 40) (s : State) : Out := .next (if s.queuesEmpty p then s else s.wr F.ETH_STAT_LPI_TX p 0)

/-- RECEIVE_LPI: the PHY starts or ends low-power idle; entries are counted. -/
def execReceiveLpi (p : Fin 40) (on : Bool) (s : State) : Out :=
  .next (if p.val < 8 then s
    else if on && !s.on F.ETH_STAT_LPI_RX p then (s.wr F.ETH_STAT_LPI_RX p 1).ethCnt p 14
    else s.wrb F.ETH_STAT_LPI_RX p on)

/-! ## Wake patterns (04 R98) -/

/-- Byte `i` of a multi-byte field that holds byte 0 in its lowest bits. -/
def fieldByte (v i : Nat) : Nat := v / 256 ^ i % 256

/-- A frame, DA to FCS, matches pattern `k` of port `p`. -/
def State.patMatch (s : State) (p k : Nat) (bs : List Byte) : Bool :=
  let n := 4 * p + k
  let et := s.rd F.ETH_WAKE_PAT_ETYPE n
  let off := s.rd F.ETH_WAKE_PAT_OFF n
  s.bit F.ETH_WAKE_CFG_PAT_EN p k && decide (beNat (bs.take 6) = s.rd F.ETH_WAKE_PAT_DA n)
    && (decide (et = 0) || decide (beNat ((bs.drop 12).take 2) = et))
    && (List.range 8).all (fun j =>
      let m := fieldByte (s.rd F.ETH_WAKE_PAT_MASK n) j
      decide (m = 0) || (decide (14 + off + j < bs.length)
        && decide ((bs.getD (14 + off + j) 0).toNat &&& m = fieldByte (s.rd F.ETH_WAKE_PAT_DATA n) j &&& m)))

/-- A whole frame with a good FCS on a port that sleeps: a match wakes the device or the network; the frame is not
forwarded. -/
def State.wakeFrame (s : State) (p : Nat) (bs : List Byte) : State :=
  if s.on F.ETH_WAKE_CFG_EN p && (List.range 4).any (fun k => s.patMatch p k bs) then
    let s := s.ethCnt p 16
    if s.dozing then s.aocWake 3 p else s.memberWake p 3 p
  else s.ethCnt p 15

/-- WAKE_PATTERN_FRAME. -/
def execWakePatternFrame (p : Fin 40) (bs : List Byte) (s : State) : Out := .next (if s.portLive p then s else s.wakeFrame p bs)

/-- ETH_CTL.CNT_CLR. -/
def execEthCntClr (p : Fin 40) (s : State) : Out := .next (s.clearWhere F.ETH_CNT_COUNT (fun n => decide (n / 29 = p.val)))

end Sys2Proof.Machine
end

