-- ==== Sys2Proof/Machine/Shaper.lean ====
section
/-! DEFINITION. Credit-based shapers and DWRR charges of the port schedulers (spec 09 R207 to R209). A credit is held in
1/3,200,000,000 byte: one tick of an idle slope unit is 16,000 of them, and one tick of 1 Mb/s is 1,000,000. -/
namespace Sys2Proof.Machine

/-- Units of credit in a byte. -/
def creditUnit : Int := 3200000000

/-- What a tick adds at the idle slope of class `c`, and takes at the port's rate. -/
def State.cbsIdle (s : State) (p c : Nat) : Int := 16000 * s.rd F.QUE_CBS_IDLE_SLOPE (8 * p + c)
def State.cbsRate (s : State) (p : Nat) : Int := 1000000 * s.portMbps p

/-- Class `c` of port `p` runs a shaper. -/
def State.cbsOn (s : State) (p c : Nat) : Bool := s.bit F.QUE_SCHED_CBS_EN p c

/-- Its credit. -/
def State.credit (s : State) (p c : Nat) : Int := s.cbs.get 0 (8 * p + c)

/-- The state with it replaced, at most CREDIT_HI. -/
def State.setCredit (s : State) (p c : Nat) (v : Int) : State :=
  { s with cbs := s.cbs.set 0 (8 * p + c) (min v (creditUnit * s.rd F.QUE_CBS_CREDIT_HI (8 * p + c))) }

/-- The shaper lets class `c` start a frame. -/
def State.cbsReady (s : State) (p c : Nat) : Bool := !s.cbsOn p c || decide (0 ≤ s.credit p c)

/-- The queue holds no frame. -/
def State.queueEmpty (s : State) (q : Nat) : Bool := let x := s.queue q; x.head.isEmpty && x.tail.isEmpty && x.mid.isEmpty

/-- An unconfirmed speculative transmission of class `c` is on the wire of port `p`. -/
def State.specSends (s : State) (p c : Nat) : Bool :=
  s.flight.any (fun f => match f.spec with | some x => decide (x.st = .sending) && decide (x.cls = c) && x.uses p | none => false)

/-- One tick of a shaper (R209). A speculative transmission of the class is a frame of the class being sent; it is charged as a whole when
it is confirmed (R207), so while it is sent the credit stands still. -/
def State.cbsTick (s : State) (p c : Nat) : State :=
  let q := 8 * p + c
  let x := s.credit p c
  let own := match (s.port p).tx with | some t => decide (t.q = q) | none => false
  let spec := match (s.port p).tx with | some t => t.ent.isNone | none => false
  if (own && spec) || s.specSends p c then s
  else if own then s.setCredit p c (x + s.cbsIdle p c - s.cbsRate p)
  else if !s.queueEmpty q then s.setCredit p c (x + s.cbsIdle p c)
  else if 0 < x then s.setCredit p c 0
  else s.setCredit p c (min 0 (x + s.cbsIdle p c))

/-- One tick of every shaper. -/
def State.shapersTick (s : State) : State :=
  (s.listed F.QUE_SCHED_CBS_EN).foldl (fun t p => (List.range 8).foldl (fun t c => if t.cbsOn p c then t.cbsTick p c else t) t) s

/-- The DWRR round of port `p`. -/
def State.schedOf (s : State) (p : Nat) : Sched := s.sched.get Sched.init p

/-- Class `c` is served by strict priority. -/
def State.strictCls (s : State) (p c : Nat) : Bool := s.bit F.QUE_SCHED_STRICT p c

/-- What a struck transmission's bytes used is restored (07 R164, R207): none of it has been charged. DESIGN CHOICE: for frames of its class
that wait at the strike, the time since the release counts as waiting. -/
def State.specRestore (s : State) (x : Spec) : State :=
  if s.cbsOn x.egr x.cls && !s.queueEmpty (8 * x.egr + x.cls) then
    s.setCredit x.egr x.cls (s.credit x.egr x.cls + s.cbsIdle x.egr x.cls * (s.now - x.since : Nat))
  else s

/-- A confirmed speculative frame of `n` bytes is charged to its class (R207): the credit that its sending costs, and its
deficit. -/
def State.specCharge (s : State) (p c n : Nat) : State :=
  let cost : Int := n + 20
  let r := s.cbsRate p
  let s := if s.cbsOn p c && decide (0 < r) then s.setCredit p c (s.credit p c - cost * creditUnit * (r - s.cbsIdle p c) / r) else s
  if s.strictCls p c then s
  else
    let x := s.schedOf p
    { s with sched := s.sched.set Sched.init p { x with dc := setAt x.dc c (x.dc.getD c 0 - cost) } }

end Sys2Proof.Machine
end

