-- ==== Sys2Proof/Machine/Pipeline.lean ====
section
/-! DEFINITION. The ingress pipelines and Quickstroke (spec 07): frames received, grants, verdicts, strikes, and what becomes
of a decided frame. -/
namespace Sys2Proof.Machine

/-! ## Frames in the pipelines -/

/-- Frame `n` of the pipelines replaced. -/
def State.setFlight (s : State) (n : Nat) (f : Flight) : State := { s with flight := setAt s.flight n f }

/-- The place of the oldest frame that satisfies `g`, with the frame. -/
def State.flightWith (s : State) (g : Flight → Bool) : Option (Nat × Flight) :=
  (s.flight.zipIdx.find? (fun e => g e.1)).map (fun e => (e.2, e.1))

/-- Pipeline `i` is in recovery (R168). -/
def State.recovering (s : State) (i : Nat) : Bool := s.on F.PP_STAT_RECOVERING i

/-- QS_PORT_EN numbers the ports of its pipeline from 0. -/
def portBit (p : Nat) : Nat := if pipeOf p = 0 then p else p - 8

/-- The first condition of 07 R157 fails for frames of port `p`. -/
def State.qsOff (s : State) (p : Nat) : Bool :=
  !(s.on F.PP_CTL_QS_EN (pipeOf p) && decide (p < 40) && s.bit F.PP_QS_PORT_EN_PORT (pipeOf p) (portBit p) && decide (s.rd F.PWR_STAT_STATE 0 ≤ 1))

/-- A decline is counted (07 R163). -/
def State.decline (s : State) (i code : Nat) : State := s.bump F.PP_DECLINE_CNT_COUNT (14 * i + code - 1)

/-- A frame enters its pipeline; while the pipeline recovers it is dropped whole and counts RECOVERY_DROP. One that enters whole, without
a grant check, is declined with QS_OFF where Quickstroke is off for its port. -/
def State.enter (s : State) (f : Flight) : State :=
  if s.recovering (pipeOf f.port) then State.tsDone (s.bump F.PP_CNT_COUNT (10 * pipeOf f.port + 7)) f.tsIndex
  else
    let s := if f.whole && s.qsOff f.port then s.decline (pipeOf f.port) 1 else s
    { s with flight := s.flight ++ [f] }

/-! ## Vetoes (R160 to R163) -/

/-- The duplicate judgement of a frame: without effect on a frame that step 1 drops. -/
def State.dupOf (s : State) (f : Flight) (v : Verdict) : DupRes :=
  if v.early && !v.charges.contains (Charge.pp 3) then ⟨false, false, true, false⟩
  else s.dupJudge f.port (s.parse (pipeOf f.port) f.port f.secured f.bytes) f.bytes v

/-- The ports to which the frame goes at this moment: its destination set and the ring port of an HSR frame. -/
def State.targets (s : State) (f : Flight) (v : Verdict) : List VDest :=
  let d := s.dupOf f v
  (if d.deliver && !v.drop then v.dests else [])
    ++ (match v.pass with | some q => if d.pass && !v.red then [⟨q, 8 * q + v.cls, 0, none⟩] else [] | none => [])

/-- The code with which the decision part vetoes a transmission; none when it agrees. -/
def State.vetoOf (s : State) (f : Flight) (v : Verdict) (x : Spec) : Option Nat :=
  let d := s.dupOf f v
  let ts := s.targets f v
  let dup := d.discard || (v.pass.isSome && !d.pass)
  if v.denied || (ts.isEmpty && !dup && !v.red) then some 0x12
  else if dup then some 0x1B
  else if v.red then some 0x13
  else if v.noSpec then some 0x19
  else match ts with
    | [t] =>
      if t.port ≠ x.egr then some 0x10
      else if v.cls ≠ x.cls then some 0x17
      else if v.edits || decide (t.tagop ≠ x.tagop) || ((decide (t.tagop = 1) || decide (t.tagop = 3)) && decide (v.newVid ≠ x.newVid)) then some 0x18
      else if s.tooOld t.port f.epoch then some 0x1A
      else none
    | _ => some 0x11

/-- The veto of the integrity part. -/
def Flight.integVeto (f : Flight) : Option Nat :=
  if !f.fcsOk then some 0x14 else if !f.lenOk then some 0x15 else if !f.icvOk then some 0x16 else none

/-- A transmission is struck (R161, R164): the wire form of the strike and TX_STRUCK where it was sent, PPx_LAST_STRIKE, STRIKE_EVT, and
the Stroke cache entry that predicted it is invalid. -/
def State.strike (s : State) (f : Flight) (x : Spec) (code : Nat) : State :=
  let i := pipeOf f.port
  let h := s.parse i f.port f.secured f.bytes
  let s := ((s.endFrame x.egr (s.strikeForm x.egr)).ethCnt x.egr 23).specRestore x
  let s := match x.mirror with | some m => (s.endFrame m (s.strikeForm m)).ethCnt m 23 | none => s
  let s := ((s.wr F.PP_LAST_STRIKE_REASON i code).wr F.PP_LAST_STRIKE_EGR_PORT i x.egr).wr F.PP_LAST_STRIKE_IN_PORT i f.port
  (s.evt F.PP_STAT_STRIKE_EVT i).strokeDrop i f.port h.da (s.frameVid i f.port h)

/-- A veto: it withdraws a transmission that has not begun, and strikes one on the wire. The answer is the transmission's
new state. -/
def State.veto (s : State) (f : Flight) (x : Spec) (code : Nat) : State × Spec :=
  match x.st with
  | .granted => (s, { x with st := .withdrawn })
  | .sending => (s.strike f x code, { x with st := .struck })
  | _ => (s, x)

/-! ## Counting, learning and the Stroke cache fill -/

/-- A counter that the verdict of a frame of port `p` charges, with its event. -/
def State.chargeOne (s : State) (p : Nat) (c : Charge) : State :=
  match c with
  | .pp k => s.bump F.PP_CNT_COUNT (10 * pipeOf p + k)
  | .tbl k => s.bump F.TBL_CNT_COUNT k
  | .red k => s.bump F.TBL_RED_CNT_COUNT k
  | .cip k => s.cipCnt p k
  | .sig k =>
    let s := s.bump F.SIG_CNT_COUNT k
    if k = 2 then s.evt F.SIG_STAT_MISS_EVT 0
    else if k = 6 then s.evt F.SIG_STAT_RL_DROP_EVT 0
    else if k = 7 then s.evt F.SIG_STAT_BAD_DEST_EVT 0
    else s

/-- Counters charged. -/
def State.charge (s : State) (p : Nat) (cs : List Charge) : State := cs.foldl (fun t c => t.chargeOne p c) s

/-- FRAMES, PARSE_ERR and PARSE_TRUNC of a verdict. -/
def State.verdictCounts (s : State) (i : Nat) (h : Hdr) : State :=
  let s := s.bump F.PP_CNT_COUNT (10 * i)
  let s := if h.err then (s.bump F.PP_CNT_COUNT (10 * i + 1)).evt F.PP_STAT_PARSE_ERR_EVT i else s
  if h.trunc then s.bump F.PP_CNT_COUNT (10 * i + 2) else s

/-- Learning of the SA (08 R175, R176): by the logical port, or by the aggregation group of the port. The tables have judged it at the
frame's epoch. -/
def State.learnFrom (s : State) (f : Flight) (v : Verdict) (h : Hdr) : State :=
  if v.learn then s.learnRequest (pipeOf f.port) ⟨v.vid, h.sa, s.logicalPort f.port, s.aggOf f.port⟩ else s

/-- A frame received on a PRP or HSR pair is speculated only as an HSR pass-through frame, towards the other ring port (13 R293). -/
def State.pairBars (s : State) (p egr : Nat) (pass : Bool) : Bool :=
  (decide (s.redMode p ≠ 0) && !(decide (s.redMode p = 2) && pass && decide (egr = partner p)))
    || (decide (s.redMode egr ≠ 0) && !(decide (s.redMode p = 2) && pass && decide (egr = partner p)))

/-- The Stroke cache fill of a completed verdict (R155). -/
def State.strokeFill (s : State) (f : Flight) (v : Verdict) (h : Hdr) : State :=
  let i := pipeOf f.port
  match s.targets f v with
  | [t] =>
    if t.port < 40 ∧ h.da.testBit 40 = false ∧ s.lanePort f.port = false then
      let vid := v.vid
      let n := s.strokeVictim i f.port h.da vid
      let nru := match s.strokes.find n with
        | some e => decide (e.inPort = f.port) && decide (e.da = h.da) && decide (e.vid = vid) && e.nru
        | none => false
      let e : Stroke := ⟨v.noSpec || v.edits || s.cipTx t.port || s.pairBars f.port t.port v.pass.isSome, f.port, t.port, v.cls, nru, vid, h.da, t.tagop,
        if t.tagop = 1 ∨ t.tagop = 3 then v.newVid else 0⟩
      State.bump { s with strokes := s.strokes.put n e } F.PP_CNT_COUNT (10 * i + 9)
    else s
  | _ => s

/-! ## Storing and enqueueing -/

/-- The frame record of a decided frame, with the bytes that Inkwell holds. -/
def State.recordOf (s : State) (f : Flight) (v : Verdict) (bytes : List Byte) : Frame where
  bytes := bytes
  cells := []
  copies := 0
  poolRefs := 0
  yellow := v.yellow
  ecnCe := false
  inPort := f.port
  routed := v.routed
  epoch := f.epoch
  tsIndex := f.tsIndex
  tagop := match v.dests with | [d] => d.tagop | _ => 0
  newVid := v.newVid
  nat := v.nat
  dmac := v.dmac
  smac := v.smac
  natAddr := v.natAddr
  ipDelta := v.ipDelta
  l4Delta := v.l4Delta
  cls := v.cls
  tpid := s.rd F.PP_TPID_C_TPID (pipeOf f.port)
  damaged := false
  sealedOk := match f.sealEnt with | some e => decide (f.sealRes = some true) && s.on F.CIP_SEAL_HOLD e | none => false
  txReq := f.txReq

/-- The bytes that are held for the device's other ports: without PRP trailer or HSR tag (13 R289, R290). -/
def State.localBytes (s : State) (f : Flight) (h : Hdr) : List Byte :=
  if (s.redSeq f.port h f.bytes).isNone then f.bytes
  else if s.redMode f.port = 1 then refreshFcs (stripRct f.bytes)
  else refreshFcs (stripHsr f.bytes h.tags)

/-- The pairs among the ports of a destination list. -/
def State.pairsOf (s : State) (ds : List VDest) : List Nat :=
  (List.range 4).filter (fun i => decide (s.pairMode i ≠ 0) && ds.any (fun d => decide (d.port < 8) && decide (d.port / 2 = i)))

/-- A frame is sent into pair `i` (13 R289, R290): its sequenceNr is used up, RED_TX counts, and an HSR pair records it as
SENT. -/
def State.sentInto (s : State) (i sa : Nat) : State :=
  let q := s.rd F.TBL_RED_PAIR_SEQ i
  let s := (s.wr F.TBL_RED_PAIR_SEQ i (q + 1)).bump F.TBL_RED_CNT_COUNT 8
  if s.pairMode i = 2 then s.ddRecord i sa q (fun e => { e with sent := true }) else s

/-- The copy for a destination. -/
def State.destOf (s : State) (d : VDest) : Dest :=
  ⟨d.q, ⟨d.tagop, false, if s.redMode d.port = 0 then none else some (s.rd F.TBL_RED_PAIR_SEQ (d.port / 2)), d.bucket, none, false⟩⟩

/-- The copies that carry the bytes held in Inkwell: to the CPU, to Nib engines and to the mirror port. -/
def State.bareDests (s : State) (v : Verdict) (mirror : Bool) : List Dest :=
  v.queues.map (fun q => ⟨q, CopyEd.bare⟩)
    ++ (match v.mirror with | some m => if mirror then [⟨s.queueOf m v.cls, CopyEd.bare⟩] else [] | none => [])

/-- A frame with destination port 66 joins the recirculation list (09 R198): at most 64 frames, whose cells the shared pool
must have beyond every reserve. -/
def State.recircTakes (s : State) (n : Nat) : Bool := decide (s.recirc.length < 64) && decide ((n : Int) ≤ s.dynFree 0) && decide (s.ink.used + n ≤ 131072)

/-- A decided frame is stored and offered to its queues; `keep` references more hold its cells. -/
def State.store (s : State) (f : Frame) (ecn : Nat) (ds : List Dest) (keep : Nat) : State × Option Nat :=
  let again := ds.any (fun d => decide (d.q = 768))
  let qs := ds.filter (fun d => decide (d.q < 512))
  let ok := again && s.recircTakes (cellsOf f.bytes.length)
  let s := if again && !ok then s.bump F.QUE_RECIRC_DROP_COUNT 0 else s
  match s.offerKeep f ecn qs (keep + b2n ok) with
  | (s, some c) => (if ok then { s with recirc := s.recirc ++ [c] } else s, some c)
  | (s, none) => (s, none)

/-- A confirmed transmission on port `p` goes on as the frame on the transmitter (R160): its egress time-stamp record is taken,
and its bytes are charged. -/
def State.launch (s : State) (sn : Snap) (p cls first : Nat) (f : Frame) (ed : CopyEd) : State :=
  let r := s.egressBytes sn p f ed
  let s := s.txStamp sn p f.txReq r.2
  (s.setPort p { s.port p with tx := some ⟨8 * p + cls, none, first, ed, r.2, r.1⟩ }).specCharge p cls r.2.length

/-- The confirmed transmission, and its mirror, are launched; its time-stamp point was the release. -/
def State.launchSpec (s : State) (x : Spec) (first : Nat) (f : Frame) (ed : CopyEd) : State :=
  let s := (s.launch x.sent x.egr x.cls first f ed).bump F.PP_CNT_COUNT (10 * pipeOf f.inPort + 8)
  match x.mirror with
  | some m => s.launch x.sent m x.cls first f CopyEd.bare
  | none => s

/-- A cell number that no cell has: the place of a confirmed frame for which Inkwell had no cell. -/
def noCell : Nat := 131072

/-- Copies of a lane frame (15 R333, R334). Before the result of a check beside the hardware route is known, the lane copies leave and the
others wait; after a failed check only the lane copies leave, unless PASS_FAIL lets the frame go on. -/
def State.storeLane (s : State) (f : Flight) (v : Verdict) (r : Frame) (ds : List Dest) : State :=
  let lanes : List Dest := v.lanes.map (fun l => ⟨l.1, { CopyEd.none with newKey := l.2, route := true }⟩)
  match f.sealEnt, f.sealRes with
  | some e, some false => (s.store r 0 (if s.sealPassFail (f.port - 40) e then lanes ++ ds else lanes) 0).1
  | some e, none => let s := (s.store r 0 lanes 0).1; { s with sealWait := s.sealWait ++ [⟨f.port - 40, e, r, ds, f.sealNo⟩] }
  | _, _ => (s.store r 0 (lanes ++ ds) 0).1

/-- What becomes of a frame whose verdict is whole and good. `conf` is its confirmed transmission. -/
def State.deliver (s : State) (f : Flight) (v : Verdict) (h : Hdr) (d : DupRes) (conf : Option Spec) : State :=
  let mirrorSpec := match conf with | some x => x.mirror.isSome | none => false
  let here := if d.deliver && !v.drop then v.dests else []
  let rec1 := s.recordOf f v (s.localBytes f h)
  let toHere := decide (conf.isSome ∧ here ≠ [])
  let ds := (if toHere then [] else here.map s.destOf) ++ (if d.deliver && !v.drop then s.bareDests v (!mirrorSpec) else [])
  let ecn := if h.l3 = 0 then 0 else h.ecn
  let pairs := s.pairsOf here
  let keep := match conf with | some x => 1 + b2n x.mirror.isSome | none => 0
  let ed (t : VDest) : CopyEd := { CopyEd.none with tagop := t.tagop }
  let s' := if s.lanePort f.port then s.storeLane f v rec1 ds
    else match conf, here with
      | some x, t :: _ =>
        let r := s.store rec1 ecn ds keep
        r.1.launchSpec x (r.2.getD noCell) rec1 (ed t)
      | _, _ => (s.store rec1 ecn ds 0).1
  let s' := match v.pass with
    | some q =>
      if d.pass && !v.red then
        let rec2 := { s.recordOf f v f.bytes with routed := false, nat := 0, tagop := 0 }
        match conf, here with
        | some x, [] =>
          let r := s'.store rec2 0 [] keep
          r.1.launchSpec x (r.2.getD noCell) rec2 CopyEd.none
        | _, _ => (s'.store rec2 0 [⟨8 * q + v.cls, CopyEd.none⟩] 0).1
      else s'
    | none => s'
  let s' := pairs.foldl (fun t i => t.sentInto i (if v.routed then v.smac else h.sa)) s'
  if v.brg && d.deliver && !v.drop then { s' with brgRx := s'.brgRx ++ [(f.port, f.secured, f.bytes)] } else s'

/-- The duplicate-discard table records what has been done with a frame of a pair (13 R290, R291). -/
def State.dupRecord (s : State) (f : Flight) (v : Verdict) (h : Hdr) (d : DupRes) : State :=
  match s.redSeq f.port h f.bytes with
  | none => s
  | some (seq, _) =>
    let i := f.port / 2
    let gone := !(v.dests.isEmpty && v.queues.isEmpty && !v.brg)
    let s := if d.deliver && !v.drop && !v.early && gone then s.ddRecord i h.sa seq (fun e => { e with delivered := true }) else s
    if d.pass && !v.red then
      (s.ddRecord i h.sa seq (fun e => if f.port % 2 = 0 then { e with fwdB := true } else { e with fwdA := true })).charge f.port [.red 5]
    else s

/-- The signal limiter of a routed lane frame (11 R251): whether a token was there, and it is taken. -/
def State.limiterTake (s : State) (lim : Option Nat) : State × Bool :=
  match lim with
  | none => (s, true)
  | some k => let n := s.rd F.SIG_RL_TOKENS k; if n = 0 then (s, false) else (s.wr F.SIG_RL_TOKENS k (n - 1), true)

/-- The whole verdict of a frame whose integrity part has passed is carried out; every counter is charged once (R152). The
SA is learned from the verdict, of a struck frame too, and never from its transmission (08 R175, R164). -/
def State.carryOut (s : State) (f : Flight) (v : Verdict) (conf : Option Spec) : State :=
  let i := pipeOf f.port
  let h := s.parse i f.port f.secured f.bytes
  let d := s.dupOf f v
  let s := s.verdictCounts i h
  if d.discard then
    s.charge f.port (v.charges.filter (fun c => decide (c = .red 2) || decide (c = .red 3)) ++ [if d.removed then .red 4 else .red 0])
  else
    let s := match v.stencil with | some k => s.bump F.PP_STENCIL_CNT_COUNT (1024 * i + k) | none => s
    let lim := if v.red then (s, true) else s.limiterTake v.lim
    let s := lim.1
    let s := if lim.2 then s.charge f.port (v.charges ++ (if v.red then [.pp 5] else [])) else s.charge f.port ([.sig 0, .sig 1, .sig 6] ++ v.charges.filter (fun c => decide (c = .sig 7)))
    let v := if lim.2 then v else { v with drop := true, lanes := [], queues := [] }
    let v := if v.red then { v with lanes := [], queues := [] } else v
    let s := s.learnFrom f v h
    let s := s.strokeFill f v h
    (s.deliver f v h d conf).dupRecord f v h d

/-! ## The verdict -/

/-- Frame `n` leaves the pipelines. -/
def State.dropFlight (s : State) (n : Nat) : State := { s with flight := s.flight.eraseIdx n }

/-- Tokens go back when the integrity part fails (08 R186). -/
def State.refund (s : State) (f : Flight) (v : Verdict) : State :=
  match v.policer with
  | some k => if v.red || v.drop then s else s.giveTokens (pipeOf f.port) k f.bytes.length v.yellow
  | none => s

/-- Frame `n` is settled when both parts of its verdict are final: a transmission is vetoed by a difference that has arisen
since or by the integrity part, or confirmed; the frame is dropped or dealt with by its verdict. A transmission that agrees
and has not reached its release point keeps the frame waiting. -/
def State.settle (s : State) (n : Nat) (f : Flight) (v : Verdict) : State :=
  let code : Option Nat := match f.spec with
    | some x => if x.live then (match s.vetoOf f v x with | some c => some c | none => f.integVeto) else none
    | none => none
  let waits := match f.spec with | some (x : Spec) => decide (x.st = SpecSt.granted) && code.isNone | none => false
  if waits then s
  else
    let r : State × Option Spec := match f.spec, code with
      | some x, some c => let y := s.veto f x c; (y.1, some y.2)
      | sp, _ => (s, sp)
    let s := r.1.dropFlight n
    let conf := match r.2 with | some (x : Spec) => if x.st = SpecSt.sending then some x else none | none => none
    let s := if f.integVeto.isSome then s.refund f v else s.carryOut f v conf
    let s := s.tsDone f.tsIndex
    if f.port < 40 then s.fcCheck f.port else s

/-- Frames whose verdict is whole are settled, oldest first. -/
def State.settleFrom (s : State) : Nat → Nat → State
  | 0, _ => s
  | fuel + 1, n =>
    match s.flight[n]? with
    | none => s
    | some f =>
      match f.verdict with
      | some v =>
        if f.integ then
          let t := s.settle n f v
          if t.flight.length < s.flight.length then State.settleFrom t fuel n else State.settleFrom t fuel (n + 1)
        else State.settleFrom s fuel (n + 1)
      | none => State.settleFrom s fuel (n + 1)

/-- Every frame that can be settled is; a port whose queues fill may ask for another rate (04 R93), and a drain may be
complete. -/
def State.settleAll (s : State) : State :=
  if s.flight.any (fun f => f.integ && f.verdict.isSome) then
    ((List.range 8).foldl State.taperService (s.settleFrom s.flight.length 0)).drainService
  else s

/-- The decision part of frame `n` is final: it takes the epoch, the tables decide, the policer judges it; a difference vetoes
its transmission at once (R161). -/
def State.decideFlight (s : State) (n : Nat) (f : Flight) : State :=
  let i := pipeOf f.port
  let v := s.decision f
  let d := s.dupOf f v
  let f := { f with epoch := s.epoch }
  let judged := match v.policer with
    | some k => if v.drop || d.discard || decide (4096 * i + k ∈ s.polLost) || decide (4096 * i + k ∈ s.polBad) then none else some (k, s.police i k f.bytes.length (s.parse i f.port f.secured f.bytes).dei)
    | none => none
  let r : State × Verdict := match judged with
    | some (k, some y) => (s.takeTokens i k f.bytes.length y, { v with yellow := y })
    | some (_, none) => (s, { v with red := true, drop := true })
    | none => (s, { v with policer := none })
  let s := r.1
  let v := r.2
  let t : State × Option Spec := match f.spec with
    | some x => if x.live then (match s.vetoOf f v x with | some c => let y := s.veto f x c; (y.1, some y.2) | none => (s, some x)) else (s, some x)
    | none => (s, none)
  t.1.setFlight n { f with verdict := some v, spec := t.2 }

/-- VERDICT_DECISION_FINAL: the oldest frame of port `p` without a decision. -/
def execVerdictDecisionFinal (p : Fin 67) (s : State) : Out :=
  match s.flightWith (fun f => decide (f.port = p.val) && f.verdict.isNone) with
  | some (n, f) => .next (s.decideFlight n f).settleAll
  | none => .next s

/-- VERDICT_INTEGRITY_FINAL: the oldest whole frame of port `p`. -/
def execVerdictIntegrityFinal (p : Fin 67) (s : State) : Out :=
  match s.flightWith (fun f => decide (f.port = p.val) && f.whole && !f.integ) with
  | some (n, f) => .next (s.setFlight n { f with integ := true }).settleAll
  | none => .next s

/-! ## Frames received on Ethernet ports (04 R83, R84) -/

/-- A Taper frame (04 R95), a frame of the MAC (04 R83). -/
def State.isTaper (s : State) (bs : List Byte) : Bool := decide (be bs 0 6 = 0x0180C200000E) && decide (be bs 12 2 = s.rd F.ETH_TAPER_ETYPE_ETYPE 0)
def isMacCtrl (bs : List Byte) : Bool := decide (be bs 12 2 = 0x8808)

/-- An Ethernet presence message of a network that port `p` belongs to: the network (19 R384, R385). -/
def State.presenceOf (s : State) (p : Nat) (bs : List Byte) : Option Nat :=
  let da := be bs 0 6
  let k := da % 256
  if be bs 12 2 = s.rd F.NSL_ETYPE_ETYPE 0 ∧ da / 256 = 0x0356474E53 ∧ k < 16 ∧ s.netOn k = true ∧ s.netHas k p = true then some k else none

/-- The frame is consumed by the MAC: it is no data frame (04 R83, R84). -/
def State.consumed (s : State) (bs : List Byte) : Bool := isMacCtrl bs || s.isTaper bs

/-- A consumed frame acts. -/
def State.consume (s : State) (p : Nat) (bs : List Byte) : State :=
  if isMacCtrl bs then
    match be bs 14 2 with
    | 0x0001 => s.pauseRx p (be bs 0 6) (be bs 16 2)
    | 0x0101 => s.pfcRx p (be bs 16 2) ((List.range 8).map (fun c => be bs (18 + 2 * c) 2))
    | _ => s.ethCnt p 10
  else s.taperRx p bs

/-- The check of R83 that a frame fails first: its ETH_CNT index, with FCS and length good or not. -/
def State.rxFail (s : State) (p : Nat) (bs : List Byte) (fcsGood : Bool) : Option Nat :=
  if bs.length < 64 then some 5
  else if max 1518 (s.rd F.ETH_CTL_MAX_LEN p) < bs.length then some 6
  else if !fcsGood then some 4
  else none

/-- A good data frame counts (04 R84). -/
def State.rxCount (s : State) (p : Nat) (bs : List Byte) : State :=
  let s := (s.ethCnt p 1).bumpBy F.ETH_CNT_COUNT (29 * p) bs.length
  if be bs 0 6 = 0xFFFFFFFFFFFF then s.ethCnt p 3 else if (be bs 0 6).testBit 40 then s.ethCnt p 2 else s

/-- The frame of port `p` that is still arriving, if its grant check has been made. -/
def State.arriving (s : State) (p : Nat) : Option (Nat × Flight) := s.flightWith (fun f => decide (f.port = p) && !f.whole)

/-- A frame that has arrived whole leaves the place in the pipeline that its grant check took. -/
def State.dropArriving (s : State) (p : Nat) : State :=
  match s.arriving p with
  | some (n, _) => { s with flight := s.flight.eraseIdx n }
  | none => s

/-- The plaintext of a whole frame, protected or not, takes its receive time-stamp and its place in the pipeline. -/
def State.arrivedPlain (s : State) (p : Nat) (secured : Bool) (plain : List Byte) : State :=
  let h := s.parse (pipeOf p) p secured plain
  match s.arriving p with
  | some (n, f) =>
    let r := s.rxStamp (f.snap.getD s.snap) p h plain
    r.1.setFlight n { f with bytes := plain, whole := true, secured := secured, tsIndex := r.2 }
  | none =>
    let r := s.rxStamp s.snap p h plain
    r.1.enter { Flight.good p plain r.2 with secured := secured }

/-- A frame has arrived whole: MACsec (15 R325), a presence message (19 R385; on a SECURE_OR_BLOCK port only a protected one, 15 R328),
or a frame for the pipeline. -/
def State.arrived (s : State) (p : Nat) (bs : List Byte) : State :=
  let m : State × Option (List Byte) × Bool := match (if s.cipRx p then secTagOf bs else none) with
    | some t => let r := s.macsecRx p t bs; (r.1, r.2, true)
    | none => (s, some bs, false)
  let s := m.1
  match m.2.1 with
  | some plain =>
    match (if s.secure p && !m.2.2 then none else s.presenceOf p plain) with
    | some k => (s.dropArriving p).presRx k p (be plain 15 1) (be plain 16 1)
    | none => s.arrivedPlain p m.2.2 plain
  | none => match s.arriving p with
    | some (n, f) => s.setFlight n { f with whole := true, icvOk := false }
    | none => s

/-- A frame that fails a check of the MAC: a transmission of it is vetoed by its integrity part. -/
def State.arrivedBad (s : State) (p k : Nat) (fcsGood : Bool) : State :=
  match s.arriving p with
  | some (n, f) => s.setFlight n { f with whole := true, fcsOk := fcsGood, lenOk := decide (k = 4) }
  | none => s

/-- FRAME_RECEIVED: a frame, DA to FCS, has arrived at port `p`. A frame that its pipeline dropped while it arrived, or that starts
while the pipeline recovers, only counts at the port (07 R168). While the port's bus side sleeps, a good frame of Ethernet wakes and
any other is discarded (04 R98). -/
def execFrameReceived (p : Fin 40) (bs : List Byte) (fcsGood : Bool) (s : State) : Out :=
  let idle := (s.arriving p).isNone
  if !(s.on F.ETH_CTL_RX_EN p && s.on F.ETH_STAT_LINK p) then .next (s.cutArriving p)
  else if s.portRestructuring p && idle then .next s
  else
    let gone := (s.port p).gone
    let s := if gone then s.setPort p { s.port p with gone := false } else s
    match s.rxFail p bs fcsGood with
    | some k => if s.portLive p || !idle then .next ((s.ethCnt p k).arrivedBad p k fcsGood) else .next (s.ethCnt p 15)
    | none =>
      if !s.portLive p && idle then .next (s.wakeFrame p bs)
      else if s.consumed bs then .next (s.consume p bs)
      else if gone then .next (s.rxCount p bs)
      else if s.recovering (pipeOf p) && idle then .next ((s.rxCount p bs).bump F.PP_CNT_COUNT (10 * pipeOf p + 7))
      else .next ((s.rxCount p bs).arrived p bs)

/-- STRIKE_BLOCK_RX: a port whose partner is a Vangino peer discards the frame it is receiving (R161). -/
def execStrikeBlockRx (p : Fin 8) (s : State) : Out :=
  if s.on F.ETH_STAT_PEER p && s.on F.ETH_CTL_RX_EN p then
    let s := s.ethCnt p 11
    match s.arriving p with
    | some (n, f) => .next (s.setFlight n { f with whole := true, fcsOk := false, integ := true }).settleAll
    | none => .next s
  else .next (s.ethCnt p 7)

/-! ## The grant (R157, R158, R165) -/

/-- Frames of port `p` are declined after a strike, until the struck frame's copy is dealt with (R162). -/
def State.strikeHold (s : State) (p : Nat) : Bool :=
  s.flight.any (fun f => decide (f.port = p) && (match f.spec with | some x => decide (x.st = .struck) | none => false))

/-- The conditions from the predicted port on, in the order of R157: the code of the first that fails. `free` says that the port's
transmitter will be free at the release point; `lost`, that the frame loses the last slot in a contest of this cycle, which is code 0x0E
and not 0x0C (R158). -/
def State.egressCode (s : State) (i p m cls : Nat) (free lost : Bool) : Option Nat :=
  if m = p then some 0x05
  else if 40 ≤ m ∨ s.bit F.PP_QS_EGR_EN_PORT i m = false then some 0x06
  else if !s.specReady m cls then some 0x07
  else if !free then some 0x08
  else if !s.queueEmpty (8 * m + cls) then some 0x09
  else if !s.cbsReady m cls then some 0x0A
  else if s.portMbps p < s.portMbps m then some 0x0B
  else if 2 ≤ s.slotsUsed m ∧ lost = false then some 0x0C
  else if s.strikeHold p then some 0x0D
  else if lost then some 0x0E
  else none

/-- What the grant check of a frame finds: the code of the first condition that fails, or the transmission granted. -/
def State.grantOf (s : State) (p : Nat) (h : Hdr) (ent : Option Stroke) (free lost mFree mLost : Bool) : Nat ⊕ Spec :=
  let i := pipeOf p
  let cls := s.initClass i p h
  if s.qsOff p then .inl 0x01
  else if h.da.testBit 40 || (decide (0x0180C2000000 ≤ h.da) && decide (h.da ≤ 0x0180C200000F)) then .inl 0x02
  else match ent with
    | none => .inl 0x03
    | some e =>
      if e.noSpec || s.cipTx e.egr || s.pairBars p e.egr h.hsr then .inl 0x04
      else match s.egressCode i p e.egr cls free lost with
        | some c => .inl c
        | none =>
          let m := s.rd F.PP_MIRROR_PORT i
          let want := s.on F.PP_CTL_MIRROR_SPEC i && s.on F.PP_MIRROR_EN i && s.on F.PP_PORT_CFG_MIRROR_IN (ppElem i p) && decide (m ≠ e.egr) && !s.cipTx m && !s.pairBars p m false
          let ok := want && (s.egressCode i p m cls mFree mLost).isNone
          .inr ⟨e.egr, cls, e.tagop, e.newVid, .granted, if ok then some m else none, [], 0⟩

/-- QS_GRANT_CHECK: the frame that arrives on port `p`, as it will stand after MACsec; whether the predicted port's transmitter
will be free at the release point, and whether a same-cycle contest for its slot is lost (R158); the same for the mirror
port. -/
def execQsGrantCheck (p : Fin 40) (bs : List Byte) (secured free lost mFree mLost : Bool) (s : State) : Out :=
  let i := pipeOf p
  if !(s.on F.ETH_CTL_RX_EN p && s.on F.ETH_STAT_LINK p) || !s.portLive p || s.portRestructuring p || s.consumed bs || (s.presenceOf p bs).isSome || (s.port p).gone || (s.arriving p).isSome then .next s
  else if s.recovering i then .next ((s.setPort p { s.port p with gone := true }).bump F.PP_CNT_COUNT (10 * i + 7))
  else
    let h := s.parse i p secured bs
    let vid := s.frameVid i p h
    let hit := if h.da.testBit 40 then none else s.strokeFind i p h.da vid
    let s := match hit with | some (n, _) => s.strokeTouch n | none => s
    let g := s.grantOf p h (hit.map Prod.snd) free lost mFree mLost
    let f : Flight := { Flight.good p bs 0xFFFF with whole := false, secured := secured, snap := some s.snap }
    match g with
    | .inl c => .next ((s.decline i c).enter f)
    | .inr x => .next (s.enter { f with spec := some x })

/-- The port, and its mirror port, are ready at the release point. -/
def State.specHolds (s : State) (x : Spec) : Bool :=
  s.specReady x.egr x.cls && (match x.mirror with | some m => s.specReady m x.cls | none => true)

/-- A port of the transmission still sends another frame: the first bit cannot leave yet. -/
def State.specBusy (s : State) (x : Spec) : Bool := s.onWire x.egr || (match x.mirror with | some m => s.onWire m | none => false)

/-- QS_RELEASE: the first bit of the oldest granted transmission of port `p`'s frames leaves (R159), with its mirror's (R165); where one of
their ports is not ready any more both send nothing (R161). -/
def execQsRelease (p : Fin 40) (s : State) : Out :=
  match s.flightWith (fun f => decide (f.port = p.val) && (match f.spec with | some x => decide (x.st = .granted) | none => false)) with
  | some (n, f) =>
    match f.spec with
    | some x =>
      if s.specBusy x then .next s
      else .next (s.setFlight n { f with spec := some { x with st := if s.specHolds x then .sending else .withdrawn, sent := s.snap, since := s.now } }).settleAll
    | none => .next s
  | none => .next s

/-! ## Faults and recovery (R167, R168) -/

/-- PIPELINE_STALL: SEVERE against the pipeline, which asks for its recovery. -/
def execPipelineStall (i : Pipe) (s : State) : Out :=
  .next ((s.reportX (0x0F0 + i.idx) (elemId 2 i.idx)).requestFault .forwarding (.pipeline i.idx))

/-- Steps 1 to 4 of a pipeline recovery; frames without a decision are dropped. -/
def State.pipelineRecover (s : State) (i : Nat) : State :=
  let mine (f : Flight) : Bool := decide (pipeOf f.port = i)
  let hit := s.flight.filter (fun f => mine f && !(f.verdict.isSome && f.integ))
  let s := hit.foldl (fun t f => match f.spec with | some x => if x.live then (t.veto f x 0x1C).1 else t | none => t) s
  let s := { s with flight := s.flight.map (fun (f : Flight) =>
    if mine f && !(f.verdict.isSome && f.integ) then { f with spec := f.spec.map (fun (x : Spec) =>
      if x.st = SpecSt.granted then { x with st := .withdrawn } else if x.st = SpecSt.sending then { x with st := .struck } else x) } else f) }
  let gone := s.flight.filter (fun f => mine f && f.verdict.isNone)
  let s := { s with flight := s.flight.filter (fun f => !(mine f && f.verdict.isNone)) }
  let s := gone.foldl (fun (t : State) (f : Flight) =>
    (if !f.whole && decide (f.port < 40) then t.setPort f.port { t.port f.port with gone := true } else t).tsDone f.tsIndex) (s.bumpBy F.PP_CNT_COUNT (10 * i + 7) gone.length)
  (s.strokeFlush i).wr F.PP_STAT_RECOVERING i 1

/-- PIPELINE_RECOVERY_DONE: ingress resumes. -/
def execPipelineRecoveryDone (i : Pipe) (s : State) : Out :=
  .next (if s.recovering i.idx then
    ((s.wr F.PP_STAT_RECOVERING i.idx 0).evt F.PP_STAT_RECOVERY_EVT i.idx).endRecovery .forwarding (.pipeline i.idx) else s)

/-- STENCIL_SCRUB: the scrubber or a lookup finds bad parity in a Stencil rule or a Stroke cache entry (R167). -/
def execStencilScrub (i : Pipe) (stroke : Bool) (n : Fin 8192) (s : State) : Out :=
  if stroke then
    .next ((({ s with strokes := s.strokes.erase (8192 * i.idx + n) }).evt F.PP_STAT_SC_PARITY_EVT i.idx).report
      (0x162 + i.idx) (elemId 11 (0x12 + i.idx)) n)
  else if n.val < 1024 then
    let k := rowKey (0x10 + i.idx) n
    let r := s.rows.get 0 k
    let r := if fieldOf r 16 31 1 = 1 then r - 2 ^ (32 * 16 + 31) else r
    .next ((({ s with rows := s.rows.set 0 k r }).evt F.PP_STAT_STENCIL_PARITY_EVT i.idx).report (0x160 + i.idx) (elemId 11 (0x10 + i.idx)) n)
  else .next s

/-- PPx_CTL.SC_FLUSH. -/
def execScFlush (i : Pipe) (s : State) : Out := .next (s.strokeFlush i.idx)

/-- PPx_CTL.CNT_CLR. -/
def execPpxCntClr (i : Pipe) (s : State) : Out :=
  let s := s.clearWhere F.PP_DECLINE_CNT_COUNT (fun n => decide (n / 14 = i.idx))
  let s := s.clearWhere F.PP_CNT_COUNT (fun n => decide (n / 10 = i.idx))
  .next (s.clearWhere F.PP_STENCIL_CNT_COUNT (fun n => decide (n / 1024 = i.idx)))

/-! ## Seal checks (15 R333, R334) -/

/-- The seal check of flight `f` is pending. -/
def Flight.sealPending (f : Flight) : Bool := f.sealEnt.isSome && f.sealRes.isNone

/-- The numbers of the pending checks, with their lanes. -/
def State.sealPend (s : State) : List (Nat × Nat) :=
  s.sealHeld.map (fun f => (f.port - 40, f.sealNo)) ++ s.sealWait.map (fun w => (w.lane, w.no))
    ++ (s.flight.filter Flight.sealPending).map (fun f => (f.port - 40, f.sealNo))

/-- The number of the oldest pending check of lane `n`. -/
def State.sealFirst (s : State) (n : Nat) : Option Nat :=
  (s.sealPend.filter (fun x => decide (x.1 = n))).foldl (fun b x => match b with | some k => some (min k x.2) | none => some x.2) none

/-- Check number `k`, of a frame of lane `n`, has the result that `judge` gives. A frame that waits before Pipeline A enters it or is
dropped; waiting copies go out or are dropped (R333, R334). -/
def State.sealDone (s : State) (n k : Nat) (judge : State → Nat → LaneFrame → State × Bool) : State :=
  match s.sealHeld.find? (fun f => decide (f.sealNo = k)) with
  | some f =>
    let r := judge { s with sealHeld := s.sealHeld.filter (fun g => decide (g.sealNo ≠ k)) } (f.sealEnt.getD 0) (laneOf f.bytes)
    if r.2 || r.1.sealPassFail n (f.sealEnt.getD 0) then r.1.enter { f with sealRes := some r.2 } else r.1.tsDone f.tsIndex
  | none => match s.sealWait.find? (fun w => decide (w.no = k)) with
    | some w =>
      let r := judge { s with sealWait := s.sealWait.filter (fun x => decide (x.no ≠ k)) } w.entry (laneOf w.frame.bytes)
      let f := { w.frame with sealedOk := r.2 && r.1.on F.CIP_SEAL_HOLD w.entry }
      (if r.2 || r.1.sealPassFail n w.entry then (r.1.store f 0 w.copies 0).1 else r.1).tsDone f.tsIndex
    | none => match s.flightWith (fun f => f.sealPending && decide (f.sealNo = k)) with
      | some (m, f) =>
        let r := judge s (f.sealEnt.getD 0) (laneOf f.bytes)
        r.1.setFlight m { f with sealRes := some r.2 }
      | none => s

/-- SEAL_CHECK_DONE: the oldest pending check of lane `n`. -/
def execSealCheckDone (n : Fin 24) (s : State) : Out :=
  match s.sealFirst n with
  | some k => .next (s.sealDone n k State.sealCheck).settleAll.drainService
  | none => .next s

/-- Every pending check fails with SLOT_FAIL (R338). -/
def State.sealAbort (s : State) : State :=
  s.sealPend.foldl (fun t x => t.sealDone x.1 x.2 (fun u e _ => (u.sealFailed e 6, false))) s

/-- Ports of MACsec unit `g`. -/
def unitPorts (g : Nat) : List Nat := (List.range 40).filter (fun p => decide (unitOf p = g))

end Sys2Proof.Machine
end

