-- ==== Sys2Proof/Machine/Can.lean ====
section
/-! DEFINITION. CAN lanes (spec 05): state, errors and bus-off, filters and limiters, frames received and sent, reference
messages, standby and wake, the bit-rate aid. -/
namespace Sys2Proof.Machine

/-! ## Lane state (05 R102, R103, R113) -/

/-- A counter of CAN lane `n`. -/
def State.canCnt (s : State) (n k : Nat) : State := s.bump F.LSL_CAN_CNT_COUNT (20 * n + k)

/-- The timing fields that EN latches (R103): BRP, TSEG1, TSEG2 and SJW, each minus 1, of NBT, DBT and XBT; TDC and PWM. -/
def State.canTiming (s : State) (n : Nat) : List Nat :=
  [F.LSL_CAN_NBT_BRP_M1, F.LSL_CAN_NBT_TSEG1_M1, F.LSL_CAN_NBT_TSEG2_M1, F.LSL_CAN_NBT_SJW_M1,
   F.LSL_CAN_DBT_BRP_M1, F.LSL_CAN_DBT_TSEG1_M1, F.LSL_CAN_DBT_TSEG2_M1, F.LSL_CAN_DBT_SJW_M1,
   F.LSL_CAN_XBT_BRP_M1, F.LSL_CAN_XBT_TSEG1_M1, F.LSL_CAN_XBT_TSEG2_M1, F.LSL_CAN_XBT_SJW_M1,
   F.LSL_CAN_TDC_EN, F.LSL_CAN_TDC_TDCO, F.LSL_CAN_TDC_TDCF, F.LSL_CAN_PWM_EN, F.LSL_CAN_PWM_PWMO, F.LSL_CAN_PWM_PWML,
   F.LSL_CAN_PWM_PWMS].map (fun f => s.rd f n)

/-- LCLK cycles of a bit of the timing set whose fields start at `i`. -/
def bitCycles (t : List Nat) (i : Nat) : Nat := (t.getD i 0 + 1) * (1 + (t.getD (i + 1) 0 + 1) + (t.getD (i + 2) 0 + 1))

/-- SJW does not exceed TSEG2. -/
def sjwOk (t : List Nat) (i : Nat) : Bool := decide (t.getD (i + 3) 0 ≤ t.getD (i + 2) 0)

/-- The timing is valid (R102, R100): the ranges of each set, and rates of at most 1, 8 and 20 Mbit/s. -/
def timingValid (t : List Nat) : Bool :=
  decide (1 ≤ t.getD 1 0) && [0, 4, 8].all (sjwOk t) && decide (80 ≤ bitCycles t 0) && decide (10 ≤ bitCycles t 4) && decide (4 ≤ bitCycles t 8)

/-- Every limiter of the lane is full (R115). -/
def State.canLimitersFull (s : State) (n : Nat) : State :=
  (List.range 16).foldl (fun t j => t.wr F.LSL_CAN_RL_TOKENS (16 * n + j) (max 1 (t.rd F.LSL_CAN_RL_BURST (16 * n + j)))) s

/-- A lane that is stopped or in standby takes the latched timing, and integrates unless it is invalid or the lane is parked (R113). -/
def State.canStart (s : State) (n : Nat) (t : List Nat) : State :=
  let s := s.setCan n { s.canLane n with timing := t }
  let st := (s.canLane n).st
  if !t.isEmpty && (decide (st = .stopped) || decide (st = .standby)) && !s.laneParked n then s.canTo n .integrating else s

/-- EN changes from 0 to 1. While the frame in progress at an earlier EN = 0 has not ended, the lane stops at its end and starts then. -/
def State.canEnable (s : State) (n : Nat) : State :=
  if s.on F.LSL_CAN_CTL_EN n || decide (s.pers n ≠ 1) then s
  else
    let t := if timingValid (s.canTiming n) then s.canTiming n else []
    let s := (s.wr F.LSL_CAN_CTL_EN n 1).canLimitersFull n
    if (s.canLane n).stopping then s.setCan n { s.canLane n with next := some t } else s.canStart n t

/-- CAN_ENABLE. -/
def execCanEnable (n : Fin 24) (s : State) : Out := .next (s.canEnable n)

/-- The lane has stopped; one that was enabled again meanwhile starts. -/
def State.canStopped (s : State) (n : Nat) : State :=
  let x := s.canLane n
  let s := (s.setCan n { x with stopping := false, next := none, waits := false, arb := none, sof := none, timing := [] }).canTo n .stopped
  match x.next with
  | some t => if s.on F.LSL_CAN_CTL_EN n then s.canStart n t else s
  | none => s

/-- EN is written 0: the lane stops at the end of the frame in progress. -/
def State.canDisable (s : State) (n : Nat) : State :=
  let s := s.wr F.LSL_CAN_CTL_EN n 0
  let x := s.canLane n
  if s.pers n ≠ 1 then s
  else if x.arb.isSome || x.sof.isSome then s.setCan n { x with stopping := true, next := none }
  else s.canStopped n

/-- CAN_DISABLE. -/
def execCanDisable (n : Fin 24) (s : State) : Out := .next (s.canDisable n)

/-- TEC exceeds 255: the lane is bus-off, and with AUTO_RECOV recovers at once (R111, R112). -/
def State.canBusOff (s : State) (n : Nat) : State :=
  let s := ((s.canTo n .busOff).evt F.LSL_CAN_STAT_BUSOFF_EVT n).canCnt n 16
  let s := (s.reportX (0x0B8 + n) (elemId 0 (40 + n))).wr F.LSL_CAN_STAT_BUS_IDLE n 0
  let s := s.wr F.LSL_CAN_ERR_RECOV_CNT n 0
  if s.on F.LSL_CAN_CTL_AUTO_RECOV n then s.canTo n .recovering else s

/-- CAN_INTEGRATED: 11 consecutive recessive bits. An integrating lane is ACTIVE, and bus-off at once if TEC still exceeds 255 (R113);
a recovering one counts the sequence (R112), the 128th being CAN_RECOVERY_DONE; one that waits after an error takes part again
(R107, R108). -/
def execCanIntegrated (n : Fin 24) (s : State) : Out :=
  .next (if s.pers n ≠ 1 then s
    else match (s.canLane n).st with
      | .integrating =>
        let s := (s.canTo n .active).wr F.LSL_CAN_STAT_BUS_IDLE n 1
        if 255 < (s.canLane n).tec then s.canBusOff n else s
      | .recovering => s.wr F.LSL_CAN_ERR_RECOV_CNT n (min 127 (s.rd F.LSL_CAN_ERR_RECOV_CNT n + 1))
      | .active => if (s.canLane n).waits then (s.setCan n { s.canLane n with waits := false }).wr F.LSL_CAN_STAT_BUS_IDLE n 1 else s
      | _ => s)

/-- The lane takes part in its bus: a CAN lane that is ACTIVE, does not wait for 11 recessive bits, and has not been handed over or
stopped for its network but for the frame in progress. -/
def State.canRuns (s : State) (n : Nat) : Bool :=
  let x := s.canLane n
  decide (s.pers n = 1) && decide (x.st = .active) && !x.waits && (!s.portAsleep (40 + n) || x.arb.isSome || x.sof.isSome)

/-- The lane sees its bus: internal loopback does not (R107). -/
def State.canHears (s : State) (n : Nat) : Bool := s.canRuns n && decide (s.rd F.LSL_CAN_CTL_OPMODE n ≠ 3)

/-- OPMODE counts errors: normal and loopback (R107). -/
def State.canCounts (s : State) (n : Nat) : Bool := decide (s.rd F.LSL_CAN_CTL_OPMODE n % 3 = 0)

/-- OPMODE transmits (R107). -/
def State.canSends (s : State) (n : Nat) : Bool := s.canCounts n

/-- The frame on the bus has ended: a lane whose EN was written 0 stops now, and one that is to leave its bus leaves it. -/
def State.canEnded (s : State) (n : Nat) : State :=
  let s := (s.setCan n { s.canLane n with arb := none, sof := none }).canShow n
  if (s.canLane n).stopping then s.canStopped n else if s.laneParked n then s.laneStandby n else s

/-- AUX of the lane (R120, R121): its level, asserted as AUX_POL says; none while the pin is high-impedance, the main die being in reset or
unpowered. -/
def State.canAux (s : State) (n : Nat) : Option Bool :=
  if s.mainUp then some (s.on F.LSL_CAN_STAT_STBY n != s.on F.LSL_PERS_AUX_POL n) else none

/-! ## Filters and limiters (05 R114, R115) -/

/-- FMT of a lane frame. -/
def canFmt (x : LaneFrame) : Nat := if x.kind = 3 then 2 else if x.flags.testBit 0 then 1 else 0

/-- Filter entry `k` of lane `n` is found with bad parity (R116): it is reported once, and matches nothing until it is rewritten. -/
def State.canSpoil (s : State) (n k : Nat) : State :=
  if 64 * n + k ∈ s.canBad then s
  else ({ s with canBad := (64 * n + k) :: s.canBad }).report (0x0B8 + n) (elemId 0 (40 + n)) k

/-- The entries that a look at the filter list finds with bad parity. -/
def State.canParity (s : State) (n : Nat) (bad : List (Fin 64)) : State :=
  bad.foldl (fun (t : State) (k : Fin 64) => t.canSpoil n k.val) s

/-- The entry that a frame of a direction meets: none with bad parity (R116). -/
def State.canFilter (s : State) (n : Nat) (tx : Bool) (x : LaneFrame) : Option Nat :=
  firstIdx (fun k => !decide (k ∈ s.canBad) && s.on F.LSL_CAN_FLT_VALID k && decide (s.rd F.LSL_CAN_FLT_FMT k = canFmt x)
    && s.on (if tx then F.LSL_CAN_FLT_TX else F.LSL_CAN_FLT_RX) k
    && decide (x.key &&& s.rd F.LSL_CAN_FLT_MASK k = s.rd F.LSL_CAN_FLT_ID k &&& s.rd F.LSL_CAN_FLT_MASK k)) (64 * n) 64

/-- What a frame meets: REJECT, and the limiter to charge. -/
def State.canAction (s : State) (n : Nat) (tx : Bool) (x : LaneFrame) : Bool × Option Nat :=
  match s.canFilter n tx x with
  | some k => (s.on F.LSL_CAN_FLT_REJECT k, if s.on F.LSL_CAN_FLT_RL_EN k then some (s.rd F.LSL_CAN_FLT_RL k) else none)
  | none => (s.on (if tx then F.LSL_CAN_FLT_DEF_TX_REJECT else F.LSL_CAN_FLT_DEF_RX_REJECT) n,
      if s.on F.LSL_CAN_FLT_DEF_RL_EN n then some (s.rd F.LSL_CAN_FLT_DEF_RL n) else none)

/-- A frame meets the filters: whether it passes. -/
def State.canPass (s : State) (n : Nat) (tx : Bool) (x : LaneFrame) : State × Bool :=
  match s.canAction n tx x with
  | (true, _) => (s.canCnt n 6, false)
  | (false, none) => (s, true)
  | (false, some j) =>
    let t := s.rd F.LSL_CAN_RL_TOKENS (16 * n + j)
    if t = 0 then ((s.canCnt n (if tx then 14 else 7)).evt F.LSL_CAN_STAT_RL_DROP_EVT n, false)
    else (s.wr F.LSL_CAN_RL_TOKENS (16 * n + j) (t - 1), true)

/-- CAN_RL_REFILL: PERIOD_US have passed for limiter `j`. -/
def execCanRlRefill (n : Fin 24) (j : Fin 16) (s : State) : Out :=
  let e := 16 * n.val + j.val
  .next (s.wr F.LSL_CAN_RL_TOKENS e (min (s.rd F.LSL_CAN_RL_TOKENS e + 1) (max 1 (s.rd F.LSL_CAN_RL_BURST e))))

/-! ## Errors (05 R111, R112; ISO 11898-1) -/

/-- The lane's counters change; beyond 255 it is bus-off. -/
def State.canErrors (s : State) (n tec recC : Nat) : State :=
  let s := (s.setCan n { s.canLane n with tec := tec, recC := recC }).canShow n
  if 255 < tec then s.canBusOff n else s

/-- The counters after a transmission (`tx`) or a reception without error. -/
def State.canGood (s : State) (n : Nat) (tx : Bool) : State :=
  if s.canCounts n then
    let x := s.canLane n
    if tx then s.canErrors n (x.tec - 1) x.recC
    else s.canErrors n x.tec (if 127 < x.recC then 127 else x.recC - 1)
  else s

/-- The entry of the head of class queue `q`, when it is the one that passed. -/
def State.canHeadIs (s : State) (n q : Nat) (e : QEnt) : Bool :=
  match s.headOf q, (s.canLane n).passed.find ((q - 320) % 4) with
  | some (h, _), some (g, _) => decide (h = e) && decide (g = e)
  | _, _ => false

/-- A frame leaves its queue. -/
def State.canRemove (s : State) (n q : Nat) (e : QEnt) : State :=
  if s.canHeadIs n q e then ((s.forgetHead q).take q).finish e (!s.deep q) else s

/-- What was in arbitration was not sent: it is retried, or under ONESHOT dropped (R109, R119). It is retried until the lane goes
bus-off. DESIGN CHOICE: TX_ABANDON counts frames dropped "from its queue"; a reference or presence message given up counts none. -/
def State.canRetry (s : State) (n : Nat) (a : Option CanTx) : State :=
  let x := s.canLane n
  let one := s.on F.LSL_CAN_CTL_ONESHOT n
  let gone := one || decide (x.st ≠ .active)
  match a with
  | some (.queued q e _) => if one then (s.canRemove n q e).canCnt n 13 else s
  | some (.ref _) => s.setCan n (if gone then { x with refOut := none } else { x with refDue := true })
  | some (.presence b) =>
    s.setCan n (if x.presDue.isSome then x else if gone then { x with presOut := false } else { x with presDue := some b, presOut := true })
  | none => s

/-- A frame that was not sent, and that was the frame on the bus. -/
def State.canUnsent (s : State) (n : Nat) : State := (s.canRetry n (s.canLane n).arb).canEnded n

/-- The last error. -/
def State.canLec (s : State) (n lec : Nat) (data : Bool) : State := (s.wr F.LSL_CAN_ERR_LEC n lec).wrb F.LSL_CAN_ERR_LEC_DATA n data

/-- The counters of an error (R111; ISO 11898-1). `special` says of a receiver that ISO 11898-1 counts the error as 8, and of a
transmitter that ISO 11898-1 leaves TEC unchanged. -/
def State.canErrCount (s : State) (n : Nat) (tx special : Bool) : State :=
  let x := s.canLane n
  if !s.canCounts n || (tx && special) then s
  else if tx then s.canErrors n (x.tec + 8) x.recC
  else s.canErrors n x.tec (x.recC + (if special then 8 else 1))

/-- An error while sending or receiving: it is counted, the frame on the bus ends, and in restricted operation the lane waits for 11
recessive bits (R107). -/
def State.canError (s : State) (n lec : Nat) (data tx special : Bool) : State :=
  let a := (s.canLane n).arb
  let s := (((s.canLec n lec data).canCnt n (if tx then 11 else 5))).canErrCount n tx special
  let s := if s.rd F.LSL_CAN_CTL_OPMODE n = 2 ∧ (s.canLane n).st = .active then s.setCan n { s.canLane n with waits := true } else s
  if tx then (s.canRetry n a).canEnded n
  else if (s.canLane n).arb.isNone then s.canEnded n else s.setCan n { s.canLane n with sof := none }

/-- The loop delay is measured in FD frames with bit-rate switch and in XL frames, with TDC.EN as latched (R104). -/
def State.tdcMeasures (s : State) (n : Nat) (a : CanTx) : Bool :=
  let x := laneOf (match a with | .queued _ _ b => b | .ref b => b | .presence b => b)
  decide ((s.canLane n).timing.getD 12 0 ≠ 0) && (decide (x.kind = 3) || (decide (x.kind = 2) && x.flags.testBit 1))

/-- A loop delay of `v` cycles has been measured in the frame being sent; an edge earlier than TDCF, as latched, is ignored (R104). -/
def State.tdcTaken (s : State) (n v : Nat) : State :=
  match (s.canLane n).arb with
  | some a => if s.tdcMeasures n a && decide ((s.canLane n).timing.getD 14 0 ≤ v) then s.wr F.LSL_CAN_STAT_TDCV n v else s
  | none => s

/-- CAN_BUS_ERROR, met while receiving or while sending. -/
def execCanBusError (n : Fin 24) (lec : BitVec 3) (data : Bool) (side : CanSide) (special : Bool) (s : State) : Out :=
  .next (match side with
    | .receives => if s.canHears n then s.canError n lec.toNat data false special else s
    | .sends tdcv =>
      if s.canRuns n && (s.canLane n).arb.isSome then
        (match tdcv with | some v => s.tdcTaken n v.toNat | none => s).canError n lec.toNat data true special
      else s)

/-- TDC_FAIL (R105): no loop-delay edge; a bit 0 error in the data phase of the frame being sent. -/
def execTdcFail (n : Fin 24) (s : State) : Out :=
  .next (if s.canRuns n && (s.canLane n).arb.isSome && decide ((s.canLane n).timing.getD 12 0 = 1) then
    (((s.evt F.LSL_CAN_STAT_TDC_FAIL_EVT n).canCnt n 19).reportX (0x0B8 + n) (elemId 0 (40 + n))).canError n 5 true true false
  else s)

/-- CAN_PROTOCOL_EXCEPTION (R108): an FD or XL frame on a lane whose ROLE lacks the format: the lane waits for 11
recessive bits. With PXH clear the frame is a form error. -/
def execCanProtocolException (what : CanForeign) (s : State) : Out :=
  let n := what.lane
  .next (if !s.canHears n || s.bit F.LSL_PERS_ROLE n (if what.xl then 1 else 0) then s
    else if s.on F.LSL_CAN_CTL_PXH n then
      let s := (s.canCnt n 8).evt F.LSL_CAN_STAT_PXE_EVT n
      let s := s.setCan n { s.canLane n with waits := true, sof := none }
      if (s.canLane n).arb.isNone then s.canEnded n else s
    else s.canError n 2 false false false)

/-- CAN_RECOVERY_START: LSL_CAN_RECOV.START or AUTO_RECOV (R112). -/
def execCanRecoveryStart (n : Fin 24) (s : State) : Out :=
  .next (if s.pers n = 1 ∧ (s.canLane n).st = .busOff then (s.wr F.LSL_CAN_ERR_RECOV_CNT n 0).canTo n .recovering else s)

/-- CAN_RECOVERY_DONE: the 128th recessive sequence. -/
def execCanRecoveryDone (n : Fin 24) (s : State) : Out :=
  .next (if s.pers n = 1 ∧ (s.canLane n).st = .recovering ∧ s.rd F.LSL_CAN_ERR_RECOV_CNT n = 127 then
    (((s.setCan n { s.canLane n with tec := 0, recC := 0 }).wr F.LSL_CAN_ERR_RECOV_CNT n 128).canTo n .active).wr F.LSL_CAN_STAT_BUS_IDLE n 1
  else s)

/-! ## Receiving (05 R114, R117; 15 R329, R333) -/

/-- What compensation moves the time-stamps of a lane's frames (12 R276); the latency is in 0.1 ns. -/
def State.laneComp (s : State) (n lat : Nat) : Int := s.rxTrim (40 + n) - tenths lat

/-- The lane supports the frame's format, and its data field fits the format (R100, R101). -/
def State.canFormat (s : State) (n : Nat) (x : LaneFrame) : Bool :=
  match x.kind with
  | 1 => decide (x.data.length ≤ 8)
  | 2 => s.bit F.LSL_PERS_ROLE n 0 && decide (x.data.length ≤ 64)
  | 3 => s.bit F.LSL_PERS_ROLE n 1 && decide (1 ≤ x.data.length) && decide (x.data.length ≤ 2048)
  | 4 => decide (x.data.length = 0)
  | _ => false

/-- The CAN networks whose presence message a frame of lane `n` is, with the node (19 R384). -/
def State.canPresence (s : State) (n : Nat) (x : LaneFrame) : List (Nat × Nat) :=
  if x.kind = 1 ∧ x.flags.testBit 0 = false ∧ x.data.length = 2 then
    ((List.range 16).filter (fun k =>
      let b := min 0x7C0 (s.rd F.NSL_NET_ID_BASE k)
      s.netOn k && s.netHas k (40 + n) && decide (b ≤ x.key) && decide (x.key < b + 64))).map (fun k => (k, beNat (x.data.take 1)))
  else []

/-- A frame received whole on lane `n`, whose SOF was sampled at `sn` (R117). -/
def State.canRx (s : State) (n : Nat) (x : LaneFrame) (sn : Snap) : State :=
  let s := (s.canGood n false).canCnt n 0
  let s := s.bumpBy F.LSL_CAN_CNT_COUNT (20 * n + 1) x.data.length
  let s := if x.kind = 2 then s.canCnt n 2 else if x.kind = 3 then s.canCnt n 3 else if x.kind = 4 then s.canCnt n 4 else s
  let s := s.wr F.LSL_CAN_STAT_BUS_IDLE n 1
  match s.captureAt sn false (40 + n) (s.capMask.get 0 (40 + n)) (s.laneComp n 250) with
  | (s, ts) =>
    match s.canPass n false x with
    | (s, false) => s.tsDone ts
    | (s, true) =>
      let e := s.sealEntry false n x
      if s.secure (40 + n) && e.isNone then (s.sealCnt 5).tsDone ts
      else
        let s := (s.canPresence n x).foldl (fun t k => t.presRx k.1 (40 + n) k.2 (beNat ((x.data.drop 1).take 1))) s
        let f : Flight := { Flight.good (40 + n) (LaneFrame.bytes x n ts) ts with sealEnt := e, sealNo := s.sealNo }
        let s := { s with sealNo := s.sealNo + b2n e.isSome }
        if e.isSome && s.sealHolds n (e.getD 0) then { s with sealHeld := s.sealHeld ++ [f] } else s.enter f

/-- The lane may take the frame on its bus: new ones not while the device leaves for DOZE or SLEEP (R122) or the group is restructured
(02 R54); the one in progress ends. -/
def State.canTakes (s : State) (n : Nat) : Bool :=
  s.canHears n && ((s.canLane n).sof.isSome || (!s.dozing && !s.portRestructuring (40 + n)))

/-- CAN_FRAME_RX: the sample point of the SOF bit of a frame on the bus, whose other operands say nothing yet, or a frame that has been
received whole. -/
def execCanFrameRx (n : Fin 24) (seen : CanSeen) (flags sdt : BitVec 8) (key : BitVec 29) (af : Word) (data : List Byte) (bad : List (Fin 64))
    (s : State) : Out :=
  let l := s.canLane n
  match seen with
  | .sof =>
    .next (if s.canTakes n && l.sof.isNone && l.arb.isNone then
      (s.setCan n { l with sof := some s.snap }).wr F.LSL_CAN_STAT_BUS_IDLE n 0 else s)
  | .frame kind =>
    let x : LaneFrame := ⟨kind.toNat, flags.toNat % 16, sdt.toNat, key.toNat, af.toNat, data⟩
    if s.canTakes n && s.canFormat n x then
      let s := (s.canParity n bad).canRx n x (l.sof.getD s.snap)
      .next (if l.arb.isNone then s.canEnded n else s)
    else .next s

/-! ## Transmitting (05 R101, R110, R115; 15 R329, R332) -/

/-- The lane frame that a queue entry sends: a hardware-route copy may carry a new key (11 R250). -/
def laneOut (f : Frame) (e : QEnt) : LaneFrame :=
  let x := laneOf f.bytes
  match e.ed.newKey with
  | some k => { x with key := k }
  | none => x

/-- The filters and the seal of a frame about to be transmitted that no hardware route made (R114, 15 R329, R330, R332): the frame as it
goes out, and whether a TX entry has sealed it; none when it is dropped. -/
def State.canChecked (s : State) (n : Nat) (x : LaneFrame) : State × Option (LaneFrame × Bool) :=
  match s.canPass n true x with
  | (s, false) => (s, none)
  | (s, true) =>
    match s.sealEntry true n x with
    | some i => match s.sealTx i x with
      | (s, some y) => (s, some (y, true))
      | (s, none) => (s, none)
    | none => if s.secure (40 + n) then (s.sealCnt 5, none) else (s, some (x, false))

/-- What becomes of the head of a lane queue: the frame to send, or none when it is dropped (counted). -/
def State.canPrepare (s : State) (n : Nat) (f : Frame) (e : QEnt) : State × Option LaneFrame :=
  let x := laneOut f e
  if !s.canFormat n x then (s.canCnt n 15, none)
  else if e.ed.route then
    match s.canPass n true x with
    | (s, false) => (s, none)
    | (s, true) => if s.secure (40 + n) && !f.sealedOk then (s.sealCnt 5, none) else (s, some x)
  else
    let r := s.canChecked n x
    (r.1, r.2.map Prod.fst)

/-- The head of class `c` passes the lane's checks once; heads that fail are dropped; `fuel` bounds them. -/
def State.canHead (s : State) (n c : Nat) : Nat → State
  | 0 => s
  | fuel + 1 =>
    let q := 320 + 4 * n + c
    let s := s.pruned q
    match s.headOf q with
    | none => s
    | some (e, f) =>
      if s.canHeadIs n q e then s
      else
        let r := s.canPrepare n f e
        match r.2 with
        | some x =>
          let l := r.1.canLane n
          r.1.setCan n { l with passed := l.passed.put c (e, LaneFrame.bytes x n 0xFFFF) }
        | none => State.canHead (((r.1.forgetHead q).take q).finish e (!r.1.deep q)) n c fuel

/-- Frames of a queue, all told. -/
def State.qLen (s : State) (q : Nat) : Nat := (s.queue q).head.length + (s.queue q).mid.length + (s.queue q).tail.length

/-- The reference message (R118). The time of a first message, whose VALID is 0, is a free value.
DESIGN CHOICE: of the header bits that R118 leaves open, an FD message goes out with BRS 0 and ESI 0, an XL message with SDT 0, SEC 0 and
AF 0. -/
def State.refMessage (s : State) (n : Nat) : LaneFrame :=
  let l := s.canLane n
  let t := s.rd F.LSL_CAN_TM_RULER n
  let fmt := s.rd F.LSL_CAN_TM_FMT n
  let v := match l.tmPrev with | some p => (snapAt p t).runs | none => false
  let time := match l.tmPrev with | some p => (snapAt p t).time | none => Config.refTime s.freeCtr
  let stepped := match l.tmPrev with | some p => decide ((s.ruler t).stepCount ≠ (snapAt p t).steps) | none => false
  let ext := decide (fmt ≠ 2) && s.on F.LSL_CAN_TM_ID_IDE n
  let id := s.rd F.LSL_CAN_TM_ID_ID n
  let data := if fmt = 0 then (if v then beBytes 4 (timeNs time) ++ beBytes 4 (timeSec time % 2 ^ 32) else beBytes 8 (2 ^ 64 - 1))
    else beBytes 1 l.tmSeq ++ beBytes 1 (b2n v + 2 * b2n stepped) ++ beBytes 6 (timeSec time) ++ beBytes 4 (timeNs time)
  { kind := fmt + 1, flags := b2n ext, sdt := 0, key := if fmt = 2 then id % 2 ^ 19 else if ext then id else id % 2 ^ 11, af := 0, data := data }

/-- The lane's role has the format of its reference messages. -/
def State.tmFormat (s : State) (n : Nat) : Bool :=
  match s.rd F.LSL_CAN_TM_FMT n with
  | 0 => true | 1 => s.bit F.LSL_PERS_ROLE n 0 | 2 => s.bit F.LSL_PERS_ROLE n 1 | _ => false

/-- A presence message that is due enters arbitration (19 R386); one that has not passed the lane's checks yet meets them now. -/
def State.presChoose (s : State) (n : Nat) : State :=
  let l := s.canLane n
  match l.presDue with
  | none => s
  | some b =>
    if l.presOut then s.setCan n { l with presDue := none, arb := some (.presence b) }
    else
      let r := s.canChecked n (laneOf b)
      r.1.setCan n { r.1.canLane n with presDue := none, arb := r.2.map (fun y => .presence (LaneFrame.bytes y.1 n 0xFFFF)) }

/-- A reference message that is due enters arbitration (R119). It meets the filters and limiters once (R114); one that a TX entry has
sealed goes out again with the same bytes (15 R332). A format that ROLE lacks is not sent (R101, R118). -/
def State.refChoose (s : State) (n : Nat) : State :=
  let l := s.canLane n
  if !l.refDue then s
  else if !s.tmFormat n then (s.setCan n { l with refDue := false, refOut := none }).canCnt n 18
  else
    let x := s.refMessage n
    match l.refOut with
    | some b => s.drawn.setCan n { l with refDue := false, arb := some (.ref (if b.isEmpty then LaneFrame.bytes x n 0xFFFF else b)) }
    | none =>
      let r := s.canChecked n x
      let m := r.1.canLane n
      r.1.drawn.setCan n (match r.2 with
        | some (y, sealed) =>
          let b := LaneFrame.bytes y n 0xFFFF
          { m with refDue := false, refOut := some (if sealed then b else []), arb := some (.ref b) }
        | none => { m with refDue := false })

/-- The head of the highest class that has passed the lane's checks enters arbitration (R110). -/
def State.queueChoose (s : State) (n : Nat) : State :=
  let s := (List.range 4).reverse.foldl (fun t c => t.canHead n c (t.qLen (320 + 4 * n + c))) s
  let l := s.canLane n
  let best := (List.range 4).reverse.find? (fun c => match l.passed.find c with
    | some (e, _) => s.canHeadIs n (320 + 4 * n + c) e | none => false)
  match best with
  | some c => match l.passed.find c with
    | some (e, b) => s.setCan n { l with arb := some (.queued (320 + 4 * n + c) e b) }
    | none => s
  | none => s

/-- The next source of frames, when none has been chosen yet. -/
def State.chooseIf (s : State) (n : Nat) (g : State → Nat → State) : State := if (s.canLane n).arb.isSome then s else g s n

/-- The frame that enters arbitration: a presence message, a reference message, the head of the highest class. -/
def State.canChoose (s : State) (n : Nat) : State := ((s.presChoose n).chooseIf n State.refChoose).chooseIf n State.queueChoose

/-- CAN_TX_HEAD: at bus idle, heads pass the lane's checks and one frame enters arbitration with its SOF (R117). `bad` are the filter
entries found with bad parity. -/
def execCanTxHead (n : Fin 24) (bad : List (Fin 64)) (s : State) : Out :=
  let l := s.canLane n
  if s.canRuns n && s.canSends n && !s.dozing && !s.portRestructuring (40 + n) && l.arb.isNone && l.sof.isNone && s.on F.LSL_CAN_CTL_EN n then
    let s := (s.canParity n bad).canChoose n
    let s := (if (s.canLane n).arb.isSome then s.setCan n { s.canLane n with sof := some s.snap } else s).canShow n
    .next ((if (s.canLane n).arb.isSome then s.wr F.LSL_CAN_STAT_BUS_IDLE n 0 else s).drainService)
  else .next s

/-- A transmit record that a frame asked for (12 R272, R274), of the time-stamp point `sn`. -/
def State.laneTxStamp (s : State) (sn : Snap) (n lat : Nat) (asked : Bool) : State :=
  if !asked then s
  else match s.captureAt sn true (40 + n) (s.capMask.get 0 (40 + n)) (s.laneComp n lat) with
    | (s, i) =>
      let c := s.txReqCount.get 0 (40 + n)
      let s := { s with txReqCount := s.txReqCount.set 0 (40 + n) ((c + 1) % 65536) }
      if i = 0xFFFF then s else s.egressReport ⟨40 + n, 2, i, c, 0xFF, 0⟩

/-- A transmission has succeeded: it counts, its frame leaves its queue, and loopback receives it (R107). Its time-stamps are those of the
SOF of this attempt (R117). -/
def State.canSent (s : State) (n : Nat) (a : CanTx) : State :=
  let sn := (s.canLane n).sof.getD s.snap
  let b := match a with | .queued _ _ b => b | .ref b => b | .presence b => b
  let s := if s.rd F.LSL_CAN_CTL_OPMODE n = 3 then s else s.send (40 + n) b
  let s := (s.canGood n true).canCnt n 9
  let s := s.bumpBy F.LSL_CAN_CNT_COUNT (20 * n + 10) (laneOf b).data.length
  let s := match a with
    | .queued q e _ =>
      let asked := match s.frames.find e.first with | some f => f.txReq && s.canHeadIs n q e | none => false
      ((s.laneTxStamp sn n 250 asked).canRemove n q e).drainService
    | .ref _ =>
      let l := s.canLane n
      let prev : Snap := sn.map (fun (r : RulerSnap) => { r with time := moveTime r.time (s.laneComp n 250) })
      (s.setCan n { l with tmSeq := (l.tmSeq + 1) % 256, tmPrev := some prev, refOut := none }).canCnt n 17
    | .presence _ => (s.setCan n { s.canLane n with presOut := false }).bump F.NSL_CNT_COUNT 1
  let s := (s.canEnded n).wr F.LSL_CAN_STAT_BUS_IDLE n 1
  if s.rd F.LSL_CAN_CTL_OPMODE n = 3 ∧ s.dozing = false then s.canRx n (laneOf b) sn else s

/-- CAN_TX_SUCCESS: `tdcv` is the loop delay that the lane has measured in the frame. -/
def execCanTxSuccess (n : Fin 24) (tdcv : BitVec 7) (s : State) : Out :=
  match (s.canLane n).arb with
  | some a => .next (if s.canRuns n then (s.tdcTaken n tdcv.toNat).canSent n a else s)
  | none => .next s

/-- CAN_ARB_LOST: the frame on the bus goes on as another node's. -/
def execCanArbLost (n : Fin 24) (s : State) : Out :=
  let a := (s.canLane n).arb
  .next (if s.canRuns n && a.isSome then
    let s := (s.canCnt n 12).canRetry n a
    (s.setCan n { s.canLane n with arb := none }).canShow n
  else s)

/-! ## Time master (05 R118, R119) -/

/-- CAN_TM_DUE: PERIOD_MS have passed. -/
def execCanTmDue (n : Fin 24) (s : State) : Out :=
  let l := s.canLane n
  let unsent := l.refDue || (match l.arb with | some (.ref _) => true | _ => false)
  .next (if !(decide (s.pers n = 1) && s.bit F.LSL_PERS_ROLE n 2 && s.on F.LSL_CAN_TM_EN n && s.on F.LSL_CAN_CTL_EN n && s.canSends n) then s
    else if !s.tmFormat n || unsent then s.canCnt n 18
    else s.setCan n { l with refDue := true, refOut := none })

/-! ## Standby and wake (05 R121, R122; 19 R393) -/

/-- CAN_WAKE_DOMINANT: while an entry runs and the AOC has not taken over, a dominant level is a wake of the lane. -/
def execCanWakeDominant (n : Fin 24) (s : State) : Out :=
  if !(decide (s.pers n = 1) && s.on F.LSL_CAN_WAKE_EN n) || s.laneArmed n then .next s
  else if s.dozing then .next (s.aocWake 1 n)
  else .next (if s.portAsleep (40 + n) then s.memberWake (40 + n) 1 n else s)

/-- AOC_LANE_WAKE: the AOC, or a T1S or MVB lane that has not handed its RXD over yet (06 R144), detects a wake on lane `n`. -/
def execAocLaneWake (n : Fin 24) (s : State) : Out :=
  let own := decide (2 ≤ s.pers n) && s.laneWakes n && s.laneParked n
  if !s.laneArmed n && !own then .next s
  else if s.dozing || decide (s.phase ≠ .running) then .next (s.aocWake 1 n)
  else .next (s.memberWake (40 + n) 1 n)

/-- CAN_AUX_ARMED: ARM_US after AUX was asserted, the AOC's detector takes over. -/
def execCanAuxArmed (n : Fin 24) (s : State) : Out :=
  .next (if s.pers n = 1 ∧ s.on F.LSL_CAN_WAKE_EN n = true ∧ (s.canLane n).st = .standby then s.setArmed n true else s)

/-! ## Bit-rate detection aid (05 R123) -/

/-- BRD_START: in listen-only only. -/
def execBrdStart (n : Fin 24) (s : State) : Out :=
  .next (if s.pers n = 1 ∧ s.rd F.LSL_CAN_CTL_OPMODE n = 1 then s.wr F.LSL_CAN_BRD_START n 1 else s)

/-- BRD_DONE: the edges seen and the shortest interval. -/
def execBrdDone (n : Fin 24) (edges : Nat) (minEdge : BitVec 16) (s : State) : Out :=
  .next (if s.on F.LSL_CAN_BRD_START n then
    (((s.wr F.LSL_CAN_BRD_START n 0).wr F.LSL_CAN_BRD_EDGES n (min edges 255)).wr F.LSL_CAN_BRD_MIN_EDGE n minEdge.toNat).evt F.LSL_CAN_STAT_BRD_DONE n
  else s)

/-- LSL_CAN_CTL.CNT_CLR. -/
def execCanCntClr (n : Fin 24) (s : State) : Out := .next (s.clearWhere F.LSL_CAN_CNT_COUNT (fun e => decide (e / 20 = n.val)))

end Sys2Proof.Machine
end

