-- ==== Sys2Proof/Machine/NibDecode.lean ====
section
/-! DEFINITION. What the instructions of a Nib engine are (spec 10 R221, R226 to R228): the words of RV32IMC, Zicsr and Xvgn as
operations. A compressed instruction is the 32-bit instruction that it expands to. -/
namespace Sys2Proof.Machine

/-- The two-operand functions of RV32I. -/
inductive AluF where
  | add | sub | sll | slt | sltu | xor | srl | sra | or | and
  deriving DecidableEq, Repr

/-- What an instruction does, with its register numbers and its sign-extended immediate. -/
inductive NibOp where
  | lui (rd : Nat) (imm : Word)
  | auipc (rd : Nat) (imm : Word)
  | aluI (f : AluF) (rd rs1 : Nat) (imm : Word)
  | aluR (f : AluF) (rd rs1 rs2 : Nat)
  | branch (f3 rs1 rs2 : Nat) (off : Word)
  | jal (rd : Nat) (off : Word)
  | jalr (rd rs1 : Nat) (imm : Word)
  | mret
  | load (f3 rd rs1 : Nat) (imm : Word)
  | store (f3 rs1 rs2 : Nat) (imm : Word)
  | mul (f3 rd rs1 rs2 : Nat)
  | div (f3 rd rs1 rs2 : Nat)
  | csr (f3 rd src num : Nat)
  | fence
  | wfi
  | ecall
  | ebreak
  | bext (rd rs1 rs2 : Nat)
  | bswap (rd rs1 code : Nat)
  | bins (rs1 rs2 rs3 : Nat)
  | scale (rd rs1 rs2 : Nat)
  | scaleu (rd rs1 rs2 : Nat)
  | crcb (p rd rs1 rs2 : Nat)
  | crcw (p rd rs1 rs2 : Nat)
  | crcm (p rd rs1 rs2 : Nat)
  | trd (rd rs1 : Nat)
  | tlat (rd rs1 : Nat)
  | await (rd rs1 : Nat)
  | pollev (rd rs1 : Nat)
  | ring (rs1 rs2 : Nat)
  | tset (rs1 rs2 : Nat)
  | pop (rd rs1 : Nat)
  | rel (rd : Nat)
  | push (rd rs1 : Nat)
  | qlen (rd rs1 : Nat)
  | sput (rs1 rs2 : Nat)
  | sage (rd rs1 : Nat)
  | amoadd (rd rs1 rs2 : Nat)
  | illegal
  deriving DecidableEq, Repr

/-- An `n`-bit number, sign-extended. -/
def sxWord (n v : Nat) : Word := (BitVec.ofNat n v).signExtend 32

/-! ## The 32-bit formats -/

/-- The immediates of the I, S, B, U and J formats. -/
def immI (w : Nat) : Word := sxWord 12 (bits w 20 12)
def immS (w : Nat) : Word := sxWord 12 (bits w 25 7 * 32 + bits w 7 5)
def immB (w : Nat) : Word := sxWord 13 (bits w 31 1 * 4096 + bits w 7 1 * 2048 + bits w 25 6 * 32 + bits w 8 4 * 2)
def immU (w : Nat) : Word := BitVec.ofNat 32 (bits w 12 20 * 4096)
def immJ (w : Nat) : Word := sxWord 21 (bits w 31 1 * 2 ^ 20 + bits w 12 8 * 4096 + bits w 20 1 * 2048 + bits w 21 10 * 2)

/-- The CSRs of R226. -/
def csrReadOnly : List Nat := [0x301, 0xF11, 0xF12, 0xF13, 0xF14, 0x300, 0x304, 0x344]
def csrWritable : List Nat := [0x305, 0x341, 0x342, 0x343, 0x340, 0xB00, 0xB80, 0xB02, 0xB82]

/-- A Zicsr instruction writes its CSR: CSRRW always, the others unless the source field is 0. -/
def csrWrites (f3 src : Nat) : Bool := decide (f3 % 4 = 1) || decide (src ≠ 0)

/-- The functions of OP-IMM and OP by funct3, where funct7 is 0; with funct7 0x20 they are SUB and SRA. -/
def aluOf (f3 : Nat) : AluF :=
  match f3 with
  | 0 => .add | 1 => .sll | 2 => .slt | 3 => .sltu | 4 => .xor | 5 => .srl | 6 => .or | _ => .and

/-- Opcode OP-IMM. -/
def decodeOpImm (w rd f3 rs1 f7 : Nat) : NibOp :=
  if f3 = 1 then (if f7 = 0 then .aluI .sll rd rs1 (BitVec.ofNat 32 (bits w 20 5)) else .illegal)
  else if f3 = 5 then
    (if f7 = 0 then .aluI .srl rd rs1 (BitVec.ofNat 32 (bits w 20 5))
     else if f7 = 0x20 then .aluI .sra rd rs1 (BitVec.ofNat 32 (bits w 20 5)) else .illegal)
  else .aluI (aluOf f3) rd rs1 (immI w)

/-- Opcode OP. -/
def decodeOp (rd f3 rs1 rs2 f7 : Nat) : NibOp :=
  if f7 = 0 then .aluR (aluOf f3) rd rs1 rs2
  else if f7 = 1 then (if f3 < 4 then .mul f3 rd rs1 rs2 else .div f3 rd rs1 rs2)
  else if f7 = 0x20 ∧ f3 = 0 then .aluR .sub rd rs1 rs2
  else if f7 = 0x20 ∧ f3 = 5 then .aluR .sra rd rs1 rs2
  else .illegal

/-- Opcode SYSTEM. -/
def decodeSystem (w rd f3 rs1 : Nat) : NibOp :=
  let num := bits w 20 12
  if f3 = 0 then
    (if w = 0x00000073 then .ecall else if w = 0x00100073 then .ebreak
     else if w = 0x30200073 then .mret else if w = 0x10500073 then .wfi else .illegal)
  else if f3 = 4 then .illegal
  else if num ∈ csrWritable ∨ (num ∈ csrReadOnly ∧ csrWrites f3 rs1 = false) then .csr f3 rd rs1 num
  else .illegal

/-- Custom-0: the table of R228. -/
def decodeVg (rd f3 rs1 rs2 f7 : Nat) : NibOp :=
  match f3, f7 with
  | 0, 0 => .bext rd rs1 rs2
  | 0, 1 => if rs2 < 2 then .bswap rd rs1 rs2 else .illegal
  | 1, 0 => .scale rd rs1 rs2
  | 1, 1 => .scaleu rd rs1 rs2
  | 2, f => if f < 4 then .crcb f rd rs1 rs2
    else if 0x10 ≤ f ∧ f < 0x14 then .crcw (f - 0x10) rd rs1 rs2
    else if 0x20 ≤ f ∧ f < 0x24 then .crcm (f - 0x20) rd rs1 rs2
    else .illegal
  | 3, 0 => .trd rd rs1
  | 3, 1 => .tlat rd rs1
  | 4, 0 => .await rd rs1
  | 4, 1 => .pollev rd rs1
  | 4, 2 => .ring rs1 rs2
  | 4, 3 => .tset rs1 rs2
  | 5, 0 => .pop rd rs1
  | 5, 1 => .rel rd
  | 5, 2 => .push rd rs1
  | 5, 3 => .qlen rd rs1
  | 6, 0 => .sput rs1 rs2
  | 6, 1 => .sage rd rs1
  | 6, 2 => .amoadd rd rs1 rs2
  | _, _ => .illegal

/-- The operation of a 32-bit instruction word. -/
def nibDecode32 (w : Nat) : NibOp :=
  let rd := bits w 7 5
  let f3 := bits w 12 3
  let rs1 := bits w 15 5
  let rs2 := bits w 20 5
  let f7 := bits w 25 7
  match bits w 0 7 with
  | 0x37 => .lui rd (immU w)
  | 0x17 => .auipc rd (immU w)
  | 0x6F => .jal rd (immJ w)
  | 0x67 => if f3 = 0 then .jalr rd rs1 (immI w) else .illegal
  | 0x63 => if f3 = 2 ∨ f3 = 3 then .illegal else .branch f3 rs1 rs2 (immB w)
  | 0x03 => if f3 = 3 ∨ 5 < f3 then .illegal else .load f3 rd rs1 (immI w)
  | 0x23 => if 2 < f3 then .illegal else .store f3 rs1 rs2 (immS w)
  | 0x13 => decodeOpImm w rd f3 rs1 f7
  | 0x33 => decodeOp rd f3 rs1 rs2 f7
  | 0x0F => if f3 = 0 then .fence else .illegal
  | 0x73 => decodeSystem w rd f3 rs1
  | 0x0B => decodeVg rd f3 rs1 rs2 f7
  | 0x2B => if f3 = 0 ∧ bits w 25 2 = 0 then .bins rs1 rs2 (bits w 27 5) else .illegal
  | _ => .illegal

/-! ## The compressed formats -/

/-- The words of the R, I, S, B and J formats. -/
def encR (f7 rs2 rs1 f3 rd op : Nat) : Nat := f7 * 2 ^ 25 + rs2 * 2 ^ 20 + rs1 * 2 ^ 15 + f3 * 2 ^ 12 + rd * 2 ^ 7 + op
def encI (imm rs1 f3 rd op : Nat) : Nat := imm % 4096 * 2 ^ 20 + rs1 * 2 ^ 15 + f3 * 2 ^ 12 + rd * 2 ^ 7 + op
def encS (imm rs2 rs1 f3 op : Nat) : Nat := bits imm 5 7 * 2 ^ 25 + rs2 * 2 ^ 20 + rs1 * 2 ^ 15 + f3 * 2 ^ 12 + bits imm 0 5 * 2 ^ 7 + op
def encB (imm rs2 rs1 f3 : Nat) : Nat :=
  bits imm 12 1 * 2 ^ 31 + bits imm 5 6 * 2 ^ 25 + rs2 * 2 ^ 20 + rs1 * 2 ^ 15 + f3 * 2 ^ 12 + bits imm 1 4 * 2 ^ 8 + bits imm 11 1 * 2 ^ 7 + 0x63
def encJ (imm rd : Nat) : Nat :=
  bits imm 20 1 * 2 ^ 31 + bits imm 1 10 * 2 ^ 21 + bits imm 11 1 * 2 ^ 20 + bits imm 12 8 * 2 ^ 12 + rd * 2 ^ 7 + 0x6F

/-- The low `m` bits of the sign extension of an `n`-bit number. -/
def sxNat (n v m : Nat) : Nat := (sxWord n v).toNat % 2 ^ m

/-- The 6-bit immediate of quadrant 1; the offset of C.J and C.JAL; the offset of C.BEQZ and C.BNEZ. -/
def imm6 (h : Nat) : Nat := bits h 12 1 * 32 + bits h 2 5
def offJ (h : Nat) : Nat :=
  bits h 12 1 * 2048 + bits h 11 1 * 16 + bits h 9 2 * 256 + bits h 8 1 * 1024 + bits h 7 1 * 64 + bits h 6 1 * 128 + bits h 3 3 * 2 + bits h 2 1 * 32
def offB (h : Nat) : Nat := bits h 12 1 * 256 + bits h 10 2 * 8 + bits h 5 2 * 64 + bits h 3 2 * 2 + bits h 2 1 * 32

/-- Quadrant 0. -/
def expand0 (h : Nat) : Option Nat :=
  let rd := 8 + bits h 2 3
  let rs1 := 8 + bits h 7 3
  let off := bits h 10 3 * 8 + bits h 6 1 * 4 + bits h 5 1 * 64
  match bits h 13 3 with
  | 0 =>
    let imm := bits h 11 2 * 16 + bits h 7 4 * 64 + bits h 6 1 * 4 + bits h 5 1 * 8
    if imm = 0 then none else some (encI imm 2 0 rd 0x13)
  | 2 => some (encI off rs1 2 rd 0x03)
  | 6 => some (encS off rd rs1 2 0x23)
  | _ => none

/-- The arithmetic of quadrant 1. -/
def expandArith (h : Nat) : Option Nat :=
  let r := 8 + bits h 7 3
  let r2 := 8 + bits h 2 3
  match bits h 10 2 with
  | 0 => if bits h 12 1 = 1 then none else some (encR 0 (bits h 2 5) r 5 r 0x13)
  | 1 => if bits h 12 1 = 1 then none else some (encR 0x20 (bits h 2 5) r 5 r 0x13)
  | 2 => some (encI (sxNat 6 (imm6 h) 12) r 7 r 0x13)
  | _ =>
    if bits h 12 1 = 1 then none
    else match bits h 5 2 with
      | 0 => some (encR 0x20 r2 r 0 r 0x33)
      | 1 => some (encR 0 r2 r 4 r 0x33)
      | 2 => some (encR 0 r2 r 6 r 0x33)
      | _ => some (encR 0 r2 r 7 r 0x33)

/-- Quadrant 1. -/
def expand1 (h : Nat) : Option Nat :=
  let rd := bits h 7 5
  let rs1 := 8 + bits h 7 3
  match bits h 13 3 with
  | 0 => some (encI (sxNat 6 (imm6 h) 12) rd 0 rd 0x13)
  | 1 => some (encJ (sxNat 12 (offJ h) 21) 1)
  | 2 => some (encI (sxNat 6 (imm6 h) 12) 0 0 rd 0x13)
  | 3 =>
    if imm6 h = 0 then none
    else if rd = 2 then
      some (encI (sxNat 10 (bits h 12 1 * 512 + bits h 6 1 * 16 + bits h 5 1 * 64 + bits h 3 2 * 128 + bits h 2 1 * 32) 12) 2 0 2 0x13)
    else some (sxNat 6 (imm6 h) 20 * 2 ^ 12 + rd * 2 ^ 7 + 0x37)
  | 4 => expandArith h
  | 5 => some (encJ (sxNat 12 (offJ h) 21) 0)
  | 6 => some (encB (sxNat 9 (offB h) 13) 0 rs1 0)
  | _ => some (encB (sxNat 9 (offB h) 13) 0 rs1 1)

/-- Quadrant 2. -/
def expand2 (h : Nat) : Option Nat :=
  let rd := bits h 7 5
  let rs2 := bits h 2 5
  match bits h 13 3 with
  | 0 => if bits h 12 1 = 1 then none else some (encR 0 rs2 rd 1 rd 0x13)
  | 2 => if rd = 0 then none else some (encI (bits h 12 1 * 32 + bits h 4 3 * 4 + bits h 2 2 * 64) 2 2 rd 0x03)
  | 4 =>
    if bits h 12 1 = 0 then
      (if rs2 = 0 then (if rd = 0 then none else some (encI 0 rd 0 0 0x67)) else some (encR 0 rs2 0 0 rd 0x33))
    else if rs2 = 0 then (if rd = 0 then some 0x00100073 else some (encI 0 rd 0 1 0x67))
    else some (encR 0 rs2 rd 0 rd 0x33)
  | 6 => some (encS (bits h 9 4 * 4 + bits h 7 2 * 64) rs2 2 2 0x23)
  | _ => none

/-- The word that a compressed instruction expands to; none for a reserved one and for one of F or D. -/
def expandC (h : Nat) : Option Nat :=
  match h % 4 with
  | 0 => expand0 h
  | 1 => expand1 h
  | _ => expand2 h

/-- An instruction as fetched: its operation, its bits and its length in bytes. -/
structure NibInstr where
  op : NibOp
  raw : Nat
  len : Nat
  deriving DecidableEq, Repr

/-- A word is the start of a compressed instruction. -/
def isCompressed (w : Nat) : Bool := decide (w % 4 ≠ 3)

/-- The instruction of which `w` holds the first 32 bits. -/
def nibDecode (w : Nat) : NibInstr :=
  if isCompressed w then
    ⟨match expandC (w % 65536) with | some x => nibDecode32 x | none => .illegal, w % 65536, 2⟩
  else ⟨nibDecode32 w, w, 4⟩

end Sys2Proof.Machine
end

