-- ==== Sys2Proof/Machine/NibCore.lean ====
section
/-! DEFINITION. What the instructions of a Nib engine share (spec 10): its registers and CSRs, its memory map, exceptions and
halts, fetching and retiring. -/
namespace Sys2Proof.Machine

/-! ## Registers -/

/-- Integer register `r` of engine `n`; x0 reads 0. -/
def State.xr (s : State) (n r : Nat) : Word := if r = 0 then 0 else (s.nibEng n).x.get 0 r

/-- The engine with register `r` written; a write of x0 is discarded. -/
def NibEng.setX (e : NibEng) (r : Nat) (v : Word) : NibEng := if r = 0 then e else { e with x := e.x.set 0 r v }

/-- A word from a number. -/
def toWord (v : Nat) : Word := BitVec.ofNat 32 v

/-- GLB_DEV_REV as a word (R226): PD_REV reads 0 until the Ferrule link is first up (03). -/
def State.devRev (s : State) : Nat :=
  s.rd F.GLB_DEV_REV_MAJOR 0 * 2 ^ 24 + s.rd F.GLB_DEV_REV_MINOR 0 * 2 ^ 16 + s.rd F.GLB_DEV_REV_METAL 0 * 2 ^ 8
    + (if s.ferrule.everUp then s.rd F.GLB_DEV_REV_PD_REV 0 else 0)

/-- The value of a CSR (R226). -/
def State.csrGet (s : State) (n num : Nat) : Word :=
  let e := s.nibEng n
  match num with
  | 0x301 => 0x40801104
  | 0xF13 => toWord s.devRev
  | 0xF14 => toWord (16 + n)
  | 0x300 => 0x00001800
  | 0x305 => e.mtvec
  | 0x341 => e.mepc
  | 0x342 => e.mcause
  | 0x343 => e.mtval
  | 0x340 => e.mscratch
  | 0xB00 => toWord e.mcycle
  | 0xB80 => toWord (e.mcycle / 2 ^ 32)
  | 0xB02 => toWord e.minstret
  | 0xB82 => toWord (e.minstret / 2 ^ 32)
  | _ => 0

/-- The low or the high word of a 64-bit counter replaced. -/
def withLow (c : Nat) (v : Word) : Nat := c / 2 ^ 32 % 2 ^ 32 * 2 ^ 32 + v.toNat
def withHigh (c : Nat) (v : Word) : Nat := v.toNat * 2 ^ 32 + c % 2 ^ 32

/-- A CSR written. A write of minstret takes effect after the instruction has retired: the instruction itself is not added. -/
def NibEng.csrSet (e : NibEng) (num : Nat) (v : Word) : NibEng :=
  match num with
  | 0x305 => { e with mtvec := v &&& 0xFFFFFFFC }
  | 0x341 => { e with mepc := v &&& 0xFFFFFFFE }
  | 0x342 => { e with mcause := v }
  | 0x343 => { e with mtval := v }
  | 0x340 => { e with mscratch := v }
  | 0xB00 => { e with mcycle := withLow e.mcycle v }
  | 0xB80 => { e with mcycle := withHigh e.mcycle v }
  | 0xB02 => { e with minstret := (withLow e.minstret v + (2 ^ 64 - 1)) % 2 ^ 64 }
  | 0xB82 => { e with minstret := (withHigh e.minstret v + (2 ^ 64 - 1)) % 2 ^ 64 }
  | _ => e

/-! ## The memory map (R223) -/

/-- The regions. -/
inductive NibRegion where
  | isram | dsram | ss | frame
  deriving DecidableEq, Repr

/-- The region of an address, and the offset in it. -/
def nibRegion (a : Nat) : Option (NibRegion × Nat) :=
  if a < 0x10000 then some (.isram, a)
  else if 0x10000000 ≤ a ∧ a < 0x10020000 then some (.dsram, a - 0x10000000)
  else if 0x20000000 ≤ a ∧ a < 0x20200000 then some (.ss, a - 0x20000000)
  else if 0x40000000 ≤ a ∧ a < 0x40008000 then some (.frame, a - 0x40000000)
  else none

/-- The region in which all of `len` bytes from `a` on lie. -/
def nibSpan (a len : Nat) : Option NibRegion :=
  match nibRegion a, nibRegion (a + (len - 1)) with
  | some (r, _), some (q, _) => if r = q then some r else none
  | _, _ => none

/-- Stores reach the data SRAM and the Signal Store. -/
def nibStores (a len : Nat) : Bool := decide (nibSpan a len = some .dsram) || decide (nibSpan a len = some .ss)

/-- The frame window (R236): length word, meta word, 8 bytes of 0, the frame or payload. -/
def State.nibWindow (s : State) (n : Nat) : List Byte :=
  match (s.nibEng n).cur with
  | none => []
  | some (.frame _ e) =>
    match s.frames.find e.first with
    | some f => leBytes 4 (2 ^ 31 + f.bytes.length) ++ leBytes 4 (f.inPort % 128 + f.cls % 8 * 256 + f.tsIndex % 65536 * 65536) ++ leBytes 8 0 ++ f.bytes
    | none => []
  | some (.packet f) =>
    match s.fifoHead f with
    | some p => leBytes 4 p.word ++ leBytes 4 (Config.packetMeta f).toNat ++ leBytes 8 0 ++ p.bytes
    | none => []

/-- Bytes `a` to `a + len - 1` as engine `n` reads them. -/
def State.nibBytes (s : State) (n a len : Nat) : List Byte :=
  match nibRegion a with
  | some (.isram, o) => Mem.read (s.nibEng n).isram o len
  | some (.dsram, o) => Mem.read (s.nibEng n).dsram o len
  | some (.ss, o) => Mem.read s.ss o len
  | some (.frame, o) => let w := s.nibWindow n; (List.range len).map (fun i => w.getD (o + i) 0)
  | none => List.replicate len 0

/-- The words of the Signal Store that `len` bytes from offset `o` on touch. -/
def ssWords (o len : Nat) : List Nat := (List.range ((o + len - 1) / 8 + 1 - o / 8)).map (fun i => o / 8 + i)

/-- Bytes written to the Signal Store; a word that is written is good again (R241). -/
def State.ssWrite (s : State) (o : Nat) (bs : List Byte) : State :=
  { s with ss := s.ss.writes o bs, ssBad := s.ssBad.filter (fun w => !decide (w ∈ ssWords o bs.length)) }

/-- Engine `n` stores bytes at `a`. -/
def State.nibStoreBytes (s : State) (n a : Nat) (bs : List Byte) : State :=
  match nibRegion a with
  | some (.dsram, o) => let e := s.nibEng n; s.setNib n { e with dsram := e.dsram.writes o bs }
  | some (.ss, o) => s.ssWrite o bs
  | _ => s

/-! ## Memory errors (R241) -/

/-- An error in a 64-bit word of the Signal Store: it is logged and reported; an uncorrectable one stays until the word is
rewritten. -/
def State.ssError (s : State) (uncorr : Bool) (word : Nat) : State :=
  let s := (s.wrb F.NIB_SS_ECC_LOG_UNCORR 0 uncorr).wr F.NIB_SS_ECC_LOG_WORD 0 word
  if uncorr then ({ s with ssBad := if word ∈ s.ssBad then s.ssBad else word :: s.ssBad }).reportX 0x016 elemDevice
  else s.reportX 0x015 elemDevice

/-- An instruction SRAM parity error of engine `n`. -/
def State.nibParity (s : State) (n : Nat) : State := (s.evt F.NIB_STAT_PARITY_EVT n).reportX (0x0E4 + n) (elemId 6 n)

/-- What a read of `len` bytes at `a` meets; false when the load faults. -/
def State.nibRead (s : State) (n a len : Nat) (r : CellRead) : State × Bool :=
  match nibRegion a, r with
  | some (.dsram, _), .corrected => (((s.nibCnt n 8).evt F.NIB_STAT_ECC_EVT n).reportX (0x0DA + n) (elemId 6 n), true)
  | some (.dsram, _), .uncorrectable => (s, false)
  | some (.isram, _), .uncorrectable => (s.nibParity n, false)
  | some (.ss, o), .uncorrectable => (s.ssError true (o / 8), false)
  | some (.ss, o), .corrected => (s.ssError false (o / 8), !(ssWords o len).any (fun w => decide (w ∈ s.ssBad)))
  | some (.ss, o), .good => (s, !(ssWords o len).any (fun w => decide (w ∈ s.ssBad)))
  | _, _ => (s, true)

/-! ## Halts and exceptions (R238) -/

/-- Ticks of 10 s. -/
def restartSpan : Nat := 4000000000

/-- The recoveries of engine `n` in the last 10 s. -/
def State.nibRestarts (s : State) (n : Nat) : List Nat := (s.nibEng n).restarts.filter (fun t => decide (s.now < t + restartSpan))

/-- Engine `n` halts: it keeps its state and its current frame; mcause, mepc and mtval are copied. -/
def State.nibHalted (s : State) (n : Nat) : State :=
  let e := s.nibEng n
  let s := ((s.wr F.NIB_FAULT_CAUSE_VALUE n e.mcause.toNat).wr F.NIB_FAULT_EPC_VALUE n e.mepc.toNat).wr F.NIB_FAULT_TVAL_VALUE n e.mtval.toNat
  ((s.setNib n { e with waiting := none }).wr F.NIB_STAT_STATE n 3).evt F.NIB_STAT_HALT_EVT n

/-- R240 allows a recovery of engine `n`, which is HALTED: AUTO_RESTART, no instruction SRAM parity error caused the halt, and fewer than 3
restarts in the last 10 s. -/
def State.nibMayRestart (s : State) (n : Nat) : Bool :=
  decide (s.rd F.NIB_STAT_STATE n = 3) && s.on F.NIB_CTL_AUTO_RESTART n && !(s.nibEng n).parityHalt && decide ((s.nibRestarts n).length < 3)

/-- After a SEVERE halt, with a parity error of the instruction SRAM or without one, the Nib block asks for an engine recovery where R240
allows it. -/
def State.nibHaltDone (s : State) (n : Nat) (parity : Bool) : State :=
  let s := s.setNib n { s.nibEng n with parityHalt := parity }
  if s.nibMayRestart n then s.requestFault .fields (.engine n) else s

/-- A halt by an exception: SEVERE, or NOTE for cause 3. -/
def State.nibHaltBy (s : State) (n cause : Nat) (parity : Bool) : State :=
  let s := (s.nibHalted n).report (0x0D0 + n) (elemId 6 n) cause
  if cause = 3 then s else s.nibHaltDone n parity

/-- An exception at `pc`: the trap handler, or a halt. -/
def State.nibTrap (s : State) (n : Nat) (cause : Nat) (tval : Word) (parity : Bool) : State :=
  let e := s.nibEng n
  let e := { e with mepc := e.pc, mcause := toWord cause, mtval := tval }
  let s := s.setNib n e
  if decide (e.mtvec ≠ 0) && !s.on F.NIB_STAT_IN_TRAP n then (s.setNib n { e with pc := e.mtvec }).wr F.NIB_STAT_IN_TRAP n 1
  else s.nibHaltBy n cause parity

/-! ## Fetching and retiring -/

/-- The engine runs. -/
def State.nibRunning (s : State) (n : Nat) : Bool := decide (s.rd F.NIB_STAT_STATE n = 1)

/-- The instruction at the pc; none when a part of it lies outside the instruction SRAM. -/
def State.nibFetch (s : State) (n : Nat) : Option NibInstr :=
  let e := s.nibEng n
  let a := e.pc.toNat
  let w := leNat (Mem.read e.isram a 4)
  if isCompressed w then (if a + 2 ≤ 0x10000 then some (nibDecode w) else none)
  else if a + 4 ≤ 0x10000 then some (nibDecode w) else none

/-- What an instruction answers: it retires, having written `v` to register `rd` (0: none), with the pc behind it or at `pc`; it
raises an exception; it waits. -/
inductive NibRes where
  | next (s : State) (rd : Nat) (v : Word)
  | jump (s : State) (rd : Nat) (v pc : Word)
  | trap (s : State) (cause : Nat) (tval : Word)
  | parity (s : State) (tval : Word)
  | wait (s : State) (w : NibWait)

/-- A read at `a` met an uncorrectable error: cause 5, by a parity error where it is in the instruction SRAM (R240). -/
def readFault (s : State) (a : Nat) (tval : Word) : NibRes :=
  match nibRegion a with
  | some (.isram, _) => .parity s tval
  | _ => .trap s 5 tval

/-- An instruction of engine `n` retires. -/
def State.nibRetire (s : State) (n rd : Nat) (v pc : Word) : State :=
  let e := s.nibEng n
  (s.setNib n { e.setX rd v with pc := pc, minstret := (e.minstret + 1) % 2 ^ 64 }).nibCnt n 0

/-- The end of an instruction of `len` bytes. -/
def State.nibEnd (n len : Nat) (r : NibRes) : State :=
  match r with
  | .next s rd v => s.nibRetire n rd v ((s.nibEng n).pc + toWord len)
  | .jump s rd v pc => s.nibRetire n rd v pc
  | .trap s cause tval => s.nibTrap n cause tval false
  | .parity s tval => s.nibTrap n 5 tval true
  | .wait s w => (s.setNib n { s.nibEng n with waiting := some w }).wr F.NIB_STAT_STATE n 2

/-- The row of an instruction class: the running engine's next instruction executes if `f` has it; else the row does not
occur. -/
def State.nibRow (s : State) (n : Nat) (f : NibInstr → Option NibRes) : State :=
  if s.nibRunning n then
    match s.nibFetch n with
    | some i => match f i with
      | some r => State.nibEnd n i.len r
      | none => s
    | none => s
  else s

/-! ## Arithmetic -/

/-- The functions of RV32I. -/
def AluF.eval (f : AluF) (a b : Word) : Word :=
  match f with
  | .add => a + b
  | .sub => a - b
  | .sll => a <<< (b.toNat % 32)
  | .slt => toWord (b2n (decide (a.toInt < b.toInt)))
  | .sltu => toWord (b2n (decide (a.toNat < b.toNat)))
  | .xor => a ^^^ b
  | .srl => a >>> (b.toNat % 32)
  | .sra => a.sshiftRight (b.toNat % 32)
  | .or => a ||| b
  | .and => a &&& b

/-- MUL, MULH, MULHSU, MULHU. -/
def mulOf (f3 : Nat) (a b : Word) : Word :=
  match f3 with
  | 0 => a * b
  | 1 => BitVec.ofInt 32 (a.toInt * b.toInt / 2 ^ 32)
  | 2 => BitVec.ofInt 32 (a.toInt * b.toNat / 2 ^ 32)
  | _ => toWord (a.toNat * b.toNat / 2 ^ 32)

/-- DIV, DIVU, REM, REMU; division by 0 and the overflow as RV32M states them. -/
def divOf (f3 : Nat) (a b : Word) : Word :=
  match f3 with
  | 4 => if b = 0 then 0xFFFFFFFF else a.sdiv b
  | 5 => if b = 0 then 0xFFFFFFFF else a / b
  | 6 => if b = 0 then a else a.srem b
  | _ => if b = 0 then a else a % b

/-- The conditions of the branches. -/
def branchTaken (f3 : Nat) (a b : Word) : Bool :=
  match f3 with
  | 0 => decide (a = b)
  | 1 => decide (a ≠ b)
  | 4 => decide (a.toInt < b.toInt)
  | 5 => decide (b.toInt ≤ a.toInt)
  | 6 => decide (a.toNat < b.toNat)
  | _ => decide (b.toNat ≤ a.toNat)

/-! ## Bit fields (R229) -/

/-- The payload bits of a field, least significant first. -/
def fieldBitsLE (start len : Nat) : List Nat := (List.range len).map (start + ·)

/-- The payload bits of a big-endian field, most significant first. -/
def fieldBitsBE (p : Nat) : Nat → List Nat
  | 0 => []
  | len + 1 => p :: fieldBitsBE (if p % 8 = 0 then p + 15 else p - 1) len

/-- The payload bits of the field of a specification word, least significant first. -/
def fieldBits (spec : Nat) : List Nat :=
  let len := bits spec 14 5 + 1
  if spec.testBit 20 then (fieldBitsBE (bits spec 0 14) len).reverse else fieldBitsLE (bits spec 0 14) len

/-- The first byte and the number of bytes that a field touches. -/
def fieldSpan (spec : Nat) : Nat × Nat :=
  let bs := (fieldBits spec).map (· / 8)
  let lo := bs.foldl min (bs.headD 0)
  (lo, bs.foldl max 0 + 1 - lo)

/-- The field read from a payload whose bytes from `lo` on are `bs`. -/
def fieldGet (spec lo : Nat) (bs : List Byte) : Nat :=
  (fieldBits spec).foldr (fun b a => 2 * a + b2n ((bs.getD (b / 8 - lo) 0).toNat.testBit (b % 8))) 0

/-- The bytes with bit `b` of the payload put to `v`. -/
def putPayloadBit (lo : Nat) (bs : List Byte) (b : Nat) (v : Bool) : List Byte :=
  let x := (bs.getD (b / 8 - lo) 0).toNat
  setAt bs (b / 8 - lo) (BitVec.ofNat 8 (if v then setBitN x (b % 8) else clrBitN x (b % 8)))

/-- The bytes with the field written. -/
def fieldPut (spec lo v : Nat) (bs : List Byte) : List Byte :=
  ((fieldBits spec).zipIdx).foldl (fun t e => putPayloadBit lo t e.1 (v.testBit e.2)) bs

/-- The value that VG.BEXT returns. -/
def fieldValue (spec v : Nat) : Word := if spec.testBit 19 then sxWord (bits spec 14 5 + 1) v else toWord v

/-! ## Scaling (R230) -/

/-- A scaled and clamped value. -/
def scaleOf (raw factor offset lo hi : Int) : Int :=
  let v := (raw * factor + 0x8000) / 2 ^ 16 + offset
  if v < lo ∨ hi < lo then lo else if hi < v then hi else v

/-! ## CRC (R231) -/

/-- A CRC profile. -/
structure CrcProf where
  w : Nat
  poly : Nat
  init : Nat
  refl : Bool
  out : Nat
  deriving DecidableEq, Repr

/-- The profiles 0 to 3; the polynomial of profile 3 is given reversed. -/
def crcProf (p : Nat) : CrcProf :=
  match p with
  | 0 => ⟨8, 0x1D, 0xFF, false, 0xFF⟩
  | 1 => ⟨8, 0x2F, 0xFF, false, 0xFF⟩
  | 2 => ⟨16, 0x1021, 0xFFFF, false, 0x0000⟩
  | _ => ⟨32, 0x82F63B78, 0xFFFFFFFF, true, 0xFFFFFFFF⟩

/-- `k` bit steps of a CRC that is not reflected. -/
def vgCrcBits (w poly : Nat) : Nat → Nat → Nat
  | 0, c => c
  | k + 1, c => vgCrcBits w poly k (if c.testBit (w - 1) then ((c <<< 1) ^^^ poly) % 2 ^ w else (c <<< 1) % 2 ^ w)

/-- One step over a byte. -/
def vgCrcByte (x : CrcProf) (c b : Nat) : Nat :=
  if x.refl then crcRefBits x.poly 8 (c ^^^ b) else vgCrcBits x.w x.poly 8 (c ^^^ (b <<< (x.w - 8)))

/-- Steps over bytes. -/
def vgCrc (p c : Nat) (bs : List Byte) : Nat := bs.foldl (fun a b => vgCrcByte (crcProf p) a b.toNat) (c % 2 ^ (crcProf p).w)

end Sys2Proof.Machine
end

