-- ==== Sys2Proof/Machine/Nib.lean ====
section
/-! DEFINITION. The instructions of the Nib engines (spec 10): one row for each instruction class. An engine executes what it
fetches at its pc; the row of another class then does not occur. `r` says what an access to protected memory finds (R241). -/
namespace Sys2Proof.Machine

/-! ## RV32IM (R221, R222) -/

/-- An ALU, LUI or AUIPC instruction: destination and result. -/
def State.nibAlu (s : State) (n : Nat) (op : NibOp) : Option (Nat × Word) :=
  match op with
  | .lui rd imm => some (rd, imm)
  | .auipc rd imm => some (rd, (s.nibEng n).pc + imm)
  | .aluI f rd rs1 imm => some (rd, f.eval (s.xr n rs1) imm)
  | .aluR f rd rs1 rs2 => some (rd, f.eval (s.xr n rs1) (s.xr n rs2))
  | _ => none

/-- NIB_ALU. -/
def execNibAlu (n : Fin 10) (s : State) : Out :=
  .next (s.nibRow n (fun i => (s.nibAlu n i.op).map (fun x => .next s x.1 x.2)))

/-- NIB_BRANCH. -/
def execNibBranch (n : Fin 10) (s : State) : Out :=
  .next (s.nibRow n (fun i => match i.op with
    | .branch f3 rs1 rs2 off =>
      some (if branchTaken f3 (s.xr n rs1) (s.xr n rs2) then .jump s 0 0 ((s.nibEng n).pc + off) else .next s 0 0)
    | _ => none))

/-- NIB_JAL. -/
def execNibJal (n : Fin 10) (s : State) : Out :=
  .next (s.nibRow n (fun i => match i.op with
    | .jal rd off => some (.jump s rd ((s.nibEng n).pc + toWord i.len) ((s.nibEng n).pc + off))
    | _ => none))

/-- NIB_JALR. -/
def execNibJalr (n : Fin 10) (s : State) : Out :=
  .next (s.nibRow n (fun i => match i.op with
    | .jalr rd rs1 imm => some (.jump s rd ((s.nibEng n).pc + toWord i.len) ((s.xr n rs1 + imm) &&& 0xFFFFFFFE))
    | _ => none))

/-- NIB_MRET (R238): IN_TRAP is cleared. -/
def execNibMret (n : Fin 10) (s : State) : Out :=
  .next (s.nibRow n (fun i => match i.op with
    | .mret => some (.jump (s.wr F.NIB_STAT_IN_TRAP n 0) 0 0 (s.nibEng n).mepc)
    | _ => none))

/-- The value that a load of funct3 `f3` makes of the bytes read. -/
def loadValue (f3 v : Nat) : Word :=
  match f3 with
  | 0 => sxWord 8 v
  | 1 => sxWord 16 v
  | _ => toWord v

/-- A load (R223, R224): misaligned, outside the map, met by an error, or the value. -/
def State.nibLoad (s : State) (n f3 rd : Nat) (a : Word) (r : CellRead) : NibRes :=
  let len := 2 ^ (f3 % 4)
  if a.toNat % len ≠ 0 then .trap s 4 a
  else if (nibSpan a.toNat len).isNone then .trap s 5 a
  else
    let m := s.nibRead n a.toNat len r
    if m.2 then .next m.1 rd (loadValue f3 (leNat (s.nibBytes n a.toNat len))) else readFault m.1 a.toNat a

/-- NIB_LOAD. -/
def execNibLoad (n : Fin 10) (r : CellRead) (s : State) : Out :=
  .next (s.nibRow n (fun i => match i.op with
    | .load f3 rd rs1 imm => some (s.nibLoad n f3 rd (s.xr n rs1 + imm) r)
    | _ => none))

/-- A store (R223, R225). -/
def State.nibStore (s : State) (n f3 : Nat) (a v : Word) : NibRes :=
  let len := 2 ^ f3
  if a.toNat % len ≠ 0 then .trap s 6 a
  else if !nibStores a.toNat len then .trap s 7 a
  else .next (s.nibStoreBytes n a.toNat (leBytes len v.toNat)) 0 0

/-- NIB_STORE. -/
def execNibStore (n : Fin 10) (s : State) : Out :=
  .next (s.nibRow n (fun i => match i.op with
    | .store f3 rs1 rs2 imm => some (s.nibStore n f3 (s.xr n rs1 + imm) (s.xr n rs2))
    | _ => none))

/-- NIB_MUL. -/
def execNibMul (n : Fin 10) (s : State) : Out :=
  .next (s.nibRow n (fun i => match i.op with
    | .mul f3 rd rs1 rs2 => some (.next s rd (mulOf f3 (s.xr n rs1) (s.xr n rs2)))
    | _ => none))

/-- NIB_DIV. -/
def execNibDiv (n : Fin 10) (s : State) : Out :=
  .next (s.nibRow n (fun i => match i.op with
    | .div f3 rd rs1 rs2 => some (.next s rd (divOf f3 (s.xr n rs1) (s.xr n rs2)))
    | _ => none))

/-- A Zicsr instruction (R226): the old value to `rd`, the new one to the CSR when the instruction writes it. -/
def State.nibCsr (s : State) (n f3 rd src num : Nat) : NibRes :=
  let old := s.csrGet n num
  let x := if 4 ≤ f3 then toWord src else s.xr n src
  let new := match f3 % 4 with | 1 => x | 2 => old ||| x | _ => old &&& ~~~x
  .next (if csrWrites f3 src then s.setNib n ((s.nibEng n).csrSet num new) else s) rd old

/-- NIB_CSR_ACCESS. -/
def execNibCsrAccess (n : Fin 10) (s : State) : Out :=
  .next (s.nibRow n (fun i => match i.op with
    | .csr f3 rd src num => some (s.nibCsr n f3 rd src num)
    | _ => none))

/-- NIB_FENCE (R225): in this model a store is visible when it executes. -/
def execNibFence (n : Fin 10) (s : State) : Out :=
  .next (s.nibRow n (fun i => match i.op with
    | .fence => some (.next s 0 0)
    | _ => none))

/-- NIB_WFI (R221): it waits until the event queue holds an event. -/
def execNibWfi (n : Fin 10) (s : State) : Out :=
  .next (s.nibRow n (fun i => match i.op with
    | .wfi => some (if (s.nibEng n).evq.isEmpty then .wait s .wfi else .next s 0 0)
    | _ => none))

/-- NIB_ECALL. -/
def execNibEcall (n : Fin 10) (s : State) : Out :=
  .next (s.nibRow n (fun i => match i.op with
    | .ecall => some (.trap s 11 0)
    | _ => none))

/-- NIB_EBREAK. -/
def execNibEbreak (n : Fin 10) (s : State) : Out :=
  .next (s.nibRow n (fun i => match i.op with
    | .ebreak => some (.trap s 3 (Config.trapValue 3 (s.nibEng n).pc i.raw))
    | _ => none))

/-- The illegal-instruction exception of an instruction with bits `raw`. -/
def State.nibIllegal (s : State) (n raw : Nat) : NibRes := .trap s 2 (Config.trapValue 2 (s.nibEng n).pc raw)

/-- NIB_ILLEGAL_INSTRUCTION: the fetch meets a parity error or lies outside the instruction SRAM (cause 1), or the encoding is
not supported (cause 2). -/
def execNibIllegalInstruction (n : Fin 10) (parity : Bool) (s : State) : Out :=
  if !s.nibRunning n then .next s
  else match s.nibFetch n with
    | none => .next (s.nibTrap n 1 (s.nibEng n).pc false)
    | some i =>
      if parity then .next ((s.nibParity n).nibTrap n 1 (s.nibEng n).pc true)
      else if i.op = .illegal then .next (State.nibEnd n i.len (s.nibIllegal n i.raw))
      else .next s

/-! ## Bit fields, scaling, CRC (R229 to R231) -/

/-- The specification word of a field is valid. -/
def specOk (spec : Nat) : Bool := decide (spec < 2 ^ 21)

/-- VG.BEXT. -/
def State.vgBext (s : State) (n rd : Nat) (a spec : Word) (raw : Nat) (r : CellRead) : NibRes :=
  if !specOk spec.toNat then s.nibIllegal n raw
  else
    let sp := fieldSpan spec.toNat
    let b := a.toNat + sp.1
    if (nibRegion a.toNat).isNone || (nibSpan b sp.2).isNone then .trap s 5 a
    else
      let m := s.nibRead n b sp.2 r
      if m.2 then .next m.1 rd (fieldValue spec.toNat (fieldGet spec.toNat sp.1 (s.nibBytes n b sp.2))) else readFault m.1 b a

/-- VG_BEXT. -/
def execVgBext (n : Fin 10) (r : CellRead) (s : State) : Out :=
  .next (s.nibRow n (fun i => match i.op with
    | .bext rd rs1 rs2 => some (s.vgBext n rd (s.xr n rs1) (s.xr n rs2) i.raw r)
    | _ => none))

/-- VG.BSWAP. -/
def bswapOf (code : Nat) (v : Word) : Word :=
  let b := leBytes 4 v.toNat
  toWord (if code = 0 then beNat b else leNat ((b.take 2).reverse ++ (b.drop 2).reverse))

/-- VG_BSWAP. -/
def execVgBswap (n : Fin 10) (s : State) : Out :=
  .next (s.nibRow n (fun i => match i.op with
    | .bswap rd rs1 code => some (.next s rd (bswapOf code (s.xr n rs1)))
    | _ => none))

/-- VG.BINS. -/
def State.vgBins (s : State) (n : Nat) (a spec v : Word) (raw : Nat) (r : CellRead) : NibRes :=
  if !specOk spec.toNat then s.nibIllegal n raw
  else
    let sp := fieldSpan spec.toNat
    let b := a.toNat + sp.1
    if !nibStores a.toNat 1 || !nibStores b sp.2 then .trap s 7 a
    else
      let m := s.nibRead n b sp.2 r
      if m.2 then .next (m.1.nibStoreBytes n b (fieldPut spec.toNat sp.1 v.toNat (s.nibBytes n b sp.2))) 0 0 else .trap m.1 5 a

/-- VG_BINS. -/
def execVgBins (n : Fin 10) (r : CellRead) (s : State) : Out :=
  .next (s.nibRow n (fun i => match i.op with
    | .bins rs1 rs2 rs3 => some (s.vgBins n (s.xr n rs1) (s.xr n rs2) (s.xr n rs3) i.raw r)
    | _ => none))

/-- Word `k` of a scale descriptor, signed. -/
def descWord (bs : List Byte) (k : Nat) : Int := toSigned 32 (leNat ((bs.drop (4 * k)).take 4))

/-- VG.SCALE and VG.SCALEU: `raw` is rs1 as the instruction takes it. -/
def State.vgScale (s : State) (n rd : Nat) (raw : Int) (d : Word) (r : CellRead) : NibRes :=
  if d.toNat % 16 ≠ 0 then .trap s 4 d
  else if !nibStores d.toNat 16 then .trap s 5 d
  else
    let m := s.nibRead n d.toNat 16 r
    let bs := s.nibBytes n d.toNat 16
    if m.2 then .next m.1 rd (BitVec.ofInt 32 (scaleOf raw (descWord bs 0) (descWord bs 1) (descWord bs 2) (descWord bs 3))) else .trap m.1 5 d

/-- VG_SCALE. -/
def execVgScale (n : Fin 10) (r : CellRead) (s : State) : Out :=
  .next (s.nibRow n (fun i => match i.op with
    | .scale rd rs1 rs2 => some (s.vgScale n rd (s.xr n rs1).toInt (s.xr n rs2) r)
    | _ => none))

/-- VG_SCALEU. -/
def execVgScaleu (n : Fin 10) (r : CellRead) (s : State) : Out :=
  .next (s.nibRow n (fun i => match i.op with
    | .scaleu rd rs1 rs2 => some (s.vgScale n rd ((s.xr n rs1).toNat : Int) (s.xr n rs2) r)
    | _ => none))

/-- VG_CRCB. -/
def execVgCrcb (n : Fin 10) (s : State) : Out :=
  .next (s.nibRow n (fun i => match i.op with
    | .crcb p rd rs1 rs2 => some (.next s rd (toWord (vgCrc p (s.xr n rs1).toNat (leBytes 1 (s.xr n rs2).toNat))))
    | _ => none))

/-- VG_CRCW. -/
def execVgCrcw (n : Fin 10) (s : State) : Out :=
  .next (s.nibRow n (fun i => match i.op with
    | .crcw p rd rs1 rs2 => some (.next s rd (toWord (vgCrc p (s.xr n rs1).toNat (leBytes 4 (s.xr n rs2).toNat))))
    | _ => none))

/-- VG.CRCM; a length above 16,383 is an operand fault. The address lies in a region even when there is no byte (R228). -/
def State.vgCrcm (s : State) (n p rd : Nat) (a len : Word) (r : CellRead) : NibRes :=
  let x := crcProf p
  if 16383 < len.toNat then .trap s 24 len
  else if (nibSpan a.toNat (max 1 len.toNat)).isNone then .trap s 5 a
  else if len = 0 then .next s rd (toWord (x.init ^^^ x.out))
  else
    let m := s.nibRead n a.toNat len.toNat r
    if m.2 then .next m.1 rd (toWord (vgCrc p x.init (s.nibBytes n a.toNat len.toNat) ^^^ x.out)) else readFault m.1 a.toNat a

/-- VG_CRCM. -/
def execVgCrcm (n : Fin 10) (r : CellRead) (s : State) : Out :=
  .next (s.nibRow n (fun i => match i.op with
    | .crcm p rd rs1 rs2 => some (s.vgCrcm n p rd (s.xr n rs1) (s.xr n rs2) r)
    | _ => none))

/-! ## Time (R228) -/

/-- VG_TRD: a snapshot of a Ruler into the time latch. -/
def execVgTrd (n : Fin 10) (s : State) : Out :=
  .next (s.nibRow n (fun i => match i.op with
    | .trd rd rs1 =>
      let t := (s.xr n rs1).toNat % 8
      let x := (s.ruler t).time
      some (.next (s.setNib n { s.nibEng n with latch := x, latchStopped := !s.rulerRuns t }) rd (toWord (timeNs x)))
    | _ => none))

/-- A part of the time latch. -/
def NibEng.latchPart (e : NibEng) (k : Nat) : Word :=
  match k % 4 with
  | 0 => toWord (timeNs e.latch)
  | 1 => toWord (timeSec e.latch)
  | 2 => toWord (timeSec e.latch / 2 ^ 32)
  | _ => toWord (timeFrac e.latch + 2 ^ 16 * b2n e.latchStopped)

/-- VG_TLAT. -/
def execVgTlat (n : Fin 10) (s : State) : Out :=
  .next (s.nibRow n (fun i => match i.op with
    | .tlat rd rs1 => some (.next s rd ((s.nibEng n).latchPart (s.xr n rs1).toNat))
    | _ => none))

/-! ## Events (R233 to R235) -/

/-- VG_AWAIT. -/
def execVgAwait (n : Fin 10) (s : State) : Out :=
  .next (s.nibRow n (fun i => match i.op with
    | .await rd rs1 =>
      let m := (s.xr n rs1).toNat % 65536
      some (match s.nibTake n m with
        | some (t, w) => .next t rd (toWord w)
        | none => .wait s (.await rd m))
    | _ => none))

/-- VG_POLLEV. -/
def execVgPollev (n : Fin 10) (s : State) : Out :=
  .next (s.nibRow n (fun i => match i.op with
    | .pollev rd rs1 =>
      some (match s.nibTake n ((s.xr n rs1).toNat % 65536) with
        | some (t, w) => .next t rd (toWord w)
        | none => .next s rd 0)
    | _ => none))

/-- AWAIT_RETURN: the AWAITING engine has an event that it waits for. -/
def execAwaitReturn (n : Fin 10) (s : State) : Out :=
  if s.rd F.NIB_STAT_STATE n ≠ 2 then .next s
  else
    let go (t : State) : State := (t.setNib n { t.nibEng n with waiting := none }).wr F.NIB_STAT_STATE n 1
    match (s.nibEng n).waiting with
    | some (.await rd m) => match s.nibTake n m with
      | some (t, w) => .next (State.nibEnd n 4 (.next (go t) rd (toWord w)))
      | none => .next s
    | some .wfi => if (s.nibEng n).evq.isEmpty then .next s else .next (State.nibEnd n 4 (.next (go s) 0 0))
    | none => .next s

/-- VG_RING. -/
def execVgRing (n : Fin 10) (s : State) : Out :=
  .next (s.nibRow n (fun i => match i.op with
    | .ring rs1 rs2 =>
      let t := (s.xr n rs1).toNat % 16
      some (if 9 < t then .trap s 24 (s.xr n rs1)
        else .next (s.nibPost t (doorbellEv n (s.xr n rs2).toNat) (fun _ => false)) 0 0)
    | _ => none))

/-- NIB_DOORBELL_WRITE. -/
def execNibDoorbellWrite (n : Fin 10) (v : BitVec 24) (s : State) : Out :=
  .next (s.nibPost n (doorbellEv 0xF v.toNat) (fun _ => false))

/-- A timer is armed, or with a period of 0 disarmed (R235). -/
def State.nibTimerSet (s : State) (n t : Nat) (periodic : Bool) (period : Nat) : State :=
  let e := 4 * n + t
  ((s.wrb F.NIB_TIMER_PERIODIC e periodic).wr F.NIB_TIMER_PERIOD_US e period).wrb F.NIB_TIMER_ARMED e (decide (period % 2 ^ 24 ≠ 0))

/-- VG_TSET. -/
def execVgTset (n : Fin 10) (s : State) : Out :=
  .next (s.nibRow n (fun i => match i.op with
    | .tset rs1 rs2 =>
      let v := (s.xr n rs2).toNat
      some (.next (s.nibTimerSet n ((s.xr n rs1).toNat % 4) (v.testBit 31) (v % 2 ^ 24)) 0 0)
    | _ => none))

/-- NIB_TIMER_WRITE. -/
def execNibTimerWrite (n : Fin 10) (t : Fin 4) (periodic : Bool) (period : BitVec 24) (s : State) : Out :=
  .next (s.nibTimerSet n t periodic period.toNat)

/-- NIB_TIMER_EXPIRY: timers are frozen from the commit step of a DOZE entry on (R244). -/
def execNibTimerExpiry (n : Fin 10) (t : Fin 4) (s : State) : Out :=
  let e := 4 * n.val + t.val
  if !s.on F.NIB_TIMER_ARMED e || decide (s.rd F.NIB_STAT_STATE n = 4) || s.gated then .next s
  else
    let g := s.nibEng n
    let c := g.expired.get 0 t + 1
    let s := s.setNib n { g with expired := g.expired.set 0 t (min c 255) }
    let s := if s.on F.NIB_TIMER_PERIODIC e then s else s.wr F.NIB_TIMER_ARMED e 0
    .next (s.nibPost n (timerEv t c) (isTimerEv t))

/-! ## Frames, packets and queues (R236) -/

/-- A FIFO has a visible packet behind its head. -/
def State.fifoSecond (s : State) (f : Nat) : Bool :=
  match (s.fifo f).dropHead.headPkt with
  | some p => s.pktVisible f p
  | none => false

/-- The current frame is released; none when its packet is still pending. A queue that stays non-empty calls its engine. -/
def State.nibRelease (s : State) (n : Nat) : Option State :=
  match (s.nibEng n).cur with
  | none => some s
  | some (.frame q e) =>
    let inPort := match s.frames.find e.first with | some f => f.inPort | none => 64
    let s := (s.setNib n { s.nibEng n with cur := none }).finishIn q e (!s.deep q)
    let s := (s.fcCheck inPort).drainService
    some (if s.queueEmpty q then s else s.queueEvent q)
  | some (.packet f) =>
    match s.fifoHead f with
    | some p =>
      if p.isOpen then none
      else
        let s := (s.setNib n { s.nibEng n with cur := none }).fifoPop f
        some (if (s.fifoHead f).isSome then s.queueEvent (512 + f) else s)
    | none => some (s.setNib n { s.nibEng n with cur := none })

/-- The head of queue `q` becomes the current frame: its length word, 0 when there is none. -/
def State.nibPop (s : State) (n q : Nat) : State × Word :=
  if q < 512 then
    let s := s.pruned q
    match s.headOf q with
    | none => (s, 0)
    | some (e, f) =>
      let s := ((s.take q).setNib n { s.nibEng n with cur := some (.frame q e) }).nibCnt n 5
      (if s.queueEmpty q then s else s.queueEvent q, toWord (2 ^ 31 + f.bytes.length))
  else
    let f := q - 512
    match s.fifoHead f with
    | none => (s, 0)
    | some p =>
      let s := (((s.fifoConsume f)).setNib n { s.nibEng n with cur := some (.packet f) }).nibCnt n 5
      (if s.fifoSecond f then s.queueEvent q else s, toWord p.word)

/-- VG_POP. -/
def execVgPop (n : Fin 10) (s : State) : Out :=
  .next (s.nibRow n (fun i => match i.op with
    | .pop rd rs1 =>
      let q := (s.xr n rs1).toNat % 1024
      some (if s.nibConsumer q ≠ some n.val then .trap s 24 (s.xr n rs1)
        else match s.nibRelease n with
          | none => .next s rd 0
          | some t => let x := t.nibPop n q; .next x.1 rd x.2)
    | _ => none))

/-- VG_REL. -/
def execVgRel (n : Fin 10) (s : State) : Out :=
  .next (s.nibRow n (fun i => match i.op with
    | .rel rd => some (match s.nibRelease n with
      | none => .next s rd 1
      | some t => .next t rd 0)
    | _ => none))

/-- What VG.QLEN returns. -/
def State.nibQlen (s : State) (q : Nat) : Nat :=
  min 65535 (if q < 512 then (s.queue q).head.length + (s.queue q).mid.length + (s.queue q).tail.length
    else let x := s.fifo (q - 512); ((x.pkts ++ x.mid ++ x.tail).filter (s.pktVisible (q - 512))).length)

/-- VG_QLEN. -/
def execVgQlen (n : Fin 10) (s : State) : Out :=
  .next (s.nibRow n (fun i => match i.op with
    | .qlen rd rs1 =>
      let q := (s.xr n rs1).toNat % 1024
      some (if s.nibConsumer q ≠ some n.val then .trap s 24 (s.xr n rs1) else .next s rd (toWord (s.nibQlen q)))
    | _ => none))

/-! ## VG.PUSH (R237) -/

/-- A send descriptor. -/
structure SendDesc where
  buf : Nat
  len : Nat
  kind : Nat
  flags : Nat
  target : Nat
  rsv : Nat
  deriving DecidableEq, Repr

/-- The 16 bytes of a descriptor. -/
def sendDesc (b : List Byte) : SendDesc :=
  ⟨leNat (b.take 4), leNat ((b.drop 4).take 2), leNat ((b.drop 6).take 1), leNat ((b.drop 7).take 1), leNat ((b.drop 8).take 2), leNat (b.drop 10)⟩

/-- The buffer of a descriptor lies in the data SRAM, and its kind, target and length go together; a lane frame names the lane of
its queue. -/
def State.sendOk (s : State) (n : Nat) (d : SendDesc) : Bool :=
  decide (d.buf % 4 = 0) && decide (d.rsv = 0) && decide (0x10000000 ≤ d.buf) && decide (d.buf + d.len ≤ 0x10020000)
    && (match d.kind with
      | 0 => decide (d.target = 0) && decide (60 ≤ d.len) && decide (d.len ≤ 16379)
      | 1 =>
        if d.target < 320 then decide (60 ≤ d.len) && decide (d.len ≤ 16379)
        else decide (d.target < 416) && decide (16 ≤ d.len) && decide (d.len ≤ 2064)
          && decide (leNat (s.nibBytes n d.buf 1) = (d.target - 320) / 4)
      | 2 => decide (d.target < 256) && decide (d.len ≤ 16380)
      | _ => false)

/-- The frame enters Pipeline A on port `p` (KIND 0: 65). -/
def State.pushInject (s : State) (p : Nat) (bs : List Byte) (req : Bool) : State :=
  s.enter { Flight.good p (withFcs bs) 0xFFFF with txReq := req }

/-- KIND 1: the frame of port `p` is offered to queue `q`, green, with the present epoch; admission may mark it (09 R201, R202). -/
def State.pushQueue (s : State) (p q : Nat) (bs : List Byte) (req : Bool) : State × Nat :=
  let f := { Frame.plain (if q < 320 then withFcs bs else bs) p (if q < 320 then q % 8 else q % 4) s.epoch 0xFFFF with txReq := req }
  let h := s.parse (pipeOf p) p false f.bytes
  match s.offerKeep f (if q < 320 ∧ h.l3 ≠ 0 then h.ecn else 0) [⟨q, CopyEd.none⟩] 0 with
  | (t, some _) => (t, 0)
  | (t, none) => (t, 1)

/-- KIND 2: OPEN, DATA and COMMIT at once. -/
def State.pushFifo (s : State) (f flags : Nat) (bs : List Byte) : State × Nat :=
  if (s.fifo f).prod ≠ .none then (s, 2)
  else
    let words := (bs.length + 3) / 4
    let t := (List.range words).foldl (fun (t : State) i => t.fifoData f (toWord (leNat ((bs.drop (4 * i)).take 4)))) (s.fifoOpen f)
    let code := if (t.fifo f).prod = .dead then 1 else 0
    (s.fifoWatch f (t.fifoCommit f (flags % 64) (4 * words - bs.length)), code)

/-- A valid descriptor is carried out: the code for `rd`. -/
def State.pushOut (s : State) (d : SendDesc) (bs : List Byte) : State × Nat :=
  match d.kind with
  | 0 => (s.pushInject 65 bs (d.flags.testBit 0), 0)
  | 1 => s.pushQueue 65 d.target bs (d.flags.testBit 0)
  | _ => s.pushFifo d.target d.flags bs

/-- VG.PUSH of the descriptor at `a`. -/
def State.vgPush (s : State) (n rd : Nat) (a : Word) (r : CellRead) : NibRes :=
  if nibSpan a.toNat 16 ≠ some .dsram then .trap s 5 a
  else if a.toNat % 16 ≠ 0 then .trap s 4 a
  else
    let m := s.nibRead n a.toNat 16 r
    let d := sendDesc (s.nibBytes n a.toNat 16)
    let noProducer := d.kind = 2 ∧ d.target < 256 ∧ ¬(s.on F.NIB_FSUB_PROD_EN d.target = true ∧ s.rd F.NIB_FSUB_PROD_ENGINE d.target = n)
    if !m.2 then .trap m.1 5 a
    else if noProducer then .trap m.1 24 a
    else
      let x : State × Nat := if s.sendOk n d then m.1.pushOut d (s.nibBytes n d.buf d.len) else (m.1, 3)
      .next (x.1.nibCnt n (if x.2 = 0 then 6 else 7)) rd (toWord x.2)

/-- VG_PUSH. -/
def execVgPush (n : Fin 10) (r : CellRead) (s : State) : Out :=
  .next (s.nibRow n (fun i => match i.op with
    | .push rd rs1 => some (s.vgPush n rd (s.xr n rs1) r)
    | _ => none))

/-! ## Signal cells (R232) -/

/-- An access of `len` bytes, aligned to `len`, to the Signal Store: the cause with which it faults, `base` for alignment. -/
def ssFault (a len base : Nat) : Option Nat :=
  if a % len ≠ 0 then some base else if nibSpan a len ≠ some .ss then some (base + 1) else none

/-- The stamp of T0 now: nanoseconds and seconds; all zeros become 1 ns. -/
def State.stampNow (s : State) : Nat × Nat :=
  let x := (s.ruler 0).time
  if timeNs x = 0 ∧ timeSec x % 2 ^ 32 = 0 then (1, 0) else (timeNs x, timeSec x % 2 ^ 32)

/-- A value and the stamp are written to the cell at Signal Store offset `o`; STATUS stays. -/
def State.cellPut (s : State) (o v : Nat) : State :=
  let t := s.stampNow
  (s.ssWrite o (leBytes 4 v)).ssWrite (o + 8) (leBytes 4 t.1 ++ leBytes 4 t.2)

/-- VG_SPUT. -/
def execVgSput (n : Fin 10) (s : State) : Out :=
  .next (s.nibRow n (fun i => match i.op with
    | .sput rs1 rs2 =>
      let a := s.xr n rs1
      some (match ssFault a.toNat 16 6 with
        | some c => .trap s c a
        | none => .next (s.cellPut (a.toNat - 0x20000000) (s.xr n rs2).toNat) 0 0)
    | _ => none))

/-- T0 in nanoseconds, its seconds taken modulo 2^32. -/
def State.t0Mod (s : State) : Nat := let x := (s.ruler 0).time; timeSec x % 2 ^ 32 * 1000000000 + timeNs x

/-- The age of a stamp in µs. -/
def State.stampAge (s : State) (ns sec : Nat) : Nat :=
  if ns = 0 ∧ sec = 0 then 0xFFFFFFFF
  else
    let m := 2 ^ 32 * 1000000000
    min 0xFFFFFFFF ((s.t0Mod + 2 * m - (sec * 1000000000 + ns)) % m / 1000)

/-- VG_SAGE. -/
def execVgSage (n : Fin 10) (r : CellRead) (s : State) : Out :=
  .next (s.nibRow n (fun i => match i.op with
    | .sage rd rs1 =>
      let a := s.xr n rs1
      some (match ssFault a.toNat 16 4 with
        | some c => .trap s c a
        | none =>
          let m := s.nibRead n (a.toNat + 8) 8 r
          if m.2 then .next m.1 rd (toWord (s.stampAge (leNat (s.nibBytes n (a.toNat + 8) 4)) (leNat (s.nibBytes n (a.toNat + 12) 4))))
          else .trap m.1 5 a)
    | _ => none))

/-- VG_AMOADD. -/
def execVgAmoadd (n : Fin 10) (r : CellRead) (s : State) : Out :=
  .next (s.nibRow n (fun i => match i.op with
    | .amoadd rd rs1 rs2 =>
      let a := s.xr n rs1
      some (match ssFault a.toNat 4 6 with
        | some c => .trap s c a
        | none =>
          let m := s.nibRead n a.toNat 4 r
          let old := leNat (s.nibBytes n a.toNat 4)
          if m.2 then .next (m.1.nibStoreBytes n a.toNat (leBytes 4 (old + (s.xr n rs2).toNat))) rd (toWord old) else .trap m.1 5 a)
    | _ => none))

/-! ## Watchdog, halts, recovery, start (R238 to R243) -/

/-- NIB_WATCHDOG. -/
def execNibWatchdog (n : Fin 10) (s : State) : Out :=
  if !s.nibRunning n then .next s
  else
    let s := ((s.nibHalted n).wr F.NIB_FAULT_CAUSE_VALUE n 0xFFFFFFFF).evt F.NIB_STAT_WDOG_EVT n
    .next ((s.report (0x0D0 + n) (elemId 6 n) 0xFFFFFFFF).nibHaltDone n false)

/-- NIB_HALT_CMD: without a report. -/
def execNibHaltCmd (n : Fin 10) (s : State) : Out :=
  .next (if s.nibRunning n || decide (s.rd F.NIB_STAT_STATE n = 2) then s.nibHalted n else s)

/-- The engine reset (03 R63): the current frame is freed; registers, event queue, timers and data SRAM are cleared, and the
engine is in RESET. The instruction SRAM and the NIB_ control registers stay. -/
def State.nibReset (s : State) (n : Nat) : State :=
  let s := match (s.nibEng n).cur with
    | some (.frame q e) => (s.finishIn q e (!s.deep q)).drainService
    | some (.packet f) => s.fifoPop f
    | none => s
  let e := s.nibEng n
  let s := s.setNib n { NibEng.init with isram := e.isram, restarts := e.restarts }
  let s := (s.wr F.NIB_STAT_STATE n 0).wr F.NIB_STAT_IN_TRAP n 0
  (List.range 4).foldl (fun (t : State) k => t.nibTimerSet n k false 0) s

/-- The engine starts at NIB_ENTRY. -/
def State.nibStart (s : State) (n : Nat) : State :=
  (s.setNib n { s.nibEng n with pc := toWord (2 * s.rd F.NIB_ENTRY_ADDR n) }).wr F.NIB_STAT_STATE n 1

/-- NIB_RUN: from RESET only. -/
def execNibRun (n : Fin 10) (s : State) : Out :=
  .next (if s.rd F.NIB_STAT_STATE n = 0 ∧ s.nibHeld n = false ∧ s.phase ≠ .recovery then s.nibStart n else s)

/-- The queues and FIFOs that engine `n` takes. -/
def State.nibQueues (s : State) (n : Nat) : List Nat := ((List.range 320).map (448 + ·)).filter (fun q => decide (s.nibConsumer q = some n))

/-- Queue `q` has something to take. -/
def State.nibReady (s : State) (q : Nat) : Bool := if q < 512 then !s.queueEmpty q else (s.fifoHead (q - 512)).isSome

/-- ENGINE_RECOVERY: the running recovery of the fields domain (01 R20) releases the frame, resets the engine, starts it and
posts its QUEUE events. One that R240 does not allow any more ends without effect; in recovery mode engines stay stopped (03 R69). -/
def execEngineRecovery (n : Fin 10) (s : State) : Out :=
  if (s.recov.of .fields).running ≠ some (.engine n) ∨ s.phase = .recovery then .next s
  else if !s.nibMayRestart n then .next (s.endRecovery .fields (.engine n))
  else
    let s := (s.nibReset n).endRecovery .fields (.engine n)
    let s := (s.setNib n { s.nibEng n with restarts := s.now :: s.nibRestarts n }).bumpSat F.NIB_RESTART_TOTAL n
    let s := (s.nibStart n).evt F.NIB_STAT_RESTART_EVT n
    .next ((s.nibQueues n).foldl (fun (t : State) q => if t.nibReady q then t.queueEvent q else t) s)

/-- SIGNAL_STORE_SCRUB: the scrubber finds an error in a word. -/
def execSignalStoreScrub (word : Fin 262144) (uncorr : Bool) (s : State) : Out := .next (s.ssError uncorr word)

/-- NIB_CNT_CLR: the counters and NIB_EVQ.PEAK. -/
def execNibCntClr (n : Fin 10) (s : State) : Out :=
  .next ((s.clearWhere F.NIB_CNT_COUNT (fun e => decide (e / 9 = n.val))).wr F.NIB_EVQ_PEAK n 0)

/-! ## Power states (R244) -/

/-- On DOZE entry each engine that runs or waits is STOPPED; on return it goes on. -/
def State.nibStop (s : State) : State :=
  (List.range 10).foldl (fun (t : State) n => if t.rd F.NIB_STAT_STATE n = 1 ∨ t.rd F.NIB_STAT_STATE n = 2 then t.wr F.NIB_STAT_STATE n 4 else t) s
def State.nibResume (s : State) : State :=
  (List.range 10).foldl (fun (t : State) n =>
    if t.rd F.NIB_STAT_STATE n = 4 then t.wr F.NIB_STAT_STATE n (if (t.nibEng n).waiting.isSome then 2 else 1) else t) s

end Sys2Proof.Machine
end

