-- ==== Sys2Proof/Machine/Gateway.lean ====
section
/-! DEFINITION. The signal gateway (spec 11): signal limiters, and what the gateway program does with its tables in the Signal
Store (R256 to R263). A gateway row is the program's effect on the Signal Store, the queues and its own state; the engine's
registers and pc are those of the instruction rows. -/
namespace Sys2Proof.Machine

/-- SIG_RL_REFILL (R251). -/
def execSigRlRefill (j : Fin 256) (s : State) : Out :=
  .next (s.wr F.SIG_RL_TOKENS j (min (s.rd F.SIG_RL_TOKENS j + 1) (max 1 (s.rd F.SIG_RL_BURST j))))

/-- Every signal limiter is full (R251). -/
def State.sigLimitersFull (s : State) : State :=
  (List.range 256).foldl (fun (t : State) j => t.wr F.SIG_RL_TOKENS j (max 1 (t.rd F.SIG_RL_BURST j))) s

/-- SIG_CNT_CLR. -/
def execSigCntClr (s : State) : Out := .next (s.clearFld F.SIG_CNT_COUNT)

/-! ## The tables (R256 to R260) -/

/-- The word at Signal Store offset `o`, and the word put there. -/
def State.ssWord (s : State) (o : Nat) : Nat := leNat (Mem.read s.ss o 4)
def State.ssPut (s : State) (o v : Nat) : State := s.ssWrite o (leBytes 4 v)

/-- Field `n` of the gateway header, and a counter of it plus 1. -/
def gwHeader (off : Nat) : Nat := 0x1D0000 + off
def State.gwCount (s : State) (off : Nat) : State := s.ssPut (gwHeader off) (s.ssWord (gwHeader off) + 1)

/-- Offsets of a signal's cell and descriptor, of an output descriptor, of an input map entry, of a list entry and of a scale
descriptor. -/
def cellAt (k : Nat) : Nat := 16 * k
def sigDescAt (k : Nat) : Nat := 0x80000 + 16 * k
def outDescAt (m : Nat) : Nat := 0x100000 + 32 * m
def mapAt (i : Nat) : Nat := 0x120000 + 32 * i
def listAt (off i : Nat) : Nat := 0x160000 + off + 8 * i
def scaleAt (i : Nat) : Nat := 0x1C0000 + 16 * i

/-- A list entry (R258): SPEC, SCALE_EN, SIGNAL, SCALE_IDX. -/
structure ListEnt where
  spec : Nat
  scaled : Bool
  sig : Nat
  scaleIdx : Nat
  deriving DecidableEq, Repr

/-- The list entries `0` to `n - 1` at `off`; an entry that names no signal cell is left out. -/
def State.listEnts (s : State) (off n : Nat) : List ListEnt :=
  ((List.range n).map (fun i =>
    let a := s.ssWord (listAt off i)
    let b := s.ssWord (listAt off i + 4)
    (⟨bits a 0 21, a.testBit 31, bits b 0 16, bits b 16 12⟩ : ListEnt))).filter (fun (x : ListEnt) => decide (x.sig < 32768))

/-- A value through a list entry's scale descriptor, when SCALE_EN is set; signed as SPEC.SIGNED states. -/
def State.scaled (s : State) (x : ListEnt) (v : Word) : Word :=
  if x.scaled then
    let d (k : Nat) : Int := toSigned 32 (s.ssWord (scaleAt x.scaleIdx + 4 * k))
    BitVec.ofInt 32 (scaleOf (if x.spec.testBit 19 then v.toInt else (v.toNat : Int)) (d 0) (d 1) (d 2) (d 3))
  else v

/-- The program runs on engine `n`. -/
def State.gwRuns (s : State) (n : Nat) : Bool :=
  (s.nibEng n).gwOn && (decide (s.rd F.NIB_STAT_STATE n = 1) || decide (s.rd F.NIB_STAT_STATE n = 2))

/-- GATEWAY_START (R257): with MAGIC written, the program takes the DOORBELL of value 1. -/
def execGatewayStart (n : Fin 10) (s : State) : Out :=
  if s.ssWord (gwHeader 0) ≠ 0x53475731 ∨ ¬(s.rd F.NIB_STAT_STATE n = 1 ∨ s.rd F.NIB_STAT_STATE n = 2) then .next s
  else match s.nibTake n 0x10 with
    | some (t, w) => .next (if w % 2 ^ 24 = 1 then t.setNib n { t.nibEng n with gwOn := true } else t)
    | none => .next s

/-! ## Unpacking (R259, R261, R263) -/

/-- The input map entry of (KEY, LANE, SRC): at most 16 slots from its start slot on. -/
def State.mapFind (s : State) (key lane src : Nat) : Option Nat :=
  let h := vgCrc 2 0xFFFF (beBytes 4 key ++ beBytes 1 lane ++ beBytes 1 src ++ beBytes 2 0)
  ((List.range 16).map (fun i => (h + i) % 8192)).find? (fun i =>
    let w1 := s.ssWord (mapAt i + 4)
    decide (s.ssWord (mapAt i) = key) && w1.testBit 31 && decide (bits w1 24 3 = src) && decide (bits w1 0 5 = lane))

/-- An output becomes pending on the engine that builds it. -/
def State.gwTrigger (s : State) (m : Nat) : State :=
  let e := bits (s.ssWord (outDescAt m)) 16 4
  let g := s.nibEng e
  if m ∈ g.gwPend ∨ 9 < e then s else s.setNib e { g with gwPend := g.gwPend ++ [m] }

/-- Whether a new value differs from the old one as TRIG_EN and DELTA demand. -/
def State.gwChanged (s : State) (sig old new : Nat) : Bool :=
  let d := s.ssWord (sigDescAt sig + 12)
  decide (old ≠ new) && decide (d ≤ max old new - min old new)

/-- One list entry is unpacked from the data bytes: the cell is written, UPDATES counts, SUBST is cleared, and a change may
trigger an output. -/
def State.unpackOne (s : State) (data : List Byte) (x : ListEnt) : State :=
  let v := (s.scaled x (fieldValue x.spec (fieldGet x.spec 0 data))).toNat
  let c := cellAt x.sig
  let old := s.ssWord c
  let st := s.ssWord (c + 4)
  let t := (s.cellPut c v).ssPut (c + 4) ((bits st 16 16 + 1) % 65536 * 65536 + bits st 1 15 * 2)
  let d := s.ssWord (sigDescAt x.sig)
  if d.testBit 31 && d.testBit 26 && s.gwChanged x.sig old v then t.gwTrigger (bits (s.ssWord (sigDescAt x.sig + 8)) 0 12) else t

/-- A mapped frame is unpacked by entry `i`. -/
def State.unpack (s : State) (i : Nat) (data : List Byte) : State :=
  (s.listEnts (bits (s.ssWord (mapAt i + 8)) 0 17) (bits (s.ssWord (mapAt i + 12)) 0 16)).foldl (fun (t : State) x => t.unpackOne data x) s

/-- A TRDP header at the start of the bytes behind a UDP header passes the checks that need no map entry (R263). -/
def State.trdpOk (s : State) (t : List Byte) (udpLen : Nat) : Bool :=
  let topo (off want : Nat) : Bool := decide (be t off 4 = 0) || decide (be t off 4 = s.ssWord (gwHeader want))
  decide (be t 6 2 = 0x5064) && decide ((t.drop 36).take 4 = leBytes 4 (crc32Eth (t.take 36)))
    && decide (be t 20 4 + 48 = udpLen) && topo 12 12 && topo 16 16

/-- A received telegram. -/
def State.gwTelegram (s : State) (t : List Byte) (udpLen : Nat) : State :=
  if !s.trdpOk t udpLen then s.gwCount 36
  else match s.mapFind (be t 8 4) 0 4 with
    | none => s.gwCount 32
    | some i =>
      if s.ssWord (mapAt i + 16) = be t 0 4 then s.gwCount 36
      else (s.ssPut (mapAt i + 16) (be t 0 4)).unpack i ((t.drop 40).take (be t 20 4))

/-- A received frame: a lane frame, a TRDP telegram over UDP/IPv4, or a frame without an entry. -/
def State.gwFrame (s : State) (f : Frame) : State :=
  if s.lanePort f.inPort then
    let x := laneOf f.bytes
    match s.mapFind x.key (laneNo f.bytes) (kclassOf x.kind x.flags) with
    | some i => s.unpack i x.data
    | none => s.gwCount 32
  else
    let h := parseEth (s.rd F.PP_TPID_C_TPID 0) (s.rd F.PP_TPID_S_TPID 0) false f.bytes
    match h.l4 with
    | some o => if h.l3 = 4 ∧ h.proto = 17 ∧ h.l4dst = 17224 then s.gwTelegram (f.bytes.drop (o + 8)) (be f.bytes (o + 4) 2) else s.gwCount 32
    | none => s.gwCount 32

/-- GATEWAY_FRAME_UNPACK: the program pops the head of a Nib queue that its engine takes, unpacks it and releases it. -/
def execGatewayFrameUnpack (n : Fin 10) (j : Fin 64) (s : State) : Out :=
  if !s.gwRuns n || decide (s.nibConsumer (448 + j) ≠ some n.val) then .next s
  else match s.nibRelease n with
    | none => .next s
    | some s =>
      let r := s.nibPop n (448 + j)
      let s := match (r.1.nibEng n).cur with
        | some (.frame _ e) => (match r.1.frames.find e.first with | some f => r.1.gwFrame f | none => r.1)
        | _ => r.1
      .next ((s.nibRelease n).getD s)

/-! ## Sending (R260 to R263) -/

/-- A signal's age makes it stale. -/
def State.gwStale (s : State) (sig : Nat) : Bool :=
  let t := bits (s.ssWord (sigDescAt sig)) 0 24
  decide (t ≠ 0) && decide (t < s.stampAge (s.ssWord (cellAt sig + 8)) (s.ssWord (cellAt sig + 12)))

/-- SUBST_MODE of a signal. -/
def State.gwSubst (s : State) (sig : Nat) : Nat := bits (s.ssWord (sigDescAt sig)) 24 2

/-- The stale signals of a list have STATUS.SUBST set. -/
def State.gwMark (s : State) (l : List ListEnt) : State :=
  l.foldl (fun (t : State) (x : ListEnt) => if s.gwStale x.sig then t.ssPut (cellAt x.sig + 4) (setBitN (t.ssWord (cellAt x.sig + 4)) 0) else t) s

/-- The data bytes with one list entry inserted; a field beyond them is left out. -/
def State.gwInsert (s : State) (data : List Byte) (x : ListEnt) : List Byte :=
  let v := if s.gwStale x.sig ∧ s.gwSubst x.sig = 0 then s.ssWord (sigDescAt x.sig + 4) else s.ssWord (cellAt x.sig)
  if (fieldBits x.spec).all (fun b => decide (b / 8 < data.length)) then fieldPut x.spec 0 (s.scaled x (toWord v)).toNat data else data

/-- The TRDP header at the end of a template, with sequenceCounter, topology counters and headerFcs. -/
def State.trdpHeader (s : State) (hdr : List Byte) (seq : Nat) : List Byte :=
  let h := beBytes 4 seq ++ (hdr.drop 4).take 8 ++ beBytes 4 (s.ssWord (gwHeader 12)) ++ beBytes 4 (s.ssWord (gwHeader 16)) ++ (hdr.drop 20).take 16
  h ++ leBytes 4 (crc32Eth h)

/-- The frame of output `m`. -/
def State.gwBuild (s : State) (m : Nat) (l : List ListEnt) : List Byte :=
  let a := outDescAt m
  let w3 := s.ssWord (a + 12)
  let tpl := Mem.read s.ss (0x180000 + bits w3 0 18) (bits w3 20 12)
  let data := l.foldl s.gwInsert (List.replicate (bits (s.ssWord (a + 24)) 0 16) 0)
  if bits (s.ssWord a) 28 3 = 0 then tpl.take (tpl.length - 40) ++ s.trdpHeader (tpl.drop (tpl.length - 40)) ((s.ssWord (a + 28) + 1) % 2 ^ 32) ++ data
  else tpl ++ data

/-- The push of a built frame: VG.PUSH KIND 0 for TARGET 0xFFFF, else KIND 1, with its code. -/
def State.gwPush (s : State) (target : Nat) (bs : List Byte) : State × Nat :=
  if target = 0xFFFF then
    (if 60 ≤ bs.length ∧ bs.length ≤ 16379 then (s.pushInject 65 bs false, 0) else (s, 3))
  else if target < 320 then
    (if 60 ≤ bs.length ∧ bs.length ≤ 16379 then s.pushQueue 65 target bs false else (s, 3))
  else if target < 416 ∧ 16 ≤ bs.length ∧ bs.length ≤ 2064 ∧ laneNo bs = (target - 320) / 4 then s.pushQueue 65 target bs false
  else (s, 3)

/-- Output `m` is sent, or withheld (R261, R262). -/
def State.gwSend (s : State) (n m : Nat) : State :=
  let a := outDescAt m
  let l := s.listEnts (bits (s.ssWord (a + 16)) 0 17) (bits (s.ssWord (a + 20)) 0 16)
  let t := s.gwMark l
  if l.any (fun (x : ListEnt) => s.gwStale x.sig && decide (2 ≤ s.gwSubst x.sig)) then t.gwCount 24
  else
    let r := t.gwPush (bits (s.ssWord (a + 24)) 16 16) (s.gwBuild m l)
    let g := r.1.nibEng n
    let u := r.1.setNib n { g with gwLast := g.gwLast.put m s.now }
    if r.2 = 0 then ((u.ssPut (a + 28) (u.ssWord (a + 28) + 1)).gwCount 20).nibCnt n 6 else (u.gwCount 28).nibCnt n 7

/-- Output `m` is in use, belongs to engine `n`, and its MODE is 2 or `mode`. -/
def State.gwOutput (s : State) (n m mode : Nat) : Bool :=
  let w := s.ssWord (outDescAt m)
  s.gwRuns n && w.testBit 31 && decide (m < s.ssWord (gwHeader 8)) && decide (bits w 16 4 = n) && (decide (bits w 26 2 = mode) || decide (bits w 26 2 = 2))

/-- GATEWAY_SCHEDULED_SEND: a multiple of PERIOD_US. -/
def execGatewayScheduledSend (n : Fin 10) (m : Fin 4096) (s : State) : Out :=
  .next (if s.gwOutput n m 0 then s.gwSend n m else s)

/-- MIN_GAP_US has passed since the last send of output `m`. -/
def State.gwGapOver (s : State) (n m : Nat) : Bool :=
  match (s.nibEng n).gwLast.find m with
  | some t => decide (t + bits (s.ssWord (outDescAt m + 8)) 0 24 * ticksUs ≤ s.now)
  | none => true

/-- GATEWAY_TRIGGERED_SEND: a pending output, once its gap is over. -/
def execGatewayTriggeredSend (n : Fin 10) (m : Fin 4096) (s : State) : Out :=
  let g := s.nibEng n
  .next (if s.gwOutput n m 1 && decide (m.val ∈ g.gwPend) && s.gwGapOver n m then
    (s.setNib n { g with gwPend := g.gwPend.filter (fun k => decide (k ≠ m.val)) }).gwSend n m
  else s)

end Sys2Proof.Machine
end

