-- ==== Sys2Proof/Machine/Loads.lean ====
section
/-! DEFINITION. Load channels (spec 20): the power-die configuration, load profiles, the protection, retry
and latch, commands, and diagnosis. -/
namespace Sys2Proof.Machine

/-- STATE of a channel (20 R402). -/
def lcOff : Nat := 0
def lcInrush : Nat := 1
def lcOn : Nat := 2
def lcPause : Nat := 3
def lcWaitBank : Nat := 4
def lcLatched : Nat := 5

/-- What channel `n` holds beside its registers. -/
def State.load (s : State) (n : Nat) : LoadCh := s.loads.get LoadCh.init n

/-- The state with that replaced. -/
def State.setLoad (s : State) (n : Nat) (c : LoadCh) : State := { s with loads := s.loads.set LoadCh.init n c }

/-- STATE of channel `n`. -/
def State.lcState (s : State) (n : Nat) : Nat := s.rd F.LC_CH_STAT_STATE n

/-- Channel `n` is commanded on: INRUSH, ON, PAUSE or WAIT_BANK (LC_CMD). -/
def State.lcCommanded (s : State) (n : Nat) : Bool :=
  decide (1 ≤ s.lcState n) && decide (s.lcState n ≤ 4)

/-- LC_CMD. -/
def State.lcCmd (s : State) : Nat :=
  (List.range 24).foldl (fun w n => if s.lcCommanded n then setBitN w n else w) 0

/-- Some channel of bank `b` is in inrush. -/
def State.bankInrush (s : State) (b : Nat) : Bool :=
  (List.range 6).any (fun i => decide (s.lcState (6 * b + i) = lcInrush))

/-! ## The power-die configuration -/

/-- Big-endian field of `n` bytes at offset `o` (00 R3). -/
def fieldAt (bs : List Byte) (o n : Nat) : Nat := beNat ((bs.drop o).take n)

/-- Whether channel `n`'s fields of a power-die configuration lie in their ranges (20 R395). -/
def pdChannelOk (bs : List Byte) (n : Nat) : Bool :=
  let sh := fieldAt bs (16 + 8 * n) 2
  let sc := fieldAt bs (18 + 8 * n) 2
  let ir := fieldAt bs (20 + 8 * n) 2
  let op := fieldAt bs (22 + 8 * n) 2
  decide (500 ≤ sh) && decide (sh ≤ 20000) && decide (100 ≤ ir) && decide (ir ≤ 30000) && decide (op ≤ ir)
    && decide (100000 ≤ sc * sh) && decide (sc * sh ≤ 1000000)

/-- The validity of a power-die configuration (20 R395). -/
def pdConfigOk (bs : List Byte) : Bool :=
  decide (bs.length = 224) && decide (fieldAt bs 0 4 = 0x50444331) && decide (fieldAt bs 4 2 = 1)
    && decide (fieldAt bs 6 2 = 224) && decide (fieldAt bs 8 8 = 0)
    && (List.range 24).all (pdChannelOk bs)
    && (List.range 4).all (fun b =>
      decide (6000 ≤ fieldAt bs (208 + 4 * b) 2) && decide (fieldAt bs (208 + 4 * b) 2 ≤ 30000)
        && decide (fieldAt bs (210 + 4 * b) 2 = 0))

/-- The power die takes a configuration: its values reach the channels' registers and LC_VLD_DIP. -/
def State.applyPdConfig (s : State) (bs : List Byte) : State :=
  let s := { s with pdConfig := some bs, pdConfigWait := none }
  let s := (s.wr F.LC_GLB_STAT_CFG_VALID 0 1).wr F.LC_GLB_STAT_CFG_DEFERRED 0 0
  let s := (List.range 24).foldl (fun s n =>
    (((s.wr F.LC_CH_SENSE_SHUNT_UOHM n (fieldAt bs (16 + 8 * n) 2)).wr F.LC_CH_BOARD_SC_DA n (fieldAt bs (18 + 8 * n) 2)).wr
      F.LC_CH_BOARD_I_RATED_MA n (fieldAt bs (20 + 8 * n) 2)).wr F.LC_CH_SENSE_OPEN_MA n (fieldAt bs (22 + 8 * n) 2)) s
  (List.range 4).foldl (fun s b => s.wr F.LC_VLD_DIP_DIP_MV b (fieldAt bs (208 + 4 * b) 2)) s

/-- A valid configuration is offered to the power die (03 R66): it is taken when no channel is on or when it
equals the held one, else it is kept back and CFG_DEFERRED is set. DESIGN CHOICE: a configuration already kept back stays waiting
when one equal to the held one is offered; R66 does not say whether it is dropped. -/
def State.offerPdConfig (s : State) (bs : List Byte) : State :=
  if s.pdConfig = some bs then s
  else if s.lcCmd = 0 then s.applyPdConfig bs
  else ({ s with pdConfigWait := some bs }).wr F.LC_GLB_STAT_CFG_DEFERRED 0 1

/-- Once every channel is off, a configuration kept back is applied (20 R406). -/
def State.configService (s : State) : State :=
  match s.pdConfigWait with
  | some bs => if s.lcCmd = 0 then s.applyPdConfig bs else s
  | none => s

/-! ## Protection parameters (02 R43, R48) -/

/-- A channel takes the parameters of its LOADS record. -/
def State.applyLoadRec (s : State) (n : Nat) (r : LoadRec) : State :=
  let s := s.setLoad n { s.load n with segs := r.segs, waiting := none }
  let s := ((s.wrb F.LC_CH_CFG_PRESENT n r.present).wr F.LC_CH_CFG_PENDING n 0).wr F.LC_CH_CFG_XSECT n (if r.xsect ≤ 7 then r.xsect else 0)
  let s := ((s.wr F.LC_CH_CFG_PROFILE n r.profile).wr F.LC_CH_CFG_RETRY_N n r.retryN).wr F.LC_CH_CFG_P0_MS n r.p0Ms
  (s.wr F.LC_CH_LIM_WIRE_MOHM n r.wireMohm).wr F.LC_CH_LIM_ELIM_MJ n r.elimMj

/-- The record that a channel's registers and segments hold. -/
def State.loadRecOf (s : State) (n : Nat) : LoadRec where
  present := s.on F.LC_CH_CFG_PRESENT n
  profile := s.rd F.LC_CH_CFG_PROFILE n
  xsect := s.rd F.LC_CH_CFG_XSECT n
  wireMohm := s.rd F.LC_CH_LIM_WIRE_MOHM n
  elimMj := s.rd F.LC_CH_LIM_ELIM_MJ n
  p0Ms := s.rd F.LC_CH_CFG_P0_MS n
  retryN := s.rd F.LC_CH_CFG_RETRY_N n
  segs := (s.load n).segs

/-- A start brings the Scroll's LOADS record of channel `n` (02 R48): a channel that is off takes it at once; one
held on keeps its parameters, and a record that differs waits, with PENDING, until the channel is off. -/
def State.offerLoadRec (s : State) (n : Nat) (r : LoadRec) : State :=
  let r := { r with xsect := if r.xsect ≤ 7 then r.xsect else 0 }
  if s.lcCommanded n then
    if s.loadRecOf n = r then (s.setLoad n { s.load n with waiting := none }).wr F.LC_CH_CFG_PENDING n 0
    else (s.setLoad n { s.load n with waiting := some r }).wr F.LC_CH_CFG_PENDING n 1
  else s.applyLoadRec n r

/-! ## The envelope (20 R396, R397) -/

/-- Segments (END_US, percent of the rated current) and the limit after the last one, of a stored profile. -/
def storedProfile (p : Nat) : List (Nat × Nat) × Nat :=
  match p with
  | 0 => ([(20000, 1000), (100000, 400)], 150)
  | 1 => ([(2000, 600), (10000, 200)], 130)
  | 2 => ([(200000, 600), (1000000, 250)], 140)
  | 3 => ([(5000, 200)], 125)
  | 4 => ([(50000, 250)], 130)
  | 5 => ([(1000, 2000), (20000, 500)], 130)
  | 7 => ([(10000, 300)], 130)
  | _ => ([(1000, 150)], 120)

/-- The segments of channel `n`'s envelope in mA, and the limit after the last one. A custom profile without a
segment acts as profile 6. -/
def State.envelope (s : State) (n : Nat) : List (Nat × Nat) × Nat :=
  let p := s.rd F.LC_CH_CFG_PROFILE n
  let ir := s.rd F.LC_CH_BOARD_I_RATED_MA n
  let segs := (s.load n).segs
  if 8 ≤ p ∧ segs ≠ [] then (segs, (segs.getLast?.map Prod.snd).getD 0)
  else
    let q := storedProfile p
    (q.1.map (fun e => (e.1, e.2 * ir / 100)), q.2 * ir / 100)

/-- The present current limit of channel `n` in mA. -/
def State.envLimit (s : State) (n : Nat) : Nat :=
  let e := s.envelope n
  match e.1.find? (fun g => decide ((s.load n).clk ≤ g.1 * ticksUs)) with
  | some g => g.2
  | none => e.2

/-- The END_US of the last segment, in ticks of TCLK. -/
def State.envEnd (s : State) (n : Nat) : Nat :=
  (((s.envelope n).1.getLast?.map Prod.fst).getD 0) * ticksUs

/-! ## The wiring model (20 R400) -/

/-- I_cont in A by XSECT. -/
def iCont (x : Nat) : Nat :=
  match x with
  | 1 => 8 | 2 => 10 | 3 => 13 | 4 => 18 | 5 => 24 | 6 => 31 | 7 => 43 | _ => 6

/-- τ in s by XSECT. -/
def wireTau (x : Nat) : Nat :=
  match x with
  | 1 => 14 | 2 => 18 | 3 => 25 | 4 => 40 | 5 => 60 | 6 => 85 | 7 => 130 | _ => 10

/-- The limit of Q for channel `n`, in 10^-12 A². -/
def State.qLimit (s : State) (n : Nat) : Nat := (iCont (s.rd F.LC_CH_CFG_XSECT n)) ^ 2 * 10 ^ 12

/-- One microsecond of the model at a current of `i` in 10 mA: Q moves by (I² - Q) * 1 µs / τ. -/
def qStep (q i tau : Nat) : Nat :=
  let x := i * i * 10 ^ 8
  if q ≤ x then q + (x - q) / (tau * 10 ^ 6) else q - (q - x) / (tau * 10 ^ 6)

/-- Q_PERMILLE: Q in 0.1 % of I_cont², where 1,000 is the limit, saturating. -/
def State.qPermille (s : State) (n : Nat) : Nat := min 65535 ((s.load n).q * 1000 / s.qLimit n)

/-! ## Faults, retry and latch (20 R398 to R403) -/

/-- The gate of channel `n` is pulled down: its current falls to zero. -/
def State.lcGateOff (s : State) (n st : Nat) : State := (s.wr F.LC_CH_STAT_STATE n st).wr F.LC_CH_MEAS_I_10MA n 0

/-- A channel goes off: its envelope stands, and parameters that waited for off take effect (02 R48). -/
def State.lcGoesOff (s : State) (n st : Nat) : State :=
  let s := s.lcGateOff n st
  match (s.load n).waiting with
  | some r => s.applyLoadRec n r
  | none => s

/-- A channel is switched on: INRUSH with its envelope clock at 0. -/
def State.lcSwitchOn (s : State) (n : Nat) : State :=
  (s.setLoad n { s.load n with clk := 0, frozen := 0 }).wr F.LC_CH_STAT_STATE n lcInrush

/-- The lowest channel of bank `b` that waits for the bank. -/
def State.lowestWaiting (s : State) (b : Nat) : Option Nat :=
  (firstIdx (fun n => decide (s.lcState n = lcWaitBank)) (6 * b) 6)

/-- The waiting retries of bank `b` (20 R402, R403, R407): when no channel of the bank is in inrush and VBAT holds
back no retry, the lowest waiting channel retries. -/
def State.bankService (s : State) (b : Nat) : State :=
  if s.bankInrush b || s.retryHold then s
  else match s.lowestWaiting b with
    | some n => s.lcSwitchOn n
    | none => s

/-- A report of a channel; in main-die absent it stays in the event flags until the link is back (20 R405). -/
def State.lcReport (s : State) (src n : Nat) : State := if s.ferrule.absent then s else s.reportX src (elemId 10 n)

/-- The event bit and report of a fault that leads to a pause, or of a latch. -/
def State.lcLatch (s : State) (n : Nat) : State :=
  ((((s.lcGoesOff n lcLatched).evt F.LC_CH_STAT_LATCH_EVT n).bump F.LC_CH_CNT_COUNT (4 * n + 3)).lcReport (0x218 + n) n)
def State.lcPauses (s : State) (n : Nat) : State :=
  ((s.lcGateOff n lcPause).evt F.LC_CH_STAT_FAULT_EVT n).lcReport (0x200 + n) n

/-- The counter of a fault code: SC_TRIPS, OC_TRIPS (over-current and energy), THERMAL. -/
def State.lcCount (s : State) (n code : Nat) : State :=
  if code = 1 then s.bump F.LC_CH_CNT_COUNT (4 * n)
  else if code = 2 ∨ code = 3 then s.bump F.LC_CH_CNT_COUNT (4 * n + 1)
  else if code = 4 then s.bump F.LC_CH_CNT_COUNT (4 * n + 2)
  else s

/-- A fault of channel `n` in INRUSH or ON (20 R398, R401, R402): LAST_FAULT, the fault count and its counter; then
the pause, or the latch at f = N + 1 and for a driver or sense fault. -/
def State.lcFault (s : State) (n code : Nat) : State :=
  if s.lcState n = lcInrush ∨ s.lcState n = lcOn then
    let f := s.rd F.LC_CH_STAT_FAULT_CNT n + 1
    let s := (s.wr F.LC_CH_STAT_LAST_FAULT n code).wr F.LC_CH_STAT_FAULT_CNT n (min f 9)
    let s := s.lcCount n code
    let s := if code = 5 ∨ s.rd F.LC_CH_CFG_RETRY_N n < f then s.lcLatch n else s.lcPauses n
    (s.bankService (n / 6)).configService
  else s

/-- Peak current (10 mA) and let-through energy (10 µJ) of the fault episode (20 R408). -/
def State.lcEpisode (s : State) (n peak lt : Nat) : State :=
  (s.wr F.LC_CH_MEAS_PEAK_10MA n (min peak 65535)).wr F.LC_CH_WIRE_LT_10UJ n (min lt 65535)

/-- An ON command for one channel (20 R402): accepted in OFF, for a present channel, while a power-die
configuration is held; else REFUSED_EVT. -/
def State.lcOnOne (s : State) (n : Nat) : State :=
  if s.lcState n = lcOff ∧ s.on F.LC_CH_CFG_PRESENT n = true ∧ s.on F.LC_GLB_STAT_CFG_VALID 0 = true then s.lcSwitchOn n
  else s.evt F.LC_CH_STAT_REFUSED_EVT n

/-- An OFF command for one channel: OFF, fault count kept; a latched or off channel keeps its state. -/
def State.lcOffOne (s : State) (n : Nat) : State :=
  if s.lcCommanded n then (s.lcGoesOff n lcOff).bankService (n / 6) else s

/-- LC_CLR for one channel: in LATCHED it goes OFF; in LATCHED and OFF the fault count becomes 0. The fault count
is cleared in every state (20 R401). -/
def State.lcClrOne (s : State) (n : Nat) : State :=
  let s := s.wr F.LC_CH_STAT_FAULT_CNT n 0
  if s.lcState n = lcLatched then s.wr F.LC_CH_STAT_STATE n lcOff else s

/-- The state after `f` for each channel of a mask, in rising order. -/
def State.eachOf (s : State) (mask : Nat) (f : State → Nat → State) : State :=
  (List.range 24).foldl (fun s n => if mask.testBit n then f s n else s) s

/-- Channels take commands: the Ferrule link carries them (01 R13), and in recovery mode they hold (03 R69). -/
def State.lcTakes (s : State) : Bool := s.linkUp && decide (s.phase ≠ .recovery)

/-- LC_ON (20 R402, R404). -/
def execLcOn (mask : BitVec 24) (s : State) : Out :=
  .next (if s.lcTakes then s.eachOf mask.toNat State.lcOnOne else s)

/-- LC_OFF (20 R402). -/
def execLcOff (mask : BitVec 24) (s : State) : Out :=
  .next (if s.lcTakes then (s.eachOf mask.toNat State.lcOffOne).configService else s)

/-- LC_CLR (20 R401, R402). -/
def execLcClr (mask : BitVec 24) (s : State) : Out :=
  .next (if s.lcTakes then s.eachOf mask.toNat State.lcClrOne else s)

/-- The comparator finds the current of `n` above SC_DA (20 R398): peak current in 10 mA, let-through in 10 µJ. -/
def execShortCircuitTrip (n : Fin 24) (i10mA lt10uJ : Nat) (s : State) : Out :=
  .next (if s.rd F.LC_CH_BOARD_SC_DA n * 10 < i10mA then (s.lcEpisode n i10mA lt10uJ).lcFault n 1 else s)

/-- The current of `n` has been above the envelope limit for the filter time (20 R398, R407). -/
def execOvercurrentTrip (n : Fin 24) (i10mA lt10uJ : Nat) (s : State) : Out :=
  .next (if s.envLimit n < i10mA * 10 then (s.lcEpisode n i10mA lt10uJ).lcFault n 2 else s)

/-- The let-through energy plus the energy of 1 µs at the present current reaches ELIM_MJ (20 R398, R399),
compared in units of 10^-13 J. -/
def execEnergyTrip (n : Fin 24) (i10mA lt10uJ : Nat) (s : State) : Out :=
  .next (if s.rd F.LC_CH_LIM_ELIM_MJ n * 10 ^ 10 ≤ lt10uJ * 10 ^ 8 + i10mA * i10mA * s.rd F.LC_CH_LIM_WIRE_MOHM n
    then (s.lcEpisode n i10mA lt10uJ).lcFault n 3 else s)

/-- The wiring model of `n` reaches I_cont² (20 R398, R400). -/
def execThermalTrip (n : Fin 24) (s : State) : Out :=
  .next (if s.lcState n = lcInrush ∨ s.lcState n = lcOn then
    State.lcFault (s.setLoad n { s.load n with q := max (s.load n).q (s.qLimit n) }) n 4
  else s)

/-- The gate, the charge pump or the sense amplifier of `n` fails its self-check (20 R398, R401): it latches. -/
def execDriverSenseFault (n : Fin 24) (s : State) : Out := .next (s.lcFault n 5)

/-- The envelope clock of `n` passes the last END_US (20 R402): ON, and the bank is free for a retry. -/
def execInrushEnd (n : Fin 24) (s : State) : Out :=
  .next (if s.lcState n = lcInrush then
    ((s.setLoad n { s.load n with clk := max (s.load n).clk (s.envEnd n + 1) }).wr F.LC_CH_STAT_STATE n lcOn).bankService (n / 6)
  else s)

/-- The pause of `n` ends (20 R401, R402, R407): after a thermal fault only once Q has fallen to half its limit. The
channel retries, or waits for the bank or for VBAT. -/
def execLcPauseEnd (n : Fin 24) (s : State) : Out :=
  .next (if s.lcState n = lcPause then
    if s.rd F.LC_CH_STAT_LAST_FAULT n = 4 ∧ s.qLimit n < 2 * (s.load n).q then s
    else (s.wr F.LC_CH_STAT_STATE n lcWaitBank).bankService (n / 6)
  else s)

/-- 2 s without a fault while ON or OFF (20 R401): the fault count returns to 0. -/
def execFaultCountReset (n : Fin 24) (s : State) : Out :=
  .next (if s.lcState n = lcOn ∨ s.lcState n = lcOff then s.wr F.LC_CH_STAT_FAULT_CNT n 0 else s)

/-- DIP_MV as it acts: values outside 6,000 to 30,000 act as the nearer limit. -/
def State.dipMv (s : State) (b : Nat) : Nat := max 6000 (min 30000 (s.rd F.LC_VLD_DIP_DIP_MV b))

/-- VLDb falls below LC_VLD_DIP[b] (20 R397): the envelope clocks of the bank's inrush channels stand still. -/
def execVldDip (b : Fin 4) (mv : Nat) (s : State) : Out :=
  let s := s.wr F.LC_BANK_VLD_MV b (min mv 65535)
  .next (if mv < s.dipMv b then { s with vldDip := s.vldDip.set false b true } else s)

/-- VLDb is back above LC_VLD_DIP[b] (20 R397): the clocks run again. -/
def execVldDipEnd (b : Fin 4) (mv : Nat) (s : State) : Out :=
  let s := s.wr F.LC_BANK_VLD_MV b (min mv 65535)
  .next (if s.dipMv b ≤ mv then { s with vldDip := s.vldDip.set false b false } else s)

/-- Current of `n` (10 mA) for 10 ms in ON (20 R408): below OPEN_MA, unless that is 0, it sets OPEN_ON and
OPEN_EVT; otherwise OPEN_ON clears. -/
def execOpenLoadOn (n : Fin 24) (i10mA : Nat) (s : State) : Out :=
  .next (if s.lcState n = lcOn then
    let s := s.wr F.LC_CH_MEAS_I_10MA n (min i10mA 65535)
    if s.on F.LC_CH_SENSE_OPEN_MA n && decide (i10mA * 10 < s.rd F.LC_CH_SENSE_OPEN_MA n) then
      let s := if s.on F.LC_CH_STAT_OPEN_ON n then s else s.evt F.LC_CH_STAT_OPEN_EVT n
      s.evt F.LC_CH_STAT_OPEN_ON n
    else s.wr F.LC_CH_STAT_OPEN_ON n 0
  else s)

/-- The device is in SLEEP (18 R375): the power die runs and keeps INH_OUT low, with nothing but a wake to await. -/
def State.asleep (s : State) : Bool :=
  decide (s.pd.phase = .run) && !s.pd.inh && decide (s.pd.cause = 2) && !s.pd.sagWait && !s.pd.retryWait

/-- The off-state diagnosis of `n` outside SLEEP (20 R408): whether OUT is above 3 V before the current is applied,
and whether it rises above 3 V then. -/
def execOffStateDiag (n : Fin 24) (before after : Bool) (s : State) : Out :=
  .next (if s.lcState n = lcOff ∧ s.asleep = false then
    (s.wrb F.LC_CH_STAT_SHORT_BAT n before).wrb F.LC_CH_STAT_OPEN_OFF n (!before && after)
  else s)

/-- VBAT has been back above its warning threshold for 10 ms (20 R407): waiting retries may start. -/
def execVbatWarningClear (s : State) : Out :=
  .next ((List.range 4).foldl State.bankService { s with retryHold := false })

/-! ## Main-die absent (20 R405) -/

/-- The flags set when the main die goes absent are noted, and ABSENT_SEEN is set. -/
def State.lcAbsent (s : State) : State :=
  ((List.range 24).foldl (fun s n => s.setLoad n { s.load n with
    faultBefore := s.on F.LC_CH_STAT_FAULT_EVT n
    latchBefore := s.on F.LC_CH_STAT_LATCH_EVT n }) s).evt F.LC_GLB_STAT_ABSENT_SEEN 0

/-- After the link has been re-initialised: one report for each channel whose LATCH_EVT, or else FAULT_EVT, became
set during the absence, with LAST_FAULT in INFO bits [7:4] and FAULT_CNT in [3:0]. -/
def State.lcAdopted (s : State) : State :=
  (List.range 24).foldl (fun s n =>
    let info := s.rd F.LC_CH_STAT_LAST_FAULT n * 16 + s.rd F.LC_CH_STAT_FAULT_CNT n
    if s.on F.LC_CH_STAT_LATCH_EVT n && !(s.load n).latchBefore then s.report (0x218 + n) (elemId 10 n) info
    else if s.on F.LC_CH_STAT_FAULT_EVT n && !(s.load n).faultBefore then s.report (0x200 + n) (elemId 10 n) info
    else s) s

/-! ## The passing of time -/

/-- One TCLK tick of channel `n`: in INRUSH the envelope clock runs, unless its bank dips and the channel has stood
still for less than 100 ms since switch-on. -/
def State.lcTick (s : State) (n : Nat) : State :=
  let c := s.load n
  if s.lcState n = lcInrush then
    if s.vldDip.get false (n / 6) && decide (c.frozen < 100 * ticksMs) then s.setLoad n { c with frozen := c.frozen + 1 }
    else s.setLoad n { c with clk := c.clk + 1 }
  else s

/-- The wiring model of every channel over one microsecond, at its present current. -/
def State.lcWireTick (s : State) : State :=
  (List.range 24).foldl (fun s n =>
    let i := if s.lcState n = lcInrush ∨ s.lcState n = lcOn then s.rd F.LC_CH_MEAS_I_10MA n else 0
    s.setLoad n { s.load n with q := qStep (s.load n).q i (wireTau (s.rd F.LC_CH_CFG_XSECT n)) }) s

end Sys2Proof.Machine
end

