-- ==== Sys2Proof/Machine/T1s.lean ====
section
/-! DEFINITION. 10BASE-T1S lanes (spec 06 R126 to R132, R142, R143): receiving, PLCA, CSMA/CD. -/
namespace Sys2Proof.Machine

/-- A counter of T1S lane `n`. -/
def State.t1sCnt (s : State) (n k : Nat) : State := s.bump F.LSL_T1S_CNT_COUNT (14 * n + k)

/-- A NOTE against the port element of lane `n`. -/
def State.laneNote (s : State) (n : Nat) : State := s.reportX (0x0B8 + n) (elemId 0 (40 + n))

/-- The lane takes part in its segment. -/
def State.t1sRuns (s : State) (n : Nat) : Bool := decide (s.pers n = 2) && s.on F.LSL_T1S_CTL_EN n && !s.laneParked n

/-- In CSMA mode. -/
def State.t1sCsma (s : State) (n : Nat) : Bool := s.on F.LSL_T1S_STAT_MODE n

/-- TX_PEND: transmitting or in back-off. -/
def State.t1sShow (s : State) (n : Nat) : State :=
  s.wrb F.LSL_T1S_STAT_TX_PEND n ((s.t1sLane n).tx.isSome || (s.t1sLane n).backoff.isSome)

/-- The lane goes to CSMA or PLCA mode: at once, or at the end of the frame in progress (R129). Going back to the mode that still runs
revokes a switch that waits. -/
def State.t1sMode (s : State) (n : Nat) (csma : Bool) : State :=
  let x := s.t1sLane n
  if x.tx.isSome then s.setT1s n { x with switchTo := if s.t1sCsma n = csma then none else some csma }
  else (s.setT1s n { x with switchTo := none, opp := none, coming := none, burst := 0 }).wrb F.LSL_T1S_STAT_MODE n csma

/-- The mode that the lane is in, or goes to at the end of the frame in progress. -/
def State.t1sHeading (s : State) (n : Nat) : Bool := (s.t1sLane n).switchTo.getD (s.t1sCsma n)

/-- The present opportunity ends; the count from the BEACON stays. -/
def State.t1sOppEnd (s : State) (n : Nat) : State := s.setT1s n { s.t1sLane n with opp := none, burst := 0 }

/-- A BEACON opens a cycle: the opportunity of ID 0 comes next (R128). -/
def State.t1sCycle (s : State) (n : Nat) : State := s.setT1s n { s.t1sLane n with opp := none, coming := some 0, burst := 0 }

/-- What moves the time at which a frame starts to its time-stamp point, the first bit after the SFD: 64 bit times of preamble and SFD
(R128, R143), less the latency of 12 R276, with the trim. -/
def State.t1sTxComp (s : State) (n : Nat) : Int := s.laneComp n 800 + tenths 64000

/-- The frame in progress has ended: a mode switch that waited takes place. -/
def State.t1sEnded (s : State) (n : Nat) : State :=
  (match (s.t1sLane n).switchTo with | some c => s.t1sMode n c | none => s).t1sShow n

/-- The frame that the lane was sending has been sent without a collision: it counts, its time-stamp is that of its start (R143), and its
entry is finished. -/
def State.t1sSettle (s : State) (n : Nat) : State :=
  let x := s.t1sLane n
  match x.tx with
  | none => s
  | some t =>
    let s := (s.setT1s n { x with tx := none, attempts := 0 }).send (40 + n) t.bytes
    let s := (s.t1sCnt n 5).bumpBy F.LSL_T1S_CNT_COUNT (14 * n + 6) t.bytes.length
    let s := match t.ent with
      | some e =>
        let asked := match s.frames.find t.first with | some f => f.txReq | none => false
        ((((s.txStampBy x.txSnap (40 + n) asked t.bytes (s.t1sTxComp n)).tcCount t.tc).qcnt t.q 1).finish e (!s.deep t.q)).drainService
      | none => s.bump F.NSL_CNT_COUNT 1
    s.t1sEnded n

/-- The head of the highest class that may be sent (R127): frames too old or too long are dropped; `fuel` bounds them. -/
def State.t1sHead (s : State) (n c : Nat) : Nat → State × Option (QEnt × Option Bool × List Byte)
  | 0 => (s, none)
  | fuel + 1 =>
    let q := 320 + 4 * n + c
    let s := s.pruned q
    match s.headOf q with
    | none => (s, none)
    | some (e, f) =>
      let r := s.egressBytes s.snap (40 + n) f e.ed
      if 1518 < r.2.length then State.t1sHead (((s.take q).finish e (!s.deep q)).t1sCnt n 7) n c fuel
      else (s, some (e, r))

/-- The head is taken for sending; it counts in DEQ_FRAMES when it has been sent. -/
def State.t1sTake (s : State) (n q : Nat) (e : QEnt) (r : Option Bool × List Byte) : State :=
  let x := s.queue q
  let s := (s.setQueue q { x with head := x.head.drop 1 }).deepService q
  s.setT1s n { s.t1sLane n with tx := some ⟨q, some e, e.first, e.ed, r.2, r.1⟩, txSnap := s.snap }

/-- The lane starts a frame if it has one: a presence message, else the head of its highest class. On a SECURE_OR_BLOCK lane
nothing is transmitted (15). -/
def State.t1sStart (s : State) (n : Nat) : State :=
  if s.secure (40 + n) then s
  else
    let x := s.t1sLane n
    match x.presDue with
    | some b => s.setT1s n { x with presDue := none, burst := x.burst + 1, tx := some ⟨320 + 4 * n, none, 131072, CopyEd.none, withFcs b, none⟩, txSnap := s.snap }
    | none =>
      let pick (acc : State × Bool) (c : Nat) : State × Bool :=
        if acc.2 then acc
        else
          let q := 320 + 4 * n + c
          match acc.1.t1sHead n c (acc.1.qLen q) with
          | (t, some (e, r)) =>
            let t := t.t1sTake n q e r
            (t.setT1s n { t.t1sLane n with burst := (t.t1sLane n).burst + 1 }, true)
          | (t, none) => (t, false)
      ([3, 2, 1, 0].foldl pick (s, false)).1

/-- The opportunity of `id` may begin: the count from the BEACON has reached it; a coordinator gives NODE_CNT of them (R128). -/
def State.t1sOpens (s : State) (n id : Nat) : Bool :=
  decide ((s.t1sLane n).coming = some id) && (!s.t1sCoord n || decide (id < s.rd F.LSL_T1S_PLCA_NODE_CNT n))

/-- T1S_OPPORTUNITY: the opportunity of `id` begins or, in PLCA, goes on for a further frame of a burst; in CSMA mode the
deferral has ended and the lane may start. -/
def execT1sOpportunity (n : Fin 24) (id : BitVec 8) (s : State) : Out :=
  if !s.t1sRuns n then .next s
  else
    let s := s.t1sSettle n
    let x := s.t1sLane n
    if s.t1sCsma n then .next (if x.backoff.isSome then s else (s.t1sStart n).t1sShow n)
    else if !s.t1sPlca n then .next s
    else if x.opp ≠ some id.toNat ∧ s.t1sOpens n id.toNat = false then .next s
    else
      let s := if x.opp = some id.toNat then s else s.setT1s n { x with opp := some id.toNat, coming := some (id.toNat + 1), burst := 0 }
      let mine := decide (id.toNat = s.rd F.LSL_T1S_PLCA_NODE_ID n) && decide ((s.t1sLane n).burst ≤ s.rd F.LSL_T1S_PLCA_MAX_BC n)
      .next (if mine then (s.t1sStart n).t1sShow n else s)

/-- T1S_TO_TIMER: the opportunity was not used. -/
def execT1sToTimer (n : Fin 24) (s : State) : Out :=
  .next (if s.t1sRuns n && !s.t1sCsma n && (s.t1sLane n).tx.isNone then s.t1sOppEnd n else s)

/-- T1S_BURST_TIMER: no further frame is ready; the opportunity ends. -/
def execT1sBurstTimer (n : Fin 24) (s : State) : Out :=
  if !s.t1sRuns n || s.t1sCsma n then .next s else .next ((s.t1sSettle n).t1sOppEnd n)

/-- The coordinator's cycle is over, or none has begun: NODE_CNT opportunities have been given (R128). -/
def State.t1sCycleOver (s : State) (n : Nat) : Bool :=
  match (s.t1sLane n).coming with
  | some k => decide (s.rd F.LSL_T1S_PLCA_NODE_CNT n ≤ k)
  | none => true

/-- T1S_BEACON_SEND: the coordinator opens a cycle. -/
def execT1sBeaconSend (n : Fin 24) (s : State) : Out :=
  if !s.t1sRuns n || !s.t1sCoord n || s.t1sCsma n || !s.t1sCycleOver n then .next s
  else .next ((s.t1sSettle n).t1sCycle n)

/-- T1S_BEACON_RX (R128, R129, R132). -/
def execT1sBeaconRx (n : Fin 24) (s : State) : Out :=
  if !s.t1sRuns n then .next s
  else
    let s := s.t1sSettle n
    if s.t1sCoord n then .next (((s.evt F.LSL_T1S_STAT_DUP_COORD_EVT n).t1sCnt n 13).laneNote n)
    else
      let s := s.setT1s n { s.t1sLane n with beacon := true }
      let s := if s.t1sPlca n && s.t1sCsma n then
          ((s.setT1s n { s.t1sLane n with backoff := none, attempts := 0 }).t1sMode n false).evt F.LSL_T1S_STAT_BEACON_BACK_EVT n
        else s
      .next (((s.t1sCycle n).t1sShow n).laneLink n)

/-- BEACON_LOSS: a follower in PLCA mode goes to CSMA. Its link stays up: it has seen a BEACON (R142). -/
def execBeaconLoss (n : Fin 24) (s : State) : Out :=
  if !s.t1sRuns n || !s.t1sPlca n || s.t1sCoord n || s.t1sCsma n then .next s
  else
    let s := (s.t1sSettle n).t1sMode n true
    .next ((((s.evt F.LSL_T1S_STAT_BEACON_LOST_EVT n).t1sCnt n 12).laneNote n).laneLink n)

/-- The frame is dropped after its 16th collision (R130, R131). -/
def State.t1sAbandon (s : State) (n : Nat) (t : Tx) : State :=
  let s := s.setT1s n { s.t1sLane n with tx := none, attempts := 0, backoff := none }
  let s := match t.ent with | some e => (s.qcnt t.q 1).finish e (!s.deep t.q) | none => s
  ((((s.t1sCnt n 8).t1sCnt n 9).evt F.LSL_T1S_STAT_EXC_COLL_EVT n).laneNote n).drainService

/-- T1S_COLLISION: `r` is the random integer of the back-off, cut to [0, 2^k - 1]. -/
def execT1sCollision (n : Fin 24) (r : BitVec 10) (s : State) : Out :=
  let x := s.t1sLane n
  match x.tx with
  | none => .next s
  | some t =>
    if !(s.t1sRuns n || (decide (s.pers n = 2) && s.on F.LSL_T1S_CTL_EN n)) then .next s
    else
      let csma := s.t1sCsma n
      let s := s.t1sCnt n (if csma then 10 else 11)
      let k := x.attempts + 1
      if 16 ≤ k then .next ((s.t1sAbandon n t).t1sEnded n)
      else
        let s := s.t1sReturn n
        let s := s.setT1s n { s.t1sLane n with
          attempts := k
          opp := none
          backoff := if csma then some (r.toNat % 2 ^ min k 10 * 512) else none }
        .next (s.t1sEnded n)

/-- T1S_BACKOFF_END. -/
def execT1sBackoffEnd (n : Fin 24) (s : State) : Out := .next ((s.setT1s n { s.t1sLane n with backoff := none }).t1sShow n)

/-- ENERGY_DETECT: the level of the lane's AUX input (R125, R142). -/
def execEnergyDetect (n : Fin 24) (level : Bool) (s : State) : Out :=
  if s.pers n ≠ 2 then .next s
  else
    let s := s.wrb F.LSL_T1S_STAT_ED n level
    .next (if level then (s.setT1s n { s.t1sLane n with ed := true }).laneLink n else s)

/-- T1S_ED_TIMEOUT: ED has been low for 100 ms. -/
def execT1sEdTimeout (n : Fin 24) (s : State) : Out :=
  .next (if s.pers n = 2 ∧ s.on F.LSL_T1S_STAT_ED n = false then (s.setT1s n { s.t1sLane n with ed := false }).laneLink n else s)

/-- The lane still takes the frame that its restructure found in progress (02 R54). -/
def State.t1sLast (s : State) (n : Nat) : Bool := decide (s.pers n = 2) && s.on F.LSL_T1S_CTL_EN n && s.laneLast n

/-- T1S_FRAME_RX (R127): a frame from DA to FCS. -/
def execT1sFrameRx (n : Fin 24) (bs : List Byte) (fcsGood : Bool) (s : State) : Out :=
  if !(s.t1sRuns n || s.t1sLast n) || s.secure (40 + n) then .next s
  else
    let s := (s.t1sSettle n).laneTook n
    let p := 40 + n.val
    if bs.length < 64 then .next (s.t1sCnt n 3)
    else if 1518 < bs.length then .next (s.t1sCnt n 4)
    else if !fcsGood then .next (s.t1sCnt n 2)
    else
      let s := (s.t1sCnt n 0).bumpBy F.LSL_T1S_CNT_COUNT (14 * n + 1) bs.length
      match s.presenceOf p bs with
      | some k => .next (s.presRx k p (be bs 15 1) (be bs 16 1))
      | none => match s.capture false p (s.capMask.get 0 p) (s.laneComp n 800) with
        | (s, ts) => .next (s.enter (Flight.good p bs ts))

/-- T1S_CNT_CLR. -/
def execT1sCntClr (n : Fin 24) (s : State) : Out := .next (s.clearWhere F.LSL_T1S_CNT_COUNT (fun e => decide (e / 14 = n.val)))

/-- EN, PLCA_EN or NODE_ID of lane `n` has been written (R128, R129): without PLCA the lane goes to CSMA mode; a coordinator goes
to PLCA; a follower waits for a BEACON. Each takes the place of a switch that waits. A lane that is off has seen no BEACON. -/
def State.t1sConfigured (s : State) (n : Nat) : State :=
  if s.pers n ≠ 2 then s
  else
    let s := if !s.on F.LSL_T1S_CTL_EN n then (let s := s.t1sReturn n; s.setT1s n { s.t1sLane n with beacon := false, opp := none, coming := none })
      else if !s.t1sPlca n then (if s.t1sHeading n then s else s.t1sMode n true)
      else if s.t1sCoord n && s.t1sHeading n then s.t1sMode n false else s
    (s.t1sShow n).laneLink n

end Sys2Proof.Machine
end

