-- ==== Sys2Proof/Machine/Mvb.lean ====
section
/-! DEFINITION. MVB lanes (spec 06 R133 to R143; 11 R255): device, bus administrator, process data. -/
namespace Sys2Proof.Machine

/-- A counter of MVB lane `n`. -/
def State.mvbCnt (s : State) (n k : Nat) : State := s.bump F.LSL_MVB_CNT_COUNT (10 * n + k)

/-- The lane takes part in its bus. -/
def State.mvbRuns (s : State) (n : Nat) : Bool := decide (s.pers n = 3) && s.on F.LSL_MVB_CTL_EN n && !s.laneParked n

/-- A poll in progress ends although the lane is to leave its bus (06 R144). -/
def State.mvbEnds (s : State) (n : Nat) : Bool :=
  s.mvbRuns n || (decide (s.pers n = 3) && s.on F.LSL_MVB_CTL_EN n && (s.mvbLane n).waiting.isSome && !s.gated)

/-- Data bytes of the process data F_codes 0 to 4. -/
def mvbBytes (f : Nat) : Nat := 2 * 2 ^ f

/-- Bit times of a reply (R135). -/
def mvbReplyBits (f : Nat) : Nat :=
  match f with
  | 1 => 49 | 2 => 81 | 3 => 153 | 4 => 297 | _ => 33

/-- Port `k` of lane `n` is VALID and has F_code `f` and address `a`. -/
def State.mvbPortIs (s : State) (n f a k : Nat) : Bool :=
  s.on F.LSL_MVB_PORT_VALID (256 * n + k) && decide (s.rd F.LSL_MVB_PORT_FCODE (256 * n + k) = f) && decide (s.rd F.LSL_MVB_PORT_ADDR (256 * n + k) = a)
    && decide (f ≤ 4)

/-- The port that applies (R137): the lowest one. -/
def State.mvbPort (s : State) (n f a : Nat) : Option Nat := firstIdx (s.mvbPortIs n f a) 0 256

/-- DIR: a source. -/
def State.mvbSource (s : State) (n k : Nat) : Bool := s.on F.LSL_MVB_PORT_DIR (256 * n + k)

/-- The place of port `k`'s slot. -/
def mvbSlot (n k : Nat) : Nat := 8192 * n + 32 * k

/-- Bytes written to a slot. -/
def State.mvbWrite (s : State) (n k : Nat) (bs : List Byte) : State := { s with mvbData := s.mvbData.writes (mvbSlot n k) bs }

/-- Some VALID port has the address under another F_code than `f` (R137). -/
def State.mvbOther (s : State) (n f a : Nat) : Bool :=
  (List.range 256).any (fun k => s.on F.LSL_MVB_PORT_VALID (256 * n + k) && decide (s.rd F.LSL_MVB_PORT_ADDR (256 * n + k) = a)
    && decide (s.rd F.LSL_MVB_PORT_FCODE (256 * n + k) ≠ f))

/-- A frame on the line is time-stamped (R143); the record of a frame that goes nowhere is freed. -/
def State.mvbStamp (s : State) (n : Nat) : State :=
  match s.capture false (40 + n) (s.capMask.get 0 (40 + n)) (s.laneComp n 250) with
  | (s, i) => s.tsDone i

/-- The lane answers a master frame, its own one included (R137, R138); a port of the address with another F_code counts FCODE_MISMATCH,
beside a port that matches too. -/
def State.mvbAnswer (s : State) (n f a : Nat) : State :=
  let s := if s.mvbOther n f a then s.mvbCnt n 7 else s
  let x := { s.mvbLane n with waiting := some (4096 * f + a), reply := none }
  if f = 15 ∧ a = s.rd F.LSL_MVB_DEV_DEV_ADDR n then s.setMvb n { x with reply := some (beBytes 2 (s.rd F.LSL_MVB_DEVSTAT_STATUS n)) }
  else match s.mvbPort n f a with
    | some k => s.setMvb n (if s.mvbSource n k then { x with reply := some (Mem.read s.mvbData (mvbSlot n k) (mvbBytes f)) } else x)
    | none => s.setMvb n x

/-- The lane still takes the frame that its restructure found in progress (02 R54). -/
def State.mvbLast (s : State) (n : Nat) : Bool := decide (s.pers n = 3) && s.on F.LSL_MVB_CTL_EN n && s.laneLast n

/-- MVB_MASTER_FRAME_RX. -/
def execMvbMasterFrameRx (n : Fin 24) (fcode : BitVec 4) (addr : BitVec 12) (ok : Bool) (s : State) : Out :=
  if !(s.mvbRuns n || s.mvbLast n) || s.secure (40 + n) then .next s
  else if !ok then .next ((s.mvbCnt n 4).laneTook n)
  else
    let s := ((s.mvbCnt n 0).mvbStamp n).laneTook n
    let s := s.setMvb n { s.mvbLane n with heard := true }
    let s := if s.mvbAdmin n then
        let t := ((s.evt F.LSL_MVB_STAT_MASTER_CONFLICT_EVT n).mvbCnt n 8).laneNote n
        (t.wr F.LSL_MVB_CTL_ADMIN_RUN n 0).wr F.LSL_MVB_STAT_SPORADIC n 0
      else s
    .next ((s.laneLink n).mvbAnswer n fcode.toNat addr.toNat)

/-- MVB_REPLY_SEND: REPLY_DLY bit times after the master frame. -/
def execMvbReplySend (n : Fin 24) (s : State) : Out :=
  match (s.mvbLane n).reply with
  | some bs =>
    .next (if s.mvbEnds n then
      (((s.setMvb n { s.mvbLane n with reply := none, waiting := none }).send (40 + n) bs).mvbCnt n 2).mvbStamp n
    else s)
  | none => .next s

/-- A poll of an administrator has timed out (R140). -/
def State.mvbTimeout (s : State) (n : Nat) : State :=
  let s := s.setMvb n { s.mvbLane n with waiting := none }
  if s.mvbAdmin n then (s.mvbCnt n 5).evt F.LSL_MVB_STAT_TIMEOUT_EVT n else s

/-- A sink update of port `k` (R137). -/
def State.mvbSink (s : State) (n k : Nat) (bs : List Byte) : State :=
  let x := s.mvbLane n
  let s := (s.mvbWrite n k bs).setMvb n { x with updAt := x.updAt.put k s.now }
  (s.bump F.LSL_MVB_FRESH_UPD_CNT (256 * n + k)).mvbEvent n k

/-- A good slave frame that answers master frame `key` (R133, R137; 11 R255). -/
def State.mvbSlave (s : State) (n key : Nat) (bs : List Byte) : State :=
  let f := key / 4096
  let a := key % 4096
  let s := (s.setMvb n { s.mvbLane n with waiting := none }).mvbCnt n 1
  match s.capture false (40 + n) (s.capMask.get 0 (40 + n)) (s.laneComp n 250) with
  | (s, ts) =>
    let sink := match s.mvbPort n f a with | some k => if s.mvbSource n k then none else some k | none => none
    let s := match sink with | some k => s.mvbSink n k bs | none => s
    let copy := (sink.isSome && s.bit F.SIG_MVB_COPY_LANE 0 n) || (decide (8 ≤ f) && decide (f ≤ 14))
    if copy then
      let x : LaneFrame := ⟨0x11, 0, 0, key, 0, bs⟩
      s.enter (Flight.good (40 + n) (LaneFrame.bytes x n ts) ts)
    else s.tsDone ts

/-- MVB_SLAVE_FRAME_RX: a frame that fails R135, by its check sequence or by its length, counts CRC_ERR. -/
def execMvbSlaveFrameRx (n : Fin 24) (data : List Byte) (ok : Bool) (s : State) : Out :=
  if !s.mvbEnds n || s.secure (40 + n) then .next s
  else match (s.mvbLane n).waiting with
    | none => .next (if ok then s else s.mvbCnt n 4)
    | some key =>
      let f := key / 4096
      let fits := if f ≤ 4 then decide (data.length = mvbBytes f) else if f = 15 then decide (data.length = 2) else decide (data.length ≤ 2048)
      .next (if ok && fits then s.mvbSlave n key data else (s.mvbCnt n 4).mvbTimeout n)

/-- MVB_REPLY_TIMEOUT. -/
def execMvbReplyTimeout (n : Fin 24) (s : State) : Out :=
  .next (if s.mvbEnds n && (s.mvbLane n).waiting.isSome && (s.mvbLane n).reply.isNone then s.mvbTimeout n else s)

/-- MVB_SILENCE_TIMEOUT. -/
def execMvbSilenceTimeout (n : Fin 24) (s : State) : Out :=
  .next (if s.pers n = 3 then (s.setMvb n { s.mvbLane n with heard := false }).laneLink n else s)

/-! ## The administrator (R138 to R140) -/

/-- MVB_BASIC_PERIOD. -/
def execMvbBasicPeriod (n : Fin 24) (s : State) : Out :=
  if !s.mvbRuns n || !s.mvbAdmin n then .next s
  else
    let x := s.mvbLane n
    let s := s.wr F.LSL_MVB_STAT_BP_NUM n (if x.began then s.rd F.LSL_MVB_STAT_BP_NUM n + 1 else 0)
    .next ((s.setMvb n { x with began := true, cursor := 0, overran := false }).wr F.LSL_MVB_STAT_SPORADIC n 0)

/-- Poll list entry `j` as a word; its F_code and address. -/
def State.pollEntry (s : State) (n j : Nat) : Nat := s.mvbPoll.get 0 (1024 * n + j)
def pollKey (w : Nat) : Nat := bits w 0 16

/-- An entry is due in period `b`. -/
def pollDue (w b : Nat) : Bool :=
  let m := 2 ^ min (bits w 26 4) 10
  w.testBit 31 && decide (b % m = bits w 16 10 % m)

/-- Bit times that a master frame reserves (R139). -/
def State.mvbWorst (s : State) (n f : Nat) : Nat :=
  35 + s.rd F.LSL_MVB_TIMING_REPLY_TO n + (mvbReplyBits f + 2) + s.rd F.LSL_MVB_TIMING_REPLY_DLY n

/-- The administrator sends a master frame. -/
def State.mvbPollOut (s : State) (n key : Nat) : State :=
  (((s.mvbCnt n 3).send (40 + n) (beBytes 2 key)).mvbStamp n).mvbAnswer n (key / 4096) (key % 4096)

/-- A due entry does not fit in the period. -/
def State.mvbOverrun (s : State) (n : Nat) : State :=
  let s := (s.mvbCnt n 6).evt F.LSL_MVB_STAT_OVERRUN_EVT n
  if (s.mvbLane n).overran then s else (s.setMvb n { s.mvbLane n with overran := true }).laneNote n

/-- The periodic phase goes on from the cursor: due entries that do not fit are skipped, the first that fits is sent; true
when one was. -/
def State.mvbPeriodic (s : State) (n left : Nat) : Nat → State × Bool
  | 0 => (s, false)
  | fuel + 1 =>
    let x := s.mvbLane n
    if 1024 ≤ x.cursor then (s, false)
    else
      let w := s.pollEntry n x.cursor
      let s := s.setMvb n { x with cursor := x.cursor + 1 }
      if !pollDue w (s.rd F.LSL_MVB_STAT_BP_NUM n) then State.mvbPeriodic s n left fuel
      else if s.mvbWorst n (pollKey w / 4096) ≤ left then (s.mvbPollOut n (pollKey w), true)
      else State.mvbPeriodic (s.mvbOverrun n) n left fuel

/-- A KIND 0x11 frame writes a source port's slot (11 R255), or is dropped. -/
def State.mvbSrcUpdate (s : State) (n : Nat) (x : LaneFrame) : State :=
  let hit := match s.mvbPort n (x.key / 4096) (x.key % 4096) with | some k => if s.mvbSource n k then some k else none | none => none
  match hit with
  | some k => (s.mvbWrite n k (x.data.take (mvbBytes (x.key / 4096)))).bump F.SIG_CNT_COUNT 8
  | none => s.mvbCnt n 9

/-- The head of class `c` is served until it is a master frame: frames of KIND 0x11 update sources, others are dropped; `fuel`
bounds them. -/
def State.mvbHeads (s : State) (n c : Nat) : Nat → State
  | 0 => s
  | fuel + 1 =>
    let q := 320 + 4 * n + c
    let s := s.pruned q
    match s.headOf q with
    | none => s
    | some (e, f) =>
      let x := laneOut f e
      if x.kind = 0x10 ∧ x.key ≤ 0xFFFF then s
      else
        let s := if x.kind = 0x11 then s.mvbSrcUpdate n x else s.mvbCnt n 9
        State.mvbHeads (((s.take q).finish e (!s.deep q)).drainService) n c fuel

/-- Every class is served so. -/
def State.mvbService (s : State) (n : Nat) : State :=
  [3, 2, 1, 0].foldl (fun (t : State) c => t.mvbHeads n c (t.qLen (320 + 4 * n + c))) s

/-- The queued master frame of the highest class is sent if it fits (R138, R139). -/
def State.mvbSporadic (s : State) (n left : Nat) : State :=
  let s := (s.wr F.LSL_MVB_STAT_SPORADIC n 1).mvbService n
  match [3, 2, 1, 0].find? (fun c => (s.headOf (320 + 4 * n + c)).isSome) with
  | none => s
  | some c =>
    let q := 320 + 4 * n + c
    match s.headOf q with
    | none => s
    | some (e, f) =>
      let key := (laneOut f e).key
      if s.mvbWorst n (key / 4096) ≤ left then
        let s := ((s.take q).laneTxStamp s.snap n 250 f.txReq).finish e (!s.deep q)
        (s.mvbPollOut n key).drainService
      else s

/-- MVB_POLL_SEND: `left` bit times remain in the basic period. -/
def execMvbPollSend (n : Fin 24) (left : Nat) (s : State) : Out :=
  let x := s.mvbLane n
  if !s.mvbRuns n || !s.mvbAdmin n || !x.began || x.waiting.isSome || s.secure (40 + n) then .next s
  else
    let r := s.mvbPeriodic n left 1024
    .next (if r.2 then r.1 else r.1.mvbSporadic n left)

/-- MVB_SRC_UPDATE (11 R255): the heads of the lane's queues. -/
def execMvbSrcUpdate (n : Fin 24) (s : State) : Out := .next (if s.mvbRuns n then s.mvbService n else s)

/-- MVB_CNT_CLR. -/
def execMvbCntClr (n : Fin 24) (s : State) : Out := .next (s.clearWhere F.LSL_MVB_CNT_COUNT (fun e => decide (e / 10 = n.val)))

/-- AGE of a port: 0.1 ms since its last update (LSL_MVB_FRESH). -/
def State.mvbAge (s : State) (n k : Nat) : Nat :=
  match (s.mvbLane n).updAt.find k with
  | some t => min 0xFFFF ((s.now - t) / 40000)
  | none => 0xFFFF

/-- EN or ADMIN_RUN of lane `n` has been written: basic periods count anew (R138), and the link follows (R142). -/
def State.mvbConfigured (s : State) (n : Nat) (wasAdmin : Bool) : State :=
  if s.pers n ≠ 3 then s
  else
    let s := if s.mvbAdmin n && !wasAdmin then s.setMvb n { s.mvbLane n with began := false } else s
    let s := if s.mvbAdmin n then s else s.wr F.LSL_MVB_STAT_SPORADIC n 0
    s.laneLink n

end Sys2Proof.Machine
end

