-- ==== Sys2Proof/Machine/Irq.lean ====
section
/-! DEFINITION. The interrupt sources (spec 03 R75): which of them are pending. -/
namespace Sys2Proof.Machine

/-- An event of `fs` is set while its bit of the enable field, which stands at the positions of the events, is set. -/
def State.evOn (s : State) (en : Fld) (i : Nat) (fs : List Fld) : Bool :=
  fs.any (fun f => s.on f i && (s.rd en i).testBit (f.lo - en.lo))

/-- Event bits of one status register. -/
def pwrEvs : List Fld := [F.PWR_STAT_SAG_WARN_EVT, F.PWR_STAT_AVS_FAULT_EVT, F.PWR_STAT_ABORT_EVT, F.PWR_STAT_TRANS_DONE_EVT]
def updEvs : List Fld := [F.UPD_STAT_CONFIRM_DUE_EVT, F.UPD_STAT_REFUSED_EVT, F.UPD_STAT_DONE_EVT]
def nslEvs : List Fld :=
  [F.NSL_STAT_ALL_ASLEEP_EVT, F.NSL_STAT_NODE_FULL_EVT, F.NSL_STAT_OFFENDER_EVT, F.NSL_STAT_NET_WAKE_EVT, F.NSL_STAT_NET_SLEEP_EVT]
def lcEvs : List Fld := [F.LC_CH_STAT_REFUSED_EVT, F.LC_CH_STAT_OPEN_EVT, F.LC_CH_STAT_LATCH_EVT, F.LC_CH_STAT_FAULT_EVT]
def ethEvs : List Fld := [F.ETH_STAT_STORM_EVT, F.ETH_STAT_TAPER_EVT, F.ETH_STAT_PEER_CHG, F.ETH_STAT_LINK_CHG]
def laneEvs : List Fld :=
  [F.LSL_CAN_STAT_BRD_DONE, F.LSL_CAN_STAT_TDC_FAIL_EVT, F.LSL_CAN_STAT_RL_DROP_EVT, F.LSL_CAN_STAT_PXE_EVT, F.LSL_CAN_STAT_WARN_EVT,
   F.LSL_CAN_STAT_PASSIVE_EVT, F.LSL_CAN_STAT_BUSOFF_EVT, F.LSL_T1S_STAT_EXC_COLL_EVT, F.LSL_T1S_STAT_DUP_COORD_EVT,
   F.LSL_T1S_STAT_BEACON_BACK_EVT, F.LSL_T1S_STAT_BEACON_LOST_EVT, F.LSL_MVB_STAT_MASTER_CONFLICT_EVT, F.LSL_MVB_STAT_OVERRUN_EVT,
   F.LSL_MVB_STAT_TIMEOUT_EVT]
def ppEvs : List Fld :=
  [F.PP_STAT_STRIKE_EVT, F.PP_STAT_RECOVERY_EVT, F.PP_STAT_SC_PARITY_EVT, F.PP_STAT_STENCIL_PARITY_EVT, F.PP_STAT_PARSE_ERR_EVT]
def tblEvs : List Fld :=
  [F.TBL_STAT_BUF_FULL_EVT, F.TBL_STAT_PARITY_EVT, F.TBL_STAT_INSERT_FAIL_EVT, F.TBL_STAT_DRAIN_DONE_EVT, F.TBL_STAT_LN_OVF_EVT,
   F.TBL_STAT_LN_EVT]
def sigEvs : List Fld := [F.SIG_STAT_RL_DROP_EVT, F.SIG_STAT_MISS_EVT, F.SIG_STAT_BAD_DEST_EVT]
def redEvs : List Fld := [F.TBL_RED_STAT_RED_CFG_EVT, F.TBL_RED_STAT_AGG_DOWN_EVT, F.TBL_RED_STAT_MOVE_EVT]
def queEvs : List Fld :=
  [F.QUE_STAT_AUDIT_DONE_EVT, F.QUE_STAT_FIFO_ABORT_EVT, F.QUE_STAT_MIN_REFUSED_EVT, F.QUE_STAT_RSV_FULL_EVT, F.QUE_STAT_RSV_UNCORR_EVT,
   F.QUE_STAT_CELL_UNCORR_EVT, F.QUE_STAT_LINK_PARITY_EVT]
def nibEvs : List Fld :=
  [F.NIB_STAT_PARITY_EVT, F.NIB_STAT_RESTART_EVT, F.NIB_STAT_EVQ_OVF_EVT, F.NIB_STAT_WDOG_EVT, F.NIB_STAT_HALT_EVT, F.NIB_STAT_ECC_EVT]
def rulEvs : List Fld := [F.RUL_STAT_GUARD_EVT, F.RUL_STAT_SLEW_DONE_EVT, F.RUL_STAT_STEP_EVT, F.RUL_STAT_FAULT_EVT]
def tsEvs : List Fld := [F.RUL_TS_STAT_PPS_IN_EVT, F.RUL_TS_STAT_ECC_EVT, F.RUL_TS_STAT_TXQ_OVF_EVT, F.RUL_TS_STAT_NOREC_EVT]
def keyEvs : List Fld :=
  [F.KEY_STAT_TRNG_FAIL_EVT, F.KEY_STAT_TAMPER_EVT, F.KEY_STAT_EXHAUST_EVT, F.KEY_STAT_REFUSED_EVT, F.KEY_STAT_DONE_EVT]
def cipEvs : List Fld :=
  [F.CIP_STAT_UNIT_FAULT_EVT, F.CIP_STAT_RESYNC_EVT, F.CIP_STAT_SEAL_FAIL_EVT, F.CIP_STAT_TX_BLOCK_EVT, F.CIP_STAT_LA_DONE_EVT]
def brgEvs : List Fld := [F.BRG_STAT_LATE_EVT, F.BRG_STAT_WATCH_EVT, F.BRG_STAT_UNREACH_EVT, F.BRG_STAT_WERR_EVT]
def ringEvs : List Fld := [F.DMA_RING_STAT_NOBUF_EVT, F.DMA_RING_STAT_HOLD_EVT, F.DMA_RING_STAT_ERR_EVT, F.DMA_RING_STAT_COMPL_EVT]

/-- The number whose bits are `l`. -/
def maskOf (l : List Nat) : Nat := l.foldl (fun a n => a ||| 2 ^ n) 0

/-- LC_EVT: bit `n` while channel `n` has an event bit set; ETH_GRP_IRQ.PORT of a group of `k` ports from `p0` on; LSL_GRP_IRQ.LANE. -/
def State.lcEvt (s : State) : Nat := maskOf ((List.range 24).filter (fun n => lcEvs.any (fun f => s.on f n)))
def State.ethGrp (s : State) (p0 k : Nat) : Nat := maskOf ((List.range k).filter (fun i => ethEvs.any (fun f => s.on f (p0 + i))))
def State.laneGrp (s : State) : Nat := maskOf ((List.range 24).filter (fun n => laneEvs.any (fun f => s.on f n)))

/-- First port and number of ports of an Ethernet group: 0 trunk, 1 access A, 2 access B. -/
def grpPorts (g : Nat) : Nat × Nat := if g = 0 then (0, 8) else if g = 1 then (8, 16) else (24, 16)

/-- Source `n` of R75 is raised. -/
def State.irqRaised (s : State) (n : Nat) : Bool :=
  if 32 ≤ n ∧ n < 96 then ringEvs.any (fun f => s.on f (n - 32) && (s.rd F.DMA_RING_IRQ_EN (n - 32)).testBit (f.lo - 16))
  else if 16 ≤ n ∧ n < 26 then s.evOn F.NIB_IRQ_EN_EN (n - 16) nibEvs
  else match n with
    | 1 => s.on F.BLT_STAT_SEVERE_EVT 0
    | 2 => s.on F.BLT_STAT_NOTE_EVT 0
    | 3 => s.on F.SCR_STAT_DONE 0
    | 4 => s.evOn F.PWR_IRQ_EN_EN 0 pwrEvs
    | 5 => s.evOn F.UPD_IRQ_EN_EN 0 updEvs
    | 6 => s.evOn F.NSL_IRQ_EN_EN 0 nslEvs
    | 7 => decide (s.lcEvt &&& s.rd F.LC_IRQ_EN_EN 0 ≠ 0)
    | 8 => decide (s.ethGrp 0 8 &&& s.rd F.ETH_GRP_IRQ_EN_EN 0 ≠ 0)
    | 9 => decide (s.ethGrp 8 16 &&& s.rd F.ETH_GRP_IRQ_EN_EN 1 ≠ 0)
    | 10 => decide (s.ethGrp 24 16 &&& s.rd F.ETH_GRP_IRQ_EN_EN 2 ≠ 0)
    | 11 => decide (s.laneGrp &&& s.rd F.LSL_GRP_IRQ_EN_EN 0 ≠ 0)
    | 12 => s.evOn F.PP_IRQ_EN_EN 0 ppEvs
    | 13 => s.evOn F.PP_IRQ_EN_EN 1 ppEvs
    | 14 => s.evOn F.TBL_IRQ_EN_EN 0 tblEvs || s.evOn F.SIG_IRQ_EN_EN 0 sigEvs || s.evOn F.TBL_RED_IRQ_EN_EN 0 redEvs
    | 15 => s.evOn F.QUE_IRQ_EN_EN 0 queEvs
    | 26 => (List.range 8).any (fun t => s.evOn F.RUL_IRQ_EN_EN t rulEvs) || s.evOn F.RUL_TS_IRQ_EN_EN 0 tsEvs
    | 27 => s.evOn F.KEY_IRQ_EN_EN 0 keyEvs
    | 28 => s.evOn F.CIP_IRQ_EN_EN 0 cipEvs
    | 29 => s.evOn F.BRG_IRQ_EN_EN 0 brgEvs
    | 30 => s.wdogWarned
    | 31 => s.on F.PWR_REQ_REQ 0
    | _ => false

end Sys2Proof.Machine
end

