-- ==== Sys2Proof/Machine/Dma.lean ====
section
/-! DEFINITION. Interrupts to the host and the descriptor rings (spec 16). -/
namespace Sys2Proof.Machine

/-! ## MSI-X (R340, R342) -/

/-- Word `k` of the MSI-X table; the mask bit of each vector is set at reset. -/
def State.msixWord (s : State) (k : Nat) : Nat := (s.msix.table.find k).getD (if k % 4 = 3 then 1 else 0)

/-- The device may write and read host memory: the link is up, Bus Master Enable is set, and the device is in D0. -/
def State.busMaster (s : State) : Bool := s.pcieUp && s.on F.DMA_PCIE_STAT_BME 0 && decide (s.rd F.DMA_PCIE_STAT_DSTATE 0 = 0)

/-- A source mapped to vector `v` is pending. -/
def State.vecPending (s : State) (v : Nat) : Bool :=
  (List.range 96).any (fun n => s.on F.DMA_HVEC_EN n && decide (s.rd F.DMA_HVEC_VECTOR n = v) && s.irqRaised n)

/-- The message of vector `v`: its data word is written to its address; the vector is disarmed. -/
def State.msixSend (s : State) (v : Nat) : State :=
  let a := s.msixWord (4 * v) + 2 ^ 32 * s.msixWord (4 * v + 1)
  { s with
    hostMem := s.hostMem.writes a (leBytes 4 (s.msixWord (4 * v + 2)))
    msix := { s.msix with disarmed := v :: s.msix.disarmed, pba := s.msix.pba.filter (fun x => decide (x ≠ v)) } }

/-- Vector `v` at this moment (R342): it sends, or its pending bit is set while it is masked. -/
def State.msixVector (s : State) (v : Nat) : State :=
  let due := !s.msix.disarmed.contains v && s.vecPending v
  if s.msixWord (4 * v + 3) % 2 = 1 then
    (if due && !s.msix.pba.contains v then { s with msix := { s.msix with pba := v :: s.msix.pba } } else s)
  else if (due || s.msix.pba.contains v) && s.busMaster then s.msixSend v
  else s

/-- Every vector in turn (R342). -/
def State.msixService (s : State) : State := (List.range 64).foldl (fun (t : State) v => t.msixVector v) s

/-- DMA_VEC_REARM: the vectors of `mask` are armed again. -/
def execDmaVecRearm (mask : BitVec 64) (s : State) : Out :=
  .next (State.msixService { s with msix := { s.msix with disarmed := s.msix.disarmed.filter (fun v => !mask.toNat.testBit v) } })

/-! ## Rings (R343) -/

/-- Ring `r` beside its registers. -/
def State.ring (s : State) (r : Nat) : DmaRing := s.rings.get DmaRing.init r

/-- The state with it replaced. -/
def State.setRing (s : State) (r : Nat) (x : DmaRing) : State := { s with rings := s.rings.set DmaRing.init r x }

/-- Ring `r` is an internal one (R350). -/
def State.internal (s : State) (r : Nat) : Bool := s.on F.DMA_RING_CFG_TARGET r

/-- Descriptors of ring `r`: SIZE_LOG2 outside 6 to 15 acts as 6. -/
def State.ringLog (s : State) (r : Nat) : Nat :=
  if s.rd F.DMA_RING_CFG_SIZE_LOG2 r < 6 then 6 else s.rd F.DMA_RING_CFG_SIZE_LOG2 r
def State.ringSize (s : State) (r : Nat) : Nat := 2 ^ s.ringLog r

/-- HEAD and TAIL. -/
def State.ringHead (s : State) (r : Nat) : Nat := s.rd F.DMA_RING_HEAD_HEAD r % s.ringSize r
def State.ringTail (s : State) (r : Nat) : Nat := s.rd F.DMA_RING_TAIL_TAIL r % s.ringSize r

/-- How many descriptors belong to the device. -/
def State.ringOwned (s : State) (r : Nat) : Nat := (s.ringTail r + s.ringSize r - s.ringHead r) % s.ringSize r

/-- The power state lets rings start a frame: they stop at packet boundaries for DOZE and SLEEP (R352, 18 R373, R375). -/
def State.ringsAwake (s : State) : Bool := !s.dozing

/-- Ring `r` may start a frame. -/
def State.ringRuns (s : State) (r : Nat) : Bool :=
  s.on F.DMA_RING_CFG_EN r && !s.on F.DMA_RING_STAT_STOPPED r && (s.internal r || s.busMaster) && s.ringsAwake

/-- The memory in which ring `r` lives. -/
def State.ringMem (s : State) (r : Nat) : Mem := if s.internal r then s.scribeMem else s.hostMem

/-- The state with it replaced. -/
def State.setRingMem (s : State) (r : Nat) (m : Mem) : State :=
  if s.internal r then { s with scribeMem := m } else { s with hostMem := m }

/-- Software has written `sw` to the memory of ring `r`. -/
def State.ringSw (s : State) (r : Nat) (sw : List Host.Cell) : State :=
  s.setRingMem r (sw.foldl (fun (m : Mem) c => m.write c.1 c.2) (s.ringMem r))

/-- Bytes `a` to `a + n - 1` lie where ring `r` may reach: for an internal ring L2 SRAM or the Reservoir Scribe region (R350, 03 R73). -/
def State.ringReach (s : State) (r a n : Nat) : Bool :=
  !s.internal r
    || (decide (0x08000000 ≤ a) && decide (a + n ≤ 0x08000000 + 1024 * s.rd F.GLB_L2_CFG_SRAM_KIB 0))
    || (decide (0x80000000 ≤ a) && decide (a + n ≤ 0x80000000 + 2 ^ 20 * s.rd F.RSV_CFG_SCRIBE_MIB 0))

/-- Address of the descriptor `k` places past HEAD. -/
def State.descAt (s : State) (r k : Nat) : Nat :=
  4096 * s.rd F.DMA_RING_BASE_ADDR r + 32 * ((s.ringHead r + k) % s.ringSize r)

/-- A counter of ring `r` plus `n`. -/
def State.ringCnt (s : State) (r k n : Nat) : State := s.bumpBy F.DMA_RING_CNT_COUNT (7 * r + k) n

/-- A frame has completed on ring `r` (R345): after COAL_CNT of them COMPL_EVT is set. -/
def State.ringDone (s : State) (r : Nat) : State :=
  let x := s.ring r
  if max 1 (s.rd F.DMA_RING_IRQ_COAL_CNT r) ≤ x.uncounted + 1 then
    (s.setRing r { x with uncounted := 0 }).evt F.DMA_RING_STAT_COMPL_EVT r
  else s.setRing r { x with uncounted := x.uncounted + 1 }

/-- HEAD advances past `n` descriptors. -/
def State.ringAdvance (s : State) (r n : Nat) : State := s.wr F.DMA_RING_HEAD_HEAD r ((s.ringHead r + n) % s.ringSize r)

/-- CPU queue of receive ring `r`. -/
def cpuQueue (r : Nat) : Nat := 416 + r

/-- The entry `e` of a frame that ring `r` took is finished. -/
def State.rxFinish (s : State) (r : Nat) (e : QEnt) : State :=
  (s.finishIn (cpuQueue r) e (!s.deep (cpuQueue r))).drainService

/-- The held frame of ring `r` is dropped (R346, R349). -/
def State.dropHeld (s : State) (r : Nat) : State :=
  match (s.ring r).held with
  | some h => ((s.setRing r { s.ring r with held := none }).wr F.DMA_RING_STAT_HOLDING r 0).rxFinish r h.ent
  | none => s

/-- The held frame of ring `r` returns to the head of its queue (R352). -/
def State.returnHeld (s : State) (r : Nat) : State :=
  match (s.ring r).held with
  | some h => ((s.setRing r { s.ring r with held := none }).wr F.DMA_RING_STAT_HOLDING r 0).putBack (cpuQueue r) h.ent
  | none => s

/-- A ring error (R349): a receive frame being written is dropped. -/
def State.ringError (s : State) (r : Nat) : State :=
  let s := if (s.ring r).held.isSome then (s.dropHeld r).ringCnt r 4 1 else s
  ((s.evt F.DMA_RING_STAT_ERR_EVT r).wr F.DMA_RING_STAT_STOPPED r 1).reportX (0x190 + r) (elemId 9 r)

/-! ## Reception (R344 to R346) -/

/-- The bytes of a frame as delivered: without the FCS unless KEEP_FCS is set; a lane frame has none. -/
def State.rxBytes (s : State) (r : Nat) (f : Frame) : List Byte :=
  if s.lanePort f.inPort || s.on F.DMA_RING_CFG_KEEP_FCS r then f.bytes else f.bytes.take (f.bytes.length - 4)

/-- Descriptors that `n` bytes fill. -/
def descsFor (n : Nat) : Nat := max 1 ((n + 2047) / 2048)

/-- BUF of the descriptor `k` places past HEAD. -/
def State.descBuf (s : State) (r k : Nat) : Nat := leNat ((s.ringMem r).read (s.descAt r k) 8)

/-- Descriptors `lo` to `hi - 1` past HEAD and their buffers lie where ring `r` may reach. -/
def State.rxReach (s : State) (r lo hi : Nat) : Bool :=
  ((List.range hi).filter (fun k => decide (lo ≤ k))).all (fun k => s.ringReach r (s.descAt r k) 32 && s.ringReach r (s.descBuf r k) 2048)

/-- The data of buffers `lo` to `hi - 1` is written (R345 step 1). -/
def State.rxData (s : State) (r : Nat) (bs : List Byte) (lo hi : Nat) : State :=
  ((List.range hi).filter (fun k => decide (lo ≤ k))).foldl
    (fun (t : State) k => t.setRingMem r ((t.ringMem r).writes (s.descBuf r k) ((bs.drop (2048 * k)).take 2048))) s

/-- Bytes 8 to 27 of descriptor `k` of `n` (R344). -/
def State.rxDesc (s : State) (r : Nat) (f : Frame) (len time k n : Nat) : List Byte :=
  let flags := b2n (k = 0) + 2 * b2n (k + 1 = n) + 4 * b2n (s.lanePort f.inPort)
    + 8 * b2n (!s.lanePort f.inPort && s.on F.DMA_RING_CFG_KEEP_FCS r)
  leBytes 2 (min 2048 (len - 2048 * k)) ++ leBytes 1 flags ++ leBytes 1 f.inPort ++ leBytes 2 f.tsIndex ++ leBytes 2 len
    ++ leBytes 1 f.cls ++ leBytes 3 0 ++ leBytes 4 time ++ leBytes 4 0

/-- The descriptors are written back, then STATUS of each, first to last (R345 steps 2 and 3). -/
def State.rxBack (s : State) (r : Nat) (f : Frame) (len time n : Nat) : State :=
  let t := (List.range n).foldl
    (fun (t : State) k => t.setRingMem r ((t.ringMem r).writes (s.descAt r k + 8) (s.rxDesc r f len time k n))) s
  (List.range n).foldl (fun (t : State) k => t.setRingMem r ((t.ringMem r).writes (s.descAt r k + 28) (leBytes 4 (2 ^ 31)))) t

/-- Frame `f`, taken from its queue with entry `e`, is written from descriptor `lo` on: it completes, is dropped for lack of
descriptors, or is held (R345, R346). -/
def State.rxWrite (s : State) (r : Nat) (e : QEnt) (f : Frame) (lo time : Nat) : State :=
  let bs := s.rxBytes r f
  let n := descsFor bs.length
  let have_ := min n (s.ringOwned r)
  if !s.rxReach r lo have_ then (s.setRing r { s.ring r with held := some ⟨e, lo, time⟩ }).ringError r
  else
    let s := s.rxData r bs lo have_
    if n ≤ s.ringOwned r then
      let s := (s.rxBack r f bs.length time n).ringAdvance r n
      let s := (s.setRing r { s.ring r with held := none }).wr F.DMA_RING_STAT_HOLDING r 0
      (((s.rxFinish r e).ringCnt r 0 1).ringCnt r 1 bs.length).ringDone r
    else if s.on F.DMA_RING_CFG_RX_HOLD r then
      ((s.setRing r { s.ring r with held := some ⟨e, have_, time⟩ }).wr F.DMA_RING_STAT_HOLDING r 1).evt F.DMA_RING_STAT_HOLD_EVT r
    else
      ((((s.setRing r { s.ring r with held := none }).wr F.DMA_RING_STAT_HOLDING r 0).rxFinish r e).ringCnt r 2 1).evt F.DMA_RING_STAT_NOBUF_EVT r

/-- DMA_RX_FRAME: receive ring `r` continues its held frame, or takes the head of its queue. `sw` is what software has written
to the ring's memory since the device last saw it. -/
def execDmaRxFrame (r : Fin 32) (sw : List Host.Cell) (s : State) : Out :=
  let s := s.ringSw r sw
  .next (State.msixService (match (s.ring r).held with
    | some h =>
      if h.taken < s.ringOwned r then
        (match s.frames.find h.ent.first with | some f => s.rxWrite r h.ent f h.taken h.time | none => s)
      else s
    | none =>
      if !s.ringRuns r || decide (s.ringOwned r = 0) then s
      else
        let s := s.pruned (cpuQueue r)
        match s.headOf (cpuQueue r) with
        | none => s
        | some (e, f) => (s.take (cpuQueue r)).rxWrite r e f 0 (s.mtime / 4 % 2 ^ 32)))

/-- DMA_RX_HOLD_TIMEOUT: HOLD_NS has run out on receive ring `r`, unless TAIL has advanced and so ended the hold. -/
def execDmaRxHoldTimeout (r : Fin 32) (s : State) : Out :=
  .next (State.msixService
    (if (s.ring r).held.isSome && s.on F.DMA_RING_STAT_HOLDING r then (((s.dropHeld r).ringCnt r 3 1).ringCnt r 2 1).evt F.DMA_RING_STAT_NOBUF_EVT r else s))

/-! ## Transmission (R347, R348) -/

/-- A transmit descriptor. -/
structure TxDesc where
  buf : Nat
  len : Nat
  flags : Nat
  zero : Nat
  target : Nat
  deriving DecidableEq, Repr

/-- Its fields from its first 28 bytes; `zero` is what must be 0 beside them. -/
def txDesc (b : List Byte) : TxDesc :=
  ⟨leNat (b.take 8), leNat ((b.drop 8).take 2), leNat ((b.drop 10).take 1),
   leNat ((b.drop 11).take 1) + leNat ((b.drop 14).take 14), leNat ((b.drop 12).take 2)⟩

/-- The descriptor `k` places past HEAD of ring `r`. -/
def State.txDescAt (s : State) (r k : Nat) : TxDesc := txDesc ((s.ringMem r).read (s.descAt r k) 28)

/-- The descriptors of the frame at HEAD: up to the first EOF, at most 8. -/
def State.txFrameLen (s : State) (r : Nat) : Option Nat :=
  (List.range (min 8 (s.ringOwned r))).find? (fun k => (s.txDescAt r k).flags.testBit 1 || decide (k = 7)) |>.map (· + 1)

/-- A descriptor keeps the layout of R347. -/
def TxDesc.ok (d : TxDesc) : Bool :=
  decide (d.zero = 0) && decide (d.flags / 16 = 0) && decide (1 ≤ d.len) && decide (d.len ≤ 2048)
    && (d.flags.testBit 3 || decide (d.target = 0))

/-- The frame of the descriptors `ds` is valid (R348); `bs` is its data. -/
def txOk (ds : List TxDesc) (bs : List Byte) : Bool :=
  let d := ds.headD ⟨0, 0, 0, 0, 0⟩
  ds.all TxDesc.ok && d.flags.testBit 0 && ds.any (fun x => x.flags.testBit 1)
    && (if d.flags.testBit 3 && decide (320 ≤ d.target) then
          decide (d.target ≤ 415) && decide (16 ≤ bs.length) && decide (bs.length ≤ 2064) && decide (beNat (bs.take 1) = (d.target - 320) / 4)
        else decide (60 ≤ bs.length) && decide (bs.length ≤ 16379))

/-- Transmit ring `r` has a frame, or an error, to serve. -/
def State.txReady (s : State) (r : Nat) : Bool := s.ringRuns r && (s.txFrameLen r).isSome

/-- The next transmit ring in round robin order after the last one served (R343). -/
def State.txTurn (s : State) : Option Nat :=
  ((List.range 32).map (fun i => 32 + (s.ringLast - 32 + 1 + i) % 32)).find? (fun r => s.txReady r)

/-- The frame of `n` descriptors at HEAD is read and handed on (R348): the code of its STATUS. -/
def State.txHand (s : State) (ds : List TxDesc) (bs : List Byte) : State × Nat :=
  let d := ds.headD ⟨0, 0, 0, 0, 0⟩
  if !txOk ds bs then (s, 3)
  else if d.flags.testBit 3 then s.pushQueue 64 d.target bs (d.flags.testBit 2)
  else (s.pushInject 64 bs (d.flags.testBit 2), 0)

/-- STATUS of `n` descriptors with CODE `code`, in ring order (R348). -/
def State.txBack (s : State) (r code n : Nat) : State :=
  (List.range n).foldl (fun (t : State) k => t.setRingMem r ((t.ringMem r).writes (s.descAt r k + 28) (leBytes 4 (2 ^ 31 + 2 ^ 24 * code)))) s

/-- A frame of `len` bytes ended with `code` on ring `r`. -/
def State.txCount (s : State) (r code len : Nat) : State :=
  if code = 0 then (s.ringCnt r 0 1).ringCnt r 1 len else s.ringCnt r (if code = 1 then 5 else 6) 1

/-- One frame of transmit ring `r`. -/
def State.txServe (s : State) (r n : Nat) : State :=
  let ds := (List.range n).map (fun k => s.txDescAt r k)
  let bs := (ds.map (fun (d : TxDesc) => (s.ringMem r).read d.buf (min d.len 2048))).flatten
  let reach := ((List.range n).all (fun k => s.ringReach r (s.descAt r k) 32)) && ds.all (fun d => s.ringReach r d.buf d.len)
  let s := { s with ringLast := r }
  if !reach then s.ringError r
  else
    let x := s.txHand ds bs
    (((x.1.txBack r x.2 n).ringAdvance r n).txCount r x.2 bs.length).ringDone r

/-- DMA_TX_FRAME: transmit ring 32 + `j`, when it is its turn. -/
def execDmaTxFrame (j : Fin 32) (sw : List Host.Cell) (s : State) : Out :=
  let r := 32 + j.val
  let s := s.ringSw r sw
  .next (State.msixService (if s.txTurn ≠ some r then s
    else match s.txFrameLen r with
      | none => s
      | some n => s.txServe r n))

/-! ## Ring registers (R343, R349) -/

/-- Once TAIL gives the held frame of ring `r` a descriptor, the hold ends and the frame continues (R346). -/
def State.holdEnd (s : State) (r : Nat) : State :=
  match (s.ring r).held with
  | some h => if h.taken < s.ringOwned r then s.wr F.DMA_RING_STAT_HOLDING r 0 else s
  | none => s

/-- DMA_RING_TAIL_WRITE: a value that would move TAIL past HEAD is a ring error and is ignored (R349). -/
def execDmaRingTailWrite (r : Fin 64) (v : BitVec 15) (s : State) : Out :=
  let z := s.ringSize r
  let old := s.ringTail r
  .next (State.msixService
    (if (v.toNat % z + z - old) % z > (s.ringHead r + z - 1 + z - old) % z then s.ringError r
     else (s.wr F.DMA_RING_TAIL_TAIL r v.toNat).holdEnd r))

/-- DMA_RING_RESTART: a stopped ring resumes at HEAD. -/
def execDmaRingRestart (r : Fin 64) (s : State) : Out := .next (s.wr F.DMA_RING_STAT_STOPPED r 0)

/-- DMA_RING_EN_WRITE: a write of DMA_RING_CFG. TARGET and SIZE_LOG2 are ignored while EN is 1. EN from 0 to 1 with both ADDR and
SIZE_LOG2 changed since the last run sets HEAD and TAIL to 0. -/
def execDmaRingEnWrite (r : Fin 64) (w : Word) (s : State) : Out :=
  let was := s.on F.DMA_RING_CFG_EN r
  let s := if was then s else (s.wr F.DMA_RING_CFG_TARGET r (bits w.toNat 30 1)).wr F.DMA_RING_CFG_SIZE_LOG2 r (bits w.toNat 8 4)
  let s := (s.wr F.DMA_RING_CFG_RX_HOLD r (bits w.toNat 29 1)).wr F.DMA_RING_CFG_KEEP_FCS r (bits w.toNat 28 1)
  let s := s.wr F.DMA_RING_CFG_EN r (bits w.toNat 31 1)
  if was || !w.toNat.testBit 31 then .next s
  else
    let addr := s.rd F.DMA_RING_BASE_ADDR r
    let log := s.ringLog r
    let changed : Bool := match (s.ring r).ran with
      | some (a, l) => decide (a ≠ addr) && decide (l ≠ log)
      | none => false
    let s := s.setRing r { s.ring r with ran := some (addr, log) }
    .next (if changed then (s.wr F.DMA_RING_HEAD_HEAD r 0).wr F.DMA_RING_TAIL_TAIL r 0 else s)

/-- DMA_COALESCE_TIMER: COAL_US after the first uncounted completion of ring `r`. -/
def execDmaCoalesceTimer (r : Fin 64) (s : State) : Out :=
  .next (State.msixService
    (if s.on F.DMA_RING_IRQ_COAL_US r && decide (0 < (s.ring r).uncounted) then
      (s.setRing r { s.ring r with uncounted := 0 }).evt F.DMA_RING_STAT_COMPL_EVT r
     else s))

/-- DMA_CPL_TIMEOUT: a read of ring `r` failed, or had no completion within CPL_TO_US. -/
def execDmaCplTimeout (r : Fin 64) (s : State) : Out :=
  .next (State.msixService (if s.ringRuns r || (s.ring r).held.isSome then s.ringError r else s))

/-- DMA_CNT_CLR. -/
def execDmaCntClr (s : State) : Out := .next (s.clearFld F.DMA_RING_CNT_COUNT)

/-! ## The link (R339, R352) -/

/-- The host rings. -/
def State.hostRings (s : State) : List Nat := (List.range 64).filter (fun r => !s.internal r)

/-- Host rings stop at packet boundaries: a receive frame in progress returns to the head of its queue (R352). -/
def State.hostRingsStop (s : State) : State := s.hostRings.foldl (fun (t : State) r => t.returnHeld r) s

/-- PCIE_BME_CLEAR: Bus Master Enable is cleared, or (`d3`) the device enters D3hot. -/
def execPcieBmeClear (d3 : Bool) (s : State) : Out :=
  .next (if !s.pcieUp then s
    else State.hostRingsStop (if d3 then s.wr F.DMA_PCIE_STAT_DSTATE 0 3 else s.wr F.DMA_PCIE_STAT_BME 0 0))

/-- Every field of the ring registers. -/
def ringFields : List Fld :=
  [F.DMA_RING_BASE_ADDR, F.DMA_RING_CFG_EN, F.DMA_RING_CFG_TARGET, F.DMA_RING_CFG_RX_HOLD, F.DMA_RING_CFG_KEEP_FCS,
   F.DMA_RING_CFG_SIZE_LOG2, F.DMA_RING_STAT_NOBUF_EVT, F.DMA_RING_STAT_HOLD_EVT, F.DMA_RING_STAT_ERR_EVT,
   F.DMA_RING_STAT_COMPL_EVT, F.DMA_RING_STAT_HOLDING, F.DMA_RING_STAT_STOPPED, F.DMA_RING_IRQ_EN, F.DMA_RING_IRQ_COAL_US,
   F.DMA_RING_IRQ_COAL_CNT, F.DMA_RING_HOLD_HOLD_NS, F.DMA_RING_HEAD_HEAD, F.DMA_RING_TAIL_TAIL]

/-- The registers of the rings of which `p` holds at their reset values, their counters among them. -/
def State.ringsReset (s : State) (p : Nat → Bool) : State :=
  let s := ringFields.foldl (fun (t : State) f => t.clearWhere f p) s
  let s := s.clearWhere F.DMA_RING_CNT_COUNT (fun e => p (e / 7))
  { s with rings := s.rings.filter (fun e => !p e.1) }

/-- A PCIe reset (03 R63, R352): the endpoint's configuration, the MSI-X table and the host rings. -/
def State.pcieReset (s : State) : State :=
  let s := s.hostRingsStop
  let h := s.hostRings
  let s := s.ringsReset (fun r => h.contains r)
  let s := [F.DMA_PCIE_STAT_BME, F.DMA_PCIE_STAT_DSTATE, F.DMA_PCIE_STAT_WIDTH, F.DMA_PCIE_STAT_SPEED, F.DMA_PCIE_STAT_LINK_UP].foldl
    (fun (t : State) f => t.clearFld f) s
  { s with pcieUp := false, pcie := PcieCfg.init, msix := ⟨[], [], []⟩ }

/-- The words of configuration space that R340 gives: Vendor and Device ID, Revision ID and Class Code, the BARs. -/
def State.cfgWord (s : State) (o : Nat) : Option Nat :=
  match o with
  | 0x00 => some 0x64121F5E
  | 0x08 => some (0x02800000 + s.rd F.GLB_DEV_REV_MAJOR 0)
  | 0x10 => some (s.pcie.bar0 * 2 ^ 25)
  | 0x18 => some (s.pcie.bar2 * 2 ^ 26)
  | 0x14 | 0x1C | 0x20 | 0x24 => some 0
  | _ => none

/-- PCIE_LINK_UP: the link trains to a speed (0 2.5, 1 5.0, 2 8.0, 3 16 GT/s) and 4, 2 or 1 lanes, and is configured by the host. A link
that is up takes the host's configuration alone, in D0. -/
def execPcieLinkUp (speed : Fin 4) (lanes : Fin 3) (cfg : HostCfg) (s : State) : Out :=
  .next (if s.phase = .running ∨ s.phase = .starting ∨ s.phase = .recovery then
    let s := if s.pcieUp then s
      else (((({ s with pcieUp := true } : State).wr F.DMA_PCIE_STAT_LINK_UP 0 1).wr F.DMA_PCIE_STAT_SPEED 0 speed).wr F.DMA_PCIE_STAT_WIDTH 0 (4 / 2 ^ lanes.val))
    let s := { s with pcie := { s.pcie with mps := cfg.mps.val, mrrs := cfg.mrrs.val, bar0 := cfg.bar0.toNat, bar2 := cfg.bar2.toNat } }
    State.msixService ((s.wr F.DMA_PCIE_STAT_DSTATE 0 0).wr F.DMA_PCIE_STAT_BME 0 (b2n cfg.bme))
  else s)

end Sys2Proof.Machine
end

