-- ==== Sys2Proof/Machine/RegMap.lean ====
section
/-! DEFINITION. The register address map (01 R17, 24): where each register of BAR0 lies, how its array
is strided, and which fields its words hold. -/
namespace Sys2Proof.Machine

/-- One register array: base offset, words of an element, up to two strides (a unit stride and an array
stride inside the unit), the number of the first element, and the fields of an element. -/
structure RegDef where
  base : Nat
  words : Nat
  n1 : Nat
  s1 : Nat
  n2 : Nat
  s2 : Nat
  first : Nat
  flds : List Fld

/-- The element and word of `d` that offset `a` names, if it names one. -/
def RegDef.hit (d : RegDef) (a : Nat) : Option (Nat × Nat) :=
  if a < d.base then none
  else
    let off := a - d.base
    let i1 := if d.s1 = 0 then 0 else off / d.s1
    let r1 := if d.s1 = 0 then off else off % d.s1
    let i2 := if d.s2 = 0 ∨ d.n2 ≤ 1 then 0 else r1 / d.s2
    let r2 := if d.s2 = 0 ∨ d.n2 ≤ 1 then r1 else r1 % d.s2
    let w := r2 / 4
    if i1 < d.n1 ∧ i2 < d.n2 ∧ w < d.words ∧ off % 4 = 0 then some ((d.first + i1) * d.n2 + i2, w) else none

namespace RegMap

/-- Registers of the Glb unit (24). -/
def rGlb : List RegDef := [
  ⟨0x0, 1, 1, 0x0, 1, 0x0, 0, [F.GLB_DEV_ID_ID]⟩,
  ⟨0x4, 1, 1, 0x0, 1, 0x0, 0, [F.GLB_DEV_REV_MAJOR, F.GLB_DEV_REV_MINOR, F.GLB_DEV_REV_METAL, F.GLB_DEV_REV_PD_REV]⟩,
  ⟨0x8, 1, 4, 0x4, 1, 0x4, 0, [F.GLB_UID_UID]⟩,
  ⟨0x20, 1, 1, 0x0, 1, 0x0, 0, [F.GLB_BOOT_STAT_FAIL_CODE, F.GLB_BOOT_STAT_MAINT_STRAP, F.GLB_BOOT_STAT_ADOPTED, F.GLB_BOOT_STAT_TAMPER_REFUSED, F.GLB_BOOT_STAT_ACTIVE_BANK, F.GLB_BOOT_STAT_STAGE]⟩,
  ⟨0x24, 1, 1, 0x0, 1, 0x0, 0, [F.GLB_RST_CAUSE_BLT_SOURCE, F.GLB_RST_CAUSE_CAUSE]⟩,
  ⟨0x28, 1, 1, 0x0, 1, 0x0, 0, [F.GLB_RST_COUNT_COUNT]⟩,
  ⟨0x2c, 1, 1, 0x0, 1, 0x0, 0, [F.GLB_RST_KEY, F.GLB_RST_RECOVERY, F.GLB_RST_MAIN]⟩,
  ⟨0x30, 1, 1, 0x0, 1, 0x0, 0, [F.GLB_BLK_RST_S1, F.GLB_BLK_RST_NIB]⟩,
  ⟨0x34, 1, 1, 0x0, 1, 0x0, 0, [F.GLB_SCRIBE_CTL_S1_RUN]⟩,
  ⟨0x38, 1, 1, 0x0, 1, 0x0, 0, [F.GLB_S1_BOOT_ADDR]⟩,
  ⟨0x58, 1, 1, 0x0, 1, 0x0, 0, [F.GLB_MSIP_MSIP]⟩,
  ⟨0x60, 1, 1, 0x0, 1, 0x0, 0, [F.GLB_WDOG_CFG_PERIOD_MS]⟩,
  ⟨0x64, 1, 1, 0x0, 1, 0x0, 0, [F.GLB_WDOG_KICK_KICK]⟩,
  ⟨0x70, 1, 1, 0x0, 1, 0x0, 0, [F.GLB_L2_CFG_SRAM_KIB]⟩,
  ⟨0x1000, 1, 256, 0x4, 1, 0x4, 0, [F.GLB_IRQ_CFG_PENDING, F.GLB_IRQ_CFG_TARGET, F.GLB_IRQ_CFG_PRIO]⟩,
  ⟨0x1400, 1, 4, 0x4, 1, 0x4, 0, [F.GLB_IRQ_CLAIM_SOURCE]⟩,
  ⟨0x1410, 1, 4, 0x4, 1, 0x4, 0, [F.GLB_IRQ_THRESH_THRESH]⟩,
  ⟨0x40, 2, 1, 0x0, 1, 0x0, 0, [F.GLB_MTIME_VALUE]⟩,
  ⟨0x48, 2, 2, 0x8, 1, 0x8, 0, [F.GLB_MTIMECMP_VALUE]⟩]

/-- Registers of the Scr unit (24). -/
def rScr : List RegDef := [
  ⟨0x100000, 1, 1, 0x0, 1, 0x0, 0, [F.SCR_STAT_RESTRUCT_GROUP, F.SCR_STAT_LAST_ERR, F.SCR_STAT_DONE, F.SCR_STAT_PERSISTING, F.SCR_STAT_SOFT_REJECTED, F.SCR_STAT_SOFT_ACTIVE, F.SCR_STAT_RESTRUCT_BUSY, F.SCR_STAT_APPLYING, F.SCR_STAT_LOADED]⟩,
  ⟨0x100004, 1, 1, 0x0, 1, 0x0, 0, [F.SCR_CMD_PERSIST, F.SCR_CMD_APPLY]⟩,
  ⟨0x100008, 1, 1, 0x0, 1, 0x0, 0, [F.SCR_STAGE_LEN_LEN]⟩,
  ⟨0x10000c, 1, 1, 0x0, 1, 0x0, 0, [F.SCR_RESTRUCT_GO, F.SCR_RESTRUCT_VARIANT, F.SCR_RESTRUCT_GROUP]⟩,
  ⟨0x100010, 1, 1, 0x0, 1, 0x0, 0, [F.SCR_VARIANT_VAR_G3, F.SCR_VARIANT_VAR_G2, F.SCR_VARIANT_VAR_G1, F.SCR_VARIANT_VAR_G0]⟩,
  ⟨0x100014, 1, 1, 0x0, 1, 0x0, 0, [F.SCR_LOCK_LOCK]⟩,
  ⟨0x100024, 1, 1, 0x0, 1, 0x0, 0, [F.SCR_ERR_INFO_RECORD, F.SCR_ERR_INFO_SECTION]⟩,
  ⟨0x100028, 1, 1, 0x0, 1, 0x0, 0, [F.SCR_APPLY_CNT_COUNT]⟩,
  ⟨0x100040, 1, 12, 0x4, 1, 0x4, 0, [F.SCR_HARD_DIGEST_DIGEST]⟩,
  ⟨0x100018, 1, 1, 0x0, 1, 0x0, 0, [F.SCR_ID_VALUE]⟩,
  ⟨0x10001c, 1, 1, 0x0, 1, 0x0, 0, [F.SCR_VERSION_VALUE]⟩,
  ⟨0x100020, 1, 1, 0x0, 1, 0x0, 0, [F.SCR_SOFT_VERSION_VALUE]⟩]

/-- Registers of the Pwr unit (24). -/
def rPwr : List RegDef := [
  ⟨0x200000, 1, 1, 0x0, 1, 0x0, 0, [F.PWR_MODE_TARGET]⟩,
  ⟨0x200004, 1, 1, 0x0, 1, 0x0, 0, [F.PWR_STAT_SAG_WARN_EVT, F.PWR_STAT_AVS_FAULT_EVT, F.PWR_STAT_ABORT_EVT, F.PWR_STAT_TRANS_DONE_EVT, F.PWR_STAT_LAST_TARGET, F.PWR_STAT_LAST_RESULT, F.PWR_STAT_IN_TRANSITION, F.PWR_STAT_STATE]⟩,
  ⟨0x200008, 1, 1, 0x0, 1, 0x0, 0, [F.PWR_IRQ_EN_EN]⟩,
  ⟨0x20000c, 1, 1, 0x0, 1, 0x0, 0, [F.PWR_REQ_REQ, F.PWR_REQ_TARGET]⟩,
  ⟨0x200010, 1, 1, 0x0, 1, 0x0, 0, [F.PWR_REQ_ACK_TAKE, F.PWR_REQ_ACK_TAKEN_TARGET]⟩,
  ⟨0x200014, 1, 1, 0x0, 1, 0x0, 0, [F.PWR_ENTRY_CFG_S1_WAIT_US]⟩,
  ⟨0x200020, 1, 1, 0x0, 1, 0x0, 0, [F.PWR_SAG_LOG_LEVEL_MV, F.PWR_SAG_LOG_RESET, F.PWR_SAG_LOG_RAIL]⟩,
  ⟨0x200040, 1, 4, 0x4, 1, 0x4, 0, [F.PWR_SUP_CFG_RESET_MV, F.PWR_SUP_CFG_WARN_MV]⟩,
  ⟨0x200060, 1, 4, 0x4, 1, 0x4, 0, [F.PWR_SUP_MV_LEVEL]⟩,
  ⟨0x200080, 2, 3, 0x8, 1, 0x8, 0, [F.PWR_CNT_COUNT]⟩,
  ⟨0x200098, 2, 2, 0x8, 1, 0x8, 3, [F.PWR_SAG_CNT_COUNT]⟩,
  ⟨0x200100, 1, 1, 0x0, 1, 0x0, 0, [F.AVS_LOOP_CTL_LOOP_EN, F.AVS_LOOP_CTL_MODE]⟩,
  ⟨0x200104, 1, 2, 0x4, 1, 0x4, 0, [F.AVS_SETPT_DOZE_MV, F.AVS_SETPT_TRIM_MV, F.AVS_SETPT_RUN_MV]⟩,
  ⟨0x20010c, 1, 1, 0x0, 1, 0x0, 0, [F.AVS_FLOOR_SRAM_MV, F.AVS_FLOOR_CORE_MV]⟩,
  ⟨0x200110, 1, 1, 0x0, 1, 0x0, 0, [F.AVS_TIMEOUT_TIMEOUT_US]⟩,
  ⟨0x200114, 1, 1, 0x0, 1, 0x0, 0, [F.AVS_STAT_LOOP_ACTIVE, F.AVS_STAT_DEGRADED, F.AVS_STAT_BUSY, F.AVS_STAT_SRAM_MV, F.AVS_STAT_CORE_MV]⟩,
  ⟨0x200118, 1, 1, 0x0, 1, 0x0, 0, [F.AVS_LOOP_SLACK_HI_PCT, F.AVS_LOOP_SLACK_LO_PCT, F.AVS_LOOP_PERIOD_US, F.AVS_LOOP_STEP_MV]⟩,
  ⟨0x200120, 1, 3, 0x4, 1, 0x4, 0, [F.AVS_LEGACY_ASSIST, F.AVS_LEGACY_BIAS]⟩,
  ⟨0x200180, 2, 4, 0x8, 1, 0x8, 0, [F.AVS_CNT_COUNT]⟩]

/-- Registers of the Blt unit (24). -/
def rBlt : List RegDef := [
  ⟨0x300000, 1, 1, 0x0, 1, 0x0, 0, [F.BLT_CTL_CNT_CLR, F.BLT_CTL_LOG_CLR]⟩,
  ⟨0x300004, 1, 1, 0x0, 1, 0x0, 0, [F.BLT_STAT_LOST_EVT, F.BLT_STAT_SEVERE_EVT, F.BLT_STAT_NOTE_EVT, F.BLT_STAT_QUEUED]⟩,
  ⟨0x300008, 1, 1, 0x0, 1, 0x0, 0, [F.BLT_LOG_HEAD_WRAPPED, F.BLT_LOG_HEAD_HEAD]⟩,
  ⟨0x300010, 1, 1, 0x0, 1, 0x0, 0, [F.BLT_FLT_CTL_ABSENT_MS, F.BLT_FLT_CTL_FORCE, F.BLT_FLT_CTL_HEARTBEAT]⟩,
  ⟨0x300014, 1, 1, 0x0, 1, 0x0, 0, [F.BLT_FLT_STAT_FORCE, F.BLT_FLT_STAT_ABSENT, F.BLT_FLT_STAT_RECOVERY, F.BLT_FLT_STAT_RAIL, F.BLT_FLT_STAT_TERMINAL, F.BLT_FLT_STAT_BEATING, F.BLT_FLT_STAT_FAULT]⟩,
  ⟨0x300100, 2, 5, 0x8, 1, 0x8, 0, [F.BLT_CNT_COUNT]⟩,
  ⟨0x301000, 1, 1024, 0x4, 1, 0x4, 0, [F.BLT_SRC_CFG_CLASS, F.BLT_SRC_CFG_ESC_ACTION, F.BLT_SRC_CFG_ESC_N, F.BLT_SRC_CFG_WIN_MS]⟩,
  ⟨0x302000, 1, 1024, 0x4, 1, 0x4, 0, [F.BLT_SRC_STAT_TOTAL, F.BLT_SRC_STAT_WIN_CNT, F.BLT_SRC_STAT_ESC]⟩,
  ⟨0x304000, 1, 256, 0x10, 1, 0x10, 0, [F.BLT_LOG_CLASS, F.BLT_LOG_ESCALATED, F.BLT_LOG_VALID, F.BLT_LOG_SOURCE, F.BLT_LOG_ELEMENT]⟩,
  ⟨0x304004, 1, 256, 0x10, 1, 0x10, 0, [F.BLT_LOG_INFO]⟩,
  ⟨0x304008, 1, 256, 0x10, 1, 0x10, 0, [F.BLT_LOG_T0_SEC]⟩,
  ⟨0x30400c, 1, 256, 0x10, 1, 0x10, 0, [F.BLT_LOG_T0_NS]⟩,
  ⟨0xe8e000, 1, 16, 0x10, 1, 0x10, 0, [F.BLT_PLOG_CLASS, F.BLT_PLOG_ESCALATED, F.BLT_PLOG_VALID, F.BLT_PLOG_SOURCE, F.BLT_PLOG_ELEMENT]⟩,
  ⟨0xe8e004, 1, 16, 0x10, 1, 0x10, 0, [F.BLT_PLOG_INFO]⟩,
  ⟨0xe8e008, 1, 16, 0x10, 1, 0x10, 0, [F.BLT_PLOG_RTC_SEC]⟩,
  ⟨0xe8e00c, 1, 16, 0x10, 1, 0x10, 0, [F.BLT_PLOG_RTC_FRAC, F.BLT_PLOG_STAGE]⟩,
  ⟨0xe8e100, 1, 1, 0x0, 1, 0x0, 0, [F.BLT_PLOG_HEAD_KEY, F.BLT_PLOG_HEAD_CLR, F.BLT_PLOG_HEAD_WRAPPED, F.BLT_PLOG_HEAD_HEAD]⟩]

/-- Registers of the Eth unit (24). -/
def rEth : List RegDef := [
  ⟨0x400000, 1, 8, 0x1000, 1, 0x1000, 0, [F.ETH_CTL_MAX_LEN, F.ETH_CTL_CNT_CLR, F.ETH_CTL_PEER_OFF, F.ETH_CTL_LOOPBACK, F.ETH_CTL_TX_EN, F.ETH_CTL_RX_EN]⟩,
  ⟨0x410000, 1, 16, 0x1000, 1, 0x1000, 8, [F.ETH_CTL_MAX_LEN, F.ETH_CTL_CNT_CLR, F.ETH_CTL_PEER_OFF, F.ETH_CTL_LOOPBACK, F.ETH_CTL_TX_EN, F.ETH_CTL_RX_EN]⟩,
  ⟨0x420000, 1, 16, 0x1000, 1, 0x1000, 24, [F.ETH_CTL_MAX_LEN, F.ETH_CTL_CNT_CLR, F.ETH_CTL_PEER_OFF, F.ETH_CTL_LOOPBACK, F.ETH_CTL_TX_EN, F.ETH_CTL_RX_EN]⟩,
  ⟨0x400004, 1, 8, 0x1000, 1, 0x1000, 0, [F.ETH_STAT_STORM_EVT, F.ETH_STAT_TAPER_EVT, F.ETH_STAT_PEER_CHG, F.ETH_STAT_LINK_CHG, F.ETH_STAT_INBAND_MISMATCH, F.ETH_STAT_RETRAIN, F.ETH_STAT_LPI_RX, F.ETH_STAT_LPI_TX, F.ETH_STAT_FEC_ACTIVE, F.ETH_STAT_RATE, F.ETH_STAT_PEER, F.ETH_STAT_SIGNAL, F.ETH_STAT_PCS_LOCK, F.ETH_STAT_LINK]⟩,
  ⟨0x410004, 1, 16, 0x1000, 1, 0x1000, 8, [F.ETH_STAT_STORM_EVT, F.ETH_STAT_TAPER_EVT, F.ETH_STAT_PEER_CHG, F.ETH_STAT_LINK_CHG, F.ETH_STAT_INBAND_MISMATCH, F.ETH_STAT_RETRAIN, F.ETH_STAT_LPI_RX, F.ETH_STAT_LPI_TX, F.ETH_STAT_FEC_ACTIVE, F.ETH_STAT_RATE, F.ETH_STAT_PEER, F.ETH_STAT_SIGNAL, F.ETH_STAT_PCS_LOCK, F.ETH_STAT_LINK]⟩,
  ⟨0x420004, 1, 16, 0x1000, 1, 0x1000, 24, [F.ETH_STAT_STORM_EVT, F.ETH_STAT_TAPER_EVT, F.ETH_STAT_PEER_CHG, F.ETH_STAT_LINK_CHG, F.ETH_STAT_INBAND_MISMATCH, F.ETH_STAT_RETRAIN, F.ETH_STAT_LPI_RX, F.ETH_STAT_LPI_TX, F.ETH_STAT_FEC_ACTIVE, F.ETH_STAT_RATE, F.ETH_STAT_PEER, F.ETH_STAT_SIGNAL, F.ETH_STAT_PCS_LOCK, F.ETH_STAT_LINK]⟩,
  ⟨0x400008, 1, 8, 0x1000, 1, 0x1000, 0, [F.ETH_MODE_SERDES_PRESET, F.ETH_MODE_SGMII_SPEED, F.ETH_MODE_LPI_ALLOWED, F.ETH_MODE_TAPER_ALLOWED, F.ETH_MODE_RS_FEC, F.ETH_MODE_MODE]⟩,
  ⟨0x410008, 1, 16, 0x1000, 1, 0x1000, 8, [F.ETH_MODE_SERDES_PRESET, F.ETH_MODE_SGMII_SPEED, F.ETH_MODE_LPI_ALLOWED, F.ETH_MODE_TAPER_ALLOWED, F.ETH_MODE_RS_FEC, F.ETH_MODE_MODE]⟩,
  ⟨0x420008, 1, 16, 0x1000, 1, 0x1000, 24, [F.ETH_MODE_SERDES_PRESET, F.ETH_MODE_SGMII_SPEED, F.ETH_MODE_LPI_ALLOWED, F.ETH_MODE_TAPER_ALLOWED, F.ETH_MODE_RS_FEC, F.ETH_MODE_MODE]⟩,
  ⟨0x400010, 2, 8, 0x1000, 1, 0x1000, 0, [F.ETH_MAC_ADDR_ADDR]⟩,
  ⟨0x410010, 2, 16, 0x1000, 1, 0x1000, 8, [F.ETH_MAC_ADDR_ADDR]⟩,
  ⟨0x420010, 2, 16, 0x1000, 1, 0x1000, 24, [F.ETH_MAC_ADDR_ADDR]⟩,
  ⟨0x400018, 1, 8, 0x1000, 1, 0x1000, 0, [F.ETH_SERDES_TX_OVERRIDE, F.ETH_SERDES_TX_POST, F.ETH_SERDES_TX_MAIN, F.ETH_SERDES_TX_PRE]⟩,
  ⟨0x410018, 1, 16, 0x1000, 1, 0x1000, 8, [F.ETH_SERDES_TX_OVERRIDE, F.ETH_SERDES_TX_POST, F.ETH_SERDES_TX_MAIN, F.ETH_SERDES_TX_PRE]⟩,
  ⟨0x420018, 1, 16, 0x1000, 1, 0x1000, 24, [F.ETH_SERDES_TX_OVERRIDE, F.ETH_SERDES_TX_POST, F.ETH_SERDES_TX_MAIN, F.ETH_SERDES_TX_PRE]⟩,
  ⟨0x40001c, 1, 8, 0x1000, 1, 0x1000, 0, [F.ETH_SERDES_RX_READAPT, F.ETH_SERDES_RX_ADAPT_DONE, F.ETH_SERDES_RX_EYE_W, F.ETH_SERDES_RX_EYE_H]⟩,
  ⟨0x41001c, 1, 16, 0x1000, 1, 0x1000, 8, [F.ETH_SERDES_RX_READAPT, F.ETH_SERDES_RX_ADAPT_DONE, F.ETH_SERDES_RX_EYE_W, F.ETH_SERDES_RX_EYE_H]⟩,
  ⟨0x42001c, 1, 16, 0x1000, 1, 0x1000, 24, [F.ETH_SERDES_RX_READAPT, F.ETH_SERDES_RX_ADAPT_DONE, F.ETH_SERDES_RX_EYE_W, F.ETH_SERDES_RX_EYE_H]⟩,
  ⟨0x400020, 1, 8, 0x1000, 1, 0x1000, 0, [F.ETH_FC_CFG_PAUSE_QUANTA, F.ETH_FC_CFG_PFC_CLASSES, F.ETH_FC_CFG_RX_EN, F.ETH_FC_CFG_TX_EN, F.ETH_FC_CFG_MODE]⟩,
  ⟨0x410020, 1, 16, 0x1000, 1, 0x1000, 8, [F.ETH_FC_CFG_PAUSE_QUANTA, F.ETH_FC_CFG_PFC_CLASSES, F.ETH_FC_CFG_RX_EN, F.ETH_FC_CFG_TX_EN, F.ETH_FC_CFG_MODE]⟩,
  ⟨0x420020, 1, 16, 0x1000, 1, 0x1000, 24, [F.ETH_FC_CFG_PAUSE_QUANTA, F.ETH_FC_CFG_PFC_CLASSES, F.ETH_FC_CFG_RX_EN, F.ETH_FC_CFG_TX_EN, F.ETH_FC_CFG_MODE]⟩,
  ⟨0x400024, 1, 8, 0x1000, 1, 0x1000, 0, [F.ETH_FC_THR_XON_CELLS, F.ETH_FC_THR_XOFF_CELLS]⟩,
  ⟨0x410024, 1, 16, 0x1000, 1, 0x1000, 8, [F.ETH_FC_THR_XON_CELLS, F.ETH_FC_THR_XOFF_CELLS]⟩,
  ⟨0x420024, 1, 16, 0x1000, 1, 0x1000, 24, [F.ETH_FC_THR_XON_CELLS, F.ETH_FC_THR_XOFF_CELLS]⟩,
  ⟨0x400028, 1, 8, 0x1000, 1, 0x1000, 0, [F.ETH_FC_STORM_STORMED, F.ETH_FC_STORM_PAUSED, F.ETH_FC_STORM_STORM_MS]⟩,
  ⟨0x410028, 1, 16, 0x1000, 1, 0x1000, 8, [F.ETH_FC_STORM_STORMED, F.ETH_FC_STORM_PAUSED, F.ETH_FC_STORM_STORM_MS]⟩,
  ⟨0x420028, 1, 16, 0x1000, 1, 0x1000, 24, [F.ETH_FC_STORM_STORMED, F.ETH_FC_STORM_PAUSED, F.ETH_FC_STORM_STORM_MS]⟩,
  ⟨0x400030, 1, 8, 0x1000, 1, 0x1000, 0, [F.ETH_LPI_CFG_EN, F.ETH_LPI_CFG_TW_SYS_US, F.ETH_LPI_CFG_IDLE_US]⟩,
  ⟨0x410030, 1, 16, 0x1000, 1, 0x1000, 8, [F.ETH_LPI_CFG_EN, F.ETH_LPI_CFG_TW_SYS_US, F.ETH_LPI_CFG_IDLE_US]⟩,
  ⟨0x420030, 1, 16, 0x1000, 1, 0x1000, 24, [F.ETH_LPI_CFG_EN, F.ETH_LPI_CFG_TW_SYS_US, F.ETH_LPI_CFG_IDLE_US]⟩,
  ⟨0x400040, 1, 8, 0x1000, 1, 0x1000, 0, [F.ETH_TAPER_CTL_FORCE, F.ETH_TAPER_CTL_TAPER_CEIL, F.ETH_TAPER_CTL_TAPER_FLOOR, F.ETH_TAPER_CTL_EN]⟩,
  ⟨0x400044, 1, 8, 0x1000, 1, 0x1000, 0, [F.ETH_TAPER_THR_WIN_US, F.ETH_TAPER_THR_DOWN_HOLD, F.ETH_TAPER_THR_UP_PCT, F.ETH_TAPER_THR_DOWN_PCT]⟩,
  ⟨0x400048, 1, 8, 0x1000, 1, 0x1000, 0, [F.ETH_TAPER_DWELL_UP_CELLS, F.ETH_TAPER_DWELL_DWELL_MS]⟩,
  ⟨0x40004c, 1, 8, 0x1000, 1, 0x1000, 0, [F.ETH_TAPER_STAT_STATE, F.ETH_TAPER_STAT_LAST_REFUSE, F.ETH_TAPER_STAT_FAILED, F.ETH_TAPER_STAT_RATE]⟩,
  ⟨0x400060, 1, 8, 0x1000, 1, 0x1000, 0, [F.ETH_WAKE_CFG_PAT_EN, F.ETH_WAKE_CFG_LINK_WAKE, F.ETH_WAKE_CFG_EN]⟩,
  ⟨0x410060, 1, 16, 0x1000, 1, 0x1000, 8, [F.ETH_WAKE_CFG_PAT_EN, F.ETH_WAKE_CFG_LINK_WAKE, F.ETH_WAKE_CFG_EN]⟩,
  ⟨0x420060, 1, 16, 0x1000, 1, 0x1000, 24, [F.ETH_WAKE_CFG_PAT_EN, F.ETH_WAKE_CFG_LINK_WAKE, F.ETH_WAKE_CFG_EN]⟩,
  ⟨0x400080, 7, 8, 0x1000, 4, 0x20, 0, [F.ETH_WAKE_PAT_MASK, F.ETH_WAKE_PAT_DATA, F.ETH_WAKE_PAT_OFF, F.ETH_WAKE_PAT_ETYPE, F.ETH_WAKE_PAT_DA]⟩,
  ⟨0x410080, 7, 16, 0x1000, 4, 0x20, 8, [F.ETH_WAKE_PAT_MASK, F.ETH_WAKE_PAT_DATA, F.ETH_WAKE_PAT_OFF, F.ETH_WAKE_PAT_ETYPE, F.ETH_WAKE_PAT_DA]⟩,
  ⟨0x420080, 7, 16, 0x1000, 4, 0x20, 24, [F.ETH_WAKE_PAT_MASK, F.ETH_WAKE_PAT_DATA, F.ETH_WAKE_PAT_OFF, F.ETH_WAKE_PAT_ETYPE, F.ETH_WAKE_PAT_DA]⟩,
  ⟨0x400100, 2, 8, 0x1000, 29, 0x8, 0, [F.ETH_CNT_COUNT]⟩,
  ⟨0x410100, 2, 16, 0x1000, 29, 0x8, 8, [F.ETH_CNT_COUNT]⟩,
  ⟨0x420100, 2, 16, 0x1000, 29, 0x8, 24, [F.ETH_CNT_COUNT]⟩,
  ⟨0x430000, 1, 3, 0x1000, 1, 0x1000, 0, [F.ETH_GRP_IRQ_PORT]⟩,
  ⟨0x430004, 1, 3, 0x1000, 1, 0x1000, 0, [F.ETH_GRP_IRQ_EN_EN]⟩,
  ⟨0x430010, 1, 1, 0x0, 1, 0x0, 0, [F.ETH_TAPER_ETYPE_ETYPE]⟩]

/-- Registers of the Lane unit (24). -/
def rLane : List RegDef := [
  ⟨0x500000, 1, 24, 0x1000, 1, 0x1000, 0, [F.LSL_PERS_AUX_POL, F.LSL_PERS_ROLE, F.LSL_PERS_PERSONALITY]⟩,
  ⟨0x518000, 1, 1, 0x0, 1, 0x0, 0, [F.LSL_GRP_IRQ_LANE]⟩,
  ⟨0x518004, 1, 1, 0x0, 1, 0x0, 0, [F.LSL_GRP_IRQ_EN_EN]⟩]

/-- Registers of the Can unit (24). -/
def rCan : List RegDef := [
  ⟨0x500100, 1, 24, 0x1000, 1, 0x1000, 0, [F.LSL_CAN_CTL_CNT_CLR, F.LSL_CAN_CTL_STBY, F.LSL_CAN_CTL_ERR_SIG, F.LSL_CAN_CTL_PXH, F.LSL_CAN_CTL_AUTO_RECOV, F.LSL_CAN_CTL_ONESHOT, F.LSL_CAN_CTL_OPMODE, F.LSL_CAN_CTL_EN]⟩,
  ⟨0x500110, 1, 24, 0x1000, 1, 0x1000, 0, [F.LSL_CAN_TDC_EN, F.LSL_CAN_TDC_TDCO, F.LSL_CAN_TDC_TDCF]⟩,
  ⟨0x500114, 1, 24, 0x1000, 1, 0x1000, 0, [F.LSL_CAN_PWM_EN, F.LSL_CAN_PWM_PWMO, F.LSL_CAN_PWM_PWML, F.LSL_CAN_PWM_PWMS]⟩,
  ⟨0x500120, 1, 24, 0x1000, 1, 0x1000, 0, [F.LSL_CAN_ERR_RECOV_CNT, F.LSL_CAN_ERR_LEC_DATA, F.LSL_CAN_ERR_LEC, F.LSL_CAN_ERR_WARN, F.LSL_CAN_ERR_STATE, F.LSL_CAN_ERR_RP, F.LSL_CAN_ERR_REC, F.LSL_CAN_ERR_TEC]⟩,
  ⟨0x500124, 1, 24, 0x1000, 1, 0x1000, 0, [F.LSL_CAN_STAT_BRD_DONE, F.LSL_CAN_STAT_TDC_FAIL_EVT, F.LSL_CAN_STAT_RL_DROP_EVT, F.LSL_CAN_STAT_PXE_EVT, F.LSL_CAN_STAT_WARN_EVT, F.LSL_CAN_STAT_PASSIVE_EVT, F.LSL_CAN_STAT_BUSOFF_EVT, F.LSL_CAN_STAT_TDCV, F.LSL_CAN_STAT_STBY, F.LSL_CAN_STAT_TX_PEND, F.LSL_CAN_STAT_BUS_IDLE, F.LSL_CAN_STAT_LINK]⟩,
  ⟨0x500128, 1, 24, 0x1000, 1, 0x1000, 0, [F.LSL_CAN_RECOV_START]⟩,
  ⟨0x500130, 1, 24, 0x1000, 1, 0x1000, 0, [F.LSL_CAN_FLT_DEF_RL, F.LSL_CAN_FLT_DEF_RL_EN, F.LSL_CAN_FLT_DEF_TX_REJECT, F.LSL_CAN_FLT_DEF_RX_REJECT]⟩,
  ⟨0x500140, 1, 24, 0x1000, 1, 0x1000, 0, [F.LSL_CAN_TM_EN, F.LSL_CAN_TM_RULER, F.LSL_CAN_TM_FMT, F.LSL_CAN_TM_PERIOD_MS]⟩,
  ⟨0x500144, 1, 24, 0x1000, 1, 0x1000, 0, [F.LSL_CAN_TM_ID_IDE, F.LSL_CAN_TM_ID_ID]⟩,
  ⟨0x500150, 1, 24, 0x1000, 1, 0x1000, 0, [F.LSL_CAN_WAKE_EN, F.LSL_CAN_WAKE_DET, F.LSL_CAN_WAKE_WUP_TO, F.LSL_CAN_WAKE_WUP_FILT]⟩,
  ⟨0x500154, 1, 24, 0x1000, 1, 0x1000, 0, [F.LSL_CAN_AUX_ARM_US]⟩,
  ⟨0x500160, 1, 24, 0x1000, 1, 0x1000, 0, [F.LSL_CAN_BRD_START, F.LSL_CAN_BRD_EDGES, F.LSL_CAN_BRD_MIN_EDGE]⟩,
  ⟨0x500300, 2, 24, 0x1000, 16, 0x8, 0, [F.LSL_CAN_RL_TOKENS, F.LSL_CAN_RL_BURST, F.LSL_CAN_RL_PERIOD_US]⟩,
  ⟨0x500400, 3, 24, 0x1000, 64, 0x10, 0, [F.LSL_CAN_FLT_RL, F.LSL_CAN_FLT_VALID, F.LSL_CAN_FLT_RL_EN, F.LSL_CAN_FLT_REJECT, F.LSL_CAN_FLT_TX, F.LSL_CAN_FLT_RX, F.LSL_CAN_FLT_FMT, F.LSL_CAN_FLT_MASK, F.LSL_CAN_FLT_ID]⟩,
  ⟨0x500800, 2, 24, 0x1000, 20, 0x8, 0, [F.LSL_CAN_CNT_COUNT]⟩,
  ⟨0x500104, 1, 24, 0x1000, 1, 0x1000, 0, [F.LSL_CAN_NBT_BRP_M1, F.LSL_CAN_NBT_TSEG1_M1, F.LSL_CAN_NBT_TSEG2_M1, F.LSL_CAN_NBT_SJW_M1]⟩,
  ⟨0x500108, 1, 24, 0x1000, 1, 0x1000, 0, [F.LSL_CAN_DBT_BRP_M1, F.LSL_CAN_DBT_TSEG1_M1, F.LSL_CAN_DBT_TSEG2_M1, F.LSL_CAN_DBT_SJW_M1]⟩,
  ⟨0x50010c, 1, 24, 0x1000, 1, 0x1000, 0, [F.LSL_CAN_XBT_BRP_M1, F.LSL_CAN_XBT_TSEG1_M1, F.LSL_CAN_XBT_TSEG2_M1, F.LSL_CAN_XBT_SJW_M1]⟩]

/-- Registers of the T1s unit (24). -/
def rT1s : List RegDef := [
  ⟨0x500100, 1, 24, 0x1000, 1, 0x1000, 0, [F.LSL_T1S_CTL_CNT_CLR, F.LSL_T1S_CTL_WAKE_EN, F.LSL_T1S_CTL_PLCA_EN, F.LSL_T1S_CTL_EN]⟩,
  ⟨0x500104, 1, 24, 0x1000, 1, 0x1000, 0, [F.LSL_T1S_PLCA_MAX_BC, F.LSL_T1S_PLCA_TO_TIMER, F.LSL_T1S_PLCA_NODE_CNT, F.LSL_T1S_PLCA_NODE_ID]⟩,
  ⟨0x500108, 1, 24, 0x1000, 1, 0x1000, 0, [F.LSL_T1S_BURST_WAKE_FILT, F.LSL_T1S_BURST_BURST_TMR]⟩,
  ⟨0x50010c, 1, 24, 0x1000, 1, 0x1000, 0, [F.LSL_T1S_STAT_EXC_COLL_EVT, F.LSL_T1S_STAT_DUP_COORD_EVT, F.LSL_T1S_STAT_BEACON_BACK_EVT, F.LSL_T1S_STAT_BEACON_LOST_EVT, F.LSL_T1S_STAT_ED, F.LSL_T1S_STAT_TX_PEND, F.LSL_T1S_STAT_MODE, F.LSL_T1S_STAT_LINK]⟩,
  ⟨0x500800, 2, 24, 0x1000, 14, 0x8, 0, [F.LSL_T1S_CNT_COUNT]⟩]

/-- Registers of the Mvb unit (24). -/
def rMvb : List RegDef := [
  ⟨0x500100, 1, 24, 0x1000, 1, 0x1000, 0, [F.LSL_MVB_CTL_CNT_CLR, F.LSL_MVB_CTL_WAKE_EN, F.LSL_MVB_CTL_ADMIN_RUN, F.LSL_MVB_CTL_EN]⟩,
  ⟨0x500104, 1, 24, 0x1000, 1, 0x1000, 0, [F.LSL_MVB_TIMING_DE_LAG, F.LSL_MVB_TIMING_DE_LEAD, F.LSL_MVB_TIMING_REPLY_TO, F.LSL_MVB_TIMING_REPLY_DLY]⟩,
  ⟨0x500108, 1, 24, 0x1000, 1, 0x1000, 0, [F.LSL_MVB_BP_BP_US]⟩,
  ⟨0x50010c, 1, 24, 0x1000, 1, 0x1000, 0, [F.LSL_MVB_DEV_SILENCE_MS, F.LSL_MVB_DEV_DEV_ADDR]⟩,
  ⟨0x500110, 1, 24, 0x1000, 1, 0x1000, 0, [F.LSL_MVB_DEVSTAT_STATUS]⟩,
  ⟨0x500114, 1, 24, 0x1000, 1, 0x1000, 0, [F.LSL_MVB_STAT_MASTER_CONFLICT_EVT, F.LSL_MVB_STAT_OVERRUN_EVT, F.LSL_MVB_STAT_TIMEOUT_EVT, F.LSL_MVB_STAT_BP_NUM, F.LSL_MVB_STAT_SPORADIC, F.LSL_MVB_STAT_ADMIN, F.LSL_MVB_STAT_LINK]⟩,
  ⟨0x500400, 1, 24, 0x1000, 256, 0x4, 0, [F.LSL_MVB_PORT_VALID, F.LSL_MVB_PORT_DIR, F.LSL_MVB_PORT_FCODE, F.LSL_MVB_PORT_ADDR]⟩,
  ⟨0x500800, 1, 24, 0x1000, 256, 0x4, 0, [F.LSL_MVB_FRESH_UPD_CNT, F.LSL_MVB_FRESH_AGE]⟩,
  ⟨0x500c00, 2, 24, 0x1000, 10, 0x8, 0, [F.LSL_MVB_CNT_COUNT]⟩]

/-- Registers of the Pp unit (24). -/
def rPp : List RegDef := [
  ⟨0x600000, 1, 2, 0x100000, 1, 0x100000, 0, [F.PP_CTL_CNT_CLR, F.PP_CTL_SC_FLUSH, F.PP_CTL_MIRROR_SPEC, F.PP_CTL_QS_EN]⟩,
  ⟨0x600004, 1, 2, 0x100000, 1, 0x100000, 0, [F.PP_QS_PORT_EN_PORT]⟩,
  ⟨0x600008, 2, 2, 0x100000, 1, 0x100000, 0, [F.PP_QS_EGR_EN_PORT]⟩,
  ⟨0x600010, 1, 2, 0x100000, 1, 0x100000, 0, [F.PP_QS_RELEASE_RELEASE]⟩,
  ⟨0x600014, 1, 2, 0x100000, 1, 0x100000, 0, [F.PP_STAT_STRIKE_EVT, F.PP_STAT_RECOVERY_EVT, F.PP_STAT_SC_PARITY_EVT, F.PP_STAT_STENCIL_PARITY_EVT, F.PP_STAT_PARSE_ERR_EVT, F.PP_STAT_RECOVERING]⟩,
  ⟨0x600018, 1, 2, 0x100000, 1, 0x100000, 0, [F.PP_IRQ_EN_EN]⟩,
  ⟨0x60001c, 1, 2, 0x100000, 1, 0x100000, 0, [F.PP_LAST_STRIKE_REASON, F.PP_LAST_STRIKE_EGR_PORT, F.PP_LAST_STRIKE_IN_PORT]⟩,
  ⟨0x600020, 1, 2, 0x100000, 1, 0x100000, 0, [F.PP_PCP_MAP_CLASS]⟩,
  ⟨0x600024, 1, 2, 0x100000, 1, 0x100000, 0, [F.PP_TPID_S_TPID, F.PP_TPID_C_TPID]⟩,
  ⟨0x600028, 1, 2, 0x100000, 1, 0x100000, 0, [F.PP_MIRROR_EN, F.PP_MIRROR_PORT]⟩,
  ⟨0x60002c, 1, 2, 0x100000, 1, 0x100000, 0, [F.PP_STENCIL_DEF_ACTION]⟩,
  ⟨0x600100, 1, 2, 0x100000, 67, 0x4, 0, [F.PP_PORT_CFG_PVID, F.PP_PORT_CFG_DEF_CLASS, F.PP_PORT_CFG_TRUST_PCP, F.PP_PORT_CFG_ACCEPT, F.PP_PORT_CFG_MIRROR_IN]⟩,
  ⟨0x600400, 2, 2, 0x100000, 14, 0x8, 0, [F.PP_DECLINE_CNT_COUNT]⟩,
  ⟨0x600480, 2, 2, 0x100000, 10, 0x8, 0, [F.PP_CNT_COUNT]⟩,
  ⟨0x608000, 2, 2, 0x100000, 1024, 0x8, 0, [F.PP_STENCIL_CNT_COUNT]⟩]

/-- Registers of the Tbl unit (24). -/
def rTbl : List RegDef := [
  ⟨0x800000, 1, 1, 0x0, 1, 0x0, 0, [F.TBL_CTL_CNT_CLR, F.TBL_CTL_LEARN_B, F.TBL_CTL_LEARN_A]⟩,
  ⟨0x800004, 1, 1, 0x0, 1, 0x0, 0, [F.TBL_CMD_BUMP]⟩,
  ⟨0x800008, 1, 1, 0x0, 1, 0x0, 0, [F.TBL_EPOCH_EPOCH]⟩,
  ⟨0x80000c, 1, 1, 0x0, 1, 0x0, 0, [F.TBL_DRAIN_TARGET_TARGET]⟩,
  ⟨0x800010, 1, 1, 0x0, 1, 0x0, 0, [F.TBL_DRAIN_OLDEST]⟩,
  ⟨0x800014, 1, 1, 0x0, 1, 0x0, 0, [F.TBL_STAT_BUF_FULL_EVT, F.TBL_STAT_PARITY_EVT, F.TBL_STAT_INSERT_FAIL_EVT, F.TBL_STAT_DRAIN_DONE_EVT, F.TBL_STAT_LN_OVF_EVT, F.TBL_STAT_LN_EVT, F.TBL_STAT_BUMP_HELD, F.TBL_STAT_APPLYING]⟩,
  ⟨0x800018, 1, 1, 0x0, 1, 0x0, 0, [F.TBL_IRQ_EN_EN]⟩,
  ⟨0x80001c, 1, 1, 0x0, 1, 0x0, 0, [F.TBL_BUF_UNAPPLIED, F.TBL_BUF_PENDING]⟩,
  ⟨0x800020, 1, 1, 0x0, 1, 0x0, 0, [F.TBL_FDB_AGE_CFG_PERIOD_S]⟩,
  ⟨0x800024, 1, 2, 0x4, 1, 0x4, 0, [F.TBL_FDB_STAT_STASH, F.TBL_FDB_STAT_ENTRIES]⟩,
  ⟨0x800030, 2, 1, 0x0, 1, 0x0, 0, [F.TBL_ROUTER_MAC_ADDR]⟩,
  ⟨0x800038, 1, 1, 0x0, 1, 0x0, 0, [F.TBL_RT_CFG_MISS_TRAP, F.TBL_RT_CFG_TTL_TRAP, F.TBL_RT_CFG_CPU_QUEUE]⟩,
  ⟨0x800040, 3, 1, 0x0, 1, 0x0, 0, [F.TBL_NAT_PORT_OUTSIDE]⟩,
  ⟨0x800050, 2, 1, 0x0, 1, 0x0, 0, [F.TBL_OP_FAIL_PIPE, F.TBL_OP_FAIL_VID, F.TBL_OP_FAIL_MAC]⟩,
  ⟨0x800058, 1, 1, 0x0, 1, 0x0, 0, [F.TBL_PAR_LOG_TABLE_ID, F.TBL_PAR_LOG_INDEX]⟩,
  ⟨0x800060, 2, 1, 0x0, 1, 0x0, 0, [F.TBL_LN_BASE_ADDR]⟩,
  ⟨0x800068, 1, 1, 0x0, 1, 0x0, 0, [F.TBL_LN_CFG_EN, F.TBL_LN_CFG_TARGET, F.TBL_LN_CFG_SIZE_LOG2, F.TBL_LN_CFG_EVENTS]⟩,
  ⟨0x80006c, 1, 1, 0x0, 1, 0x0, 0, [F.TBL_LN_HEAD_HEAD]⟩,
  ⟨0x800070, 1, 1, 0x0, 1, 0x0, 0, [F.TBL_LN_TAIL_TAIL]⟩,
  ⟨0x800100, 1, 67, 0x4, 1, 0x4, 0, [F.TBL_PORT_LEARN_EN, F.TBL_PORT_LEARN_LIMIT]⟩,
  ⟨0x800200, 1, 67, 0x4, 1, 0x4, 0, [F.TBL_PORT_LCOUNT_COUNT]⟩,
  ⟨0x800300, 1, 67, 0x4, 1, 0x4, 0, [F.TBL_PORT_MIN_EPOCH_MIN]⟩,
  ⟨0x800800, 2, 18, 0x8, 1, 0x8, 0, [F.TBL_CNT_COUNT]⟩]

/-- Registers of the Sig unit (24). -/
def rSig : List RegDef := [
  ⟨0x801000, 1, 1, 0x0, 1, 0x0, 0, [F.SIG_CTL_CNT_CLR, F.SIG_CTL_MISS_Q, F.SIG_CTL_MISS_CPU, F.SIG_CTL_EN]⟩,
  ⟨0x801004, 1, 1, 0x0, 1, 0x0, 0, [F.SIG_STAT_RL_DROP_EVT, F.SIG_STAT_MISS_EVT, F.SIG_STAT_BAD_DEST_EVT]⟩,
  ⟨0x801008, 1, 1, 0x0, 1, 0x0, 0, [F.SIG_IRQ_EN_EN]⟩,
  ⟨0x80100c, 1, 1, 0x0, 1, 0x0, 0, [F.SIG_RT_STAT_STASH, F.SIG_RT_STAT_ENTRIES]⟩,
  ⟨0x801010, 2, 1, 0x0, 1, 0x0, 0, [F.SIG_OP_FAIL_LANE, F.SIG_OP_FAIL_KCLASS, F.SIG_OP_FAIL_KEY]⟩,
  ⟨0x801018, 2, 1, 0x0, 1, 0x0, 0, [F.SIG_P65_MAP_QUEUE]⟩,
  ⟨0x801020, 1, 1, 0x0, 1, 0x0, 0, [F.SIG_MVB_COPY_LANE]⟩,
  ⟨0x801400, 2, 256, 0x8, 1, 0x8, 0, [F.SIG_RL_TOKENS, F.SIG_RL_BURST, F.SIG_RL_PERIOD_US]⟩,
  ⟨0x801c00, 2, 9, 0x8, 1, 0x8, 0, [F.SIG_CNT_COUNT]⟩]

/-- Registers of the Red unit (24). -/
def rRed : List RegDef := [
  ⟨0x802000, 1, 4, 0x4, 1, 0x4, 0, [F.TBL_RED_PAIR_SEQ, F.TBL_RED_PAIR_MODE]⟩,
  ⟨0x802010, 1, 1, 0x0, 1, 0x0, 0, [F.TBL_DD_CFG_AGE_MS]⟩,
  ⟨0x802014, 1, 1, 0x0, 1, 0x0, 0, [F.TBL_PIN_GAP_GAP_US]⟩,
  ⟨0x802020, 1, 1, 0x0, 1, 0x0, 0, [F.TBL_RED_STAT_RED_CFG_EVT, F.TBL_RED_STAT_AGG_DOWN_EVT, F.TBL_RED_STAT_MOVE_EVT]⟩,
  ⟨0x802024, 1, 1, 0x0, 1, 0x0, 0, [F.TBL_RED_IRQ_EN_EN]⟩,
  ⟨0x802100, 3, 16, 0x10, 1, 0x10, 0, [F.TBL_AGG_CFG_EN, F.TBL_AGG_CFG_HASH_L3, F.TBL_AGG_CFG_N_M1, F.TBL_AGG_CFG_SEED, F.TBL_AGG_CFG_MEMBERS]⟩,
  ⟨0x802200, 1, 16, 0x4, 1, 0x4, 0, [F.TBL_AGG_STAT_MOVING, F.TBL_AGG_STAT_UP]⟩,
  ⟨0x802400, 2, 9, 0x8, 1, 0x8, 0, [F.TBL_RED_CNT_COUNT]⟩]

/-- Registers of the Que unit (24). -/
def rQue : List RegDef := [
  ⟨0x900000, 1, 1, 0x0, 1, 0x0, 0, [F.QUE_CTL_CNT_CLR, F.QUE_CTL_AUDIT]⟩,
  ⟨0x900004, 1, 1, 0x0, 1, 0x0, 0, [F.QUE_STAT_AUDIT_DONE_EVT, F.QUE_STAT_FIFO_ABORT_EVT, F.QUE_STAT_MIN_REFUSED_EVT, F.QUE_STAT_RSV_FULL_EVT, F.QUE_STAT_RSV_UNCORR_EVT, F.QUE_STAT_CELL_UNCORR_EVT, F.QUE_STAT_LINK_PARITY_EVT, F.QUE_STAT_AUDITING]⟩,
  ⟨0x900008, 1, 1, 0x0, 1, 0x0, 0, [F.QUE_IRQ_EN_EN]⟩,
  ⟨0x90000c, 1, 1, 0x0, 1, 0x0, 0, [F.QUE_FLUSH_GO, F.QUE_FLUSH_QUEUE]⟩,
  ⟨0x900010, 4, 2, 0x10, 1, 0x10, 0, [F.QUE_POOL_SIZE, F.QUE_POOL_FREE, F.QUE_POOL_MIN_SUM, F.QUE_POOL_UNUSED]⟩,
  ⟨0x900030, 2, 1, 0x0, 1, 0x0, 0, [F.QUE_RECIRC_DROP_COUNT]⟩,
  ⟨0x900100, 1, 64, 0x4, 1, 0x4, 0, [F.QUE_PORT_CFG_LINGERING, F.QUE_PORT_CFG_DOWN_DROP, F.QUE_PORT_CFG_STALE_FLUSH, F.QUE_PORT_CFG_PORT_LINGER]⟩,
  ⟨0x900400, 3, 40, 0x10, 1, 0x10, 0, [F.QUE_SCHED_STRICT, F.QUE_SCHED_CBS_EN, F.QUE_SCHED_WEIGHT]⟩,
  ⟨0x900800, 3, 320, 0x10, 1, 0x10, 0, [F.QUE_CBS_IDLE_SLOPE, F.QUE_CBS_CREDIT_HI, F.QUE_CBS_CREDIT]⟩,
  ⟨0x910000, 3, 768, 0x10, 1, 0x10, 0, [F.QUE_CFG_DEEP, F.QUE_CFG_ALPHA, F.QUE_CFG_MIN_CELLS, F.QUE_CFG_MARK_DEPTH, F.QUE_CFG_DROP_DEPTH]⟩,
  ⟨0x920000, 2, 768, 0x8, 1, 0x8, 0, [F.QUE_DEPTH_CELLS, F.QUE_DEPTH_BLOCKS]⟩,
  ⟨0x940000, 2, 768, 0x40, 8, 0x8, 0, [F.QUE_CNT_COUNT]⟩,
  ⟨0x904000, 1, 256, 0x20, 1, 0x20, 0, [F.QUE_FIFO_CFG_FRAMING, F.QUE_FIFO_CFG_DEEP, F.QUE_FIFO_CFG_CT_THRESHOLD]⟩,
  ⟨0x904004, 1, 256, 0x20, 1, 0x20, 0, [F.QUE_FIFO_PROD_OP, F.QUE_FIFO_PROD_FLAGS, F.QUE_FIFO_PROD_TRIM]⟩,
  ⟨0x904008, 1, 256, 0x20, 1, 0x20, 0, [F.QUE_FIFO_DATA_DATA]⟩,
  ⟨0x90400c, 1, 256, 0x20, 1, 0x20, 0, [F.QUE_FIFO_POP_POP]⟩,
  ⟨0x904010, 1, 256, 0x20, 1, 0x20, 0, [F.QUE_FIFO_FLUSH_FLUSH]⟩,
  ⟨0x904014, 1, 256, 0x20, 1, 0x20, 0, [F.QUE_FIFO_STAT_OPEN, F.QUE_FIFO_STAT_HEAD_VISIBLE, F.QUE_FIFO_STAT_IN_CONS, F.QUE_FIFO_STAT_LAST_PROD, F.QUE_FIFO_STAT_PACKETS, F.QUE_FIFO_STAT_HEAD_AVAIL]⟩,
  ⟨0x902000, 1, 1, 0x0, 1, 0x0, 0, [F.INK_STAT_FREE_CELLS]⟩,
  ⟨0x902004, 1, 1, 0x0, 1, 0x0, 0, [F.INK_SCRUB_CFG_PERIOD_MS]⟩,
  ⟨0x902008, 1, 1, 0x0, 1, 0x0, 0, [F.INK_ECC_LOG_UNCORR, F.INK_ECC_LOG_LINK, F.INK_ECC_LOG_ENTRY, F.INK_ECC_LOG_CELL]⟩,
  ⟨0x902010, 2, 4, 0x8, 1, 0x8, 0, [F.INK_CNT_COUNT]⟩,
  ⟨0x902100, 1, 1, 0x0, 1, 0x0, 0, [F.RSV_STAT_TRAINED, F.RSV_STAT_SELF_REFRESH, F.RSV_STAT_FOUND_MIB]⟩,
  ⟨0x902104, 1, 1, 0x0, 1, 0x0, 0, [F.RSV_CFG_SCRIBE_MIB, F.RSV_CFG_SIZE_MIB]⟩,
  ⟨0x902108, 2, 1, 0x0, 1, 0x0, 0, [F.RSV_BLOCKS_TOTAL, F.RSV_BLOCKS_FREE]⟩,
  ⟨0x902110, 2, 1, 0x0, 1, 0x0, 0, [F.RSV_ECC_LOG_UNCORR, F.RSV_ECC_LOG_UNIT, F.RSV_ECC_LOG_BLOCK, F.RSV_ECC_LOG_QUEUE]⟩,
  ⟨0x902118, 2, 6, 0x8, 1, 0x8, 0, [F.RSV_CNT_COUNT]⟩]

/-- Registers of the Nib unit (24). -/
def rNib : List RegDef := [
  ⟨0xa00000, 1, 10, 0x10000, 1, 0x10000, 0, [F.NIB_CTL_CNT_CLR, F.NIB_CTL_AUTO_RESTART, F.NIB_CTL_HALT, F.NIB_CTL_RUN]⟩,
  ⟨0xa00004, 1, 10, 0x10000, 1, 0x10000, 0, [F.NIB_STAT_PARITY_EVT, F.NIB_STAT_RESTART_EVT, F.NIB_STAT_EVQ_OVF_EVT, F.NIB_STAT_WDOG_EVT, F.NIB_STAT_HALT_EVT, F.NIB_STAT_ECC_EVT, F.NIB_STAT_IN_TRAP, F.NIB_STAT_STATE]⟩,
  ⟨0xa00008, 1, 10, 0x10000, 1, 0x10000, 0, [F.NIB_IRQ_EN_EN]⟩,
  ⟨0xa0000c, 1, 10, 0x10000, 1, 0x10000, 0, [F.NIB_ENTRY_ADDR]⟩,
  ⟨0xa00010, 1, 10, 0x10000, 1, 0x10000, 0, [F.NIB_PC_PC]⟩,
  ⟨0xa00014, 1, 10, 0x10000, 1, 0x10000, 0, [F.NIB_WDOG_WDOG_US]⟩,
  ⟨0xa00024, 1, 10, 0x10000, 1, 0x10000, 0, [F.NIB_RESTART_TOTAL, F.NIB_RESTART_WINDOW]⟩,
  ⟨0xa00028, 1, 10, 0x10000, 1, 0x10000, 0, [F.NIB_EVQ_PEAK, F.NIB_EVQ_DEPTH]⟩,
  ⟨0xa0002c, 1, 10, 0x10000, 1, 0x10000, 0, [F.NIB_DOORBELL_VALUE]⟩,
  ⟨0xa00030, 1, 10, 0x10000, 1, 0x10000, 0, [F.NIB_WIN_PAGE]⟩,
  ⟨0xa00040, 1, 10, 0x10000, 4, 0x4, 0, [F.NIB_TIMER_PERIODIC, F.NIB_TIMER_ARMED, F.NIB_TIMER_PERIOD_US]⟩,
  ⟨0xa00100, 2, 10, 0x10000, 9, 0x8, 0, [F.NIB_CNT_COUNT]⟩,
  ⟨0xaa0100, 1, 256, 0x4, 1, 0x4, 0, [F.NIB_FSUB_PROD_EN, F.NIB_FSUB_CONS_EN, F.NIB_FSUB_PROD_ENGINE, F.NIB_FSUB_CONS_ENGINE]⟩,
  ⟨0xaa0600, 1, 1, 0x0, 1, 0x0, 0, [F.NIB_SS_PAGE_PAGE]⟩,
  ⟨0xaa0604, 1, 1, 0x0, 1, 0x0, 0, [F.NIB_SS_ECC_LOG_UNCORR, F.NIB_SS_ECC_LOG_WORD]⟩,
  ⟨0xaa0608, 1, 1, 0x0, 1, 0x0, 0, [F.NIB_SS_SCRUB_PERIOD_MS]⟩,
  ⟨0xa00018, 1, 10, 0x10000, 1, 0x10000, 0, [F.NIB_FAULT_CAUSE_VALUE]⟩,
  ⟨0xa0001c, 1, 10, 0x10000, 1, 0x10000, 0, [F.NIB_FAULT_EPC_VALUE]⟩,
  ⟨0xa00020, 1, 10, 0x10000, 1, 0x10000, 0, [F.NIB_FAULT_TVAL_VALUE]⟩,
  ⟨0xaa0000, 1, 64, 0x4, 1, 0x4, 0, [F.NIB_QSUB_EN, F.NIB_QSUB_ENGINE]⟩,
  ⟨0xaa0500, 1, 24, 0x4, 1, 0x4, 0, [F.NIB_MVB_SUB_EN, F.NIB_MVB_SUB_ENGINE]⟩]

/-- Registers of the Rul unit (24). -/
def rRul : List RegDef := [
  ⟨0xb00000, 1, 8, 0x1000, 1, 0x1000, 0, [F.RUL_CTL_ROLE, F.RUL_CTL_DOMAIN, F.RUL_CTL_RUN]⟩,
  ⟨0xb00030, 2, 8, 0x1000, 1, 0x1000, 0, [F.RUL_ADJ_ADJ]⟩,
  ⟨0xb00038, 2, 8, 0x1000, 1, 0x1000, 0, [F.RUL_OFFSET_OFFSET]⟩,
  ⟨0xb00040, 1, 8, 0x1000, 1, 0x1000, 0, [F.RUL_SLEW_SLEW_US]⟩,
  ⟨0xb00044, 1, 8, 0x1000, 1, 0x1000, 0, [F.RUL_CMD_OP]⟩,
  ⟨0xb00048, 1, 8, 0x1000, 1, 0x1000, 0, [F.RUL_JUMP_LIMIT_LIMIT_NS]⟩,
  ⟨0xb0004c, 1, 8, 0x1000, 1, 0x1000, 0, [F.RUL_STAT_GUARD_EVT, F.RUL_STAT_SLEW_DONE_EVT, F.RUL_STAT_STEP_EVT, F.RUL_STAT_FAULT_EVT, F.RUL_STAT_LAST_REFUSE, F.RUL_STAT_SLEWING, F.RUL_STAT_GUARDED, F.RUL_STAT_RUNNING]⟩,
  ⟨0xb00050, 1, 8, 0x1000, 1, 0x1000, 0, [F.RUL_IRQ_EN_EN]⟩,
  ⟨0xb00054, 1, 8, 0x1000, 1, 0x1000, 0, [F.RUL_GUARD_LOG_JUMP_NS]⟩,
  ⟨0xb08000, 1, 1, 0x0, 1, 0x0, 0, [F.RUL_TC_CFG_EN, F.RUL_TC_CFG_T0_FALLBACK, F.RUL_TC_CFG_CPU_Q]⟩,
  ⟨0xb08004, 1, 1, 0x0, 1, 0x0, 0, [F.RUL_TS_CFG_HOLD_MS]⟩,
  ⟨0xb08008, 1, 1, 0x0, 1, 0x0, 0, [F.RUL_TS_STAT_PPS_IN_EVT, F.RUL_TS_STAT_ECC_EVT, F.RUL_TS_STAT_TXQ_OVF_EVT, F.RUL_TS_STAT_NOREC_EVT, F.RUL_TS_STAT_FREE]⟩,
  ⟨0xb0800c, 1, 1, 0x0, 1, 0x0, 0, [F.RUL_TS_IRQ_EN_EN]⟩,
  ⟨0xb08040, 2, 2, 0x8, 1, 0x8, 0, [F.RUL_PPS_OUT_EN, F.RUL_PPS_OUT_POL, F.RUL_PPS_OUT_RULER, F.RUL_PPS_OUT_WIDTH_10US, F.RUL_PPS_OUT_OFFSET_NS]⟩,
  ⟨0xb08060, 2, 2, 0x8, 1, 0x8, 0, [F.RUL_PPS_IN_EN, F.RUL_PPS_IN_EDGE, F.RUL_PPS_IN_MASK, F.RUL_PPS_IN_COUNT, F.RUL_PPS_IN_REC]⟩,
  ⟨0xb08100, 2, 7, 0x8, 1, 0x8, 0, [F.RUL_CNT_COUNT]⟩,
  ⟨0xb09000, 3, 64, 0x10, 1, 0x10, 0, [F.RUL_PORT_CFG_RX_TRIM, F.RUL_PORT_CFG_TX_TRIM, F.RUL_PORT_CFG_LINK_DELAY, F.RUL_PORT_CFG_TC_MODE, F.RUL_PORT_CFG_TS_ALL, F.RUL_PORT_CFG_TX_TS]⟩,
  ⟨0xb00010, 3, 8, 0x1000, 1, 0x1000, 0, [F.RUL_TIME_SEC, F.RUL_TIME_NS, F.RUL_TIME_FRAC]⟩,
  ⟨0xb00020, 3, 8, 0x1000, 1, 0x1000, 0, [F.RUL_SET_SEC, F.RUL_SET_NS, F.RUL_SET_FRAC]⟩,
  ⟨0xb08010, 1, 1, 0x0, 1, 0x0, 0, [F.RUL_TXQ_HEAD_HEAD]⟩,
  ⟨0xb08014, 1, 1, 0x0, 1, 0x0, 0, [F.RUL_TXQ_TAIL_TAIL]⟩]

/-- Registers of the Key unit (24). -/
def rKey : List RegDef := [
  ⟨0xc00000, 1, 1, 0x0, 1, 0x0, 0, [F.KEY_CTL_CNT_CLR, F.KEY_CTL_REMASK_LOG2]⟩,
  ⟨0xc00004, 1, 1, 0x0, 1, 0x0, 0, [F.KEY_CMD_SRC_SLOT, F.KEY_CMD_SLOT, F.KEY_CMD_OP]⟩,
  ⟨0xc00008, 1, 1, 0x0, 1, 0x0, 0, [F.KEY_STAT_TRNG_FAIL_EVT, F.KEY_STAT_TAMPER_EVT, F.KEY_STAT_EXHAUST_EVT, F.KEY_STAT_REFUSED_EVT, F.KEY_STAT_DONE_EVT, F.KEY_STAT_LAST_ERR, F.KEY_STAT_PRODUCTION, F.KEY_STAT_DEBUG_LOCKED, F.KEY_STAT_ZEROISED, F.KEY_STAT_TAMPER_FLAG, F.KEY_STAT_UNSEALED, F.KEY_STAT_BUSY]⟩,
  ⟨0xc0000c, 1, 1, 0x0, 1, 0x0, 0, [F.KEY_IRQ_EN_EN]⟩,
  ⟨0xc00010, 1, 1, 0x0, 1, 0x0, 0, [F.KEY_KUC_H, F.KEY_KUC_COUNTER]⟩,
  ⟨0xc00014, 1, 1, 0x0, 1, 0x0, 0, [F.KEY_TAMPER_LOG_TEMP, F.KEY_TAMPER_LOG_CLOCK, F.KEY_TAMPER_LOG_VOLT, F.KEY_TAMPER_LOG_TAMP1, F.KEY_TAMPER_LOG_TAMP0]⟩,
  ⟨0xc00018, 1, 1, 0x0, 1, 0x0, 0, [F.KEY_RNG_VALUE]⟩,
  ⟨0xc00020, 4, 1, 0x0, 1, 0x0, 0, [F.KEY_ATTR_TYPE, F.KEY_ATTR_ORIGIN, F.KEY_ATTR_USES, F.KEY_ATTR_CKPT_LOG2, F.KEY_ATTR_LIMIT]⟩,
  ⟨0xc00100, 1, 24, 0x4, 1, 0x4, 0, [F.KEY_IDPUB_BYTES]⟩,
  ⟨0xc01000, 8, 256, 0x20, 1, 0x20, 0, [F.KEY_SLOT_ATTR, F.KEY_SLOT_COUNT, F.KEY_SLOT_REC_COUNTER, F.KEY_SLOT_GEN, F.KEY_SLOT_STATE]⟩,
  ⟨0xc03400, 2, 8, 0x8, 1, 0x8, 0, [F.KEY_CNT_COUNT]⟩,
  ⟨0xc00040, 1, 8, 0x4, 1, 0x4, 0, [F.KEY_NONCE_BYTES]⟩,
  ⟨0xc00060, 1, 8, 0x4, 1, 0x4, 0, [F.KEY_LABEL_BYTES]⟩,
  ⟨0xc00200, 1, 4, 0x80, 1, 0x80, 0, [F.KEY_FLEET_KEY_ID]⟩,
  ⟨0xc00204, 1, 4, 0x80, 1, 0x80, 0, [F.KEY_FLEET_REVOKED]⟩,
  ⟨0xc00208, 24, 4, 0x80, 1, 0x80, 0, [F.KEY_FLEET_PUBKEY]⟩]

/-- Registers of the Cip unit (24). -/
def rCip : List RegDef := [
  ⟨0xc80000, 1, 1, 0x0, 1, 0x0, 0, [F.CIP_CTL_CNT_CLR, F.CIP_CTL_EAPOL_Q]⟩,
  ⟨0xc80004, 1, 1, 0x0, 1, 0x0, 0, [F.CIP_STAT_UNIT_FAULT_EVT, F.CIP_STAT_RESYNC_EVT, F.CIP_STAT_SEAL_FAIL_EVT, F.CIP_STAT_TX_BLOCK_EVT, F.CIP_STAT_LA_DONE_EVT]⟩,
  ⟨0xc80008, 1, 1, 0x0, 1, 0x0, 0, [F.CIP_IRQ_EN_EN]⟩,
  ⟨0xc8000c, 1, 1, 0x0, 1, 0x0, 0, [F.CIP_SCA_DUMMY_MAX, F.CIP_SCA_SHUFFLE, F.CIP_SCA_DUMMY]⟩,
  ⟨0xc80010, 1, 1, 0x0, 1, 0x0, 0, [F.CIP_LA_CMD_SLOT, F.CIP_LA_CMD_FLEET, F.CIP_LA_CMD_TAGLEN, F.CIP_LA_CMD_OP]⟩,
  ⟨0xc80014, 1, 1, 0x0, 1, 0x0, 0, [F.CIP_LA_LEN_AAD_LEN, F.CIP_LA_LEN_TEXT_LEN]⟩,
  ⟨0xc80018, 1, 1, 0x0, 1, 0x0, 0, [F.CIP_LA_STAT_BUSY, F.CIP_LA_STAT_RESULT]⟩,
  ⟨0xc84000, 2, 40, 0x80, 10, 0x8, 0, [F.CIP_PORT_CNT_COUNT]⟩,
  ⟨0xc83800, 2, 7, 0x8, 1, 0x8, 0, [F.CIP_SEAL_CNT_COUNT]⟩,
  ⟨0xc81000, 1, 40, 0x20, 1, 0x20, 0, [F.CIP_PORT_TX_PROTECT, F.CIP_PORT_RX_EN, F.CIP_PORT_ENCRYPT, F.CIP_PORT_INCLUDE_SCI, F.CIP_PORT_ES, F.CIP_PORT_SCB, F.CIP_PORT_VALIDATE, F.CIP_PORT_REPLAY_PROTECT, F.CIP_PORT_CONF_OFFSET, F.CIP_PORT_SUITE, F.CIP_PORT_TX_AN]⟩,
  ⟨0xc81004, 2, 40, 0x20, 1, 0x20, 0, [F.CIP_PORT_SCI]⟩,
  ⟨0xc8100c, 2, 40, 0x20, 1, 0x20, 0, [F.CIP_PORT_PEER_SCI]⟩,
  ⟨0xc81014, 1, 40, 0x20, 1, 0x20, 0, [F.CIP_PORT_REPLAY_WIN]⟩,
  ⟨0xc82000, 1, 160, 0x20, 1, 0x20, 0, [F.CIP_TXSA_VALID, F.CIP_TXSA_SLOT]⟩,
  ⟨0xc82004, 2, 160, 0x20, 1, 0x20, 0, [F.CIP_TXSA_PN]⟩,
  ⟨0xc8200c, 1, 160, 0x20, 1, 0x20, 0, [F.CIP_TXSA_SSCI]⟩,
  ⟨0xc82010, 3, 160, 0x20, 1, 0x20, 0, [F.CIP_TXSA_SALT]⟩,
  ⟨0xc90000, 1, 192, 0x100, 1, 0x100, 0, [F.CIP_RXSC_VALID, F.CIP_RXSC_PORT]⟩,
  ⟨0xc90004, 2, 192, 0x100, 1, 0x100, 0, [F.CIP_RXSC_SCI]⟩,
  ⟨0xc90020, 1, 192, 0x100, 4, 0x20, 0, [F.CIP_RXSA_VALID, F.CIP_RXSA_SLOT]⟩,
  ⟨0xc90024, 2, 192, 0x100, 4, 0x20, 0, [F.CIP_RXSA_PN]⟩,
  ⟨0xc9002c, 1, 192, 0x100, 4, 0x20, 0, [F.CIP_RXSA_SSCI]⟩,
  ⟨0xc90030, 3, 192, 0x100, 4, 0x20, 0, [F.CIP_RXSA_SALT]⟩,
  ⟨0xc88000, 1, 1024, 0x20, 1, 0x20, 0, [F.CIP_SEAL_VALID, F.CIP_SEAL_DIR, F.CIP_SEAL_HOLD, F.CIP_SEAL_LANE, F.CIP_SEAL_KCLASS, F.CIP_SEAL_FV_LEN_M1, F.CIP_SEAL_MAC_LEN_M1, F.CIP_SEAL_SLOT, F.CIP_SEAL_PASS_FAIL]⟩,
  ⟨0xc88004, 1, 1024, 0x20, 1, 0x20, 0, [F.CIP_SEAL_KEY]⟩,
  ⟨0xc88008, 1, 1024, 0x20, 1, 0x20, 0, [F.CIP_SEAL_DATA_ID]⟩,
  ⟨0xc8800c, 1, 1024, 0x20, 1, 0x20, 0, [F.CIP_SEAL_WINDOW, F.CIP_SEAL_PLEN]⟩,
  ⟨0xc88010, 2, 1024, 0x20, 1, 0x20, 0, [F.CIP_SEAL_LAST]⟩,
  ⟨0xc88018, 1, 1024, 0x20, 1, 0x20, 0, [F.CIP_SEAL_FAIL_RUN]⟩]

/-- Registers of the Dma unit (24). -/
def rDma : List RegDef := [
  ⟨0xd00000, 1, 1, 0x0, 1, 0x0, 0, [F.DMA_CTL_CNT_CLR, F.DMA_CTL_CPL_TO_US]⟩,
  ⟨0xd00004, 1, 1, 0x0, 1, 0x0, 0, [F.DMA_PCIE_STAT_BME, F.DMA_PCIE_STAT_DSTATE, F.DMA_PCIE_STAT_WIDTH, F.DMA_PCIE_STAT_SPEED, F.DMA_PCIE_STAT_LINK_UP]⟩,
  ⟨0xd00020, 2, 1, 0x0, 1, 0x0, 0, [F.DMA_VEC_REARM_VEC]⟩,
  ⟨0xd00100, 1, 96, 0x4, 1, 0x4, 0, [F.DMA_HVEC_EN, F.DMA_HVEC_VECTOR]⟩,
  ⟨0xd01000, 2, 64, 0x40, 1, 0x40, 0, [F.DMA_RING_BASE_ADDR]⟩,
  ⟨0xd01008, 1, 64, 0x40, 1, 0x40, 0, [F.DMA_RING_CFG_EN, F.DMA_RING_CFG_TARGET, F.DMA_RING_CFG_RX_HOLD, F.DMA_RING_CFG_KEEP_FCS, F.DMA_RING_CFG_SIZE_LOG2]⟩,
  ⟨0xd01014, 1, 64, 0x40, 1, 0x40, 0, [F.DMA_RING_STAT_NOBUF_EVT, F.DMA_RING_STAT_HOLD_EVT, F.DMA_RING_STAT_ERR_EVT, F.DMA_RING_STAT_COMPL_EVT, F.DMA_RING_STAT_HOLDING, F.DMA_RING_STAT_STOPPED]⟩,
  ⟨0xd01018, 1, 64, 0x40, 1, 0x40, 0, [F.DMA_RING_IRQ_EN, F.DMA_RING_IRQ_COAL_US, F.DMA_RING_IRQ_COAL_CNT]⟩,
  ⟨0xd0101c, 1, 64, 0x40, 1, 0x40, 0, [F.DMA_RING_HOLD_HOLD_NS]⟩,
  ⟨0xd01020, 1, 64, 0x40, 1, 0x40, 0, [F.DMA_RING_CMD_RESTART]⟩,
  ⟨0xd04000, 2, 64, 0x40, 7, 0x8, 0, [F.DMA_RING_CNT_COUNT]⟩,
  ⟨0xd00010, 1, 1, 0x0, 1, 0x0, 0, [F.DMA_RX_CAUSE_RING]⟩,
  ⟨0xd00014, 1, 1, 0x0, 1, 0x0, 0, [F.DMA_RX_CAUSE_SNAP_RING]⟩,
  ⟨0xd00018, 1, 1, 0x0, 1, 0x0, 0, [F.DMA_TX_CAUSE_RING]⟩,
  ⟨0xd0001c, 1, 1, 0x0, 1, 0x0, 0, [F.DMA_TX_CAUSE_SNAP_RING]⟩,
  ⟨0xd0100c, 1, 64, 0x40, 1, 0x40, 0, [F.DMA_RING_HEAD_HEAD]⟩,
  ⟨0xd01010, 1, 64, 0x40, 1, 0x40, 0, [F.DMA_RING_TAIL_TAIL]⟩]

/-- Registers of the Brg unit (24). -/
def rBrg : List RegDef := [
  ⟨0xd80000, 1, 1, 0x0, 1, 0x0, 0, [F.BRG_CTL_CNT_CLR, F.BRG_CTL_EN, F.BRG_CTL_CLASS, F.BRG_CTL_MY_DEV, F.BRG_CTL_VID]⟩,
  ⟨0xd80004, 1, 1, 0x0, 1, 0x0, 0, [F.BRG_ETYPE_ETYPE]⟩,
  ⟨0xd80008, 2, 1, 0x0, 1, 0x0, 0, [F.BRG_MAC_PREFIX_PREFIX]⟩,
  ⟨0xd80010, 1, 1, 0x0, 1, 0x0, 0, [F.BRG_TO_WR_US, F.BRG_TO_RD_US]⟩,
  ⟨0xd80014, 1, 1, 0x0, 1, 0x0, 0, [F.BRG_RETRY_RETRY_MAX, F.BRG_RETRY_BACKOFF_US]⟩,
  ⟨0xd80018, 1, 1, 0x0, 1, 0x0, 0, [F.BRG_POLL_PERIOD_PERIOD_US]⟩,
  ⟨0xd8001c, 1, 1, 0x0, 1, 0x0, 0, [F.BRG_STAT_LATE_EVT, F.BRG_STAT_WATCH_EVT, F.BRG_STAT_UNREACH_EVT, F.BRG_STAT_WERR_EVT, F.BRG_STAT_INIT_OUT, F.BRG_STAT_RESP_OUT]⟩,
  ⟨0xd80020, 1, 1, 0x0, 1, 0x0, 0, [F.BRG_IRQ_EN_EN]⟩,
  ⟨0xd80024, 1, 1, 0x0, 1, 0x0, 0, [F.BRG_RESP_CFG_RESP_EN, F.BRG_RESP_CFG_REQUIRE_SECURE]⟩,
  ⟨0xd80028, 2, 1, 0x0, 1, 0x0, 0, [F.BRG_RESP_PORTS_PORTS]⟩,
  ⟨0xd80100, 1, 64, 0x4, 1, 0x4, 0, [F.BRG_APT_EN, F.BRG_APT_POISON, F.BRG_APT_BASE, F.BRG_APT_DEV]⟩,
  ⟨0xd80400, 2, 1, 0x0, 1, 0x0, 0, [F.BRG_WATCH_CHG_CHG]⟩,
  ⟨0xd80800, 2, 20, 0x8, 1, 0x8, 0, [F.BRG_CNT_COUNT]⟩,
  ⟨0xd80030, 1, 1, 0x0, 1, 0x0, 0, [F.BRG_WERR_VALID, F.BRG_WERR_INIT, F.BRG_WERR_STATUS, F.BRG_WERR_DEV]⟩,
  ⟨0xd80034, 1, 1, 0x0, 1, 0x0, 0, [F.BRG_WERR_ADDR]⟩,
  ⟨0xd80038, 1, 1, 0x0, 1, 0x0, 0, [F.BRG_WERR_DATA]⟩,
  ⟨0xd80040, 1, 1, 0x0, 1, 0x0, 0, [F.BRG_LATE_DATA_VALID, F.BRG_LATE_DATA_OVERWRITTEN, F.BRG_LATE_DATA_INIT, F.BRG_LATE_DATA_STATUS, F.BRG_LATE_DATA_DEV]⟩,
  ⟨0xd80044, 1, 1, 0x0, 1, 0x0, 0, [F.BRG_LATE_DATA_ADDR]⟩,
  ⟨0xd80048, 1, 1, 0x0, 1, 0x0, 0, [F.BRG_LATE_DATA_DATA]⟩,
  ⟨0xd80200, 1, 64, 0x8, 1, 0x8, 0, [F.BRG_WATCH_EN, F.BRG_WATCH_UNREACH, F.BRG_WATCH_DEV]⟩,
  ⟨0xd80204, 1, 64, 0x8, 1, 0x8, 0, [F.BRG_WATCH_SUMMARY]⟩]

/-- Registers of the Nsl unit (24). -/
def rNsl : List RegDef := [
  ⟨0xe00000, 1, 1, 0x0, 1, 0x0, 0, [F.NSL_CTL_CNT_CLR, F.NSL_CTL_EN]⟩,
  ⟨0xe00004, 1, 1, 0x0, 1, 0x0, 0, [F.NSL_STAT_ALL_ASLEEP_EVT, F.NSL_STAT_NODE_FULL_EVT, F.NSL_STAT_OFFENDER_EVT, F.NSL_STAT_NET_WAKE_EVT, F.NSL_STAT_NET_SLEEP_EVT, F.NSL_STAT_ASLEEP]⟩,
  ⟨0xe00008, 1, 1, 0x0, 1, 0x0, 0, [F.NSL_IRQ_EN_EN]⟩,
  ⟨0xe0000c, 1, 1, 0x0, 1, 0x0, 0, [F.NSL_ETYPE_ETYPE]⟩,
  ⟨0xe00010, 1, 1, 0x0, 1, 0x0, 0, [F.NSL_LOG_HEAD_WRAPPED, F.NSL_LOG_HEAD_HEAD]⟩,
  ⟨0xe00400, 1, 32, 0x4, 1, 0x4, 0, [F.NSL_EXEMPT_EN, F.NSL_EXEMPT_NET, F.NSL_EXEMPT_NODE]⟩,
  ⟨0xe00800, 2, 7, 0x8, 1, 0x8, 0, [F.NSL_CNT_COUNT]⟩,
  ⟨0xe8f000, 2, 1, 0x0, 1, 0x0, 0, [F.AOC_WAKE_SRC_SEC, F.AOC_WAKE_SRC_VALID, F.AOC_WAKE_SRC_MORE, F.AOC_WAKE_SRC_CODE, F.AOC_WAKE_SRC_INDEX, F.AOC_WAKE_SRC_SUB]⟩,
  ⟨0xe8f008, 1, 1, 0x0, 1, 0x0, 0, [F.AOC_WAKE_PEND_CODE]⟩,
  ⟨0xe8f00c, 1, 1, 0x0, 1, 0x0, 0, [F.AOC_WAKE_EN_TAMPER, F.AOC_WAKE_EN_RTC, F.AOC_WAKE_EN_WAKE_IN]⟩,
  ⟨0xe8f010, 1, 1, 0x0, 1, 0x0, 0, [F.AOC_WAKE_IN_CFG_FILT_MS, F.AOC_WAKE_IN_CFG_POL]⟩,
  ⟨0xe8f018, 1, 1, 0x0, 1, 0x0, 0, [F.AOC_RTC_SEC]⟩,
  ⟨0xe8f01c, 1, 1, 0x0, 1, 0x0, 0, [F.AOC_RTC_ALARM_SEC]⟩,
  ⟨0xe00100, 2, 16, 0x20, 1, 0x20, 0, [F.NSL_NET_MEMBERS]⟩,
  ⟨0xe00108, 1, 16, 0x20, 1, 0x20, 0, [F.NSL_NET_EN, F.NSL_NET_KIND, F.NSL_NET_ENFORCE, F.NSL_NET_LOCAL_NEED, F.NSL_NET_MY_NODE, F.NSL_NET_WAKE_IN, F.NSL_NET_LOCAL_FLAGS]⟩,
  ⟨0xe0010c, 1, 16, 0x20, 1, 0x20, 0, [F.NSL_NET_MAX_AWAKE_S, F.NSL_NET_ID_BASE]⟩,
  ⟨0xe00110, 1, 16, 0x20, 1, 0x20, 0, [F.NSL_NET_T_QUIET_MS, F.NSL_NET_T_PRES_MS]⟩,
  ⟨0xe00114, 1, 16, 0x20, 1, 0x20, 0, [F.NSL_NET_HOLD_MS, F.NSL_NET_T_WAIT_MS]⟩,
  ⟨0xe00118, 1, 16, 0x20, 1, 0x20, 0, [F.NSL_NET_NEEDERS, F.NSL_NET_WAKE_IDX, F.NSL_NET_WAKE_CODE, F.NSL_NET_HOLDING, F.NSL_NET_STATE]⟩,
  ⟨0xe00500, 1, 32, 0x10, 1, 0x10, 0, [F.NSL_LOG_VALID, F.NSL_LOG_ENFORCED, F.NSL_LOG_NET, F.NSL_LOG_NODE, F.NSL_LOG_FLAGS, F.NSL_LOG_PORT]⟩,
  ⟨0xe00504, 1, 32, 0x10, 1, 0x10, 0, [F.NSL_LOG_DURATION_S]⟩,
  ⟨0xe00508, 1, 32, 0x10, 1, 0x10, 0, [F.NSL_LOG_T0_SEC]⟩,
  ⟨0xe01000, 1, 256, 0x10, 1, 0x10, 0, [F.NSL_NODE_VALID, F.NSL_NODE_NEED, F.NSL_NODE_CAPPED, F.NSL_NODE_EXEMPT, F.NSL_NODE_NET, F.NSL_NODE_NODE, F.NSL_NODE_FLAGS, F.NSL_NODE_PORT]⟩,
  ⟨0xe01004, 1, 256, 0x10, 1, 0x10, 0, [F.NSL_NODE_NEED_S]⟩,
  ⟨0xe01008, 1, 256, 0x10, 1, 0x10, 0, [F.NSL_NODE_LAST_MS]⟩]

/-- Registers of the Lc unit (24). -/
def rLc : List RegDef := [
  ⟨0xe80000, 1, 1, 0x0, 1, 0x0, 0, [F.LC_GLB_STAT_CFG_DEFERRED, F.LC_GLB_STAT_ABSENT_SEEN, F.LC_GLB_STAT_CFG_VALID]⟩,
  ⟨0xe80004, 1, 1, 0x0, 1, 0x0, 0, [F.LC_ON_ON]⟩,
  ⟨0xe80008, 1, 1, 0x0, 1, 0x0, 0, [F.LC_OFF_OFF]⟩,
  ⟨0xe8000c, 1, 1, 0x0, 1, 0x0, 0, [F.LC_CMD_CMD]⟩,
  ⟨0xe80010, 1, 1, 0x0, 1, 0x0, 0, [F.LC_CLR_CLR]⟩,
  ⟨0xe80014, 1, 1, 0x0, 1, 0x0, 0, [F.LC_EVT_CH]⟩,
  ⟨0xe80018, 1, 1, 0x0, 1, 0x0, 0, [F.LC_IRQ_EN_EN]⟩,
  ⟨0xe80020, 1, 4, 0x4, 1, 0x4, 0, [F.LC_BANK_VLD_MV, F.LC_BANK_INRUSH]⟩,
  ⟨0xe80030, 1, 4, 0x4, 1, 0x4, 0, [F.LC_VLD_DIP_DIP_MV]⟩,
  ⟨0xe80040, 1, 12, 0x4, 1, 0x4, 0, [F.LC_CFG_DIGEST_DIGEST]⟩,
  ⟨0xe80100, 1, 24, 0x40, 1, 0x40, 0, [F.LC_CH_CFG_PRESENT, F.LC_CH_CFG_PENDING, F.LC_CH_CFG_XSECT, F.LC_CH_CFG_PROFILE, F.LC_CH_CFG_RETRY_N, F.LC_CH_CFG_P0_MS]⟩,
  ⟨0xe80104, 1, 24, 0x40, 1, 0x40, 0, [F.LC_CH_LIM_WIRE_MOHM, F.LC_CH_LIM_ELIM_MJ]⟩,
  ⟨0xe80108, 1, 24, 0x40, 1, 0x40, 0, [F.LC_CH_BOARD_I_RATED_MA, F.LC_CH_BOARD_SC_DA]⟩,
  ⟨0xe8010c, 1, 24, 0x40, 1, 0x40, 0, [F.LC_CH_SENSE_SHUNT_UOHM, F.LC_CH_SENSE_OPEN_MA]⟩,
  ⟨0xe80110, 1, 24, 0x40, 1, 0x40, 0, [F.LC_CH_STAT_REFUSED_EVT, F.LC_CH_STAT_OPEN_EVT, F.LC_CH_STAT_LATCH_EVT, F.LC_CH_STAT_FAULT_EVT, F.LC_CH_STAT_LAST_FAULT, F.LC_CH_STAT_FAULT_CNT, F.LC_CH_STAT_SHORT_BAT, F.LC_CH_STAT_OPEN_OFF, F.LC_CH_STAT_OPEN_ON, F.LC_CH_STAT_STATE]⟩,
  ⟨0xe80114, 1, 24, 0x40, 1, 0x40, 0, [F.LC_CH_MEAS_PEAK_10MA, F.LC_CH_MEAS_I_10MA]⟩,
  ⟨0xe80118, 1, 24, 0x40, 1, 0x40, 0, [F.LC_CH_WIRE_LT_10UJ, F.LC_CH_WIRE_Q_PERMILLE]⟩,
  ⟨0xe80120, 2, 24, 0x40, 4, 0x8, 0, [F.LC_CH_CNT_COUNT]⟩]

/-- Registers of the Upd unit (24). -/
def rUpd : List RegDef := [
  ⟨0xf00000, 1, 1, 0x0, 1, 0x0, 0, [F.UPD_STAT_CONFIRM_DUE_EVT, F.UPD_STAT_REFUSED_EVT, F.UPD_STAT_DONE_EVT, F.UPD_STAT_LAST_ERR, F.UPD_STAT_ACTIVE_BANK, F.UPD_STAT_TOMBSTONED, F.UPD_STAT_AUTHED, F.UPD_STAT_CONFIRM_PENDING, F.UPD_STAT_READY, F.UPD_STAT_BUSY]⟩,
  ⟨0xf00004, 1, 1, 0x0, 1, 0x0, 0, [F.UPD_IRQ_EN_EN]⟩,
  ⟨0xf00008, 1, 1, 0x0, 1, 0x0, 0, [F.UPD_CMD_RESTART, F.UPD_CMD_INDEX, F.UPD_CMD_OP]⟩,
  ⟨0xf0000c, 1, 1, 0x0, 1, 0x0, 0, [F.UPD_LEN_LEN]⟩,
  ⟨0xf00010, 1, 1, 0x0, 1, 0x0, 0, [F.UPD_PROGRESS_PRESENT, F.UPD_PROGRESS_TOTAL]⟩,
  ⟨0xf00014, 1, 1, 0x0, 1, 0x0, 0, [F.UPD_BAD_SHEET_INDEX]⟩,
  ⟨0xf00024, 1, 1, 0x0, 1, 0x0, 0, [F.UPD_CONFIRM_CFG_REMAIN_S, F.UPD_CONFIRM_CFG_TIMEOUT_S]⟩,
  ⟨0xf00018, 1, 1, 0x0, 1, 0x0, 0, [F.UPD_ACTIVE_VER_VALUE]⟩,
  ⟨0xf0001c, 1, 1, 0x0, 1, 0x0, 0, [F.UPD_STAGED_VER_VALUE]⟩,
  ⟨0xf00020, 1, 1, 0x0, 1, 0x0, 0, [F.UPD_COMMIT_SEQ_VALUE]⟩,
  ⟨0xf00040, 1, 4, 0x4, 1, 0x4, 0, [F.UPD_NONCE_BYTES]⟩,
  ⟨0xf00060, 1, 4, 0x4, 1, 0x4, 0, [F.UPD_TOMB_BYTES]⟩]

end RegMap

end Sys2Proof.Machine
end

