-- ==== Sys2Proof/Machine/RegBank.lean ====
section
/-! DEFINITION. The register bank (spec 00 R4 to R8, 24 R445): which register words an offset names, the value that the fields of a
register spell, held and latched upper words, and what a write stores by the fields' types. -/
namespace Sys2Proof.Machine

/-- The registers whose block's region holds offset `a` (01 R17). -/
def unitRegs (a : Nat) : List RegDef :=
  if a < 0x100000 then RegMap.rGlb
  else if a < 0x200000 then RegMap.rScr
  else if a < 0x300000 then RegMap.rPwr
  else if a < 0x400000 then RegMap.rBlt
  else if a < 0x500000 then RegMap.rEth
  else if a < 0x600000 then RegMap.rLane
  else if a < 0x800000 then RegMap.rPp
  else if a < 0x801000 then RegMap.rTbl
  else if a < 0x802000 then RegMap.rSig
  else if a < 0x900000 then RegMap.rRed
  else if a < 0xA00000 then RegMap.rQue
  else if a < 0xB00000 then RegMap.rNib
  else if a < 0xC00000 then RegMap.rRul
  else if a < 0xC80000 then RegMap.rKey
  else if a < 0xD00000 then RegMap.rCip
  else if a < 0xD80000 then RegMap.rDma
  else if a < 0xE00000 then RegMap.rBrg
  else if a < 0xE80000 then RegMap.rNsl
  else if a < 0xF00000 then RegMap.rLc ++ RegMap.rNsl ++ RegMap.rBlt
  else if a < 0x1000000 then RegMap.rUpd
  else []

/-- The personality registers of the lane that offset `a` lies in: those of its personality (24, 05 R124). -/
def State.laneRegs (s : State) (a : Nat) : List RegDef :=
  if 0x500000 ≤ a ∧ a < 0x518000 then
    match s.pers ((a - 0x500000) / 0x1000) with
    | 1 => RegMap.rCan
    | 2 => RegMap.rT1s
    | 3 => RegMap.rMvb
    | _ => []
  else []

/-- A hit: the register, the number of its element, the word. -/
abbrev RegHit := RegDef × Nat × Nat

/-- The hit of one register. -/
def RegDef.at? (a : Nat) (d : RegDef) : Option RegHit := (d.hit a).map (fun x => (d, x.1, x.2))

/-- The register words at offset `a`. Where the offsets of two arrays overlap there is one of each (08: TBL_PORT_LEARN,
TBL_PORT_LCOUNT and TBL_PORT_MIN_EPOCH for p = 64 to 66). -/
def State.regHits (s : State) (a : Nat) : List RegHit := (unitRegs a ++ s.laneRegs a).filterMap (RegDef.at? a)

/-- A register of a pipeline is that of the other one for the ports that the other one decides: it reads 0 (07). -/
def regAbsent (d : RegDef) (i : Nat) : Bool :=
  match d.flds with
  | f :: _ => decide (f.id = F.PP_PORT_CFG_PVID.id) && decide (pipeOf (i % 67) ≠ i / 67)
  | [] => false

/-- The number that fields with values spell. -/
def spell (l : List (Fld × Nat)) : Nat := l.foldl (fun a x => a + x.2 % 2 ^ x.1.width * 2 ^ x.1.lo) 0

/-- The part of a register's value that belongs to a field. -/
def Fld.cut (f : Fld) (v : Nat) : Nat := bits v f.lo f.width

/-- The fields of a type that software may write hold their value where an upper word has not been written. -/
def Fld.keeps (f : Fld) : Bool :=
  match f.ty with
  | .rw | .rws | .rwl => true
  | _ => false

/-- What the writable fields of a register hold. -/
def State.regNow (s : State) (d : RegDef) (i : Nat) : Nat := spell ((d.flds.filter Fld.keeps).map (fun f => (f, s.rd f i)))

/-- The upper word held for an initiator (00 R5). -/
def State.heldWord (s : State) (ini : Initiator) (a : Nat) : Option Nat :=
  (s.bus.held.find? (fun h => decide (h.1 = ini) && decide (h.2.1 = a))).map (fun h => h.2.2)

/-- The value that a write of the low word at offset `a` gives the whole register, with the upper words held (00 R5). -/
def State.wholeWrite (s : State) (ini : Initiator) (d : RegDef) (i a val : Nat) : Nat :=
  (List.range d.words).foldl (fun x k =>
    x + (if k = 0 then val else (s.heldWord ini (a + 4 * k)).getD (bits (s.regNow d i) (32 * k) 32)) * 2 ^ (32 * k)) 0

/-- An upper word is held for the next write of the low word (00 R5). -/
def State.hold (s : State) (ini : Initiator) (a val : Nat) : State :=
  { s with bus := { s.bus with held := s.bus.held.filter (fun h => !(decide (h.1 = ini) && decide (h.2.1 = a))) ++ [(ini, a, val)] } }

/-- The upper words of the register at `a` are no longer held. -/
def State.unhold (s : State) (ini : Initiator) (a n : Nat) : State :=
  { s with bus := { s.bus with held := s.bus.held.filter (fun h => !(decide (h.1 = ini) && decide (a ≤ h.2.1) && decide (h.2.1 < a + 4 * n))) } }

/-- A read of a low word latches the upper words for its initiator. -/
def State.latch (s : State) (ini : Initiator) (a n v : Nat) : State :=
  let rest := s.bus.latched.filter (fun h => !(decide (h.1 = ini) && decide (a ≤ h.2.1) && decide (h.2.1 < a + 4 * n)))
  let new := (List.range (n - 1)).map (fun k => (ini, a + 4 * (k + 1), bits v (32 * (k + 1)) 32))
  { s with bus := { s.bus with latched := rest ++ new } }

/-- The word latched for an initiator. -/
def State.latchedWord (s : State) (ini : Initiator) (a : Nat) : Option Nat :=
  (s.bus.latched.find? (fun h => decide (h.1 = ini) && decide (h.2.1 = a))).map (fun h => h.2.2)

/-- A latched word has been read. -/
def State.unlatch (s : State) (ini : Initiator) (a : Nat) : State :=
  { s with bus := { s.bus with latched := s.bus.latched.filter (fun h => !(decide (h.1 = ini) && decide (h.2.1 = a))) } }

/-- The fields of element `i` store what a write of the value `v` leaves in them by their types (00 R7). -/
def State.storeFlds (s : State) (locked : Bool) (fs : List Fld) (i v : Nat) : State :=
  fs.foldl (fun (t : State) f => t.wr f i (f.ty.written locked (t.rd f i) (f.cut v))) s

/-! ## Regions (00 R6, 01 R17) -/

/-- The windows of 0x0100_0000 to 0x01FF_FFFF: base and size (24). -/
def windowList : List (Nat × Nat) :=
  [(0x1000000, 0x100000), (0x1100000, 0x3000), (0x1200000, 0x100000), (0x1300000, 0x3000), (0x1380000, 0x2000), (0x1400000, 0x20000),
   (0x1440000, 0x4000), (0x1480000, 0x80000), (0x1500000, 0x40000), (0x1540000, 0x10000), (0x1560000, 0x40000),
   (0x15A0000, 0x20000), (0x15C0000, 0x20000), (0x1600000, 0x80000), (0x1680000, 0x3000), (0x1700000, 0x20000), (0x1740000, 0x4000),
   (0x1800000, 0x400000), (0x1C00000, 0x20000), (0x1C20000, 0x20000), (0x1C40000, 0x20000), (0x1C60000, 0x20000),
   (0x1E00000, 0x60000), (0x1E80000, 0x80000), (0x1F00000, 0x4000)]

/-- Offset `a` lies in a region of a block. -/
def inRegion (a : Nat) : Bool := decide (a < 0x1000000) || windowList.any (fun w => decide (w.1 ≤ a) && decide (a < w.1 + w.2))

/-- In recovery mode only the global block and the update block are reached (03 R69). -/
def State.reached (s : State) (a : Nat) : Bool :=
  if s.phase = .recovery then decide (a < 0x100000) || (decide (0xF00000 ≤ a) && decide (a < 0x1000000)) else inRegion a

end Sys2Proof.Machine
end

