-- ==== Sys2Proof/Machine/Windows.lean ====
section
/-! DEFINITION. The table and memory windows (spec 24, and the chapter of each window): what a read of a 32-bit word returns, and
what a write does. A window of bytes holds byte `k` at offset `k`; a 32-bit word holds the byte of its lowest offset in bits [7:0]
(00 R3). -/
namespace Sys2Proof.Machine

/-- A word of a byte window, and a word written to one. -/
def winWord (m : Mem) (o : Nat) : Nat := leNat (m.read o 4)
def winPut (m : Mem) (o v : Nat) : Mem := m.writes o (leBytes 4 v)

/-! ## Forwarding tables (08 R194) -/

/-- Word `w` of an FDB entry (08 R174). -/
def FdbEntry.word (e : FdbEntry) (w : Nat) : Nat :=
  match w with
  | 0 => e.mac % 2 ^ 32
  | 1 => e.vid % 4096 * 2 ^ 16 + e.mac / 2 ^ 32 % 2 ^ 16
  | 2 => 2 ^ 31 + b2n e.static * 2 ^ 30 + e.age % 4 * 2 ^ 28 + b2n e.sync * 2 ^ 27 + e.kind % 4 * 2 ^ 25 + e.dest % 128 * 2 ^ 16
  | _ => 0

/-- Word `w` of slot `n` of pipeline `i`'s FDB. -/
def State.fdbWord (s : State) (i n w : Nat) : Nat := match (s.fdbOf i).find n with | some e => e.word w | none => 0

/-- Word `w` of slot `n` of the signal routing table (11 R246). -/
def State.sigWord (s : State) (n w : Nat) : Nat :=
  match s.sigTable.find n with
  | some e => bits e (32 * w) 32 &&& (match w with | 2 => 0xFF80FF1F | 3 => 0x1FFFFFFF | _ => 0xFFFFFFFF)
  | none => 0

/-- Word `w` of an IPv4 prefix list entry, and of an IPv6 one (08 R183). -/
def Route.word4 (r : Route) (w : Nat) : Nat :=
  match w with | 0 => r.pfx | 1 => r.len | 2 => r.nh | _ => 2 ^ 31
def Route.word6 (r : Route) (w : Nat) : Nat :=
  if w < 4 then bits r.pfx (96 - 32 * w) 32 else match w with | 4 => r.len | 5 => r.nh | 7 => 2 ^ 31 | _ => 0

/-- A word of a policer's entry: parameters as applied, tokens in whole bytes (08 R186). -/
def State.policerWord (s : State) (i n w : Nat) : Nat :=
  let b := s.tokens.get (0, 0) (4096 * i + n)
  match w with
  | 4 => b.1 / polUnit % 2 ^ 25
  | 5 => b.2 / polUnit % 2 ^ 25
  | _ => fieldOf (s.rowApplied (8 + i) n) w 0 32

/-- The word that entry word `w` of a port holds, by BAR0 word offset. -/
def State.portWord (s : State) (a : Nat) : Word := BitVec.ofNat 32 (s.portHold.get 0 (a / 4))

/-- The four words of the entry whose trigger word lies at `a`. -/
def State.portWords (s : State) (a : Nat) : List Word := (List.range 4).map (fun k => s.portWord (a - 12 + 4 * k))

/-- The FDB operation of a port's entry. -/
def fdbInsertOp (sel : FdbSel) (ws : List Word) : TblOp :=
  let w (i : Nat) : Nat := (ws.getD i 0).toNat
  .fdbInsert sel (BitVec.ofNat 48 (w 0 + bits (w 1) 0 16 * 2 ^ 32)) (BitVec.ofNat 12 (bits (w 1) 16 12)) ((w 2).testBit 30) ((w 2).testBit 27)
    (BitVec.ofNat 2 (bits (w 2) 28 2)) (BitVec.ofNat 2 (bits (w 2) 25 2)) (BitVec.ofNat 7 (bits (w 2) 16 7))
def fdbDeleteOp (sel : FdbSel) (ws : List Word) : TblOp :=
  let w (i : Nat) : Nat := (ws.getD i 0).toNat
  .fdbDelete sel (BitVec.ofNat 48 (w 0 + bits (w 1) 0 16 * 2 ^ 32)) (BitVec.ofNat 12 (bits (w 1) 16 12))

/-- The route operation of a port's entry: IPv4 in 16 bytes, IPv6 in 32 (08 R183). -/
def route4Op (ins : Bool) (ws : List Word) : TblOp :=
  let w (i : Nat) : Nat := (ws.getD i 0).toNat
  if ins then .routeInsert false (w 0) (bits (w 1) 0 6) (bits (w 2) 0 12) else .routeDelete false (w 0) (bits (w 1) 0 6)
def State.route6Op (s : State) (ins : Bool) (a : Nat) : TblOp :=
  let w (k : Nat) : Nat := (s.portWord (a - 28 + 4 * k)).toNat
  let pfx := w 0 * 2 ^ 96 + w 1 * 2 ^ 64 + w 2 * 2 ^ 32 + w 3
  if ins then .routeInsert true pfx (bits (w 4) 0 8) (bits (w 5) 0 12) else .routeDelete true pfx (bits (w 4) 0 8)

/-- The operation of the entry whose trigger word lies at `a`, for a port in 0x0110_1000 to 0x0168_2FFF. -/
def State.portOp (s : State) (a : Nat) : Option TblOp :=
  let ws := s.portWords a
  match a / 0x1000 with
  | 0x1101 => some (fdbInsertOp .pipeA ws)
  | 0x1102 => some (fdbDeleteOp .pipeA ws)
  | 0x1301 => some (fdbInsertOp .pipeB ws)
  | 0x1302 => some (fdbDeleteOp .pipeB ws)
  | 0x1380 => some (fdbInsertOp .both ws)
  | 0x1381 => some (fdbDeleteOp .both ws)
  | 0x1440 => some (route4Op true ws)
  | 0x1441 => some (route4Op false ws)
  | 0x1442 => some (s.route6Op true a)
  | 0x1443 => some (s.route6Op false a)
  | 0x1681 => some (.sigInsert ws)
  | 0x1682 => some (.sigDelete ws)
  | _ => none

/-- Offset `a` lies in an insert or delete port; the bytes of that port's entries. -/
def portEntry (a : Nat) : Option Nat :=
  match a / 0x1000 with
  | 0x1101 | 0x1102 | 0x1301 | 0x1302 | 0x1380 | 0x1381 | 0x1440 | 0x1441 | 0x1681 | 0x1682 => some 16
  | 0x1442 | 0x1443 => some 32
  | _ => none

/-- A windowed table governed by the epoch: table ID, index and word of offset `a` (08 R181 to R186, 07). -/
def winRow (a : Nat) : Option (Nat × Nat × Nat) :=
  if 0x1400000 ≤ a ∧ a < 0x1420000 then some (0x03, (a - 0x1400000) / 32, a / 4 % 8)
  else if 0x1540000 ≤ a ∧ a < 0x1550000 then some (0x06, (a - 0x1540000) / 16, a / 4 % 4)
  else if 0x1560000 ≤ a ∧ a < 0x15A0000 then some (0x07, (a - 0x1560000) / 16, a / 4 % 4)
  else if 0x15A0000 ≤ a ∧ a < 0x15C0000 then some (0x08, (a - 0x15A0000) / 32, a / 4 % 8)
  else if 0x15C0000 ≤ a ∧ a < 0x15E0000 then some (0x09, (a - 0x15C0000) / 32, a / 4 % 8)
  else if 0x1C00000 ≤ a ∧ a < 0x1C20000 then some (0x10, (a - 0x1C00000) / 128, a / 4 % 32)
  else if 0x1C20000 ≤ a ∧ a < 0x1C40000 then some (0x11, (a - 0x1C20000) / 128, a / 4 % 32)
  else none

/-- A word of a windowed entry that is read-only: tokens and reserved words of policers and Stencil rules. -/
def rowReadOnly (tid w : Nat) : Bool := ((decide (tid = 8) || decide (tid = 9)) && decide (4 ≤ w)) || (decide (16 ≤ tid) && decide (18 ≤ w))

/-- The bits that word `w` of an entry of table `tid` names (08 R181, R184 to R186, 07); the others are reserved and read as 0
(00 R6). -/
def rowNamed (tid w : Nat) : Nat :=
  match tid, w with
  | 0x03, 2 | 0x03, 5 => 0x7
  | 0x03, 6 => 0xF8000000
  | 0x03, 7 | 0x06, 3 | 0x07, 3 => 0
  | 0x06, 1 => 0x0FFFFFFF
  | 0x06, 2 => 0xE000007F
  | 0x07, 2 => 0x80000000
  | 0x08, 0 | 0x09, 0 => 0x801FFFFF
  | 0x08, 1 | 0x09, 1 => 0x1FFFFF
  | 0x08, 2 | 0x09, 2 | 0x08, 3 | 0x09, 3 => 0xFFFFFF
  | 0x10, 16 | 0x11, 16 => 0xFFEFFF7F
  | 0x10, 17 | 0x11, 17 => 0x1F
  | _, _ => 0xFFFFFFFF

/-- A word of such an entry: Stencil rules read as last written, the others as applied; reserved bits read as 0. -/
def State.winRowWord (s : State) (tid i w : Nat) : Nat :=
  rowNamed tid w &&&
    (if tid = 8 ∨ tid = 9 then s.policerWord (tid - 8) i w
     else if 16 ≤ tid then fieldOf (s.shadow.get 0 (rowKey tid i)) w 0 32
     else fieldOf (s.rowApplied tid i) w 0 32)

/-! ## Redundancy, Stroke cache, time-stamps (13, 07, 12) -/

/-- Word `w` of entry `n` of the duplicate-discard table. -/
def State.ddWord (s : State) (n w : Nat) : Nat :=
  match s.dd.find n with
  | some e =>
    if s.ddLive e then
      (match w with
        | 0 => e.sa % 2 ^ 32
        | 1 => e.sa / 2 ^ 32 % 2 ^ 16 + e.seq % 2 ^ 16 * 2 ^ 16
        | 2 => e.pair % 4 + b2n e.delivered * 2 ^ 4 + b2n e.fwdA * 2 ^ 5 + b2n e.fwdB * 2 ^ 6 + b2n e.sent * 2 ^ 7 + 2 ^ 31
        | _ => (s.now - e.born) / ticksMs % 2 ^ 32)
    else 0
  | none => 0

/-- The word of a bucket. -/
def State.bucketWord (s : State) (g b : Nat) : Nat :=
  if (s.aggSt g).on then
    s.pinOf g b % 8 + s.targetOf g b % 8 * 2 ^ 3 + b2n (s.moving g b) * 2 ^ 6 + min (s.inFlight g b) 65535 * 2 ^ 16
  else 0

/-- Word `w` of Stroke cache entry `n` of pipeline `i`. -/
def State.strokeWord (s : State) (i n w : Nat) : Nat :=
  match s.strokes.find (8192 * i + n) with
  | some e => (match w with
    | 0 => 2 ^ 31 + b2n e.noSpec * 2 ^ 30 + e.inPort % 128 * 2 ^ 23 + e.egr % 128 * 2 ^ 16 + e.cls % 8 * 2 ^ 13 + b2n e.nru * 2 ^ 12
        + e.vid % 4096
    | 1 => e.da % 2 ^ 32
    | 2 => e.da / 2 ^ 32 % 2 ^ 16
    | _ => e.tagop % 4 * 2 ^ 30 + e.newVid % 4096 * 2 ^ 18)
  | none => 0

/-- The 64 bytes of a time-stamp record (12 R271). -/
def TsRec.bytes (r : TsRec) : List Byte :=
  beBytes 1 (b2n r.valid * 128 + b2n r.tx * 64) ++ beBytes 1 r.port ++ beBytes 1 r.captured ++ beBytes 1 r.running ++ beBytes 12 0
    ++ r.times.flatMap (fun t => beBytes 2 (timeSec t / 2 ^ 32) ++ beBytes 2 (timeFrac t) ++ beBytes 4 (timeSec t) ++ beBytes 4 (timeNs t))

/-- The 16 bytes of an egress report (12 R274). -/
def TxReport.bytes (r : TxReport) : List Byte :=
  beBytes 1 r.port ++ beBytes 1 r.kind ++ beBytes 2 r.recIdx ++ beBytes 2 r.seqId ++ beBytes 1 r.msgType ++ beBytes 1 r.domain ++ beBytes 8 0

/-- Word at byte `o` of a byte list. -/
def listWord (bs : List Byte) (o : Nat) : Nat := leNat ((bs.drop o).take 4)

/-! ## The Nib engines' SRAM windows (10) -/

/-- Engine and SRAM byte of window offset `a`: (engine, data SRAM, byte), by the page of NIB_WIN; none for pages 6 and 7. -/
def State.sramAt (s : State) (a : Nat) : Option (Nat × Bool × Nat) :=
  let n := (a - 0xA00000) / 0x10000
  let o := a % 0x8000
  let page := s.rd F.NIB_WIN_PAGE n
  if page < 2 then some (n, false, 0x8000 * page + o) else if page < 6 then some (n, true, 0x8000 * (page - 2) + o) else none

/-! ## Reading and writing -/

/-- Offset `a` lies in the SRAM window of an engine. -/
def inSramWin (a : Nat) : Bool := decide (0xA00000 ≤ a) && decide (a < 0xAA0000) && decide (0x8000 ≤ a % 0x10000)

/-- The window word at `a`, if `a` lies in a window other than the FIFO consume windows. Ports read as 0. -/
def State.winRead (s : State) (a : Nat) : Option Nat :=
  if 0x180000 ≤ a ∧ a < 0x200000 then some (winWord s.staging (a - 0x180000))
  else if inSramWin a then
    some (match s.sramAt a with
      | some (n, d, o) => winWord (if d then (s.nibEng n).dsram else (s.nibEng n).isram) o
      | none => 0)
  else if 0xAC0000 ≤ a ∧ a < 0xB00000 then some (winWord s.ss (0x40000 * s.rd F.NIB_SS_PAGE_PAGE 0 + (a - 0xAC0000)))
  else if 0xC03000 ≤ a ∧ a < 0xC03120 then some (winWord s.keyMsg (a - 0xC03000))
  else if 0xC03200 ≤ a ∧ a < 0xC032C0 then some (listWord s.keyAtt (a - 0xC03200))
  else if 0xCA0000 ≤ a ∧ a < 0xCA4000 then some (winWord s.laWin (a - 0xCA0000))
  else if 0xD70000 ≤ a ∧ a < 0xD70400 then some (s.msixWord ((a - 0xD70000) / 4))
  else if 0xD71000 ≤ a ∧ a < 0xD71008 then some (bits (s.msix.pba.foldl (fun x v => x ||| 2 ^ v) 0) (8 * (a - 0xD71000)) 32)
  else if 0xF01000 ≤ a ∧ a < 0xF02000 then some (winWord s.sheetBuf (a - 0xF01000))
  else if 0xF40000 ≤ a ∧ a < 0xF80000 then some (winWord s.manWin (a - 0xF40000))
  else if (portEntry a).isSome then some 0
  else if 0x1000000 ≤ a ∧ a < 0x1100000 then some (s.fdbWord 0 ((a - 0x1000000) / 16) (a / 4 % 4))
  else if 0x1100000 ≤ a ∧ a < 0x1100400 then some (s.fdbWord 0 (65536 + (a - 0x1100000) / 16) (a / 4 % 4))
  else if 0x1200000 ≤ a ∧ a < 0x1300000 then some (s.fdbWord 1 ((a - 0x1200000) / 16) (a / 4 % 4))
  else if 0x1300000 ≤ a ∧ a < 0x1300400 then some (s.fdbWord 1 (65536 + (a - 0x1300000) / 16) (a / 4 % 4))
  else if 0x1480000 ≤ a ∧ a < 0x1500000 then
    some (match s.routes4[(a - 0x1480000) / 16]? with | some r => r.word4 (a / 4 % 4) | none => 0)
  else if 0x1500000 ≤ a ∧ a < 0x1540000 then
    some (match s.routes6[(a - 0x1500000) / 32]? with | some r => r.word6 (a / 4 % 8) | none => 0)
  else if 0x1600000 ≤ a ∧ a < 0x1680000 then some (s.sigWord ((a - 0x1600000) / 16) (a / 4 % 4))
  else if 0x1680000 ≤ a ∧ a < 0x1680100 then some (s.sigWord (32768 + (a - 0x1680000) / 16) (a / 4 % 4))
  else if 0x1700000 ≤ a ∧ a < 0x1720000 then some (s.ddWord ((a - 0x1700000) / 16) (a / 4 % 4))
  else if 0x1740000 ≤ a ∧ a < 0x1744000 then some (s.bucketWord ((a - 0x1740000) / 1024) ((a - 0x1740000) / 4 % 256))
  else if 0x1C40000 ≤ a ∧ a < 0x1C60000 then some (s.strokeWord 0 ((a - 0x1C40000) / 16) (a / 4 % 4))
  else if 0x1C60000 ≤ a ∧ a < 0x1C80000 then some (s.strokeWord 1 ((a - 0x1C60000) / 16) (a / 4 % 4))
  else if 0x1E00000 ≤ a ∧ a < 0x1E60000 then
    let n := (a - 0x1E00000) / 0x4000
    let o := (a - 0x1E00000) % 0x4000
    some (if o < 0x2000 then winWord s.mvbData (8192 * n + o) else if o < 0x3000 then s.pollEntry n ((o - 0x2000) / 4) else 0)
  else if 0x1E80000 ≤ a ∧ a < 0x1F00000 then
    some (match s.tsRecs.find ((a - 0x1E80000) / 64) with | some r => listWord r.bytes (a % 64) | none => 0)
  else if 0x1F00000 ≤ a ∧ a < 0x1F04000 then
    some (match s.txRing.find ((a - 0x1F00000) / 16) with | some r => listWord r.bytes (a % 16) | none => 0)
  else match winRow a with
    | some (t, i, w) => some (s.winRowWord t i w)
    | none => none

/-- A write to an insert or delete port (08 R194): the word is held; the trigger word, the last of its entry, queues the
operation, as TABLE_ENTRY_WRITE does. -/
def State.portWrite (s : State) (a v n : Nat) : State :=
  let s := { s with portHold := s.portHold.set 0 (a / 4) v }
  if a % n = n - 4 then
    (match s.portOp a with
      | some op => if s.opInRange op then (opEntries op).foldl State.bufferOne s else s
      | none => s)
  else s

/-- A word written to an SRAM window: ignored unless the engine is in RESET or HALTED (10 R243). -/
def State.sramWrite (s : State) (a v : Nat) : State :=
  match s.sramAt a with
  | some (n, d, o) =>
    let st := s.rd F.NIB_STAT_STATE n
    if st = 0 ∨ st = 3 then
      let e := s.nibEng n
      s.setNib n (if d then { e with dsram := winPut e.dsram o v } else { e with isram := winPut e.isram o v })
    else s
  | none => s

/-- The state after a write of a window word; none when `a` lies in no window that software may write. Writes to read-only
windows are ignored. -/
def State.winWrite (s : State) (a v : Nat) : Option State :=
  if 0x180000 ≤ a ∧ a < 0x200000 then some { s with staging := winPut s.staging (a - 0x180000) v }
  else if inSramWin a then some (s.sramWrite a v)
  else if 0xAC0000 ≤ a ∧ a < 0xB00000 then some (s.ssWrite (0x40000 * s.rd F.NIB_SS_PAGE_PAGE 0 + (a - 0xAC0000)) (leBytes 4 v))
  else if 0xC03000 ≤ a ∧ a < 0xC03120 then some { s with keyMsg := winPut s.keyMsg (a - 0xC03000) v }
  else if 0xCA0000 ≤ a ∧ a < 0xCA2000 then some { s with laWin := winPut s.laWin (a - 0xCA0000) v }
  else if 0xD70000 ≤ a ∧ a < 0xD70400 then
    let k := (a - 0xD70000) / 4
    some { s with msix := { s.msix with table := s.msix.table.put k (if k % 4 = 3 then v % 2 else if k % 4 = 0 then v / 4 * 4 else v) } }
  else if 0xF01000 ≤ a ∧ a < 0xF02000 then some { s with sheetBuf := winPut s.sheetBuf (a - 0xF01000) v }
  else if 0xF40000 ≤ a ∧ a < 0xF80000 then some { s with manWin := winPut s.manWin (a - 0xF40000) v }
  else match portEntry a with
  | some n => some (s.portWrite a v n)
  | none =>
    if 0x1E00000 ≤ a ∧ a < 0x1E60000 then
      let n := (a - 0x1E00000) / 0x4000
      let o := (a - 0x1E00000) % 0x4000
      some (if o < 0x2000 then { s with mvbData := winPut s.mvbData (8192 * n + o) v }
        else if o < 0x3000 then { s with mvbPoll := s.mvbPoll.set 0 (1024 * n + (o - 0x2000) / 4) (v &&& 0xBFFFFFFF) }
        else s)
    else match winRow a with
      | some (t, i, w) =>
        let op := TblOp.word t i w (BitVec.ofNat 32 v)
        some (if rowReadOnly t w || !s.opInRange op then s else s.bufferOne op)
      | none => none

end Sys2Proof.Machine
end

