-- ==== Sys2Proof/Machine/Scroll.lean ====
section
/-! DEFINITION. The Scroll (spec 02): its format and checks, the loading of hard and soft sections, restructures. -/
namespace Sys2Proof.Machine

/-! ## Format (R31 to R37) -/

/-- A failed check (R447): LAST_ERR, SECTION, RECORD. -/
abbrev ScrErr := Nat × Nat × Nat

/-- A check that names no section, and one that names a section only. -/
def errAll (code : Nat) : ScrErr := (code, 0xFF, 0xFFFFFF)
def errSect (code i : Nat) : ScrErr := (code, i, 0xFFFFFF)

/-- The first check that fails, in the order of the list. -/
def firstErr (l : List (Bool × ScrErr)) : Option ScrErr := (l.find? (fun c => c.1)).map (fun c => c.2)

/-- Entry `i` of the section table, with its body (R33). -/
def sectAt (bs : List Byte) (i : Nat) : Sect :=
  let e := (bs.drop (128 + 16 * i)).take 16
  ⟨i, fieldAt e 0 2, fieldAt e 2 1, fieldAt e 3 1, e, (bs.drop (fieldAt e 4 4)).take (fieldAt e 8 4)⟩

/-- OFFSET, LENGTH and CRC of its table entry. -/
def Sect.off (x : Sect) : Nat := fieldAt x.entry 4 4
def Sect.len (x : Sect) : Nat := fieldAt x.entry 8 4
def Sect.crc (x : Sect) : Nat := fieldAt x.entry 12 4

/-- The sections of a Scroll in table order. -/
def scrollSects (bs : List Byte) : List Sect := (List.range (fieldAt bs 20 2)).map (sectAt bs)

/-- Soft section types, SOFTREG and TABLEROWS (R35). -/
def softType (t : Nat) : Bool := decide (t = 0x100) || decide (t = 0x101)

/-- A known TYPE with a SCOPE and VARIANT that it may have (R33, R35). -/
def sectKnown (x : Sect) : Bool :=
  if x.typ = 1 then decide (x.scope ≤ 2) && decide (x.variant ≤ 7)
  else if x.typ = 2 then decide (x.scope = 3) && decide (x.variant ≤ 7)
  else if x.typ = 3 then decide (x.scope ≤ 3) && decide (x.variant ≤ 7)
  else (softType x.typ || (decide (0x10 ≤ x.typ) && decide (x.typ ≤ 0x15))) && decide (x.scope = 0xFF) && decide (x.variant = 0)

/-- The header (R31, R32), field by field. -/
def headerErr (soft : Bool) (bs : List Byte) : Option ScrErr :=
  let total := fieldAt bs 16 4
  let sig := fieldAt bs 80 4
  let n := fieldAt bs 20 2
  firstErr [
    (decide (fieldAt bs 0 4 ≠ 0x5343524C) || decide (fieldAt bs 4 2 ≠ 1) || decide (fieldAt bs 6 2 ≠ 128), errAll 0x01),
    (decide (fieldAt bs 8 4 ≠ 0x56476412), errAll 0x02),
    (decide (0x0100 < fieldAt bs 12 2), errAll 0x03),
    (decide (total ≠ sig + 112) || decide ((if soft then 2 ^ 19 else 2 ^ 22) < total) || decide (bs.length < total), errAll 0x04),
    (decide (n = 0) || decide (64 < n), errAll 0x04),
    (decide (1 < fieldAt bs 22 2), errAll 0x04),
    (decide (fieldAt bs 28 4 = 0), errAll 0x07),
    (!soft && decide (fieldAt bs 32 48 ≠ 0), errAll 0x04),
    (decide (sig % 8 ≠ 0) || decide (sig < 128 + 16 * n), errAll 0x04),
    (decide (fieldAt bs 84 44 ≠ 0), errAll 0x04)]

/-- Two bodies share a byte. -/
def Sect.overlaps (x y : Sect) : Bool :=
  decide (0 < x.len) && decide (0 < y.len) && decide (x.off < y.off + y.len) && decide (y.off < x.off + x.len)

/-- The section table and the layout of bodies and signature block (R32 to R34). -/
def layoutErr (bs : List Byte) : Option ScrErr :=
  let sig := fieldAt bs 80 4
  let l := scrollSects bs
  firstErr (l.map (fun x =>
      (!sectKnown x || decide (x.off % 8 ≠ 0) || decide (x.len % 8 ≠ 0) || decide (x.off < 128 + 16 * l.length) || decide (sig < x.off + x.len)
        || l.any (fun y => decide (y.idx < x.idx) && x.overlaps y), errSect 0x04 x.idx))
    ++ [(decide (fieldAt bs sig 2 ≠ 1) || decide (fieldAt bs (sig + 2) 2 ≠ 0) || decide (fieldAt bs (sig + 104) 8 ≠ 0), errAll 0x04)])

/-- The sections that a base Scroll must hold (R35): TYPE and SCOPE. -/
def sectsNeeded : List (Nat × Nat) :=
  [(1, 0), (1, 1), (1, 2), (2, 3), (3, 0), (3, 1), (3, 2), (3, 3), (0x10, 0xFF), (0x11, 0xFF), (0x12, 0xFF), (0x13, 0xFF), (0x14, 0xFF), (0x15, 0xFF)]

/-- The kinds of sections (R35, R36). -/
def kindErr (soft : Bool) (bs : List Byte) : Option ScrErr :=
  let l := scrollSects bs
  if soft then firstErr (l.map (fun x => (!softType x.typ, errSect 0x09 x.idx)))
  else
    firstErr ([((fieldAt bs 22 2).testBit 0, errAll 0x09)]
      ++ l.map (fun x => (!softType x.typ && l.any (fun y => decide (y.idx < x.idx) && decide (y.typ = x.typ) && decide (y.scope = x.scope)
          && decide (y.variant = x.variant)), errSect 0x09 x.idx))
      ++ sectsNeeded.map (fun n => (!l.any (fun x => decide (x.typ = n.1) && decide (x.scope = n.2) && decide (x.variant = 0)), errAll 0x09)))

/-! ## Section bodies (R38 to R45, R446) -/

/-- A section of a list by TYPE, SCOPE and VARIANT. -/
def sectFind (l : List Sect) (t sc v : Nat) : Option Sect := l.find? (fun x => decide (x.typ = t) && decide (x.scope = sc) && decide (x.variant = v))

/-- The first port of a group, and its ports (R35). -/
def groupBase (g : Nat) : Nat := match g with | 0 => 0 | 1 => 8 | 2 => 24 | _ => 40
def groupSize (g : Nat) : Nat := match g with | 0 => 8 | 1 => 16 | 2 => 16 | _ => 24
def groupPorts (g : Nat) : List Nat := (List.range (groupSize g)).map (groupBase g + ·)

/-- The LENGTH of a section of fixed length. -/
def sectLen (x : Sect) : Option Nat :=
  match x.typ with
  | 1 => some (8 * groupSize x.scope)
  | 2 => some 192
  | 3 => some (groupSize x.scope)
  | 0x10 => some 64
  | 0x11 => some 352
  | 0x12 => some 128
  | 0x13 => some 160
  | 0x14 => some 896
  | 0x15 => some 64
  | _ => none

/-- Byte `k` of a body. -/
def bodyByte (b : List Byte) (k : Nat) : Nat := (b.getD k 0).toNat

/-- PORTS (R38). -/
def portsErr (x : Sect) : List (Bool × ScrErr) :=
  (List.range (groupSize x.scope)).flatMap (fun r =>
    let b := x.body.drop (8 * r)
    let mode := bodyByte b 1
    let fl := bodyByte b 2
    let spd := bodyByte b 3
    [(decide (fieldAt b 6 2 ≠ 0), errSect 0x04 x.idx),
     (decide (bodyByte b 0 ≠ groupBase x.scope + r)
        || !(if x.scope = 0 then decide (mode ≤ 6) else decide (mode = 0) || decide (mode = 4) || decide (mode = 6))
        || decide (8 ≤ fl) || (decide (fl % 4 ≠ 0) && decide (mode ≠ 1)) || (fl.testBit 2 && decide (x.scope = 0))
        || decide ((if mode = 6 then 2 else 0) < spd), (0x07, x.idx, r))])

/-- LANES (R39). -/
def lanesErr (x : Sect) : List (Bool × ScrErr) :=
  (List.range 24).map (fun r =>
    let b := x.body.drop (8 * r)
    let pers := bodyByte b 1
    (decide (bodyByte b 0 ≠ r) || decide (3 < pers) || decide ((match pers with | 1 => 7 | 2 => 1 | 3 => 1 | _ => 0) < bodyByte b 2)
      || decide (1 < bodyByte b 3) || decide (fieldAt b 4 4 ≠ 0), (0x07, x.idx, r)))

/-- SECPOL (R446). -/
def secpolErr (x : Sect) : List (Bool × ScrErr) :=
  (List.range (groupSize x.scope)).map (fun r => (decide (1 < bodyByte x.body r), (0x07, x.idx, r)))

/-- MEMORY's tiles (R40). -/
def memTiles (b : List Byte) : Nat :=
  2 * (fieldAt b 0 4 / 4096) + fieldAt b 4 4 / 2048 + fieldAt b 8 4 / 512 + fieldAt b 12 4 / 2048 + fieldAt b 16 4 / 4096

/-- MEMORY (R40), with the memory found at training in MiB. -/
def memoryErr (found : Nat) (x : Sect) : List (Bool × ScrErr) :=
  let v (k : Nat) : Nat := fieldAt x.body (4 * k) 4
  let bad (k : Nat) (ok : Bool) : Bool × ScrErr := (!ok, (0x07, x.idx, 4 * k))
  [bad 0 (decide (v 0 = 32768) || decide (v 0 = 65536)),
   bad 1 (decide (v 1 ≤ 32768) && decide (v 1 % 2048 = 0)),
   bad 2 (decide (v 2 ≤ 8192) && decide (v 2 % 512 = 0)),
   bad 3 (decide (v 3 ≤ 16384) && decide (v 3 % 2048 = 0)),
   bad 4 ([4096, 8192, 16384, 32768].contains (v 4)),
   bad 5 (decide (v 5 ≤ 32768) && decide (v 5 % 1024 = 0)),
   bad 6 ([0, 1024, 2048, 4096, 8192].contains (v 6) && decide (v 6 ≤ found)),
   bad 7 (decide (v 7 ≤ 1024) && decide (v 7 % 64 = 0) && decide (v 7 ≤ v 6)),
   (decide (56 < memTiles x.body), errSect 0x07 x.idx),
   (decide (fieldAt x.body 32 32 ≠ 0), errSect 0x04 x.idx)]

/-- Queue `q` is marked deep in a QUEUES body. -/
def deepBit (b : List Byte) (q : Nat) : Bool := (bodyByte b (q / 8)).testBit (q % 8)

/-- The number of deep queues. -/
def deepCount (b : List Byte) : Nat := ((List.range 768).filter (deepBit b)).length

/-- QUEUES (R41), with the MEMORY body of the Scroll. -/
def queuesErr (mem : List Byte) (x : Sect) : List (Bool × ScrErr) :=
  (List.range 96).map (fun k =>
    (decide (bodyByte x.body k ≠ 0) && (decide (fieldAt mem 24 4 = 0) || (decide (40 ≤ k) && decide (k < 64))), (0x07, x.idx, k)))
  ++ (List.range 256).map (fun k => (decide (1 < bodyByte x.body (96 + k)), (0x07, x.idx, 96 + k)))
  ++ [(decide (65536 < fieldAt mem 20 4 + 64 * deepCount x.body), errSect 0x07 x.idx)]

/-- RULERS (R42). -/
def rulersErr (x : Sect) : List (Bool × ScrErr) :=
  let role (t : Nat) : Nat := bodyByte x.body (8 * t)
  (List.range 8).map (fun t => (decide (3 < role t) || (decide (t = 0) && decide (role 0 ≠ 0)), (0x07, x.idx, 8 * t)))
  ++ (List.range 64).map (fun p =>
    let m := bodyByte x.body (64 + p) / 2
    (decide (3 < popCount m 7) || (List.range 7).any (fun t => m.testBit t && decide (role (t + 1) = 0)), (0x07, x.idx, 64 + p)))
  ++ [((List.range 8).any (fun t => decide (fieldAt x.body (8 * t + 2) 6 ≠ 0)), errSect 0x04 x.idx)]

/-- NIBPLACE (10 R242), with COUNT of the Nib image. -/
def nibplaceErr (count : Nat) (x : Sect) : List (Bool × ScrErr) :=
  (List.range 10).flatMap (fun r =>
    let b := x.body.drop (16 * r)
    let wd := fieldAt b 8 4
    [(decide (bodyByte b 0 ≠ r) || (decide (fieldAt b 2 2 ≠ 0xFFFF) && (decide (1 < bodyByte b 1) || decide (count ≤ fieldAt b 2 2)
        || decide (65536 ≤ fieldAt b 4 4) || decide (wd < 10) || decide (1000000 < wd))), (0x07, x.idx, r)),
     (decide (fieldAt b 12 4 ≠ 0), errSect 0x04 x.idx)])

/-- The segments of custom profile `k` + 8 in a LOADS body, (END_US, LIMIT_MA), up to the first with END_US 0. -/
def loadSegs (b : List Byte) (k : Nat) : List (Nat × Nat) :=
  (((List.range 8).map (fun j => (fieldAt b (64 * k + 8 * j) 4, fieldAt b (64 * k + 8 * j + 4) 4))).takeWhile (fun g => decide (g.1 ≠ 0)))

/-- END_US rises. -/
def segsRise : List (Nat × Nat) → Bool
  | a :: b :: t => decide (a.1 < b.1) && segsRise (b :: t)
  | _ => true

/-- LOADS (R43). -/
def loadsErr (x : Sect) : List (Bool × ScrErr) :=
  (List.range 8).map (fun k => (!segsRise (loadSegs x.body k), (0x07, x.idx, k)))
  ++ (List.range 24).map (fun n =>
    let b := x.body.drop (512 + 16 * n)
    let el := fieldAt b 6 2
    let rt := bodyByte b 10
    (decide (bodyByte b 0 ≠ n) || decide (15 < bodyByte b 1) || decide (el < 1) || decide (250 < el) || decide (rt < 1) || decide (8 < rt)
      || decide (fieldAt b 11 5 ≠ 0), (0x07, x.idx, 8 + n)))

/-- POWER (02, 18 R380). -/
def powerErr (x : Sect) : List (Bool × ScrErr) :=
  [(decide (1 < bodyByte x.body 0), (0x07, x.idx, 0))]
  ++ (List.range 10).map (fun k => (decide (16 ≤ bodyByte x.body (6 + k)), (0x07, x.idx, 6 + k)))
  ++ [(decide (bodyByte x.body 1 ≠ 0) || decide (fieldAt x.body 16 48 ≠ 0), errSect 0x04 x.idx)]

/-- The soft-settable fields (R30): BAR0 offset of element 0, step, elements, field. -/
def softFields : List (Nat × Nat × Nat × Fld) :=
  [(0x500100, 0x1000, 24, F.LSL_T1S_CTL_PLCA_EN), (0xA0000C, 0x10000, 10, F.NIB_ENTRY_ADDR), (0xA00014, 0x10000, 10, F.NIB_WDOG_WDOG_US)]

/-- The soft-settable field in the register at an offset, with its element. -/
def softField (off : Nat) : Option (Fld × Nat) :=
  softFields.findSome? (fun r =>
    if r.1 ≤ off ∧ (off - r.1) % r.2.1 = 0 ∧ (off - r.1) / r.2.1 < r.2.2.1 then some (r.2.2.2, (off - r.1) / r.2.1) else none)

/-- The bits of a register that a field occupies. -/
def Fld.mask (f : Fld) : Nat := (2 ^ f.width - 1) * 2 ^ f.lo

/-- Every bit of MASK falls in a soft-settable field (R45). -/
def maskSoft (off mask : Nat) : Bool :=
  match softField off with
  | some (f, _) => decide (mask &&& f.mask = mask)
  | none => decide (mask = 0)

/-- The records of a SOFTREG body (R44): OFFSET, MASK, VALUE. -/
def softRecs (b : List Byte) : List (Nat × Nat × Nat) :=
  (List.range (b.length / 12)).map (fun k => (fieldAt b (12 * k) 4, fieldAt b (12 * k + 4) 4, fieldAt b (12 * k + 8) 4))

/-- The form of a SOFTREG section (R44): its length and padding. -/
def softregForm (x : Sect) : List (Bool × ScrErr) :=
  let n := x.body.length
  [(!(decide (n % 24 = 0) || (decide (n % 24 = 16) && decide (fieldAt x.body (n - 4) 4 = 0))), errSect 0x04 x.idx)]

/-- The records of a SOFTREG section (R45). -/
def softregErr (x : Sect) : List (Bool × ScrErr) :=
  (softRecs x.body).zipIdx.flatMap (fun r =>
    [(decide (0x1000000 ≤ r.1.1) || decide (r.1.1 % 4 ≠ 0), (0x07, x.idx, r.2)), (!maskSoft r.1.1 r.1.2.1, (0x0A, x.idx, r.2))])

/-- A TABLEROWS record: OFFSET, WORDS, the words, and whether it runs past the body or holds a reserved or padding byte that is not 0. -/
structure RowRec where
  off : Nat
  n : Nat
  words : List Nat
  bad : Bool
  deriving DecidableEq, Repr

/-- The records of a TABLEROWS body; `fuel` bounds them. -/
def rowRecs : Nat → List Byte → List RowRec
  | 0, _ => []
  | fuel + 1, b =>
    if b.isEmpty then []
    else
      let n := fieldAt b 4 2
      let size := (8 + 4 * n + 7) / 8 * 8
      let bad := decide (b.length < size) || decide (fieldAt b 6 2 ≠ 0) || decide (fieldAt b (8 + 4 * n) (size - 8 - 4 * n) ≠ 0)
      ⟨fieldAt b 0 4, n, (List.range n).map (fun k => fieldAt b (8 + 4 * k) 4), bad⟩ :: rowRecs fuel (b.drop size)

/-- The records of a section. -/
def Sect.rows (x : Sect) : List RowRec := rowRecs (x.body.length / 8) x.body

/-- The table windows that software may write (24, R45), base and size; `nat` is the NAT size of MEMORY. -/
def rowWindows (nat : Nat) : List (Nat × Nat) :=
  [(0x1101000, 0x1000), (0x1102000, 0x1000), (0x1301000, 0x1000), (0x1302000, 0x1000), (0x1380000, 0x1000), (0x1381000, 0x1000),
   (0x1400000, 0x20000), (0x1440000, 0x1000), (0x1441000, 0x1000), (0x1442000, 0x1000), (0x1443000, 0x1000), (0x1540000, 0x10000),
   (0x1560000, 16 * nat), (0x15A0000, 0x20000), (0x15C0000, 0x20000), (0x1681000, 0x1000), (0x1682000, 0x1000), (0x1C00000, 0x20000),
   (0x1C20000, 0x20000)]
  ++ (List.range 24).map (fun n => (0x1E00000 + 0x4000 * n, 0x4000))

/-- The form of a TABLEROWS section (R44): the size and the WORDS of its records. -/
def tablerowsForm (x : Sect) : List (Bool × ScrErr) :=
  x.rows.zipIdx.flatMap (fun r => [(r.1.bad, errSect 0x04 x.idx), (decide (r.1.n < 1) || decide (64 < r.1.n), (0x07, x.idx, r.2))])

/-- The places of a TABLEROWS section's records (R45). -/
def tablerowsErr (nat : Nat) (x : Sect) : List (Bool × ScrErr) :=
  x.rows.zipIdx.map (fun r =>
    (!(rowWindows nat).any (fun w => decide (w.1 ≤ r.1.off) && decide (r.1.off + 4 * r.1.n ≤ w.1 + w.2)) || decide (r.1.off % 4 ≠ 0),
      (0x07, x.idx, r.2)))

/-- What the checks of bodies need beside the Scroll: the memory found in MiB, COUNT of the Nib image, and the MEMORY body in force. -/
structure ScrCtx where
  found : Nat
  nibCount : Nat
  mem : List Byte
  deriving DecidableEq, Repr

/-- The checks of the body of a hard section (R38 to R43, R446). -/
def bodyErr (c : ScrCtx) (x : Sect) : Option ScrErr :=
  if (match sectLen x with | some n => decide (x.len ≠ n) | none => false) then some (errSect 0x04 x.idx)
  else firstErr (match x.typ with
    | 1 => portsErr x
    | 2 => lanesErr x
    | 3 => secpolErr x
    | 0x10 => memoryErr c.found x
    | 0x11 => queuesErr c.mem x
    | 0x12 => rulersErr x
    | 0x13 => nibplaceErr c.nibCount x
    | 0x14 => loadsErr x
    | 0x15 => powerErr x
    | _ => [])

/-- R44 and R45 for a soft section; a hard one has nothing to fail. -/
def formErr (x : Sect) : Option ScrErr :=
  firstErr (match x.typ with | 0x100 => softregForm x | 0x101 => tablerowsForm x | _ => [])
def placeErr (nat : Nat) (x : Sect) : Option ScrErr :=
  firstErr (match x.typ with | 0x100 => softregErr x | 0x101 => tablerowsErr nat x | _ => [])

/-- The order in which the hard bodies are checked: as R46 lists the rules. SECPOL (R446) comes after R44 and R45. -/
def bodyOrder : List Nat := [1, 2, 0x10, 0x11, 0x12, 0x13, 0x14, 0x15]

/-- The bodies, rule by rule: R38 to R43, R44, R45, R446 of a base Scroll (R46); R45, then R44 of a soft Scroll (R49). -/
def bodiesErr (soft : Bool) (c : ScrCtx) (l : List Sect) : Option ScrErr :=
  let place := l.findSome? (placeErr (fieldAt c.mem 12 4))
  let form := l.findSome? formErr
  let hard (t : Nat) : Option ScrErr := (l.filter (fun x => decide (x.typ = t))).findSome? (bodyErr c)
  if soft then place.or form else (bodyOrder.findSome? hard).or (form.or (place.or (hard 3)))

/-- The checks of R46 step 1 and of R49 before BASE_DIGEST, in order. `mem` is the MEMORY body of the active base Scroll. -/
def scrollErr (soft : Bool) (c : ScrCtx) (bs : List Byte) : Option ScrErr :=
  match headerErr soft bs with
  | some e => some e
  | none =>
    let l := scrollSects bs
    let c := if soft then c else { c with mem := match sectFind l 0x10 0xFF 0 with | some x => x.body | none => [] }
    ((layoutErr bs).or (kindErr soft bs)).or
      ((bodiesErr soft c l).or (firstErr (l.map (fun x => (decide (crc32c x.body ≠ x.crc), errSect 0x06 x.idx)))))

/-- The hard digest (R37), 48 bytes. -/
def hardDigest (l : List Sect) : List Byte := fit 48 (sha384 ((l.filter (fun x => !softType x.typ)).flatMap (fun x => x.entry ++ x.body)))

/-- The signature (R34, R303): the fleet key first. -/
def State.sigErr (s : State) (bs : List Byte) (sig : Nat) : Option Nat :=
  match s.fleetPos (fieldAt bs (sig + 4) 4) with
  | none => some 0x0E
  | some k => if ecdsaVerify (Config.fleetKey k) (bs.take sig) ((bs.drop (sig + 8)).take 96) then none else some 0x05

/-- The MEMORY body of the base Scroll in force. -/
def State.memBody (s : State) : List Byte := match sectFind s.scr.base 0x10 0xFF 0 with | some x => x.body | none => []

/-- What a soft Scroll is checked against. -/
def State.softCtx (s : State) : ScrCtx := ⟨s.rd F.RSV_STAT_FOUND_MIB 0, 0, s.memBody⟩

/-- The checks of R49 for a soft Scroll; `digest` says whether BASE_DIGEST is compared (R51). -/
def State.softErr (s : State) (digest : Bool) (bs : List Byte) : Option ScrErr :=
  (scrollErr true s.softCtx bs).or
    ((firstErr [(!(fieldAt bs 22 2).testBit 0, errAll 0x09), (digest && decide ((bs.drop 32).take 48 ≠ hardDigest s.scr.base), errAll 0x08)]).or
      ((s.sigErr bs (fieldAt bs 80 4)).map errAll))

/-- A record of the soft slot is valid (R51). -/
def State.softValid (s : State) (r : SoftRec) : Bool := decide (r.bytes.length ≤ 524288) && (s.softErr false r.bytes).isNone

/-! ## Loading (R46, R48) -/

/-- A MEMORY body divides table memory, Inkwell and the Reservoir (R40). -/
def State.loadMemory (s : State) (mem que : List Byte) : State :=
  let v (k : Nat) : Nat := fieldAt mem (4 * k) 4
  let s := { s with memCfg := ⟨v 0, v 1, v 2, v 3, v 4⟩ }
  let s := (s.wr F.QUE_POOL_SIZE 0 (131072 - v 5 - 64 * deepCount que)).wr F.QUE_POOL_SIZE 1 (v 5)
  let s := (s.wr F.RSV_CFG_SIZE_MIB 0 (v 6)).wr F.RSV_CFG_SCRIBE_MIB 0 (v 7)
  s.wr F.RSV_BLOCKS_TOTAL 0 ((v 6 - v 7) * 512)

/-- A QUEUES body: deep queues, FIFO framing (R41). -/
def State.loadQueues (s : State) (b : List Byte) : State :=
  let s := (List.range 512).foldl (fun (t : State) q => t.wrb F.QUE_CFG_DEEP q (deepBit b q)) s
  (List.range 256).foldl (fun (t : State) f => ((t.wrb F.QUE_CFG_DEEP (512 + f) (deepBit b (512 + f))).wrb F.QUE_FIFO_CFG_DEEP f (deepBit b (512 + f))).wr F.QUE_FIFO_CFG_FRAMING f (bodyByte b (96 + f))) s

/-- A RULERS body: roles, domains and capture masks (R42). -/
def State.loadRulers (s : State) (b : List Byte) : State :=
  let s := (List.range 8).foldl (fun (t : State) k => (t.wr F.RUL_CTL_ROLE k (bodyByte b (8 * k))).wr F.RUL_CTL_DOMAIN k (bodyByte b (8 * k + 1))) s
  (List.range 64).foldl (fun (t : State) p => { t with capMask := t.capMask.set 0 p (bodyByte b (64 + p)) }) s

/-- The LOADS record of channel `n` (R43). -/
def loadRecAt (b : List Byte) (n : Nat) : LoadRec :=
  let r := b.drop (512 + 16 * n)
  let p := bodyByte r 1
  { present := (bodyByte r 3).testBit 0, profile := p, xsect := bodyByte r 2, wireMohm := fieldAt r 4 2, elimMj := fieldAt r 6 2,
    p0Ms := fieldAt r 8 2, retryN := bodyByte r 10, segs := if 8 ≤ p then loadSegs b (p - 8) else [] }

/-- A POWER body (18 R378, R380). -/
def State.loadPower (s : State) (b : List Byte) : State :=
  let s := s.wr F.AVS_LOOP_CTL_MODE 0 (bodyByte b 0)
  let s := (s.wr F.AVS_FLOOR_CORE_MV 0 (min (fieldAt b 2 2) 1023)).wr F.AVS_FLOOR_SRAM_MV 0 (min (fieldAt b 4 2) 1023)
  (List.range 3).foldl (fun (t : State) k => (t.wr F.AVS_LEGACY_BIAS k (bodyByte b (6 + 2 * k))).wr F.AVS_LEGACY_ASSIST k (bodyByte b (7 + 2 * k))) s

/-- NIBPLACE record `n` with the Nib image (10 R242). -/
def State.placeNib (s : State) (img b : List Byte) (n : Nat) : State :=
  let r := b.drop (16 * n)
  let i := fieldAt r 2 2
  if i = 0xFFFF then s
  else
    let part (o : Nat) : List Byte := (img.drop (fieldAt img (16 + 16 * i + o) 4)).take (fieldAt img (20 + 16 * i + o) 4)
    let s := s.setNib n { s.nibEng n with isram := Mem.writes [] 0 (part 0), dsram := Mem.writes [] 0 (part 8) }
    let s := (s.wr F.NIB_ENTRY_ADDR n (fieldAt r 4 4 / 2)).wr F.NIB_WDOG_WDOG_US n (fieldAt r 8 4)
    if bodyByte r 1 = 1 then s.nibStart n else s

/-- The hard sections that are global (R46 step 3). -/
def State.loadGlobal (s : State) (l : List Sect) (img : List Byte) : State :=
  let body (t : Nat) : List Byte := match sectFind l t 0xFF 0 with | some x => x.body | none => []
  let s := ((s.loadMemory (body 0x10) (body 0x11)).loadQueues (body 0x11)).loadRulers (body 0x12)
  let s := (List.range 10).foldl (fun (t : State) n => t.placeNib img (body 0x13) n) s
  let s := (List.range 24).foldl (fun (t : State) n => t.offerLoadRec n (loadRecAt (body 0x14) n)) s
  s.loadPower (body 0x15)

/-- The mode of an Ethernet port (R38); its equaliser fields start at the weights of its preset (04 R81). -/
def State.loadPort (s : State) (p : Nat) (r : List Byte) : State :=
  let fl := bodyByte r 2
  let w := serdesPreset (fieldAt r 4 2)
  let s := ((s.wr F.ETH_SERDES_TX_PRE p w.1).wr F.ETH_SERDES_TX_MAIN p w.2.1).wr F.ETH_SERDES_TX_POST p w.2.2
  let s := ((s.wr F.ETH_MODE_MODE p (bodyByte r 1)).wr F.ETH_MODE_SGMII_SPEED p (bodyByte r 3)).wr F.ETH_MODE_SERDES_PRESET p (fieldAt r 4 2)
  ((s.wrb F.ETH_MODE_RS_FEC p (fl.testBit 0)).wrb F.ETH_MODE_TAPER_ALLOWED p (fl.testBit 1)).wrb F.ETH_MODE_LPI_ALLOWED p (fl.testBit 2)

/-- The personality of a lane (R39), with PLCA_EN of a T1S lane (06 R128). -/
def State.loadLane (s : State) (n : Nat) (r : List Byte) : State :=
  let s := ((s.wr F.LSL_PERS_PERSONALITY n (bodyByte r 1)).wr F.LSL_PERS_ROLE n (bodyByte r 2)).wr F.LSL_PERS_AUX_POL n (bodyByte r 3)
  s.wrb F.LSL_T1S_CTL_PLCA_EN n (decide (bodyByte r 1 = 2) && (bodyByte r 2).testBit 0)

/-- Variant `v` of group `g` (R36): PORTS or LANES, and SECPOL, which falls back to variant 0. -/
def State.loadGroup (s : State) (l : List Sect) (g v : Nat) : State :=
  let body := match sectFind l (if g = 3 then 2 else 1) g v with | some x => x.body | none => []
  let sec := match (sectFind l 3 g v).or (sectFind l 3 g 0) with | some x => x.body | none => []
  let recAt (k : Nat) : List Byte := body.drop (8 * k)
  (List.range (groupSize g)).foldl (fun (t : State) k =>
    let t := if g = 3 then t.loadLane k (recAt k) else t.loadPort (groupBase g + k) (recAt k)
    let p := groupBase g + k
    { t with secpol := if bodyByte sec k = 1 then setBitN t.secpol p else clrBitN t.secpol p }) s

/-- The field of SCR_VARIANT of group `g`. -/
def varFld (g : Nat) : Fld := match g with | 0 => F.SCR_VARIANT_VAR_G0 | 1 => F.SCR_VARIANT_VAR_G1 | 2 => F.SCR_VARIANT_VAR_G2 | _ => F.SCR_VARIANT_VAR_G3

/-- Variant `v` of group `g` exists (R36). -/
def variantExists (l : List Sect) (g v : Nat) : Bool := (sectFind l (if g = 3 then 2 else 1) g v).isSome

/-- The groups at start: a variant that does not exist is replaced by variant 0 (R46 step 3). -/
def State.loadGroups (s : State) (l : List Sect) : State :=
  (List.range 4).foldl (fun (t : State) g =>
    let v := t.rd (varFld g) 0
    if variantExists l g v then t.loadGroup l g v else ((t.wr (varFld g) 0 0).wr F.SCR_STAT_LAST_ERR 0 0x0D).loadGroup l g 0) s

/-- A SOFTREG record takes effect (R43): (old and not MASK) or (VALUE and MASK). A lane of another personality ignores it. -/
def State.softReg (s : State) (r : Nat × Nat × Nat) : State :=
  match softField r.1 with
  | some (f, i) =>
    if r.1 < 0x600000 ∧ s.pers i ≠ 2 then s
    else
      let m := bits r.2.1 f.lo f.width
      let old := s.rd f i
      s.wr f i (old - (old &&& m) + (bits r.2.2 f.lo f.width &&& m))
  | none => s

/-- A table write that bypasses the update buffer (R46 step 4). -/
def State.directOp (s : State) (op : TblOp) : State :=
  let s := s.applyOp op
  match op with
  | .word t i w v =>
    let s := if t = 8 ∨ t = 9 then s.policerFull (t - 8) i else s
    if t = 0x10 ∨ t = 0x11 then { s with shadow := s.shadow.set 0 (rowKey t i) (putWord (s.shadow.get 0 (rowKey t i)) t w v.toNat) } else s
  | _ => s

/-- A word of a TABLEROWS record, written straight into its table at start. -/
def State.rowDirect (s : State) (a v : Nat) : State :=
  match portEntry a with
  | some n =>
    let s := { s with portHold := s.portHold.set 0 (a / 4) v }
    if a % n = n - 4 then
      (match s.portOp a with
        | some op => if s.opInRange op then (opEntries op).foldl State.directOp s else s
        | none => s)
    else s
  | none =>
    match winRow a with
    | some (t, i, w) => if rowReadOnly t w then s else s.directOp (.word t i w (BitVec.ofNat 32 v))
    | none => (s.winWrite a v).getD s

/-- The words of a record go to consecutive offsets. -/
def State.rowWords (s : State) (put : State → Nat → Nat → State) (r : RowRec) : State :=
  r.words.zipIdx.foldl (fun (t : State) w => put t (r.off + 4 * w.2) w.1) s

/-- The soft sections of a Scroll, in table order, with the way its table words are written. -/
def State.softSects (s : State) (put : State → Nat → Nat → State) (l : List Sect) : State :=
  l.foldl (fun (t : State) x =>
    if x.typ = 0x100 then (softRecs x.body).foldl State.softReg t
    else if x.typ = 0x101 then x.rows.foldl (fun (u : State) r => u.rowWords put r) t
    else t) s

/-- The records A and B of the soft slot of the active bank. -/
def State.activeBank (s : State) : Bank := s.flash.banks.get Bank.init (s.rd F.GLB_BOOT_STAT_ACTIVE_BANK 0)
def State.setActiveBank (s : State) (b : Bank) : State :=
  { s with flash := { s.flash with banks := s.flash.banks.set Bank.init (s.rd F.GLB_BOOT_STAT_ACTIVE_BANK 0) b } }

/-- The valid records, the newer one first (R51). -/
def State.softRecords (s : State) : List (Nat × SoftRec) :=
  match s.activeBank.soft.filter (fun r => s.softValid r.2) with
  | [a, b] => if serialNewer b.2.seq a.2.seq then [b, a] else [a, b]
  | l => l

/-- The persisted soft Scroll at start (R46 step 4, R51). DESIGN CHOICE: R51 names SOFT_REJECTED as the sign of a persisted soft Scroll
that fails its checks; LAST_ERR and SCR_ERR_INFO, which R447 sets for a failed check "at start (R46)", keep what the base Scroll's load
left in them. -/
def State.loadPersisted (s : State) : State :=
  match s.softRecords.find? (fun r => decide ((r.2.bytes.drop 32).take 48 = hardDigest s.scr.base)) with
  | some (_, r) =>
    let s := s.softSects State.rowDirect (scrollSects r.bytes)
    let s := (s.wr F.SCR_STAT_SOFT_ACTIVE 0 1).wr F.SCR_SOFT_VERSION_VALUE 0 (fieldAt r.bytes 28 4)
    { s with scr := { s.scr with inForce := some (r.bytes.take (fieldAt r.bytes 16 4)) } }
  | none => if s.activeBank.soft.isEmpty then s else s.wr F.SCR_STAT_SOFT_REJECTED 0 1

/-- The ports of group `g` are enabled: RX_EN and TX_EN of an Ethernet port with MODE ≠ 0, EN of a lane (04 ETH_CTL, 05, 06). -/
def State.enableGroup (s : State) (g : Nat) : State :=
  (groupPorts g).foldl (fun (t : State) p =>
    if g < 3 then
      (if t.rd F.ETH_MODE_MODE p = 0 then t else (t.wr F.ETH_CTL_RX_EN p 1).wr F.ETH_CTL_TX_EN p 1)
    else
      let n := p - 40
      let t := t.setArmed n false
      if t.pers n = 1 then t.canEnable n
      else if t.pers n = 2 then (t.wr F.LSL_T1S_CTL_EN n 1).t1sConfigured n
      else if t.pers n = 3 then (t.wr F.LSL_MVB_CTL_EN n 1).mvbConfigured n false
      else t) s

/-- Steps 3 to 5 of R46: a base Scroll that passed its checks is applied, with the Nib image of its set. -/
def State.applyBase (s : State) (bs img : List Byte) : State :=
  let l := scrollSects bs
  let s := { s with scr := { s.scr with base := l.filter (fun x => !softType x.typ) } }
  let s := (s.wr F.SCR_ID_VALUE 0 (fieldAt bs 24 4)).wr F.SCR_VERSION_VALUE 0 (fieldAt bs 28 4)
  let s := (s.loadGlobal l img).loadGroups l
  let s := ((s.softSects State.rowDirect l).loadPersisted).bumpNow
  (List.range 4).foldl (fun (t : State) g => t.enableGroup g) (s.wr F.SCR_STAT_LOADED 0 1)

/-- A failed check is reported (R447). -/
def State.scrFail (s : State) (e : ScrErr) : State :=
  ((s.wr F.SCR_STAT_LAST_ERR 0 e.1).wr F.SCR_ERR_INFO_SECTION 0 e.2.1).wr F.SCR_ERR_INFO_RECORD 0 e.2.2

/-- The last command or restructure has finished. -/
def State.scrDone (s : State) : State := s.wr F.SCR_STAT_DONE 0 1

/-! ## Soft Scrolls (R49 to R52) -/

/-- The entry writes of a soft Scroll that go through the update buffer (08 R188). -/
def entryWrites (l : List Sect) : Nat :=
  let word (a : Nat) : Nat :=
    match portEntry a with
    | some n => if a % n = n - 4 then (if a / 0x1000 = 0x1380 ∨ a / 0x1000 = 0x1381 then 2 else 1) else 0
    | none => if (winRow a).isSome then 1 else 0
  let rowSum (r : RowRec) : Nat := (List.range r.n).foldl (fun n k => n + word (r.off + 4 * k)) 0
  (l.filter (fun x => decide (x.typ = 0x101))).foldl (fun n x => x.rows.foldl (fun m r => m + rowSum r) n) 0

/-- The Scroll in the staging window. DESIGN CHOICE: SCR_STAGE_LEN names no check of LEN; one above 524,288 acts as 524,288, and one
above TOTAL_LEN is accepted. -/
def State.staged (s : State) : List Byte := s.staging.read 0 (min (s.rd F.SCR_STAGE_LEN_LEN 0) 524288)

/-- The checks of an apply; table writes must fit into the update buffer. -/
def State.applyErr (s : State) (bs : List Byte) : Option ScrErr :=
  (s.softErr true bs).or (if 2048 < entryWrites (scrollSects bs) + s.pendingWrites then some (errAll 0x07) else none)

/-- A restructure that waits for the end of a soft apply starts, when its domain is free (R53). -/
def State.startWaiting (s : State) : State :=
  [Domain.forwarding, Domain.fields].foldl (fun (t : State) d =>
    let x := t.recov.of d
    match x.running, x.waiting with
    | none, .restructure g v :: rest => { t with recov := t.recov.put d { x with running := some (.restructure g v), waiting := rest } }
    | _, _ => t) s

/-- A restructure is in progress: commanded, and not yet finished. -/
def State.restructuring (s : State) : Bool := s.on F.SCR_STAT_RESTRUCT_BUSY 0

/-- An apply begins: the staged Scroll is checked; a failure ends the apply. The entry writes that a verified one needs are kept for it
in the update buffer until its commit, so that it is committed as one unit (R50). -/
def State.applyBegin (s : State) : State :=
  let bs := s.staged
  match s.applyErr bs with
  | some e => (((s.scrFail e).wr F.SCR_STAT_APPLYING 0 0).scrDone).startWaiting
  | none => { s with scr := { s.scr with applying := some bs, room := entryWrites (scrollSects bs) } }

/-- SCROLL_APPLY: SCR_CMD with APPLY alone. -/
def execScrollApply (s : State) : Out :=
  if s.on F.SCR_STAT_APPLYING 0 || s.on F.SCR_STAT_PERSISTING 0 then .next (s.wr F.SCR_STAT_LAST_ERR 0 0x0B)
  else
    let s := (s.wr F.SCR_STAT_LAST_ERR 0 0).wr F.SCR_STAT_APPLYING 0 1
    if s.restructuring then .next { s with scr := { s.scr with applyWait := true } } else .next s.applyBegin

/-- The place that a persist writes and its SEQ (R51). -/
def State.persistPlace (s : State) : Nat × Nat :=
  match s.softRecords with
  | [(p, r)] => (1 - p, (r.seq + 1) % 2 ^ 32)
  | [(p, r), _] => (1 - p, (r.seq + 1) % 2 ^ 32)
  | _ => (0, 1)

/-- SCROLL_PERSIST: SCR_CMD with PERSIST alone. The header sector is erased first, so the place is empty until the write is done. -/
def execScrollPersist (s : State) : Out :=
  if s.on F.SCR_STAT_APPLYING 0 || s.on F.SCR_STAT_PERSISTING 0 then .next (s.wr F.SCR_STAT_LAST_ERR 0 0x0B)
  else match s.scr.inForce with
    | none => .next ((s.wr F.SCR_STAT_LAST_ERR 0 0x11).scrDone)
    | some _ =>
      let p := s.persistPlace
      let s := (s.wr F.SCR_STAT_LAST_ERR 0 0).wr F.SCR_STAT_PERSISTING 0 1
      let b := s.activeBank
      let s := s.setActiveBank { b with soft := b.soft.erase p.1 }
      .next { s with scr := { s.scr with persist := some p } }

/-- PERSIST_DONE: the slot has been written and read back, or the flash failed (LAST_ERR 0x0F). -/
def execPersistDone (ok : Bool) (s : State) : Out :=
  match s.scr.persist, s.scr.inForce with
  | some p, some bs =>
    let b := s.activeBank
    let s := if ok then s.setActiveBank { b with soft := b.soft.put p.1 ⟨p.2, bs⟩ } else s.wr F.SCR_STAT_LAST_ERR 0 0x0F
    let s := (s.wr F.SCR_STAT_PERSISTING 0 0).scrDone
    .next { s with scr := { s.scr with persist := none } }
  | _, _ => .next s

/-! ## Restructures (R53, R54) -/

/-- RESTRUCTURE: SCR_RESTRUCT written with GO. -/
def execRestructure (g : BitVec 2) (v : BitVec 3) (s : State) : Out :=
  let g := g.toNat
  let v := v.toNat
  if s.restructuring then .next (s.wr F.SCR_STAT_LAST_ERR 0 0x0B)
  else if s.locked then .next (s.wr F.SCR_STAT_LAST_ERR 0 0x0C)
  else if !variantExists s.scr.base g v then .next (s.wr F.SCR_STAT_LAST_ERR 0 0x0D)
  else if 2 ≤ s.rd F.PWR_STAT_STATE 0 ∨ s.phase ≠ .running then .next (s.wr F.SCR_STAT_LAST_ERR 0 0x10)
  else
    let s := ((s.wr F.SCR_RESTRUCT_GO 0 1).wr F.SCR_RESTRUCT_GROUP 0 g).wr F.SCR_RESTRUCT_VARIANT 0 v
    let s := ((s.wr F.SCR_STAT_RESTRUCT_BUSY 0 1).wr F.SCR_STAT_RESTRUCT_GROUP 0 g).wr F.SCR_STAT_LAST_ERR 0 0
    let s := { s with scr := { s.scr with stage := 0, took := [] } }.request (groupDomain g) (.restructure g v)
    .next (if s.on F.SCR_STAT_APPLYING 0 then s else s.startWaiting)

/-- The restructure that runs: group and variant. -/
def State.runningRestructure (s : State) : Option (Nat × Nat) :=
  match s.recov.forwarding.running, s.recov.fields.running with
  | some (.restructure g v), _ => some (g, v)
  | _, some (.restructure g v) => some (g, v)
  | _, _ => none

/-- A lane of a group that is restructured has stopped: it leaves its bus, and its queues are flushed. -/
def State.laneStop (s : State) (n : Nat) : State :=
  let s := if s.pers n = 1 then (s.wr F.LSL_CAN_CTL_EN n 0).canStopped n
    else if s.pers n = 2 then (((s.t1sReturn n).setT1s n T1sLane.init).wr F.LSL_T1S_CTL_EN n 0).wr F.LSL_T1S_STAT_LINK n 0
    else if s.pers n = 3 then ((s.setMvb n MvbLane.init).wr F.LSL_MVB_CTL_EN n 0).wr F.LSL_MVB_STAT_LINK n 0
    else s
  s.queuesDown (40 + n) true

/-- RESTRUCT_STOPPED: steps 1 and 2 of R54. -/
def execRestructStopped (s : State) : Out :=
  match s.runningRestructure with
  | some (g, _) =>
    if s.scr.stage ≠ 0 then .next s
    else
      let s := (groupPorts g).foldl (fun (t : State) p =>
        if p < 40 then ((t.portDown p true).strokeDropPort p).queuesDown p true else t.laneStop (p - 40)) s
      .next { s with scr := { s.scr with stage := 1 } }
  | none => .next s

/-- The modes of group `g`'s ports have been loaded: the pairs among the trunk ports may act otherwise (13 R288). -/
def State.pairsLoaded (s : State) (g : Nat) : State := if g = 0 then (List.range 4).foldl State.pairChange s else s

/-- RESTRUCT_LOADED: step 3. -/
def execRestructLoaded (s : State) : Out :=
  match s.runningRestructure with
  | some (g, v) =>
    if s.scr.stage ≠ 1 then .next s
    else .next (State.pairsLoaded { (s.loadGroup s.scr.base g v).wr (varFld g) 0 v with scr := { s.scr with stage := 2 } } g)
  | none => .next s

/-- Step 4 of R54. -/
def State.restructEnd (s : State) (g v : Nat) : State :=
  let s := s.endRecovery (groupDomain g) (.restructure g v)
  let s := { s with scr := { s.scr with stage := 0 } }
  let s := (s.enableGroup g).wr F.SCR_STAT_RESTRUCT_BUSY 0 0
  (s.wr F.SCR_RESTRUCT_GO 0 0).scrDone

/-- SCROLL_LOCK: SCR_LOCK is set. -/
def execScrollLock (s : State) : Out := .next (s.wr F.SCR_LOCK_LOCK 0 1)

end Sys2Proof.Machine
end

