-- ==== Sys2Proof/Machine/Flash.lean ====
section
/-! DEFINITION. The records of the flash beside its banks and its key region (spec 22 R423, R426). -/
namespace Sys2Proof.Machine

/-! ## Commit records (R423) -/

/-- Bytes 0 to 63 of a commit record whose byte 9 is `conf`. -/
def CommitRec.body (r : CommitRec) (conf : Byte) : List Byte :=
  beBytes 4 0x434D5431 ++ beBytes 4 r.seq ++ beBytes 1 r.bank ++ [conf] ++ beBytes 2 0 ++ beBytes 4 r.version ++ (r.digest ++ List.replicate 48 0).take 48

/-- The 68 bytes of a commit record. -/
def CommitRec.bytes (r : CommitRec) : List Byte :=
  r.body (if r.confirmed then 0x00 else 0xFF) ++ beBytes 4 (crc32c (r.body 0xFF))

/-- The content of the bytes of a commit record, if it is valid: MAGIC and CRC, byte 9 taken as 0xFF. -/
def commitOf (b : List Byte) : Option CommitRec :=
  if fieldAt b 0 4 = 0x434D5431 ∧ fieldAt b 64 4 = crc32c (b.take 9 ++ [0xFF] ++ (b.drop 10).take 54) then
    some ⟨fieldAt b 4 4, fieldAt b 8 1, decide (fieldAt b 9 1 = 0), fieldAt b 12 4, (b.drop 16).take 48⟩
  else none

/-- The valid commit record at a place. -/
def State.commitAt (s : State) (p : Nat) : Option CommitRec := (s.flash.commits.find p).bind commitOf

/-! ## The TOMBSTONE record (R426) -/

/-- Bytes 0 to 15 of a TOMBSTONE record. -/
def Tomb.body (t : Tomb) : List Byte :=
  beBytes 4 0x544F4D42 ++ beBytes 1 t.code ++ beBytes 1 t.bank ++ beBytes 2 0 ++ beBytes 4 t.version ++ beBytes 4 t.rtc

/-- Its 20 bytes. -/
def Tomb.bytes (t : Tomb) : List Byte := t.body ++ beBytes 4 (crc32c t.body)

/-- The TOMBSTONE record, if it is valid: MAGIC and CRC. -/
def State.tombstone (s : State) : Option Tomb :=
  let b := s.flash.tomb
  if fieldAt b 0 4 = 0x544F4D42 ∧ fieldAt b 16 4 = crc32c (b.take 16) then
    some ⟨fieldAt b 4 1, fieldAt b 5 1, fieldAt b 8 4, fieldAt b 12 4⟩
  else none

end Sys2Proof.Machine
end

