-- ==== Sys2Proof/Machine/Resets.lean ====
section
/-! DEFINITION. What each reset domain clears and keeps (spec 03 R63). -/
namespace Sys2Proof.Machine

/-- A main-die reset clears all main-die state but the RWS fields, GLB_RST_CAUSE and the MVB poll lists; it keeps all power-die and non-volatile state (03 R63). -/
def State.mainClear (s : State) : State :=
  { State.reset with
    regs := s.regs.from keptBase
    now := s.now
    freeCtr := s.freeCtr
    answer := s.answer
    ferrule := s.ferrule
    pd := s.pd
    phase := s.phase
    maintLow := s.maintLow
    hostMem := s.hostMem
    rtcFrac := s.rtcFrac
    loads := s.loads
    vldDip := s.vldDip
    pdConfig := s.pdConfig
    pdConfigWait := s.pdConfigWait
    retryHold := s.retryHold
    plogCopy := s.plogCopy
    fltBeat := s.fltBeat
    stopped := s.stopped
    flash := s.flash
    mvbPoll := s.mvbPoll
    aocArmed := s.aocArmed
    kucHigh := s.kucHigh
    fleetRevoked := s.fleetRevoked
    keyFlash := s.keyFlash
    tamperFlag := s.tamperFlag
    tampRec := s.tampRec
    warned := s.warned
    xtalStopped := s.xtalStopped
    rtcAcc := s.rtcAcc
    pending := s.pending }

/-- A main-die power-on reset clears all main-die state, RWS fields included; it keeps all power-die and non-volatile state (03 R63), main-die absent among it. -/
def State.mainPorClear (s : State) : State :=
  { State.reset with
    regs := s.regs.from powerBase
    now := s.now
    freeCtr := s.freeCtr
    answer := s.answer
    ferrule := { s.ferrule with everUp := false }
    pd := s.pd
    phase := s.phase
    maintLow := s.maintLow
    hostMem := s.hostMem
    rtcFrac := s.rtcFrac
    loads := s.loads
    vldDip := s.vldDip
    pdConfig := s.pdConfig
    pdConfigWait := s.pdConfigWait
    retryHold := s.retryHold
    plogCopy := s.plogCopy
    fltBeat := s.fltBeat
    stopped := s.stopped
    flash := s.flash
    aocArmed := s.aocArmed
    kucHigh := s.kucHigh
    fleetRevoked := s.fleetRevoked
    keyFlash := s.keyFlash
    tamperFlag := s.tamperFlag
    tampRec := s.tampRec
    warned := s.warned
    xtalStopped := s.xtalStopped
    rtcAcc := s.rtcAcc
    pending := s.pending }

/-- A power-die power-on reset clears all power-die state as well; only non-volatile state stays (03 R63). -/
def State.powerPorClear (s : State) : State :=
  { State.reset with
    regs := s.regs.from nvBase
    now := s.now
    freeCtr := s.freeCtr
    answer := s.answer
    phase := s.phase
    maintLow := s.maintLow
    hostMem := s.hostMem
    flash := s.flash
    kucHigh := s.kucHigh
    fleetRevoked := s.fleetRevoked
    keyFlash := s.keyFlash
    tamperFlag := s.tamperFlag
    pending := s.pending }

/-- A main-die reset (03 R63, R64): the cause and, for a CRITICAL fault, its source are captured; the
Ferrule link falls silent; cause FORCE of the fault pair is cleared (21 R417). -/
def State.mainReset (s : State) (cause src : Nat) : State :=
  let s := s.mainClear
  let s := { s with phase := .held, ferrule := { s.ferrule with up := false } }
  let s := (s.wr F.GLB_RST_CAUSE_CAUSE 0 cause).wr F.GLB_RST_CAUSE_BLT_SOURCE 0 src
  s.wr F.BLT_FLT_STAT_FORCE 0 0

/-- The main die loses its supply: INH_OUT is low, and all main-die state is lost; cause FORCE of the fault pair is cleared (21 R417). -/
def State.mainOff (s : State) : State :=
  let s := s.mainPorClear.wr F.BLT_FLT_STAT_FORCE 0 0
  { s with phase := .off, ferrule := { s.ferrule with up := false }, pd := { s.pd with inh := false } }

end Sys2Proof.Machine
end

