-- ==== Sys2Proof/Machine/Update.lean ====
section
/-! DEFINITION. Field update (spec 22): the manifest, staging, activation, confirmation, the authorisation of maintenance, and the
maintenance UART (03 R70). -/
namespace Sys2Proof.Machine

/-! ## The flash (22 R418, R423) -/

/-- A bank. -/
def State.bank (s : State) (b : Nat) : Bank := s.flash.banks.get Bank.init b

/-- The state with it replaced. -/
def State.setBank (s : State) (b : Nat) (x : Bank) : State := { s with flash := { s.flash with banks := s.flash.banks.set Bank.init b x } }

/-- The record in force: the valid one with the newer SEQ, with its place. -/
def State.recordInForce (s : State) : Option (Nat × CommitRec) :=
  match s.commitAt 0, s.commitAt 1 with
  | some a, some b => some (if serialNewer b.seq a.seq then (1, b) else (0, a))
  | some a, none => some (0, a)
  | none, some b => some (1, b)
  | none, none => none

/-- The bank running, and the inactive one. -/
def State.activeNo (s : State) : Nat := s.rd F.UPD_STAT_ACTIVE_BANK 0
def State.inactiveNo (s : State) : Nat := 1 - s.activeNo

/-- Sheet `i` of a bank as flash holds it: erased bytes where it is absent. -/
def Bank.sheet (b : Bank) (i : Nat) : List Byte := b.sheets.get (List.replicate 4096 0xFF) i

/-! ## The manifest (R419, R420) -/

/-- SHEET_COUNT and SET_VERSION of a manifest, and the hash of sheet `i`. -/
def manSheets (m : List Byte) : Nat := fieldAt m 20 4
def manVersion (m : List Byte) : Nat := fieldAt m 16 4
def manHash (m : List Byte) (i : Nat) : List Byte := (m.drop (448 + 48 * i)).take 48

/-- Part entry `k`. -/
def manPart (m : List Byte) (k : Nat) : List Byte := (m.drop (64 + 64 * k)).take 64

/-- The part entry of a TYPE. -/
def partOf (m : List Byte) (t : Nat) : Option (List Byte) := ((List.range 6).map (manPart m)).find? (fun e => decide (fieldAt e 0 1 = t))

/-- OFFSET and LENGTH of a part entry. -/
def partOff (e : List Byte) : Nat := fieldAt e 4 4
def partLen (e : List Byte) : Nat := fieldAt e 8 4

/-- LENGTH of the part of a TYPE, 0 without one. -/
def lenOf (m : List Byte) (t : Nat) : Nat := match partOf m t with | some e => partLen e | none => 0

/-- The part entries keep R420. -/
def partsOk (m : List Byte) : Bool :=
  let l := (List.range 6).map (manPart m)
  (List.range 6).all (fun t => decide ((l.filter (fun e => decide (fieldAt e 0 1 = t + 1))).length = 1))
    && l.all (fun e => decide (fieldAt e 1 3 = 0) && decide (fieldAt e 60 4 = 0) && decide (partOff e % 4096 = 0)
      && decide (partOff e + partLen e ≤ manSheets m * 4096))
    && (List.range 6).all (fun i => (List.range i).all (fun j =>
      let a := manPart m i
      let b := manPart m j
      decide (partLen a = 0) || decide (partLen b = 0) || decide (partOff a + partLen a ≤ partOff b) || decide (partOff b + partLen b ≤ partOff a)))
    && decide (lenOf m 1 ≤ 262144) && decide (lenOf m 2 + lenOf m 3 ≤ 4194304) && decide (lenOf m 4 ≤ 4194304)
    && decide (lenOf m 5 = 224) && decide (lenOf m 6 ≤ 65536)

/-- The format of a manifest (code 0x01). -/
def manFormatOk (m : List Byte) : Bool :=
  let n := manSheets m
  let sig := fieldAt m 28 4
  decide (fieldAt m 0 4 = 0x4D4E4631) && decide (fieldAt m 4 2 = 1) && decide (fieldAt m 6 2 = 6) && decide (manVersion m ≠ 0)
    && decide (1 ≤ n) && decide (n ≤ 3584) && decide (sig = 448 + 48 * n) && decide (m.length = sig + 112) && decide (fieldAt m 32 32 = 0)
    && partsOk m && decide (fieldAt m sig 2 = 1) && decide (fieldAt m (sig + 2) 2 = 0) && decide (fieldAt m (sig + 4) 4 = fieldAt m 24 4)
    && decide (fieldAt m (sig + 104) 8 = 0)

/-- The checks of a manifest in the order of their codes, 0 when all pass; `above` is the version that SET_VERSION must exceed. -/
def State.manErr (s : State) (m : List Byte) (above : Option Nat) : Nat :=
  if !manFormatOk m then 0x01
  else if fieldAt m 8 4 ≠ 0x56476412 then 0x02
  else if 0x0100 < fieldAt m 12 2 then 0x03
  else if (match above with | some v => decide (manVersion m ≤ v) | none => false) then 0x04
  else match s.sigErr m (fieldAt m 28 4) with
    | some 0x0E => 0x05
    | some _ => 0x06
    | none => 0

/-- The bytes of the part of a TYPE in a bank. -/
def Bank.part (b : Bank) (t : Nat) : List Byte :=
  match partOf b.man t with
  | some e => ((List.range ((partLen e + 4095) / 4096)).flatMap (fun i => b.sheet (partOff e / 4096 + i))).take (partLen e)
  | none => []

/-- The digest of the part of a TYPE matches its entry. -/
def Bank.partGood (b : Bank) (t : Nat) : Bool :=
  match partOf b.man t with
  | some e => decide (fit 48 (sha384 (b.part t)) = (e.drop 12).take 48)
  | none => false

/-! ## Commands (R421) -/

/-- A command is refused with a code; a command has finished. -/
def State.updRefuse (s : State) (code : Nat) : State := (s.wr F.UPD_STAT_LAST_ERR 0 code).evt F.UPD_STAT_REFUSED_EVT 0
def State.updDone (s : State) : State := (s.wr F.UPD_STAT_LAST_ERR 0 0).evt F.UPD_STAT_DONE_EVT 0

/-- In recovery mode only CHALLENGE and AUTH are accepted before AUTH has passed (R427). -/
def State.updBarred (s : State) : Bool := decide (s.phase = .recovery) && !s.on F.UPD_STAT_AUTHED 0

/-- A set is staged: STAGE has passed since the start. -/
def State.updStaged (s : State) : Bool := s.on F.UPD_STAGED_VER_VALUE 0

/-- Registers that show the staged set. -/
def State.updShow (s : State) : State :=
  let b := s.bank s.inactiveNo
  (s.wr F.UPD_PROGRESS_PRESENT 0 b.sheets.length).wr F.UPD_PROGRESS_TOTAL 0 (manSheets b.man)

/-- STAGE of the manifest in the manifest window; `ok`: the flash took the writes. -/
def State.updStage (s : State) (ok : Bool) : State :=
  let m := s.manWin.read 0 (min (s.rd F.UPD_LEN_LEN 0) 262144)
  if s.updBarred then s.updRefuse 0x0E
  else
    let e := s.manErr m (some (s.rd F.UPD_ACTIVE_VER_VALUE 0))
    if e ≠ 0 then s.updRefuse e
    else
      let b := s.bank s.inactiveNo
      if b.man ≠ [] ∧ fit 48 (sha384 b.man) = fit 48 (sha384 m) then
        ((s.wr F.UPD_STAGED_VER_VALUE 0 (manVersion m)).updShow).updDone
      else
        let s := s.wr F.UPD_STAT_READY 0 0
        if ok then (((s.setBank s.inactiveNo ⟨m, [], []⟩).wr F.UPD_STAGED_VER_VALUE 0 (manVersion m)).updShow).updDone
        else (((s.setBank s.inactiveNo Bank.init).wr F.UPD_STAGED_VER_VALUE 0 0).updShow).updRefuse 0x09

/-- SHEET with INDEX. -/
def State.updSheet (s : State) (i : Nat) (ok : Bool) : State :=
  let n := s.inactiveNo
  let b := s.bank n
  let bytes := s.sheetBuf.read 0 4096
  if s.updBarred then s.updRefuse 0x0E
  else if !s.updStaged then s.updRefuse 0x0A
  else if manSheets b.man ≤ i then s.updRefuse 0x07
  else if fit 48 (sha384 bytes) ≠ manHash b.man i then (s.wr F.UPD_BAD_SHEET_INDEX 0 i).updRefuse 0x08
  else if (b.sheets.find i).isSome then s.updDone
  else if !ok then (s.wr F.UPD_BAD_SHEET_INDEX 0 i).updRefuse 0x09
  else ((s.setBank n { b with sheets := b.sheets.put i bytes }).updShow).updDone

/-- VERIFY: `bad` are sheets that flash no longer holds as written. -/
def State.updVerify (s : State) (bad : List Nat) : State :=
  if s.updBarred then s.updRefuse 0x0E
  else if !s.updStaged then s.updRefuse 0x0A
  else
    let n := s.inactiveNo
    let b := s.bank n
    let good (i : Nat) : Bool := match b.sheets.find i with
      | some x => decide (fit 48 (sha384 x) = manHash b.man i) && !bad.contains i
      | none => false
    let failed := (List.range (manSheets b.man)).filter (fun i => !good i)
    let s := s.wr F.UPD_STAT_READY 0 0
    if failed = [] ∧ (List.range 6).all (fun t => b.partGood (t + 1)) = true then (s.wr F.UPD_STAT_READY 0 1).updDone
    else
      let s := match failed.getLast? with | some i => s.wr F.UPD_BAD_SHEET_INDEX 0 i | none => s
      ((s.setBank n { b with sheets := b.sheets.filter (fun e => !failed.contains e.1) }).updShow).updRefuse 0x0D

/-- The place that a COMMIT writes: that of the older or of an invalid record. -/
def State.commitPlace (s : State) : Nat := match s.recordInForce with | some (p, _) => 1 - p | none => 0

/-- COMMIT without its reset (R423, R429): the state, and whether the record has been written and read back. -/
def State.updCommit (s : State) (ok : Bool) : State × Bool :=
  if s.updBarred then (s.updRefuse 0x0E, false)
  else if s.on F.SCR_STAT_PERSISTING 0 || s.on F.KEY_STAT_BUSY 0 then (s.updRefuse 0x10, false)
  else if s.on F.UPD_STAT_CONFIRM_PENDING 0 then (s.updRefuse 0x11, false)
  else if !s.on F.UPD_STAT_READY 0 then (s.updRefuse 0x0C, false)
  else
    let p := s.commitPlace
    let m := (s.bank s.inactiveNo).man
    let seq := match s.recordInForce with | some (_, r) => (r.seq + 1) % 2 ^ 32 | none => 1
    if !ok then ({ s with flash := { s.flash with commits := s.flash.commits.erase p } }.updRefuse 0x09, false)
    else
      let c := s.flash.commits.put p (CommitRec.bytes ⟨seq, s.inactiveNo, false, manVersion m, fit 48 (sha384 m)⟩)
      let t := if s.phase = .recovery then [] else s.flash.tomb
      ((({ s with flash := { s.flash with commits := c, tomb := t } } : State).wr F.UPD_COMMIT_SEQ_VALUE 0 seq).updDone, true)

/-- The commit records that name the active bank, byte 9 programmed to 0x00 (R425). -/
def State.confirmedRecs (s : State) : Tbl (List Byte) :=
  s.flash.commits.map (fun e => (e.1, match commitOf e.2 with
    | some r => if r.bank = s.activeNo then e.2.set 9 0x00 else e.2
    | none => e.2))

/-- CONFIRM (R425). -/
def State.updConfirm (s : State) (ok : Bool) : State :=
  if s.updBarred then s.updRefuse 0x0E
  else if !ok then s.updRefuse 0x09
  else
    let s := { s with flash := { s.flash with commits := s.confirmedRecs }, upd := { s.upd with confirmAt := none } }
    (s.wr F.UPD_STAT_CONFIRM_PENDING 0 0).updDone

/-- The nonce in force. -/
def State.nonce (s : State) : List Byte := (List.range 4).flatMap (fun n => beBytes 4 (s.rd F.UPD_NONCE_BYTES n))

/-- AUTH with an authorisation of 100 bytes (R427). -/
def State.updAuth (s : State) (a : List Byte) : State :=
  match s.fleetPos (fieldAt a 0 4) with
  | none => s.updRefuse 0x05
  | some k =>
    let msg : List Byte := [0x56, 0x47, 0x4E, 0x2D, 0x4D, 0x41, 0x49, 0x4E, 0x54] ++ fit 16 Config.uid ++ s.nonce
    if ecdsaVerify (Config.fleetKey k) msg ((a.drop 4).take 96) then (s.wr F.UPD_STAT_AUTHED 0 1).updDone else s.updRefuse 0x06

/-- CHALLENGE (R427): a new nonce; any authorisation ends. Without random bits it is refused (14 R314). -/
def State.updChallenge (s : State) : State :=
  if s.trngFail then s.updRefuse 0x0F
  else
    let r := s.random 16
    let s := (List.range 4).foldl (fun (t : State) n => t.wr F.UPD_NONCE_BYTES n (beNat ((r.2.drop (4 * n)).take 4))) r.1
    (s.wr F.UPD_STAT_AUTHED 0 0).updDone

def execUpdStage (ok : Bool) (s : State) : Out := .next (s.updStage ok)
def execUpdSheet (i : BitVec 12) (ok : Bool) (s : State) : Out := .next (s.updSheet i.toNat ok)
def execUpdVerify (bad : List (BitVec 12)) (s : State) : Out := .next (s.updVerify (bad.map BitVec.toNat))

/-- UPD_COMMIT; with RESTART the main die is then reset as GLB_RST.MAIN does. -/
def execUpdCommit (restart ok : Bool) (s : State) : Out :=
  let r := s.updCommit ok
  .next (if restart && r.2 then r.1.mainReset 4 0 else r.1)

/-- UPD_ABORT: every command has ended by the next row; READY is cleared. -/
def execUpdAbort (s : State) : Out := .next (if s.updBarred then s.updRefuse 0x0E else (s.wr F.UPD_STAT_READY 0 0).updDone)
def execUpdConfirm (ok : Bool) (s : State) : Out := .next (s.updConfirm ok)

/-- UPD_AUTH: the authorisation in the sheet buffer. -/
def execUpdAuth (s : State) : Out := .next (s.updAuth (s.sheetBuf.read 0 100))
def execUpdChallenge (s : State) : Out := .next s.updChallenge

/-! ## The maintenance UART (03 R70, 22 R428) -/

/-- The CRC of a UART frame of a TYPE. -/
def uartCrc (typ : Nat) (p : List Byte) : Nat := crc16 0xFFFF (beBytes 1 typ ++ beBytes 2 p.length ++ p)

/-- A REPLY frame. -/
def uartFrame (typ : Nat) (p : List Byte) : List Byte := [0x7E] ++ beBytes 1 typ ++ beBytes 2 p.length ++ p ++ beBytes 2 (uartCrc typ p)

/-- The device answers with a REPLY. -/
def State.uartReply (s : State) (status : Nat) (rest : List Byte) : State :=
  { s with upd := { s.upd with reply := uartFrame 0x80 (beBytes 1 status ++ rest) } }

/-- The reply to a frame of R428: its status follows LAST_ERR, which is its second byte. -/
def State.uartResult (s : State) : State :=
  let e := s.rd F.UPD_STAT_LAST_ERR 0
  s.uartReply (if e = 0 then 0x00 else if e = 0x0E then 0x02 else 0x03) (beBytes 1 e)

/-- A frame of a TYPE reaches the UART, which is active in recovery mode: a bad CRC is answered 0x01. `r428`: its reply carries LAST_ERR. -/
def State.uartTake (s : State) (typ : Nat) (p : List Byte) (crc : Nat) (r428 : Bool) (act : State → State) : State :=
  if s.phase ≠ .recovery then s
  else if crc ≠ uartCrc typ p then s.uartReply 0x01 (if r428 then beBytes 1 (s.rd F.UPD_STAT_LAST_ERR 0) else [])
  else act s

/-- A frame that needs the authorisation. -/
def State.uartAuthed (s : State) (act : State → State) : State := if s.updBarred then (s.updRefuse 0x0E).uartResult else act s

/-- A frame whose payload has a wrong form is refused. -/
def State.uartRefuse (s : State) : State := s.uartReply 0x03 (beBytes 1 (s.rd F.UPD_STAT_LAST_ERR 0))

/-- GLB_BOOT_STAT. -/
def State.bootStat (s : State) : Nat :=
  s.rd F.GLB_BOOT_STAT_FAIL_CODE 0 * 2 ^ 8 + s.rd F.GLB_BOOT_STAT_MAINT_STRAP 0 * 2 ^ 7 + s.rd F.GLB_BOOT_STAT_ADOPTED 0 * 2 ^ 6
    + s.rd F.GLB_BOOT_STAT_TAMPER_REFUSED 0 * 2 ^ 5 + s.rd F.GLB_BOOT_STAT_ACTIVE_BANK 0 * 2 ^ 4 + s.rd F.GLB_BOOT_STAT_STAGE 0

def execUartHello (p : List Byte) (crc : BitVec 16) (s : State) : Out :=
  .next (s.uartTake 0x01 p crc.toNat false (fun t =>
    t.uartReply 0x00 (beBytes 4 0x56476412 ++ beBytes 4 t.devRev ++ fit 16 Config.uid ++ beBytes 4 t.bootStat)))

def execUartChallenge (p : List Byte) (crc : BitVec 16) (s : State) : Out :=
  .next (s.uartTake 0x02 p crc.toNat false (fun t =>
    if t.trngFail then (t.updChallenge).uartReply 0x03 [] else (t.updChallenge).uartReply 0x00 t.updChallenge.nonce))

def execUartAuth (p : List Byte) (crc : BitVec 16) (s : State) : Out :=
  .next (s.uartTake 0x03 p crc.toNat true (fun t => if p.length ≠ 100 then t.uartRefuse else (t.updAuth p).uartResult))

/-- UART_MANIFEST: the bytes go to the manifest window; the frame that completes TOTAL runs STAGE. -/
def execUartManifest (p : List Byte) (crc : BitVec 16) (ok : Bool) (s : State) : Out :=
  .next (s.uartTake 0x04 p crc.toNat true (fun t => t.uartAuthed (fun t =>
    let off := fieldAt p 0 4
    let total := fieldAt p 4 4
    let n := p.length - 8
    if p.length < 8 ∨ 4096 < n ∨ 262144 < total ∨ total < off + n then t.uartRefuse
    else
      let t := { t with manWin := t.manWin.writes off (p.drop 8) }
      if off + n = total then ((t.wr F.UPD_LEN_LEN 0 total).updStage ok).uartResult else t.updDone.uartResult)))

def execUartSheet (p : List Byte) (crc : BitVec 16) (ok : Bool) (s : State) : Out :=
  .next (s.uartTake 0x05 p crc.toNat true (fun t => t.uartAuthed (fun t =>
    if p.length ≠ 4100 then t.uartRefuse
    else (State.updSheet { t with sheetBuf := t.sheetBuf.writes 0 (p.drop 4) } (fieldAt p 0 4) ok).uartResult)))

/-- UART_COMMIT: with bit 0, VERIFY runs first, and a VERIFY that fails ends the command; with bit 1, the main die is reset after the
reply. -/
def execUartCommit (p : List Byte) (crc : BitVec 16) (bad : List (BitVec 12)) (ok : Bool) (s : State) : Out :=
  .next (s.uartTake 0x06 p crc.toNat true (fun t => t.uartAuthed (fun t =>
    if p.length ≠ 1 then t.uartRefuse
    else
      let t := if (p.getD 0 0).toNat.testBit 0 then t.updVerify (bad.map BitVec.toNat) else t.wr F.UPD_STAT_LAST_ERR 0 0
      if t.on F.UPD_STAT_LAST_ERR 0 then t.uartResult
      else
        let r := t.updCommit ok
        let u := r.1.uartResult
        if r.2 && (p.getD 0 0).toNat.testBit 1 then { u.mainReset 4 0 with upd := { rate := 115200, confirmAt := none, reply := u.upd.reply } } else u)))

/-- UART_SET_RATE: the new rate applies after the reply. -/
def execUartSetRate (p : List Byte) (crc : BitVec 16) (s : State) : Out :=
  .next (s.uartTake 0x07 p crc.toNat false (fun t =>
    if t.updBarred then t.uartReply 0x02 []
    else
      let r := fieldAt p 0 4
      if p.length ≠ 4 ∨ ¬(r = 115200 ∨ r = 921600 ∨ r = 3000000) then t.uartReply 0x03 []
      else { t.uartReply 0x00 [] with upd := { (t.uartReply 0x00 []).upd with rate := r } }))

end Sys2Proof.Machine
end

