-- ==== Sys2Proof/Machine/LigBase.lean ====
section
/-! DEFINITION. The initiator side of the Ligature bridge (spec 17 R353 to R364, R368): transactions, their frames and their ends. -/
namespace Sys2Proof.Machine

/-- A counter of the bridge. -/
def State.brgCnt (s : State) (k : Nat) : State := s.bump F.BRG_CNT_COUNT k

/-- The device's own number, and the bridge address of a device (R353). -/
def State.myDev (s : State) : Nat := s.rd F.BRG_CTL_MY_DEV 0
def State.brgMac (s : State) (dev : Nat) : Nat := s.rd F.BRG_MAC_PREFIX_PREFIX 0 * 4096 + dev % 4096

/-- A Tisuler frame without its FCS (R358). -/
structure Tis where
  op : Nat
  src : Nat
  dst : Nat
  tag : Nat
  seq : Nat
  flags : Nat
  status : Nat
  init : Nat
  addr : Nat
  data : Nat
  deriving DecidableEq, Repr

/-- Its 60 bytes from the bridge address `sa` to `da`. -/
def State.tisBytes (s : State) (da sa : Nat) (t : Tis) : List Byte :=
  beBytes 6 (s.brgMac da) ++ beBytes 6 (s.brgMac sa) ++ beBytes 2 (s.rd F.BRG_ETYPE_ETYPE 0) ++ beBytes 1 1 ++ beBytes 1 t.op
    ++ beBytes 2 t.src ++ beBytes 2 t.dst ++ beBytes 2 t.tag ++ beBytes 2 t.seq ++ beBytes 1 t.flags ++ beBytes 1 t.status
    ++ beBytes 1 t.init ++ beBytes 1 0 ++ beBytes 4 t.addr ++ beBytes 4 t.data ++ beBytes 24 0

/-- The bridge sends a frame into Pipeline A on port 64 with its own VID and class (R355). -/
def State.tisSend (s : State) (da sa : Nat) (t : Tis) : State :=
  s.enter { Flight.good 64 (withFcs (s.tisBytes da sa t)) 0xFFFF with fixed := some (s.rd F.BRG_CTL_VID 0, s.rd F.BRG_CTL_CLASS 0) }

/-- The initiators of the near side (R358 INIT). -/
def iniNo (i : Initiator) : Nat :=
  match i with
  | .pcie => 0 | .s0 => 1 | .s1 => 2 | .ligature => 3
def iniOf (n : Nat) : Initiator :=
  match n with
  | 0 => .pcie | 1 => .s0 | 2 => .s1 | _ => .ligature

/-- The refusal error and the remote error of R356, by initiator. -/
def refusalKind (i : Initiator) : AnsKind := if i = .pcie then .unsupportedRequest else .accessFault
def remoteKind (i : Initiator) : AnsKind := if i = .pcie then .completerAbort else .accessFault

/-- A stream at its initiator. -/
def State.ligStream (s : State) (ini dev : Nat) : LigStream := s.lig.streams.get LigStream.init (4096 * ini + dev)
def State.setStream (s : State) (ini dev : Nat) (x : LigStream) : State :=
  { s with lig := { s.lig with streams := s.lig.streams.set LigStream.init (4096 * ini + dev) x } }

/-- The outstanding transactions replaced. -/
def State.setOut (s : State) (l : List LigReq) : State := { s with lig := { s.lig with out := l } }

/-- The transaction in slot `k`. -/
def State.ligSlot (s : State) (k : Nat) : Option LigReq := s.lig.out.find? (fun r => decide (r.slot = k))

/-- Aperture `a` is poisoned. -/
def State.poisoned (s : State) (a : Nat) : Bool := s.on F.BRG_APT_POISON a

/-- The request of a transaction is sent, or resent with the same TAG and SEQ (R360, R362). -/
def State.ligSend (s : State) (r : LigReq) : State :=
  (s.tisSend r.dev s.myDev ⟨if r.write then 2 else 1, s.myDev, r.dev, r.slot + 64 * r.gen, r.seq, b2n r.resync, 0, r.ini, r.addr,
    if r.write then r.data else 0⟩).brgCnt 0

/-- A read completes at the near side (R361): with its data when its status is OK, no earlier write of the stream failed and
the aperture is not poisoned, else with the remote error. -/
def State.ligReadEnd (s : State) (r : LigReq) : State :=
  let good := decide (r.status = some 0) && !r.taint && !s.poisoned r.ap
  if good then s.reply (iniOf r.ini) .done r.rdata else s.reply (iniOf r.ini) (remoteKind (iniOf r.ini)) 0

/-- Reads whose status has come, and before which every request of their stream has its status, complete in order (R361);
`fuel` bounds them. -/
def State.ligReads (s : State) : Nat → State
  | 0 => s
  | fuel + 1 =>
    match s.lig.out.findIdx? (fun r => !r.write && r.status.isSome
        && (s.lig.out.takeWhile (fun q => decide (q ≠ r))).all (fun q => decide (q.ini ≠ r.ini) || decide (q.dev ≠ r.dev) || q.status.isSome)) with
    | none => s
    | some i => match s.lig.out[i]? with
      | some r => State.ligReads ((s.setOut (s.lig.out.eraseIdx i)).ligReadEnd r) fuel
      | none => s

/-- A failed write (R363): recorded in BRG_WERR or lost; every aperture of its device is poisoned; WERR_EVT and a NOTE. Reads of
its stream that are outstanding end with the remote error. -/
def State.writeFail (s : State) (r : LigReq) (status : Nat) : State :=
  let s := s.setOut ((s.lig.out.filter (fun q => decide (q.slot ≠ r.slot))).map
    (fun q => if !q.write && decide (q.ini = r.ini) && decide (q.dev = r.dev) && decide (r ∈ s.lig.out.takeWhile (fun x => decide (x ≠ q)))
      then { q with taint := true } else q))
  let s := s.brgCnt 9
  let s := if s.on F.BRG_WERR_VALID 0 then s.brgCnt 19
    else (((((s.wr F.BRG_WERR_VALID 0 1).wr F.BRG_WERR_INIT 0 r.ini).wr F.BRG_WERR_STATUS 0 status).wr F.BRG_WERR_DEV 0 r.dev).wr
      F.BRG_WERR_ADDR 0 r.addr).wr F.BRG_WERR_DATA 0 r.data
  let s := (List.range 64).foldl (fun (t : State) a => if t.rd F.BRG_APT_DEV a = r.dev then t.wr F.BRG_APT_POISON a 1 else t) s
  (s.evt F.BRG_STAT_WERR_EVT 0).reportX 0x1E0 (elemId 0xD r.dev)

/-- The stream of a transaction resyncs (R360). -/
def State.resync (s : State) (r : LigReq) : State := s.setStream r.ini r.dev { s.ligStream r.ini r.dev with resync := true }

/-- A write without a status in WR_US, and a read without a response in RD_US (R363, R364). -/
def State.writeTimeout (s : State) (r : LigReq) : State := ((s.resync r).brgCnt 8).writeFail r 0xFF
def State.readTimeout (s : State) (r : LigReq) : State :=
  let s := ((s.resync r).brgCnt 7).setOut (s.lig.out.filter (fun q => decide (q.slot ≠ r.slot)))
  let s := { s with lig := { s.lig with late := s.lig.late.put r.slot r } }
  s.reply (iniOf r.ini) (remoteKind (iniOf r.ini)) 0

/-- Every outstanding transaction fails as a timeout (R363, R364, R368), in the order of issue. -/
def State.ligFailAll (s : State) : State :=
  s.lig.out.foldl (fun (t : State) r =>
    match t.ligSlot r.slot with
    | none => t
    | some q => State.ligReads (if q.write then t.writeTimeout q else if q.status.isSome then t else t.readTimeout q) 64) s

/-- DOZE entry (R368): accesses that wait are refused, and outstanding transactions fail. -/
def State.ligDoze (s : State) : State :=
  let s := s.lig.wait.foldl (fun (t : State) a => t.reply (iniOf a.ini) (refusalKind (iniOf a.ini)) 0) s
  ({ s with lig := { s.lig with wait := [], polled := [] } }).ligFailAll

/-- A parity error in the slot or stream state (R368): every outstanding transaction fails, and every stream resyncs. -/
def State.ligParity (s : State) : State :=
  let s := s.ligFailAll
  let known := s.lig.streams.filter (fun x => decide (x.2.next ≠ 0))
  { s with lig := { s.lig with streams := known.map (fun x => (x.1, { x.2 with resync := true })) } }

end Sys2Proof.Machine
end

