-- ==== Sys2Proof/Machine/Blotter.lean ====
section
/-! DEFINITION. The Blotter and the fault pair (spec 21): classes and escalation, the logs, the reactions,
FLT_P and FLT_N. -/
namespace Sys2Proof.Machine

/-- The sources that the device assigns (21 R409). -/
def bltAssigned (s : Nat) : Bool :=
  (1 ≤ s && s ≤ 0x01A) || (0x040 ≤ s && s ≤ 0x0ED) || (0x0F0 ≤ s && s ≤ 0x0F4) || (0x100 ≤ s && s ≤ 0x143)
    || (0x151 ≤ s && s ≤ 0x15B) || (0x160 ≤ s && s ≤ 0x164) || (0x170 ≤ s && s ≤ 0x180) || (0x190 ≤ s && s ≤ 0x1D2)
    || (0x1E0 ≤ s && s ≤ 0x1E3) || (0x200 ≤ s && s ≤ 0x22F)

/-- The class of a report before escalation (21 R409, R412): CLASS, never below the source's default, and
TERMINAL only where that is the default; a Nib halt by EBREAK is NOTE by default. -/
def State.bltClass (s : State) (r : Report) : Nat :=
  let d := bltDefaultClass r.src
  let c := s.rd F.BLT_SRC_CFG_CLASS r.src
  let c := if c < d then d else if c = 3 ∧ d ≠ 3 then d else c
  if 0x0D0 ≤ r.src ∧ r.src ≤ 0x0D9 ∧ r.info = 3 ∧ c = d then 0 else c

/-- The count of the source's window with this report (21 R411). -/
def State.bltWindow (s : State) (src : Nat) : Nat := (s.blt.windows.get 0 src) + 1

/-- Whether this report is escalated (21 R411): ESC_N is not 0 and the window count reaches it. -/
def State.bltEscalates (s : State) (src : Nat) : Bool :=
  s.on F.BLT_SRC_CFG_ESC_N src && decide (s.rd F.BLT_SRC_CFG_ESC_N src ≤ s.bltWindow src)

/-- The queue entry put among the entries of its cycle in rising source order (21 R410). -/
def insertBySource (e : BltEntry) : List BltEntry → List BltEntry
  | [] => [e]
  | x :: t => if e.rep.src < x.rep.src then e :: x :: t else x :: insertBySource e t

/-- A report reaches the Blotter (21 R410, R411): it counts in TOTAL and in its source's window, its class is
decided, and it enters the input queue, unless it is a NOTE report that is not escalated and finds 64
reports waiting: that one counts LOST. -/
def State.bltArrive (s : State) (r : Report) : State :=
  let n := s.bltWindow r.src
  let esc := s.bltEscalates r.src
  let c0 := s.bltClass r
  let c := if esc && decide (c0 = 0) then 1 else c0
  let s := s.bumpSat F.BLT_SRC_STAT_TOTAL r.src
  let s := s.wr F.BLT_SRC_STAT_WIN_CNT r.src (min n 255)
  let s := if esc then s.evt F.BLT_SRC_STAT_ESC r.src else s
  let s := { s with blt := { s.blt with windows := s.blt.windows.set 0 r.src n } }
  if decide (64 ≤ s.blt.queue.length) && decide (c = 0) then
    (s.bump F.BLT_CNT_COUNT 4).evt F.BLT_STAT_LOST_EVT 0
  else { s with blt := { s.blt with queue := insertBySource ⟨r, c, esc⟩ s.blt.queue } }

/-- A log entry (21 BLT_LOG): the class taken, escalation, source, element, INFO and T0. -/
def State.bltLog (s : State) (e : BltEntry) (sec ns : Nat) : State :=
  let m := s.rd F.BLT_LOG_HEAD_HEAD 0
  let s := if s.on F.BLT_LOG_VALID m then s.evt F.BLT_LOG_HEAD_WRAPPED 0 else s
  let s := (s.wr F.BLT_LOG_CLASS m e.cls).wrb F.BLT_LOG_ESCALATED m e.esc
  let s := ((s.wr F.BLT_LOG_VALID m 1).wr F.BLT_LOG_SOURCE m e.rep.src).wr F.BLT_LOG_ELEMENT m e.rep.elem
  let s := ((s.wr F.BLT_LOG_INFO m e.rep.info).wr F.BLT_LOG_T0_SEC m sec).wr F.BLT_LOG_T0_NS m ns
  s.wr F.BLT_LOG_HEAD_HEAD 0 ((m + 1) % 256)

/-- An entry of the non-volatile ring on the power die (21 R413): as a log entry, with the RTC and STAGE. -/
def State.bltPlog (s : State) (e : BltEntry) : State :=
  let m := s.rd F.BLT_PLOG_HEAD_HEAD 0
  let s := if s.on F.BLT_PLOG_VALID m then s.evt F.BLT_PLOG_HEAD_WRAPPED 0 else s
  let s := (s.wr F.BLT_PLOG_CLASS m e.cls).wrb F.BLT_PLOG_ESCALATED m e.esc
  let s := ((s.wr F.BLT_PLOG_VALID m 1).wr F.BLT_PLOG_SOURCE m e.rep.src).wr F.BLT_PLOG_ELEMENT m e.rep.elem
  let s := (s.wr F.BLT_PLOG_INFO m e.rep.info).wr F.BLT_PLOG_RTC_SEC m (s.rd F.AOC_RTC_SEC 0)
  let s := (s.wr F.BLT_PLOG_RTC_FRAC m s.rtcFrac).wr F.BLT_PLOG_STAGE m (s.rd F.GLB_BOOT_STAT_STAGE 0)
  s.wr F.BLT_PLOG_HEAD_HEAD 0 ((m + 1) % 16)

/-- A fault that the power die detects and acts on itself (sources 0x005 and 0x006, 21 R413): it writes the
BLT_PLOG entry, and the Blotter copies it into BLT_LOG at the next start. -/
def State.powerDieFault (s : State) (src info : Nat) : State :=
  let s := s.bltPlog ⟨⟨src, elemDevice, info⟩, 2, false⟩
  { s with plogCopy := s.plogCopy ++ [(src, elemDevice, info, s.rd F.AOC_RTC_SEC 0, s.rtcFrac)] }

/-- At a start the Blotter copies those entries: word 2 keeps the RTC seconds, word 3 is the RTC fraction in
nanoseconds, rounded down (21 R413). -/
def State.bltCopyPlog (s : State) : State :=
  let s' := s.plogCopy.foldl (fun s e =>
    s.bltLog ⟨⟨e.1, e.2.1, e.2.2.1⟩, 2, false⟩ e.2.2.2.1 (e.2.2.2.2 * 1000000000 / 32768)) s
  { s' with plogCopy := [] }

/-- An escalation halts engine `n`, and asks for its recovery where 10 R240 allows one. -/
def State.escalateNib (s : State) (n : Nat) : State :=
  let st := s.rd F.NIB_STAT_STATE n
  let s := if st = 1 ∨ st = 2 ∨ st = 4 then s.nibHalted n else s
  if s.nibMayRestart n then s.request .fields (.engine n) else s

/-- The action of an escalated NOTE report whose source has ESC_ACTION 1, by the kind of its element
(21 R414), ordered as 01 R20 states. -/
def State.escalate (s : State) (r : Report) : State :=
  let kind := r.elem / 4096
  let idx := r.elem % 4096
  if !(s.on F.BLT_SRC_CFG_ESC_ACTION r.src) then s
  else if kind = 0 ∧ idx < 40 then s.request .forwarding (.serdes idx)
  else if kind = 0 ∧ idx < 64 then s.request .fields (.lane (idx - 40))
  else if kind = 6 ∧ idx < 10 then s.escalateNib idx
  else if kind = 4 ∨ kind = 5 then s.request .forwarding .audit
  else s

/-- One report is recorded (21 R410, R413): its log entries, its counters and events, and the action of an
escalation. -/
def State.bltRecord (s : State) (e : BltEntry) : State :=
  let s := s.bltLog e s.t0Sec s.t0Ns
  let s := if 2 ≤ e.cls then s.bltPlog e else s
  let s := if e.esc then s.bump F.BLT_CNT_COUNT 3 else s
  let s := if e.cls = 0 then (s.bump F.BLT_CNT_COUNT 0).evt F.BLT_STAT_NOTE_EVT 0
    else if e.cls = 1 then (s.bump F.BLT_CNT_COUNT 1).evt F.BLT_STAT_SEVERE_EVT 0
    else if e.cls = 2 then s.bump F.BLT_CNT_COUNT 2
    else s
  if e.esc && decide (s.bltClass e.rep = 0) then s.escalate e.rep else s

/-- A TERMINAL reaction (21 R415): the pair is latched at fault, the main die is stopped and INH_OUT lowered. -/
def State.terminalStop (s : State) : State :=
  let s := s.evt F.BLT_FLT_STAT_TERMINAL 0
  { s.mainOff with stopped := true }

/-- A CRITICAL reaction (21 R413, 03 R68): GLB_RST_COUNT counts it and the main die is reset with cause 6 and
the source. The fourth such reset before any start reaches STAGE 7 is TERMINAL, source 0x01A. -/
def State.criticalReset (s : State) (src : Nat) : State :=
  let s := s.bumpSat F.GLB_RST_COUNT_COUNT 0
  if 4 ≤ s.rd F.GLB_RST_COUNT_COUNT 0 then
    (s.bltRecord ⟨⟨0x01A, elemDevice, src⟩, 3, false⟩).terminalStop
  else s.mainReset 6 src

/-- The input queue is recorded in order, and then the strongest reaction is taken: a TERMINAL report's, or
else the first CRITICAL report's (21 R413, R415, Corner). -/
def State.bltDrain (s : State) : State :=
  let q := s.blt.queue
  let s := q.foldl State.bltRecord { s with blt := { s.blt with queue := [] } }
  if q.any (fun e => decide (e.cls = 3)) then s.terminalStop
  else match q.find? (fun e => decide (e.cls = 2)) with
    | some e => s.criticalReset e.rep.src
    | none => s

/-- The recovery for which the fault of source `src` asks (04 R99, 07 R168, 10 R240, 15 R338), with its domain (01 R18). -/
def faultRecovery (src : Nat) : Option (Domain × Recovery) :=
  if 0x068 ≤ src ∧ src < 0x090 then some (.forwarding, .serdes (src - 0x068))
  else if 0x0D0 ≤ src ∧ src < 0x0DA then some (.fields, .engine (src - 0x0D0))
  else if 0x0E4 ≤ src ∧ src < 0x0EE then some (.fields, .engine (src - 0x0E4))
  else if src = 0x0F0 ∨ src = 0x0F1 then some (.forwarding, .pipeline (src - 0x0F0))
  else if 0x0F2 ≤ src ∧ src < 0x0F5 then some (.forwarding, .macsec (src - 0x0F2))
  else none

/-- The recovery that waits for the report of source `src` has its place (01 R20). -/
def State.recoveryReported (s : State) (src : Nat) : State :=
  match faultRecovery src with
  | some (d, r) => s.requestArrived d r
  | none => s

/-- A report reaches the Blotter (21 R410). `more` says that further reports arrive in the same MCLK cycle;
otherwise the queue is recorded, one report a cycle. A report during a main-die reset is lost. The parity error that
source 0x1E3 reports has no row of its own: the bridge acts on it with the report (17 R368). -/
def execBlotterReport (r : Report) (more : Bool) (s : State) : Out :=
  let s := { s with transit := s.transit.erase r }
  if s.mainUp && bltAssigned r.src then
    let s := ((if r.src = 0x1E3 then s.ligParity else s).recoveryReported r.src).bltArrive r
    .next (if more then s else s.bltDrain)
  else .next s

/-- A source's window closes (21 R411). -/
def execBltWindowClose (src : Fin 1024) (s : State) : Out :=
  let s := { s with blt := { s.blt with windows := s.blt.windows.erase src } }
  .next ((s.wr F.BLT_SRC_STAT_WIN_CNT src 0).wr F.BLT_SRC_STAT_ESC src 0)

/-- Whether the fault pair shows fault: any cause of 21 R417 holds. -/
def State.pairFault (s : State) : Bool :=
  s.on F.BLT_FLT_STAT_TERMINAL 0 || s.on F.BLT_FLT_STAT_RAIL 0 || s.on F.BLT_FLT_STAT_RECOVERY 0
    || s.on F.BLT_FLT_STAT_ABSENT 0 || s.on F.BLT_FLT_STAT_FORCE 0

/-- Whether the heartbeat runs (21 R416): HEARTBEAT set, the pair healthy, the main die sending valid
Ferrule transfers. -/
def State.beating (s : State) : Bool :=
  s.on F.BLT_FLT_CTL_HEARTBEAT 0 && !s.pairFault && s.linkUp

/-- FLT_P; FLT_N is its complement (21 R416). -/
def State.fltP (s : State) : Bool := !s.pairFault && !(s.beating && s.fltBeat)

/-- The levels of FLT_P and FLT_N; in OFF the power die drives neither (21 R416, R417). -/
def State.fltPins (s : State) : Option (Bool × Bool) := if s.pd.phase = .off then none else some (s.fltP, !s.fltP)

/-- Half a heartbeat period has passed (21 R416): the healthy pair toggles, in anti-phase. -/
def execFltHeartbeat (s : State) : Out :=
  .next (if s.beating then { s with fltBeat := !s.fltBeat } else { s with fltBeat := false })

/-- Main-die absent has lasted ABSENT_MS with INH_OUT high (21 R417): cause ABSENT. -/
def execAbsentTimeout (s : State) : Out :=
  .next (if s.ferrule.absent && s.pd.inh then s.evt F.BLT_FLT_STAT_ABSENT 0 else s)

/-- A write of BLT_FLT_CTL.FORCE (21 R417): it sets or clears cause FORCE. It needs the Ferrule link. -/
def execFltForceWrite (force : Bool) (s : State) : Out :=
  .next (if s.linkUp then
    (s.wrb F.BLT_FLT_CTL_FORCE 0 force).wrb F.BLT_FLT_STAT_FORCE 0 force else s)

/-- BLT_CTL.LOG_CLR (21): BLT_LOG is emptied; HEAD and WRAPPED return to 0. -/
def execBltLogClr (s : State) : Out :=
  let fs := [F.BLT_LOG_CLASS, F.BLT_LOG_ESCALATED, F.BLT_LOG_VALID, F.BLT_LOG_SOURCE, F.BLT_LOG_ELEMENT,
    F.BLT_LOG_INFO, F.BLT_LOG_T0_SEC, F.BLT_LOG_T0_NS, F.BLT_LOG_HEAD_HEAD, F.BLT_LOG_HEAD_WRAPPED]
  .next (fs.foldl State.clearFld s)

/-- BLT_CTL.CNT_CLR (21): BLT_CNT and every TOTAL are cleared. -/
def execBltCntClr (s : State) : Out := .next ((s.clearFld F.BLT_CNT_COUNT).clearFld F.BLT_SRC_STAT_TOTAL)

/-- A write of BLT_PLOG_HEAD with CLR (21): with key 0xA5 the ring is emptied, with any other key nothing. The ring is on the power
die, which accepts no command while the Ferrule link is down (01 R13). -/
def execBltPlogClr (key : BitVec 8) (s : State) : Out :=
  let fs := [F.BLT_PLOG_CLASS, F.BLT_PLOG_ESCALATED, F.BLT_PLOG_VALID, F.BLT_PLOG_SOURCE, F.BLT_PLOG_ELEMENT,
    F.BLT_PLOG_INFO, F.BLT_PLOG_RTC_SEC, F.BLT_PLOG_RTC_FRAC, F.BLT_PLOG_STAGE, F.BLT_PLOG_HEAD_HEAD,
    F.BLT_PLOG_HEAD_WRAPPED]
  .next (if key = 0xA5 ∧ s.linkUp = true then fs.foldl State.clearFld s else s)

/-- A self-check of the power die fails (21 R409): source 0x019, TERMINAL. -/
def execPowerDieSelfCheckFail (info : Word) (s : State) : Out :=
  .next (s.report 0x019 elemDevice info.toNat)

end Sys2Proof.Machine
end

