-- ==== Sys2Proof/Machine/Egress.lean ====
section
/-! DEFINITION. Egress of the Ethernet ports: scheduling (spec 09 R207 to R209), the frame on the transmitter, and the
recirculation list of port 66 (09 R198). -/
namespace Sys2Proof.Machine

/-! ## Selection (09 R207, R208) -/

/-- Class `c` of port `p` is eligible, its queue's head having been pruned. -/
def State.eligible (s : State) (p c : Nat) : Bool :=
  (s.headOf (8 * p + c)).isSome && !s.paused p c && s.cbsReady p c && s.on F.ETH_STAT_LINK p && !s.on F.ETH_STAT_LPI_TX p
    && !s.tapering p && s.portSends p

/-- The next class of the round below `c` that is not strict. -/
def State.nextClass (s : State) (p c : Nat) : Nat :=
  ((List.range 8).map (fun k => (c + 7 - k) % 8)).find? (fun k => !s.strictCls p k) |>.getD c

/-- Bytes of the head frame of a class. -/
def State.headLen (s : State) (p c : Nat) : Nat := match s.headOf (8 * p + c) with | some (_, f) => f.bytes.length | none => 0

/-- The round goes on from its current class until a class may send; `fuel` bounds the visits. -/
def State.dwrr (s : State) (p : Nat) (x : Sched) : Nat → Sched × Option Nat
  | 0 => (x, none)
  | fuel + 1 =>
    let c := x.cur
    if s.strictCls p c then State.dwrr s p { x with cur := s.nextClass p c, arrived := false } fuel
    else
      let w := max 1 (bits (s.rd F.QUE_SCHED_WEIGHT p) (8 * c) 8)
      let dc := if x.arrived then x.dc else setAt x.dc c (x.dc.getD c 0 + 256 * w)
      let cost : Int := s.headLen p c + 20
      if s.eligible p c && decide (cost ≤ dc.getD c 0) then ({ cur := c, arrived := true, dc := setAt dc c (dc.getD c 0 - cost) }, some c)
      else
        let dc := if s.queueEmpty (8 * p + c) then setAt dc c 0 else dc
        State.dwrr s p { cur := s.nextClass p c, arrived := false, dc := dc } fuel

/-- Visits that suffice for the largest frame at weight 1. -/
def dwrrFuel : Nat := 2048

/-- The class that the scheduler selects. -/
def State.select (s : State) (p : Nat) : State × Option Nat :=
  let cs := (List.range 8).reverse
  match cs.find? (fun c => s.strictCls p c && s.eligible p c) with
  | some c => (s, some c)
  | none =>
    if cs.any (fun c => !s.strictCls p c && s.eligible p c) then
      let r := s.dwrr p (s.schedOf p) dwrrFuel
      let x := match r.2 with
        | some c => if s.headLen p c ≠ 0 ∧ (s.queue (8 * p + c)).head.length = 1 ∧ (s.queue (8 * p + c)).tail.isEmpty ∧ (s.queue (8 * p + c)).mid.isEmpty
            then { r.1 with dc := setAt r.1.dc c 0 } else r.1
        | none => r.1
      ({ s with sched := s.sched.set Sched.init p x }, r.2)
    else (s, none)

/-! ## Sending -/

/-- A frame leaves port `p` without in-line protection: the port has none, or it is an EAPOL frame from port 64 on a
SECURE_OR_BLOCK port (15 R328). -/
def State.leavesPlain (s : State) (p : Nat) (f : Frame) (bs : List Byte) : Bool :=
  !s.cipTx p || (s.secure p && decide (f.inPort = 64) && decide (be bs 12 2 = 0x888E))

/-- The head frame of queue `q` of port `p` is taken and starts; a frame that protection blocks is dropped. -/
def State.startHead (s : State) (p q : Nat) (e : QEnt) (f : Frame) : State :=
  let s := s.take q
  let r := s.egressBytes s.snap p f e.ed
  let m : State × Option (List Byte) := if s.leavesPlain p f r.2 then (s, some r.2) else s.macsecTx p r.2
  match m.2 with
  | some out =>
    let s := m.1.txStamp m.1.snap p f.txReq r.2
    (s.setPort p { s.port p with tx := some ⟨q, some e, e.first, e.ed, out, r.1⟩ }).taperService p
  | none => (((m.1.finish e (!m.1.deep q)).fcCheck f.inPort).taperService p).drainService

/-- EGRESS_SELECT: one selection, when the transmitter of port `p` is free. -/
def execEgressSelect (p : Fin 40) (s : State) : Out :=
  if !s.txFree p then .next s
  else
    let s := (List.range 8).foldl (fun t c => t.pruned (8 * p.val + c)) s
    let r := s.select p
    match r.2 with
    | none => .next r.1.drainService
    | some c => match r.1.headOf (8 * p + c) with
      | some (e, f) => .next (r.1.startHead p (8 * p + c) e f)
      | none => .next r.1

/-- A frame that has been sent whole is counted (04 R84, 12 R280). -/
def State.sentCount (s : State) (p : Nat) (t : Tx) : State :=
  let s := ((s.bumpBy F.ETH_CNT_COUNT (29 * p + 17) t.bytes.length).ethCnt p 18).tcCount t.tc
  let da := be t.bytes 0 6
  if da = 0xFFFFFFFFFFFF then s.ethCnt p 20 else if da.testBit 40 then s.ethCnt p 19 else s

/-- How port `p` ends a started frame of which a cell cannot be read (09 R218): with the complemented CRC-32, to a Vangino peer too. -/
def State.damageForm (s : State) (p : Nat) : WireEnd := if 4 ≤ s.rd F.ETH_MODE_MODE p then .crcBytes else .crcBlock

/-- EGRESS_FRAME_DONE: the last bit of the frame on port `p`'s transmitter has been sent; it is counted and its entry is finished. A frame
of which a cell could not be read was ended as bad, and counts DAMAGE_DROP (09 R218). -/
def execEgressFrameDone (p : Fin 40) (s : State) : Out :=
  match (s.port p).tx with
  | none => .next s
  | some t =>
    let from' := match s.frames.find t.first with | some f => f.inPort | none => 64
    let bad := match s.frames.find t.first with | some f => f.damaged | none => false
    let s := s.setPort p { s.port p with tx := none }
    let s := if bad then (s.endFrame p (s.damageForm p)).qcnt t.q 7 else s.sentCount p t
    let s := match t.ent with
      | some e => s.finish e (!s.deep t.q)
      | none => s.finishRef t.first true
    .next (((s.fcCheck from').taperService p).drainService)

/-! ## Recirculation (09 R198) -/

/-- The head of the recirculation list after those too old or damaged are dropped. -/
def State.recircPrune (s : State) : Nat → State
  | 0 => s
  | fuel + 1 =>
    match s.recirc with
    | [] => s
    | c :: t =>
      match s.frames.find c with
      | none => State.recircPrune { s with recirc := t } fuel
      | some f =>
        if s.tooOld 66 f.epoch then State.recircPrune ((State.finishRef { s with recirc := t } c true).bump F.TBL_CNT_COUNT 14) fuel
        else if f.damaged then State.recircPrune (State.finishRef { s with recirc := t } c true) fuel
        else s

/-- RECIRCULATE: the head of the list enters Pipeline A on port 66 from its Inkwell copy. -/
def execRecirculate (s : State) : Out :=
  let s := s.recircPrune (if s.gated then 0 else s.recirc.length)
  match (if s.gated then [] else s.recirc) with
  | [] => .next s.drainService
  | c :: t =>
    match s.frames.find c with
    | none => .next s
    | some f =>
      let s := State.enter { s with recirc := t } { Flight.good 66 f.bytes f.tsIndex with txReq := f.txReq }
      .next (((s.finishRef c true).fcCheck f.inPort).drainService)

end Sys2Proof.Machine
end

