-- ==== Sys2Proof/Machine/Power.lean ====
section
/-! DEFINITION. Power states, adaptive voltage and supply monitors (spec 18). -/
namespace Sys2Proof.Machine

/-! ## Voltage changes (R377 to R380) -/

/-- A rail's value inside its range (23 R432, R433): rail 0 560 to 880 mV, rail 1 640 to 900 mV. -/
def railClamp (k v : Nat) : Nat := if k = 0 then min (max v 560) 880 else min (max v 640) 900

/-- The floor of rail `k`. -/
def State.floorMv (s : State) (k : Nat) : Nat := railClamp k (s.rd (if k = 0 then F.AVS_FLOOR_CORE_MV else F.AVS_FLOOR_SRAM_MV) 0)

/-- The setpoint of rail `k` in state `st` (R378): the larger of its AVS_SETPT field and its floor. -/
def State.setpoint (s : State) (st k : Nat) : Nat :=
  let f := s.rd (if st = 0 then F.AVS_SETPT_RUN_MV else if st = 1 then F.AVS_SETPT_TRIM_MV else F.AVS_SETPT_DOZE_MV) k
  max (railClamp k f) (s.floorMv k)

/-- Legacy voltage mode (R380). -/
def State.legacyMode (s : State) : Bool := s.on F.AVS_LOOP_CTL_MODE 0

/-- A change of both rails is sent (R379); in legacy mode a change of codes, which has no bus traffic. -/
def State.avsStart (s : State) (core sram : Nat) : State :=
  let o := s.pwr.cur
  let s := { s with pwr := { s.pwr with avs := some ⟨core, sram, o.1, o.2, decide (o.1 < core) || decide (o.2 < sram), 0, false⟩ } }
  if s.legacyMode then s else (s.bump F.AVS_CNT_COUNT 0).wr F.AVS_STAT_BUSY 0 1

/-- The change to the setpoints of state `st`. -/
def State.avsTo (s : State) (st : Nat) : State := s.avsStart (s.setpoint st 0) (s.setpoint st 1)

/-- A transition has completed (R370), with result 1 or 6. -/
def State.transDone (s : State) (result target : Nat) : State := (s.transEnd result target).bump F.PWR_CNT_COUNT 0

/-- Every trunk port's Taper loop stops, and holds end (04 R92). -/
def State.tapersStop (s : State) : State := (List.range 8).foldl (fun (t : State) p => t.taperSuspend p) s
def State.tapersGo (s : State) : State := (List.range 8).foldl (fun (t : State) p => t.taperService p) s

/-- What waited for the voltage change goes on (R370, R373): the state is entered. An exit from DOZE goes on by its own step. -/
def State.avsProceed (s : State) (result : Nat) : State :=
  match s.pwr.trans with
  | some t =>
    if t.target = 1 then
      let s := (s.wr F.PWR_STAT_STATE 0 1).wrb F.AVS_STAT_LOOP_ACTIVE 0 (s.on F.AVS_LOOP_CTL_LOOP_EN 0 && !s.legacyMode)
      (s.transDone result 1).tapersGo
    else if t.target = 0 then (((s.wr F.PWR_STAT_STATE 0 0).transDone result 0).tapersStop).tapersGo
    else if t.target = 2 ∧ t.committed = true then (s.wr F.PWR_STAT_STATE 0 2).transDone result 2
    else s
  | none => s

/-- The change is over; its setpoints are in force when `done`. -/
def State.avsOver (s : State) (a : AvsChange) (done : Bool) : State :=
  let s := { s with pwr := { s.pwr with
    avs := none
    cur := if done then (a.core, a.sram) else s.pwr.cur
    settle := some (min a.core a.oldCore, min a.sram a.oldSram, s.now + 20 * ticksUs) } }
  s.wr F.AVS_STAT_BUSY 0 0

/-- AVS_ACK: both rails acknowledge. DEGRADED clears unless this change has failed before. -/
def execAvsAck (s : State) : Out :=
  match s.pwr.avs with
  | none => .next s
  | some a =>
    if s.legacyMode then .next s
    else
      let s := ((s.avsOver a true).wr F.AVS_STAT_CORE_MV 0 a.core).wr F.AVS_STAT_SRAM_MV 0 a.sram
      let s := (s.bump F.AVS_CNT_COUNT 1).wr F.AVS_STAT_DEGRADED 0 (if a.repeating then s.rd F.AVS_STAT_DEGRADED 0 else 0)
      .next (s.avsProceed 1)

/-- The device gives the change up for now (R379). -/
def State.avsFault (s : State) : State :=
  let s := (s.bump F.AVS_CNT_COUNT 2).evt F.PWR_STAT_AVS_FAULT_EVT 0
  (s.wr F.AVS_STAT_DEGRADED 0 1).reportX 0x003 elemDevice

/-- AVS_TIMEOUT: a rail has not acknowledged in time; `core` and `sram` are the voltages that the device then reads. The first
time the rails are written once more; while a raising change repeats, this is one of its repetitions. -/
def execAvsTimeout (core sram : BitVec 10) (s : State) : Out :=
  match s.pwr.avs with
  | none => .next s
  | some a =>
    if s.legacyMode then .next s
    else if a.tries = 0 then .next ({ s with pwr := { s.pwr with avs := some { a with tries := 1 } } }.bump F.AVS_CNT_COUNT 0)
    else
      let s := s.avsFault
      if !a.raising then .next ((s.avsOver a false).avsProceed 6)
      else if a.core ≤ core.toNat ∧ a.sram ≤ sram.toNat then .next ((s.avsOver a true).avsProceed 1)
      else .next ({ s with pwr := { s.pwr with avs := some { a with repeating := true } } }.bump F.AVS_CNT_COUNT 0)

/-- LEGACY_SETTLE: 20 µs after a change of codes. -/
def execLegacySettle (s : State) : Out :=
  match s.pwr.avs with
  | none => .next s
  | some a => .next (if s.legacyMode then (s.avsOver a false).avsProceed 1 else s)

/-- One rail after a step of the TRIM loop (R378): never below its floor or above its RUN setpoint. -/
def State.loopRail (s : State) (k cur : Nat) (up : Bool) : Nat :=
  let step := max 1 (s.rd F.AVS_LOOP_STEP_MV 0)
  let v := if up then cur + step else cur - step
  max (s.floorMv k) (min v (s.setpoint 0 k))

/-- AVS_LOOP_TICK: the smallest slack, in percent of a PCLK cycle. -/
def execAvsLoopTick (slack : BitVec 8) (s : State) : Out :=
  let lo := s.rd F.AVS_LOOP_SLACK_LO_PCT 0
  let hi := s.rd F.AVS_LOOP_SLACK_HI_PCT 0
  let runs := decide (s.rd F.PWR_STAT_STATE 0 = 1) && s.on F.AVS_LOOP_CTL_LOOP_EN 0 && !s.legacyMode && s.pwr.trans.isNone && s.pwr.avs.isNone
  if !runs || decide (hi ≤ lo) || (decide (lo ≤ slack.toNat) && decide (slack.toNat ≤ hi)) then .next s
  else
    let up := decide (slack.toNat < lo)
    let core := s.loopRail 0 s.pwr.cur.1 up
    let sram := s.loopRail 1 s.pwr.cur.2 up
    .next (if (core, sram) = s.pwr.cur then s else (s.avsStart core sram).bump F.AVS_CNT_COUNT 3)

/-! ## Entering a state (R370, R371) -/

/-- S0 executes WFI, so it may start a transition to `target`: PWR_MODE names it, it differs from STATE, and none is in progress. -/
def State.mayStart (s : State) (target : Nat) : Bool :=
  decide (s.phase = .running) && !s.coreHalted .s0 && decide (s.rd F.PWR_MODE_TARGET 0 = target) && decide (s.rd F.PWR_STAT_STATE 0 ≠ target)
    && decide (s.rd F.PWR_STAT_STATE 0 ≤ 1) && s.pwr.trans.isNone && !s.pwr.exiting

/-- A transition to `target` is in progress. -/
def State.transTo (s : State) (t : Trans) : State := { s with pwr := { s.pwr with trans := some t } }.wr F.PWR_STAT_IN_TRANSITION 0 1

/-- ENTER_TRIM: S0 executes WFI with TARGET TRIM in RUN. -/
def execEnterTrim (s : State) : Out := .next (if s.mayStart 1 then (s.transTo ⟨1, false, false⟩).avsTo 1 else s)

/-- ENTER_RUN: S0 executes WFI with TARGET RUN in TRIM: the loop stops and the voltage is raised. -/
def execEnterRun (s : State) : Out :=
  .next (if s.mayStart 0 then ((s.transTo ⟨0, false, false⟩).wr F.AVS_STAT_LOOP_ACTIVE 0 0).avsTo 0 else s)

/-- Code 5 (R371). -/
def State.entryBusy (s : State) : Bool :=
  s.on F.SCR_STAT_RESTRUCT_BUSY 0 || s.on F.SCR_STAT_APPLYING 0 || s.on F.SCR_STAT_PERSISTING 0 || s.on F.KEY_STAT_BUSY 0 || s.on F.UPD_STAT_BUSY 0

/-- S1 is held in reset. -/
def State.s1Held (s : State) : Bool := !s.on F.GLB_SCRIBE_CTL_S1_RUN 0 || s.on F.GLB_BLK_RST_S1 0

/-- Step 1 of an entry (R373): ingress stops, lanes begin their handover. -/
def State.entryStart (s : State) (target : Nat) : State :=
  laneNums.foldl (fun (t : State) n => t.laneStandby n) (s.transTo ⟨target, false, false⟩)

/-- S0 executes WFI with TARGET DOZE or SLEEP, or S1 reaches its WFI while the entry waits for it. -/
def State.powerEntry (s : State) (target : Nat) (s1Waiting : Bool) : State :=
  let s1Waiting := s1Waiting && !s.coreHalted .s1
  if s.mayStart target then
    if !s.wakeEnabled target then s.transAbort 4 target
    else if s.entryBusy then s.transAbort 5 target
    else if s1Waiting || s.s1Held then s.entryStart target
    else s.transTo ⟨target, true, false⟩
  else if s.pwr.trans = some ⟨target, true, false⟩ ∧ (s1Waiting || s.s1Held) then s.entryStart target
  else s

/-- DOZE_ENTRY and SLEEP_ENTRY; `s1Waiting`: S1 has executed WFI. -/
def execDozeEntry (s1Waiting : Bool) (s : State) : Out := .next (s.powerEntry 2 s1Waiting)
def execSleepEntry (s1Waiting : Bool) (s : State) : Out := .next (s.powerEntry 3 s1Waiting)

/-- S1_WAIT_TIMEOUT: S1 has not reached WFI within S1_WAIT_US. -/
def execS1WaitTimeout (s : State) : Out :=
  match s.pwr.trans with
  | some t => .next (if t.waitS1 then s.transAbort 3 t.target else s)
  | none => .next s

/-! ## The commit step (R373, R375) -/

/-- Frames in progress have ended and the pipelines are empty (R373 steps 1 to 4). -/
def State.entryQuiet (s : State) : Bool :=
  s.flight.isEmpty && s.sealWait.isEmpty && s.sealHeld.isEmpty && (List.range 40).all (fun p => (s.port p).tx.isNone)
    && laneNums.all (fun n => (s.canLane n).arb.isNone && (s.canLane n).sof.isNone && (s.mvbLane n).waiting.isNone && (s.mvbLane n).reply.isNone)
    && (List.range 32).all (fun r => (s.ring r).held.isNone)

/-- Lanes handed to the AOC: the T1S frames in progress have been sent, and the detectors are armed (05 R122, 06 R144). -/
def State.lanesHanded (s : State) : State :=
  laneNums.foldl (fun (t : State) n => (if t.pers n = 2 then t.t1sSettle n else t).setArmed n (t.laneWakes n && decide (t.pers n ≠ 0))) s

/-- Steps 2 to 4: bridge transactions fail, lanes are handed over, Stroke caches are flushed, engines stop. -/
def State.entrySteps (s : State) : State :=
  let s := s.ligDoze.lanesHanded
  ({ s with strokes := [] }).nibStop

/-- The watchdog keeps its count from the commit step of a DOZE entry until the device is back in RUN (03 R76). -/
def State.wdogPause (s : State) : State :=
  match s.wdog with
  | .runs t => { s with wdog := .paused (t - s.now) }
  | _ => s
def State.wdogResume (s : State) : State :=
  match s.wdog with
  | .paused k => { s with wdog := .runs (s.now + k) }
  | _ => s

/-- DOZE_COMMIT: clocks are gated, SerDes of ports that do not watch are powered down, the DOZE setpoints are requested. -/
def execDozeCommit (s : State) : Out :=
  if s.pwr.trans ≠ some ⟨2, false, false⟩ ∨ s.entryQuiet = false then .next s
  else
    let s := (s.entrySteps.transTo ⟨2, false, true⟩).tapersStop
    let s := (List.range 40).foldl (fun (t : State) p => t.portSleep p) s.wdogPause
    .next ((s.wr F.AVS_STAT_LOOP_ACTIVE 0 0).avsTo 2)

/-- SLEEP_COMMIT: the power die has acknowledged the final state; it arms its detectors, asserts main-die reset and lowers INH_OUT. -/
def execSleepCommit (s : State) : Out :=
  if s.pwr.trans ≠ some ⟨3, false, false⟩ ∨ s.entryQuiet = false then .next s
  else
    let s := s.entrySteps.mainOff
    .next { s with pd := { s.pd with holdOff := true, wakeHeld := false, cause := 2 } }

/-! ## Leaving DOZE and SLEEP (R374, R375) -/

/-- DOZE_EXIT: a wake in DOZE requests the RUN setpoints. -/
def execDozeExit (s : State) : Out :=
  .next (if s.rd F.PWR_STAT_STATE 0 = 2 ∧ s.pwr.wake.isSome = true ∧ s.pwr.exiting = false then
    ({ s with pwr := { s.pwr with exiting := true } }.wr F.PWR_STAT_IN_TRANSITION 0 1).avsTo 0
  else s)

/-- The networks that are ASLEEP wake with the device when its wake came from one of their members, or from a WAKE_IN pin of their
mask (19 R390). -/
def State.wakeNets (s : State) (code idx : Nat) : State :=
  (List.range 16).foldl (fun (t : State) k =>
    let own := if code = 1 then t.netHas k (40 + idx) else if code = 2 then t.bit F.NSL_NET_WAKE_IN k idx
      else (decide (code = 3) || decide (code = 4)) && t.netHas k idx
    if own && decide (t.rd F.NSL_NET_STATE k = 2) then t.netWake k code idx else t) s

/-- DOZE_EXIT_DONE: the voltage change is over, clocks run and everything resumes. -/
def execDozeExitDone (s : State) : Out :=
  if s.pwr.exiting = false ∨ s.pwr.avs.isSome = true then .next s
  else
    let w := s.pwr.wake
    let s := { s with pwr := { s.pwr with exiting := false, wake := none } }.wdogResume.wr F.PWR_STAT_STATE 0 0
    let s := ((laneNums.foldl (fun (t : State) n => t.laneResume n) s).nibResume.transDone 1 0).tapersGo
    .next (match w with | some (code, idx) => s.wakeNets code idx | none => s).msixService

/-- INH_OUT_HOLD_END: 10 ms after lowering INH_OUT; a recorded wake starts the device. -/
def execInhOutHoldEnd (s : State) : Out :=
  .next (if s.pd.holdOff then
    (if s.pd.wakeHeld then { s with pd := { s.pd with holdOff := false, wakeHeld := false, inh := true } }
     else { s with pd := { s.pd with holdOff := false } })
  else s)

/-! ## The mailbox (R372) -/

/-- PWR_REQ_WRITE: the host writes REQ = 1 with TARGET. In DOZE the request is a wake (19 R393). -/
def execPwrReqWrite (target : BitVec 3) (s : State) : Out :=
  let s := if s.on F.PWR_REQ_REQ 0 then s.bump F.PWR_CNT_COUNT 2 else s
  let s := (s.wr F.PWR_REQ_REQ 0 1).wr F.PWR_REQ_TARGET 0 target.toNat
  .next (if s.rd F.PWR_STAT_STATE 0 = 2 ∧ s.pwr.exiting = false ∧ s.pcieUp = true then s.aocWake 7 0 else s)

/-- PWR_REQ_TAKE: S0 takes the pending request. -/
def execPwrReqTake (s : State) : Out :=
  .next (if s.on F.PWR_REQ_REQ 0 then (s.wr F.PWR_REQ_REQ 0 0).wr F.PWR_REQ_ACK_TAKEN_TARGET 0 (s.rd F.PWR_REQ_TARGET 0) else s)

/-! ## Supply monitors (R381, R382) -/

/-- The setpoint from which the offsets of rail 0 or 1 count: the lower one during a change and until 20 µs after it. -/
def State.monitorRef (s : State) (k : Nat) : Nat :=
  let pick (v : Nat × Nat) : Nat := if k = 0 then v.1 else v.2
  let c := pick s.pwr.cur
  match s.pwr.avs with
  | some a => if s.legacyMode then c else min c (pick (a.core, a.sram))
  | none => match s.pwr.settle with
    | some (x, y, t) => if s.now < t ∧ s.legacyMode = false then min c (pick (x, y)) else c
    | none => c

/-- RESET_MV of rail `k` within its range. -/
def State.resetMv (s : State) (k : Nat) : Nat :=
  let v := s.rd F.PWR_SUP_CFG_RESET_MV k
  if k < 2 then min (max v 30) 150 else if k = 2 then min (max v 1550) 1700 else min (max v 5000) 7000

/-- WARN_MV of rail `k`: one that is not short of the reset threshold acts as its reset value. -/
def State.warnMv (s : State) (k : Nat) : Nat :=
  let v := s.rd F.PWR_SUP_CFG_WARN_MV k
  let dflt := if k < 2 then 40 else if k = 2 then 1710 else 7500
  if k < 2 then
    let w := min (max v 10) 100
    if s.resetMv k ≤ w then dflt else w
  else if v ≤ s.resetMv k then dflt else v

/-- The levels below which the thresholds are crossed. -/
def State.warnLevel (s : State) (k : Nat) : Nat := if k < 2 then s.monitorRef k - s.warnMv k else s.warnMv k
def State.resetLevel (s : State) (k : Nat) : Nat := if k < 2 then s.monitorRef k - s.resetMv k else s.resetMv k

/-- Rail `k` is watched: the main-die rails while INH_OUT is high, VBAT while the power die runs. -/
def State.watched (s : State) (k : Nat) : Bool := decide (s.pd.phase = .run) && (decide (k = 3) || s.pd.inh)

/-- PWR_SAG_LOG and PWR_SUP_MV record a crossing. -/
def State.sagLog (s : State) (k level : Nat) (reset : Bool) : State :=
  (((s.wr F.PWR_SUP_MV_LEVEL k level).wr F.PWR_SAG_LOG_LEVEL_MV 0 level).wrb F.PWR_SAG_LOG_RESET 0 reset).wr F.PWR_SAG_LOG_RAIL 0 k

/-- SUPPLY_WARNING: rail `k` (0 VDD_CORE, 1 VDD_SRAM, 2 VDDIO, 3 VBAT) has been at `level` mV for 1 µs. -/
def execSupplyWarning (k : Fin 4) (level : BitVec 16) (s : State) : Out :=
  let s := if s.watched k then s.wr F.PWR_SUP_MV_LEVEL k level.toNat else s
  if !s.watched k || s.warned.testBit k || decide (s.warnLevel k ≤ level.toNat) then .next s
  else
    let s := { s with warned := setBitN s.warned k, retryHold := s.retryHold || decide (k.val = 3) }
    let s := ((s.sagLog k level.toNat false).bump F.PWR_SAG_CNT_COUNT 3).reportX 0x004 elemDevice
    .next (if s.mainUp then s.evt F.PWR_STAT_SAG_WARN_EVT 0 else s)

/-- SUPPLY_WARNING_REARM: the level has been back for 1 ms. -/
def execSupplyWarningRearm (k : Fin 4) (s : State) : Out := .next { s with warned := clrBitN s.warned k }

/-- SUPPLY_RESET: rail `k` has been below its reset threshold for 1 µs. The main die is reset and loses its supply; it starts
again with cause 0x7 after 10 ms, or after VBAT has recovered. -/
def execSupplyReset (k : Fin 4) (level : BitVec 16) (s : State) : Out :=
  let s := if s.watched k then s.wr F.PWR_SUP_MV_LEVEL k level.toNat else s
  if !s.watched k || decide (s.resetLevel k ≤ level.toNat) then .next s
  else if !s.pd.inh then .next (s.sagLog k level.toNat true)
  else
    let s := ((s.sagLog k level.toNat true).bump F.PWR_SAG_CNT_COUNT 4).powerDieFault 0x005 (Config.reportInfo s.freeCtr).toNat
    let s := s.drawn.mainOff
    .next { s with pd := { s.pd with sagWait := true, cause := 7, holdOff := false, wakeHeld := false } }

/-- SAG_RESTART: 10 ms after a sag reset, or once VBAT has stayed above its warning threshold for 10 ms. -/
def execSagRestart (s : State) : Out :=
  .next (if s.pd.sagWait then { s with pd := { s.pd with sagWait := false, inh := true } } else s)

/-- VBAT_POWER_LOSS: VBAT falls below the power-on threshold of the power die (R376). -/
def execVbatPowerLoss (s : State) : Out :=
  let s := s.powerPorClear
  .next { s with phase := .off, pd := { s.pd with phase := .off } }

end Sys2Proof.Machine
end

