-- ==== Sys2Proof/Machine/Start.lean ====
section
/-! DEFINITION. The start, the resets, the Scribe cores' own registers (spec 03). -/
namespace Sys2Proof.Machine

/-! ## The power die's start and the rails (R57, R58) -/

/-- VBAT_POWER_ON: VBAT rises through the threshold: power-die power-on reset; every channel is off. -/
def execVbatPowerOn (s : State) : Out :=
  let s := s.powerPorClear
  .next { s with phase := .off, maintLow := false, pd := { State.reset.pd with phase := .por } }

/-- POWER_DIE_POR_END: after 1 ms the AOC starts, and records wake code 0xF (19 R393). -/
def execPowerDiePorEnd (s : State) : Out :=
  .next (if s.pd.phase = .por then ({ s with pd := { s.pd with phase := .aocStart } } : State).aocWake 15 0 else s)

/-- INH_OUT_ASSERT: 2 ms after the AOC has started, or for a wake that waits while the main die has no supply. -/
def execInhOutAssert (s : State) : Out :=
  let wake := decide (s.pd.phase = .run) && !s.pd.inh && s.pd.wakeHeld && !s.pd.holdOff && !s.pd.sagWait && !s.pd.retryWait
  .next (if s.stopped then s
    else if s.pd.phase = .aocStart ∨ wake = true then { s with pd := { s.pd with phase := .run, inh := true, wakeHeld := false, railFails := 0 } }
    else s)

/-- A reason for recovery mode holds (R69). -/
def State.recoveryCase (s : State) : Bool := s.tombstone.isSome || s.maintLow || decide (s.rd F.GLB_RST_CAUSE_CAUSE 0 = 5)

/-- A release of the main die: when no reason for recovery mode holds, cause RECOVERY ends (21 R417). -/
def State.released (s : State) : State :=
  let s := { s with phase := .released }
  if s.recoveryCase then s else s.wr F.BLT_FLT_STAT_RECOVERY 0 0

/-- RAILS_IN_WINDOW: the rails have stayed in their windows for 1 ms; the main die is released. `maintLow`: MAINT_N is low. -/
def execRailsInWindow (maintLow : Bool) (s : State) : Out :=
  .next (if s.pd.phase = .run ∧ s.pd.inh = true ∧ s.phase = .off then
    let s := (s.wr F.GLB_RST_CAUSE_CAUSE 0 s.pd.cause).wr F.GLB_RST_CAUSE_BLT_SOURCE 0 0
    State.released { s with maintLow := maintLow, pd := { s.pd with cause := 2, railFails := 0 } }
  else s)

/-- RAIL_WINDOW_TIMEOUT: the rails are not in their windows 20 ms after INH_OUT rose: one retry, then cause RAIL. -/
def execRailWindowTimeout (s : State) : Out :=
  .next (if s.pd.phase = .run ∧ s.pd.inh = true ∧ s.phase = .off then
    let s := (s.powerDieFault 0x006 (Config.reportInfo s.freeCtr).toNat).drawn
    if s.pd.railFails = 0 then { s with pd := { s.pd with inh := false, railFails := 1, retryWait := true } }
    else { s.evt F.BLT_FLT_STAT_RAIL 0 with pd := { s.pd with inh := false, railFails := 0, retryWait := false, wakeHeld := false } }
  else s)

/-- RAIL_RETRY: 1 s later. -/
def execRailRetry (s : State) : Out :=
  .next (if s.pd.retryWait then { s with pd := { s.pd with retryWait := false, inh := true, wakeHeld := false } } else s)

/-! ## The main die's start (R59 to R62) -/

/-- ROOT_PLL_LOCK (01 R22, step 5): the boot ROM starts on S0, at 0 in M mode (R72); T0 is seeded (R67); the Blotter copies entries of the power die. -/
def execRootPllLock (s : State) : Out :=
  .next (if s.phase = .released then
    let s := ({ s with phase := .rom, mtime := 0, cores := s.cores.put 0 ⟨true, 0, .m, 0⟩ } : State).wrb F.GLB_BOOT_STAT_MAINT_STRAP 0 s.maintLow
    (s.seedT0 (s.rd F.AOC_RTC_SEC 0)).bltCopyPlog
  else s)

/-- The main die initialises the Ferrule link (step 6, 01 R12, R13): main-die absent ends, with what came of it (20 R405). -/
def State.ferruleInit (s : State) : State :=
  let was := s.ferrule.absent
  let d : FerruleDir := ⟨0, 0, none, 0⟩
  let s := { s with ferrule := ⟨d, d, true, false, true⟩ }.wr F.BLT_FLT_STAT_ABSENT 0 0
  if was then s.lcAdopted else s

/-- Recovery mode (R69): forwarding, lanes and engines stay stopped, channels hold, the pair shows fault. -/
def State.enterRecovery (s : State) : State :=
  let s := { s with phase := .recovery, upd := { s.upd with confirmAt := none } }
  let s := (s.wr F.GLB_BOOT_STAT_STAGE 0 (if s.tombstone.isSome then 0xF else 0xE)).wr F.UPD_STAT_CONFIRM_PENDING 0 0
  (s.evt F.BLT_FLT_STAT_RECOVERY 0).nibStop

/-- A failed start check (R62, 22 R426). -/
def State.failStart (s : State) (code : Nat) : State :=
  let t := if s.tombstone.isSome then s.flash.tomb
    else Tomb.bytes ⟨code, s.activeNo, s.rd F.UPD_ACTIVE_VER_VALUE 0, s.rd F.AOC_RTC_SEC 0⟩
  ({ s with flash := { s.flash with tomb := t } }.wr F.GLB_BOOT_STAT_FAIL_CODE 0 code).enterRecovery

/-- The registers that name the set in force. -/
def State.showActive (s : State) : State :=
  match s.recordInForce with
  | some (_, r) =>
    let s := (s.wr F.UPD_STAT_ACTIVE_BANK 0 r.bank).wr F.GLB_BOOT_STAT_ACTIVE_BANK 0 r.bank
    (s.wr F.UPD_ACTIVE_VER_VALUE 0 r.version).wr F.UPD_COMMIT_SEQ_VALUE 0 r.seq
  | none => s

/-- The watchdog counts down from PERIOD_MS, 1 to 10,000 ms (R76). DEDUCED: a value outside that range acts as the nearest in it. -/
def State.wdogLoad (s : State) : State :=
  { s with wdog := .runs (s.now + max 1 (min 10000 (s.rd F.GLB_WDOG_CFG_PERIOD_MS 0)) * ticksMs) }

/-- SECOND_STAGE_START (steps 6 and 7): recovery mode, or the commit record, the manifest and the second stage are checked; `ok`: flash
reads succeed. The watchdog runs from step 7 on. -/
def execSecondStageStart (ok : Bool) (s : State) : Out :=
  if s.phase ≠ .rom then .next s
  else
    let s := s.ferruleInit.showActive
    if s.recoveryCase then .next s.enterRecovery
    else
    let s := s.wdogLoad
    match s.recordInForce with
      | none => .next (s.failStart 7)
      | some (_, r) =>
        let b := s.bank r.bank
        let good := ok && decide (fit 48 (sha384 b.man) = r.digest) && decide (s.manErr b.man none = 0) && b.partGood 1
        if !good then .next (s.failStart 7)
        else .next (({ s with phase := .starting }.wr F.GLB_BOOT_STAT_STAGE 0 1).wrb F.UPD_STAT_CONFIRM_PENDING 0 (!r.confirmed))

/-- The device has started as far as STAGE `n`. -/
def State.atStage (s : State) (n : Nat) : Bool := decide (s.phase = .starting) && decide (s.rd F.GLB_BOOT_STAT_STAGE 0 = n)

/-- The first rate, in MT/s, at which both channels train (23 R441). -/
def trainedRate (t : DramTrain) : Option Nat :=
  if t.at8533 then some 8533 else if t.at7500 then some 7500 else if t.at6400 then some 6400 else none

/-- DRAM_TRAINED (step 8, 23 R441): the rates are tried in turn; the memory found at the first at which both channels train is recorded,
and when no rate trains the start fails. -/
def execDramTrained (t : DramTrain) (s : State) : Out :=
  .next (if s.atStage 1 then
    (match trainedRate t with
      | some r => ((({ s with dramRate := r } : State).wr F.RSV_STAT_TRAINED 0 1).wr F.RSV_STAT_FOUND_MIB 0 t.mib.toNat).wr F.GLB_BOOT_STAT_STAGE 0 2
      | none => s.failStart 8)
  else s)

/-- POWER_DIE_CONFIG_WRITE (steps 9 and 10): the Scribe firmware, the Nib image and the key policy are read and checked; the link is
initialised again and the channels are adopted (R65); the power die is offered its configuration (R66). -/
def execPowerDieConfigWrite (ok : Bool) (s : State) : Out :=
  if !s.atStage 2 then .next s
  else
    let b := s.bank s.activeNo
    if !(ok && b.partGood 2 && b.partGood 3 && b.partGood 6) then .next (s.failStart 9)
    else
      let s := s.wr F.GLB_BOOT_STAT_STAGE 0 3
      if !(b.partGood 5 && pdConfigOk (b.part 5)) then .next (s.failStart 10)
      else
        let s := (s.ferruleInit).offerPdConfig (b.part 5)
        .next ((s.wr F.GLB_BOOT_STAT_ADOPTED 0 1).wr F.GLB_BOOT_STAT_STAGE 0 4)

/-- UNSEAL (step 11, R61). -/
def execUnseal (s : State) : Out := .next (if s.atStage 4 then s.unseal.wr F.GLB_BOOT_STAT_STAGE 0 5 else s)

/-- A Nib image keeps the bounds of 10 R242. -/
def nibImageOk (img : List Byte) : Bool :=
  let n := fieldAt img 4 2
  decide (fieldAt img 0 4 = 0x4E494231) && decide (1 ≤ n) && decide (n ≤ 64) && decide (fieldAt img 6 10 = 0)
    && (List.range n).all (fun i =>
      let f (k : Nat) : Nat := fieldAt img (16 + 16 * i + 4 * k) 4
      decide (f 1 % 4 = 0) && decide (f 1 ≤ 65536) && decide (f 3 % 4 = 0) && decide (f 3 ≤ 131072)
        && decide (f 0 + f 1 ≤ img.length) && decide (f 2 + f 3 ≤ img.length))

/-- STAGE 7 is reached: the device is in RUN (step 13); GLB_RST_COUNT and cause RAIL end (R68, 21 R417); the time to CONFIRM starts (22
R425). -/
def State.stage7 (s : State) : State :=
  let s := { s with phase := .running, upd := { s.upd with confirmAt := if s.on F.UPD_STAT_CONFIRM_PENDING 0 then some s.now else none } }
  ((s.wr F.GLB_BOOT_STAT_STAGE 0 7).wr F.GLB_RST_COUNT_COUNT 0 0).wr F.BLT_FLT_STAT_RAIL 0 0

/-- SCROLL_LOAD (steps 12 and 13, 02 R46): the base Scroll of the active set is checked, verified and applied. -/
def execScrollLoad (ok : Bool) (s : State) : Out :=
  if !s.atStage 5 then .next s
  else
    let b := s.bank s.activeNo
    let bs := b.part 4
    let img := b.part 3
    if !(ok && b.partGood 4 && nibImageOk img) then .next (s.failStart 12)
    else match scrollErr false ⟨s.rd F.RSV_STAT_FOUND_MIB 0, fieldAt img 4 2, []⟩ bs with
      | some e => .next ((s.scrFail e).failStart 12)
      | none => match s.sigErr bs (fieldAt bs 80 4) with
        | some c => .next ((s.scrFail (errAll c)).failStart 12)
        | none => .next ((s.wr F.GLB_BOOT_STAT_STAGE 0 6).applyBase bs img).stage7

/-- CONFIRM_DUE: 10 s of TIMEOUT_S remain. -/
def execConfirmDue (s : State) : Out := .next (if s.upd.confirmAt.isSome then s.evt F.UPD_STAT_CONFIRM_DUE_EVT 0 else s)

/-- CONFIRM_TIMEOUT: a failed start check with FAIL_CODE 0x0E. -/
def execConfirmTimeout (s : State) : Out := .next (if s.upd.confirmAt.isSome then s.failStart 0x0E else s)

/-! ## Resets (R63, R64) -/

/-- A plain main-die reset while AUTH holds erases a stale TOMBSTONE record: one whose BANK the record in force does not name (22 R429). -/
def State.staleErase (s : State) : State :=
  match s.tombstone, s.recordInForce with
  | some t, some (_, r) => if s.on F.UPD_STAT_AUTHED 0 && decide (t.bank ≠ r.bank) then { s with flash := { s.flash with tomb := [] } } else s
  | _, _ => s

/-- The main die runs code. -/
def State.mainRuns (s : State) : Bool := s.mainUp && !s.stopped

/-- GLB_RST_MAIN: a write of GLB_RST with MAIN and a key. -/
def execGlbRstMain (key : BitVec 8) (s : State) : Out := .next (if key = 0xA5 ∧ s.mainRuns = true then s.staleErase.mainReset 4 0 else s)

/-- GLB_RST_RECOVERY: with RECOVERY. -/
def execGlbRstRecovery (key : BitVec 8) (s : State) : Out := .next (if key = 0xA5 ∧ s.mainRuns = true then s.mainReset 5 0 else s)

/-- SYS_RST_N_LOW: for 1 µs or more. -/
def execSysRstNLow (s : State) : Out := .next (if s.phase = .off then s else s.staleErase.mainReset 3 0)

/-- MAIN_DIE_RESET_RELEASE: after 10 µs. A MAINT_N that was low at the power-on release counts while it stays low, and a unit in
recovery mode does not leave it while MAINT_N is low at the release. -/
def execMainDieResetRelease (maintLow : Bool) (s : State) : Out :=
  .next (if s.phase = .held then State.released { s with maintLow := maintLow && (s.maintLow || s.on F.BLT_FLT_STAT_RECOVERY 0) } else s)

/-- PCIE_RESET: PERST_N low, hot reset or link down. -/
def execPcieReset (s : State) : Out := .next s.pcieReset

/-- GLB_BLK_RST_WRITE: an engine or S1 is held in reset while its bit is 1; setting it resets the engine or core. -/
def execGlbBlkRstWrite (nib : BitVec 10) (s1 : Bool) (s : State) : Out :=
  let old := s.rd F.GLB_BLK_RST_NIB 0
  let s := (s.wr F.GLB_BLK_RST_NIB 0 nib.toNat).wrb F.GLB_BLK_RST_S1 0 s1
  let s := (List.range 10).foldl (fun (t : State) n => if nib.toNat.testBit n && !old.testBit n then t.nibReset n else t) s
  .next (if s1 then { s.wr F.GLB_SCRIBE_CTL_S1_RUN 0 0 with coreStop := clrBitN s.coreStop 1, cores := s.cores.put 1 CoreSt.init } else s)

/-- S1_RUN: S1 starts at GLB_S1_BOOT, unless it is held in reset or runs already. -/
def execS1Run (s : State) : Out :=
  .next (if s.on F.GLB_BLK_RST_S1 0 || s.on F.GLB_SCRIBE_CTL_S1_RUN 0 then s
    else { s.wr F.GLB_SCRIBE_CTL_S1_RUN 0 1 with cores := s.cores.put 1 ⟨true, s.rd F.GLB_S1_BOOT_ADDR 0, .m, 0⟩ })

/-! ## Interrupts, timer, watchdog, cores (R71 to R76) -/

/-- Source `n` is pending for target `t` and not in service. -/
def State.irqFor (s : State) (t n : Nat) : Bool :=
  s.irqRaised n && s.on F.GLB_IRQ_CFG_PRIO n && decide (s.rd F.GLB_IRQ_CFG_TARGET n = t) && !s.inService.contains n

/-- The source of the highest priority, the lowest number first among equals, 0 when none is pending. -/
def State.irqBest (s : State) (t : Nat) : Nat :=
  (List.range 256).foldl (fun b n =>
    if s.irqFor t n && (decide (b = 0) || decide (s.rd F.GLB_IRQ_CFG_PRIO b < s.rd F.GLB_IRQ_CFG_PRIO n)) then n else b) 0

/-- The external interrupt of target `t` is pending. -/
def State.irqExt (s : State) (t : Nat) : Bool :=
  (List.range 256).any (fun n => s.irqFor t n && decide (s.rd F.GLB_IRQ_THRESH_THRESH t < s.rd F.GLB_IRQ_CFG_PRIO n))

/-- IRQ_CLAIM: a read of GLB_IRQ_CLAIM[t]. -/
def execIrqClaim (ini : Initiator) (t : Fin 4) (s : State) : Out :=
  if s.coreHalted ini then .next s else
  let n := s.irqBest t
  let s := s.reply ini .done n
  .next (if n = 0 then s else { s with inService := s.inService ++ [n] })

/-- IRQ_COMPLETE: a write of a source number. -/
def execIrqComplete (n : BitVec 8) (s : State) : Out := .next { s with inService := s.inService.filter (fun k => decide (k ≠ n.toNat)) }

/-- The machine timer interrupt of core `c` is pending; its machine software interrupt is pending. -/
def State.mtip (s : State) (c : Nat) : Bool := decide (s.rd F.GLB_MTIMECMP_VALUE c ≤ s.mtimeNow)
def State.msip (s : State) (c : Nat) : Bool := s.bit F.GLB_MSIP_MSIP 0 c

/-- MTIME_COMPARE: the interrupt is pending as long as the comparison holds; nothing else is held of it. -/
def execMtimeCompare (_c : Fin 2) (s : State) : Out := .next s

/-- The watchdog has reached zero: it counts from step 7 on, and not while it pauses in DOZE (R76). -/
def State.wdogZero (s : State) : Bool :=
  match s.wdog with
  | .runs t => decide (t ≤ s.now)
  | _ => false

/-- WDOG_KICK: a write to GLB_WDOG_KICK reloads the count. In DOZE the count is kept. -/
def execWdogKick (v : Word) (s : State) : Out :=
  .next (if v ≠ 0x5A5A then s
    else match s.wdog with
      | .runs _ => { s with wdogWarned := false }.wdogLoad
      | _ => s)

/-- WDOG_EXPIRY: the watchdog reaches zero, and reloads. -/
def execWdogExpiry (s : State) : Out :=
  .next (if !s.wdogZero then s
    else if s.wdogWarned then s.wdogLoad.reportX 0x009 elemDevice
    else { s with wdogWarned := true }.wdogLoad.reportX 0x008 elemDevice)

/-- LOCKSTEP_MISMATCH of a core: it stops. -/
def execLockstepMismatch (c : Fin 2) (s : State) : Out :=
  .next ({ s with coreStop := setBitN s.coreStop c }.reportX (0x00A + c) (elemId 7 c))

/-- CACHE_ERROR of a core: L1I parity (refetched), a corrected error of L1D or L2, an uncorrectable one. -/
def execCacheError (c : Fin 2) (k : CacheErr) (s : State) : Out :=
  .next (s.reportX (match k with | .parity => 0x00C + c | .corrected => 0x00E + c | .uncorrectable => 0x010 + c) (elemId 7 c))

end Sys2Proof.Machine
end

