-- ==== Sys2Proof/Machine/Views.lean ====
section
/-! DEFINITION. Register fields that show what a unit holds elsewhere (00 R7, RO): what a read returns for every field of the
register map. A field that is not in `viewList` reads what the register file holds. -/
namespace Sys2Proof.Machine

/-- Word `n` of a byte string, byte 4n in bits [31:24]. -/
def beWord (bs : List Byte) (n : Nat) : Nat := beNat ((bs.drop (4 * n)).take 4)

/-- The words of a byte string, the first word lowest. -/
def beWords (bs : List Byte) (count : Nat) : Nat :=
  (List.range count).foldl (fun x k => x + beWord bs k * 2 ^ (32 * k)) 0

/-- NSL_NET.NEEDERS (19 R386, R391): other nodes of network `k` whose last presence message asked for the bus, is not older than
3 T_PRES and is not capped. -/
def State.needers (s : State) (k : Nat) : Nat :=
  ((s.nodesOf k).filter (fun i =>
    s.bit F.NSL_NODE_FLAGS i 0 && !s.on F.NSL_NODE_CAPPED i && decide (s.rd F.NSL_NODE_NODE i ≠ s.rd F.NSL_NET_MY_NODE k)
      && (match s.nslNodes.find i with
        | some x => decide (s.now ≤ x.last + 3 * s.tPres k * ticksMs)
        | none => false))).length

/-- NSL_NODE.NEED_S and LAST_MS of entry `i`. -/
def State.nodeNeedS (s : State) (i : Nat) : Nat :=
  match s.nslNodes.find i with
  | some x => if s.on F.NSL_NODE_VALID i && s.on F.NSL_NODE_NEED i then (s.now - x.since) / (1000 * ticksMs) else 0
  | none => 0
def State.nodeLastMs (s : State) (i : Nat) : Nat :=
  match s.nslNodes.find i with
  | some x => if s.on F.NSL_NODE_VALID i then min ((s.now - x.last) / ticksMs) (2 ^ 32 - 1) else 0
  | none => 0

/-- UPD_CONFIRM_CFG.REMAIN_S (22 R424): seconds left to CONFIRM; TIMEOUT_S acts within 10 to 3,600. -/
def State.confirmLeft (s : State) : Nat :=
  match s.upd.confirmAt with
  | some t => max 10 (min 3600 (s.rd F.UPD_CONFIRM_CFG_TIMEOUT_S 0)) - (s.now - t) / (1000 * ticksMs)
  | none => 0

/-- Words of the TOMBSTONE record (22 R426), 0 without a valid one. -/
def State.tombWord (s : State) (n : Nat) : Nat := if s.tombstone.isSome then beWord s.flash.tomb n else 0

/-- Bit `j` for ring `first + j` with COMPL_EVT set (16 DMA_RX_CAUSE, DMA_TX_CAUSE). -/
def State.complCause (s : State) (first : Nat) : Nat :=
  maskOf ((List.range 32).filter (fun j => s.on F.DMA_RING_STAT_COMPL_EVT (first + j)))

/-- The head packet of FIFO `f` in QUE_FIFO_STAT. -/
def State.fifoAvail (s : State) (f : Nat) : Nat := match s.fifoHead f with | some p => p.bytes.length | none => 0
def State.fifoCons (s : State) (f : Nat) : Bool := match s.fifoHead f with | some p => p.inCons | none => false
def State.fifoCount (s : State) (f : Nat) : Nat :=
  let x := s.fifo f
  min 4095 (((x.pkts ++ x.mid ++ x.tail).filter (fun p => !p.isOpen)).length)

/-- Bits 8 and above, and bits [7:0], of TBL_AGG_STAT (13): how many buckets move, and which members are up. -/
def State.aggMoving (s : State) (g : Nat) : Nat := ((List.range 256).filter (s.moving g)).length
def State.aggUpMask (s : State) (g : Nat) : Nat := if (s.aggSt g).on then maskOf (s.aggUp g) else 0

/-- LC_CFG_DIGEST (20 R395). -/
def State.pdDigest (s : State) : List Byte := match s.pdConfig with | some c => fit 48 (sha384 c) | none => []

/-- The views of the platform domain. -/
def viewsPlatform : List (Nat × (State → Nat → Nat)) := [
  (F.GLB_DEV_REV_PD_REV.id, fun s _ => if s.ferrule.everUp then s.rd F.GLB_DEV_REV_PD_REV 0 else 0),
  (F.GLB_UID_UID.id, fun _ n => beWord uidBytes n),
  (F.GLB_IRQ_CFG_PENDING.id, fun s n => b2n (s.irqRaised n)),
  (F.GLB_MTIME_VALUE.id, fun s _ => s.mtimeNow),
  (F.SCR_HARD_DIGEST_DIGEST.id, fun s n => if s.scr.base.isEmpty then 0 else beWord (hardDigest s.scr.base) n),
  (F.BLT_STAT_QUEUED.id, fun s _ => min 64 s.blt.queue.length),
  (F.BLT_FLT_STAT_BEATING.id, fun s _ => b2n s.beating),
  (F.BLT_FLT_STAT_FAULT.id, fun s _ => b2n s.pairFault),
  (F.LC_CMD_CMD.id, fun s _ => s.lcCmd),
  (F.LC_EVT_CH.id, fun s _ => s.lcEvt),
  (F.LC_BANK_INRUSH.id, fun s b => maskOf ((List.range 6).filter (fun j => decide (s.lcState (6 * b + j) = lcInrush)))),
  (F.LC_CFG_DIGEST_DIGEST.id, fun s n => beWord s.pdDigest n),
  (F.LC_CH_WIRE_Q_PERMILLE.id, fun s n => s.qPermille n),
  (F.LC_CH_MEAS_I_10MA.id, fun s n => if s.lcState n = lcInrush ∨ s.lcState n = lcOn then s.rd F.LC_CH_MEAS_I_10MA n else 0),
  (F.UPD_STAT_TOMBSTONED.id, fun s _ => b2n s.tombstone.isSome),
  (F.UPD_CONFIRM_CFG_REMAIN_S.id, fun s _ => s.confirmLeft),
  (F.UPD_TOMB_BYTES.id, fun s n => s.tombWord n),
  (F.NSL_NET_NEEDERS.id, fun s k => s.needers k),
  (F.NSL_NODE_EXEMPT.id, fun s i => b2n (s.on F.NSL_NODE_VALID i && s.exempt (s.rd F.NSL_NODE_NET i) (s.rd F.NSL_NODE_NODE i))),
  (F.NSL_NODE_NEED_S.id, fun s i => s.nodeNeedS i),
  (F.NSL_NODE_LAST_MS.id, fun s i => s.nodeLastMs i),
  (F.DMA_RX_CAUSE_RING.id, fun s _ => s.complCause 0),
  (F.DMA_TX_CAUSE_RING.id, fun s _ => s.complCause 32),
  (F.BRG_STAT_INIT_OUT.id, fun s _ => s.lig.out.length),
  (F.BRG_STAT_RESP_OUT.id, fun s _ => s.lig.resp)]

/-- The views of the forwarding domain. -/
def viewsForwarding : List (Nat × (State → Nat → Nat)) := [
  (F.ETH_GRP_IRQ_PORT.id, fun s g => s.ethGrp (grpPorts g).1 (grpPorts g).2),
  (F.ETH_LPI_CFG_EN.id, fun s p => b2n (s.lpiEn p)),
  (F.TBL_DRAIN_OLDEST.id, fun s _ => s.drain),
  (F.TBL_BUF_PENDING.id, fun s _ => s.pendingWrites),
  (F.TBL_BUF_UNAPPLIED.id, fun s _ => s.updBuf.length - s.pendingWrites),
  (F.TBL_FDB_STAT_ENTRIES.id, fun s i => (s.fdbOf i).length),
  (F.TBL_FDB_STAT_STASH.id, fun s i => ((s.fdbOf i).filter (fun e => decide (65536 ≤ e.1))).length),
  (F.TBL_PORT_LCOUNT_COUNT.id, fun s p => s.lcount (pipeOf p) p),
  (F.PP_STENCIL_DEF_ACTION.id, fun s i => s.rd F.PP_STENCIL_DEF_ACTION i &&& 0x7FEFFF7F),
  (F.SIG_P65_MAP_QUEUE.id, fun s i => s.rd F.SIG_P65_MAP_QUEUE i &&& 0x3F3F3F3F3F3F3F3F),
  (F.SIG_RT_STAT_ENTRIES.id, fun s _ => s.sigTable.length),
  (F.SIG_RT_STAT_STASH.id, fun s _ => (s.sigTable.filter (fun e => decide (32768 ≤ e.1))).length),
  (F.TBL_AGG_STAT_MOVING.id, fun s g => s.aggMoving g),
  (F.TBL_AGG_STAT_UP.id, fun s g => s.aggUpMask g),
  (F.QUE_POOL_FREE.id, fun s i => s.poolFree i),
  (F.QUE_POOL_MIN_SUM.id, fun s i => s.minSum i),
  (F.QUE_POOL_UNUSED.id, fun s i => s.unusedReserve i),
  (F.QUE_CBS_CREDIT.id, fun s i => ofSigned 32 (s.credit (i / 8) (i % 8) / creditUnit)),
  (F.QUE_DEPTH_CELLS.id, fun s q => s.depthCells q),
  (F.QUE_DEPTH_BLOCKS.id, fun s q => s.depthBlocks q),
  (F.QUE_FIFO_STAT_OPEN.id, fun s f => b2n (decide ((s.fifo f).prod ≠ .none))),
  (F.QUE_FIFO_STAT_HEAD_VISIBLE.id, fun s f => b2n (s.fifoHead f).isSome),
  (F.QUE_FIFO_STAT_IN_CONS.id, fun s f => b2n (s.fifoCons f)),
  (F.QUE_FIFO_STAT_PACKETS.id, fun s f => s.fifoCount f),
  (F.QUE_FIFO_STAT_HEAD_AVAIL.id, fun s f => s.fifoAvail f),
  (F.INK_STAT_FREE_CELLS.id, fun s _ => 131072 - s.ink.used),
  (F.RSV_STAT_SELF_REFRESH.id, fun s _ => b2n (s.on F.RSV_STAT_TRAINED 0 && decide (s.rd F.PWR_STAT_STATE 0 = 2))),
  (F.RSV_BLOCKS_FREE.id, fun s _ => s.rsvTotal - s.ink.blkUsed),
  (F.RUL_TIME_SEC.id, fun s t => timeSec (s.ruler t).time),
  (F.RUL_TIME_NS.id, fun s t => timeNs (s.ruler t).time),
  (F.RUL_TIME_FRAC.id, fun s t => timeFrac (s.ruler t).time),
  (F.RUL_TS_STAT_FREE.id, fun s _ => 8192 - s.tsRecs.length),
  (F.RUL_PORT_CFG_TC_MODE.id, fun s p => if p < 40 then s.rd F.RUL_PORT_CFG_TC_MODE p else 0)]

/-- The views of the field and security domains. -/
def viewsFields : List (Nat × (State → Nat → Nat)) := [
  (F.LSL_GRP_IRQ_LANE.id, fun s _ => s.laneGrp),
  (F.LSL_MVB_FRESH_AGE.id, fun s i => s.mvbAge (i / 256) (i % 256)),
  (F.NIB_PC_PC.id, fun s n => (s.nibEng n).pc.toNat),
  (F.NIB_RESTART_WINDOW.id, fun s n => (s.nibRestarts n).length),
  (F.NIB_EVQ_DEPTH.id, fun s n => (s.nibEng n).evq.length),
  (F.KEY_SLOT_ATTR.id, fun s n => (s.keySlot n).attr.word),
  (F.KEY_SLOT_COUNT.id, fun s n => (s.keySlot n).count),
  (F.KEY_SLOT_REC_COUNTER.id, fun s n => (s.keySlot n).counter),
  (F.KEY_SLOT_GEN.id, fun s n => (s.keySlot n).gen),
  (F.KEY_SLOT_STATE.id, fun s n => (s.keySlot n).state),
  (F.KEY_STAT_PRODUCTION.id, fun _ _ => b2n (Config.lifecycle.toNat.testBit 0)),
  (F.KEY_STAT_DEBUG_LOCKED.id, fun _ _ => b2n (Config.lifecycle.toNat.testBit 1)),
  (F.KEY_FLEET_KEY_ID.id, fun _ k => (Config.fleetId k).toNat),
  (F.KEY_FLEET_REVOKED.id, fun s k => b2n (s.fleetRevoked.testBit k)),
  (F.KEY_FLEET_PUBKEY.id, fun _ k => beWords (fit 96 (Config.fleetKey k)) 24),
  (F.CIP_PORT_RX_EN.id, fun s p => b2n (s.cipRx p)),
  (F.CIP_PORT_TX_PROTECT.id, fun s p => b2n (s.cipTx p)),
  (F.CIP_PORT_VALIDATE.id, fun s p => if s.secure p then 2 else s.rd F.CIP_PORT_VALIDATE p)]

/-- Every field that shows what a unit holds elsewhere. -/
def viewList : List (Nat × (State → Nat → Nat)) := viewsPlatform ++ viewsForwarding ++ viewsFields

/-- The value of field `f` of element `i` as a read sees it. -/
def State.view (s : State) (f : Fld) (i : Nat) : Nat :=
  match viewList.find? (fun x => decide (x.1 = f.id)) with
  | some x => x.2 s i
  | none => s.rd f i

/-- The value of element `i` of register `d` as a read sees it: 0 in reserved bits and write-only fields (00 R7). -/
def State.readReg (s : State) (d : RegDef) (i : Nat) : Nat :=
  if regAbsent d i then 0 else spell (d.flds.map (fun f => (f, f.ty.shown (s.view f i))))

/-- The register word at offset `a` as a read sees it, if `a` names one. -/
def State.regWord (s : State) (a : Nat) : Option Nat :=
  match (s.regHits a).getLast? with
  | some (d, i, w) => some (bits (s.readReg d i) (32 * w) 32)
  | none => none

end Sys2Proof.Machine
end

