-- ==== Sys2Proof/Machine/Access.lean ====
section
/-! DEFINITION. Register accesses (spec 00 R4 to R8, 01 R17, 02 R52, 03 R69, 16 R351): what a write of a word does, by the register
it reaches, and what a read returns and clears. -/
namespace Sys2Proof.Machine

/-- The state that a meaning leaves. -/
def leaves (o : Out) (s : State) : State :=
  match o with
  | .next t => t
  | _ => s

/-- A command whose end the spec leaves to the flash or to a pin: a free value decides it. -/
def State.chance (s : State) (g : Bool → State → Out) : State := leaves (g (Config.outcome s.freeCtr) s.drawn) s

/-- `i` as a number below `n + 1`. -/
def finMod (n i : Nat) : Fin (n + 1) := ⟨i % (n + 1), Nat.mod_lt _ (Nat.succ_pos n)⟩

/-- The fields `fs` of element `i` take what a write of `v` leaves in them by their types (00 R7). -/
def State.put (s : State) (fs : List Fld) (i v : Nat) : State := s.storeFlds s.locked fs i v

/-- The fields of a register but those of `not`. -/
def butFlds (fs not : List Fld) : List Fld := fs.filter (fun f => !decide (f.id ∈ not.map Fld.id))

/-- What a write of a whole register does: state, initiator, fields, element, value. -/
abbrev Handler := State → Initiator → List Fld → Nat → Nat → State

/-- The effect of `o` when bit `b` of `v` is 1. -/
def State.onBit (s : State) (v b : Nat) (o : State → Out) : State := if v.testBit b then leaves (o s) s else s

/-! ## Registers whose write does more than store (each chapter) -/

/-- GLB_RST: RECOVERY goes before MAIN. GLB_L2_CFG takes 0 to 512 in steps of 64. -/
def glbHandlers : List (Nat × Handler) := [
  (F.GLB_RST_KEY.id, fun s _ _ _ v =>
    let key := BitVec.ofNat 8 (F.GLB_RST_KEY.cut v)
    if v.testBit 1 then leaves (execGlbRstRecovery key s) s else s.onBit v 0 (execGlbRstMain key)),
  (F.GLB_BLK_RST_S1.id, fun s _ _ _ v => leaves (execGlbBlkRstWrite (BitVec.ofNat 10 v) (v.testBit 16) s) s),
  (F.GLB_SCRIBE_CTL_S1_RUN.id, fun s _ _ _ v => s.onBit v 0 execS1Run),
  (F.GLB_WDOG_KICK_KICK.id, fun s _ _ _ v => leaves (execWdogKick (BitVec.ofNat 32 v) s) s),
  (F.GLB_IRQ_CLAIM_SOURCE.id, fun s _ _ _ v => leaves (execIrqComplete (BitVec.ofNat 8 v) s) s),
  (F.GLB_L2_CFG_SRAM_KIB.id, fun s _ fs i v =>
    let k := F.GLB_L2_CFG_SRAM_KIB.cut v
    if k ≤ 512 ∧ k % 64 = 0 then s.put fs i v else s)]

/-- SCR_CMD with both bits is refused with 0x0B (02 R52); SCR_VARIANT is refused while SCR_LOCK is set (R56).
DESIGN CHOICE: R56 names no report of a refused SCR_VARIANT write, and LAST_ERR stays; a write of SCR_RESTRUCT with GO = 0 starts no
restructure, and its GROUP and VARIANT are stored under the lock too. -/
def scrHandlers : List (Nat × Handler) := [
  (F.SCR_CMD_PERSIST.id, fun s _ _ _ v =>
    match v.testBit 1, v.testBit 0 with
    | true, true => s.wr F.SCR_STAT_LAST_ERR 0 0x0B
    | true, false => leaves (execScrollPersist s) s
    | false, true => leaves (execScrollApply s) s
    | false, false => s),
  (F.SCR_RESTRUCT_GO.id, fun s _ fs i v =>
    if v.testBit 31 then leaves (execRestructure (BitVec.ofNat 2 v) (BitVec.ofNat 3 (v / 16)) s) s else s.put fs i v),
  (F.SCR_VARIANT_VAR_G3.id, fun s _ fs i v => if s.locked then s else s.put fs i v)]

/-- PWR_MODE is written by S0 only, and takes no TARGET of 4 or more (18 R370). -/
def pwrHandlers : List (Nat × Handler) := [
  (F.PWR_MODE_TARGET.id, fun s ini fs i v => if ini = .s0 ∧ v % 8 < 4 then s.put fs i v else s),
  (F.PWR_REQ_REQ.id, fun s _ _ _ v => s.onBit v 31 (execPwrReqWrite (BitVec.ofNat 3 v))),
  (F.PWR_REQ_ACK_TAKE.id, fun s _ _ _ v => s.onBit v 31 execPwrReqTake),
  (F.AVS_LOOP_CTL_LOOP_EN.id, fun s _ fs i v =>
    let s := s.put fs i v
    s.wrb F.AVS_STAT_LOOP_ACTIVE 0 (decide (s.rd F.PWR_STAT_STATE 0 = 1) && s.on F.AVS_LOOP_CTL_LOOP_EN 0 && !s.legacyMode))]

/-- BLT_CTL, BLT_FLT_CTL and BLT_PLOG_HEAD. -/
def bltHandlers : List (Nat × Handler) := [
  (F.BLT_CTL_CNT_CLR.id, fun s _ _ _ v => (s.onBit v 31 execBltCntClr).onBit v 30 execBltLogClr),
  (F.BLT_FLT_CTL_ABSENT_MS.id, fun s _ fs i v => let s := s.put (butFlds fs [F.BLT_FLT_CTL_FORCE]) i v; leaves (execFltForceWrite (v.testBit 1) s) s),
  (F.BLT_PLOG_HEAD_KEY.id, fun s _ _ _ v => s.onBit v 23 (execBltPlogClr (BitVec.ofNat 8 (F.BLT_PLOG_HEAD_KEY.cut v))))]

/-- Ethernet port registers; element = port (04). -/
def ethHandlers : List (Nat × Handler) := [
  (F.ETH_CTL_MAX_LEN.id, fun s _ fs p v =>
    let s := (s.put fs p v).onBit v 15 (execEthCntClr (finMod 39 p))
    if p < 8 ∧ v.testBit 8 = true then s.peerLost p else s),
  (F.ETH_SERDES_RX_READAPT.id, fun s _ _ p v => s.onBit v 31 (execSerdesReadapt (finMod 39 p))),
  (F.ETH_FC_CFG_PAUSE_QUANTA.id, fun s _ fs p v => (s.put fs p v).fcCheck p),
  (F.ETH_FC_THR_XON_CELLS.id, fun s _ fs p v => (s.put fs p v).fcCheck p),
  (F.ETH_TAPER_CTL_FORCE.id, fun s _ _ p v => s.taperCtl p (bits v 5 2) (bits v 3 2) (bits v 1 2) (v.testBit 0)),
  (F.ETH_TAPER_THR_WIN_US.id, fun s _ fs p v => (s.put fs p v).taperService p),
  (F.ETH_TAPER_DWELL_UP_CELLS.id, fun s _ fs p v => (s.put fs p v).taperService p)]

/-- Lane registers; element = lane (05, 06). A limiter keeps no more tokens than a new BURST allows (05 R115). A write that leaves EN of a CAN lane as it was is neither CAN_ENABLE nor CAN_DISABLE. -/
def laneHandlers : List (Nat × Handler) := [
  (F.LSL_CAN_CTL_CNT_CLR.id, fun s _ fs n v =>
    let was := s.on F.LSL_CAN_CTL_EN n
    let s := (s.put (butFlds fs [F.LSL_CAN_CTL_EN]) n v).onBit v 15 (execCanCntClr (finMod 23 n))
    let s := if v.testBit 0 && !was then s.canEnable n else if !v.testBit 0 && was then s.canDisable n else s
    let s := if s.on F.LSL_CAN_CTL_AUTO_RECOV n then leaves (execCanRecoveryStart (finMod 23 n) s) s else s
    s.canShow n),
  (F.LSL_CAN_RECOV_START.id, fun s _ _ n v => s.onBit v 0 (execCanRecoveryStart (finMod 23 n))),
  (F.LSL_CAN_RL_TOKENS.id, fun s _ fs i v =>
    let s := s.put fs i v
    s.wr F.LSL_CAN_RL_TOKENS i (min (s.rd F.LSL_CAN_RL_TOKENS i) (max 1 (s.rd F.LSL_CAN_RL_BURST i)))),
  (F.LSL_CAN_FLT_RL.id, fun s _ fs i v => { s.put fs i v with canBad := s.canBad.filter (fun k => decide (k ≠ i)) }),
  (F.LSL_CAN_BRD_START.id, fun s _ _ n v => s.onBit v 31 (execBrdStart (finMod 23 n))),
  (F.LSL_T1S_CTL_CNT_CLR.id, fun s _ fs n v => ((s.put fs n v).onBit v 15 (execT1sCntClr (finMod 23 n))).t1sConfigured n),
  (F.LSL_T1S_PLCA_MAX_BC.id, fun s _ fs n v => (s.put fs n v).t1sConfigured n),
  (F.LSL_MVB_CTL_CNT_CLR.id, fun s _ fs n v =>
    let was := s.mvbAdmin n
    ((s.put fs n v).onBit v 15 (execMvbCntClr (finMod 23 n))).mvbConfigured n was)]

/-- Pipeline registers; element = pipeline (07). PPA_QS_PORT_EN has bits [7:0] only. -/
def ppHandlers : List (Nat × Handler) := [
  (F.PP_CTL_CNT_CLR.id, fun s _ fs i v =>
    let p : Pipe := if i = 0 then .a else .b
    ((s.put fs i v).onBit v 31 (execPpxCntClr p)).onBit v 8 (execScFlush p)),
  (F.PP_QS_PORT_EN_PORT.id, fun s _ fs i v => s.put fs i (if i = 0 then v % 256 else v))]

/-- Shared tables, signal gateway, redundancy (08, 11, 13). A minimum epoch above TBL_EPOCH is stored as TBL_EPOCH (08 R192), and the
heads of the port's queues are then judged again. -/
def tblHandlers : List (Nat × Handler) := [
  (F.TBL_CTL_CNT_CLR.id, fun s _ fs i v => (s.put fs i v).onBit v 31 execTblCntClr),
  (F.TBL_CMD_BUMP.id, fun s _ _ _ v => s.onBit v 0 execEpochBump),
  (F.TBL_DRAIN_TARGET_TARGET.id, fun s _ _ _ v => leaves (execDrainTargetWrite (BitVec.ofNat 32 v) s) s),
  (F.TBL_LN_CFG_EN.id, fun s _ _ _ v =>
    leaves (execLnCfgEnable (v.testBit 31) (v.testBit 30) (BitVec.ofNat 5 (v / 2 ^ 16)) (BitVec.ofNat 4 v) s) s),
  (F.TBL_PORT_MIN_EPOCH_MIN.id, fun s _ _ p v =>
    let s := s.wr F.TBL_PORT_MIN_EPOCH_MIN p (if serialNewer v s.epoch then s.epoch else v)
    ((List.range 512).filter (fun q => decide (queueEgress q = p))).foldl State.pruned s),
  (F.SIG_CTL_CNT_CLR.id, fun s _ fs i v =>
    let was := s.on F.SIG_CTL_EN 0
    let s := (s.put fs i v).onBit v 31 execSigCntClr
    if v.testBit 0 && !was then s.sigLimitersFull else s),
  (F.TBL_RED_PAIR_SEQ.id, fun s _ _ i v => leaves (execRedPairModeWrite (finMod 3 i) (BitVec.ofNat 2 v) s) s),
  (F.TBL_AGG_CFG_EN.id, fun s _ fs g v => (s.put fs g v).aggConfigured g)]

/-- Queues and FIFOs; element = queue or FIFO (09). -/
def queHandlers : List (Nat × Handler) := [
  (F.QUE_CTL_CNT_CLR.id, fun s _ _ _ v => (s.onBit v 31 execQueCntClr).onBit v 1 execCellAuditStart),
  (F.QUE_FLUSH_GO.id, fun s _ fs i v => if v.testBit 31 then leaves (execQueFlushGo (v % 1024) s) s
    else if 511 < v % 1024 then s else s.put fs i v),
  (F.QUE_SCHED_STRICT.id, fun s _ fs p v => let s := s.put fs p v; if p < 8 then s.taperService p else s),
  (F.QUE_CBS_IDLE_SLOPE.id, fun s _ fs i v => let s := s.put fs i v; if i < 64 then s.taperService (i / 8) else s),
  (F.QUE_CFG_DEEP.id, fun s _ _ q v =>
    leaves (execQueCfgWrite (finMod 767 q) (BitVec.ofNat 18 v) (BitVec.ofNat 4 (v / 2 ^ 24)) (BitVec.ofNat 26 (v / 2 ^ 32))
      (BitVec.ofNat 26 (v / 2 ^ 64)) s) s),
  (F.QUE_FIFO_PROD_OP.id, fun s _ _ f v =>
    match bits v 30 2 with
    | 1 => leaves (execFifoOpen (finMod 255 f) s) s
    | 2 => leaves (execFifoCommit (finMod 255 f) (BitVec.ofNat 6 (v / 2 ^ 24)) (BitVec.ofNat 2 v) s) s
    | 3 => leaves (execFifoAbort (finMod 255 f) s) s
    | _ => s),
  (F.QUE_FIFO_DATA_DATA.id, fun s _ _ f v => leaves (execFifoData (finMod 255 f) (BitVec.ofNat 32 v) s) s),
  (F.QUE_FIFO_POP_POP.id, fun s _ _ f v => s.onBit v 0 (execFifoPop (finMod 255 f))),
  (F.QUE_FIFO_FLUSH_FLUSH.id, fun s _ _ f v => s.onBit v 0 (execFifoFlush (finMod 255 f)))]

/-- Nib engines; element = engine, for timers 4 * engine + timer (10). -/
def nibHandlers : List (Nat × Handler) := [
  (F.NIB_CTL_CNT_CLR.id, fun s _ _ n v =>
    let s := (s.wr F.NIB_CTL_AUTO_RESTART n (bits v 2 1)).onBit v 31 (execNibCntClr (finMod 9 n))
    (s.onBit v 1 (execNibHaltCmd (finMod 9 n))).onBit v 0 (execNibRun (finMod 9 n))),
  (F.NIB_DOORBELL_VALUE.id, fun s _ _ n v => leaves (execNibDoorbellWrite (finMod 9 n) (BitVec.ofNat 24 v) s) s),
  (F.NIB_TIMER_PERIODIC.id, fun s _ _ i v =>
    leaves (execNibTimerWrite (finMod 9 (i / 4)) (finMod 3 i) (v.testBit 31) (BitVec.ofNat 24 v) s) s)]

/-- Rulers; element = Ruler or pin (12). -/
def rulHandlers : List (Nat × Handler) := [
  (F.RUL_CTL_ROLE.id, fun s _ _ t v => leaves (execRulRunWrite (finMod 7 t) (v.testBit 0) s) s),
  (F.RUL_ADJ_ADJ.id, fun s _ _ t v => leaves (execRulAdjWrite (finMod 7 t) (BitVec.ofNat 40 v) s) s),
  (F.RUL_CMD_OP.id, fun s _ _ t v =>
    match v % 8 with
    | 1 => leaves (execRulStep (finMod 7 t) s) s
    | 2 => leaves (execRulSet (finMod 7 t) s) s
    | 3 => leaves (execRulSlew (finMod 7 t) s) s
    | 4 => leaves (execRulAccept (finMod 7 t) s) s
    | _ => s),
  (F.RUL_TXQ_TAIL_TAIL.id, fun s _ _ _ v => leaves (execTxqTailWrite (finMod 1023 v) s) s),
  (F.RUL_PPS_OUT_EN.id, fun s _ fs k v => let s := s.put fs k v; (s.ppsRetarget (s.rd F.RUL_PPS_OUT_RULER k)).ppsGate)]

/-- KEY_CMD (14) and CIP_LA_CMD, CIP_SEAL.LAST (15): LAST of a TX entry is read-only. -/
def secHandlers : List (Nat × Handler) := [
  (F.KEY_CTL_CNT_CLR.id, fun s _ fs i v => (s.put fs i v).onBit v 31 execKeyCntClr),
  (F.KEY_CMD_SRC_SLOT.id, fun s _ _ _ v =>
    let n := finMod 255 (bits v 8 8)
    match v % 8 with
    | 1 => s.chance (fun w t => execKeyUpdate w (Config.outcome t.freeCtr) t.drawn)
    | 2 => s.chance (execKeyGenerate n)
    | 3 => leaves (execKeyAttest n s) s
    | 4 => s.chance (execKeyDerive (finMod 255 (bits v 24 8)) n)
    | 5 => s.chance (execKeyErase n)
    | _ => s),
  (F.CIP_CTL_CNT_CLR.id, fun s _ fs i v => (s.put fs i v).onBit v 31 execCipCntClr),
  (F.CIP_LA_CMD_SLOT.id, fun s _ _ _ v =>
    let n := finMod 255 (bits v 24 8)
    let len := BitVec.ofNat 5 (v / 2 ^ 15)
    match v % 16 with
    | 1 => leaves (execLaGcmEnc n s) s
    | 2 => leaves (execLaGcmDec n len s) s
    | 3 => leaves (execLaCmacGen n s) s
    | 4 => leaves (execLaCmacVerify n len s) s
    | 5 => leaves (execLaSha384 s) s
    | 6 => leaves (execLaEcdsaSign s) s
    | 7 => leaves (execLaEcdsaVerify (BitVec.ofNat 4 (v / 2 ^ 20)) s) s
    | _ => s),
  (F.CIP_TXSA_VALID.id, fun s _ fs i v => (s.put fs i v).keepCopies),
  (F.CIP_RXSA_VALID.id, fun s _ fs i v => (s.put fs i v).keepCopies),
  (F.CIP_SEAL_VALID.id, fun s _ fs i v => (s.put fs i v).keepCopies),
  (F.CIP_TXSA_PN.id, fun s _ fs i v => let s := s.put fs i v; { s with pnOver := s.pnOver.filter (fun a => decide (a ≠ i)) }),
  (F.CIP_SEAL_LAST.id, fun s _ fs i v => if s.on F.CIP_SEAL_DIR i then s else s.put fs i v)]

/-- DMA rings; element = ring (16). RING_BASE ignores writes while EN is 1. -/
def dmaHandlers : List (Nat × Handler) := [
  (F.DMA_CTL_CNT_CLR.id, fun s _ fs i v => (s.put fs i v).onBit v 31 execDmaCntClr),
  (F.DMA_VEC_REARM_VEC.id, fun s _ _ _ v => leaves (execDmaVecRearm (BitVec.ofNat 64 v) s) s),
  (F.DMA_RING_BASE_ADDR.id, fun s _ fs r v => if s.on F.DMA_RING_CFG_EN r then s else s.put fs r v),
  (F.DMA_RING_CFG_EN.id, fun s _ _ r v => leaves (execDmaRingEnWrite (finMod 63 r) (BitVec.ofNat 32 v) s) s),
  (F.DMA_RING_TAIL_TAIL.id, fun s _ _ r v => leaves (execDmaRingTailWrite (finMod 63 r) (BitVec.ofNat 15 v) s) s),
  (F.DMA_RING_CMD_RESTART.id, fun s _ _ r v => s.onBit v 0 (execDmaRingRestart (finMod 63 r)))]

/-- The bridge's counters cleared (17 BRG_CTL.CNT_CLR). -/
def State.brgCntClr (s : State) : State := s.clearFld F.BRG_CNT_COUNT

/-- Ligature (17). An aperture whose DEV is written to a device for which another aperture is poisoned is poisoned (R363); clearing
BRG_LATE_DATA.VALID clears OVERWRITTEN. -/
def brgHandlers : List (Nat × Handler) := [
  (F.BRG_CTL_CNT_CLR.id, fun s _ fs i v => let s := s.put fs i v; if v.testBit 31 then s.brgCntClr else s),
  (F.BRG_APT_EN.id, fun s _ fs a v =>
    let was := s.rd F.BRG_APT_DEV a
    let s := s.put fs a v
    let dev := s.rd F.BRG_APT_DEV a
    if dev ≠ was ∧ (List.range 64).any (fun b => decide (b ≠ a) && s.poisoned b && decide (s.rd F.BRG_APT_DEV b = dev)) = true then s.wr F.BRG_APT_POISON a 1 else s),
  (F.BRG_LATE_DATA_VALID.id, fun s _ fs i v =>
    let s := s.put fs i v
    if s.on F.BRG_LATE_DATA_VALID 0 then s else s.wr F.BRG_LATE_DATA_OVERWRITTEN 0 0)]

/-- Network sleep, wake and load channels (19, 20). -/
def nslHandlers : List (Nat × Handler) := [
  (F.NSL_CTL_CNT_CLR.id, fun s _ fs i v =>
    let was := s.on F.NSL_CTL_EN 0
    ((s.put fs i v).onBit v 31 execNslCntClr).nslEnabled was),
  (F.NSL_NET_MEMBERS.id, fun s _ fs k v => (s.put fs k v).netConfigured k),
  (F.NSL_NET_EN.id, fun s _ fs k v =>
    let s := (s.put (butFlds fs [F.NSL_NET_LOCAL_NEED]) k v).netConfigured k
    leaves (execLocalNeedWrite (finMod 15 k) (v.testBit 28) s) s),
  (F.AOC_WAKE_SRC_SEC.id, fun s _ fs i v =>
    let s := s.put fs i v
    if s.on F.AOC_WAKE_SRC_VALID 0 then s else s.wr F.AOC_WAKE_SRC_MORE 0 0),
  (F.AOC_RTC_SEC.id, fun s _ fs i v => { s.put fs i v with rtcFrac := 0 }),
  (F.LC_ON_ON.id, fun s _ _ _ v => leaves (execLcOn (BitVec.ofNat 24 v) s) s),
  (F.LC_OFF_OFF.id, fun s _ _ _ v => leaves (execLcOff (BitVec.ofNat 24 v) s) s),
  (F.LC_CLR_CLR.id, fun s _ _ _ v => leaves (execLcClr (BitVec.ofNat 24 v) s) s)]

/-- UPD_CMD (22 R421). -/
def updHandlers : List (Nat × Handler) := [
  (F.UPD_CMD_RESTART.id, fun s _ _ _ v =>
    match v % 16 with
    | 1 => s.chance execUpdStage
    | 2 => s.chance (execUpdSheet (BitVec.ofNat 12 (v / 2 ^ 16)))
    | 3 => leaves (execUpdVerify (Config.badSheets s.freeCtr) s.drawn) s
    | 4 => s.chance (execUpdCommit (v.testBit 31))
    | 5 => leaves (execUpdAbort s) s
    | 6 => s.chance execUpdConfirm
    | 7 => leaves (execUpdAuth s) s
    | 8 => leaves (execUpdChallenge s) s
    | _ => s)]

/-- Every register whose write does more than store, by its first field. -/
def handlers : List (Nat × Handler) :=
  glbHandlers ++ scrHandlers ++ pwrHandlers ++ bltHandlers ++ ethHandlers ++ laneHandlers ++ ppHandlers ++ tblHandlers ++ queHandlers
    ++ nibHandlers ++ rulHandlers ++ secHandlers ++ dmaHandlers ++ brgHandlers ++ nslHandlers ++ updHandlers

/-- The value `v` written to element `i` of the register with fields `fs`. -/
def State.regStore (s : State) (ini : Initiator) (fs : List Fld) (i v : Nat) : State :=
  match fs with
  | [] => s
  | f :: _ =>
    match handlers.find? (fun h => decide (h.1 = f.id)) with
    | some h => h.2 s ini fs i v
    | none => s.put fs i v

/-! ## Writes -/

/-- A word written to one register: an upper word is held; the low word writes the whole register (00 R5). -/
def State.hitWrite (s : State) (ini : Initiator) (a val : Nat) (h : RegHit) : State :=
  if regAbsent h.1 h.2.1 then s
  else if h.2.2 ≠ 0 then s.hold ini a val
  else (s.unhold ini a h.1.words).regStore ini h.1.flds h.2.1 (s.wholeWrite ini h.1 h.2.1 a val)

/-- Registers that live on the power die (01): the region 0x00E8_0000, and five of the main die's blocks. -/
def onPowerDie (a : Nat) : Bool :=
  (decide (0xE80000 ≤ a) && decide (a < 0xF00000)) || decide (a = 0x200020) || (decide (0x200040 ≤ a) && decide (a < 0x200050))
    || (decide (0x200060 ≤ a) && decide (a < 0x200070)) || (decide (0x300010 ≤ a) && decide (a < 0x300018))

/-- A word written at an offset of a region: to a window, to the registers there, or to nothing (00 R6). -/
def State.wordWrite (s : State) (ini : Initiator) (a val : Nat) : State :=
  match s.winWrite a val with
  | some t => t
  | none => (s.regHits a).foldl (fun (t : State) h => t.hitWrite ini a val h) s

/-- The applied or waiting soft Scroll writes the register at offset `a` (02 R52). -/
def State.softNames (s : State) (a : Nat) : Bool :=
  s.on F.SCR_STAT_APPLYING 0 &&
    (scrollSects (s.scr.applying.getD s.staged)).any (fun x => decide (x.typ = 0x100) && (softRecs x.body).any (fun r => decide (r.1 = a)))

/-- A word written at an offset of a region, held while a soft apply that also writes it is in progress (02 R52). A register of the
power die is written over the Ferrule link, and not at all while the link is down. -/
def State.regWrite (s : State) (ini : Initiator) (a val : Nat) : State :=
  if onPowerDie a && !s.linkUp then s
  else if s.softNames a then { s with scr := { s.scr with held := s.scr.held ++ [(ini, a, val)] } }
  else (s.wordWrite ini a val).msixService

/-! ## Reads -/

/-- A read of an RC register at its offset (16 R351): it clears the events that it returns and copies them into _SNAP. -/
def State.rcRead (s : State) (first : Nat) (snap : Fld) : State × Nat :=
  let v := s.complCause first
  (((List.range 32).foldl (fun (t : State) j => if v.testBit j then t.wr F.DMA_RING_STAT_COMPL_EVT (first + j) 0 else t) s).wr snap 0 v, v)

/-- The RC registers: offset, first ring, companion. -/
def rcRegs : List (Nat × Nat × Fld) := [(0xD00010, 0, F.DMA_RX_CAUSE_SNAP_RING), (0xD00018, 32, F.DMA_TX_CAUSE_SNAP_RING)]

/-- A read that leaves an answer in the state, and its data. -/
def answered (o : Out) (s : State) : State × Nat :=
  let t := leaves o s
  (t, match t.answer with | some x => x.data | none => 0)

/-- A word read at an offset of a region, and the state that the read leaves (00 R5, R6). -/
def State.wordRead (s : State) (ini : Initiator) (a : Nat) : State × Nat :=
  if 0x1800000 ≤ a ∧ a < 0x1C00000 then
    answered (execFifoConsumeRead ini (finMod 255 ((a - 0x1800000) / 0x4000)) (finMod 4095 (a / 4)) s) s
  else if a = 0xC00018 then answered (execKeyRngRead ini s) s
  else if 0x1400 ≤ a ∧ a < 0x1410 then answered (execIrqClaim ini (finMod 3 (a / 4)) s) s
  else match rcRegs.find? (fun r => decide (r.1 = a)) with
    | some r => s.rcRead r.2.1 r.2.2
    | none =>
      match s.winRead a with
      | some v => (s, v)
      | none =>
        match s.latchedWord ini a with
        | some v => (s.unlatch ini a, v)
        | none =>
          match (s.regHits a).getLast? with
          | some (d, i, w) =>
            let v := s.readReg d i
            (if w = 0 ∧ 1 < d.words then s.latch ini a d.words v else s, bits v (32 * w) 32)
          | none => (s, 0)

/-- As `wordRead`; a read over the Ferrule link while it is down returns a free value. -/
def State.regRead (s : State) (ini : Initiator) (a : Nat) : State × Nat :=
  if onPowerDie a && !s.linkUp then (s.drawn, (Config.linkDownRead s.freeCtr).toNat) else s.wordRead ini a

/-! ## The commands -/

/-- An access that no region takes (00 R6): an error to its initiator, and an interconnect error in the Blotter. -/
def State.noRegion (s : State) (ini : Initiator) : State := (s.reply ini (refusalKind ini) 0).reportX 0x007 elemDevice

/-- REGISTER_WRITE. -/
def execRegisterWrite (ini : Initiator) (a : Nat) (val : Word) (s : State) : Out :=
  if a % 4 ≠ 0 then .fault .misalignedAccess
  else if !s.mainUp || s.coreHalted ini then .next s
  else if !s.reached a then .next (s.noRegion ini)
  else .next ((s.regWrite ini a val.toNat).reply ini .done 0)

/-- WIDE_REG_LOW_READ, and every other read of a register or window word. -/
def execWideRegLowRead (ini : Initiator) (a : Nat) (s : State) : Out :=
  if a % 4 ≠ 0 then .fault .misalignedAccess
  else if !s.mainUp || s.coreHalted ini then .next s
  else if !s.reached a then .next (s.noRegion ini)
  else
    let r := s.regRead ini a
    .next (r.1.reply ini .done r.2)

/-- RC_REGISTER_READ (16 R351). -/
def execRcRegisterRead (ini : Initiator) (a : Nat) (s : State) : Out :=
  match rcRegs.find? (fun r => decide (r.1 = a)) with
  | some r =>
    if s.mainUp && s.reached a && !s.coreHalted ini then
      let x := s.rcRead r.2.1 r.2.2
      .next (x.1.reply ini .done x.2)
    else .next s
  | none => .next s

/-- ACCESS_OUTSIDE_REGION (00 R6). -/
def execAccessOutsideRegion (ini : Initiator) (a : Nat) (s : State) : Out :=
  .next (if s.mainUp && !s.reached a && !s.coreHalted ini then s.noRegion ini else s)

end Sys2Proof.Machine
end

