-- ==== Sys2Proof/Machine/Clock.lean ====
section
/-! DEFINITION. The real-time clock of the power die (spec 03 R67, 19 R394, 23 R438). -/
namespace Sys2Proof.Machine

/-- The RTC advances by `n` times 1/32,768 s. -/
def State.rtcForward (s : State) (n : Nat) : State :=
  { s.wr F.AOC_RTC_SEC 0 (s.rd F.AOC_RTC_SEC 0 + (s.rtcFrac + n) / 32768) with rtcFrac := (s.rtcFrac + n) % 32768 }

/-- The RTC during one tick of 2.5 ns: 32,768 Hz from the crystal; from the internal oscillator a free value (R438). It runs while
the power die runs. -/
def State.rtcTick (s : State) : State :=
  if s.pd.phase ≠ .run then s
  else if s.xtalStopped then s.drawn.rtcForward (Config.rtcAdvance s.freeCtr)
  else
    let x := s.rtcAcc + 32768
    if x < 400000000 then { s with rtcAcc := x } else State.rtcForward { s with rtcAcc := x - 400000000 } 1

/-- XTAL32_STOP (R438): no indication but the clock itself. -/
def execXtal32Stop (s : State) : Out := .next (if s.pd.phase = .off then s else { s with xtalStopped := true })

end Sys2Proof.Machine
end

