-- ==== Sys2Proof/Machine/Ferrule.lean ====
section
/-! DEFINITION. The Ferrule link between the dies (spec 01 R11 to R13) and the loss of clocks (R26). -/
namespace Sys2Proof.Machine

/-- The direction whose receiver is `die`. -/
def State.ferruleTo (s : State) (die : Die) : FerruleDir :=
  match die with
  | .main => s.ferrule.toMain
  | .power => s.ferrule.toPower

/-- That direction replaced. -/
def State.setFerruleTo (s : State) (die : Die) (d : FerruleDir) : State :=
  match die with
  | .main => { s with ferrule := { s.ferrule with toMain := d } }
  | .power => { s with ferrule := { s.ferrule with toPower := d } }

/-- A die that can receive. -/
def State.dieRuns (s : State) (die : Die) : Bool :=
  match die with
  | .main => s.mainUp
  | .power => decide (s.pd.phase = .run)

/-- The die at the other end. -/
def otherDie (die : Die) : Die :=
  match die with
  | .main => .power
  | .power => .main

/-- What an accepted transfer does: a register write acts on the power die, unless it is in main-die absent; a report goes to the
Blotter. -/
def State.ferruleAct (s : State) (die : Die) (m : FerruleMsg) : State :=
  match die, m with
  | .power, .regWrite a v => if onPowerDie a && decide (a % 4 = 0) && !s.ferrule.absent then s.wordWrite .s0 a v.toNat else s
  | .main, .report r => { s with transit := s.transit ++ [r] }
  | _, _ => s

/-- FERRULE_TRANSFER_RX at the receiver `die` (R11): a bad CRC leaves the transfer unacknowledged; the expected number is accepted and
acts; a number already accepted is acknowledged and discarded; any other is not acknowledged. Until the acknowledgement of an accepted or
discarded transfer reaches the sender, the transfer stays pending there. A valid transfer ends cause ABSENT (21 R417). In
main-die absent the power die accepts none before the link is initialised again (R13).
DESIGN CHOICE: R11 gives no window for "has already been accepted"; the 128 numbers before the expected one count as accepted, also
right after initialisation. -/
def execFerruleTransferRx (die : Die) (got : FerruleRx) (seq : Fin 256) (msg : FerruleMsg) (s : State) : Out :=
  let d := s.ferruleTo die
  let kept := { d with pending := some (d.pending.getD msg) }
  let answered := match got with | .good true => { d with pending := none, retries := 0 } | _ => kept
  if !s.dieRuns die || !s.ferrule.up then .next s
  else if got = .badCrc then .next (s.setFerruleTo die kept)
  else
    let s := if die = .power then s.wr F.BLT_FLT_STAT_ABSENT 0 0 else s
    if decide (die = .power) && s.ferrule.absent then .next (s.setFerruleTo die kept)
    else if seq.val = d.expect then
      .next ((s.setFerruleTo die { answered with expect := (d.expect + 1) % 256 }).ferruleAct die msg)
    else if (d.expect + 256 - seq.val) % 256 ≤ 128 then .next (s.setFerruleTo die answered)
    else .next (s.setFerruleTo die kept)

/-- FERRULE_RETRANSMIT by the sender (R11, R12) of a transfer that stays unacknowledged, the pending one or, if none is known to
have failed, the one given: up to three, each reported; then the link has failed and the main side re-initialises it. -/
def execFerruleRetransmit (sent : FerruleSent) (s : State) : Out :=
  let rx := otherDie sent.die
  let d := s.ferruleTo rx
  if !s.dieRuns sent.die || !s.mainUp || !s.ferrule.up then .next s
  else if d.retries < 3 then
    .next ((s.setFerruleTo rx { d with pending := some (d.pending.getD sent.msg), retries := d.retries + 1 }).reportX 0x012 elemDevice)
  else .next (s.reportX 0x013 elemDevice).ferruleInit

/-- FERRULE_IDLE_SEND: an idle transfer of the main die. -/
def execFerruleIdleSend (s : State) : Out :=
  let d := s.ferrule.toPower
  .next (if s.mainUp && s.ferrule.up && d.pending.isNone then
    s.setFerruleTo .power { d with next := (d.next + 1) % 256, pending := some .idle, retries := 0 } else s)

/-- MAIN_DIE_ABSENT (R13): the power die accepts no command until the main die has re-initialised the link. A main die that still runs
finds its transfers unacknowledged and does so (R12). -/
def execMainDieAbsent (s : State) : Out :=
  if s.pd.phase ≠ .run ∨ s.ferrule.absent = true then .next s
  else
    let s := { s with ferrule := { s.ferrule with absent := true } }
    .next s.lcAbsent

/-- PLL_UNLOCK (R26). -/
def execPllUnlock (s : State) : Out := .next (if s.mainUp then s.reportX 0x001 elemDevice else s)

/-- SREFCLK_LOSS (R26): loss of SREFCLK0 is SerDes loss against each of ports 0 to 23, of SREFCLK1 against each of ports 24 to 39; a
port whose loss has been reported already and lasts is not reported again. -/
def execSrefclkLoss (clk : Fin 2) (s : State) : Out :=
  if !s.mainUp then .next s
  else
    .next (((List.range 40).filter (fun p => decide (p < 24) == decide (clk.val = 0))).foldl (fun (t : State) p =>
      if (t.port p).losing then t
      else (t.setPort p { t.port p with losing := true }).reportX (0x040 + p) (elemId 0 p)) s)

end Sys2Proof.Machine
end

