-- ==== Sys2Proof/Machine/Ligature.lean ====
section
/-! DEFINITION. The Ligature bridge's accesses, its responder and its watch (spec 17 R353 to R368). -/
namespace Sys2Proof.Machine

/-! ## Responder (R360, R365, R366) -/

/-- The offsets that no remote device reaches (R365). -/
def ligDenied (a : Nat) : Bool :=
  (decide (0xC00000 ≤ a) && decide (a < 0xD00000)) || (decide (0xD80000 ≤ a) && decide (a < 0xE00000))
    || (decide (0xF00000 ≤ a) && decide (a < 0x1000000))

/-- A request executed as the Ligature responder (R365): the state, and status and data of its response; none when the access
has reset the device. -/
def State.ligExecute (s : State) (t : Tis) : State × Option (Nat × Nat) :=
  if ligDenied t.addr then (s.brgCnt 16, some (2, 0))
  else if t.addr % 4 ≠ 0 ∨ s.reached t.addr = false then (s.reportX 0x007 elemDevice, some (1, 0))
  else
    let r := if t.op = 2 then (s.regWrite .ligature t.addr t.data, 0) else s.regRead .ligature t.addr
    (r.1, if r.1.mainUp then some (0, r.2) else none)

/-- A request in the order of its stream (R360): the state and the response, if there is one. -/
def State.ligRespond (s : State) (t : Tis) : State × Option (Nat × Nat) :=
  let key := 4096 * t.init + t.src
  let want := if t.flags % 2 = 1 then t.seq else s.lig.expect.get 0 key
  let ahead := (t.seq + 65536 - want) % 65536
  if ahead = 0 then
    State.ligExecute { s with lig := { s.lig with expect := s.lig.expect.set 0 key ((t.seq + 1) % 65536) } } t
  else if ahead < 32768 then (s, some (4, 0))
  else (s.brgCnt 11, none)

/-- The summary word of a poll (R367). -/
def State.ligSummary (s : State) : Nat :=
  b2n s.pairFault + ((List.range 31).map (fun n => b2n (s.irqRaised (n + 1)) * 2 ^ (n + 1))).sum

/-- The bytes of a received frame at its EtherType: it follows the addresses and up to two tags (R358). -/
def State.tisBody (s : State) (bs : List Byte) : List Byte :=
  match [12, 16, 20].find? (fun o => decide (be bs o 2 = s.rd F.BRG_ETYPE_ETYPE 0)) with
  | some o => bs.drop o
  | none => bs.drop 12

/-- A received frame's fields (R358); `body` begins at its EtherType. -/
def tisOf (body : List Byte) : Tis :=
  ⟨be body 3 1, be body 4 2, be body 6 2, be body 8 2, be body 10 2, be body 12 1, be body 13 1, be body 14 1, be body 16 4, be body 20 4⟩

/-- VERSION, OP and every reserved field of a frame are good: a request's `ops` are 1 to 3, a response's 0x81 to 0x83 (R358). -/
def tisGood (body : List Byte) (ops : List Nat) : Bool :=
  let t := tisOf body
  decide (be body 2 1 = 1) && ops.contains t.op && decide (t.src < 4096) && decide (t.dst < 4096) && decide (t.flags < 2)
    && decide (t.init ≤ 2) && decide (be body 15 1 = 0) && decide (beNat ((body.drop 24).take 24) = 0)
    && (decide (0x80 ≤ t.op) || decide (t.status = 0))

/-- A response with the request's own fields (R358), sent to its sender. -/
def State.tisAnswer (s : State) (t : Tis) (status data : Nat) : State :=
  (s.tisSend (t.src % 4096) s.myDev { t with op := t.op % 128 + 128, flags := 0, status := status, data := data }).brgCnt 3

/-- A request that has taken a responder slot is handled in its stream's order. One that is not executed gives the slot back. -/
def State.ligServe (s : State) (t : Tis) : State :=
  let r := s.ligRespond t
  match r.2 with
  | none => r.1
  | some (status, data) =>
    let s' := if status = 4 then r.1 else { r.1 with lig := { r.1.lig with resp := r.1.lig.resp + 1 } }
    s'.tisAnswer t status data

/-- Requests of the input FIFO while a slot is free (R366); `fuel` bounds them. -/
def State.ligFifo (s : State) : Nat → State
  | 0 => s
  | fuel + 1 =>
    match s.lig.fifo with
    | [] => s
    | b :: rest =>
      if s.lig.resp < 64 then State.ligFifo (State.ligServe { s with lig := { s.lig with fifo := rest } } (tisOf b)) fuel else s

/-- A received request whose frame body is `b` (R354, R358, R365, R366). -/
def State.ligRequest (s : State) (port : Nat) (secured : Bool) (b : List Byte) : State :=
  let t := tisOf b
  let s := s.brgCnt 2
  if t.src = s.myDev then (s.brgCnt 18).reportX 0x1E2 (elemId 0xD s.myDev)
  else if s.on F.BRG_RESP_CFG_RESP_EN 0 = false ∨ s.bit F.BRG_RESP_PORTS_PORTS 0 port = false
      ∨ (s.on F.BRG_RESP_CFG_REQUIRE_SECURE 0 && !secured) = true then s
  else if tisGood b [1, 2, 3] = false then s.tisAnswer t 5 0
  else if t.op = 3 then s.tisAnswer t 0 s.ligSummary
  else if s.lig.resp < 64 then s.ligServe t
  else if s.myDev < t.src then (s.brgCnt 4).tisAnswer t 3 0
  else if s.lig.fifo.length < 256 then { s with lig := { s.lig with fifo := s.lig.fifo ++ [b] } }
  else s.brgCnt 12

/-! ## Initiator -/

/-- The status of a transaction has come (R361 to R363): BUSY and ORDER wait for a resend, a write completes or fails, a read
keeps its data until it may complete. -/
def State.ligStatus (s : State) (r : LigReq) (status data : Nat) : State :=
  if status = 3 ∨ status = 4 then
    (s.setOut (s.lig.out.map (fun q => if q.slot = r.slot then { q with backoff := true } else q))).brgCnt (if status = 3 then 5 else 13)
  else
    let s :=
      if r.write then
        if status = 0 then s.setOut (s.lig.out.filter (fun q => decide (q.slot ≠ r.slot))) else s.writeFail r status
      else s.setOut (s.lig.out.map (fun q => if q.slot = r.slot then { q with status := some status, rdata := data } else q))
    s.ligReads 64

/-- The request of a transaction goes to its device, or to the own responder when the device is MY_DEV (R357, R360). -/
def State.ligGo (s : State) (r : LigReq) : State :=
  if r.dev = s.myDev then
    if s.on F.BRG_RESP_CFG_RESP_EN 0 then
      let x := s.ligRespond ⟨if r.write then 2 else 1, s.myDev, r.dev, r.slot + 64 * r.gen, r.seq, b2n r.resync, 0, r.ini, r.addr, r.data⟩
      match x.2 with
      | some (status, data) => x.1.ligStatus r status data
      | none => x.1
    else s
  else s.ligSend r

/-- The lowest free slot. -/
def State.ligFree (s : State) : Option Nat := (List.range 64).find? (fun k => (s.ligSlot k).isNone)

/-- An access takes a slot (R359): the slot's generation rises at each reuse, its stream gives the SEQ, a write is posted, and
the request is sent. Without a free slot it waits. A write to a poisoned aperture is dropped (R363). -/
def State.ligTake (s : State) (x : LigAcc) : State :=
  let ap := x.off / 2 ^ 20
  if x.write && s.poisoned ap then (s.brgCnt 10).reply (iniOf x.ini) .done 0
  else match s.ligFree with
    | none => { s with lig := { s.lig with wait := s.lig.wait ++ [x] } }
    | some k =>
      let gen := match s.lig.gens.find k with | some g => (g + 1) % 1024 | none => 0
      let dev := s.rd F.BRG_APT_DEV ap
      let st := s.ligStream x.ini dev
      let r : LigReq := ⟨k, gen, x.ini, dev, x.write, ap, s.rd F.BRG_APT_BASE ap * 2 ^ 20 + x.off % 2 ^ 20, x.data, st.next, 0, false, none, 0,
        false, st.resync⟩
      let s := s.setStream x.ini dev ⟨(st.next + 1) % 65536, false⟩
      let s := { s with lig := { s.lig with out := s.lig.out ++ [r], gens := s.lig.gens.put k gen, late := s.lig.late.erase k } }
      (if x.write then s.reply (iniOf x.ini) .done 0 else s).ligGo r

/-- Waiting accesses take the slots that are free, in order; `fuel` bounds them. -/
def State.ligService (s : State) : Nat → State
  | 0 => s
  | fuel + 1 =>
    match s.lig.wait with
    | [] => s
    | x :: rest => if s.ligFree.isSome then State.ligService (State.ligTake { s with lig := { s.lig with wait := rest } } x) fuel else s

/-- Every waiting access for which a slot has become free. -/
def State.ligServiced (s : State) : State := s.ligService s.lig.wait.length

/-- An access to the 64 MiB window (R356, R368). -/
def State.ligAccess (s : State) (x : LigAcc) : State :=
  if x.off % 4 ≠ 0 ∨ 2 ^ 26 ≤ x.off ∨ s.on F.BRG_CTL_EN 0 = false ∨ s.on F.BRG_APT_EN (x.off / 2 ^ 20) = false ∨ s.dozing = true
      ∨ s.entering = true then
    s.reply (iniOf x.ini) (refusalKind (iniOf x.ini)) 0
  else (s.ligTake x).ligServiced

/-! ## Watching (R367) -/

/-- A summary received for watch entry `w`. -/
def State.watchSummary (s : State) (w sum : Nat) : State :=
  let s := { s with lig := { s.lig with polled := s.lig.polled.filter (fun x => decide (x ≠ w)), misses := s.lig.misses.set 0 w 0 } }
  let s := s.wr F.BRG_WATCH_UNREACH w 0
  if s.rd F.BRG_WATCH_SUMMARY w = sum then s
  else (((s.wr F.BRG_WATCH_SUMMARY w sum).setBit F.BRG_WATCH_CHG_CHG 0 w)).evt F.BRG_STAT_WATCH_EVT 0

/-- A late read (R364): its data is stored for software. -/
def State.lateRead (s : State) (r : LigReq) (status data : Nat) : State :=
  let s := { s with lig := { s.lig with late := s.lig.late.erase r.slot } }
  let s := if s.on F.BRG_LATE_DATA_VALID 0 then s.wr F.BRG_LATE_DATA_OVERWRITTEN 0 1 else s
  let s := (((((s.wr F.BRG_LATE_DATA_VALID 0 1).wr F.BRG_LATE_DATA_INIT 0 r.ini).wr F.BRG_LATE_DATA_STATUS 0 status).wr
    F.BRG_LATE_DATA_DEV 0 r.dev).wr F.BRG_LATE_DATA_ADDR 0 r.addr).wr F.BRG_LATE_DATA_DATA 0 data
  (s.evt F.BRG_STAT_LATE_EVT 0).brgCnt 14

/-- A response belongs to transaction `r`: TAG, initiator, device and SEQ agree, and so does the kind. -/
def tisFor (t : Tis) (r : LigReq) : Bool :=
  decide (r.slot + 64 * r.gen = t.tag) && decide (r.dev = t.dst) && decide (r.ini = t.init) && decide (r.seq = t.seq)
    && decide (t.op = if r.write then 0x82 else 0x81)

/-- A received response whose frame body is `b` (R358, R361, R364). -/
def State.ligResponse (s : State) (b : List Byte) : State :=
  let t := tisOf b
  let s := s.brgCnt 1
  if tisGood b [0x81, 0x82, 0x83] = false then s
  else if t.op = 0x83 then
    if s.lig.polled.contains t.tag ∧ s.rd F.BRG_WATCH_DEV t.tag = t.dst then s.watchSummary t.tag t.data else s.brgCnt 17
  else
    match s.lig.out.find? (fun r => tisFor t r && r.status.isNone && !r.backoff) with
    | some r => (s.ligStatus r t.status t.data).ligServiced
    | none =>
      match s.lig.late.find (t.tag % 64) with
      | some r => if tisFor t r then s.lateRead r t.status t.data else s.brgCnt 17
      | none => s.brgCnt 17

/-! ## The commands -/

/-- BAR2_WRITE. The Ligature responder has no window of its own. -/
def execBar2Write (ini : Initiator) (off : Nat) (val : Word) (s : State) : Out :=
  .next (if s.mainUp && decide (ini ≠ .ligature) && !s.coreHalted ini then s.ligAccess ⟨iniNo ini, true, off, val.toNat⟩ else s)

/-- BAR2_READ. -/
def execBar2Read (ini : Initiator) (off : Nat) (s : State) : Out :=
  .next (if s.mainUp && decide (ini ≠ .ligature) && !s.coreHalted ini then s.ligAccess ⟨iniNo ini, false, off, 0⟩ else s)

/-- The oldest frame given to the bridge is taken if its OP is of the kind wanted. -/
def State.tisHead (s : State) (rsp : Bool) : Option (State × Nat × Bool × List Byte) :=
  match s.brgRx with
  | [] => none
  | (p, sec, bs) :: rest =>
    let b := s.tisBody bs
    if decide (0x80 ≤ (tisOf b).op) = rsp && s.mainUp && !s.dozing then some ({ s with brgRx := rest }, p, sec, b) else none

/-- TISULER_REQUEST_RX. -/
def execTisulerRequestRx (s : State) : Out :=
  .next (match s.tisHead false with
    | some x => x.1.ligRequest x.2.1 x.2.2.1 x.2.2.2
    | none => s)

/-- TISULER_RESPONSE_RX. -/
def execTisulerResponseRx (s : State) : Out :=
  .next (match s.tisHead true with
    | some x => x.1.ligResponse x.2.2.2
    | none => s)

/-- LIGATURE_WRITE_TIMEOUT (R363). -/
def execLigatureWriteTimeout (k : Fin 64) (s : State) : Out :=
  .next (match s.ligSlot k.val with
    | some r => if r.write then ((s.writeTimeout r).ligReads 64).ligServiced else s
    | none => s)

/-- LIGATURE_READ_TIMEOUT (R364). -/
def execLigatureReadTimeout (k : Fin 64) (s : State) : Out :=
  .next (match s.ligSlot k.val with
    | some r => if r.write || r.status.isSome then s else ((s.readTimeout r).ligReads 64).ligServiced
    | none => s)

/-- LIGATURE_RETRY (R362). -/
def execLigatureRetry (k : Fin 64) (s : State) : Out :=
  .next (match s.ligSlot k.val with
    | some r =>
      if r.backoff = false then s
      else if s.rd F.BRG_RETRY_RETRY_MAX 0 ≤ r.resends then
        (if r.write then (s.writeFail r 3).ligReads 64
          else (s.setOut (s.lig.out.map (fun q => if q.slot = r.slot then { q with backoff := false, status := some 3 } else q))).ligReads 64).ligServiced
      else
        let st := s.ligStream r.ini r.dev
        let r' := { r with resends := r.resends + 1, backoff := false, resync := r.resync || st.resync }
        let s := s.setStream r.ini r.dev { st with resync := false }
        (((s.setOut (s.lig.out.map (fun q => if q.slot = r.slot then r' else q))).brgCnt 6).ligGo r').ligServiced
    | none => s)

/-- RESPONDER_SLOT_FREE (R366). -/
def execResponderSlotFree (s : State) : Out :=
  .next (if s.lig.resp = 0 then s
    else State.ligFifo { s with lig := { s.lig with resp := s.lig.resp - 1 } } s.lig.fifo.length)

/-- WATCH_POLL_SEND (R367). A watched device that is the device itself is answered by its own responder (R357). -/
def execWatchPollSend (w : Fin 64) (s : State) : Out :=
  .next (if s.mainUp && !s.dozing && s.on F.BRG_WATCH_EN w.val then
      let dev := s.rd F.BRG_WATCH_DEV w.val
      let s := (s.brgCnt 15)
      let s := { s with lig := { s.lig with polled := s.lig.polled.filter (fun x => decide (x ≠ w.val)) ++ [w.val] } }
      if dev = s.myDev then if s.on F.BRG_RESP_CFG_RESP_EN 0 then s.watchSummary w.val s.ligSummary else s
      else (s.tisSend dev s.myDev ⟨3, s.myDev, dev, w.val, 0, 0, 0, 0, 0, 0⟩).brgCnt 0
    else s)

/-- WATCH_POLL_TIMEOUT (R367). -/
def execWatchPollTimeout (w : Fin 64) (s : State) : Out :=
  .next (if s.lig.polled.contains w.val then
      let m := s.lig.misses.get 0 w.val + 1
      let s := { s with lig := { s.lig with polled := s.lig.polled.filter (fun x => decide (x ≠ w.val)), misses := s.lig.misses.set 0 w.val m } }
      if m < 3 ∨ s.on F.BRG_WATCH_UNREACH w.val = true then s
      else (((s.wr F.BRG_WATCH_UNREACH w.val 1).setBit F.BRG_WATCH_CHG_CHG 0 w.val).evt F.BRG_STAT_UNREACH_EVT 0).reportX 0x1E1
        (elemId 0xD (s.rd F.BRG_WATCH_DEV w.val))
    else s)

/-- BRG_CNT_CLR. -/
def execBrgCntClr (s : State) : Out := .next s.brgCntClr

end Sys2Proof.Machine
end

