-- ==== Sys2Proof/Machine/Recovery.lean ====
section
/-! DEFINITION. Block-level recoveries (spec 01 R20, 13 R301) and the table scrubber (08 R187, 11 R248, 13 R291). -/
namespace Sys2Proof.Machine

/-- A lane is re-initialised (21 R414): its frame in progress goes back, its state is that of reset, and it starts again when it is
enabled. -/
def State.laneReinit (s : State) (n : Nat) : State :=
  if s.pers n = 1 then
    let en := s.on F.LSL_CAN_CTL_EN n
    let s := (s.wr F.LSL_CAN_CTL_EN n 0).canStopped n
    if en then s.canEnable n else s
  else if s.pers n = 2 then ((s.t1sReturn n).setT1s n T1sLane.init).laneLink n
  else if s.pers n = 3 then (s.setMvb n MvbLane.init).laneLink n
  else s

/-- What the start of a recovery does. The recoveries of a MACsec unit and of a lane end at once; the others end with the event that
their block names. -/
def State.recoverStart (s : State) (dom : Domain) (r : Recovery) : State :=
  match r with
  | .pipeline i => s.pipelineRecover i
  | .engine _ => s
  | .restructure _ _ => s
  | .macsec _ => s.endRecovery dom r
  | .audit => s.auditRequest
  | .serdes p => s.portDown p false
  | .lane n => (s.laneReinit n).endRecovery dom r

/-- A restructure does not start while a soft apply is in progress (02 R52). -/
def State.recoverBlocked (s : State) (r : Recovery) : Bool :=
  match r with
  | .restructure _ _ => s.on F.SCR_STAT_APPLYING 0 && !s.scr.applyWait
  | _ => false

/-- BLOCK_RECOVERY_START: with none running in the domain, the one whose fault reached the Blotter first starts (01 R20); when none of
them has, the one whose fault was detected first. -/
def execBlockRecoveryStart (dom : Domain) (s : State) : Out :=
  let x := s.recov.of dom
  match x.running, x.waiting, x.coming with
  | none, r :: rest, _ =>
    if s.recoverBlocked r then .next s
    else .next (State.recoverStart { s with recov := s.recov.put dom { x with running := some r, waiting := rest } } dom r)
  | none, [], r :: rest => .next (State.recoverStart { s with recov := s.recov.put dom { x with running := some r, coming := rest } } dom r)
  | _, _, _ => .next s

/-- The element that a recovery acts on (01 R18). -/
def Recovery.elem (r : Recovery) : Nat :=
  match r with
  | .pipeline i => elemId 2 i
  | .engine n => elemId 6 n
  | .restructure g _ => elemId 1 g
  | .macsec u => elemId 1 u
  | .audit => elemId 3 0
  | .serdes p => elemId 0 p
  | .lane n => elemId 0 (40 + n)

/-- RECOVERY_BOUND_EXCEEDED (13 R301): the running recovery of a domain, a cell audit, or the re-initialisation of the Ferrule link is
reported against its element. -/
def execRecoveryBoundExceeded (what : Bounded) (s : State) : Out :=
  match what with
  | .block dom => match (s.recov.of dom).running with
    | some r => .next (s.reportX 0x014 r.elem)
    | none => .next s
  | .audit => .next (if s.mainUp && s.on F.QUE_STAT_AUDITING 0 then s.reportX 0x014 (elemId 3 0) else s)
  | .ferrule => .next (if s.mainUp && !s.linkUp then s.reportX 0x014 elemDevice else s)

/-! ## The table scrubber -/

/-- The scrub action by table ID (R187): FDB, VLAN, next hop, NAT, signal routing and duplicate-discard entries are cleared; a trie
node is rebuilt; a policer's buckets are full. -/
def State.scrubAction (s : State) (tid idx : Nat) : State :=
  match tid with
  | 1 | 2 => s.fdbErase (tid - 1) idx
  | 3 | 6 | 7 => { s with rows := s.rows.erase (rowKey tid idx) }
  | 8 | 9 => s.policerFull (tid - 8) idx
  | 0xA => { s with sigTable := stashReturn (s.sigTable.erase idx) sigGeo s.sigHash (fun _ => false) }
  | 0xB => { s with dd := s.dd.erase idx }
  | _ => s

/-- An uncorrectable error in a prefix list or in a policer's parameter copy: the table works without that entry. -/
def State.scrubLost (s : State) (tid idx : Nat) : State :=
  match tid with
  | 4 => { s with routes4 := s.routes4.eraseIdx idx }
  | 5 => { s with routes6 := s.routes6.eraseIdx idx }
  | 8 | 9 => { s with polLost := s.polLost ++ [4096 * (tid - 8) + idx] }
  | _ => s

/-- An entry with bad parity is a miss, or no policer, until it has been scrubbed (R187). Of a route trie, the node is drawn, and it is
rebuilt 50 µs later. DESIGN CHOICE: the latest time that R187 allows, and a policer is scrubbed at the next tick. -/
def State.scrubMiss (s : State) (tid idx : Nat) : State :=
  match tid with
  | 4 | 5 =>
    let v6 := decide (tid = 5)
    let k := Config.trieNode s.freeCtr
    let level := k % 16 % (if v6 then 15 else 3)
    let len := if level = 0 then 0 else 8 + 8 * level
    { s.drawn with trieBad := ⟨v6, maskPfx v6 (k / 16) len, len, s.now + 50 * ticksUs⟩ :: s.trieBad }
  | 8 | 9 => { s with polBad := (4096 * (tid - 8) + idx) :: s.polBad }
  | _ => s

/-- What a tick completes of the scrubber's work. -/
def State.scrubTick (s : State) : State :=
  if s.polBad.isEmpty && s.trieBad.isEmpty then s
  else { s with polBad := [], trieBad := s.trieBad.filter (fun b => decide (s.now < b.rebuilt)) }

/-- TABLE_SCRUB: a parity error in entry `idx` of table `tid` (1 to 0xB); `uncorr`, in the copy of 4, 5, 8 or 9 that has ECC, an
uncorrectable one. -/
def execTableScrub (tid idx : Nat) (uncorr : Bool) (s : State) : Out :=
  if tid = 0 ∨ 0xB < tid then .next s
  else if uncorr && (decide (tid = 4) || decide (tid = 5) || decide (tid = 8) || decide (tid = 9)) then
    .next ((s.scrubLost tid idx).report 0x164 (elemId 11 tid) idx)
  else
    let s := (((s.scrubAction tid idx).scrubMiss tid idx).wr F.TBL_PAR_LOG_TABLE_ID 0 tid).wr F.TBL_PAR_LOG_INDEX 0 idx
    .next (((s.bump F.TBL_CNT_COUNT 15).evt F.TBL_STAT_PARITY_EVT 0).report (0x150 + tid) (elemId 11 tid) idx)

end Sys2Proof.Machine
end

