-- ==== Sys2Proof/Machine/ScrollEnd.lean ====
section
/-! DEFINITION. The end of a soft apply and of a restructure (spec 02 R50, R52, R54). -/
namespace Sys2Proof.Machine

/-- Software writes held during an apply take effect in the order in which they came; the software value stands (R52). -/
def State.releaseHeld (s : State) : State :=
  s.scr.held.foldl (fun (t : State) h => t.wordWrite h.1 h.2.1 h.2.2) { s with scr := { s.scr with held := [] } }

/-- A word of a soft Scroll's table rows enters the update buffer as a window write does (R50, 08 R188). -/
def State.rowBuffered (s : State) (a v : Nat) : State := (s.winWrite a v).getD s

/-- The lanes take up the PLCA_EN that a soft Scroll has written. -/
def State.lanesSoft (s : State) : State := laneNums.foldl State.t1sConfigured s

/-- SOFT_SCROLL_COMMIT: the records of a verified soft Scroll take effect with one increment of TBL_EPOCH (R50). It waits while that
increment would be held (08 R190). -/
def execSoftScrollCommit (s : State) : Out :=
  match s.scr.applying with
  | none => .next s
  | some bs =>
    if s.bumpBlocked then .next s
    else
      let s := { s with scr := { s.scr with room := 0 } }
      let s := ((s.softSects State.rowBuffered (scrollSects bs)).bumpNow).drainService.lanesSoft
      let s := ((s.wr F.SCR_STAT_SOFT_ACTIVE 0 1).wr F.SCR_SOFT_VERSION_VALUE 0 (fieldAt bs 28 4)).bump F.SCR_APPLY_CNT_COUNT 0
      let s := (s.wr F.SCR_STAT_LAST_ERR 0 0).wr F.SCR_STAT_APPLYING 0 0
      let s := { s with scr := { s.scr with applying := none, inForce := some (bs.take (fieldAt bs 16 4)) } }
      .next s.releaseHeld.scrDone.startWaiting

/-- RESTRUCT_PORTS_ENABLED: step 4 of R54. An apply that waited for the restructure begins (R52). -/
def execRestructPortsEnabled (s : State) : Out :=
  match s.runningRestructure with
  | none => .next s
  | some (g, v) =>
    if s.scr.stage ≠ 2 then .next s
    else
      let s := s.restructEnd g v
      if s.scr.applyWait then
        let s := State.applyBegin { s with scr := { s.scr with applyWait := false } }
        .next (if s.on F.SCR_STAT_APPLYING 0 then s else s.releaseHeld)
      else .next s

end Sys2Proof.Machine
end

