-- ==== Sys2Proof/Machine/Tamper.lean ====
section
/-! DEFINITION. Faults of the cipher units and tamper alarms: what they do to the frames and keys that the units hold (spec 14 R319,
15 R338). -/
namespace Sys2Proof.Machine

/-- MACsec unit `u` drops the frames that it holds: received ones whose ICV is being checked, and ones that leave its protected ports. -/
def State.unitDrop (s : State) (u : Nat) : State :=
  let held (f : Flight) : Bool := f.secured && decide (f.port < 40) && decide (unitOf f.port = u) && !f.integ
  let s := (s.flight.filter held).foldl (fun (t : State) (f : Flight) => t.cipCnt f.port 7) s
  let s := { s with flight := s.flight.map (fun (f : Flight) => if held f then { f with icvOk := false } else f) }
  (unitPorts u).foldl (fun t p =>
    match (t.port p).tx with
    | some x =>
      if t.cipTx p then
        let t := (t.setPort p { t.port p with tx := none }).txBlocked p
        match x.ent with | some e => t.finish e (!t.deep x.q) | none => t.finishRef x.first true
      else t
    | none => t) s

/-- The key copies of unit `u` are wiped; each is loaded again before its next use (15 R322). -/
def State.unitWipe (s : State) (u : Nat) : State := { s with keyCopies := s.keyCopies.filter (fun e => decide (e.1 / 256 ≠ u)) }

/-- CIPHER_UNIT_FAULT: a check error in MACsec unit 0 to 2, or in the lookaside engine (15 R338). Frames in the unit are
dropped; the unit is wiped and reloaded. -/
def execCipherUnitFault (u : Fin 4) (s : State) : Out :=
  let s := (s.evt F.CIP_STAT_UNIT_FAULT_EVT 0).unitWipe u
  if u.val < 3 then .next (((s.reportX (0x0F2 + u) (elemId 1 u)).unitDrop u).requestFault .forwarding (.macsec u))
  else
    let s := s.reportX 0x017 elemDevice
    let s := match s.laRun with | some _ => { s with laRun := some (laError 0x24) } | none => s
    .next s.sealAbort.settleAll.drainService

/-- All volatile key material is zeroised (14 R319): a key operation aborts, and so does a lookaside command (15 R338). -/
def State.zeroise (s : State) : State :=
  let s := if s.keyCmd.isSome then ({ s with keyCmd := none, keyMsg := [] }).wr F.KEY_STAT_LAST_ERR 0 0x0C else s
  let la := match s.laRun with | some _ => some (⟨0x24, [], []⟩ : LaRun) | none => none
  let s := { s with keySlots := [], keyCopies := [], drbg := none, keyScramble := [], keyDataMask := [], laRun := la, laWin := [] }
  let s := ((s.wr F.KEY_STAT_BUSY 0 0).wr F.KEY_STAT_UNSEALED 0 0).wr F.KEY_STAT_ZEROISED 0 1
  (s.evt F.KEY_STAT_TAMPER_EVT 0).bump F.KEY_CNT_COUNT 7

/-- A tamper alarm in operation: every operation of the cipher units ends without output, too (15 R338). -/
def State.tamperEnd (s : State) : State := ([0, 1, 2].foldl State.unitDrop s.zeroise).sealAbort.settleAll.drainService

/-- TAMPER_ALARM (14 R319): input 0 or 1, or a monitor of the main die: 2 voltage, 3 clock, 4 temperature. The persistent flag
is set. While the device starts and is not unsealed there is nothing to zeroise; with the main die unpowered the AOC alone records the
input. -/
def execTamperAlarm (src : Fin 5) (s : State) : Out :=
  let powered := s.pd.inh && decide (s.phase ≠ .off)
  if !powered && decide (2 ≤ src.val) then .next s
  else
    let s := { s with tamperFlag := true }
    let s :=
      if powered then
        let f : Fld := match src.val with
          | 0 => F.KEY_TAMPER_LOG_TAMP0
          | 1 => F.KEY_TAMPER_LOG_TAMP1
          | 2 => F.KEY_TAMPER_LOG_VOLT
          | 3 => F.KEY_TAMPER_LOG_CLOCK
          | _ => F.KEY_TAMPER_LOG_TEMP
        let s := s.wr f 0 1
        let s := s.wr F.KEY_STAT_TAMPER_FLAG 0 1
        if s.phase = .running ∨ s.phase = .recovery ∨ s.on F.KEY_STAT_UNSEALED 0 = true then
          (if src.val ≤ 1 then s.tamperEnd.reportX 0x018 elemDevice else s.tamperEnd)
        else s
      else { s with tampRec := some (src.val, s.rd F.AOC_RTC_SEC 0) }
    .next (if decide (src.val ≤ 1) && s.on F.AOC_WAKE_EN_TAMPER 0 && s.wakeable then s.aocWake 6 src else s)


end Sys2Proof.Machine
end

