-- ==== Sys2Proof/Machine/Dispatch.lean ====
section
/-! DEFINITION. The dispatch of every command to its meaning. -/
namespace Sys2Proof.Machine

/-- The effect of command `i` on everything but the queue. -/
def exec (i : Instr) (s : State) : Host.Outcome State Fault Refusal :=
  match i with
  | .registerWrite ini addr val => Sys2Proof.Machine.execRegisterWrite ini addr val s
  | .wideRegLowRead ini addr => Sys2Proof.Machine.execWideRegLowRead ini addr s
  | .rcRegisterRead ini addr => Sys2Proof.Machine.execRcRegisterRead ini addr s
  | .accessOutsideRegion ini addr => Sys2Proof.Machine.execAccessOutsideRegion ini addr s
  | .ferruleTransferRx die got seq msg => Sys2Proof.Machine.execFerruleTransferRx die got seq msg s
  | .ferruleRetransmit sent => Sys2Proof.Machine.execFerruleRetransmit sent s
  | .ferruleIdleSend => Sys2Proof.Machine.execFerruleIdleSend s
  | .mainDieAbsent => Sys2Proof.Machine.execMainDieAbsent s
  | .blockRecoveryStart dom => Sys2Proof.Machine.execBlockRecoveryStart dom s
  | .pllUnlock => Sys2Proof.Machine.execPllUnlock s
  | .srefclkLoss clk => Sys2Proof.Machine.execSrefclkLoss clk s
  | .vbatPowerOn => Sys2Proof.Machine.execVbatPowerOn s
  | .powerDiePorEnd => Sys2Proof.Machine.execPowerDiePorEnd s
  | .inhOutAssert => Sys2Proof.Machine.execInhOutAssert s
  | .railsInWindow maintLow => Sys2Proof.Machine.execRailsInWindow maintLow s
  | .railWindowTimeout => Sys2Proof.Machine.execRailWindowTimeout s
  | .railRetry => Sys2Proof.Machine.execRailRetry s
  | .rootPllLock => Sys2Proof.Machine.execRootPllLock s
  | .secondStageStart ok => Sys2Proof.Machine.execSecondStageStart ok s
  | .dramTrained train => Sys2Proof.Machine.execDramTrained train s
  | .unseal => Sys2Proof.Machine.execUnseal s
  | .scrollLoad ok => Sys2Proof.Machine.execScrollLoad ok s
  | .scrollApply => Sys2Proof.Machine.execScrollApply s
  | .softScrollCommit => Sys2Proof.Machine.execSoftScrollCommit s
  | .scrollPersist => Sys2Proof.Machine.execScrollPersist s
  | .persistDone ok => Sys2Proof.Machine.execPersistDone ok s
  | .restructure g v => Sys2Proof.Machine.execRestructure g v s
  | .restructStopped => Sys2Proof.Machine.execRestructStopped s
  | .restructLoaded => Sys2Proof.Machine.execRestructLoaded s
  | .restructPortsEnabled => Sys2Proof.Machine.execRestructPortsEnabled s
  | .scrollLock => Sys2Proof.Machine.execScrollLock s
  | .glbRstMain key => Sys2Proof.Machine.execGlbRstMain key s
  | .glbRstRecovery key => Sys2Proof.Machine.execGlbRstRecovery key s
  | .sysRstNLow => Sys2Proof.Machine.execSysRstNLow s
  | .mainDieResetRelease maintLow => Sys2Proof.Machine.execMainDieResetRelease maintLow s
  | .pcieReset => Sys2Proof.Machine.execPcieReset s
  | .glbBlkRstWrite nib s1 => Sys2Proof.Machine.execGlbBlkRstWrite nib s1 s
  | .s1Run => Sys2Proof.Machine.execS1Run s
  | .irqClaim ini t => Sys2Proof.Machine.execIrqClaim ini t s
  | .irqComplete n => Sys2Proof.Machine.execIrqComplete n s
  | .mtimeCompare c => Sys2Proof.Machine.execMtimeCompare c s
  | .wdogKick v => Sys2Proof.Machine.execWdogKick v s
  | .wdogExpiry => Sys2Proof.Machine.execWdogExpiry s
  | .lockstepMismatch c => Sys2Proof.Machine.execLockstepMismatch c s
  | .cacheError c k => Sys2Proof.Machine.execCacheError c k s
  | .uartHello p crc => Sys2Proof.Machine.execUartHello p crc s
  | .uartChallenge p crc => Sys2Proof.Machine.execUartChallenge p crc s
  | .uartAuth p crc => Sys2Proof.Machine.execUartAuth p crc s
  | .uartManifest p crc ok => Sys2Proof.Machine.execUartManifest p crc ok s
  | .uartSheet p crc ok => Sys2Proof.Machine.execUartSheet p crc ok s
  | .uartCommit p crc bad ok => Sys2Proof.Machine.execUartCommit p crc bad ok s
  | .uartSetRate p crc => Sys2Proof.Machine.execUartSetRate p crc s
  | .pcsSignalLoss p signal lock => Sys2Proof.Machine.execPcsSignalLoss p signal lock s
  | .linkUp p eyeW eyeH => Sys2Proof.Machine.execLinkUp p eyeW eyeH s
  | .linkDown p => Sys2Proof.Machine.execLinkDown p s
  | .inbandStatusWord p link speed full => Sys2Proof.Machine.execInbandStatusWord p link speed full s
  | .serdesReadapt p => Sys2Proof.Machine.execSerdesReadapt p s
  | .serdesPllLockLoss p => Sys2Proof.Machine.execSerdesPllLockLoss p s
  | .frameReceived p bs fcsGood => Sys2Proof.Machine.execFrameReceived p bs fcsGood s
  | .qsGrantCheck p bs secured free lost mFree mLost => Sys2Proof.Machine.execQsGrantCheck p bs secured free lost mFree mLost s
  | .qsRelease p => Sys2Proof.Machine.execQsRelease p s
  | .verdictDecisionFinal p => Sys2Proof.Machine.execVerdictDecisionFinal p s
  | .verdictIntegrityFinal p => Sys2Proof.Machine.execVerdictIntegrityFinal p s
  | .strikeBlockRx p => Sys2Proof.Machine.execStrikeBlockRx p s
  | .pauseFrameRx p da quanta => Sys2Proof.Machine.execPauseFrameRx p da quanta s
  | .pfcFrameRx p enable times => Sys2Proof.Machine.execPfcFrameRx p enable times s
  | .pauseTakesEffect p => Sys2Proof.Machine.execPauseTakesEffect p s
  | .pauseTimerExpiry p c => Sys2Proof.Machine.execPauseTimerExpiry p c s
  | .pauseRepeat p => Sys2Proof.Machine.execPauseRepeat p s
  | .pauseStorm p c => Sys2Proof.Machine.execPauseStorm p c s
  | .lpiEntry p => Sys2Proof.Machine.execLpiEntry p s
  | .lpiWakeDone p => Sys2Proof.Machine.execLpiWakeDone p s
  | .taperHelloSend p => Sys2Proof.Machine.execTaperHelloSend p s
  | .taperHelloRx p devId => Sys2Proof.Machine.execTaperHelloRx p devId s
  | .peerTimeout p => Sys2Proof.Machine.execPeerTimeout p s
  | .taperWindowEnd p txBits rxBits => Sys2Proof.Machine.execTaperWindowEnd p txBits rxBits s
  | .taperProposeRx p seq rate flags => Sys2Proof.Machine.execTaperProposeRx p seq rate flags s
  | .taperAcceptRx p seq => Sys2Proof.Machine.execTaperAcceptRx p seq s
  | .taperRefuseRx p reason => Sys2Proof.Machine.execTaperRefuseRx p reason s
  | .taperProposeTimeout p => Sys2Proof.Machine.execTaperProposeTimeout p s
  | .taperHoldEnd p => Sys2Proof.Machine.execTaperHoldEnd p s
  | .taperRetrainTimeout p => Sys2Proof.Machine.execTaperRetrainTimeout p s
  | .taperCtlWrite p force ceil floor en => Sys2Proof.Machine.execTaperCtlWrite p force ceil floor en s
  | .wakePatternFrame p bs => Sys2Proof.Machine.execWakePatternFrame p bs s
  | .ethCntClr p => Sys2Proof.Machine.execEthCntClr p s
  | .canEnable n => Sys2Proof.Machine.execCanEnable n s
  | .canDisable n => Sys2Proof.Machine.execCanDisable n s
  | .canIntegrated n => Sys2Proof.Machine.execCanIntegrated n s
  | .canFrameRx n seen flags sdt key af data bad => Sys2Proof.Machine.execCanFrameRx n seen flags sdt key af data bad s
  | .canProtocolException what => Sys2Proof.Machine.execCanProtocolException what s
  | .canTxHead n bad => Sys2Proof.Machine.execCanTxHead n bad s
  | .canTxSuccess n tdcv => Sys2Proof.Machine.execCanTxSuccess n tdcv s
  | .canArbLost n => Sys2Proof.Machine.execCanArbLost n s
  | .canBusError n lec data side special => Sys2Proof.Machine.execCanBusError n lec data side special s
  | .canRecoveryStart n => Sys2Proof.Machine.execCanRecoveryStart n s
  | .canRecoveryDone n => Sys2Proof.Machine.execCanRecoveryDone n s
  | .tdcFail n => Sys2Proof.Machine.execTdcFail n s
  | .canRlRefill n j => Sys2Proof.Machine.execCanRlRefill n j s
  | .canTmDue n => Sys2Proof.Machine.execCanTmDue n s
  | .canWakeDominant n => Sys2Proof.Machine.execCanWakeDominant n s
  | .aocLaneWake n => Sys2Proof.Machine.execAocLaneWake n s
  | .canAuxArmed n => Sys2Proof.Machine.execCanAuxArmed n s
  | .brdStart n => Sys2Proof.Machine.execBrdStart n s
  | .brdDone n edges minEdge => Sys2Proof.Machine.execBrdDone n edges minEdge s
  | .canCntClr n => Sys2Proof.Machine.execCanCntClr n s
  | .t1sFrameRx n bs fcsGood => Sys2Proof.Machine.execT1sFrameRx n bs fcsGood s
  | .t1sBeaconSend n => Sys2Proof.Machine.execT1sBeaconSend n s
  | .t1sOpportunity n id => Sys2Proof.Machine.execT1sOpportunity n id s
  | .t1sToTimer n => Sys2Proof.Machine.execT1sToTimer n s
  | .t1sBurstTimer n => Sys2Proof.Machine.execT1sBurstTimer n s
  | .t1sBeaconRx n => Sys2Proof.Machine.execT1sBeaconRx n s
  | .beaconLoss n => Sys2Proof.Machine.execBeaconLoss n s
  | .t1sCollision n r => Sys2Proof.Machine.execT1sCollision n r s
  | .t1sBackoffEnd n => Sys2Proof.Machine.execT1sBackoffEnd n s
  | .t1sEdTimeout n => Sys2Proof.Machine.execT1sEdTimeout n s
  | .t1sCntClr n => Sys2Proof.Machine.execT1sCntClr n s
  | .mvbMasterFrameRx n fcode addr ok => Sys2Proof.Machine.execMvbMasterFrameRx n fcode addr ok s
  | .mvbReplySend n => Sys2Proof.Machine.execMvbReplySend n s
  | .mvbSlaveFrameRx n data ok => Sys2Proof.Machine.execMvbSlaveFrameRx n data ok s
  | .mvbBasicPeriod n => Sys2Proof.Machine.execMvbBasicPeriod n s
  | .mvbPollSend n left => Sys2Proof.Machine.execMvbPollSend n left s
  | .mvbReplyTimeout n => Sys2Proof.Machine.execMvbReplyTimeout n s
  | .mvbSilenceTimeout n => Sys2Proof.Machine.execMvbSilenceTimeout n s
  | .mvbSrcUpdate n => Sys2Proof.Machine.execMvbSrcUpdate n s
  | .mvbCntClr n => Sys2Proof.Machine.execMvbCntClr n s
  | .scFlush k => Sys2Proof.Machine.execScFlush k s
  | .stencilScrub k stroke n => Sys2Proof.Machine.execStencilScrub k stroke n s
  | .pipelineRecoveryDone k => Sys2Proof.Machine.execPipelineRecoveryDone k s
  | .ppxCntClr k => Sys2Proof.Machine.execPpxCntClr k s
  | .egressSelect p => Sys2Proof.Machine.execEgressSelect p s
  | .egressFrameDone p => Sys2Proof.Machine.execEgressFrameDone p s
  | .tableEntryWrite op => Sys2Proof.Machine.execTableEntryWrite op s
  | .epochBump => Sys2Proof.Machine.execEpochBump s
  | .committedWriteApply => Sys2Proof.Machine.execCommittedWriteApply s
  | .learnInsert p => Sys2Proof.Machine.execLearnInsert p s
  | .ageSweepVisit p slot => Sys2Proof.Machine.execAgeSweepVisit p slot s
  | .drainTargetWrite target => Sys2Proof.Machine.execDrainTargetWrite target s
  | .lnCfgEnable en target sizeLog2 events => Sys2Proof.Machine.execLnCfgEnable en target sizeLog2 events s
  | .tableScrub tid idx uncorr => Sys2Proof.Machine.execTableScrub tid idx uncorr s
  | .tblCntClr => Sys2Proof.Machine.execTblCntClr s
  | .spillBlockWrite q => Sys2Proof.Machine.execSpillBlockWrite q s
  | .refillRequest q => Sys2Proof.Machine.execRefillRequest q s
  | .refillDone q r => Sys2Proof.Machine.execRefillDone q r s
  | .queFlushGo q => Sys2Proof.Machine.execQueFlushGo q s
  | .queFlushDone => Sys2Proof.Machine.execQueFlushDone s
  | .lingerEnd p => Sys2Proof.Machine.execLingerEnd p s
  | .queCfgWrite q minCells alpha mark drop => Sys2Proof.Machine.execQueCfgWrite q minCells alpha mark drop s
  | .recirculate => Sys2Proof.Machine.execRecirculate s
  | .fifoOpen f => Sys2Proof.Machine.execFifoOpen f s
  | .fifoData f w => Sys2Proof.Machine.execFifoData f w s
  | .fifoCommit f flags trim => Sys2Proof.Machine.execFifoCommit f flags trim s
  | .fifoAbort f => Sys2Proof.Machine.execFifoAbort f s
  | .fifoConsumeRead ini f word => Sys2Proof.Machine.execFifoConsumeRead ini f word s
  | .fifoPop f => Sys2Proof.Machine.execFifoPop f s
  | .fifoFlush f => Sys2Proof.Machine.execFifoFlush f s
  | .inkwellScrub c r => Sys2Proof.Machine.execInkwellScrub c r s
  | .linkParityError w => Sys2Proof.Machine.execLinkParityError w s
  | .cellAuditStart => Sys2Proof.Machine.execCellAuditStart s
  | .cellAuditDone => Sys2Proof.Machine.execCellAuditDone s
  | .queCntClr => Sys2Proof.Machine.execQueCntClr s
  | .nibAlu n => Sys2Proof.Machine.execNibAlu n s
  | .nibBranch n => Sys2Proof.Machine.execNibBranch n s
  | .nibJal n => Sys2Proof.Machine.execNibJal n s
  | .nibJalr n => Sys2Proof.Machine.execNibJalr n s
  | .nibMret n => Sys2Proof.Machine.execNibMret n s
  | .nibLoad n r => Sys2Proof.Machine.execNibLoad n r s
  | .nibStore n => Sys2Proof.Machine.execNibStore n s
  | .nibMul n => Sys2Proof.Machine.execNibMul n s
  | .nibDiv n => Sys2Proof.Machine.execNibDiv n s
  | .nibCsrAccess n => Sys2Proof.Machine.execNibCsrAccess n s
  | .nibFence n => Sys2Proof.Machine.execNibFence n s
  | .nibWfi n => Sys2Proof.Machine.execNibWfi n s
  | .nibEcall n => Sys2Proof.Machine.execNibEcall n s
  | .nibEbreak n => Sys2Proof.Machine.execNibEbreak n s
  | .vgBext n r => Sys2Proof.Machine.execVgBext n r s
  | .vgBswap n => Sys2Proof.Machine.execVgBswap n s
  | .vgBins n r => Sys2Proof.Machine.execVgBins n r s
  | .vgScale n r => Sys2Proof.Machine.execVgScale n r s
  | .vgScaleu n r => Sys2Proof.Machine.execVgScaleu n r s
  | .vgCrcb n => Sys2Proof.Machine.execVgCrcb n s
  | .vgCrcw n => Sys2Proof.Machine.execVgCrcw n s
  | .vgCrcm n r => Sys2Proof.Machine.execVgCrcm n r s
  | .vgTrd n => Sys2Proof.Machine.execVgTrd n s
  | .vgTlat n => Sys2Proof.Machine.execVgTlat n s
  | .vgAwait n => Sys2Proof.Machine.execVgAwait n s
  | .awaitReturn n => Sys2Proof.Machine.execAwaitReturn n s
  | .vgPollev n => Sys2Proof.Machine.execVgPollev n s
  | .vgRing n => Sys2Proof.Machine.execVgRing n s
  | .vgTset n => Sys2Proof.Machine.execVgTset n s
  | .vgPop n => Sys2Proof.Machine.execVgPop n s
  | .vgRel n => Sys2Proof.Machine.execVgRel n s
  | .vgPush n r => Sys2Proof.Machine.execVgPush n r s
  | .vgQlen n => Sys2Proof.Machine.execVgQlen n s
  | .vgSput n => Sys2Proof.Machine.execVgSput n s
  | .vgSage n r => Sys2Proof.Machine.execVgSage n r s
  | .vgAmoadd n r => Sys2Proof.Machine.execVgAmoadd n r s
  | .nibTimerExpiry n t => Sys2Proof.Machine.execNibTimerExpiry n t s
  | .nibWatchdog n => Sys2Proof.Machine.execNibWatchdog n s
  | .engineRecovery n => Sys2Proof.Machine.execEngineRecovery n s
  | .nibRun n => Sys2Proof.Machine.execNibRun n s
  | .nibHaltCmd n => Sys2Proof.Machine.execNibHaltCmd n s
  | .nibDoorbellWrite n v => Sys2Proof.Machine.execNibDoorbellWrite n v s
  | .nibTimerWrite n t periodic period => Sys2Proof.Machine.execNibTimerWrite n t periodic period s
  | .signalStoreScrub word uncorr => Sys2Proof.Machine.execSignalStoreScrub word uncorr s
  | .nibCntClr n => Sys2Proof.Machine.execNibCntClr n s
  | .sigRlRefill j => Sys2Proof.Machine.execSigRlRefill j s
  | .sigCntClr => Sys2Proof.Machine.execSigCntClr s
  | .gatewayStart n => Sys2Proof.Machine.execGatewayStart n s
  | .gatewayFrameUnpack n j => Sys2Proof.Machine.execGatewayFrameUnpack n j s
  | .gatewayScheduledSend n m => Sys2Proof.Machine.execGatewayScheduledSend n m s
  | .gatewayTriggeredSend n m => Sys2Proof.Machine.execGatewayTriggeredSend n m s
  | .rulStep t => Sys2Proof.Machine.execRulStep t s
  | .rulSet t => Sys2Proof.Machine.execRulSet t s
  | .rulSlew t => Sys2Proof.Machine.execRulSlew t s
  | .rulAccept t => Sys2Proof.Machine.execRulAccept t s
  | .slewDone t => Sys2Proof.Machine.execSlewDone t s
  | .rulAdjWrite t adj => Sys2Proof.Machine.execRulAdjWrite t adj s
  | .rulRunWrite t run => Sys2Proof.Machine.execRulRunWrite t run s
  | .tsRecordHoldExpiry idx => Sys2Proof.Machine.execTsRecordHoldExpiry idx s
  | .txqTailWrite tail => Sys2Proof.Machine.execTxqTailWrite tail s
  | .ppsOutPulse k => Sys2Proof.Machine.execPpsOutPulse k s
  | .ppsOutPulseEnd k => Sys2Proof.Machine.execPpsOutPulseEnd k s
  | .ppsInEdge k falling => Sys2Proof.Machine.execPpsInEdge k falling s
  | .rulerCopyMismatch what => Sys2Proof.Machine.execRulerCopyMismatch what s
  | .rulCntClr => Sys2Proof.Machine.execRulCntClr s
  | .redPairModeWrite k mode => Sys2Proof.Machine.execRedPairModeWrite k mode s
  | .bucketRepin g b => Sys2Proof.Machine.execBucketRepin g b s
  | .recoveryBoundExceeded what => Sys2Proof.Machine.execRecoveryBoundExceeded what s
  | .keyUpdate written tampActive => Sys2Proof.Machine.execKeyUpdate written tampActive s
  | .keyUpdateCommit => Sys2Proof.Machine.execKeyUpdateCommit s
  | .keyGenerate n written => Sys2Proof.Machine.execKeyGenerate n written s
  | .keyAttest n => Sys2Proof.Machine.execKeyAttest n s
  | .keyDerive src n written => Sys2Proof.Machine.execKeyDerive src n written s
  | .keyErase n written => Sys2Proof.Machine.execKeyErase n written s
  | .reservationWriteDone n => Sys2Proof.Machine.execReservationWriteDone n s
  | .keyRemask n => Sys2Proof.Machine.execKeyRemask n s
  | .keyRamParity n => Sys2Proof.Machine.execKeyRamParity n s
  | .trngHealthFail => Sys2Proof.Machine.execTrngHealthFail s
  | .keyRngRead ini => Sys2Proof.Machine.execKeyRngRead ini s
  | .tamperAlarm src => Sys2Proof.Machine.execTamperAlarm src s
  | .keyCntClr => Sys2Proof.Machine.execKeyCntClr s
  | .sealCheckDone n => Sys2Proof.Machine.execSealCheckDone n s
  | .laGcmEnc slot => Sys2Proof.Machine.execLaGcmEnc slot s
  | .laGcmDec slot tagLen => Sys2Proof.Machine.execLaGcmDec slot tagLen s
  | .laCmacGen slot => Sys2Proof.Machine.execLaCmacGen slot s
  | .laCmacVerify slot tagLen => Sys2Proof.Machine.execLaCmacVerify slot tagLen s
  | .laSha384 => Sys2Proof.Machine.execLaSha384 s
  | .laEcdsaSign => Sys2Proof.Machine.execLaEcdsaSign s
  | .laEcdsaVerify fleet => Sys2Proof.Machine.execLaEcdsaVerify fleet s
  | .laDone => Sys2Proof.Machine.execLaDone s
  | .cipherUnitFault u => Sys2Proof.Machine.execCipherUnitFault u s
  | .cipCntClr => Sys2Proof.Machine.execCipCntClr s
  | .dmaRxFrame r sw => Sys2Proof.Machine.execDmaRxFrame r sw s
  | .dmaRxHoldTimeout r => Sys2Proof.Machine.execDmaRxHoldTimeout r s
  | .dmaTxFrame j sw => Sys2Proof.Machine.execDmaTxFrame j sw s
  | .dmaRingTailWrite r v => Sys2Proof.Machine.execDmaRingTailWrite r v s
  | .dmaRingRestart r => Sys2Proof.Machine.execDmaRingRestart r s
  | .dmaRingEnWrite r w => Sys2Proof.Machine.execDmaRingEnWrite r w s
  | .dmaVecRearm mask => Sys2Proof.Machine.execDmaVecRearm mask s
  | .dmaCoalesceTimer r => Sys2Proof.Machine.execDmaCoalesceTimer r s
  | .dmaCplTimeout r => Sys2Proof.Machine.execDmaCplTimeout r s
  | .pcieBmeClear d3 => Sys2Proof.Machine.execPcieBmeClear d3 s
  | .dmaCntClr => Sys2Proof.Machine.execDmaCntClr s
  | .bar2Write ini off val => Sys2Proof.Machine.execBar2Write ini off val s
  | .bar2Read ini off => Sys2Proof.Machine.execBar2Read ini off s
  | .tisulerRequestRx => Sys2Proof.Machine.execTisulerRequestRx s
  | .tisulerResponseRx => Sys2Proof.Machine.execTisulerResponseRx s
  | .ligatureWriteTimeout slot => Sys2Proof.Machine.execLigatureWriteTimeout slot s
  | .ligatureReadTimeout slot => Sys2Proof.Machine.execLigatureReadTimeout slot s
  | .ligatureRetry slot => Sys2Proof.Machine.execLigatureRetry slot s
  | .responderSlotFree => Sys2Proof.Machine.execResponderSlotFree s
  | .watchPollSend w => Sys2Proof.Machine.execWatchPollSend w s
  | .watchPollTimeout w => Sys2Proof.Machine.execWatchPollTimeout w s
  | .brgCntClr => Sys2Proof.Machine.execBrgCntClr s
  | .enterTrim => Sys2Proof.Machine.execEnterTrim s
  | .enterRun => Sys2Proof.Machine.execEnterRun s
  | .dozeEntry s1Waiting => Sys2Proof.Machine.execDozeEntry s1Waiting s
  | .dozeCommit => Sys2Proof.Machine.execDozeCommit s
  | .dozeExit => Sys2Proof.Machine.execDozeExit s
  | .dozeExitDone => Sys2Proof.Machine.execDozeExitDone s
  | .sleepEntry s1Waiting => Sys2Proof.Machine.execSleepEntry s1Waiting s
  | .sleepCommit => Sys2Proof.Machine.execSleepCommit s
  | .inhOutHoldEnd => Sys2Proof.Machine.execInhOutHoldEnd s
  | .pwrReqWrite target => Sys2Proof.Machine.execPwrReqWrite target s
  | .pwrReqTake => Sys2Proof.Machine.execPwrReqTake s
  | .avsAck => Sys2Proof.Machine.execAvsAck s
  | .avsTimeout core sram => Sys2Proof.Machine.execAvsTimeout core sram s
  | .avsLoopTick slack => Sys2Proof.Machine.execAvsLoopTick slack s
  | .legacySettle => Sys2Proof.Machine.execLegacySettle s
  | .supplyWarning k level => Sys2Proof.Machine.execSupplyWarning k level s
  | .supplyReset k level => Sys2Proof.Machine.execSupplyReset k level s
  | .sagRestart => Sys2Proof.Machine.execSagRestart s
  | .presenceRx k p node flags => Sys2Proof.Machine.execPresenceRx k p node flags s
  | .presenceSend k => Sys2Proof.Machine.execPresenceSend k s
  | .localNeedWrite k need => Sys2Proof.Machine.execLocalNeedWrite k need s
  | .quietTimeout k => Sys2Proof.Machine.execQuietTimeout k s
  | .tWaitExpiry k => Sys2Proof.Machine.execTWaitExpiry k s
  | .networkWake k code idx => Sys2Proof.Machine.execNetworkWake k code idx s
  | .holdExpiry k => Sys2Proof.Machine.execHoldExpiry k s
  | .nodeEntryExpiry k => Sys2Proof.Machine.execNodeEntryExpiry k s
  | .needRunTimeout k => Sys2Proof.Machine.execNeedRunTimeout k s
  | .maxAwakeExceeded k => Sys2Proof.Machine.execMaxAwakeExceeded k s
  | .wakeInActive n => Sys2Proof.Machine.execWakeInActive n s
  | .rtcAlarm => Sys2Proof.Machine.execRtcAlarm s
  | .nslCntClr => Sys2Proof.Machine.execNslCntClr s
  | .lcOn mask => Sys2Proof.Machine.execLcOn mask s
  | .lcOff mask => Sys2Proof.Machine.execLcOff mask s
  | .lcClr mask => Sys2Proof.Machine.execLcClr mask s
  | .shortCircuitTrip n i10mA lt10uJ => Sys2Proof.Machine.execShortCircuitTrip n i10mA lt10uJ s
  | .overcurrentTrip n i10mA lt10uJ => Sys2Proof.Machine.execOvercurrentTrip n i10mA lt10uJ s
  | .energyTrip n i10mA lt10uJ => Sys2Proof.Machine.execEnergyTrip n i10mA lt10uJ s
  | .thermalTrip n => Sys2Proof.Machine.execThermalTrip n s
  | .driverSenseFault n => Sys2Proof.Machine.execDriverSenseFault n s
  | .inrushEnd n => Sys2Proof.Machine.execInrushEnd n s
  | .lcPauseEnd n => Sys2Proof.Machine.execLcPauseEnd n s
  | .faultCountReset n => Sys2Proof.Machine.execFaultCountReset n s
  | .vldDip b mv => Sys2Proof.Machine.execVldDip b mv s
  | .openLoadOn n i10mA => Sys2Proof.Machine.execOpenLoadOn n i10mA s
  | .offStateDiag n before after => Sys2Proof.Machine.execOffStateDiag n before after s
  | .powerDieConfigWrite ok => Sys2Proof.Machine.execPowerDieConfigWrite ok s
  | .blotterReport r more => Sys2Proof.Machine.execBlotterReport r more s
  | .bltWindowClose src => Sys2Proof.Machine.execBltWindowClose src s
  | .fltHeartbeat => Sys2Proof.Machine.execFltHeartbeat s
  | .absentTimeout => Sys2Proof.Machine.execAbsentTimeout s
  | .fltForceWrite force => Sys2Proof.Machine.execFltForceWrite force s
  | .bltLogClr => Sys2Proof.Machine.execBltLogClr s
  | .bltCntClr => Sys2Proof.Machine.execBltCntClr s
  | .bltPlogClr key => Sys2Proof.Machine.execBltPlogClr key s
  | .updStage ok => Sys2Proof.Machine.execUpdStage ok s
  | .updSheet k ok => Sys2Proof.Machine.execUpdSheet k ok s
  | .updVerify bad => Sys2Proof.Machine.execUpdVerify bad s
  | .updCommit restart ok => Sys2Proof.Machine.execUpdCommit restart ok s
  | .updAbort => Sys2Proof.Machine.execUpdAbort s
  | .updConfirm ok => Sys2Proof.Machine.execUpdConfirm ok s
  | .updAuth => Sys2Proof.Machine.execUpdAuth s
  | .updChallenge => Sys2Proof.Machine.execUpdChallenge s
  | .confirmDue => Sys2Proof.Machine.execConfirmDue s
  | .confirmTimeout => Sys2Proof.Machine.execConfirmTimeout s
  | .vbatPowerLoss => Sys2Proof.Machine.execVbatPowerLoss s
  | .reservoirControllerFault => Sys2Proof.Machine.execReservoirControllerFault s
  | .powerDieSelfCheckFail info => Sys2Proof.Machine.execPowerDieSelfCheckFail info s
  | .pipelineStall k => Sys2Proof.Machine.execPipelineStall k s
  | .vldDipEnd b mv => Sys2Proof.Machine.execVldDipEnd b mv s
  | .supplyWarningRearm k => Sys2Proof.Machine.execSupplyWarningRearm k s
  | .vbatWarningClear => Sys2Proof.Machine.execVbatWarningClear s
  | .pcieLinkUp speed lanes cfg => Sys2Proof.Machine.execPcieLinkUp speed lanes cfg s
  | .xtal32Stop => Sys2Proof.Machine.execXtal32Stop s
  | .receiveLpi p on => Sys2Proof.Machine.execReceiveLpi p on s
  | .nibIllegalInstruction n parity => Sys2Proof.Machine.execNibIllegalInstruction n parity s
  | .s1WaitTimeout => Sys2Proof.Machine.execS1WaitTimeout s
  | .energyDetect n level => Sys2Proof.Machine.execEnergyDetect n level s

end Sys2Proof.Machine
end

