-- ==== Sys2Proof/Machine/Tick.lean ====
section
/-! DEFINITION. One tick of TCLK, 2.5 ns (spec 01 R21): what the passing of time alone changes. It is what a step does on an
empty queue. -/
namespace Sys2Proof.Machine

/-- ECLK edges during the tick that begins `t` ticks after the dividers were released: twelve in five ticks, and at the release and at
every alignment boundary its edge is TCLK's (01 R21, R22). -/
def eclkEdges (t : Nat) : Nat := 12 * (t + 1) / 5 - 12 * t / 5

/-- The cycle counters of engine `n` (10 R226, NIB_CNT): they count while the engine is RUNNING or AWAITING; the clock of an
AWAITING engine is gated in TRIM (R244). -/
def State.nibTick (s : State) (n : Nat) : State :=
  let st := s.rd F.NIB_STAT_STATE n
  if st = 1 ∨ (st = 2 ∧ s.rd F.PWR_STAT_STATE 0 = 0) then
    let k := eclkEdges (s.mtime - 1)
    let e := s.nibEng n
    let s := (s.setNib n { e with mcycle := (e.mcycle + k) % 2 ^ 64 }).bumpBy F.NIB_CNT_COUNT (9 * n + 1) k
    if st = 2 then s.bumpBy F.NIB_CNT_COUNT (9 * n + 2) k else s
  else s

/-- The power die: the RTC, the envelope clocks of its load channels, and once a microsecond their wiring models (19 R394, 20). -/
def State.powerTick (s : State) : State :=
  let s := s.rtcTick
  if s.pd.phase = .run then
    let s := (List.range 24).foldl State.lcTick s
    if s.now % ticksUs = 0 then s.lcWireTick else s
  else s

/-- The clocks of the main die that DOZE gates: Nib engines, shapers, policers, and what the queues and ports do at once
(18 R369). -/
def State.gatedTick (s : State) : State :=
  let s := (List.range 10).foldl State.nibTick s
  let s := (s.shapersTick.policersTick.settleAll).drainService
  let s := (List.range 40).foldl State.fcCheck s
  (List.range 8).foldl State.taperService s

/-- One tick. -/
def State.tick (s : State) : State :=
  let s := s.powerTick
  let s := if s.mainUp then
      let s := (State.rulersTick { s with mtime := s.mtime + 1 }).scrubTick
      (if s.gated then s else s.gatedTick).msixService
    else s
  { s with now := s.now + 1 }

end Sys2Proof.Machine
end

