-- ==== Sys2Proof/Safety.lean ====
section
/-! DEFINITION. The terms in which statements speak of what a command does: that it completes, what holds of the state it leaves,
and which registers it leaves as they were. -/
namespace Sys2Proof

/-- The command completes: its meaning answers a next state. -/
def Completes (i : Instr) (s : Machine.State) : Prop := ∃ t, Machine.exec i s = .next t

/-- The command completes, and `P` holds of the state that it leaves. -/
def Does (i : Instr) (s : Machine.State) (P : Machine.State → Prop) : Prop := ∃ t, Machine.exec i s = .next t ∧ P t

/-- Every register field outside `fs` holds in `t` what it holds in `s`, in every element. -/
def RegsBut (fs : List Machine.Fld) (s t : Machine.State) : Prop :=
  ∀ (f : Machine.Fld) (i : Nat), f.id ∉ fs.map Machine.Fld.id → t.rd f i = s.rd f i

/-- Field `f` holds in `t` what it holds in `s`, in every element but `i`. -/
def ElemsBut (f : Machine.Fld) (i : Nat) (s t : Machine.State) : Prop := ∀ j, j ≠ i → t.rd f j = s.rd f j

/-- GLB_DEV_ID and GLB_DEV_REV hold what the spec gives (03). -/
abbrev identityHolds (s : Machine.State) : Prop :=
  s.rd Machine.F.GLB_DEV_ID_ID 0 = 0x56476412 ∧ s.rd Machine.F.GLB_DEV_REV_MAJOR 0 = 1 ∧ s.rd Machine.F.GLB_DEV_REV_MINOR 0 = 0
    ∧ s.rd Machine.F.GLB_DEV_REV_METAL 0 = 1 ∧ s.rd Machine.F.GLB_DEV_REV_PD_REV 0 = 1

/-- Every byte memory is in canonical form: the host's, the Scribe cores', the windows, the port data, the key region and the Nib engines' SRAMs. -/
abbrev memoriesCanonical (s : Machine.State) : Prop :=
  s.hostMem.wf = true ∧ s.scribeMem.wf = true ∧ s.staging.wf = true ∧ s.sheetBuf.wf = true ∧ s.manWin.wf = true ∧ s.mvbData.wf = true
    ∧ s.ss.wf = true ∧ s.keyMsg.wf = true ∧ s.laWin.wf = true ∧ s.keyFlash.wf = true ∧ ∀ e ∈ s.nib, e.2.isram.wf = true ∧ e.2.dsram.wf = true

/-- The registers that load-channel commands may change (20): a channel's own, and those that a deferred configuration writes. -/
def loadFlds : List Machine.Fld :=
  [Machine.F.LC_GLB_STAT_CFG_DEFERRED, Machine.F.LC_GLB_STAT_CFG_VALID, Machine.F.LC_BANK_VLD_MV, Machine.F.LC_VLD_DIP_DIP_MV,
   Machine.F.LC_CH_CFG_PRESENT, Machine.F.LC_CH_CFG_PENDING, Machine.F.LC_CH_CFG_XSECT, Machine.F.LC_CH_CFG_PROFILE, Machine.F.LC_CH_CFG_RETRY_N,
   Machine.F.LC_CH_CFG_P0_MS, Machine.F.LC_CH_LIM_WIRE_MOHM, Machine.F.LC_CH_LIM_ELIM_MJ, Machine.F.LC_CH_BOARD_I_RATED_MA,
   Machine.F.LC_CH_BOARD_SC_DA, Machine.F.LC_CH_SENSE_SHUNT_UOHM, Machine.F.LC_CH_SENSE_OPEN_MA, Machine.F.LC_CH_STAT_REFUSED_EVT,
   Machine.F.LC_CH_STAT_OPEN_EVT, Machine.F.LC_CH_STAT_LATCH_EVT, Machine.F.LC_CH_STAT_FAULT_EVT, Machine.F.LC_CH_STAT_LAST_FAULT,
   Machine.F.LC_CH_STAT_FAULT_CNT, Machine.F.LC_CH_STAT_SHORT_BAT, Machine.F.LC_CH_STAT_OPEN_OFF, Machine.F.LC_CH_STAT_OPEN_ON,
   Machine.F.LC_CH_STAT_STATE, Machine.F.LC_CH_MEAS_PEAK_10MA, Machine.F.LC_CH_MEAS_I_10MA, Machine.F.LC_CH_WIRE_LT_10UJ,
   Machine.F.LC_CH_CNT_COUNT]

/-- Engine `n` runs, and the instruction at its pc is `op`, of bits `raw` and `len` bytes (10 R221). -/
def fetches (s : Machine.State) (n : Nat) (op : Machine.NibOp) (raw len : Nat) : Bool :=
  s.nibRunning n && decide (s.nibFetch n = some ⟨op, raw, len⟩)

/-- In `t` the engine's registers, pc and INSTRET are those after an instruction of `s` has retired that wrote `v` to register `rd`;
x0 stays 0. -/
def Retired (n rd : Nat) (v pc : Word) (s t : Machine.State) : Prop :=
  (t.nibEng n).pc = pc ∧ t.xr n rd = (if rd = 0 then 0 else v) ∧ (∀ r, r ≠ rd → t.xr n r = s.xr n r)
    ∧ t.rd Machine.F.NIB_CNT_COUNT (9 * n) = (s.rd Machine.F.NIB_CNT_COUNT (9 * n) + 1) % 2 ^ Machine.F.NIB_CNT_COUNT.width

/-- Besides, nothing else has changed: no other engine, no memory, no register but the counter of retired instructions. -/
def RetiredOnly (n rd : Nat) (v pc : Word) (s t : Machine.State) : Prop :=
  Retired n rd v pc s t
    ∧ t = { s with nib := t.nib, regs := t.regs } ∧ RegsBut [Machine.F.NIB_CNT_COUNT] s t ∧ (∀ m, m ≠ n → t.nibEng m = s.nibEng m)
    ∧ t.nibEng n = { s.nibEng n with x := (t.nibEng n).x, pc := pc, minstret := ((s.nibEng n).minstret + 1) % 2 ^ 64 }

/-- Engine `n` has taken exception `cause` (10 R238): mepc, mcause and mtval are written; it goes on at the handler of mtvec with IN_TRAP
set, or, without a handler or in a trap, halts with a report. -/
def Trapped (n cause : Nat) (tval : Word) (s t : Machine.State) : Prop :=
  (t.nibEng n).mepc = (s.nibEng n).pc ∧ (t.nibEng n).mcause = BitVec.ofNat 32 cause ∧ (t.nibEng n).mtval = tval
    ∧ if (s.nibEng n).mtvec ≠ 0 ∧ s.on Machine.F.NIB_STAT_IN_TRAP n = false
      then (t.nibEng n).pc = (s.nibEng n).mtvec ∧ t.rd Machine.F.NIB_STAT_IN_TRAP n = 1 ∧ t.rd Machine.F.NIB_STAT_STATE n = s.rd Machine.F.NIB_STAT_STATE n
      else t.rd Machine.F.NIB_STAT_STATE n = 3 ∧ t.rd Machine.F.NIB_STAT_HALT_EVT n = 1
        ∧ t.transit.getLast? = some ⟨0x0D0 + n, Machine.elemId 6 n, cause⟩

end Sys2Proof
end

