-- ==== Sys2Proof/WellFormed.lean ====
section
/-! DEFINITION. Which commands are well formed: operands of an unbounded type lie in the ranges that the spec gives them. -/
namespace Sys2Proof

/-- A report names an assigned range of sources, an element identifier of 16 bits and a detail word of 32 (01 R18, 21 R409). -/
def Report.wellFormed (r : Report) : Bool := decide (r.src < 1024) && decide (r.elem < 2 ^ 16) && decide (r.info < 2 ^ 32)

/-- A message over the Ferrule link carries an aligned register offset or a well-formed report (00 R4, 01 R11). -/
def FerruleMsg.wellFormed (m : FerruleMsg) : Bool :=
  match m with
  | .idle => true
  | .regWrite addr _ => decide (addr % 4 = 0) && decide (addr < 2 ^ 25)
  | .report r => r.wellFormed
  | .other => true

/-- A table write names an entry that fits its window's index, and prefixes no longer than an address (08 R181, R194). -/
def TblOp.wellFormed (op : TblOp) : Bool :=
  match op with
  | .word tid idx w _ => decide (tid < 32) && decide (idx < 2 ^ 20) && decide (w < 32)
  | .fdbInsert .. => true
  | .fdbDelete .. => true
  | .routeInsert v6 pfx len _ => decide (len ≤ (if v6 then 128 else 32)) && decide (pfx < 2 ^ (if v6 then 128 else 32))
  | .routeDelete v6 pfx len => decide (len ≤ (if v6 then 128 else 32)) && decide (pfx < 2 ^ (if v6 then 128 else 32))
  | .sigInsert ws => decide (ws.length = 4)
  | .sigDelete ws => decide (ws.length = 4)

/-- The units of a Reservoir block are 0 to 31, and SEQ has 32 bits (09 R204). -/
def RefillResult.wellFormed (r : RefillResult) : Bool :=
  match r with
  | .ok => true
  | .corrected u => decide (u < 32)
  | .header u => decide (u < 32)
  | .seq v => decide (v < 2 ^ 32)
  | .bytes u => decide (u < 32)

/-- A parity error lies in a queue of the 768, or at a cell of the 131,072 (09 R196, R219). -/
def LinkDamage.wellFormed (w : LinkDamage) : Bool :=
  match w with
  | .queue q _ _ _ => decide (q < 768)
  | .freeList c => decide (c < 131072)

/-- What software has written to memory is given by strictly rising address. -/
def cellsRise (cs : List Host.Cell) : Bool :=
  match cs with
  | [] => true
  | [_] => true
  | a :: b :: t => decide (a.1 < b.1) && cellsRise (b :: t)

/-- A command is well formed. -/
def Instr.wellFormed (i : Instr) : Bool :=
  match i with
  | .registerWrite _ addr _ => decide (addr % 4 = 0) && decide (addr < 2 ^ 25)
  | .wideRegLowRead _ addr => decide (addr % 4 = 0) && decide (addr < 2 ^ 25)
  | .rcRegisterRead _ addr => decide (addr % 4 = 0) && decide (addr < 2 ^ 25)
  | .accessOutsideRegion _ addr => decide (addr % 4 = 0) && decide (addr < 2 ^ 32)
  | .ferruleTransferRx _ _ _ msg => msg.wellFormed
  | .ferruleRetransmit sent => sent.msg.wellFormed
  | .pfcFrameRx _ _ times => decide (times.length = 8)
  | .canFrameRx _ _ _ _ _ _ data _ => decide (data.length ≤ 2048)
  | .brdDone _ edges _ => decide (edges ≤ 256)
  | .mvbSlaveFrameRx _ data _ => decide (data.length ≤ 32)
  | .tableEntryWrite op => op.wellFormed
  | .tableScrub tid idx _ => decide (tid < 32) && decide (idx < 2 ^ 20)
  | .refillDone _ r => r.wellFormed
  | .queFlushGo q => decide (q < 1024)
  | .linkParityError w => w.wellFormed
  | .dmaRxFrame _ sw => cellsRise sw
  | .dmaTxFrame _ sw => cellsRise sw
  | .bar2Write _ off _ => decide (off < 2 ^ 26)
  | .bar2Read _ off => decide (off < 2 ^ 26)
  | .vldDip _ mv => decide (mv < 2 ^ 16)
  | .blotterReport r _ => r.wellFormed
  | .vldDipEnd _ mv => decide (mv < 2 ^ 16)
  | .ferruleIdleSend .. | .mainDieAbsent .. | .blockRecoveryStart .. | .pllUnlock .. | .srefclkLoss ..
  | .vbatPowerOn .. | .powerDiePorEnd .. | .inhOutAssert .. | .railsInWindow .. | .railWindowTimeout .. | .railRetry ..
  | .rootPllLock .. | .secondStageStart .. | .dramTrained .. | .unseal .. | .scrollLoad .. | .scrollApply ..
  | .softScrollCommit .. | .scrollPersist .. | .persistDone .. | .restructure .. | .restructStopped .. | .restructLoaded ..
  | .restructPortsEnabled .. | .scrollLock .. | .glbRstMain .. | .glbRstRecovery .. | .sysRstNLow .. | .mainDieResetRelease ..
  | .pcieReset .. | .glbBlkRstWrite .. | .s1Run .. | .irqClaim .. | .irqComplete .. | .mtimeCompare .. | .wdogKick ..
  | .wdogExpiry .. | .lockstepMismatch .. | .cacheError .. | .uartHello .. | .uartChallenge .. | .uartAuth ..
  | .uartManifest .. | .uartSheet .. | .uartCommit .. | .uartSetRate .. | .pcsSignalLoss .. | .linkUp .. | .linkDown ..
  | .inbandStatusWord .. | .serdesReadapt .. | .serdesPllLockLoss .. | .frameReceived .. | .qsGrantCheck .. | .qsRelease ..
  | .verdictDecisionFinal .. | .verdictIntegrityFinal .. | .strikeBlockRx .. | .pauseFrameRx .. | .pauseTakesEffect ..
  | .pauseTimerExpiry .. | .pauseRepeat .. | .pauseStorm .. | .lpiEntry .. | .lpiWakeDone .. | .taperHelloSend ..
  | .taperHelloRx .. | .peerTimeout .. | .taperWindowEnd .. | .taperProposeRx .. | .taperAcceptRx .. | .taperRefuseRx ..
  | .taperProposeTimeout .. | .taperHoldEnd .. | .taperRetrainTimeout .. | .taperCtlWrite .. | .wakePatternFrame ..
  | .ethCntClr .. | .canEnable .. | .canDisable .. | .canIntegrated .. | .canProtocolException .. | .canTxHead ..
  | .canTxSuccess .. | .canArbLost .. | .canBusError .. | .canRecoveryStart .. | .canRecoveryDone .. | .tdcFail ..
  | .canRlRefill .. | .canTmDue .. | .canWakeDominant .. | .aocLaneWake .. | .canAuxArmed .. | .brdStart .. | .canCntClr ..
  | .t1sFrameRx .. | .t1sBeaconSend .. | .t1sOpportunity .. | .t1sToTimer .. | .t1sBurstTimer .. | .t1sBeaconRx ..
  | .beaconLoss .. | .t1sCollision .. | .t1sBackoffEnd .. | .t1sEdTimeout .. | .t1sCntClr .. | .mvbMasterFrameRx ..
  | .mvbReplySend .. | .mvbBasicPeriod .. | .mvbPollSend .. | .mvbReplyTimeout .. | .mvbSilenceTimeout .. | .mvbSrcUpdate ..
  | .mvbCntClr .. | .scFlush .. | .stencilScrub .. | .pipelineRecoveryDone .. | .ppxCntClr .. | .egressSelect ..
  | .egressFrameDone .. | .epochBump .. | .committedWriteApply .. | .learnInsert .. | .ageSweepVisit .. | .drainTargetWrite ..
  | .lnCfgEnable .. | .tblCntClr .. | .spillBlockWrite .. | .refillRequest .. | .queFlushDone .. | .lingerEnd ..
  | .queCfgWrite .. | .recirculate .. | .fifoOpen .. | .fifoData .. | .fifoCommit .. | .fifoAbort .. | .fifoConsumeRead ..
  | .fifoPop .. | .fifoFlush .. | .inkwellScrub .. | .cellAuditStart .. | .cellAuditDone .. | .queCntClr .. | .nibAlu ..
  | .nibBranch .. | .nibJal .. | .nibJalr .. | .nibMret .. | .nibLoad .. | .nibStore .. | .nibMul .. | .nibDiv ..
  | .nibCsrAccess .. | .nibFence .. | .nibWfi .. | .nibEcall .. | .nibEbreak .. | .vgBext .. | .vgBswap .. | .vgBins ..
  | .vgScale .. | .vgScaleu .. | .vgCrcb .. | .vgCrcw .. | .vgCrcm .. | .vgTrd .. | .vgTlat .. | .vgAwait .. | .awaitReturn ..
  | .vgPollev .. | .vgRing .. | .vgTset .. | .vgPop .. | .vgRel .. | .vgPush .. | .vgQlen .. | .vgSput .. | .vgSage ..
  | .vgAmoadd .. | .nibTimerExpiry .. | .nibWatchdog .. | .engineRecovery .. | .nibRun .. | .nibHaltCmd ..
  | .nibDoorbellWrite .. | .nibTimerWrite .. | .signalStoreScrub .. | .nibCntClr .. | .sigRlRefill .. | .sigCntClr ..
  | .gatewayStart .. | .gatewayFrameUnpack .. | .gatewayScheduledSend .. | .gatewayTriggeredSend .. | .rulStep .. | .rulSet ..
  | .rulSlew .. | .rulAccept .. | .slewDone .. | .rulAdjWrite .. | .rulRunWrite .. | .tsRecordHoldExpiry .. | .txqTailWrite ..
  | .ppsOutPulse .. | .ppsOutPulseEnd .. | .ppsInEdge .. | .rulerCopyMismatch .. | .rulCntClr .. | .redPairModeWrite ..
  | .bucketRepin .. | .recoveryBoundExceeded .. | .keyUpdate .. | .keyUpdateCommit .. | .keyGenerate .. | .keyAttest ..
  | .keyDerive .. | .keyErase .. | .reservationWriteDone .. | .keyRemask .. | .keyRamParity .. | .trngHealthFail ..
  | .keyRngRead .. | .tamperAlarm .. | .keyCntClr .. | .sealCheckDone .. | .laGcmEnc .. | .laGcmDec .. | .laCmacGen ..
  | .laCmacVerify .. | .laSha384 .. | .laEcdsaSign .. | .laEcdsaVerify .. | .laDone .. | .cipherUnitFault .. | .cipCntClr ..
  | .dmaRxHoldTimeout .. | .dmaRingTailWrite .. | .dmaRingRestart .. | .dmaRingEnWrite .. | .dmaVecRearm ..
  | .dmaCoalesceTimer .. | .dmaCplTimeout .. | .pcieBmeClear .. | .dmaCntClr .. | .tisulerRequestRx .. | .tisulerResponseRx ..
  | .ligatureWriteTimeout .. | .ligatureReadTimeout .. | .ligatureRetry .. | .responderSlotFree .. | .watchPollSend ..
  | .watchPollTimeout .. | .brgCntClr .. | .enterTrim .. | .enterRun .. | .dozeEntry .. | .dozeCommit .. | .dozeExit ..
  | .dozeExitDone .. | .sleepEntry .. | .sleepCommit .. | .inhOutHoldEnd .. | .pwrReqWrite .. | .pwrReqTake .. | .avsAck ..
  | .avsTimeout .. | .avsLoopTick .. | .legacySettle .. | .supplyWarning .. | .supplyReset .. | .sagRestart .. | .presenceRx ..
  | .presenceSend .. | .localNeedWrite .. | .quietTimeout .. | .tWaitExpiry .. | .networkWake .. | .holdExpiry ..
  | .nodeEntryExpiry .. | .needRunTimeout .. | .maxAwakeExceeded .. | .wakeInActive .. | .rtcAlarm .. | .nslCntClr ..
  | .lcOn .. | .lcOff .. | .lcClr .. | .shortCircuitTrip .. | .overcurrentTrip .. | .energyTrip .. | .thermalTrip ..
  | .driverSenseFault .. | .inrushEnd .. | .lcPauseEnd .. | .faultCountReset .. | .openLoadOn .. | .offStateDiag ..
  | .powerDieConfigWrite .. | .bltWindowClose .. | .fltHeartbeat .. | .absentTimeout .. | .fltForceWrite .. | .bltLogClr ..
  | .bltCntClr .. | .bltPlogClr .. | .updStage .. | .updSheet .. | .updVerify .. | .updCommit .. | .updAbort ..
  | .updConfirm .. | .updAuth .. | .updChallenge .. | .confirmDue .. | .confirmTimeout .. | .vbatPowerLoss ..
  | .reservoirControllerFault .. | .powerDieSelfCheckFail .. | .pipelineStall .. | .supplyWarningRearm ..
  | .vbatWarningClear .. | .pcieLinkUp .. | .xtal32Stop .. | .receiveLpi .. | .nibIllegalInstruction .. | .s1WaitTimeout ..
  | .energyDetect .. => true

end Sys2Proof
end

