-- ==== Sys2Proof/Certificates/Slice0/Obligations.lean ====
section
/-! DEFINITION. The statements about the model, for the provers. -/

open Sys2Proof Sys2Proof.Machine

/-- For every command c, state s and rest of a queue, a step of s with c in front of the rest is the effect of c on s with the
rest waiting; on an empty queue one tick of TCLK passes. The queue and the tick are the model's own (log entries 1 and 2).
Where the rules can be read in two ways or leave a point open, it takes the reading of log entries 1 to 4, 5 to 16. (rests
on: spec 00 (register access by initiators); spec 01 (clocks)) -/
def Obligations.StepRunsTheCommandInFront : Prop :=
  (∀ (c : Instr) (s : State) (rest : List Instr), step { s with pending := c :: rest } = exec c { s with pending := rest })
  ∧ (∀ s : State, step { s with pending := [] } = .next ({ s with pending := [] } : State).tick)

/-- For every state, if a step answers a next state, the commands waiting in it are those that waited behind the first one, in
their order: no command, reset, power loss or tick adds, drops or reorders one. Hence a queue that holds only well-formed
commands keeps doing so. The queue is the model's own (log entry 1). Where the rules can be read in two ways or leave a point
open, it takes the reading of log entries 1 to 4, 5 to 16, 29 to 38. (rests on: spec 00; spec 01; spec 03 R63) -/
def Obligations.NoCommandTouchesTheQueue : Prop :=
  (∀ s t : State, step s = .next t → t.pending = s.pending.tail)
  ∧ (∀ s t : State, (∀ c ∈ s.pending, c.wellFormed = true) → step s = .next t → ∀ c ∈ t.pending, c.wellFormed = true)

/-- If the fields of GLB_DEV_ID and GLB_DEV_REV hold 0x5647_6412, revision 1.0, metal 1 and power-die revision 1, they hold the
same after every step: no command, software write, Scroll, reset or tick changes them. Where the rules can be read in two
ways or leave a point open, it takes the reading of log entries 1 to 4, 29 to 38. (rests on: spec 03 GLB_DEV_ID, GLB_DEV_REV;
spec 00 R7; spec 03 R63) -/
def Obligations.IdentityRegistersNeverChange : Prop :=
  ∀ s t : State, identityHolds s → step s = .next t → identityHolds t

/-- The reset state reads GLB_DEV_ID as 0x5647_6412, its byte memories are in canonical form, the main die has no supply, every
load channel is OFF, and no command waits. What an unwritten byte of memory reads as is the model's choice (log entry 3).
Where the rules can be read in two ways or leave a point open, it takes the reading of log entries 29 to 38, 215 to 223.
(rests on: spec 03 GLB_DEV_ID, GLB_DEV_REV; spec 20 R57; spec 03 R57) -/
def Obligations.ResetHoldsIdentityAndCanonicalMemory : Prop :=
  identityHolds State.reset ∧ memoriesCanonical State.reset ∧ State.reset.phase = .off ∧ State.reset.pending = []
  ∧ ∀ n, State.reset.lcState n = lcOff

/-- If the host's memory, the Scribe memory, the Signal Store, the staging, manifest, sheet, key message and lookaside windows,
the MVB port data and both SRAMs of every Nib engine list rising addresses and no byte that reads as an unwritten one, they
do so after every step: equal memories are equal data. Descriptors and completions go through host memory only in that form.
Where the rules can be read in two ways or leave a point open, it takes the reading of log entries 17 to 28, 63 to 67, 106 to
117, 145 to 158, 159 to 169, 170 to 179, 235 to 246. (rests on: spec 16 R343; spec 10 R223; spec 02 R46; spec 22 R421; spec
15 R336; spec 14 R312; spec 06 R132) -/
def Obligations.EveryStepKeepsMemoriesCanonical : Prop :=
  ∀ s t : State, memoriesCanonical s → step s = .next t → memoriesCanonical t

/-- For every well-formed command and every state the meaning answers a next state. The one stop of the model, a register access
whose offset is not a multiple of 4, concerns an access that the spec forbids to software, and every such access stops (log
entry 4). Where the rules can be read in two ways or leave a point open, it takes the reading of log entries 1 to 4. (rests
on: spec 00 R4; spec 00 R6) -/
def Obligations.NoWellFormedCommandStops : Prop :=
  (∀ (c : Instr) (s : State), c.wellFormed = true → Completes c s)
  ∧ (∀ (ini : Initiator) (a : Nat) (v : Word) (s : State), a % 4 ≠ 0 →
      exec (.registerWrite ini a v) s = .fault .misalignedAccess ∧ exec (.wideRegLowRead ini a) s = .fault .misalignedAccess)

/-- A write at the offset of a one-word register whose write does nothing but store, while the main die runs, its initiator is no
halted core, the offset is reached and no soft apply names it, gives every field what its type leaves of the bits written
(RW, RWS: the bits; RWL: the bits unless SCR_LOCK is set; W1C: the bits cleared; W1S: the bits set; RO, WO, RC: as it was),
answers the initiator, and changes no other register and no other element. Interrupt messages that become due may go out.
While the main die does not run, or from a halted core, an aligned write does nothing. Where the rules can be read in two
ways or leave a point open, it takes the reading of log entries 1 to 4, 17 to 28. (rests on: spec 00 R7; spec 00 R5; spec 02
R56) -/
def Obligations.RegisterWriteStoresByType : Prop :=
  ∀ (s : State) (ini : Initiator) (a : Nat) (val : Word) (d : RegDef) (i : Nat),
    (a % 4 = 0 → s.mainUp = false ∨ s.coreHalted ini = true → exec (.registerWrite ini a val) s = .next s)
    ∧ (s.mainUp = true → s.coreHalted ini = false → s.reached a = true → a % 4 = 0 → (onPowerDie a && !s.linkUp) = false → s.softNames a = false →
    s.winWrite a val.toNat = none → s.regHits a = [(d, i, 0)] → regAbsent d i = false → d.words = 1 → (d.flds.map Fld.id).Nodup →
    (∀ f ∈ d.flds, ∀ h ∈ handlers, h.1 ≠ f.id) →
    Does (.registerWrite ini a val) s (fun t =>
      (∀ f ∈ d.flds, t.rd f i = f.ty.written s.locked (s.rd f i) (f.cut val.toNat) % 2 ^ f.width)
      ∧ RegsBut d.flds s t ∧ (∀ f ∈ d.flds, ElemsBut f i s t) ∧ t.answer = some ⟨ini, .done, 0⟩
      ∧ t = { s with regs := t.regs, bus := t.bus, answer := t.answer, msix := t.msix, hostMem := t.hostMem }))

/-- While the main die runs and the initiator is no halted core, a write of the upper word of a two-word register, whose write
does nothing but store, changes no register; the write of its low word by the same initiator that follows stores the whole
value by the fields' types. A read of the low word of such a register, outside the windows and the registers whose reads act,
returns its low word and latches its upper word for the initiator. Where the rules can be read in two ways or leave a point
open, it takes the reading of log entries 1 to 4. (rests on: spec 00 R5) -/
def Obligations.WideRegisterAccesses : Prop :=
  ∀ (s : State) (ini : Initiator) (a : Nat) (lo hi : Word) (d : RegDef) (i : Nat),
    s.mainUp = true → s.coreHalted ini = false → s.reached a = true → s.reached (a + 4) = true → a % 4 = 0 → (onPowerDie a && !s.linkUp) = false →
    (onPowerDie (a + 4) && !s.linkUp) = false → s.softNames a = false → s.softNames (a + 4) = false →
    s.winWrite a lo.toNat = none → s.winWrite (a + 4) hi.toNat = none → s.winRead a = none → s.latchedWord ini a = none →
    s.regHits a = [(d, i, 0)] → s.regHits (a + 4) = [(d, i, 1)] → d.words = 2 → regAbsent d i = false → (d.flds.map Fld.id).Nodup →
    (∀ f ∈ d.flds, ∀ h ∈ handlers, h.1 ≠ f.id) → rcRegs.find? (fun r => decide (r.1 = a)) = none → ¬(0x1400 ≤ a ∧ a < 0x1410) →
    a ≠ 0xC00018 → ¬(0x1800000 ≤ a ∧ a < 0x1C00000) →
    Does (.registerWrite ini (a + 4) hi) s (fun t => RegsBut [] s t ∧ (t.winWrite a lo.toNat = none →
      Does (.registerWrite ini a lo) t (fun u =>
        ∀ f ∈ d.flds, u.rd f i = f.ty.written s.locked (s.rd f i) (f.cut (lo.toNat + hi.toNat * 2 ^ 32)) % 2 ^ f.width)))
    ∧ Does (.wideRegLowRead ini a) s (fun t => t.answer = some ⟨ini, .done, bits (s.readReg d i) 0 32⟩
        ∧ t.latchedWord ini (a + 4) = some (bits (s.readReg d i) 32 32))

/-- While the main die runs and the initiator is no halted core, a read of DMA_RX_CAUSE (0x00D0_0010) or DMA_TX_CAUSE
(0x00D0_0018) returns the completion events of rings 0 to 31 or 32 to 63, clears exactly those, and leaves the value in the
_SNAP companion. An access that no region takes is answered with Unsupported Request on PCIe and an access fault elsewhere,
and an interconnect error against the whole device is reported. Where the rules can be read in two ways or leave a point
open, it takes the reading of log entries 1 to 4, 170 to 179. (rests on: spec 16 R351; spec 00 R6) -/
def Obligations.RcReadsAndAccessesOutsideRegions : Prop :=
  ∀ (s : State) (ini : Initiator) (a : Nat) (v : Word), s.mainUp = true → s.coreHalted ini = false →
    (∀ first snap, (0xD00010, first, snap) ∈ rcRegs ∧ a = 0xD00010 ∨ (0xD00018, first, snap) ∈ rcRegs ∧ a = 0xD00018 → s.reached a = true →
      Does (.rcRegisterRead ini a) s (fun t => t.answer = some ⟨ini, .done, s.complCause first⟩ ∧ t.rd snap 0 = s.complCause first % 2 ^ 32
        ∧ ∀ j, j < 32 → t.rd F.DMA_RING_STAT_COMPL_EVT (first + j) = if (s.complCause first).testBit j then 0 else s.rd F.DMA_RING_STAT_COMPL_EVT (first + j)))
    ∧ (s.reached a = false → Does (.accessOutsideRegion ini a) s (fun t => t.answer = some ⟨ini, refusalKind ini, 0⟩ ∧ RegsBut [] s t
        ∧ ∃ info, t.transit = s.transit ++ [⟨0x007, elemDevice, info⟩])
      ∧ (a % 4 = 0 → exec (.registerWrite ini a v) s = exec (.accessOutsideRegion ini a) s))

/-- At a die that runs, while the link is up: a transfer with a bad CRC leaves a transfer pending, the expected number and every
register as they were. One with a good CRC and the expected number advances the number by one modulo 256, is pending no
longer when its acknowledgement arrives and still is when it does not; a report reaches the main die's Blotter; a write of a
one-word register of the power die, whose write does nothing but store, stores by the fields' types. One of the 128 numbers
before the expected one changes no register but cause ABSENT, and not the expected number: it takes no effect. An idle
transfer takes the next number when none is pending. At the power die each of these good transfers ends cause ABSENT. Sixteen
microseconds of silence put the power die in main-die absent: the link carries no command and no register changes but
ABSENT_SEEN. The window of 128 numbers is the model's choice (log entry 14). Where the rules can be read in two ways or leave
a point open, it takes the reading of log entries 5 to 16, 224 to 234. (rests on: spec 01 R11; spec 01 R13; spec 21 R417) -/
def Obligations.FerruleTransfersAndMainDieAbsent : Prop :=
  ∀ (s : State) (die : Die) (seq : Fin 256) (msg : FerruleMsg) (acked : Bool) (r : Report) (a : Nat) (v : Word) (d : RegDef) (i : Nat),
    (s.dieRuns die = true → s.ferrule.up = true → (die = .power → s.ferrule.absent = false) →
      Does (.ferruleTransferRx die .badCrc seq msg) s (fun t => (t.ferruleTo die).expect = (s.ferruleTo die).expect
        ∧ (t.ferruleTo die).pending.isSome = true ∧ RegsBut [] s t)
      ∧ (seq.val = (s.ferruleTo die).expect →
        (die = .main ∨ (∀ x w, msg ≠ .regWrite x w) → Does (.ferruleTransferRx die (.good acked) seq msg) s (fun t =>
          (t.ferruleTo die).expect = (seq.val + 1) % 256 ∧ (t.ferruleTo die).pending.isSome = !acked
          ∧ (die = .power → t.rd F.BLT_FLT_STAT_ABSENT 0 = 0)))
        ∧ (die = .main → Does (.ferruleTransferRx die (.good acked) seq (.report r)) s (fun t => t.transit = s.transit ++ [r] ∧ RegsBut [] s t))
        ∧ (die = .power → onPowerDie a = true → a % 4 = 0 → (∀ u : State, u.winWrite a v.toNat = none ∧ u.regHits a = [(d, i, 0)]) →
          regAbsent d i = false → d.words = 1 → (d.flds.map Fld.id).Nodup → (∀ f ∈ d.flds, ∀ h ∈ handlers, h.1 ≠ f.id) →
          (∀ f ∈ d.flds, f.id ≠ F.BLT_FLT_STAT_ABSENT.id) →
          Does (.ferruleTransferRx die (.good acked) seq (.regWrite a v)) s (fun t =>
            (∀ f ∈ d.flds, t.rd f i = f.ty.written s.locked (s.rd f i) (f.cut v.toNat) % 2 ^ f.width)
            ∧ RegsBut (F.BLT_FLT_STAT_ABSENT :: d.flds) s t ∧ t.rd F.BLT_FLT_STAT_ABSENT 0 = 0
            ∧ (t.ferruleTo die).expect = (seq.val + 1) % 256 ∧ (t.ferruleTo die).pending.isSome = !acked)))
      ∧ (seq.val ≠ (s.ferruleTo die).expect → ((s.ferruleTo die).expect + 256 - seq.val) % 256 ≤ 128 →
        Does (.ferruleTransferRx die (.good acked) seq msg) s (fun t => (t.ferruleTo die).expect = (s.ferruleTo die).expect
          ∧ (t.ferruleTo die).pending.isSome = !acked ∧ RegsBut (if die = .power then [F.BLT_FLT_STAT_ABSENT] else []) s t
          ∧ (die = .power → t.rd F.BLT_FLT_STAT_ABSENT 0 = 0) ∧ t.transit = s.transit)))
    ∧ ((s.mainUp && s.ferrule.up && s.ferrule.toPower.pending.isNone) = true → Does .ferruleIdleSend s (fun t =>
        t.ferrule.toPower.pending = some .idle ∧ t.ferrule.toPower.next = (s.ferrule.toPower.next + 1) % 256 ∧ RegsBut [] s t))
    ∧ (s.pd.phase = .run → s.ferrule.absent = false → Does .mainDieAbsent s (fun t =>
        t.ferrule.absent = true ∧ t.linkUp = false ∧ t.rd F.LC_GLB_STAT_ABSENT_SEEN 0 = 1 ∧ RegsBut [F.LC_GLB_STAT_ABSENT_SEEN] s t))

/-- Over a link that is up, between a sending die and a main die that run, each of up to three retransmissions of a transfer
counts, keeps it pending and sends report 0x012, whose class is NOTE; with three behind it the transfer sends report 0x013,
whose class is SEVERE, and the link is up again with both directions at sequence number 0 and nothing pending. Source numbers
and default classes are those of spec 21. (stated: R12) -/
def Obligations.FerruleRetransmissionsAreReported : Prop :=
  bltDefaultClass 0x012 = 0 ∧ bltDefaultClass 0x013 = 1 ∧ ∀ (s : State) (die : Die) (msg : FerruleMsg),
    s.dieRuns die = true → s.mainUp = true → s.ferrule.up = true →
      Does (.ferruleRetransmit ⟨die, msg⟩) s (fun t =>
        if (s.ferruleTo (otherDie die)).retries < 3
        then (t.ferruleTo (otherDie die)).retries = (s.ferruleTo (otherDie die)).retries + 1
          ∧ (t.ferruleTo (otherDie die)).pending = some ((s.ferruleTo (otherDie die)).pending.getD msg)
          ∧ (∃ info, t.transit = s.transit ++ [⟨0x012, elemDevice, info⟩]) ∧ RegsBut [] s t
        else t.ferrule.up = true ∧ t.ferrule.absent = false ∧ t.ferrule.toMain = ⟨0, 0, none, 0⟩ ∧ t.ferrule.toPower = ⟨0, 0, none, 0⟩
          ∧ (∃ info l, t.transit = s.transit ++ [⟨0x013, elemDevice, info⟩] ++ l))

/-- While the main die runs, loss of lock of the root PLL is reported as source 0x001 against the whole device. Loss of a SerDes
reference is reported against each port that it feeds, ports 0 to 23 for SREFCLK0 and 24 to 39 for SREFCLK1, once each, in
the order of their numbers, as source 0x040 plus the port; a port whose loss lasts and has been reported is not reported
again, and no other port is. The stop of the 32.768 kHz crystal changes nothing but that the crystal has stopped. None of the
three changes a register. Where the rules can be read in two ways or leave a point open, it takes the reading of log entries
5 to 16, 125 to 134, 247 to 249. (rests on: spec 01 R26; spec 23 R438; spec 12 R265) -/
def Obligations.ClockLossesAreReported : Prop :=
  ∀ (s : State) (clk : Fin 2),
    (s.mainUp = true →
      Does .pllUnlock s (fun t => (∃ info, t.transit = s.transit ++ [⟨0x001, elemDevice, info⟩]) ∧ RegsBut [] s t)
      ∧ Does (.srefclkLoss clk) s (fun t => RegsBut [] s t ∧ (∃ l, t.transit = s.transit ++ l
          ∧ l.map (fun (r : Report) => (r.src, r.elem)) = ((List.range 40).filter (fun p =>
              (decide (p < 24) == decide (clk.val = 0)) && !(s.port p).losing)).map (fun p => (0x040 + p, elemId 0 p)))))
    ∧ (s.pd.phase ≠ .off → Does .xtal32Stop s (fun t => t = { s with xtalStopped := true }))

/-- When no recovery of a domain runs, the first of those whose faults have reached the Blotter starts, or, with none, the first
of those detected; a MACsec unit's and a lane's end at once, each other one is then the running one, and the rest still wait.
While one runs, none starts. A running recovery, a cell audit or a link re-initialisation beyond its bound is reported as
source 0x014 against its element, and no register changes. A parity error in an entry of tables 1 to 0xB is logged with table
and index in TBL_PAR_LOG, counted, and reported as source 0x150 plus the table; a VLAN, next-hop or NAT entry is then absent.
An uncorrectable error in a prefix list or a policer's parameter copy is reported as source 0x164 and changes no register;
other table numbers do nothing. That a detected fault's recovery may start before its report arrives is the model's choice
(log entry 16). Where the rules can be read in two ways or leave a point open, it takes the reading of log entries 5 to 16,
83 to 94, 135 to 144. (rests on: spec 01 R20; spec 13 R301; spec 08 R187) -/
def Obligations.RecoveriesRunOneByOneAndTablesAreScrubbed : Prop :=
  ∀ (s : State) (dom : Domain) (r : Recovery) (rest : List Recovery) (tid idx : Nat) (uncorr : Bool),
    let runs (r : Recovery) : Option Recovery := match r with | .macsec _ | .lane _ => none | _ => some r
    ((s.recov.of dom).running = none → (s.recov.of dom).waiting = r :: rest → s.recoverBlocked r = false →
      Does (.blockRecoveryStart dom) s (fun t => (t.recov.of dom).running = runs r ∧ (t.recov.of dom).waiting = rest))
    ∧ ((s.recov.of dom).running = none → (s.recov.of dom).waiting = [] → (s.recov.of dom).coming = r :: rest →
      Does (.blockRecoveryStart dom) s (fun t => (t.recov.of dom).running = runs r ∧ (t.recov.of dom).waiting = [] ∧ (t.recov.of dom).coming = rest))
    ∧ ((s.recov.of dom).running = some r → exec (.blockRecoveryStart dom) s = .next s)
    ∧ ((s.recov.of dom).running = some r → Does (.recoveryBoundExceeded (.block dom)) s (fun t =>
        (∃ info, t.transit = s.transit ++ [⟨0x014, r.elem, info⟩]) ∧ RegsBut [] s t))
    ∧ (s.mainUp = true → s.on F.QUE_STAT_AUDITING 0 = true → Does (.recoveryBoundExceeded .audit) s (fun t =>
        (∃ info, t.transit = s.transit ++ [⟨0x014, elemId 3 0, info⟩]) ∧ RegsBut [] s t))
    ∧ (s.mainUp = true → s.linkUp = false → Does (.recoveryBoundExceeded .ferrule) s (fun t =>
        (∃ info, t.transit = s.transit ++ [⟨0x014, elemDevice, info⟩]) ∧ RegsBut [] s t))
    ∧ (1 ≤ tid → tid ≤ 0xB → Does (.tableScrub tid idx false) s (fun t =>
        t.rd F.TBL_PAR_LOG_TABLE_ID 0 = tid ∧ t.rd F.TBL_PAR_LOG_INDEX 0 = idx % 2 ^ F.TBL_PAR_LOG_INDEX.width
        ∧ t.rd F.TBL_CNT_COUNT 15 = (s.rd F.TBL_CNT_COUNT 15 + 1) % 2 ^ F.TBL_CNT_COUNT.width ∧ t.rd F.TBL_STAT_PARITY_EVT 0 = 1
        ∧ (tid = 3 ∨ tid = 6 ∨ tid = 7 → t.rows = s.rows.erase (rowKey tid idx))
        ∧ t.transit = s.transit ++ [⟨0x150 + tid, elemId 11 tid, idx⟩]))
    ∧ (tid = 4 ∨ tid = 5 ∨ tid = 8 ∨ tid = 9 → Does (.tableScrub tid idx true) s (fun t =>
        t.transit = s.transit ++ [⟨0x164, elemId 11 tid, idx⟩] ∧ RegsBut [] s t))
    ∧ (tid = 0 ∨ 0xB < tid → exec (.tableScrub tid idx uncorr) s = .next s)

/-- With no apply or persist in progress, APPLY waits for a restructure in progress, and else checks the staged Scroll: a good
one is being applied, a bad one leaves its code in LAST_ERR with DONE. The commit, unless the epoch would be held back,
raises TBL_EPOCH by one, puts the Scroll in force and sets DONE; software writes held meanwhile take effect after it, and
with none held no other register changes after it. PERSIST without one in force is refused with 0x11, else it begins; its end
stores the record or leaves 0x0F. A command during either is refused with 0x0B. SCR_LOCK makes every RWL field keep its value
at a write. Where the rules can be read in two ways or leave a point open, it takes the reading of log entries 17 to 28.
(rests on: spec 02 R49; spec 02 R50; spec 02 R51; spec 02 R52; spec 02 R56; spec 02 R447) -/
def Obligations.SoftScrollsApplyPersistAndLock : Prop :=
  ∀ (s : State) (ok : Bool) (bs : List Byte) (p : Nat × Nat),
    let busy := s.on F.SCR_STAT_APPLYING 0 || s.on F.SCR_STAT_PERSISTING 0
    (busy = false → Does .scrollApply s (fun t =>
        let u := (s.wr F.SCR_STAT_LAST_ERR 0 0).wr F.SCR_STAT_APPLYING 0 1
        if s.restructuring = true then t.scr.applyWait = true ∧ t.rd F.SCR_STAT_APPLYING 0 = 1
        else match u.applyErr u.staged with
          | none => t.scr.applying = some s.staged ∧ t.rd F.SCR_STAT_APPLYING 0 = 1 ∧ t.rd F.SCR_STAT_LAST_ERR 0 = 0
          | some e => t.rd F.SCR_STAT_APPLYING 0 = 0 ∧ t.rd F.SCR_STAT_LAST_ERR 0 = e.1 % 2 ^ F.SCR_STAT_LAST_ERR.width ∧ t.rd F.SCR_STAT_DONE 0 = 1))
    ∧ (s.scr.applying = some bs → s.bumpBlocked = false → Does .softScrollCommit s (fun t => t.rd F.SCR_STAT_DONE 0 = 1 ∧ ∃ u : State,
        u.rd F.TBL_EPOCH_EPOCH 0 = (s.rd F.TBL_EPOCH_EPOCH 0 + 1) % 2 ^ 32 ∧ u.rd F.SCR_STAT_SOFT_ACTIVE 0 = 1 ∧ u.rd F.SCR_STAT_APPLYING 0 = 0
        ∧ u.scr.applying = none ∧ u.scr.inForce = some (bs.take (fieldAt bs 16 4)) ∧ u.scr.held = s.scr.held
        ∧ t = u.releaseHeld.scrDone.startWaiting ∧ (s.scr.held = [] → RegsBut [F.SCR_STAT_DONE] u t)))
    ∧ (busy = false → Does .scrollPersist s (fun t =>
        if s.scr.inForce.isNone = true then t.rd F.SCR_STAT_LAST_ERR 0 = 0x11 ∧ t.rd F.SCR_STAT_DONE 0 = 1 ∧ t.flash = s.flash
        else t.rd F.SCR_STAT_PERSISTING 0 = 1 ∧ t.rd F.SCR_STAT_LAST_ERR 0 = 0 ∧ t.scr.persist = some s.persistPlace))
    ∧ (s.scr.persist = some p → s.scr.inForce = some bs → Does (.persistDone ok) s (fun t =>
        t.rd F.SCR_STAT_PERSISTING 0 = 0 ∧ t.rd F.SCR_STAT_DONE 0 = 1 ∧ t.scr.persist = none
        ∧ if ok = true then t.activeBank.soft.find p.1 = some ⟨p.2, bs⟩ else t.rd F.SCR_STAT_LAST_ERR 0 = 0x0F ∧ t.flash = s.flash))
    ∧ (busy = true → exec .scrollApply s = .next (s.wr F.SCR_STAT_LAST_ERR 0 0x0B) ∧ exec .scrollPersist s = .next (s.wr F.SCR_STAT_LAST_ERR 0 0x0B))
    ∧ Does .scrollLock s (fun t => t = s.wr F.SCR_LOCK_LOCK 0 1 ∧ t.locked = true ∧ ∀ old v, FldTy.rwl.written t.locked old v = old)

/-- SCR_RESTRUCT with GO is refused with 0x0B while one is in progress, 0x0C while locked, 0x0D for a variant that does not
exist, 0x10 outside RUN and TRIM, and nothing else changes; otherwise GO and BUSY are set, GROUP and VARIANT stored, and
LAST_ERR is 0. The end of ingress and egress leaves every Ethernet port of the group without link and every lane of the lane
group disabled; the load records the variant in SCR_VARIANT and gives each Ethernet port of the group the mode of the
variant's section; the enabling of the ports clears GO and BUSY and sets DONE, and then an apply that waited begins: it is
waiting no longer, and when its checks end it at once, the software writes held for it take effect. Where the rules can be
read in two ways or leave a point open, it takes the reading of log entries 17 to 28. (rests on: spec 02 R53; spec 02 R54) -/
def Obligations.RestructureRunsItsSteps : Prop :=
  ∀ (s : State) (g : BitVec 2) (v : BitVec 3) (gn vn : Nat),
    Does (.restructure g v) s (fun t =>
      if s.restructuring = true then t = s.wr F.SCR_STAT_LAST_ERR 0 0x0B
      else if s.locked = true then t = s.wr F.SCR_STAT_LAST_ERR 0 0x0C
      else if variantExists s.scr.base g.toNat v.toNat = false then t = s.wr F.SCR_STAT_LAST_ERR 0 0x0D
      else if 2 ≤ s.rd F.PWR_STAT_STATE 0 ∨ s.phase ≠ .running then t = s.wr F.SCR_STAT_LAST_ERR 0 0x10
      else t.rd F.SCR_RESTRUCT_GO 0 = 1 ∧ t.rd F.SCR_STAT_RESTRUCT_BUSY 0 = 1 ∧ t.rd F.SCR_STAT_LAST_ERR 0 = 0
        ∧ t.rd F.SCR_RESTRUCT_GROUP 0 = g.toNat ∧ t.rd F.SCR_RESTRUCT_VARIANT 0 = v.toNat)
    ∧ (s.runningRestructure = some (gn, vn) → s.scr.stage = 0 → Does .restructStopped s (fun t => t.scr.stage = 1
        ∧ ∀ p ∈ groupPorts gn, (p < 40 → t.rd F.ETH_STAT_LINK p = 0)
          ∧ (40 ≤ p → (s.pers (p - 40) = 1 → t.rd F.LSL_CAN_CTL_EN (p - 40) = 0) ∧ (s.pers (p - 40) = 2 → t.rd F.LSL_T1S_CTL_EN (p - 40) = 0)
            ∧ (s.pers (p - 40) = 3 → t.rd F.LSL_MVB_CTL_EN (p - 40) = 0))))
    ∧ (s.runningRestructure = some (gn, vn) → s.scr.stage = 1 → Does .restructLoaded s (fun t => t.scr.stage = 2
        ∧ t.rd (varFld gn) 0 = vn % 2 ^ (varFld gn).width
        ∧ ∀ x k, gn < 3 → k < groupSize gn → sectFind s.scr.base 1 gn vn = some x →
            t.rd F.ETH_MODE_MODE (groupBase gn + k) = bodyByte (x.body.drop (8 * k)) 1 % 2 ^ F.ETH_MODE_MODE.width))
    ∧ (s.runningRestructure = some (gn, vn) → s.scr.stage = 2 → s.scr.applyWait = false → Does .restructPortsEnabled s (fun t =>
        t.rd F.SCR_RESTRUCT_GO 0 = 0 ∧ t.rd F.SCR_STAT_RESTRUCT_BUSY 0 = 0 ∧ t.rd F.SCR_STAT_DONE 0 = 1))
    ∧ (s.runningRestructure = some (gn, vn) → s.scr.stage = 2 → s.scr.applyWait = true → Does .restructPortsEnabled s (fun t => ∃ u : State,
        u.rd F.SCR_RESTRUCT_GO 0 = 0 ∧ u.rd F.SCR_STAT_RESTRUCT_BUSY 0 = 0 ∧ u.rd F.SCR_STAT_DONE 0 = 1 ∧ u.scr.applyWait = false
        ∧ t = if u.on F.SCR_STAT_APPLYING 0 = true then u else u.releaseHeld))

/-- VBAT rising puts the power die in power-on reset with every channel OFF and keeps no register that is not non-volatile. The
end of that reset starts the AOC and records wake code 0xF, the first wake with VALID set and time and index. INH_OUT rises
after it, or for a wake that waits while the main die has no supply and no pause is due; a TERMINAL fault keeps it from
rising. Rails in their windows release the main die with the captured cause; rails out of them lower INH_OUT, write source
0x006 to the power-die log and start the one retry, and the second time set cause RAIL, so that the pair shows fault; the
retry raises INH_OUT again. Where the rules can be read in two ways or leave a point open, it takes the reading of log
entries 29 to 38, 205 to 214, 215 to 223, 224 to 234. (rests on: spec 03 R57; spec 03 R58; spec 03 R63; spec 19 R393; spec 20
R404; spec 21 R415; spec 21 R417) -/
def Obligations.PowerDieAndRailsStart : Prop :=
  ∀ (s : State) (low : Bool),
    Does .vbatPowerOn s (fun t => t.pd.phase = .por ∧ t.phase = .off ∧ (∀ n, t.lcState n = lcOff)
      ∧ ∀ f i, t.rd f i = if nvBase ≤ f.id then s.rd f i else f.rst i)
    ∧ (s.stopped = false → s.pd.phase = .por → Does .powerDiePorEnd s (fun t => t.pd = { s.pd with phase := .aocStart }
        ∧ t.bit F.AOC_WAKE_PEND_CODE 0 14 = true
        ∧ (s.on F.AOC_WAKE_SRC_VALID 0 = false → t.rd F.AOC_WAKE_SRC_VALID 0 = 1 ∧ t.rd F.AOC_WAKE_SRC_CODE 0 = 15 ∧ t.rd F.AOC_WAKE_SRC_INDEX 0 = 0
          ∧ t.rd F.AOC_WAKE_SRC_SEC 0 = s.rd F.AOC_RTC_SEC 0 % 2 ^ F.AOC_WAKE_SRC_SEC.width)
        ∧ RegsBut [F.AOC_WAKE_PEND_CODE, F.AOC_WAKE_SRC_VALID, F.AOC_WAKE_SRC_CODE, F.AOC_WAKE_SRC_INDEX, F.AOC_WAKE_SRC_SEC, F.AOC_WAKE_SRC_SUB, F.AOC_WAKE_SRC_MORE] s t))
    ∧ (s.stopped = true → s.pd.phase = .por → Does .powerDiePorEnd s (fun t => t = { s with pd := { s.pd with phase := .aocStart } }))
    ∧ (s.stopped = false → s.pd.phase = .aocStart ∨ (s.pd.phase = .run ∧ s.pd.inh = false ∧ s.pd.wakeHeld = true ∧ s.pd.holdOff = false ∧ s.pd.sagWait = false ∧ s.pd.retryWait = false) →
        Does .inhOutAssert s (fun t => t.pd.inh = true ∧ t.pd.phase = .run ∧ t.pd.wakeHeld = false ∧ RegsBut [] s t))
    ∧ (s.stopped = true → exec .inhOutAssert s = .next s)
    ∧ (s.pd.phase = .run → s.pd.inh = true → s.phase = .off →
        Does (.railsInWindow low) s (fun t => t.phase = .released ∧ t.maintLow = low
          ∧ t.rd F.GLB_RST_CAUSE_CAUSE 0 = s.pd.cause % 2 ^ F.GLB_RST_CAUSE_CAUSE.width
          ∧ RegsBut [F.GLB_RST_CAUSE_CAUSE, F.GLB_RST_CAUSE_BLT_SOURCE, F.BLT_FLT_STAT_RECOVERY] s t)
        ∧ Does .railWindowTimeout s (fun t => t.pd.inh = false ∧ t.rd F.BLT_PLOG_SOURCE (s.rd F.BLT_PLOG_HEAD_HEAD 0) = 0x006
          ∧ if s.pd.railFails = 0 then t.pd.retryWait = true ∧ t.pd.railFails = 1 ∧ t.rd F.BLT_FLT_STAT_RAIL 0 = s.rd F.BLT_FLT_STAT_RAIL 0
            else t.pd.retryWait = false ∧ t.rd F.BLT_FLT_STAT_RAIL 0 = 1 ∧ t.pairFault = true))
    ∧ (s.pd.retryWait = true → Does .railRetry s (fun t => t.pd.inh = true ∧ t.pd.retryWait = false ∧ RegsBut [] s t))

/-- The root PLL's lock starts the boot ROM, GLB_MTIME at 0, T0 at the RTC's seconds, S0 at address 0 in M mode. The second stage
starts with STAGE 1 and CONFIRM_PENDING by the record in force when that record, its manifest and its second stage hold; when
a case for recovery mode holds, recovery mode is entered and the pair is at fault; when there is no record or one of them
fails, the start fails with code 7. Memory that trains at 8,533, 7,500 or 6,400 MT/s reaches STAGE 2 with the first of these
rates and the memory found; when no rate trains the start fails with 8. The firmware checks reach STAGE 4 with the channels
adopted in their states and the link up, or fail with 9 or 10. Unsealing reaches STAGE 5. A Scroll and Nib image that pass
their checks and signature reach STAGE 7 and RUN with GLB_RST_COUNT and cause RAIL 0; any others fail with 12. A failed start
is in recovery mode with FAIL_CODE and the pair at fault, and the TOMBSTONE record names code, bank, version and time, unless
one is there already. Where the rules can be read in two ways or leave a point open, it takes the reading of log entries 5 to
16, 17 to 28, 29 to 38, 235 to 246, 247 to 249. (rests on: spec 03 R59; spec 03 R61; spec 03 R62; spec 03 R66; spec 03 R67;
spec 03 R69; spec 02 R46; spec 22 R426; spec 22 R429; spec 23 R441; spec 01 R22) -/
def Obligations.MainDieStartStages : Prop :=
  let failed (u : State) (c : Nat) (t : State) : Prop := t.phase = .recovery ∧ t.rd F.GLB_BOOT_STAT_FAIL_CODE 0 = c ∧ t.pairFault = true
    ∧ t.flash.tomb = if u.tombstone.isSome = true then u.flash.tomb
        else Tomb.bytes ⟨c, u.activeNo, u.rd F.UPD_ACTIVE_VER_VALUE 0, u.rd F.AOC_RTC_SEC 0⟩
  ∀ (s : State) (ok : Bool) (d : DramTrain),
    (s.phase = .released → Does .rootPllLock s (fun t => t.phase = .rom ∧ t.mtime = 0 ∧ timeSec (t.ruler 0).time = s.rd F.AOC_RTC_SEC 0 % 2 ^ 48
        ∧ timeNs (t.ruler 0).time = 0 ∧ t.cores.find 0 = some ⟨true, 0, .m, 0⟩))
    ∧ (s.phase = .rom → let u := s.ferruleInit.showActive
        (s.recoveryCase = true → Does (.secondStageStart ok) s (fun t => t.phase = .recovery ∧ t.pairFault = true))
        ∧ (s.recoveryCase = false → u.recordInForce = none → Does (.secondStageStart ok) s (failed u 7))
        ∧ (s.recoveryCase = false → ∀ k r, u.recordInForce = some (k, r) →
            let b := u.bank r.bank
            let good := ok && decide (fit 48 (sha384 b.man) = r.digest) && decide (u.manErr b.man none = 0) && b.partGood 1
            (good = true → Does (.secondStageStart ok) s (fun t => t.phase = .starting ∧ t.rd F.GLB_BOOT_STAT_STAGE 0 = 1
              ∧ t.rd F.UPD_STAT_CONFIRM_PENDING 0 = b2n (!r.confirmed)))
            ∧ (good = false → Does (.secondStageStart ok) s (failed u 7))))
    ∧ (s.atStage 1 = true → ((d.at8533 || d.at7500 || d.at6400) = true → Does (.dramTrained d) s (fun t => t.rd F.RSV_STAT_TRAINED 0 = 1 ∧ t.rd F.RSV_STAT_FOUND_MIB 0 = d.mib.toNat
          ∧ t.dramRate = (if d.at8533 then 8533 else if d.at7500 then 7500 else 6400) ∧ t.rd F.GLB_BOOT_STAT_STAGE 0 = 2))
        ∧ ((d.at8533 || d.at7500 || d.at6400) = false → Does (.dramTrained d) s (failed s 8)))
    ∧ (s.atStage 2 = true → let b := s.bank s.activeNo
        let nine := (ok && b.partGood 2 && b.partGood 3 && b.partGood 6) = false
        let ten := (b.partGood 5 && pdConfigOk (b.part 5)) = false
        (nine → Does (.powerDieConfigWrite ok) s (failed s 9))
        ∧ (¬nine → ten → Does (.powerDieConfigWrite ok) s (failed s 10))
        ∧ (¬nine → ¬ten → Does (.powerDieConfigWrite ok) s (fun t => t.rd F.GLB_BOOT_STAT_STAGE 0 = 4 ∧ t.rd F.GLB_BOOT_STAT_ADOPTED 0 = 1
            ∧ t.linkUp = true ∧ ∀ n, t.lcState n = s.lcState n)))
    ∧ (s.atStage 4 = true → Does .unseal s (fun t => t.rd F.GLB_BOOT_STAT_STAGE 0 = 5))
    ∧ (s.atStage 5 = true →
        let b := s.bank s.activeNo
        let bs := b.part 4
        let good := ok = true ∧ b.partGood 4 = true ∧ nibImageOk (b.part 3) = true
          ∧ scrollErr false ⟨s.rd F.RSV_STAT_FOUND_MIB 0, fieldAt (b.part 3) 4 2, []⟩ bs = none ∧ s.sigErr bs (fieldAt bs 80 4) = none
        (good → Does (.scrollLoad ok) s (fun t => t.phase = .running ∧ t.rd F.GLB_BOOT_STAT_STAGE 0 = 7 ∧ t.rd F.GLB_RST_COUNT_COUNT 0 = 0
          ∧ t.rd F.BLT_FLT_STAT_RAIL 0 = 0))
        ∧ (¬good → Does (.scrollLoad ok) s (failed s 12)))

/-- A keyed GLB_RST write while the main die runs, MAIN or RECOVERY, and SYS_RST_N low while it has supply hold the main die in
reset with cause 4, 5 or 3. Every main-die register field reads its reset value, every kept, power-die and non-volatile one
what it read before, but GLB_RST_CAUSE and cause FORCE; the load channels, the power-die configuration, the key records, the
host's memory and the tamper flag are as before. A write with another key does nothing. The release starts the main die again
and changes no register but cause RECOVERY; MAINT_N low counts at it only where it was low at the power-on release or the
unit was in recovery mode (log entry 30). Where the rules can be read in two ways or leave a point open, it takes the reading
of log entries 29 to 38, 224 to 234. (rests on: spec 03 R63; spec 03 R64; spec 03 R69; spec 21 R417) -/
def Obligations.MainDieResetsKeepWhatTheSpecKeeps : Prop :=
  let cleared (s : State) (cause : Nat) (t : State) : Prop :=
    t.phase = .held ∧ t.ferrule.up = false ∧ t.rd F.GLB_RST_CAUSE_CAUSE 0 = cause ∧ t.loads = s.loads ∧ t.pdConfig = s.pdConfig
    ∧ t.hostMem = s.hostMem ∧ t.tamperFlag = s.tamperFlag ∧ t.kucHigh = s.kucHigh ∧ t.keyFlash = s.keyFlash
    ∧ ∀ f i, f.id ∉ [F.GLB_RST_CAUSE_CAUSE.id, F.GLB_RST_CAUSE_BLT_SOURCE.id, F.BLT_FLT_STAT_FORCE.id] →
        t.rd f i = if keptBase ≤ f.id then s.rd f i else f.rst i
  ∀ (s : State) (key : BitVec 8) (low : Bool),
    (s.mainRuns = true → Does (.glbRstMain 0xA5) s (cleared s 4) ∧ Does (.glbRstRecovery 0xA5) s (cleared s 5))
    ∧ (key ≠ 0xA5 → exec (.glbRstMain key) s = .next s ∧ exec (.glbRstRecovery key) s = .next s)
    ∧ (s.phase ≠ .off → Does .sysRstNLow s (cleared s 3))
    ∧ (s.phase = .held → Does (.mainDieResetRelease low) s (fun t => t.phase = .released
        ∧ t.maintLow = (low && (s.maintLow || s.on F.BLT_FLT_STAT_RECOVERY 0)) ∧ RegsBut [F.BLT_FLT_STAT_RECOVERY] s t))

/-- A write of GLB_BLK_RST stores its bits; an engine whose bit rises is in RESET, and S1 held in reset runs no more and has left
any lockstep stop. S1_RUN starts S1 at GLB_S1_BOOT in M mode, unless it is held in reset or runs already. A PCIe reset takes
the link down, clears Bus Master Enable, the MSI-X table and the endpoint's configuration, and leaves the load channels
alone. A link that trains in any state of the main die in which software runs is up with its speed and width; Bus Master
Enable, payload and read request sizes and BARs are as the host writes them, in D0; a link that is up takes the host's
configuration alone. Where the rules can be read in two ways or leave a point open, it takes the reading of log entries 29 to
38, 106 to 117, 170 to 179. (rests on: spec 03 R63; spec 03 R72; spec 16 R339; spec 16 R340; spec 16 R352; spec 10 R243) -/
def Obligations.BlockResetsAndPcie : Prop :=
  ∀ (s : State) (nib : BitVec 10) (s1 : Bool) (n : Fin 10) (speed : Fin 4) (lanes : Fin 3) (cfg : HostCfg),
    Does (.glbBlkRstWrite nib s1) s (fun t => t.rd F.GLB_BLK_RST_NIB 0 = nib.toNat ∧ t.rd F.GLB_BLK_RST_S1 0 = b2n s1
      ∧ (nib.toNat.testBit n = true → (s.rd F.GLB_BLK_RST_NIB 0).testBit n = false → t.rd F.NIB_STAT_STATE n = 0)
      ∧ (s1 = true → t.rd F.GLB_SCRIBE_CTL_S1_RUN 0 = 0 ∧ t.coreStop.testBit 1 = false))
    ∧ (s.on F.GLB_BLK_RST_S1 0 = false → s.on F.GLB_SCRIBE_CTL_S1_RUN 0 = false → Does .s1Run s (fun t => t.rd F.GLB_SCRIBE_CTL_S1_RUN 0 = 1
        ∧ t.cores.find 1 = some ⟨true, s.rd F.GLB_S1_BOOT_ADDR 0, .m, 0⟩ ∧ RegsBut [F.GLB_SCRIBE_CTL_S1_RUN] s t))
    ∧ (s.on F.GLB_BLK_RST_S1 0 = true ∨ s.on F.GLB_SCRIBE_CTL_S1_RUN 0 = true → exec .s1Run s = .next s)
    ∧ Does .pcieReset s (fun t => t.pcieUp = false ∧ t.rd F.DMA_PCIE_STAT_LINK_UP 0 = 0 ∧ t.rd F.DMA_PCIE_STAT_BME 0 = 0 ∧ t.msix = ⟨[], [], []⟩
        ∧ t.pcie = PcieCfg.init ∧ t.phase = s.phase ∧ t.loads = s.loads)
    ∧ (s.phase = .running ∨ s.phase = .starting ∨ s.phase = .recovery → Does (.pcieLinkUp speed lanes cfg) s (fun t => t.pcieUp = true
        ∧ t.rd F.DMA_PCIE_STAT_DSTATE 0 = 0 ∧ t.rd F.DMA_PCIE_STAT_BME 0 = b2n cfg.bme ∧ t.pcie.mps = cfg.mps.val ∧ t.pcie.mrrs = cfg.mrrs.val
        ∧ t.pcie.bar0 = cfg.bar0.toNat ∧ t.pcie.bar2 = cfg.bar2.toNat
        ∧ (s.pcieUp = false → t.rd F.DMA_PCIE_STAT_LINK_UP 0 = 1 ∧ t.rd F.DMA_PCIE_STAT_SPEED 0 = speed.val ∧ t.rd F.DMA_PCIE_STAT_WIDTH 0 = 4 / 2 ^ lanes.val)
        ∧ (s.pcieUp = true → RegsBut [F.DMA_PCIE_STAT_DSTATE, F.DMA_PCIE_STAT_BME] s t)))

/-- A claim by an initiator that is no halted core returns the pending source of highest priority, lowest number first, and puts
it in service; a completion takes it out. The machine timer interrupt of a core is pending exactly while GLB_MTIME has
reached its compare value. A kick with 0x5A5A while the watchdog counts reloads its count from PERIOD_MS, at least 1 and at
most 10,000 ms, and takes back the first expiry; while it does not count, or with any other value, it does nothing. At zero
the count reloads: the first time source 30 is raised with report 0x008, the second time report 0x009. A lockstep mismatch
stops the core and is report 0x00A or 0x00B; cache errors are reports 0x00C to 0x011. None changes a register. Where the
rules can be read in two ways or leave a point open, it takes the reading of log entries 29 to 38, 224 to 234. (rests on:
spec 03 R71; spec 03 R74; spec 03 R75; spec 03 R76; spec 21 R409) -/
def Obligations.InterruptsTimerWatchdogAndCores : Prop :=
  ∀ (s : State) (ini : Initiator) (tg : Fin 4) (n : BitVec 8) (c : Fin 2) (v : Word) (k : CacheErr) (e : Nat),
    let loaded := Wdog.runs (s.now + max 1 (min 10000 (s.rd F.GLB_WDOG_CFG_PERIOD_MS 0)) * ticksMs)
    (s.coreHalted ini = false → Does (.irqClaim ini tg) s (fun t => t.answer = some ⟨ini, .done, s.irqBest tg⟩
        ∧ t.inService = s.inService ++ (if s.irqBest tg = 0 then [] else [s.irqBest tg]) ∧ RegsBut [] s t))
    ∧ (s.coreHalted ini = true → exec (.irqClaim ini tg) s = .next s)
    ∧ (s.irqBest tg ≠ 0 → s.irqFor tg (s.irqBest tg) = true
        ∧ ∀ m, m < 256 → s.irqFor tg m = true → s.rd F.GLB_IRQ_CFG_PRIO m ≤ s.rd F.GLB_IRQ_CFG_PRIO (s.irqBest tg)
          ∧ (m < s.irqBest tg → s.rd F.GLB_IRQ_CFG_PRIO m < s.rd F.GLB_IRQ_CFG_PRIO (s.irqBest tg)))
    ∧ Does (.irqComplete n) s (fun t => t = { s with inService := s.inService.filter (fun x => decide (x ≠ n.toNat)) })
    ∧ Does (.mtimeCompare c) s (fun t => t = s ∧ (t.mtip c = true ↔ t.rd F.GLB_MTIMECMP_VALUE c ≤ t.mtimeNow))
    ∧ (s.wdog = .runs e → Does (.wdogKick 0x5A5A) s (fun t => t = { s with wdogWarned := false, wdog := loaded }))
    ∧ ((∀ e, s.wdog ≠ .runs e) ∨ v ≠ 0x5A5A → exec (.wdogKick v) s = .next s)
    ∧ (s.wdog = .runs e → e ≤ s.now → Does .wdogExpiry s (fun t => t.wdog = loaded ∧ t.irqRaised 30 = true ∧ RegsBut [] s t
        ∧ ∃ info, t.transit = s.transit ++ [⟨if s.wdogWarned then 0x009 else 0x008, elemDevice, info⟩]))
    ∧ Does (.lockstepMismatch c) s (fun t => t.coreStop = setBitN s.coreStop c ∧ RegsBut [] s t
        ∧ ∃ info, t.transit = s.transit ++ [⟨0x00A + c, elemId 7 c, info⟩])
    ∧ Does (.cacheError c k) s (fun t => RegsBut [] s t ∧ ∃ info, t.transit = s.transit ++
        [⟨(match k with | .parity => 0x00C + c | .corrected => 0x00E + c | .uncorrectable => 0x010 + c), elemId 7 c, info⟩])

/-- A loss of signal or lock starts the link-down delay and is reported; LINK itself stays. Link down then clears LINK, RATE and
PEER, sets LINK_CHG and counts; in RETRAIN it does nothing. A link that qualifies, of a port in use that is not restructured
(an SGMII port whose last in-band word reports link at the Scroll's speed, full duplex), and that in DOZE is watched, is up
at its mode's rate with LINK_CHG and its eye recorded, before any wake that LINK_WAKE brings about; in DOZE that wake is
recorded. In RETRAIN the link comes up at the new rate with TAPER_EVT. An SGMII word sets INBAND_MISMATCH by speed and
duplex, is kept, and starts the link-down delay of a link that it does not support; other modes ignore it. READAPT drops the
link. A SerDes PLL loss is reported and its lane's recovery asked for. CNT_CLR zeroes the port's counters and no other
register. Where the rules can be read in two ways or leave a point open, it takes the reading of log entries 39 to 50. (rests
on: spec 04 R79; spec 04 R80; spec 04 R81; spec 04 R84; spec 04 R85; spec 04 R98; spec 04 R99) -/
def Obligations.EthernetLinksComeAndGo : Prop :=
  ∀ (s : State) (p : Fin 40) (sg lk full : Bool) (w h : BitVec 8) (speed : BitVec 2),
    let up := s.modeUp p && !s.portRestructuring p && !(s.dozing && !s.on F.ETH_WAKE_CFG_EN p)
    let retrain := decide (p.val < 8) && decide (s.rd F.ETH_TAPER_STAT_STATE p = 4)
    let wakes := s.on F.ETH_WAKE_CFG_EN p && s.on F.ETH_WAKE_CFG_LINK_WAKE p
    Does (.pcsSignalLoss p sg lk) s (fun t => (t.port p).losing = true ∧ t.rd F.ETH_STAT_LINK p = s.rd F.ETH_STAT_LINK p
        ∧ ((lk || sg) = true → t.rd F.ETH_STAT_PCS_LOCK p = 0) ∧ (sg = true → t.rd F.ETH_STAT_SIGNAL p = 0)
        ∧ ∃ info, t.transit = s.transit ++ [⟨0x040 + p, elemId 0 p, info⟩])
    ∧ (s.on F.ETH_STAT_LINK p = true → s.rd F.ETH_TAPER_STAT_STATE p ≠ 4 → Does (.linkDown p) s (fun t => t.rd F.ETH_STAT_LINK p = 0
        ∧ t.rd F.ETH_STAT_RATE p = 0 ∧ t.rd F.ETH_STAT_PEER p = 0
        ∧ t.rd F.ETH_STAT_LINK_CHG p = 1 ∧ t.rd F.ETH_CNT_COUNT (29 * p + 25) = (s.rd F.ETH_CNT_COUNT (29 * p + 25) + 1) % 2 ^ F.ETH_CNT_COUNT.width))
    ∧ (s.rd F.ETH_TAPER_STAT_STATE p = 4 → exec (.linkDown p) s = .next s)
    ∧ (up = true → retrain = false → s.on F.ETH_STAT_LINK p = false → Does (.linkUp p w h) s (fun t =>
        (s.dozing = true → wakes = true → s.stopped = false → t.rd F.AOC_WAKE_SRC_VALID 0 = 1)
        ∧ ∃ u : State, u.rd F.ETH_STAT_LINK p = 1 ∧ u.rd F.ETH_STAT_RATE p = s.modeRate p % 8 ∧ u.rd F.ETH_STAT_LINK_CHG p = 1
          ∧ u.rd F.ETH_SERDES_RX_EYE_W p = w.toNat ∧ u.rd F.ETH_SERDES_RX_EYE_H p = h.toNat
          ∧ t = if wakes = true then (if s.dozing = true then u.aocWake 4 p else u.memberWake p 4 p) else u))
    ∧ (up = true → retrain = true → Does (.linkUp p w h) s (fun t => t.rd F.ETH_STAT_RATE p = (if (s.port p).newRate = 1 then 2 else 1)
        ∧ t.rd F.ETH_STAT_RETRAIN p = 0 ∧ t.rd F.ETH_STAT_TAPER_EVT p = 1))
    ∧ (s.rd F.ETH_MODE_MODE p = 6 → Does (.inbandStatusWord p lk speed full) s (fun t =>
        let same := decide (speed.toNat = s.rd F.ETH_MODE_SGMII_SPEED p) && full
        t.rd F.ETH_STAT_INBAND_MISMATCH p = b2n (!same) ∧ (t.port p).inband = some (lk, speed.toNat, full)
        ∧ (t.port p).losing = ((s.port p).losing || (!(lk && same) && s.on F.ETH_STAT_LINK p))))
    ∧ (s.rd F.ETH_MODE_MODE p ≠ 6 → exec (.inbandStatusWord p lk speed full) s = .next s)
    ∧ Does (.serdesReadapt p) s (fun t => t.rd F.ETH_SERDES_RX_ADAPT_DONE p = 0 ∧ t.rd F.ETH_STAT_LINK p = 0)
    ∧ Does (.serdesPllLockLoss p) s (fun t => t.rd F.ETH_STAT_PCS_LOCK p = 0 ∧ (∃ info, t.transit = s.transit ++ [⟨0x068 + p, elemId 0 p, info⟩])
        ∧ (t.recov.forwarding.running = some (.serdes p) ∨ .serdes p.val ∈ t.recov.forwarding.waiting ∨ .serdes p.val ∈ t.recov.forwarding.coming))
    ∧ Does (.ethCntClr p) s (fun t => (∀ k, k < 29 → t.rd F.ETH_CNT_COUNT (29 * p + k) = 0)
        ∧ (∀ n, n / 29 ≠ p.val → t.rd F.ETH_CNT_COUNT n = s.rd F.ETH_CNT_COUNT n) ∧ RegsBut [F.ETH_CNT_COUNT] s t)

/-- On a port that does not sleep a PAUSE or PFC frame counts; in its own mode with RX_EN (a PAUSE addressed to the port or the
PAUSE address, a PFC class that it enables and the port takes part in) it names classes and times that wait to take effect,
and a time of 0 resumes at once; on one that sleeps it counts RX_DOZE_DISCARD alone. What takes effect pauses every class
named that is not stormed; expiry resumes and changes no other field. While the count stays above XON the PAUSE frame, or the
PFC frame of the classes in XOFF, is repeated and counted. A class paused for STORM_MS is stormed, reported and counted. An
idle access port with empty queues enters LPI and counts; a waiting frame ends it; LPI received on an access port is shown
and its entries counted, on a trunk port it does nothing. Where the rules can be read in two ways or leave a point open, it
takes the reading of log entries 39 to 50. (rests on: spec 04 R86; spec 04 R87; spec 04 R88; spec 04 R89; spec 04 R90) -/
def Obligations.PauseAndLowPowerIdle : Prop :=
  ∀ (s : State) (p : Fin 40) (da : BitVec 48) (q : BitVec 16) (en : BitVec 8) (times : List (BitVec 16)) (c : Fin 8) (r : PauseReq) (rest : List PauseReq) (on : Bool),
    let mine := decide (da.toNat = 0x0180C2000001) || decide (da.toNat = s.rd F.ETH_MAC_ADDR_ADDR p)
    let one (k : Nat) (t : State) : Prop := t.rd F.ETH_CNT_COUNT (29 * p + k) = (s.rd F.ETH_CNT_COUNT (29 * p + k) + 1) % 2 ^ F.ETH_CNT_COUNT.width
    (s.portLive p = true → Does (.pauseFrameRx p da q) s (fun t => one 8 t ∧
      ((s.on F.ETH_FC_CFG_RX_EN p && decide (s.rd F.ETH_FC_CFG_MODE p = 1) && mine) = true →
        if q.toNat = 0 then t.bit F.ETH_FC_STORM_PAUSED p c = false
        else (t.port p).pend.getLast? = some ((List.range 8).map (fun k => (k, q.toNat))))))
    ∧ (s.portLive p = true → times.length = 8 → Does (.pfcFrameRx p en times) s (fun t => one 9 t ∧
      ((s.on F.ETH_FC_CFG_RX_EN p && decide (s.rd F.ETH_FC_CFG_MODE p = 2) && en.toNat.testBit c && s.bit F.ETH_FC_CFG_PFC_CLASSES p c) = true →
        if (times.getD c 0).toNat = 0 then t.bit F.ETH_FC_STORM_PAUSED p c = false
        else ∃ l, (t.port p).pend.getLast? = some l ∧ (c.val, (times.getD c 0).toNat) ∈ l)))
    ∧ (s.portLive p = false → s.on F.ETH_STAT_LINK p = true →
        Does (.pauseFrameRx p da q) s (fun t => one 15 t ∧ RegsBut [F.ETH_CNT_COUNT] s t)
        ∧ Does (.pfcFrameRx p en times) s (fun t => one 15 t ∧ RegsBut [F.ETH_CNT_COUNT] s t))
    ∧ ((s.port p).pend = r :: rest → Does (.pauseTakesEffect p) s (fun t => (t.port p).pend = rest ∧
        ∀ x ∈ r, x.1 < 8 → s.bit F.ETH_FC_STORM_STORMED p x.1 = false → t.bit F.ETH_FC_STORM_PAUSED p x.1 = true))
    ∧ Does (.pauseTimerExpiry p c) s (fun t => t.bit F.ETH_FC_STORM_PAUSED p c = false ∧ RegsBut [F.ETH_FC_STORM_PAUSED] s t)
    ∧ (s.fcSends p = true → (s.port p).xoff ≠ 0 → s.rd F.ETH_FC_CFG_MODE p = 1 → s.rd F.ETH_FC_THR_XON_CELLS p < s.heldCells p (fun _ => true) →
        Does (.pauseRepeat p) s (fun t => one 21 t ∧ t.lastTx.get [] p = ctrlFrame (s.rd F.ETH_MAC_ADDR_ADDR p)
          (beBytes 2 0x0001 ++ beBytes 2 (s.rd F.ETH_FC_CFG_PAUSE_QUANTA p)) ∧ RegsBut [F.ETH_CNT_COUNT] s t))
    ∧ (s.fcSends p = true → (s.port p).xoff ≠ 0 → s.rd F.ETH_FC_CFG_MODE p = 2 →
        s.fcMask p (fun k n => decide (s.rd F.ETH_FC_THR_XON_CELLS p < n) && (s.port p).xoff.testBit k) ≠ 0 →
        Does (.pauseRepeat p) s (fun t => one 22 t ∧ RegsBut [F.ETH_CNT_COUNT] s t))
    ∧ (s.on F.ETH_FC_STORM_STORM_MS p = true → s.bit F.ETH_FC_STORM_PAUSED p c = true → s.bit F.ETH_FC_STORM_STORMED p c = false →
        Does (.pauseStorm p c) s (fun t => t.bit F.ETH_FC_STORM_STORMED p c = true ∧ t.rd F.ETH_STAT_STORM_EVT p = 1 ∧ one 28 t
          ∧ ∃ info, t.transit = s.transit ++ [⟨0x090 + p, elemId 0 p, info⟩]))
    ∧ ((s.lpiEn p && s.queuesEmpty p && s.txFree p && s.on F.ETH_STAT_LINK p && !s.on F.ETH_STAT_LPI_TX p) = true →
        Does (.lpiEntry p) s (fun t => t.rd F.ETH_STAT_LPI_TX p = 1 ∧ one 24 t))
    ∧ (s.queuesEmpty p = false → Does (.lpiWakeDone p) s (fun t => t = s.wr F.ETH_STAT_LPI_TX p 0))
    ∧ (8 ≤ p.val → Does (.receiveLpi p on) s (fun t => t.rd F.ETH_STAT_LPI_RX p = b2n on ∧ (on = true → s.on F.ETH_STAT_LPI_RX p = false → one 14 t)
        ∧ RegsBut [F.ETH_STAT_LPI_RX, F.ETH_CNT_COUNT] s t))
    ∧ (p.val < 8 → exec (.receiveLpi p on) s = .next s)

/-- A trunk port in mode 1 whose link is up and that does not sleep sends HELLO unless PEER_OFF is set, and one received from a
Vangino device makes it a peer; 300 ms without one end that and suspend any state but RETRAIN. A utilisation window proposes
10G after enough low windows and dwell, and 25G when high; one that is not low ends the run of low ones. A proposal in
MONITOR or SUSPENDED is accepted into HOLD where R94 allows it and else refused and counted; in PROPOSED one of the same rate
is accepted, and of a contest the winner ignores it and the loser answers as R94; in HOLD or RETRAIN it is ignored. A
matching ACCEPT enters HOLD; a REFUSE records its reason and restarts dwell; silence resends three times and then gives up
with reason 6. On a port that sleeps these frames count RX_DOZE_DISCARD alone. With no frame in progress HOLD ends in
RETRAIN; 2 ms without link there fail and drop the link. A write of ETH_TAPER_CTL stores its fields. What R94 and R96 leave
open is the model's choice (log entries of chapter 04). Where the rules can be read in two ways or leave a point open, it
takes the reading of log entries 39 to 50. (rests on: spec 04 R85; spec 04 R92; spec 04 R93; spec 04 R94; spec 04 R95; spec
04 R96) -/
def Obligations.TaperNegotiatesRates : Prop :=
  ∀ (s : State) (p : Fin 8) (dev : Word) (tx rx : Nat) (seq : BitVec 16) (rate flags reason : BitVec 8) (force ceil floor : BitVec 2) (en : Bool),
    let st := s.rd F.ETH_TAPER_STAT_STATE p
    let sent (op : Nat) (t : State) : Prop := (t.lastTx.get [] p).getD 15 0 = BitVec.ofNat 8 op
    (s.rd F.ETH_MODE_MODE p = 1 → s.on F.ETH_CTL_PEER_OFF p = false → s.on F.ETH_STAT_LINK p = true → s.portLive p = true →
      (Does (.taperHelloSend p) s (fun t => sent 5 t ∧ RegsBut [] s t))
      ∧ (dev.toNat / 65536 = 0x5647 → Does (.taperHelloRx p dev) s (fun t => t.rd F.ETH_STAT_PEER p = if s.on F.ETH_STAT_PEER p then s.rd F.ETH_STAT_PEER p else 1))
      ∧ (dev.toNat / 65536 ≠ 0x5647 → exec (.taperHelloRx p dev) s = .next s))
    ∧ Does (.peerTimeout p) s (fun t => t.rd F.ETH_STAT_PEER p = 0 ∧ (st ≠ 4 → t.rd F.ETH_TAPER_STAT_STATE p = 0))
    ∧ (st = 1 → s.taperLoop p = true →
      let win := max 100 (s.rd F.ETH_TAPER_THR_WIN_US p)
      let low := decide (max tx rx * 100 < s.rd F.ETH_TAPER_THR_DOWN_PCT p * 25000 * win)
      let high := decide (s.rd F.ETH_TAPER_THR_UP_PCT p * 10000 * win < max tx rx * 100)
      (s.rd F.ETH_TAPER_STAT_RATE p = 2 → low = true → max 1 (s.rd F.ETH_TAPER_THR_DOWN_HOLD p) ≤ (s.port p).lows + 1 →
        (match (s.port p).dwell with | some d => d + s.rd F.ETH_TAPER_DWELL_DWELL_MS p * ticksMs ≤ s.now | none => True) →
        s.rd F.ETH_TAPER_CTL_TAPER_FLOOR p = 1 → s.slopesOver p = false →
        Does (.taperWindowEnd p tx rx) s (fun t => t.rd F.ETH_TAPER_STAT_STATE p = 2 ∧ (t.port p).propRate = 1 ∧ sent 1 t))
      ∧ (s.rd F.ETH_TAPER_STAT_RATE p = 2 → low = false → Does (.taperWindowEnd p tx rx) s (fun t => (t.port p).lows = 0 ∧ RegsBut [] s t))
      ∧ (s.rd F.ETH_TAPER_STAT_RATE p = 1 → high = true → s.rd F.ETH_TAPER_CTL_TAPER_CEIL p = 2 →
        Does (.taperWindowEnd p tx rx) s (fun t => t.rd F.ETH_TAPER_STAT_STATE p = 2 ∧ (t.port p).propRate = 2 ∧ sent 1 t)))
    ∧ (s.portLive p = true → st ≤ 1 → Does (.taperProposeRx p seq rate flags) s (fun t =>
        if s.taperJudge p rate.toNat flags.toNat = 0 then t.rd F.ETH_TAPER_STAT_STATE p = 3 ∧ (t.port p).newRate = rate.toNat ∧ sent 2 t
        else t.rd F.ETH_TAPER_STAT_STATE p = st ∧ sent 3 t ∧ t.rd F.ETH_STAT_TAPER_EVT p = 1
          ∧ t.rd F.ETH_CNT_COUNT (29 * p + 27) = (s.rd F.ETH_CNT_COUNT (29 * p + 27) + 1) % 2 ^ F.ETH_CNT_COUNT.width))
    ∧ (s.portLive p = true → st = 2 →
      let mine := (s.port p).propFlags.testBit 2
      let theirs := flags.toNat.testBit 2
      let wins := if mine != theirs then mine else decide ((s.port p).propRate = 2)
      (rate.toNat = (s.port p).propRate → Does (.taperProposeRx p seq rate flags) s (fun t =>
        t.rd F.ETH_TAPER_STAT_STATE p = 3 ∧ (t.port p).newRate = rate.toNat ∧ sent 2 t))
      ∧ (rate.toNat ≠ (s.port p).propRate → wins = true → exec (.taperProposeRx p seq rate flags) s = .next s)
      ∧ (rate.toNat ≠ (s.port p).propRate → wins = false → Does (.taperProposeRx p seq rate flags) s (fun t =>
        if s.taperJudge p rate.toNat flags.toNat = 0 then t.rd F.ETH_TAPER_STAT_STATE p = 3 ∧ (t.port p).newRate = rate.toNat ∧ sent 2 t
        else t.rd F.ETH_TAPER_STAT_STATE p ≤ 1 ∧ sent 3 t)))
    ∧ (s.portLive p = true → 3 ≤ st → exec (.taperProposeRx p seq rate flags) s = .next s)
    ∧ (s.portLive p = false → s.on F.ETH_STAT_LINK p = true →
      let discard (c : Instr) : Prop := Does c s (fun t => RegsBut [F.ETH_CNT_COUNT] s t
        ∧ t.rd F.ETH_CNT_COUNT (29 * p + 15) = (s.rd F.ETH_CNT_COUNT (29 * p + 15) + 1) % 2 ^ F.ETH_CNT_COUNT.width)
      discard (.taperHelloRx p dev) ∧ discard (.taperProposeRx p seq rate flags) ∧ discard (.taperAcceptRx p seq) ∧ discard (.taperRefuseRx p reason))
    ∧ (s.portLive p = true → st = 2 → (seq.toNat = (s.port p).seq → Does (.taperAcceptRx p seq) s (fun t => t.rd F.ETH_TAPER_STAT_STATE p = 3 ∧ (t.port p).newRate = (s.port p).propRate))
      ∧ (seq.toNat ≠ (s.port p).seq → exec (.taperAcceptRx p seq) s = .next s)
      ∧ Does (.taperRefuseRx p reason) s (fun t => t.rd F.ETH_TAPER_STAT_STATE p ≤ 1 ∧ t.rd F.ETH_TAPER_STAT_LAST_REFUSE p = reason.toNat % 16
          ∧ (t.port p).dwell = some s.now ∧ t.rd F.ETH_STAT_TAPER_EVT p = 1))
    ∧ (st = 2 → Does (.taperProposeTimeout p) s (fun t => if (s.port p).resends < 3 then t.rd F.ETH_TAPER_STAT_STATE p = 2 ∧ (t.port p).resends = (s.port p).resends + 1 ∧ sent 1 t
          else t.rd F.ETH_TAPER_STAT_STATE p ≤ 1 ∧ t.rd F.ETH_TAPER_STAT_LAST_REFUSE p = 6))
    ∧ (st = 3 → s.txFree p = true → Does (.taperHoldEnd p) s (fun t => t.rd F.ETH_TAPER_STAT_STATE p = 4 ∧ t.rd F.ETH_STAT_RETRAIN p = 1))
    ∧ (st = 4 → Does (.taperRetrainTimeout p) s (fun t => t.rd F.ETH_TAPER_STAT_FAILED p = 1 ∧ t.rd F.ETH_STAT_TAPER_EVT p = 1 ∧ t.rd F.ETH_STAT_LINK p = 0
        ∧ ∃ info, t.transit.getLast? = some ⟨0x090 + p, elemId 0 p, info⟩))
    ∧ Does (.taperCtlWrite p force ceil floor en) s (fun t => t.rd F.ETH_TAPER_CTL_FORCE p = force.toNat ∧ t.rd F.ETH_TAPER_CTL_TAPER_CEIL p = ceil.toNat
        ∧ t.rd F.ETH_TAPER_CTL_TAPER_FLOOR p = floor.toNat ∧ t.rd F.ETH_TAPER_CTL_EN p = b2n en)

/-- EN going from 0 to 1 fills every limiter, latches the timing where it is valid, and lets a stopped or standing-by lane that
is not parked integrate; while a frame of the lane's earlier enable has not ended it waits for that end. Eleven recessive
bits make an integrating lane ACTIVE with its link up (bus-off if TEC still exceeds 255), count one sequence of a recovering
lane, and end the wait after an error. EN written 0 stops the lane at once, or marks it to stop at the end of the frame in
progress. Bus-off recovery counts from 0; the sequence after 127 ends it in ACTIVE with both error counters 0. A refill adds
one token up to the burst and changes nothing else. A due reference message waits to be sent, unless the format is not the
role's or the last one is unsent: then it counts as missed. A dominant level or an AOC detection on a lane with wake
detection is wake code 1 while dozing or starting, and wakes the lane's sleeping networks otherwise; ARM_US after AUX the
AOC's detector is armed. The bit-rate aid starts in listen-only mode alone and ends with its result. Where the rules can be
read in two ways or leave a point open, it takes the reading of log entries 51 to 62. (rests on: spec 05 R102; spec 05 R103;
spec 05 R107; spec 05 R112; spec 05 R113; spec 05 R115; spec 05 R119; spec 05 R121; spec 05 R122; spec 05 R123) -/
def Obligations.CanLanesStartStopRecoverAndWake : Prop :=
  ∀ (s : State) (n : Fin 24) (j : Fin 16) (edges : Nat) (minEdge : BitVec 16),
    let l := s.canLane n
    let timing := if timingValid (s.canTiming n) then s.canTiming n else []
    let coded (t : State) : Prop := s.stopped = false → t.bit F.AOC_WAKE_PEND_CODE 0 0 = true ∧ t.on F.AOC_WAKE_SRC_VALID 0 = true
    let nets (t : State) : Prop := ∀ k : Fin 16, k.val ∈ s.netsOf (40 + n) → s.rd F.NSL_NET_STATE k = 2 → t.rd F.NSL_NET_STATE k = 0
    (s.pers n = 1 → s.on F.LSL_CAN_CTL_EN n = false → Does (.canEnable n) s (fun t => t.rd F.LSL_CAN_CTL_EN n = 1
        ∧ t.rd F.LSL_CAN_RL_TOKENS (16 * n + j) = max 1 (s.rd F.LSL_CAN_RL_BURST (16 * n + j)) % 2 ^ F.LSL_CAN_RL_TOKENS.width
        ∧ (l.stopping = true → (t.canLane n).next = some timing ∧ (t.canLane n).st = l.st)
        ∧ (l.stopping = false → (t.canLane n).timing = timing ∧ (t.canLane n).st =
            if timing ≠ [] ∧ (l.st = .stopped ∨ l.st = .standby) ∧ s.laneParked n = false then .integrating else l.st)))
    ∧ (s.pers n = 1 → Does (.canDisable n) s (fun t => t.rd F.LSL_CAN_CTL_EN n = 0 ∧
        (if (l.arb.isSome || l.sof.isSome) = true then t = (s.wr F.LSL_CAN_CTL_EN n 0).setCan n { l with stopping := true, next := none }
          else (t.canLane n).st = .stopped ∧ t.rd F.LSL_CAN_STAT_LINK n = 0)))
    ∧ (s.pers n = 1 → l.st = .integrating → Does (.canIntegrated n) s (fun t =>
        if 255 < l.tec then (t.canLane n).st = (if s.on F.LSL_CAN_CTL_AUTO_RECOV n then .recovering else .busOff) ∧ t.rd F.LSL_CAN_STAT_BUSOFF_EVT n = 1
        else (t.canLane n).st = .active ∧ t.rd F.LSL_CAN_STAT_LINK n = 1 ∧ t.rd F.LSL_CAN_STAT_BUS_IDLE n = 1))
    ∧ (s.pers n = 1 → l.st = .recovering → Does (.canIntegrated n) s (fun t =>
        t = s.wr F.LSL_CAN_ERR_RECOV_CNT n (min 127 (s.rd F.LSL_CAN_ERR_RECOV_CNT n + 1))))
    ∧ (s.pers n = 1 → l.st = .active → l.waits = true → Does (.canIntegrated n) s (fun t => (t.canLane n).waits = false
        ∧ t.rd F.LSL_CAN_STAT_BUS_IDLE n = 1 ∧ RegsBut [F.LSL_CAN_STAT_BUS_IDLE] s t))
    ∧ (s.pers n = 1 → l.st = .busOff → Does (.canRecoveryStart n) s (fun t => (t.canLane n).st = .recovering ∧ t.rd F.LSL_CAN_ERR_RECOV_CNT n = 0))
    ∧ (s.pers n = 1 → l.st = .recovering → s.rd F.LSL_CAN_ERR_RECOV_CNT n = 127 → Does (.canRecoveryDone n) s (fun t => (t.canLane n).st = .active
        ∧ t.rd F.LSL_CAN_ERR_RECOV_CNT n = 128 ∧ t.rd F.LSL_CAN_ERR_TEC n = 0 ∧ t.rd F.LSL_CAN_ERR_REC n = 0 ∧ t.rd F.LSL_CAN_ERR_STATE n = 0
        ∧ t.rd F.LSL_CAN_STAT_LINK n = 1))
    ∧ Does (.canRlRefill n j) s (fun t => t.rd F.LSL_CAN_RL_TOKENS (16 * n + j)
          = min (s.rd F.LSL_CAN_RL_TOKENS (16 * n + j) + 1) (max 1 (s.rd F.LSL_CAN_RL_BURST (16 * n + j))) % 2 ^ F.LSL_CAN_RL_TOKENS.width
        ∧ t = { s with regs := t.regs } ∧ RegsBut [F.LSL_CAN_RL_TOKENS] s t ∧ ElemsBut F.LSL_CAN_RL_TOKENS (16 * n + j) s t)
    ∧ ((decide (s.pers n = 1) && s.bit F.LSL_PERS_ROLE n 2 && s.on F.LSL_CAN_TM_EN n && s.on F.LSL_CAN_CTL_EN n && s.canSends n) = true →
        Does (.canTmDue n) s (fun t =>
          if s.tmFormat n = true ∧ l.refDue = false ∧ (match l.arb with | some (.ref _) => false | _ => true) = true
          then t = s.setCan n { l with refDue := true, refOut := none }
          else t.rd F.LSL_CAN_CNT_COUNT (20 * n + 18) = (s.rd F.LSL_CAN_CNT_COUNT (20 * n + 18) + 1) % 2 ^ F.LSL_CAN_CNT_COUNT.width ∧ t.can = s.can))
    ∧ (s.pers n = 1 → s.on F.LSL_CAN_WAKE_EN n = true → s.laneArmed n = false →
        (s.dozing = true → Does (.canWakeDominant n) s coded) ∧ (s.dozing = false → s.portAsleep (40 + n) = true → Does (.canWakeDominant n) s nets))
    ∧ (s.laneArmed n = true ∨ (2 ≤ s.pers n ∧ s.laneWakes n = true ∧ s.laneParked n = true) →
        (s.dozing = true ∨ s.phase ≠ .running → Does (.aocLaneWake n) s coded) ∧ (s.dozing = false → s.phase = .running → Does (.aocLaneWake n) s nets))
    ∧ (s.pers n = 1 → s.on F.LSL_CAN_WAKE_EN n = true → l.st = .standby → Does (.canAuxArmed n) s (fun t => t.laneArmed n = true
        ∧ t = { s with aocArmed := t.aocArmed } ∧ ∀ m, m ≠ n.val → t.laneArmed m = s.laneArmed m))
    ∧ (s.pers n = 1 → s.rd F.LSL_CAN_CTL_OPMODE n = 1 → Does (.brdStart n) s (fun t => t = s.wr F.LSL_CAN_BRD_START n 1))
    ∧ (s.rd F.LSL_CAN_CTL_OPMODE n ≠ 1 → exec (.brdStart n) s = .next s)
    ∧ (s.on F.LSL_CAN_BRD_START n = true → Does (.brdDone n edges minEdge) s (fun t => t.rd F.LSL_CAN_BRD_START n = 0
        ∧ t.rd F.LSL_CAN_BRD_EDGES n = min edges 255 ∧ t.rd F.LSL_CAN_BRD_MIN_EDGE n = minEdge.toNat ∧ t.rd F.LSL_CAN_STAT_BRD_DONE n = 1
        ∧ t = { s with regs := t.regs } ∧ RegsBut [F.LSL_CAN_BRD_START, F.LSL_CAN_BRD_EDGES, F.LSL_CAN_BRD_MIN_EDGE, F.LSL_CAN_STAT_BRD_DONE] s t))

/-- A filter entry that a look at the list finds with bad parity matches nothing. At the sample point of the SOF of a frame on
the bus the Rulers are taken. A frame received by a lane that takes part counts, and one that the filters pass without a
limiter or seal entry, on a lane that is not secure, enters its pipeline as a lane frame. At a lane that may send, a presence
message goes into arbitration first, then a due reference message, then the head of the highest class, where the filters pass
it without a limiter or seal. A success counts, ends arbitration and, in a mode that counts errors, lowers TEC by 1. A lost
arbitration counts; without ONESHOT a reference message stays due. A bus error records its code and counts; in a mode that
counts errors it raises TEC by 8, or REC by 1 or 8, and TEC above 255 of a lane that stays on its bus is bus-off, with the
event, or recovery under AUTO_RECOV; in restricted operation such a lane waits. A missing loop-delay edge is a bit-0 error in
the data phase. A format that the role lacks is with PXH a protocol exception, counted and waited out, and a form error
without; one that it has is none. Where the rules can be read in two ways or leave a point open, it takes the reading of log
entries 51 to 62, 68 to 82. (rests on: spec 05 R104; spec 05 R105; spec 05 R107; spec 05 R108; spec 05 R109; spec 05 R110;
spec 05 R111; spec 05 R114; spec 05 R115; spec 05 R116; spec 05 R117; spec 07 R148) -/
def Obligations.CanFramesAndErrors : Prop :=
  ∀ (s : State) (n : Fin 24) (kind flags sdt : BitVec 8) (key : BitVec 29) (af : Word) (data : List Byte) (lec : BitVec 3) (d special xl : Bool) (tdcv : BitVec 7)
    (bad : List (Fin 64)) (side : CanSide),
    let tx : Bool := decide (side ≠ .receives)
    let u := s.canParity n bad
    let l := s.canLane n
    let x : LaneFrame := ⟨kind.toNat, flags.toNat % 16, sdt.toNat, key.toNat, af.toNat, data⟩
    let one (k : Nat) (t : State) : Prop := t.rd F.LSL_CAN_CNT_COUNT (20 * n + k) = (s.rd F.LSL_CAN_CNT_COUNT (20 * n + k) + 1) % 2 ^ F.LSL_CAN_CNT_COUNT.width
    let passes (b : Bool) (y : LaneFrame) : Prop := u.canAction n b y = (false, none) ∧ s.sealEntry b n y = none ∧ s.secure (40 + n) = false
    (∀ (k : Fin 64) (b : Bool), k ∈ bad → 64 * n.val + k ∈ u.canBad ∧ u.canFilter n b x ≠ some (64 * n.val + k))
    ∧ (s.canTakes n = true → l.sof = none → l.arb = none → Does (.canFrameRx n .sof flags sdt key af data bad) s (fun t =>
        (t.canLane n).sof = some s.snap ∧ t.rd F.LSL_CAN_STAT_BUS_IDLE n = 0))
    ∧ (s.canTakes n = true → s.canFormat n x = true → Does (.canFrameRx n (.frame kind) flags sdt key af data bad) s (fun t => one 0 t ∧ t.canBad = u.canBad ∧
        (passes false x → s.recovering (pipeOf (40 + n)) = false → ∃ f ts, t.flight = s.flight ++ [f] ∧ f.port = 40 + n.val ∧ f.bytes = LaneFrame.bytes x n ts ∧ f.tsIndex = ts)))
    ∧ (s.canRuns n = true → s.canSends n = true → s.dozing = false → s.portRestructuring (40 + n) = false → l.arb = none → l.sof = none → s.on F.LSL_CAN_CTL_EN n = true →
        Does (.canTxHead n bad) s (fun t =>
          (∀ b, l.presDue = some b → l.presOut = true ∨ passes true (laneOf b) → (t.canLane n).presDue = none
            ∧ (t.canLane n).arb = some (.presence (if l.presOut then b else LaneFrame.bytes (laneOf b) n 0xFFFF))
            ∧ t.rd F.LSL_CAN_STAT_TX_PEND n = 1 ∧ t.rd F.LSL_CAN_STAT_BUS_IDLE n = 0 ∧ (t.canLane n).sof.isSome = true)
          ∧ (l.presDue = none → l.refDue = true → s.tmFormat n = true → l.refOut = none → passes true (s.refMessage n) →
              (t.canLane n).arb = some (.ref (LaneFrame.bytes (s.refMessage n) n 0xFFFF)) ∧ (t.canLane n).refDue = false)
          ∧ (∀ e f r, l.presDue = none → l.refDue = false → (s.queue (323 + 4 * n)).head = e :: r → s.frames.find e.first = some f →
              s.tooOld (40 + n) f.epoch = false → f.damaged = false → s.canFormat n (laneOut f e) = true → passes true (laneOut f e) →
              s.canHeadIs n (323 + 4 * n) e = false →
              (∀ c, c < 3 → (s.queue (320 + 4 * n + c)).head = [] ∧ (s.queue (320 + 4 * n + c)).mid = [] ∧ (s.queue (320 + 4 * n + c)).tail = []) →
              (t.canLane n).arb = some (.queued (323 + 4 * n) e (LaneFrame.bytes (laneOut f e) n 0xFFFF)))))
    ∧ (s.canRuns n = true → l.arb.isSome = true →
        Does (.canTxSuccess n tdcv) s (fun t => one 9 t ∧ (t.canLane n).arb = none
          ∧ (s.canCounts n = true → (t.canLane n).tec = l.tec - 1) ∧ (∀ b, l.arb = some (.presence b) → s.rd F.LSL_CAN_CTL_OPMODE n ≠ 3 → t.lastTx.get [] (40 + n) = b)
          ∧ (∀ b, l.arb = some (.ref b) → one 17 t ∧ (t.canLane n).tmSeq = (l.tmSeq + 1) % 256))
        ∧ Does (.canArbLost n) s (fun t => one 12 t ∧ (t.canLane n).arb = none
          ∧ (∀ b, l.arb = some (.ref b) → s.on F.LSL_CAN_CTL_ONESHOT n = false → (t.canLane n).refDue = true)))
    ∧ ((tx = true → s.canRuns n = true ∧ l.arb.isSome = true) → (tx = false → s.canHears n = true) →
        Does (.canBusError n lec d side special) s (fun t => t.rd F.LSL_CAN_ERR_LEC n = lec.toNat
          ∧ t.rd F.LSL_CAN_ERR_LEC_DATA n = b2n d ∧ one (if tx then 11 else 5) t
          ∧ (s.canCounts n = true →
              let tec := if tx && !special then l.tec + 8 else l.tec
              (t.canLane n).tec = tec ∧ (t.canLane n).recC = (if tx then l.recC else l.recC + if special then 8 else 1)
              ∧ (l.stopping = false → s.laneParked n = false → tx = true → special = false → 255 < tec →
                t.rd F.LSL_CAN_STAT_BUSOFF_EVT n = 1 ∧ t.rd F.LSL_CAN_ERR_STATE n = 2
                ∧ (t.canLane n).st = if s.on F.LSL_CAN_CTL_AUTO_RECOV n then .recovering else .busOff))
          ∧ (s.rd F.LSL_CAN_CTL_OPMODE n = 2 → l.stopping = false → s.laneParked n = false → (t.canLane n).waits = true)))
    ∧ (s.canRuns n = true → l.arb.isSome = true → l.timing.getD 12 0 = 1 → Does (.tdcFail n) s (fun t => t.rd F.LSL_CAN_STAT_TDC_FAIL_EVT n = 1 ∧ one 19 t ∧ one 11 t
          ∧ t.rd F.LSL_CAN_ERR_LEC n = 5 ∧ t.rd F.LSL_CAN_ERR_LEC_DATA n = 1))
    ∧ (s.canHears n = true → s.bit F.LSL_PERS_ROLE n (if xl then 1 else 0) = false → Does (.canProtocolException ⟨n, xl⟩) s (fun t =>
        if s.on F.LSL_CAN_CTL_PXH n = true then one 8 t ∧ t.rd F.LSL_CAN_STAT_PXE_EVT n = 1
          ∧ (l.stopping = false → s.laneParked n = false → (t.canLane n).waits = true ∧ (t.canLane n).tec = l.tec ∧ (t.canLane n).recC = l.recC)
        else one 5 t ∧ t.rd F.LSL_CAN_ERR_LEC n = 2 ∧ t.rd F.LSL_CAN_ERR_LEC_DATA n = 0))
    ∧ (s.bit F.LSL_PERS_ROLE n (if xl then 1 else 0) = true → exec (.canProtocolException ⟨n, xl⟩) s = .next s)

/-- On a T1S lane that takes part in its segment as coordinator, a BEACON received sets DUP_COORD_EVT, adds 1 to DUP_COORD, and
sends report 0x0B8 + n against the lane's port element, a source whose class is NOTE; the lane is coordinator afterwards as
before. (stated: R132) -/
def Obligations.T1sDuplicateCoordinatorRemains : Prop :=
  ∀ (s : State) (n : Fin 24), bltDefaultClass (0x0B8 + n) = 0 ∧ (s.t1sRuns n = true → s.t1sCoord n = true →
    Does (.t1sBeaconRx n) s (fun t => t.rd F.LSL_T1S_STAT_DUP_COORD_EVT n = 1
      ∧ t.rd F.LSL_T1S_CNT_COUNT (14 * n + 13) = (s.rd F.LSL_T1S_CNT_COUNT (14 * n + 13) + 1) % 2 ^ F.LSL_T1S_CNT_COUNT.width
      ∧ (∃ info, t.transit.getLast? = some ⟨0x0B8 + n, elemId 0 (40 + n), info⟩) ∧ t.t1sCoord n = true))

/-- On a lane that is not secure a frame received counts in RX_FRAMES, or in RX_RUNT, RX_OVERSIZE or RX_FCS_ERR, and a good one
that is no presence message enters its pipeline. The coordinator's BEACON opens a cycle when the last one is over, and does
nothing before. An opportunity begins when the count from the BEACON has reached it (a coordinator's, below NODE_CNT), and
else does nothing; an unused one and the end of a burst end it. In its own opportunity, up to MAX_BC frames beyond the first,
or in CSMA mode outside back-off, an idle lane sends the presence message that waits, else the head of class 3. A follower
that loses the BEACON goes to CSMA mode, with event, count and NOTE, and keeps what its link rests on; a BEACON received
brings it back and ends its back-off. A collision counts by mode; the frame returns to the head of its queue, in CSMA with r
times 512 bit times of back-off, r below 2^min(attempt, 10); after the 16th it is dropped, counted and reported. ED shows the
AUX level; a level seen holds until 100 ms have passed without. Where the rules can be read in two ways or leave a point
open, it takes the reading of log entries 63 to 67. (rests on: spec 06 R127; spec 06 R128; spec 06 R129; spec 06 R130; spec
06 R131; spec 06 R142; spec 06 R125) -/
def Obligations.T1sLanesTakeTurnsAndCollide : Prop :=
  ∀ (s : State) (n : Fin 24) (bs : List Byte) (good level : Bool) (id : BitVec 8) (r : BitVec 10),
    let l := s.t1sLane n
    let one (k : Nat) (t : State) : Prop := t.rd F.LSL_T1S_CNT_COUNT (14 * n + k) = (s.rd F.LSL_T1S_CNT_COUNT (14 * n + k) + 1) % 2 ^ F.LSL_T1S_CNT_COUNT.width
    let noted (t : State) : Prop := ∃ info, t.transit.getLast? = some ⟨0x0B8 + n, elemId 0 (40 + n), info⟩
    let mine := decide (s.t1sPlca n = true) && decide (id.toNat = s.rd F.LSL_T1S_PLCA_NODE_ID n)
    let again := decide (l.opp = some id.toNat)
    ((s.t1sRuns n || s.t1sLast n) = true → s.secure (40 + n) = false → Does (.t1sFrameRx n bs good) s (fun t =>
        if bs.length < 64 then one 3 t else if 1518 < bs.length then one 4 t else if good = false then one 2 t
        else one 0 t ∧ (s.presenceOf (40 + n) bs = none → s.recovering (pipeOf (40 + n)) = false → ∃ ts, t.flight = s.flight ++ [Flight.good (40 + n) bs ts])))
    ∧ (s.t1sRuns n = true →
      (s.t1sCsma n = false →
        (s.t1sCoord n = true → s.t1sCycleOver n = true → Does (.t1sBeaconSend n) s (fun t => (t.t1sLane n).tx = none ∧ (t.t1sLane n).opp = none
          ∧ (t.t1sLane n).coming = some 0 ∧ (t.t1sLane n).burst = 0))
        ∧ (s.t1sCycleOver n = false → exec (.t1sBeaconSend n) s = .next s)
        ∧ (l.tx = none → Does (.t1sToTimer n) s (fun t => t = s.setT1s n { l with opp := none, burst := 0 }))
        ∧ Does (.t1sBurstTimer n) s (fun t => (t.t1sLane n).tx = none ∧ (t.t1sLane n).opp = none ∧ (t.t1sLane n).burst = 0 ∧ (l.tx.isSome = true → one 5 t))
        ∧ (s.t1sPlca n = true → s.t1sCoord n = false → Does (.beaconLoss n) s (fun t => t.rd F.LSL_T1S_STAT_MODE n = 1
            ∧ t.rd F.LSL_T1S_STAT_BEACON_LOST_EVT n = 1 ∧ one 12 t ∧ (t.t1sLane n).beacon = l.beacon ∧ noted t))
        ∧ (l.tx = none → s.t1sPlca n = true → again = false → s.t1sOpens n id.toNat = false → exec (.t1sOpportunity n id) s = .next s)
        ∧ (l.tx = none → s.t1sPlca n = true → again = false → s.t1sOpens n id.toNat = true → mine = false →
            Does (.t1sOpportunity n id) s (fun t => t = s.setT1s n { l with opp := some id.toNat, coming := some (id.toNat + 1), burst := 0 })))
      ∧ (s.t1sCoord n = false → Does (.t1sBeaconRx n) s (fun t => (t.t1sLane n).beacon = true ∧ (t.t1sLane n).opp = none ∧ (t.t1sLane n).coming = some 0
          ∧ (s.portRestructuring (40 + n) = false → t.on F.LSL_T1S_STAT_LINK n = true)
          ∧ (s.t1sPlca n = true → s.t1sCsma n = true → l.switchTo = none →
              t.rd F.LSL_T1S_STAT_MODE n = 0 ∧ t.rd F.LSL_T1S_STAT_BEACON_BACK_EVT n = 1 ∧ (t.t1sLane n).backoff = none)))
      ∧ (l.tx = none → s.secure (40 + n) = false →
          (s.t1sCsma n = true ∧ l.backoff = none) ∨ (s.t1sCsma n = false ∧ mine = true ∧
            (if again = true then l.burst ≤ s.rd F.LSL_T1S_PLCA_MAX_BC n else s.t1sOpens n id.toNat = true)) →
          Does (.t1sOpportunity n id) s (fun t =>
            (∀ b, l.presDue = some b → (t.t1sLane n).tx = some ⟨320 + 4 * n, none, 131072, CopyEd.none, withFcs b, none⟩ ∧ (t.t1sLane n).presDue = none)
            ∧ (∀ e f q, l.presDue = none → (s.queue (323 + 4 * n)).head = e :: q → s.frames.find e.first = some f → s.tooOld (40 + n) f.epoch = false →
                f.damaged = false → (s.egressBytes s.snap (40 + n) f e.ed).2.length ≤ 1518 →
                ∃ x, (t.t1sLane n).tx = some x ∧ x.q = 323 + 4 * n ∧ x.ent = some e ∧ x.bytes = (s.egressBytes s.snap (40 + n) f e.ed).2)))
      ∧ (∀ x, l.tx = some x → Does (.t1sCollision n r) s (fun t => one (if s.t1sCsma n then 10 else 11) t ∧ (t.t1sLane n).tx = none ∧
          if l.attempts + 1 < 16 then (t.t1sLane n).attempts = l.attempts + 1
            ∧ (t.t1sLane n).backoff = (if s.t1sCsma n then some (r.toNat % 2 ^ min (l.attempts + 1) 10 * 512) else none)
            ∧ (∀ e, x.ent = some e → (t.queue x.q).head = e :: (s.queue x.q).head)
          else one 8 t ∧ one 9 t ∧ t.rd F.LSL_T1S_STAT_EXC_COLL_EVT n = 1 ∧ (t.t1sLane n).attempts = 0 ∧ noted t)))
    ∧ Does (.t1sBackoffEnd n) s (fun t => (t.t1sLane n).backoff = none ∧ RegsBut [F.LSL_T1S_STAT_TX_PEND] s t)
    ∧ (s.pers n = 2 → Does (.energyDetect n level) s (fun t => t.rd F.LSL_T1S_STAT_ED n = b2n level ∧ (t.t1sLane n).ed = (level || l.ed))
      ∧ (s.on F.LSL_T1S_STAT_ED n = false → Does (.t1sEdTimeout n) s (fun t => (t.t1sLane n).ed = false)))

/-- On a running, unsecured MVB lane that is administrator, a good master frame received sets MASTER_CONFLICT_EVT, adds 1 to
MASTER_CONFLICT, sends report 0x0B8 + n against the lane's port element, a source whose class is NOTE, and clears ADMIN_RUN.
In the state after it the lane is no administrator, so that basic periods and polls leave that state as it is, and the master
frame awaits its reply as on a device; with ADMIN_RUN set again it is administrator. (stated: R141) -/
def Obligations.MvbMasterConflictClearsAdminRun : Prop :=
  ∀ (s : State) (n : Fin 24) (f : BitVec 4) (a : BitVec 12), bltDefaultClass (0x0B8 + n) = 0 ∧ (s.mvbRuns n = true → s.mvbAdmin n = true → s.secure (40 + n) = false →
    Does (.mvbMasterFrameRx n f a true) s (fun t => t.rd F.LSL_MVB_STAT_MASTER_CONFLICT_EVT n = 1
      ∧ t.rd F.LSL_MVB_CNT_COUNT (10 * n + 8) = (s.rd F.LSL_MVB_CNT_COUNT (10 * n + 8) + 1) % 2 ^ F.LSL_MVB_CNT_COUNT.width
      ∧ (∃ info, t.transit.getLast? = some ⟨0x0B8 + n, elemId 0 (40 + n), info⟩)
      ∧ t.rd F.LSL_MVB_CTL_ADMIN_RUN n = 0 ∧ t.mvbAdmin n = false ∧ (t.mvbLane n).waiting = some (4096 * f.toNat + a.toNat)
      ∧ exec (.mvbBasicPeriod n) t = .next t ∧ (∀ left, exec (.mvbPollSend n left) t = .next t)
      ∧ (t.wr F.LSL_MVB_CTL_ADMIN_RUN n 1).mvbAdmin n = true))

/-- On a lane that is not secure a bad master frame counts CRC_ERR; a good one counts and awaits its reply, which a source port
of its F_code and address gives from its slot, and F_code 15 for DEV_ADDR from DEVSTAT; a valid port of the address with
another F_code counts FCODE_MISMATCH. The reply is sent and counts. A good slave frame of the right length ends the wait,
counts and is written to the slot of the sink port, whose update count rises; another one counts CRC_ERR and is a timeout,
which on an administrator counts and sets TIMEOUT_EVT; with no reply awaited a bad one counts CRC_ERR and a good one does
nothing. A basic period counts up, or starts at 0, with a fresh poll list. A poll sends the due entry at the cursor if its
worst case fits, and else sets OVERRUN_EVT; when the list is done, a queued master frame that fits is sent. Silence clears
what an MVB device's link rests on. A queued source update writes the source's slot and counts. Where the rules can be read
in two ways or leave a point open, it takes the reading of log entries 63 to 67, 118 to 124. (rests on: spec 06 R135; spec 06
R137; spec 06 R138; spec 06 R139; spec 06 R140; spec 06 R142; spec 11 R255) -/
def Obligations.MvbLanesAnswerPollAndTimeOut : Prop :=
  ∀ (s : State) (n : Fin 24) (f : BitVec 4) (a : BitVec 12) (ok : Bool) (data : List Byte) (left : Nat),
    let l := s.mvbLane n
    let one (k : Nat) (t : State) : Prop := t.rd F.LSL_MVB_CNT_COUNT (10 * n + k) = (s.rd F.LSL_MVB_CNT_COUNT (10 * n + k) + 1) % 2 ^ F.LSL_MVB_CNT_COUNT.width
    let timedOut (t : State) : Prop := (t.mvbLane n).waiting = none ∧ (s.mvbAdmin n = true → one 5 t ∧ t.rd F.LSL_MVB_STAT_TIMEOUT_EVT n = 1)
    let alone (e : QEnt) (x : Frame) : Prop := s.queue (323 + 4 * n) = { Queue.init with head := [e] } ∧ s.frames.find e.first = some x
      ∧ s.tooOld (40 + n) x.epoch = false ∧ x.damaged = false ∧ ∀ c, c < 3 → (s.queue (320 + 4 * n + c)).head = []
    ((s.mvbRuns n || s.mvbLast n) = true → s.secure (40 + n) = false → Does (.mvbMasterFrameRx n f a ok) s (fun t =>
      if ok = false then one 4 t
      else one 0 t ∧ (s.mvbOther n f.toNat a.toNat = true → one 7 t) ∧ (t.mvbLane n).waiting = some (4096 * f.toNat + a.toNat) ∧ (t.mvbLane n).heard = true
        ∧ (f.toNat = 15 → a.toNat = s.rd F.LSL_MVB_DEV_DEV_ADDR n → (t.mvbLane n).reply = some (beBytes 2 (s.rd F.LSL_MVB_DEVSTAT_STATUS n)))
        ∧ (∀ k, f.toNat ≤ 4 → s.mvbPort n f.toNat a.toNat = some k → (t.mvbLane n).reply =
            if s.mvbSource n k then some (Mem.read s.mvbData (mvbSlot n k) (mvbBytes f.toNat)) else none)))
    ∧ (∀ bs, s.mvbEnds n = true → l.reply = some bs → Does (.mvbReplySend n) s (fun t => t.lastTx.get [] (40 + n) = bs ∧ one 2 t
        ∧ (t.mvbLane n).reply = none ∧ (t.mvbLane n).waiting = none))
    ∧ (∀ key, s.mvbEnds n = true → s.secure (40 + n) = false → l.waiting = some key → Does (.mvbSlaveFrameRx n data ok) s (fun t =>
        let fits := if key / 4096 ≤ 4 then decide (data.length = mvbBytes (key / 4096)) else if key / 4096 = 15 then decide (data.length = 2) else decide (data.length ≤ 2048)
        if ok = true ∧ fits = true then one 1 t ∧ (t.mvbLane n).waiting = none
          ∧ ∀ k, s.mvbPort n (key / 4096) (key % 4096) = some k → s.mvbSource n k = false → t.mvbData = s.mvbData.writes (mvbSlot n k) data
            ∧ t.rd F.LSL_MVB_FRESH_UPD_CNT (256 * n + k) = (s.rd F.LSL_MVB_FRESH_UPD_CNT (256 * n + k) + 1) % 2 ^ F.LSL_MVB_FRESH_UPD_CNT.width
        else one 4 t ∧ timedOut t))
    ∧ (s.mvbEnds n = true → s.secure (40 + n) = false → l.waiting = none → Does (.mvbSlaveFrameRx n data ok) s (fun t => if ok = true then t = s else one 4 t))
    ∧ (s.mvbEnds n = true → l.waiting.isSome = true → l.reply = none → Does (.mvbReplyTimeout n) s timedOut)
    ∧ (s.pers n = 3 → Does (.mvbSilenceTimeout n) s (fun t => (t.mvbLane n).heard = false))
    ∧ (s.mvbRuns n = true → s.mvbAdmin n = true → Does (.mvbBasicPeriod n) s (fun t => (t.mvbLane n).began = true ∧ (t.mvbLane n).cursor = 0
        ∧ t.rd F.LSL_MVB_STAT_BP_NUM n = (if l.began then (s.rd F.LSL_MVB_STAT_BP_NUM n + 1) % 2 ^ F.LSL_MVB_STAT_BP_NUM.width else 0) ∧ t.rd F.LSL_MVB_STAT_SPORADIC n = 0))
    ∧ (s.mvbRuns n = true → s.mvbAdmin n = true → l.began = true → l.waiting = none → s.secure (40 + n) = false → Does (.mvbPollSend n left) s (fun t =>
        let w := s.pollEntry n l.cursor
        let sent (key : Nat) : Prop := one 3 t ∧ t.lastTx.get [] (40 + n) = beBytes 2 key ∧ (t.mvbLane n).waiting = some key
        (l.cursor < 1024 → pollDue w (s.rd F.LSL_MVB_STAT_BP_NUM n) = true →
          if s.mvbWorst n (pollKey w / 4096) ≤ left then sent (pollKey w) else t.rd F.LSL_MVB_STAT_OVERRUN_EVT n = 1)
        ∧ (1024 ≤ l.cursor → t.rd F.LSL_MVB_STAT_SPORADIC n = 1 ∧ ∀ e x, alone e x → (laneOut x e).kind = 0x10 → (laneOut x e).key ≤ 0xFFFF →
            s.mvbWorst n ((laneOut x e).key / 4096) ≤ left → sent (laneOut x e).key)))
    ∧ (∀ e x k, s.mvbRuns n = true → alone e x → (laneOut x e).kind = 0x11 → s.mvbPort n ((laneOut x e).key / 4096) ((laneOut x e).key % 4096) = some k →
        s.mvbSource n k = true → Does (.mvbSrcUpdate n) s (fun t =>
          t.mvbData = s.mvbData.writes (mvbSlot n k) ((laneOut x e).data.take (mvbBytes ((laneOut x e).key / 4096)))
          ∧ t.rd F.SIG_CNT_COUNT 8 = (s.rd F.SIG_CNT_COUNT 8 + 1) % 2 ^ F.SIG_CNT_COUNT.width ∧ (t.queue (323 + 4 * n)).head = []))

/-- The port is enabled, linked, live, not in a restructure, its pipeline is not recovering, and no frame of it is arriving. A
received frame shorter than 64 bytes, longer than its maximum, or with a bad FCS counts as that alone. A good one that is
neither a MAC frame nor a presence message, on a port without MACsec, counts with its octets and enters the pipelines. A
grant check declines and counts 1 for Quickstroke off, 2 for a group DA, 3 without a Stroke cache entry, 4 for an entry or a
pair that forbids speculation or MACsec on egress, 5 for its own port, 6 for a lane or a port not enabled, 7 not ready, 8 not
free at the release point, 9 for a queue that holds frames, 0xA without credit, 0xB for a faster egress, 0xC without a slot,
0xD after a strike, 0xE for a contest lost, in that order; a frame that passes all of them is granted to the predicted port.
The release point of the oldest granted transmission whose ports send nothing else finds them ready, and its first bit
leaves, or not, and it is withdrawn. A strike block from a peer counts RX_STRUCK and the frame it ends has failed; elsewhere
it counts as a coding error alone. Where the rules can be read in two ways or leave a point open, it takes the reading of log
entries 39 to 50, 68 to 82. (rests on: spec 04 R83; spec 04 R84; spec 07 R157; spec 07 R159; spec 07 R161) -/
def Obligations.FramesArriveAndAreGrantedOrDeclined : Prop :=
  ∀ (s : State) (p : Fin 40) (bs : List Byte) (good secured free lost mFree mLost : Bool),
    let i := pipeOf p
    let one (k : Nat) (t : State) : Prop := t.rd F.ETH_CNT_COUNT (29 * p + k) = (s.rd F.ETH_CNT_COUNT (29 * p + k) + 1) % 2 ^ F.ETH_CNT_COUNT.width
    let ready := s.on F.ETH_CTL_RX_EN p && s.on F.ETH_STAT_LINK p && s.portLive p && !s.portRestructuring p && !s.recovering i && !(s.port p).gone && (s.arriving p).isNone
    let data := !s.consumed bs && (s.presenceOf p bs).isNone
    let long := decide (max 1518 (s.rd F.ETH_CTL_MAX_LEN p) < bs.length)
    let quiet := s.flight.any (fun g => g.integ && g.verdict.isSome) = false
    (ready = true → bs.length < 64 → Does (.frameReceived p bs good) s (fun t => one 5 t ∧ RegsBut [F.ETH_CNT_COUNT] s t ∧ t.flight = s.flight))
    ∧ (ready = true → 64 ≤ bs.length → long = true → Does (.frameReceived p bs good) s (fun t => one 6 t ∧ RegsBut [F.ETH_CNT_COUNT] s t ∧ t.flight = s.flight))
    ∧ (ready = true → 64 ≤ bs.length → long = false → Does (.frameReceived p bs false) s (fun t => one 4 t ∧ RegsBut [F.ETH_CNT_COUNT] s t ∧ t.flight = s.flight))
    ∧ (ready = true → 64 ≤ bs.length → long = false → data = true → s.cipRx p = false → Does (.frameReceived p bs true) s (fun t =>
        one 1 t ∧ (∃ ts, t.flight = s.flight ++ [Flight.good p bs ts])
        ∧ t.rd F.ETH_CNT_COUNT (29 * p) = (s.rd F.ETH_CNT_COUNT (29 * p) + bs.length) % 2 ^ F.ETH_CNT_COUNT.width))
    ∧ (ready = true → data = true → Does (.qsGrantCheck p bs secured free lost mFree mLost) s (fun t =>
        let h := s.parse i p secured bs
        let cls := s.initClass i p h
        let f : Flight := { Flight.good p bs 0xFFFF with whole := false, secured := secured, snap := some s.snap }
        let declined (c : Nat) : Prop := t.rd F.PP_DECLINE_CNT_COUNT (14 * i + c - 1) = (s.rd F.PP_DECLINE_CNT_COUNT (14 * i + c - 1) + 1) % 2 ^ F.PP_DECLINE_CNT_COUNT.width
          ∧ RegsBut [F.PP_DECLINE_CNT_COUNT] s t ∧ t.flight = s.flight ++ [f]
        if ¬(s.on F.PP_CTL_QS_EN i = true ∧ s.bit F.PP_QS_PORT_EN_PORT i (portBit p) = true ∧ s.rd F.PWR_STAT_STATE 0 ≤ 1) then declined 1
        else if h.da.testBit 40 = true then declined 2
        else match s.strokeFind i p h.da (s.frameVid i p h) with
        | none => declined 3
        | some (_, e) =>
          if e.noSpec = true ∨ s.cipTx e.egr = true ∨ s.pairBars p e.egr h.hsr = true then declined 4
          else if e.egr = p.val then declined 5
          else if 40 ≤ e.egr ∨ s.bit F.PP_QS_EGR_EN_PORT i e.egr = false then declined 6
          else if s.specReady e.egr cls = false then declined 7
          else if free = false then declined 8
          else if s.queueEmpty (8 * e.egr + cls) = false then declined 9
          else if s.cbsReady e.egr cls = false then declined 0xA
          else if s.portMbps p < s.portMbps e.egr then declined 0xB
          else if 2 ≤ s.slotsUsed e.egr ∧ lost = false then declined 0xC
          else if s.strikeHold p = true then declined 0xD
          else if lost = true then declined 0xE
          else ∃ x, t.flight = s.flight ++ [{ f with spec := some x }] ∧ x.egr = e.egr ∧ x.cls = cls ∧ x.st = .granted ∧ RegsBut [] s t))
    ∧ (∀ n f x, s.flightWith (fun f => decide (f.port = p.val) && (match f.spec with | some x => decide (x.st = .granted) | none => false)) = some (n, f) →
        f.spec = some x → s.specBusy x = false → quiet → f.integ = false → Does (.qsRelease p) s (fun t =>
          t = s.setFlight n { f with spec := some { x with st := if s.specHolds x = true then .sending else .withdrawn, sent := s.snap, since := s.now } }))
    ∧ (∀ q : Fin 8, let peer := s.on F.ETH_STAT_PEER q && s.on F.ETH_CTL_RX_EN q
        (peer = true → s.arriving q = none → Does (.strikeBlockRx q) s (fun t => t = s.bump F.ETH_CNT_COUNT (29 * q + 11)))
        ∧ (∀ n f, peer = true → s.arriving q = some (n, f) → quiet → f.verdict = none → Does (.strikeBlockRx q) s (fun t =>
            t = (s.bump F.ETH_CNT_COUNT (29 * q + 11)).setFlight n { f with whole := true, fcsOk := false, integ := true }))
        ∧ (peer = false → Does (.strikeBlockRx q) s (fun t => t = s.bump F.ETH_CNT_COUNT (29 * q + 7))))

/-- While no frame has both parts final: the decision part of the oldest undecided frame of a port gives it a verdict and the
current epoch, its bytes unchanged. A decision without a policer that differs from a transmission on the wire strikes it: the
last strike holds the code and both ports, STRIKE_EVT is set, and TX_STRUCK of the egress port counts, and of its mirror
port. The integrity part of the oldest whole frame is final when it has none yet. An only frame that failed its FCS and that
nothing speculates leaves the pipelines with the later of its two parts. SC_FLUSH empties the pipeline's Stroke cache only.
Bad parity in a Stroke cache entry or in one of the 1,024 Stencil rules invalidates it, sets its event and is reported with
its index, and other rules and registers stay. A stall is reported, changes no register, and its pipeline's recovery is
running, waits, or comes. The end of a recovery clears RECOVERING, sets RECOVERY_EVT, and no other register changes. Where
the rules can be read in two ways or leave a point open, it takes the reading of log entries 68 to 82, 83 to 94. (rests on:
spec 07 R156; spec 07 R161; spec 07 R164; spec 07 R167; spec 07 R168; spec 08 R189) -/
def Obligations.VerdictsStrikeAndPipelinesRecover : Prop :=
  ∀ (s : State) (p : Fin 67) (i : Pipe) (n : Fin 8192),
    let quiet := s.flight.any (fun g => g.integ && g.verdict.isSome) = false
    let one (f : Fld) (k : Nat) (t : State) : Prop := t.rd f k = (s.rd f k + 1) % 2 ^ f.width
    (∀ k f, s.flightWith (fun f => decide (f.port = p.val) && f.verdict.isNone) = some (k, f) →
      (quiet → f.integ = false → Does (.verdictDecisionFinal p) s (fun t =>
        (∃ g, t.flight[k]? = some g ∧ g.verdict.isSome = true ∧ g.epoch = s.epoch ∧ g.bytes = f.bytes)
        ∧ ∀ x c, f.spec = some x → x.st = .sending → (s.decision f).policer = none → s.vetoOf { f with epoch := s.epoch } (s.decision f) x = some c →
            t.rd F.PP_LAST_STRIKE_REASON (pipeOf f.port) = c % 2 ^ F.PP_LAST_STRIKE_REASON.width ∧ t.rd F.PP_STAT_STRIKE_EVT (pipeOf f.port) = 1
            ∧ t.rd F.PP_LAST_STRIKE_IN_PORT (pipeOf f.port) = f.port % 2 ^ F.PP_LAST_STRIKE_IN_PORT.width
            ∧ t.rd F.PP_LAST_STRIKE_EGR_PORT (pipeOf f.port) = x.egr % 2 ^ F.PP_LAST_STRIKE_EGR_PORT.width
            ∧ (x.mirror ≠ some x.egr → one F.ETH_CNT_COUNT (29 * x.egr + 23) t ∧ ∀ m, x.mirror = some m → one F.ETH_CNT_COUNT (29 * m + 23) t)))
      ∧ (s.flight = [f] → f.integ = true → f.fcsOk = false → f.spec = none → Does (.verdictDecisionFinal p) s (fun t => t.flight = [])))
    ∧ (∀ k f, s.flightWith (fun f => decide (f.port = p.val) && f.whole && !f.integ) = some (k, f) →
      (quiet → f.verdict = none → Does (.verdictIntegrityFinal p) s (fun t => t = s.setFlight k { f with integ := true }))
      ∧ (s.flight = [f] → f.verdict.isSome = true → f.fcsOk = false → f.spec = none → Does (.verdictIntegrityFinal p) s (fun t => t.flight = [])))
    ∧ Does (.scFlush i) s (fun t => (∀ e, e ∈ t.strokes ↔ e ∈ s.strokes ∧ e.1 / 8192 ≠ i.idx) ∧ t = { s with strokes := t.strokes })
    ∧ Does (.stencilScrub i true n) s (fun t => t.strokes.find (8192 * i.idx + n) = none ∧ t.rd F.PP_STAT_SC_PARITY_EVT i.idx = 1
        ∧ t.transit = s.transit ++ [⟨0x162 + i.idx, elemId 11 (0x12 + i.idx), n⟩] ∧ RegsBut [F.PP_STAT_SC_PARITY_EVT] s t)
    ∧ (n.val < 1024 → Does (.stencilScrub i false n) s (fun t => fieldOf (t.rows.get 0 (rowKey (0x10 + i.idx) n)) 16 31 1 = 0
        ∧ t.rd F.PP_STAT_STENCIL_PARITY_EVT i.idx = 1 ∧ (∀ k, k ≠ rowKey (0x10 + i.idx) n → t.rows.get 0 k = s.rows.get 0 k)
        ∧ t.transit = s.transit ++ [⟨0x160 + i.idx, elemId 11 (0x10 + i.idx), n⟩] ∧ RegsBut [F.PP_STAT_STENCIL_PARITY_EVT] s t))
    ∧ Does (.pipelineStall i) s (fun t => (∃ info, t.transit = s.transit ++ [⟨0x0F0 + i.idx, elemId 2 i.idx, info⟩]) ∧ RegsBut [] s t
        ∧ (t.recov.forwarding.running = some (.pipeline i.idx) ∨ .pipeline i.idx ∈ t.recov.forwarding.waiting ∨ .pipeline i.idx ∈ t.recov.forwarding.coming))
    ∧ (s.recovering i.idx = true → Does (.pipelineRecoveryDone i) s (fun t => t.recovering i.idx = false ∧ t.rd F.PP_STAT_RECOVERY_EVT i.idx = 1
        ∧ t.recov.forwarding.running ≠ some (.pipeline i.idx) ∧ RegsBut [F.PP_STAT_RECOVERING, F.PP_STAT_RECOVERY_EVT] s t))

/-- An entry write in range joins the update buffer with the next epoch, one for both pipelines as two; where 2,048 uncommitted
writes and places kept for a Scroll leave no room it is discarded, counted, and sets BUF_FULL_EVT, and where they leave room
for one of two, one joins. One out of range does nothing. BUMP increments TBL_EPOCH, takes the router MAC over and shows
APPLYING, or is held while the oldest frame would fall 2^31 epochs behind. The oldest committed write leaves the buffer: a
word is stored and no other row changes; a route that fits is inserted, one that does not sets INSERT_FAIL_EVT, a route is
deleted, and the other family's routes stay. A drain target is stored, and met at once when no frame is older; a held BUMP
that may go on does. Unlocked, a pair mode is stored, and one that differs clears the pair's duplicate-discard entries; the
same one, or one under SCR_LOCK, changes nothing. A moving bucket with nothing in flight, GAP_US after its last enqueue, is
pinned to its target, counted, with MOVE_EVT. A signal limiter gains a token up to its burst. Where the rules can be read in
two ways or leave a point open, it takes the reading of log entries 83 to 94, 118 to 124, 135 to 144. (rests on: spec 08
R188; spec 08 R189; spec 08 R190; spec 08 R191; spec 08 R194; spec 11 R251; spec 13 R288; spec 13 R298) -/
def Obligations.TableWritesBecomeVisibleByEpochs : Prop :=
  ∀ (s : State) (op : TblOp) (target : Word) (i : Fin 4) (mode : BitVec 2) (g : Fin 16) (b j : Fin 256),
    let used := s.pendingWrites + s.scr.room
    let held (v6 : Bool) (t : State) : List Route := if v6 = true then t.routes6 else t.routes4
    let due (o : TblOp) : BufWrite := ⟨(s.epoch + 1) % 2 ^ 32, o⟩
    (s.opInRange op = true → used + (opEntries op).length ≤ 2048 → Does (.tableEntryWrite op) s (fun t =>
        t.updBuf = s.updBuf ++ (opEntries op).map due ∧ RegsBut [] s t))
    ∧ (s.opInRange op = true → 2048 ≤ used → Does (.tableEntryWrite op) s (fun t => t.updBuf = s.updBuf ∧ t.rd F.TBL_STAT_BUF_FULL_EVT 0 = 1
        ∧ t.rd F.TBL_CNT_COUNT 16 = (s.rd F.TBL_CNT_COUNT 16 + (opEntries op).length) % 2 ^ F.TBL_CNT_COUNT.width
        ∧ RegsBut [F.TBL_CNT_COUNT, F.TBL_STAT_BUF_FULL_EVT] s t))
    ∧ (∀ o o', s.opInRange op = true → used = 2047 → opEntries op = [o, o'] → Does (.tableEntryWrite op) s (fun t =>
        t.updBuf = s.updBuf ++ [due o] ∧ t.rd F.TBL_STAT_BUF_FULL_EVT 0 = 1))
    ∧ (s.opInRange op = false → exec (.tableEntryWrite op) s = .next s)
    ∧ (s.bumpBlocked = true → Does .epochBump s (fun t => t = s.wr F.TBL_STAT_BUMP_HELD 0 1))
    ∧ (s.bumpBlocked = false → Does .epochBump s (fun t => t.epoch = (s.epoch + 1) % 2 ^ 32 ∧ t.rd F.TBL_STAT_BUMP_HELD 0 = 0
        ∧ t.updBuf = s.updBuf ∧ t.routerMac = s.rd F.TBL_ROUTER_MAC_ADDR 0 ∧ t.rd F.TBL_STAT_APPLYING 0 = b2n (!s.updBuf.isEmpty)))
    ∧ (∀ w rest, s.updBuf = w :: rest → s.committed w = true → Does .committedWriteApply s (fun t =>
        t.updBuf = rest ∧ t.rd F.TBL_STAT_APPLYING 0 = b2n (rest.any s.committed) ∧ t.epoch = s.epoch
        ∧ (∀ tid idx k v, w.op = .word tid idx k v → t.rows.get 0 (rowKey tid idx) = putWord (s.rowApplied tid idx) tid k v.toNat
            ∧ ∀ r, r ≠ rowKey tid idx → t.rows.get 0 r = s.rows.get 0 r)
        ∧ (∀ v6 p n h, w.op = .routeInsert v6 p n h → held (!v6) t = held (!v6) s
            ∧ if (routesAfter v6 (held v6 s) w.op).length ≤ (if v6 = true then s.memCfg.routeV6 else s.memCfg.routeV4)
              then held v6 t = routesAfter v6 (held v6 s) w.op
              else held v6 t = held v6 s ∧ t.rd F.TBL_STAT_INSERT_FAIL_EVT 0 = 1)
        ∧ (∀ v6 p n, w.op = .routeDelete v6 p n → held v6 t = routesAfter v6 (held v6 s) w.op ∧ held (!v6) t = held (!v6) s)))
    ∧ ((s.on F.TBL_STAT_BUMP_HELD 0 = true → s.bumpBlocked = true) → Does (.drainTargetWrite target) s (fun t =>
        t.rd F.TBL_DRAIN_TARGET_TARGET 0 = target.toNat
        ∧ (serialNewer target.toNat s.drain = false → t.rd F.TBL_STAT_DRAIN_DONE_EVT 0 = 1)
        ∧ (serialNewer target.toNat s.drain = true → t.rd F.TBL_STAT_DRAIN_DONE_EVT 0 = s.rd F.TBL_STAT_DRAIN_DONE_EVT 0)
        ∧ RegsBut [F.TBL_DRAIN_TARGET_TARGET, F.TBL_STAT_DRAIN_DONE_EVT] s t))
    ∧ (s.on F.TBL_STAT_BUMP_HELD 0 = true → s.bumpBlocked = false → Does (.drainTargetWrite target) s (fun t =>
        t.rd F.TBL_DRAIN_TARGET_TARGET 0 = target.toNat ∧ t.epoch = (s.epoch + 1) % 2 ^ 32))
    ∧ (s.locked = false → Does (.redPairModeWrite i mode) s (fun t => t.rd F.TBL_RED_PAIR_MODE i = mode.toNat
        ∧ (s.rd F.TBL_RED_PAIR_MODE i ≠ mode.toNat → ∀ e ∈ t.dd, e.2.pair ≠ i.val)
        ∧ (s.rd F.TBL_RED_PAIR_MODE i = mode.toNat → t = s)))
    ∧ (s.locked = true → exec (.redPairModeWrite i mode) s = .next s)
    ∧ (s.moving g b = true → s.inFlight g b = 0 → s.gapPassed (256 * g + b) = true → Does (.bucketRepin g b) s (fun t => t.pinOf g b = s.targetOf g b
        ∧ t.rd F.TBL_RED_STAT_MOVE_EVT 0 = 1 ∧ t.rd F.TBL_RED_CNT_COUNT 6 = (s.rd F.TBL_RED_CNT_COUNT 6 + 1) % 2 ^ F.TBL_RED_CNT_COUNT.width
        ∧ RegsBut [F.TBL_RED_CNT_COUNT, F.TBL_RED_STAT_MOVE_EVT] s t))
    ∧ Does (.sigRlRefill j) s (fun t => t.rd F.SIG_RL_TOKENS j = min (s.rd F.SIG_RL_TOKENS j + 1) (max 1 (s.rd F.SIG_RL_BURST j)) % 2 ^ F.SIG_RL_TOKENS.width
        ∧ t = { s with regs := t.regs } ∧ RegsBut [F.SIG_RL_TOKENS] s t ∧ ElemsBut F.SIG_RL_TOKENS j s t)

/-- Outside the gated power states the oldest learn request of a pipeline leaves its queue; with a buffered write for its key
nothing else happens. Without a buffered write for its key: a new key is inserted and counted under its pipeline, unless the
port's limit is reached, which counts; a dynamic entry that names the same destination has its age reset; one that names
another is moved with age 0 and counted; a static entry that differs counts a denied move and stays. Outside the gated states
and with an aging period set, the sweep ages a dynamic entry by one, removes one of age 3 with a count, and leaves static and
synchronised entries; otherwise, or at an empty slot, it does nothing. A write of the notification configuration stores its
fields, and sets both ring indices to 0 when EN goes from 0 to 1. Where the rules can be read in two ways or leave a point
open, it takes the reading of log entries 83 to 94. (rests on: spec 08 R175; spec 08 R176; spec 08 R177; spec 08 R178; spec
08 R179; spec 08 R180) -/
def Obligations.AddressesAreLearnedAndAge : Prop :=
  ∀ (s : State) (p : Pipe) (slot : Fin 65600) (en target : Bool) (size : BitVec 5) (events : BitVec 4),
    let one (k : Nat) (t : State) : Prop := t.rd F.TBL_CNT_COUNT k = (s.rd F.TBL_CNT_COUNT k + 1) % 2 ^ F.TBL_CNT_COUNT.width
    (∀ r rest, s.gated = false → s.learnQ.get [] p.idx = r :: rest → (s.updBuf.any (fun w => (opOnKey w.op p.idx r.vid r.mac).isSome)) = true →
      Does (.learnInsert p) s (fun t => t = { s with learnQ := s.learnQ.set [] p.idx rest }))
    ∧ (∀ r rest, s.gated = false → s.learnQ.get [] p.idx = r :: rest → (s.updBuf.any (fun w => (opOnKey w.op p.idx r.vid r.mac).isSome)) = false →
      Does (.learnInsert p) s (fun t => t.learnQ.get [] p.idx = rest ∧
        let kind := if r.agg.isSome then 1 else 0
        let dest := r.agg.getD r.port
        (∀ n e, s.fdbSlot p.idx r.vid r.mac = some (n, e) →
          if e.static then t.fdb = s.fdb ∧ (e.kind ≠ kind ∨ e.dest ≠ dest → one 3 t)
          else (t.fdbOf p.idx).find n = some { e with age := 0, kind := kind, dest := dest } ∧ (e.kind ≠ kind ∨ e.dest ≠ dest → one 2 t))
        ∧ (s.fdbSlot p.idx r.vid r.mac = none →
            if s.on F.TBL_PORT_LEARN_LIMIT r.port = true ∧ s.rd F.TBL_PORT_LEARN_LIMIT r.port ≤ s.lcount p.idx r.port then t.fdb = s.fdb ∧ one 7 t
            else match s.fdbInsert p.idx ⟨r.mac, r.vid, false, 0, false, kind, dest⟩ with
              | some u => t.fdb = u.fdb ∧ one p.idx t
              | none => t.fdb = s.fdb ∧ one 6 t)))
    ∧ (∀ e, (s.fdbOf p.idx).find slot = some e → s.gated = false → s.on F.TBL_FDB_AGE_CFG_PERIOD_S 0 = true → Does (.ageSweepVisit p slot) s (fun t =>
        if e.static ∨ e.sync then t = s
        else if e.age = 3 then t.fdb = (s.fdbErase p.idx slot).fdb ∧ one 4 t
        else (t.fdbOf p.idx).find slot = some { e with age := e.age + 1 } ∧ RegsBut [] s t))
    ∧ ((s.fdbOf p.idx).find slot = none ∨ s.gated = true ∨ s.on F.TBL_FDB_AGE_CFG_PERIOD_S 0 = false → exec (.ageSweepVisit p slot) s = .next s)
    ∧ Does (.lnCfgEnable en target size events) s (fun t => t.rd F.TBL_LN_CFG_EN 0 = b2n en ∧ t.rd F.TBL_LN_CFG_TARGET 0 = b2n target
        ∧ t.rd F.TBL_LN_CFG_SIZE_LOG2 0 = size.toNat ∧ t.rd F.TBL_LN_CFG_EVENTS 0 = events.toNat
        ∧ (if en = true ∧ s.on F.TBL_LN_CFG_EN 0 = false then t.rd F.TBL_LN_HEAD_HEAD 0 = 0 ∧ t.rd F.TBL_LN_TAIL_TAIL 0 = 0
           else t.rd F.TBL_LN_HEAD_HEAD 0 = s.rd F.TBL_LN_HEAD_HEAD 0 ∧ t.rd F.TBL_LN_TAIL_TAIL 0 = s.rd F.TBL_LN_TAIL_TAIL 0)
        ∧ t = { s with regs := t.regs }
        ∧ RegsBut [F.TBL_LN_CFG_EN, F.TBL_LN_CFG_TARGET, F.TBL_LN_CFG_SIZE_LOG2, F.TBL_LN_CFG_EVENTS, F.TBL_LN_HEAD_HEAD, F.TBL_LN_TAIL_TAIL] s t)

/-- With no queue head to prune and a free transmitter, the highest eligible strict class is selected, else the class of the
round; the head of the selected class without in-line protection starts, counted in DEQ_FRAMES. At its end a good frame is
counted with its octets, a damaged one ends with the form of damage and counts DAMAGE_DROP. A deep queue's tail that may not
move to the head, and a deep FIFO's committed packets, go to a new block with the next SEQ, counted, or stall while none is
free. A refill is requested with 8 free head cells; a good block returns to the free list; a bad header or SEQ drops the tail
and what has not been read back whole. GO empties a queue but for a head that a CAN lane has started and reads 1 until the
flush is done; it is ignored while one runs and above queue 511. The end of linger outside the gated states does the same to
every class of the port, which then drops arrivals. QUE_CFG is stored, or refused whole when the reserves would exceed half
the pool. Outside the gated states a good head of the recirculation list enters Pipeline A on port 66. A stopped memory
controller is reported. Where the rules can be read in two ways or leave a point open, it takes the reading of log entries 39
to 50, 95 to 105. (rests on: spec 09 R198; spec 09 R200; spec 09 R203; spec 09 R204; spec 09 R206; spec 09 R207; spec 09
R210; spec 09 R211; spec 09 R218; spec 04 R84) -/
def Obligations.QueuesScheduleSpillFlushAndRecirculate : Prop :=
  ∀ (s : State) (p : Fin 40) (c : Fin 8) (q : Fin 512) (ff : Fin 256) (port : Fin 64) (u v k : Nat) (mn : BitVec 18) (al : BitVec 4) (mk dr : BitVec 26) (qq : Fin 768),
    let x := s.queue q
    let y := s.fifo ff
    let kept := s.startedHead q
    let n := (x.head.drop kept.length).length + x.mid.length + x.tail.length
    let one (f : Fld) (i : Nat) (t : State) : Prop := t.rd f i = (s.rd f i + 1) % 2 ^ f.width
    let refused := s.rd F.QUE_POOL_SIZE (poolOf qq) < 2 * (s.minSum (poolOf qq) - s.rd F.QUE_CFG_MIN_CELLS qq + mn.toNat)
    (s.strictCls p c = true → s.eligible p c = true → (∀ d : Fin 8, c < d → (s.strictCls p d && s.eligible p d) = false) → s.select p = (s, some c.val))
    ∧ (∀ e f, s.txFree p = true → (∀ d, d < 8 → s.pruned (8 * p + d) = s) → (s.select p).2 = some c.val → s.headOf (8 * p + c) = some (e, f) → s.cipTx p = false →
      Does (.egressSelect p) s (fun t => (∃ y, (t.port p).tx = some y ∧ y.q = 8 * p + c ∧ y.ent = some e ∧ y.first = e.first
          ∧ y.bytes = (s.egressBytes s.snap p f e.ed).2) ∧ one F.QUE_CNT_COUNT (8 * (8 * p + c) + 1) t))
    ∧ (∀ y, (s.port p).tx = some y →
      ((∀ f, s.frames.find y.first = some f → f.damaged = false) → Does (.egressFrameDone p) s (fun t => (t.port p).tx = none ∧ one F.ETH_CNT_COUNT (29 * p + 18) t
        ∧ t.rd F.ETH_CNT_COUNT (29 * p + 17) = (s.rd F.ETH_CNT_COUNT (29 * p + 17) + y.bytes.length) % 2 ^ F.ETH_CNT_COUNT.width))
      ∧ (∀ f, s.frames.find y.first = some f → f.damaged = true → Does (.egressFrameDone p) s (fun t => (t.port p).tx = none ∧ (t.port p).ended = s.damageForm p
        ∧ one F.QUE_CNT_COUNT (8 * y.q + 7) t)))
    ∧ (∀ e r, s.deep q = true → x.tail = e :: r → (x.blocks ≠ [] ∨ x.mid ≠ [] ∨ x.tailOff ≠ 0 ∨ 64 < s.entsCells x.head + s.entCells e) →
      Does (.spillBlockWrite ⟨q, by omega⟩) s (fun t => match (s.ink.takeBlk s.rsvTotal).2 with
        | some b => (∃ blk, (t.queue q).blocks = x.blocks ++ [blk] ∧ blk.num = b ∧ blk.seq = x.nextSeq) ∧ one F.RSV_CNT_COUNT 0 t
            ∧ (t.queue q).nextSeq = (x.nextSeq + 1) % 2 ^ 32 ∧ (t.queue q).head = x.head
        | none => (t.queue q) = { x with stalled := true } ∧ (x.stalled = false → one F.RSV_CNT_COUNT 5 t ∧ t.rd F.QUE_STAT_RSV_FULL_EVT 0 = 1)))
    ∧ (s.deep (512 + ff) = true → y.tailOff < (y.spillable.map pktSize).foldl (· + ·) 0 →
      Does (.spillBlockWrite ⟨512 + ff, by omega⟩) s (fun t => match (s.ink.takeBlk s.rsvTotal).2 with
        | some b => (∃ blk, (t.fifo ff).blocks = y.blocks ++ [blk] ∧ blk.num = b ∧ blk.seq = y.nextSeq) ∧ one F.RSV_CNT_COUNT 0 t
            ∧ (t.fifo ff).nextSeq = (y.nextSeq + 1) % 2 ^ 32
        | none => (t.fifo ff).stalled = true ∧ (y.stalled = false → one F.RSV_CNT_COUNT 5 t ∧ t.rd F.QUE_STAT_RSV_FULL_EVT 0 = 1)))
    ∧ (s.pruned q = s → s.deep q = true → x.blocks ≠ [] → s.entsCells x.head + x.asm.length + 8 ≤ 64 →
      Does (.refillRequest ⟨q, by omega⟩) s (fun t => t = s.setQueue q { x with refill := true }))
    ∧ (s.deep (512 + ff) = true → y.blocks ≠ [] → pktsCells y.pkts + y.asm.length + 8 ≤ 64 →
      Does (.refillRequest ⟨512 + ff, by omega⟩) s (fun t => t = s.setFifo ff { y with refill := true }))
    ∧ (∀ b r, x.refill = true → x.blocks = b :: r →
        let broken (t : State) : Prop := (t.queue q).blocks = [] ∧ (t.queue q).tail = [] ∧ (t.queue q).head = x.head
          ∧ (t.queue q).mid = x.mid.take (readBack (x.mid.map (fun m => m.frame.bytes.length)) x.midDone).1
          ∧ t.rd F.QUE_CNT_COUNT (8 * q + 7) = (s.rd F.QUE_CNT_COUNT (8 * q + 7) + (x.mid.length - (t.queue q).mid.length + x.tail.length)) % 2 ^ F.QUE_CNT_COUNT.width
          ∧ t.rd F.QUE_STAT_RSV_UNCORR_EVT 0 = 1
        Does (.refillDone ⟨q, by omega⟩ .ok) s (fun t => (t.queue q).blocks = r ∧ (t.queue q).expSeq = (x.expSeq + 1) % 2 ^ 32 ∧ (t.queue q).refill = false
          ∧ one F.RSV_CNT_COUNT 1 t)
        ∧ Does (.refillDone ⟨q, by omega⟩ (.header u)) s broken
        ∧ (v ≠ x.expSeq → Does (.refillDone ⟨q, by omega⟩ (.seq v)) s broken))
    ∧ (∀ b r, y.refill = true → y.blocks = b :: r → Does (.refillDone ⟨512 + ff, by omega⟩ .ok) s (fun t =>
        (t.fifo ff).blocks = r ∧ (t.fifo ff).expSeq = (y.expSeq + 1) % 2 ^ 32 ∧ (t.fifo ff).refill = false ∧ one F.RSV_CNT_COUNT 1 t))
    ∧ (s.on F.QUE_FLUSH_GO 0 = false → Does (.queFlushGo q) s (fun t => (t.queue q).head = kept ∧ (t.queue q).mid = [] ∧ (t.queue q).tail = [] ∧ (t.queue q).blocks = []
        ∧ t.rd F.QUE_FLUSH_QUEUE 0 = q ∧ t.rd F.QUE_FLUSH_GO 0 = 1
        ∧ t.rd F.QUE_CNT_COUNT (8 * q + 5) = (s.rd F.QUE_CNT_COUNT (8 * q + 5) + n) % 2 ^ F.QUE_CNT_COUNT.width))
    ∧ (s.on F.QUE_FLUSH_GO 0 = true ∨ 511 < k → exec (.queFlushGo k) s = .next s)
    ∧ Does .queFlushDone s (fun t => t = s.wr F.QUE_FLUSH_GO 0 0)
    ∧ (s.on F.QUE_PORT_CFG_LINGERING port = true → s.gated = false → Does (.lingerEnd port) s (fun t => t.rd F.QUE_PORT_CFG_LINGERING port = 0
        ∧ t.rd F.QUE_PORT_CFG_DOWN_DROP port = 1
        ∧ ∀ k ∈ portQueues port, (t.queue k).head = s.startedHead k ∧ (t.queue k).mid = [] ∧ (t.queue k).tail = [] ∧ (t.queue k).blocks = []))
    ∧ (¬refused → Does (.queCfgWrite qq mn al mk dr) s (fun t =>
        t.rd F.QUE_CFG_MIN_CELLS qq = mn.toNat ∧ t.rd F.QUE_CFG_ALPHA qq = al.toNat ∧ t.rd F.QUE_CFG_MARK_DEPTH qq = mk.toNat ∧ t.rd F.QUE_CFG_DROP_DEPTH qq = dr.toNat
          ∧ t = { s with regs := t.regs } ∧ RegsBut [F.QUE_CFG_MIN_CELLS, F.QUE_CFG_ALPHA, F.QUE_CFG_MARK_DEPTH, F.QUE_CFG_DROP_DEPTH] s t))
    ∧ (refused → Does (.queCfgWrite qq mn al mk dr) s (fun t => t = s.evt F.QUE_STAT_MIN_REFUSED_EVT 0))
    ∧ (∀ k r f, s.recirc = k :: r → s.gated = false → s.frames.find k = some f → s.tooOld 66 f.epoch = false → f.damaged = false → s.recovering (pipeOf 66) = false →
        Does .recirculate s (fun t => t.recirc = r ∧ t.flight = s.flight ++ [{ Flight.good 66 f.bytes f.tsIndex with txReq := f.txReq }]))
    ∧ Does .reservoirControllerFault s (fun t => (∃ info, t.transit = s.transit ++ [⟨0x002, elemDevice, info⟩]) ∧ RegsBut [] s t)

/-- OPEN starts a packet, or is refused with code 4 while one is open. DATA appends four bytes, within the packet's cells or with
one more; a packet above 16,380 bytes is aborted with code 6, one without a cell with code 3, both counted with
FIFO_ABORT_EVT; then DATA does nothing until COMMIT or ABORT. Without an open packet the code is 5. COMMIT closes the packet
with its flags, less TRIM, counts it and answers code 1; ABORT frees a LENGTH_FIRST packet, counted, and answers 2. A read of
the consume window by an initiator that runs is answered, changes no register, and puts a visible head in consumption. POP
removes a closed head, counted. A flush frees every packet when none is open or in consumption, counted, and reads 0; else it
marks those and reads 1. A good cell changes nothing; errors are counted, logged and reported by bank, and an uncorrectable
one marks the frame that holds the cell. A link error cuts its queue, FIFO or free list, is reported and asks for an audit;
the end of an audit returns what was lost before it began, and leaves a further one running where it was asked for. Where the
rules can be read in two ways or leave a point open, it takes the reading of log entries 95 to 105. (rests on: spec 09 R212;
spec 09 R213; spec 09 R214; spec 09 R215; spec 09 R216; spec 09 R217; spec 09 R218; spec 09 R219) -/
def Obligations.FifosAndInkwellFaults : Prop :=
  ∀ (s : State) (f : Fin 256) (w : Word) (flags : BitVec 6) (trim : BitVec 2) (ini : Initiator) (word : Fin 4096) (c : Fin 131072) (q : Fin 512) (pos idx : Nat) (entry : Bool),
    let x := s.fifo f
    let d := s.deep (512 + f)
    let all := x.pkts ++ x.mid ++ x.tail
    let one (g : Fld) (i : Nat) (t : State) : Prop := t.rd g i = (s.rd g i + 1) % 2 ^ g.width
    let last (v : Nat) (t : State) : Prop := t.rd F.QUE_FIFO_STAT_LAST_PROD f = v
    let aborted (v : Nat) (t : State) : Prop := last v t ∧ (t.fifo f).prod = .dead ∧ one F.QUE_CNT_COUNT (8 * (512 + f) + 2) t ∧ t.rd F.QUE_STAT_FIFO_ABORT_EVT 0 = 1
    (x.prod = .none → Does (.fifoOpen f) s (fun t => (t.fifo f).prod = .building ∧ (t.fifo f).newest d = some ⟨[], true, false, 0, false, false, [], false⟩))
    ∧ (x.prod ≠ .none → Does (.fifoOpen f) s (fun t => last 4 t ∧ t.fifo f = x))
    ∧ (x.prod = .none → Does (.fifoData f w) s (last 5) ∧ Does (.fifoCommit f flags trim) s (last 5) ∧ Does (.fifoAbort f) s (last 5))
    ∧ (x.prod = .dead → exec (.fifoData f w) s = .next s ∧ Does (.fifoCommit f flags trim) s (fun t => t.fifo f = { x with prod := .none })
        ∧ Does (.fifoAbort f) s (fun t => t.fifo f = { x with prod := .none }))
    ∧ (∀ p, x.prod = .building → x.newest d = some p →
        let grown := p.bytes ++ leBytes 4 w.toNat
        let fits := p.bytes.length + 4 ≤ 16380
        let inCells := cellsOf (8 + p.bytes.length) ≤ p.cells.length
        let cell := if s.fifoAdmits f = true then s.ink.takeCell.2 else none
        (fits → inCells → Does (.fifoData f w) s (fun t => (t.fifo f).newest d = some { p with bytes := grown }))
        ∧ (∀ k, fits → ¬inCells → cell = some k → Does (.fifoData f w) s (fun t => (t.fifo f).newest d = some { p with bytes := grown, cells := p.cells ++ [k] }))
        ∧ (fits → ¬inCells → cell = none → Does (.fifoData f w) s (aborted 3))
        ∧ (¬fits → Does (.fifoData f w) s (aborted 6))
        ∧ Does (.fifoCommit f flags trim) s (fun t => last 1 t ∧ (t.fifo f).prod = .none ∧ one F.QUE_CNT_COUNT (8 * (512 + f)) t
            ∧ (d = false → p.flushed = false → p.aborted = false → x.pkts.any Pkt.bad = false → (t.fifo f).pkts = x.pkts.dropLast
                ++ [{ p with isOpen := false, flags := flags.toNat, bytes := p.bytes.take (p.bytes.length - trim.toNat) }]))
        ∧ Does (.fifoAbort f) s (fun t => last 2 t ∧ (t.fifo f).prod = .none
            ∧ (s.cutThrough f = false → one F.QUE_CNT_COUNT (8 * (512 + f) + 5) t ∧ (d = false → (t.fifo f).pkts = x.pkts.dropLast))))
    ∧ (s.coreHalted ini = false → Does (.fifoConsumeRead ini f word) s (fun t => t.answer = some ⟨ini, .done, s.fifoWindow f (4 * word)⟩ ∧ RegsBut [] s t
        ∧ ∀ p r, x.pkts = p :: r → s.pktVisible f p = true → (t.fifo f).pkts = { p with inCons := true } :: r))
    ∧ (s.coreHalted ini = true → exec (.fifoConsumeRead ini f word) s = .next s)
    ∧ (∀ p r, x.pkts = p :: r → p.isOpen = false → Does (.fifoPop f) s (fun t => one F.QUE_CNT_COUNT (8 * (512 + f) + 1) t
        ∧ (d = false → x.pkts.any Pkt.bad = false → (t.fifo f).pkts = r)))
    ∧ (all.any (fun p => p.isOpen || p.inCons) = false → Does (.fifoFlush f) s (fun t => (t.fifo f).pkts = [] ∧ (t.fifo f).mid = []
        ∧ (t.fifo f).tail = [] ∧ (t.fifo f).blocks = [] ∧ t.rd F.QUE_FIFO_FLUSH_FLUSH f = 0
        ∧ t.rd F.QUE_CNT_COUNT (8 * (512 + f) + 5) = (s.rd F.QUE_CNT_COUNT (8 * (512 + f) + 5) + all.length) % 2 ^ F.QUE_CNT_COUNT.width))
    ∧ (all.any (fun p => p.isOpen || p.inCons) = true → Does (.fifoFlush f) s (fun t => t.rd F.QUE_FIFO_FLUSH_FLUSH f = 1 ∧ (t.fifo f).mid = [] ∧ (t.fifo f).blocks = []
        ∧ (d = false → (t.fifo f).pkts = (all.filter (fun p => p.isOpen || p.inCons)).map (fun p => { p with flushed := true }))))
    ∧ exec (.inkwellScrub c .good) s = .next s
    ∧ Does (.inkwellScrub c .corrected) s (fun t => one F.INK_CNT_COUNT 0 t ∧ t.rd F.INK_ECC_LOG_CELL 0 = c ∧ t.rd F.INK_ECC_LOG_UNCORR 0 = 0
        ∧ t.transit = s.transit ++ [⟨0x100 + c.val % 32, elemId 4 (c.val % 32), c⟩])
    ∧ Does (.inkwellScrub c .uncorrectable) s (fun t => one F.INK_CNT_COUNT 1 t ∧ t.rd F.INK_ECC_LOG_UNCORR 0 = 1 ∧ t.rd F.QUE_STAT_CELL_UNCORR_EVT 0 = 1
        ∧ t.transit = s.transit ++ [⟨(if s.cellUsed c then 0x120 else 0x100) + c.val % 32, elemId 4 (c.val % 32), c⟩]
        ∧ ∀ k g, s.frameWith c = some (k, g) → t.frames.find k = some { g with damaged := true })
    ∧ Does (.linkParityError (.queue q pos entry idx)) s (fun t => one F.INK_CNT_COUNT 2 t ∧ t.rd F.QUE_STAT_LINK_PARITY_EVT 0 = 1
        ∧ (t.queue q).head = (s.queue q).head.take pos ∧ t.transit = s.transit ++ [⟨0x140, elemId 5 q, idx⟩] ∧ t.on F.QUE_STAT_AUDITING 0 = true)
    ∧ Does (.linkParityError (.queue (512 + f) pos entry idx)) s (fun t => one F.INK_CNT_COUNT 2 t ∧ t.rd F.QUE_STAT_LINK_PARITY_EVT 0 = 1
        ∧ (t.fifo f).pkts = x.pkts.take pos ∧ t.transit = s.transit ++ [⟨0x140, elemId 5 (512 + f), idx⟩] ∧ t.on F.QUE_STAT_AUDITING 0 = true)
    ∧ Does (.linkParityError (.freeList c)) s (fun t => one F.INK_CNT_COUNT 2 t ∧ t.rd F.QUE_STAT_LINK_PARITY_EVT 0 = 1
        ∧ t.transit = s.transit ++ [⟨0x143, elemId 3 0, c⟩] ∧ t.on F.QUE_STAT_AUDITING 0 = true)
    ∧ Does .cellAuditStart s (fun t => t.on F.QUE_STAT_AUDITING 0 = true ∧ (s.on F.QUE_STAT_AUDITING 0 = true → t.ink.auditAgain = true))
    ∧ (s.on F.QUE_STAT_AUDITING 0 = true → Does .cellAuditDone s (fun t => t.rd F.QUE_STAT_AUDITING 0 = b2n s.ink.auditAgain ∧ t.rd F.QUE_STAT_AUDIT_DONE_EVT 0 = 1
        ∧ t.ink.lostCells = s.ink.lostCells.drop s.ink.auditCells ∧ t.ink.lostEnts = s.ink.lostEnts.drop s.ink.auditEnts))

/-- A running engine executes the instruction at its pc. An ALU, multiply or divide instruction writes its result and changes
nothing else; division by zero and overflow give the results of RV32M. A branch goes to its target when its condition holds
and on otherwise; JAL and JALR write the return address; MRET goes to mepc and clears IN_TRAP. A CSR instruction reads the
old value; CSRRW, and the others with a source other than 0, write mscratch, mcause, mtval, mtvec (bits [1:0] 0), mepc (bit 0
is 0) or a half of a counter. FENCE only retires; WFI retires when an event waits, and else the engine awaits. ECALL is
exception 11, EBREAK 3, an unsupported encoding 2, a fetch outside the instruction SRAM or with bad parity 1: each writes
mepc, mcause and mtval and enters the handler, or halts the engine with a report. mtval of EBREAK and of an unsupported
encoding is a value the spec leaves open. Where the rules can be read in two ways or leave a point open, it takes the reading
of log entries 106 to 117. (rests on: spec 10 R221; spec 10 R222; spec 10 R225; spec 10 R226; spec 10 R238) -/
def Obligations.NibInstructionsComputeJumpAndTrap : Prop :=
  ∀ (s : State) (n : Fin 10) (raw len rd rs1 rs2 f3 src num : Nat) (imm : Word) (f : AluF) (par : Bool),
    let e := s.nibEng n
    let a := s.xr n rs1
    let b := s.xr n rs2
    let seq := e.pc + BitVec.ofNat 32 len
    (fetches s n (.lui rd imm) raw len = true → Does (.nibAlu n) s (RetiredOnly n rd imm seq s))
    ∧ (fetches s n (.auipc rd imm) raw len = true → Does (.nibAlu n) s (RetiredOnly n rd (e.pc + imm) seq s))
    ∧ (fetches s n (.aluI f rd rs1 imm) raw len = true → Does (.nibAlu n) s (RetiredOnly n rd (f.eval a imm) seq s))
    ∧ (fetches s n (.aluR f rd rs1 rs2) raw len = true → Does (.nibAlu n) s (RetiredOnly n rd (f.eval a b) seq s))
    ∧ (fetches s n (.branch f3 rs1 rs2 imm) raw len = true → Does (.nibBranch n) s (RetiredOnly n 0 0 (if branchTaken f3 a b then e.pc + imm else seq) s))
    ∧ (fetches s n (.jal rd imm) raw len = true → Does (.nibJal n) s (RetiredOnly n rd seq (e.pc + imm) s))
    ∧ (fetches s n (.jalr rd rs1 imm) raw len = true → Does (.nibJalr n) s (RetiredOnly n rd seq ((a + imm) &&& 0xFFFFFFFE) s))
    ∧ (fetches s n .mret raw len = true → Does (.nibMret n) s (fun t => Retired n 0 0 e.mepc s t ∧ t.rd F.NIB_STAT_IN_TRAP n = 0
        ∧ RegsBut [F.NIB_CNT_COUNT, F.NIB_STAT_IN_TRAP] s t))
    ∧ (fetches s n (.mul f3 rd rs1 rs2) raw len = true → Does (.nibMul n) s (RetiredOnly n rd (match f3 with
        | 0 => BitVec.ofNat 32 (a.toNat * b.toNat) | 1 => BitVec.ofInt 32 (a.toInt * b.toInt / 2 ^ 32)
        | 2 => BitVec.ofInt 32 (a.toInt * b.toNat / 2 ^ 32) | _ => BitVec.ofNat 32 (a.toNat * b.toNat / 2 ^ 32)) seq s))
    ∧ (fetches s n (.div f3 rd rs1 rs2) raw len = true → Does (.nibDiv n) s (RetiredOnly n rd (match f3 with
        | 4 => if b = 0 then 0xFFFFFFFF else BitVec.ofInt 32 (Int.tdiv a.toInt b.toInt)
        | 5 => if b = 0 then 0xFFFFFFFF else BitVec.ofNat 32 (a.toNat / b.toNat)
        | 6 => if b = 0 then a else BitVec.ofInt 32 (Int.tmod a.toInt b.toInt)
        | _ => if b = 0 then a else BitVec.ofNat 32 (a.toNat % b.toNat)) seq s))
    ∧ (fetches s n (.csr f3 rd src num) raw len = true → Does (.nibCsrAccess n) s (fun t =>
        let g := t.nibEng n
        let old := s.csrGet n num
        let x := if 4 ≤ f3 then BitVec.ofNat 32 src else s.xr n src
        let new := if f3 % 4 = 1 then x else if f3 % 4 = 2 then old ||| x else old &&& ~~~x
        let writes := f3 % 4 = 1 ∨ src ≠ 0
        let low (c : Nat) : Nat := c / 2 ^ 32 % 2 ^ 32 * 2 ^ 32 + new.toNat
        let high (c : Nat) : Nat := new.toNat * 2 ^ 32 + c % 2 ^ 32
        Retired n rd old seq s t ∧ RegsBut [F.NIB_CNT_COUNT] s t
        ∧ (num = 0x340 → g.mscratch = if writes then new else e.mscratch) ∧ (num = 0x342 → g.mcause = if writes then new else e.mcause)
        ∧ (num = 0x343 → g.mtval = if writes then new else e.mtval) ∧ (num = 0x305 → g.mtvec = if writes then new &&& 0xFFFFFFFC else e.mtvec)
        ∧ (num = 0x341 → g.mepc = if writes then new &&& 0xFFFFFFFE else e.mepc)
        ∧ (num = 0xB00 → g.mcycle = if writes then low e.mcycle else e.mcycle) ∧ (num = 0xB80 → g.mcycle = if writes then high e.mcycle else e.mcycle)
        ∧ (num = 0xB02 → writes → g.minstret = low e.minstret) ∧ (num = 0xB82 → writes → g.minstret = high e.minstret)))
    ∧ (fetches s n .fence raw len = true → Does (.nibFence n) s (RetiredOnly n 0 0 seq s))
    ∧ (fetches s n .wfi raw len = true → e.evq ≠ [] → Does (.nibWfi n) s (RetiredOnly n 0 0 seq s))
    ∧ (fetches s n .wfi raw len = true → e.evq = [] → Does (.nibWfi n) s (fun t => t.rd F.NIB_STAT_STATE n = 2 ∧ (t.nibEng n).waiting = some .wfi
        ∧ (t.nibEng n).pc = e.pc ∧ RegsBut [F.NIB_STAT_STATE] s t))
    ∧ (fetches s n .ecall raw len = true → Does (.nibEcall n) s (Trapped n 11 0 s))
    ∧ (fetches s n .ebreak raw len = true → Does (.nibEbreak n) s (Trapped n 3 (Config.trapValue 3 e.pc raw) s))
    ∧ (fetches s n .illegal raw len = true → Does (.nibIllegalInstruction n false) s (Trapped n 2 (Config.trapValue 2 e.pc raw) s))
    ∧ (s.nibRunning n = true → s.nibFetch n = none → Does (.nibIllegalInstruction n par) s (Trapped n 1 e.pc s))
    ∧ (s.nibRunning n = true → s.nibFetch n ≠ none → Does (.nibIllegalInstruction n true) s (fun t => Trapped n 1 e.pc s t ∧ t.rd F.NIB_STAT_PARITY_EVT n = 1))

/-- An instruction whose read meets no uncorrectable error retires with its result; one whose read meets no error changes nothing
else but where it stores. A load of aligned bytes within one region answers the value, sign-extended by its function; a
misaligned one is exception 4, one outside the map or with an uncorrectable error 5. A store of aligned bytes in the data
SRAM or the Signal Store writes them, little-endian, and no other byte; a misaligned one is exception 6, another 7. BEXT and
BINS read and write a field whose base lies in a region that allows it; a specification word with reserved bits is exception
2. SCALE and SCALEU scale by an aligned descriptor. BSWAP swaps; the CRC instructions step a profile's CRC, CRCM over 0 to
16,383 bytes. TRD latches a Ruler and answers nanoseconds, TLAT a part of the latch. SPUT writes a cell's value and stamp and
leaves its status; SAGE answers the age; AMOADD answers the old word and stores the sum. A bad address is exception 4 or 5 of
a load, 6 or 7 of a store, SPUT or AMOADD, and too long a CRCM operand fault 24; each enters the handler or halts. Where the
rules can be read in two ways or leave a point open, it takes the reading of log entries 106 to 117. (rests on: spec 10 R223;
spec 10 R224; spec 10 R227; spec 10 R228; spec 10 R229; spec 10 R230; spec 10 R231; spec 10 R232; spec 10 R238; spec 10 R241) -/
def Obligations.NibInstructionsReachMemoryFieldsAndTime : Prop :=
  ∀ (s : State) (n : Fin 10) (raw len rd rs1 rs2 rs3 f3 p : Nat) (imm : Word) (r : CellRead),
    let e := s.nibEng n
    let a := s.xr n rs1
    let b := s.xr n rs2
    let seq := e.pc + BitVec.ofNat 32 len
    let ad := a + imm
    let w := 2 ^ (f3 % 4)
    let ws := 2 ^ f3
    let sp := fieldSpan b.toNat
    let fa := a.toNat + sp.1
    let ok (ad k : Nat) : Prop := (s.nibRead n ad k r).2 = true
    let ans (ad k : Nat) (v : Word) (t : State) : Prop := Retired n rd v seq s t ∧ (s.nibRead n ad k r = (s, true) → RetiredOnly n rd v seq s t)
    (fetches s n (.load f3 rd rs1 imm) raw len = true →
        (ad.toNat % w ≠ 0 → Does (.nibLoad n r) s (Trapped n 4 ad s))
        ∧ (ad.toNat % w = 0 → nibSpan ad.toNat w = none → Does (.nibLoad n r) s (Trapped n 5 ad s))
        ∧ (ad.toNat % w = 0 → nibSpan ad.toNat w ≠ none → ¬ok ad.toNat w → Does (.nibLoad n r) s (Trapped n 5 ad s))
        ∧ (ad.toNat % w = 0 → nibSpan ad.toNat w ≠ none → ok ad.toNat w → Does (.nibLoad n r) s (ans ad.toNat w (loadValue f3 (leNat (s.nibBytes n ad.toNat w))))))
    ∧ (fetches s n (.store f3 rs1 rs2 imm) raw len = true →
        (ad.toNat % ws ≠ 0 → Does (.nibStore n) s (Trapped n 6 ad s))
        ∧ (ad.toNat % ws = 0 → nibStores ad.toNat ws = false → Does (.nibStore n) s (Trapped n 7 ad s))
        ∧ (ad.toNat % ws = 0 → nibStores ad.toNat ws = true → Does (.nibStore n) s (fun t =>
            Retired n 0 0 seq s t ∧ RegsBut [F.NIB_CNT_COUNT] s t ∧ t.nibBytes n ad.toNat ws = leBytes ws b.toNat
            ∧ (nibSpan ad.toNat ws = some .dsram → t.ss = s.ss ∧ ∀ o, o < ad.toNat - 0x10000000 ∨ ad.toNat - 0x10000000 + ws ≤ o → (t.nibEng n).dsram.byte o = e.dsram.byte o)
            ∧ (nibSpan ad.toNat ws = some .ss → (t.nibEng n).dsram = e.dsram ∧ ∀ o, o < ad.toNat - 0x20000000 ∨ ad.toNat - 0x20000000 + ws ≤ o → t.ss.byte o = s.ss.byte o))))
    ∧ (fetches s n (.bext rd rs1 rs2) raw len = true →
        (2 ^ 21 ≤ b.toNat → Does (.vgBext n r) s (Trapped n 2 (Config.trapValue 2 e.pc raw) s))
        ∧ (b.toNat < 2 ^ 21 → (nibRegion a.toNat = none ∨ nibSpan fa sp.2 = none) → Does (.vgBext n r) s (Trapped n 5 a s))
        ∧ (b.toNat < 2 ^ 21 → nibRegion a.toNat ≠ none → nibSpan fa sp.2 ≠ none → ok fa sp.2 →
            Does (.vgBext n r) s (ans fa sp.2 (fieldValue b.toNat (fieldGet b.toNat sp.1 (s.nibBytes n fa sp.2))))))
    ∧ (fetches s n (.bins rs1 rs2 rs3) raw len = true →
        (2 ^ 21 ≤ b.toNat → Does (.vgBins n r) s (Trapped n 2 (Config.trapValue 2 e.pc raw) s))
        ∧ (b.toNat < 2 ^ 21 → ¬(nibStores a.toNat 1 = true ∧ nibStores fa sp.2 = true) → Does (.vgBins n r) s (Trapped n 7 a s))
        ∧ (b.toNat < 2 ^ 21 → nibStores a.toNat 1 = true → nibStores fa sp.2 = true → ok fa sp.2 →
            Does (.vgBins n r) s (fun t => Retired n 0 0 seq s t ∧ t.nibBytes n fa sp.2 = fieldPut b.toNat sp.1 (s.xr n rs3).toNat (s.nibBytes n fa sp.2))))
    ∧ (fetches s n (.bswap rd rs1 p) raw len = true → Does (.vgBswap n) s (RetiredOnly n rd (bswapOf p a) seq s))
    ∧ (let d (k : Nat) : Int := descWord (s.nibBytes n b.toNat 16) k
        let v (x : Int) : Word := BitVec.ofInt 32 (scaleOf x (d 0) (d 1) (d 2) (d 3))
        ((b.toNat % 16 = 0 ∧ nibStores b.toNat 16 = true ∧ ok b.toNat 16) →
          (fetches s n (.scale rd rs1 rs2) raw len = true → Does (.vgScale n r) s (ans b.toNat 16 (v a.toInt)))
          ∧ (fetches s n (.scaleu rd rs1 rs2) raw len = true → Does (.vgScaleu n r) s (ans b.toNat 16 (v a.toNat))))
        ∧ (¬(b.toNat % 16 = 0 ∧ nibStores b.toNat 16 = true) → let c := if b.toNat % 16 ≠ 0 then 4 else 5
          (fetches s n (.scale rd rs1 rs2) raw len = true → Does (.vgScale n r) s (Trapped n c b s))
          ∧ (fetches s n (.scaleu rd rs1 rs2) raw len = true → Does (.vgScaleu n r) s (Trapped n c b s))))
    ∧ (fetches s n (.crcb p rd rs1 rs2) raw len = true → Does (.vgCrcb n) s (RetiredOnly n rd (BitVec.ofNat 32 (vgCrc p a.toNat [BitVec.ofNat 8 b.toNat])) seq s))
    ∧ (fetches s n (.crcw p rd rs1 rs2) raw len = true → Does (.vgCrcw n) s (RetiredOnly n rd (BitVec.ofNat 32 (vgCrc p a.toNat (leBytes 4 b.toNat))) seq s))
    ∧ (fetches s n (.crcm p rd rs1 rs2) raw len = true →
        (16383 < b.toNat → Does (.vgCrcm n r) s (Trapped n 24 b s))
        ∧ (b.toNat ≤ 16383 → nibSpan a.toNat (max 1 b.toNat) = none → Does (.vgCrcm n r) s (Trapped n 5 a s))
        ∧ (b = 0 → nibSpan a.toNat 1 ≠ none → Does (.vgCrcm n r) s (RetiredOnly n rd (BitVec.ofNat 32 ((crcProf p).init ^^^ (crcProf p).out)) seq s))
        ∧ (b.toNat ≤ 16383 → b ≠ 0 → nibSpan a.toNat b.toNat ≠ none → ok a.toNat b.toNat →
            Does (.vgCrcm n r) s (ans a.toNat b.toNat (BitVec.ofNat 32 (vgCrc p (crcProf p).init (s.nibBytes n a.toNat b.toNat) ^^^ (crcProf p).out)))))
    ∧ (fetches s n (.trd rd rs1) raw len = true → Does (.vgTrd n) s (fun t => Retired n rd (BitVec.ofNat 32 (timeNs (s.ruler (a.toNat % 8)).time)) seq s t
        ∧ (t.nibEng n).latch = (s.ruler (a.toNat % 8)).time ∧ (t.nibEng n).latchStopped = !s.rulerRuns (a.toNat % 8)))
    ∧ (fetches s n (.tlat rd rs1) raw len = true → Does (.vgTlat n) s (RetiredOnly n rd (e.latchPart a.toNat) seq s))
    ∧ (fetches s n (.sput rs1 rs2) raw len = true →
        (a.toNat % 16 ≠ 0 → Does (.vgSput n) s (Trapped n 6 a s)) ∧ (a.toNat % 16 = 0 → nibSpan a.toNat 16 ≠ some .ss → Does (.vgSput n) s (Trapped n 7 a s))
        ∧ (a.toNat % 16 = 0 → nibSpan a.toNat 16 = some .ss → Does (.vgSput n) s (fun t => Retired n 0 0 seq s t
            ∧ Mem.read t.ss (a.toNat - 0x20000000) 4 = leBytes 4 b.toNat ∧ Mem.read t.ss (a.toNat - 0x20000000 + 4) 4 = Mem.read s.ss (a.toNat - 0x20000000 + 4) 4
            ∧ Mem.read t.ss (a.toNat - 0x20000000 + 8) 8 = leBytes 4 s.stampNow.1 ++ leBytes 4 s.stampNow.2)))
    ∧ (fetches s n (.sage rd rs1) raw len = true →
        (a.toNat % 16 ≠ 0 → Does (.vgSage n r) s (Trapped n 4 a s)) ∧ (a.toNat % 16 = 0 → nibSpan a.toNat 16 ≠ some .ss → Does (.vgSage n r) s (Trapped n 5 a s))
        ∧ (a.toNat % 16 = 0 → nibSpan a.toNat 16 = some .ss → ok (a.toNat + 8) 8 → Does (.vgSage n r) s (ans (a.toNat + 8) 8
            (BitVec.ofNat 32 (s.stampAge (leNat (s.nibBytes n (a.toNat + 8) 4)) (leNat (s.nibBytes n (a.toNat + 12) 4)))))))
    ∧ (fetches s n (.amoadd rd rs1 rs2) raw len = true →
        (a.toNat % 4 ≠ 0 → Does (.vgAmoadd n r) s (Trapped n 6 a s)) ∧ (a.toNat % 4 = 0 → nibSpan a.toNat 4 ≠ some .ss → Does (.vgAmoadd n r) s (Trapped n 7 a s))
        ∧ (a.toNat % 4 = 0 → nibSpan a.toNat 4 = some .ss → ok a.toNat 4 → Does (.vgAmoadd n r) s (fun t =>
            let old := leNat (s.nibBytes n a.toNat 4)
            Retired n rd (BitVec.ofNat 32 old) seq s t ∧ t.nibBytes n a.toNat 4 = leBytes 4 (old + b.toNat))))

/-- AWAIT and POLLEV take the oldest event of their mask, then post OVERFLOW for lost ones; without one AWAIT waits until one
comes, WFI until any does, and POLLEV answers 0. RING and a doorbell write post an event, or count it as lost by a full
queue; RING above 9 is fault 24. TSET and a timer write arm a timer or disarm it; outside DOZE its expiry posts an event, or
updates the one that waits, and disarms a one-shot. POP and QLEN of a queue not the engine's are fault 24. POP first releases
as REL does, changes nothing and answers 0 while that is refused, and makes the head of the queue or FIFO current and answers
its length word, or 0. REL answers 1 for a pending packet, and else frees what is current. PUSH answers 3 for an invalid
descriptor, 2 for a FIFO with an open packet, puts a frame of KIND 0 into Pipeline A and answers 0, and answers for another
KIND what admission gives; it counts the result; the wrong producer is fault 24. RUN starts an engine in RESET at NIB_ENTRY
outside recovery mode. HALT halts a running or waiting one without a report, the watchdog a running one with cause all ones.
A recovery that R240 allows resets and starts the engine; another ends without effect. An error of a Signal Store word is
logged and reported. Where the rules can be read in two ways or leave a point open, it takes the reading of log entries 106
to 117. (rests on: spec 10 R228; spec 10 R233; spec 10 R234; spec 10 R235; spec 10 R236; spec 10 R237; spec 10 R238; spec 10
R239; spec 10 R240; spec 10 R241; spec 10 R242; spec 10 R243) -/
def Obligations.NibEnginesTakeEventsFramesAndRestart : Prop :=
  ∀ (s : State) (n k : Fin 10) (tm : Fin 4) (raw len rd rs1 rs2 i : Nat) (r : CellRead) (per uncorr : Bool) (period v : BitVec 24) (word : Fin 262144),
    let e := s.nibEng n
    let a := s.xr n rs1
    let b := s.xr n rs2
    let seq := e.pc + BitVec.ofNat 32 len
    let q := a.toNat % 1024
    let m := if a.toNat % 65536 = 0 then 0xFFFF else a.toNat % 65536
    let next := e.evq.findIdx? (fun w => m.testBit (evKind w))
    let takes (pc : Word) (t : State) : Prop := Retired n rd (BitVec.ofNat 32 (e.evq.getD i 0)) pc s t ∧ (e.lost = 0 → (t.nibEng n).evq = e.evq.eraseIdx i)
      ∧ (e.lost ≠ 0 → (e.evq.eraseIdx i).length < 64 → (t.nibEng n).evq = e.evq.eraseIdx i ++ [overflowEv e.lost])
    let timer (j t' : Nat) (per : Bool) (us : Nat) (t : State) : Prop := t.rd F.NIB_TIMER_PERIODIC (4 * j + t') = b2n per
      ∧ t.rd F.NIB_TIMER_PERIOD_US (4 * j + t') = us ∧ t.rd F.NIB_TIMER_ARMED (4 * j + t') = b2n (decide (us ≠ 0))
    let posted (w : Nat) (t : State) : Prop := (s.nibHeld k = false → (s.nibEng k).evq.length < 64 → (t.nibEng k).evq = (s.nibEng k).evq ++ [w])
      ∧ (s.nibHeld k = false → 64 ≤ (s.nibEng k).evq.length → (t.nibEng k).lost = (s.nibEng k).lost + 1 ∧ t.rd F.NIB_STAT_EVQ_OVF_EVT k = 1)
    let refused := ∃ f p, e.cur = some (.packet f) ∧ s.fifoHead f = some p ∧ p.isOpen = true
    let one (c : Nat) (t : State) : Prop := t.rd F.NIB_CNT_COUNT (9 * n + c) = (s.rd F.NIB_CNT_COUNT (9 * n + c) + 1) % 2 ^ F.NIB_CNT_COUNT.width
    (fetches s n (.await rd rs1) raw len = true → (next = some i → Does (.vgAwait n) s (takes seq))
      ∧ (next = none → Does (.vgAwait n) s (fun t => t.rd F.NIB_STAT_STATE n = 2 ∧ t.nibEng n = { e with waiting := some (.await rd (a.toNat % 65536)) } ∧ RegsBut [F.NIB_STAT_STATE] s t)))
    ∧ (fetches s n (.pollev rd rs1) raw len = true → (next = some i → Does (.vgPollev n) s (takes seq)) ∧ (next = none → Does (.vgPollev n) s (RetiredOnly n rd 0 seq s)))
    ∧ (∀ mask, s.rd F.NIB_STAT_STATE n = 2 → e.waiting = some (.await rd mask) → e.evq.findIdx? (fun w => (if mask % 65536 = 0 then 0xFFFF else mask % 65536).testBit (evKind w)) = some i →
        Does (.awaitReturn n) s (fun t => takes (e.pc + 4) t ∧ t.rd F.NIB_STAT_STATE n = 1 ∧ (t.nibEng n).waiting = none))
    ∧ (s.rd F.NIB_STAT_STATE n = 2 → e.waiting = some .wfi → e.evq ≠ [] → Does (.awaitReturn n) s (fun t =>
        Retired n 0 0 (e.pc + 4) s t ∧ t.rd F.NIB_STAT_STATE n = 1 ∧ (t.nibEng n).waiting = none ∧ (t.nibEng n).evq = e.evq))
    ∧ (fetches s n (.ring rs1 rs2) raw len = true → a.toNat % 16 = k.val → Does (.vgRing n) s (fun t => Retired n 0 0 seq s t
        ∧ posted (4 * 2 ^ 28 + n.val * 2 ^ 24 + b.toNat % 2 ^ 24) t))
    ∧ (fetches s n (.ring rs1 rs2) raw len = true → 9 < a.toNat % 16 → Does (.vgRing n) s (Trapped n 24 a s))
    ∧ Does (.nibDoorbellWrite k v) s (posted (4 * 2 ^ 28 + 0xF * 2 ^ 24 + v.toNat))
    ∧ (fetches s n (.tset rs1 rs2) raw len = true → Does (.vgTset n) s (fun t => Retired n 0 0 seq s t ∧ timer n (a.toNat % 4) (b.toNat.testBit 31) (b.toNat % 2 ^ 24) t))
    ∧ Does (.nibTimerWrite n tm per period) s (fun t => timer n tm per period.toNat t ∧ t = { s with regs := t.regs }
        ∧ RegsBut [F.NIB_TIMER_PERIODIC, F.NIB_TIMER_PERIOD_US, F.NIB_TIMER_ARMED] s t)
    ∧ (s.on F.NIB_TIMER_ARMED (4 * n + tm) = true → s.rd F.NIB_STAT_STATE n ≠ 4 → s.gated = false → Does (.nibTimerExpiry n tm) s (fun t =>
        let c := e.expired.get 0 tm + 1
        (t.nibEng n).expired.get 0 tm = min c 255 ∧ (s.on F.NIB_TIMER_PERIODIC (4 * n + tm) = false → t.rd F.NIB_TIMER_ARMED (4 * n + tm) = 0)
        ∧ (s.nibHeld n = false → e.evq.any (isTimerEv tm) = true → (t.nibEng n).evq = e.evq.map (fun w => if isTimerEv tm w then timerEv tm c else w))
        ∧ (s.nibHeld n = false → e.evq.any (isTimerEv tm) = false → e.evq.length < 64 → (t.nibEng n).evq = e.evq ++ [timerEv tm c])))
    ∧ (fetches s n (.pop rd rs1) raw len = true →
        (s.nibConsumer q ≠ some n.val → Does (.vgPop n) s (Trapped n 24 a s))
        ∧ (s.nibConsumer q = some n.val → refused → Does (.vgPop n) s (RetiredOnly n rd 0 seq s))
        ∧ (∀ u, s.nibConsumer q = some n.val → s.nibRelease n = some u →
            (∀ x f, q < 512 → u.pruned q = u → u.headOf q = some (x, f) → Does (.vgPop n) s (fun t =>
              Retired n rd (BitVec.ofNat 32 (2 ^ 31 + f.bytes.length)) seq s t ∧ (t.nibEng n).cur = some (.frame q x)))
            ∧ (∀ p, 512 ≤ q → u.fifoHead (q - 512) = some p → Does (.vgPop n) s (fun t =>
              Retired n rd (BitVec.ofNat 32 p.word) seq s t ∧ (t.nibEng n).cur = some (.packet (q - 512))))
            ∧ ((q < 512 → u.pruned q = u ∧ u.headOf q = none) → (512 ≤ q → u.fifoHead (q - 512) = none) → Does (.vgPop n) s (fun t =>
              Retired n rd 0 seq s t ∧ (t.nibEng n).cur = none))))
    ∧ (fetches s n (.rel rd) raw len = true → (¬refused → Does (.vgRel n) s (fun t => Retired n rd 0 seq s t ∧ (t.nibEng n).cur = none))
        ∧ (refused → Does (.vgRel n) s (RetiredOnly n rd 1 seq s)))
    ∧ (fetches s n (.push rd rs1) raw len = true →
        (nibSpan a.toNat 16 ≠ some .dsram → Does (.vgPush n r) s (Trapped n 5 a s))
        ∧ (nibSpan a.toNat 16 = some .dsram → a.toNat % 16 ≠ 0 → Does (.vgPush n r) s (Trapped n 4 a s))
        ∧ (nibSpan a.toNat 16 = some .dsram → a.toNat % 16 = 0 → s.nibRead n a.toNat 16 r = (s, true) →
          let d := sendDesc (s.nibBytes n a.toNat 16)
          let bytes := s.nibBytes n d.buf d.len
          let wrong := d.kind = 2 ∧ d.target < 256 ∧ ¬(s.on F.NIB_FSUB_PROD_EN d.target = true ∧ s.rd F.NIB_FSUB_PROD_ENGINE d.target = n)
          (wrong → Does (.vgPush n r) s (Trapped n 24 a s))
          ∧ (¬wrong → s.sendOk n d = false → Does (.vgPush n r) s (fun t => Retired n rd 3 seq s t ∧ t.flight = s.flight ∧ one 7 t))
          ∧ (s.sendOk n d = true → d.kind = 0 → s.recovering (pipeOf 65) = false → Does (.vgPush n r) s (fun t => Retired n rd 0 seq s t
              ∧ t.flight = s.flight ++ [{ Flight.good 65 (withFcs bytes) 0xFFFF with txReq := d.flags.testBit 0 }] ∧ one 6 t))
          ∧ (¬wrong → s.sendOk n d = true → d.kind = 2 → (s.fifo d.target).prod ≠ .none → Does (.vgPush n r) s (fun t => Retired n rd 2 seq s t ∧ t.fifos = s.fifos ∧ one 7 t))
          ∧ (¬wrong → s.sendOk n d = true → Does (.vgPush n r) s (fun t => Retired n rd (BitVec.ofNat 32 (s.pushOut d bytes).2) seq s t
              ∧ (d.kind = 1 → (s.pushOut d bytes).2 ≤ 1) ∧ one (if (s.pushOut d bytes).2 = 0 then 6 else 7) t))))
    ∧ (fetches s n (.qlen rd rs1) raw len = true →
        (s.nibConsumer q = some n.val → Does (.vgQlen n) s (RetiredOnly n rd (BitVec.ofNat 32 (s.nibQlen q)) seq s))
        ∧ (s.nibConsumer q ≠ some n.val → Does (.vgQlen n) s (Trapped n 24 a s)))
    ∧ (s.rd F.NIB_STAT_STATE n = 0 → s.nibHeld n = false → s.phase ≠ .recovery → Does (.nibRun n) s (fun t => t.rd F.NIB_STAT_STATE n = 1
        ∧ t.nibEng n = { e with pc := BitVec.ofNat 32 (2 * s.rd F.NIB_ENTRY_ADDR n) } ∧ RegsBut [F.NIB_STAT_STATE] s t))
    ∧ (s.rd F.NIB_STAT_STATE n = 1 ∨ s.rd F.NIB_STAT_STATE n = 2 → Does (.nibHaltCmd n) s (fun t => t.rd F.NIB_STAT_STATE n = 3 ∧ t.rd F.NIB_STAT_HALT_EVT n = 1
        ∧ t.transit = s.transit ∧ (t.nibEng n).cur = e.cur))
    ∧ (s.nibRunning n = true → Does (.nibWatchdog n) s (fun t => t.rd F.NIB_STAT_STATE n = 3 ∧ t.rd F.NIB_STAT_WDOG_EVT n = 1 ∧ t.rd F.NIB_FAULT_CAUSE_VALUE n = 0xFFFFFFFF
        ∧ t.transit = s.transit ++ [⟨0x0D0 + n, elemId 6 n, 0xFFFFFFFF⟩]))
    ∧ ((s.recov.of .fields).running = some (.engine n) → s.phase ≠ .recovery →
        (s.nibMayRestart n = true → Does (.engineRecovery n) s (fun t => t.rd F.NIB_STAT_STATE n = 1 ∧ t.rd F.NIB_STAT_RESTART_EVT n = 1
          ∧ (t.nibEng n).pc = BitVec.ofNat 32 (2 * s.rd F.NIB_ENTRY_ADDR n) ∧ (t.nibEng n).cur = none ∧ (t.nibEng n).isram = e.isram ∧ ∀ j, t.xr n j = 0))
        ∧ (s.nibMayRestart n = false → Does (.engineRecovery n) s (fun t => t = s.endRecovery .fields (.engine n))))
    ∧ Does (.signalStoreScrub word uncorr) s (fun t => t.rd F.NIB_SS_ECC_LOG_WORD 0 = word ∧ t.rd F.NIB_SS_ECC_LOG_UNCORR 0 = b2n uncorr
        ∧ (∃ info, t.transit = s.transit ++ [⟨if uncorr then 0x016 else 0x015, elemDevice, info⟩]) ∧ (uncorr = true → word.val ∈ t.ssBad)
        ∧ RegsBut [F.NIB_SS_ECC_LOG_WORD, F.NIB_SS_ECC_LOG_UNCORR] s t)

/-- With the magic word in the Signal Store and its engine running or waiting, the oldest doorbell is taken, and one of value 1
starts the program. The frame at the head of one of its queues, with nothing to prune, is taken and released: a lane frame
without a map entry, and an Ethernet frame without a transport header, count UNMAPPED, and a lane frame with an entry of a
single signal writes the field, scaled, to the signal's cell, clears SUBST and adds 1 to UPDATES. An output in use, at its
period, or pending with its gap over, is withheld and counted when a stale signal demands it; else it is built and pushed, a
push that succeeds counts it as sent and adds 1 to its sequence, one that fails counts the failure, and its time is noted;
one for Pipeline A of a valid length enters it. A trigger that came to its send is no longer pending. Without the magic word,
on an engine without the program, or for a queue that is not the engine's, nothing happens. Where the rules can be read in
two ways or leave a point open, it takes the reading of log entries 118 to 124. (rests on: spec 11 R257; spec 11 R258; spec
11 R259; spec 11 R260; spec 11 R261; spec 11 R262) -/
def Obligations.GatewayUnpacksAndSends : Prop :=
  ∀ (s : State) (n : Fin 10) (j : Fin 64) (m : Fin 4096) (i : Nat),
    let e := s.nibEng n
    let hdr (off : Nat) (t : State) : Prop := t.ssWord (gwHeader off) = (s.ssWord (gwHeader off) + 1) % 2 ^ 32
    let l := s.listEnts (bits (s.ssWord (outDescAt m + 16)) 0 17) (bits (s.ssWord (outDescAt m + 20)) 0 16)
    let bs := s.gwBuild m l
    let target := bits (s.ssWord (outDescAt m + 24)) 16 16
    let withheld := l.any (fun x => s.gwStale x.sig && decide (2 ≤ s.gwSubst x.sig))
    let sends (t : State) : Prop := (t.nibEng n).gwLast.find m = some s.now
      ∧ (((s.gwMark l).gwPush target bs).2 = 0 → hdr 20 t ∧ t.ssWord (outDescAt m + 28) = (s.ssWord (outDescAt m + 28) + 1) % 2 ^ 32)
      ∧ (((s.gwMark l).gwPush target bs).2 ≠ 0 → hdr 28 t ∧ t.ssWord (outDescAt m + 28) = s.ssWord (outDescAt m + 28))
      ∧ (target = 0xFFFF → 60 ≤ bs.length → bs.length ≤ 16379 → s.recovering (pipeOf 65) = false → hdr 20 t ∧ t.flight = s.flight ++ [Flight.good 65 (withFcs bs) 0xFFFF])
    let holds (t : State) : Prop := hdr 24 t ∧ t.flight = s.flight
    (s.ssWord (gwHeader 0) = 0x53475731 → s.rd F.NIB_STAT_STATE n = 1 ∨ s.rd F.NIB_STAT_STATE n = 2 → e.evq.findIdx? (fun w => decide (evKind w = 4)) = some i →
        Does (.gatewayStart n) s (fun t => (e.evq.getD i 0 % 2 ^ 24 = 1 → (t.nibEng n).gwOn = true) ∧ (e.evq.getD i 0 % 2 ^ 24 ≠ 1 → (t.nibEng n).gwOn = e.gwOn)
          ∧ (e.lost = 0 → (t.nibEng n).evq = e.evq.eraseIdx i)))
    ∧ (s.ssWord (gwHeader 0) ≠ 0x53475731 → exec (.gatewayStart n) s = .next s)
    ∧ (∀ u x f, s.gwRuns n = true → s.nibConsumer (448 + j) = some n.val → s.nibRelease n = some u → u.pruned (448 + j) = u → u.headOf (448 + j) = some (x, f) →
        Does (.gatewayFrameUnpack n j) s (fun t => (t.nibEng n).cur = none
          ∧ (s.lanePort f.inPort = false → (parseEth (s.rd F.PP_TPID_C_TPID 0) (s.rd F.PP_TPID_S_TPID 0) false f.bytes).l4 = none → hdr 32 t)
          ∧ (s.lanePort f.inPort = true →
            let y := laneOf f.bytes
            match s.mapFind y.key (laneNo f.bytes) (kclassOf y.kind y.flags) with
            | none => hdr 32 t
            | some k => ∀ z, s.listEnts (bits (s.ssWord (mapAt k + 8)) 0 17) (bits (s.ssWord (mapAt k + 12)) 0 16) = [z] →
                t.ssWord (cellAt z.sig) = (s.scaled z (fieldValue z.spec (fieldGet z.spec 0 y.data))).toNat
                ∧ t.ssWord (cellAt z.sig + 4) = (bits (s.ssWord (cellAt z.sig + 4)) 16 16 + 1) % 65536 * 65536 + bits (s.ssWord (cellAt z.sig + 4)) 1 15 * 2)))
    ∧ (s.gwRuns n = false ∨ s.nibConsumer (448 + j) ≠ some n.val → exec (.gatewayFrameUnpack n j) s = .next s)
    ∧ (s.gwOutput n m 0 = true → withheld = false → Does (.gatewayScheduledSend n m) s sends)
    ∧ (s.gwOutput n m 0 = true → withheld = true → Does (.gatewayScheduledSend n m) s holds)
    ∧ (s.gwOutput n m 0 = false → exec (.gatewayScheduledSend n m) s = .next s)
    ∧ (s.gwOutput n m 1 = true → m.val ∈ e.gwPend → s.gwGapOver n m = true →
        (withheld = false → Does (.gatewayTriggeredSend n m) s (fun t => sends t ∧ m.val ∉ (t.nibEng n).gwPend))
        ∧ (withheld = true → Does (.gatewayTriggeredSend n m) s (fun t => holds t ∧ m.val ∉ (t.nibEng n).gwPend)))
    ∧ (s.gwOutput n m 1 = false → exec (.gatewayTriggeredSend n m) s = .next s)

/-- T0 refuses STEP, SET, SLEW and ACCEPT with code 3 and ignores ADJ and RUN. On another Ruler a change is refused with code 2
while it is running and guarded, and with code 1, GUARDED, logged and reported, beyond the jump limit, unless ACCEPT exempted
it; a SLEW also with 3 when stopped, 5 while slewing, 4 above 1,000 ppm. A refusal leaves the time. STEP adds RUL_OFFSET and
SET sets the time, each ending a slew with STEP_EVT; SLEW starts to add the offset, and its end adds what is left with
SLEW_DONE_EVT; ADJ is stored within 1,000 ppm; ACCEPT ends GUARDED, or does nothing. RUN starts or stops T1 to T7. A mismatch
of its copies stops such a Ruler, and is reported, for T0 too. An error in a time-stamp record sets ECC_EVT; a corrected one
is counted and reported, another leaves the record with VALID 0; one in no record does nothing. Commands to a Ruler change no
other Ruler and no register of another. Where the rules can be read in two ways or leave a point open, it takes the reading
of log entries 125 to 134. (rests on: spec 12 R265; spec 12 R266; spec 12 R267; spec 12 R268; spec 12 R269; spec 12 R270;
spec 12 R284) -/
def Obligations.RulersChangeUnderTheJumpGuard : Prop :=
  ∀ (s : State) (r : Fin 8) (adj : BitVec 40) (run corr : Bool) (idx : Fin 8192),
    let x := s.ruler r
    let off := toSigned 64 (s.rd F.RUL_OFFSET_OFFSET r)
    let target := mkTime (s.rd F.RUL_SET_SEC r) (s.rd F.RUL_SET_NS r) (s.rd F.RUL_SET_FRAC r)
    let lim := s.rd F.RUL_JUMP_LIMIT_LIMIT_NS r
    let v := clampAdj (toSigned 40 adj.toNat)
    let code (jump : Nat) : Nat := if r.val = 0 then 3 else if s.rulerRuns r = true ∧ x.guard = .guarded then 2
      else if s.rulerRuns r = true ∧ x.guard ≠ .accepted ∧ lim ≠ 0 ∧ lim * 2 ^ 48 < jump then 1 else 0
    let own := [F.RUL_STAT_LAST_REFUSE, F.RUL_STAT_GUARD_EVT, F.RUL_STAT_GUARDED, F.RUL_GUARD_LOG_JUMP_NS, F.RUL_STAT_SLEWING, F.RUL_STAT_STEP_EVT, F.RUL_ADJ_ADJ]
    let others (t : State) : Prop := (∀ u, u ≠ r.val → t.ruler u = s.ruler u) ∧ RegsBut (F.RUL_CNT_COUNT :: own) s t ∧ ∀ f ∈ own, ElemsBut f r s t
    let refused (c jump : Nat) (t : State) : Prop := others t ∧ t.rd F.RUL_STAT_LAST_REFUSE r = c ∧ (t.ruler r).time = x.time ∧ t.rd F.RUL_ADJ_ADJ r = s.rd F.RUL_ADJ_ADJ r
      ∧ (c = 1 → t.rd F.RUL_STAT_GUARDED r = 1 ∧ t.rd F.RUL_STAT_GUARD_EVT r = 1 ∧ (t.ruler r).guard = .guarded
          ∧ t.transit = s.transit ++ [⟨0x178 + r, elemId 8 r, min (jump / 2 ^ 48) 0xFFFFFFFF⟩])
      ∧ (c ≤ 2 → t.rd F.RUL_CNT_COUNT 4 = (s.rd F.RUL_CNT_COUNT 4 + 1) % 2 ^ F.RUL_CNT_COUNT.width)
    let stepped (time : Nat) (t : State) : Prop := others t ∧ (t.ruler r).time = time ∧ (t.ruler r).slewing = false ∧ (t.ruler r).stepCount = x.stepCount + 1
      ∧ t.rd F.RUL_STAT_STEP_EVT r = 1 ∧ t.rd F.RUL_STAT_SLEWING r = 0
    let j1 := off.natAbs * 2 ^ 32
    let j2 := ((target : Int) - (x.time : Int)).natAbs
    let j3 := (v - s.adj r).natAbs * 2 ^ 32
    let slew : Nat := if r.val = 0 ∨ s.rulerRuns r = false then 3 else if x.guard = .guarded then 2 else if x.slewing = true then 5
      else if 65536000000 * max 1 (s.rd F.RUL_SLEW_SLEW_US r) < off.natAbs * 1000000 then 4 else code j1
    (code j1 = 0 → Does (.rulStep r) s (stepped (moveTime x.time (off * 2 ^ 32))))
    ∧ (code j1 ≠ 0 → Does (.rulStep r) s (refused (code j1) j1))
    ∧ (code j2 = 0 → Does (.rulSet r) s (stepped target))
    ∧ (code j2 ≠ 0 → Does (.rulSet r) s (refused (code j2) j2))
    ∧ (slew = 0 → Does (.rulSlew r) s (fun t => others t ∧ (t.ruler r).slewing = true ∧ (t.ruler r).slewLeft = off * 2 ^ 32 * 1000000000 ∧ (t.ruler r).time = x.time
        ∧ t.rd F.RUL_STAT_SLEWING r = 1))
    ∧ (slew ≠ 0 → Does (.rulSlew r) s (refused slew j1))
    ∧ (r.val ≠ 0 → x.guard = .guarded → Does (.rulAccept r) s (fun t => others t ∧ (t.ruler r).guard = .accepted ∧ t.rd F.RUL_STAT_GUARDED r = 0))
    ∧ (r.val ≠ 0 → x.guard ≠ .guarded → exec (.rulAccept r) s = .next s)
    ∧ (r.val = 0 → Does (.rulAccept r) s (refused 3 0))
    ∧ (r.val ≠ 0 → code j3 = 0 → Does (.rulAdjWrite r adj) s (fun t => others t ∧ t.adj r = v ∧ (t.ruler r).time = x.time))
    ∧ (r.val ≠ 0 → code j3 ≠ 0 → Does (.rulAdjWrite r adj) s (refused (code j3) j3))
    ∧ (r.val = 0 → exec (.rulAdjWrite r adj) s = .next s ∧ exec (.rulRunWrite r run) s = .next s)
    ∧ (x.slewing = true → Does (.slewDone r) s (fun t => (t.ruler r).time = moveTime x.time (x.slewLeft / 1000000000) ∧ (t.ruler r).slewing = false
        ∧ t.rd F.RUL_STAT_SLEW_DONE_EVT r = 1 ∧ t.rd F.RUL_STAT_SLEWING r = 0 ∧ (∀ u, u ≠ r.val → t.ruler u = s.ruler u)))
    ∧ (r.val ≠ 0 → Does (.rulRunWrite r run) s (fun t => t.rd F.RUL_CTL_RUN r = b2n run ∧ t.rd F.RUL_STAT_RUNNING r = b2n run ∧ t.rulers = s.rulers
        ∧ RegsBut [F.RUL_CTL_RUN, F.RUL_STAT_RUNNING] s t ∧ ElemsBut F.RUL_CTL_RUN r s t ∧ ElemsBut F.RUL_STAT_RUNNING r s t))
    ∧ Does (.rulerCopyMismatch (.copy r)) s (fun t => t.rd F.RUL_STAT_FAULT_EVT r = 1 ∧ (r.val ≠ 0 → t.rulerRuns r = false) ∧ t.rulers = s.rulers
        ∧ ∃ info, t.transit = s.transit ++ [⟨0x170 + r, elemId 8 r, info⟩])
    ∧ (∀ rec, s.tsRecs.find idx = some rec →
        Does (.rulerCopyMismatch (.record idx true)) s (fun t => t.rd F.RUL_TS_STAT_ECC_EVT 0 = 1 ∧ t.tsRecs = s.tsRecs
          ∧ t.rd F.RUL_CNT_COUNT 6 = (s.rd F.RUL_CNT_COUNT 6 + 1) % 2 ^ F.RUL_CNT_COUNT.width ∧ ∃ info, t.transit = s.transit ++ [⟨0x180, elemId 8 0, info⟩])
        ∧ Does (.rulerCopyMismatch (.record idx false)) s (fun t => t.rd F.RUL_TS_STAT_ECC_EVT 0 = 1 ∧ t.tsRecs.find idx = some { rec with valid := false } ∧ t.transit = s.transit))
    ∧ (s.tsRecs.find idx = none → exec (.rulerCopyMismatch (.record idx corr)) s = .next s)

/-- HOLD_MS after its frame was consumed a receive record is freed, and nothing else changes; at an index without such a record
nothing does. A write of the report ring's tail is stored, frees the transmit records of the reports consumed, at most up to
the head, and leaves the other records. A PPS output whose EN is set and whose Ruler runs asserts its pin; else the pulse
does not occur. The end of the pulse width deasserts it. While the main die runs the pin's level is its state, inverted by
POL. An edge of the polarity chosen on an enabled PPS input, at least 1 microsecond after the last one, frees the input's
last record, takes a new one where one is free and shows its index, else 0xFFFF, counts and sets PPS_IN_EVT; another edge
does nothing. Where the rules can be read in two ways or leave a point open, it takes the reading of log entries 125 to 134.
(rests on: spec 12 R271; spec 12 R273; spec 12 R274; spec 12 R281; spec 12 R282) -/
def Obligations.TimestampRecordsAndPps : Prop :=
  ∀ (s : State) (idx : Fin 8192) (tail : Fin 1024) (k : Fin 2) (falling : Bool),
    let held := match s.tsRecs.find idx with | some r => r.held && !r.tx | none => false
    let old := s.rd F.RUL_TXQ_TAIL_TAIL 0
    let n := min ((tail.val + 1024 - old) % 1024) ((s.rd F.RUL_TXQ_HEAD_HEAD 0 + 1024 - old) % 1024)
    let out := s.on F.RUL_PPS_OUT_EN k && s.rulerRuns (s.rd F.RUL_PPS_OUT_RULER k)
    let takes := s.on F.RUL_PPS_IN_EN k && decide (s.on F.RUL_PPS_IN_EDGE k = falling) && s.edgeFarEnough k
    let u := if s.rd F.RUL_PPS_IN_REC k = 0xFFFF then s else s.freeTs (s.rd F.RUL_PPS_IN_REC k)
    (held = true → Does (.tsRecordHoldExpiry idx) s (fun t => t = { s with tsRecs := t.tsRecs }
        ∧ t.tsRecs.find idx = none ∧ ∀ i, i ≠ idx.val → t.tsRecs.find i = s.tsRecs.find i))
    ∧ (held = false → exec (.tsRecordHoldExpiry idx) s = .next s)
    ∧ (old < 1024 → Does (.txqTailWrite tail) s (fun t => t.rd F.RUL_TXQ_TAIL_TAIL 0 = tail ∧ RegsBut [F.RUL_TXQ_TAIL_TAIL] s t
        ∧ (∀ j r, j < n → s.txRing.find ((old + j) % 1024) = some r → t.tsRecs.find r.recIdx = none)
        ∧ (∀ i, (∀ j r, j < n → s.txRing.find ((old + j) % 1024) = some r → r.recIdx ≠ i) → t.tsRecs.find i = s.tsRecs.find i)))
    ∧ (out = true → Does (.ppsOutPulse k) s (fun t => (t.ppsOut.get PpsPin.init k).asserted = true ∧ t = { s with ppsOut := t.ppsOut }
        ∧ (s.mainUp = true → t.ppsLevel k = some (!s.on F.RUL_PPS_OUT_POL k))))
    ∧ (out = false → exec (.ppsOutPulse k) s = .next s)
    ∧ Does (.ppsOutPulseEnd k) s (fun t => (t.ppsOut.get PpsPin.init k).asserted = false ∧ t = { s with ppsOut := t.ppsOut }
        ∧ (s.mainUp = true → t.ppsLevel k = some (s.on F.RUL_PPS_OUT_POL k)))
    ∧ (takes = true → Does (.ppsInEdge k falling) s (fun t =>
        t.rd F.RUL_PPS_IN_COUNT k = (s.rd F.RUL_PPS_IN_COUNT k + 1) % 2 ^ F.RUL_PPS_IN_COUNT.width ∧ t.rd F.RUL_TS_STAT_PPS_IN_EVT 0 = 1
        ∧ t.rd F.RUL_CNT_COUNT 5 = (s.rd F.RUL_CNT_COUNT 5 + 1) % 2 ^ F.RUL_CNT_COUNT.width
        ∧ (u.tsRecs.free 8192 = none → t.rd F.RUL_PPS_IN_REC k = 0xFFFF % 2 ^ F.RUL_PPS_IN_REC.width)
        ∧ (∀ i, u.tsRecs.free 8192 = some i → t.rd F.RUL_PPS_IN_REC k = i % 2 ^ F.RUL_PPS_IN_REC.width ∧
            t.tsRecs.find i = some (recordOf s.snap false 0xFF (s.rd F.RUL_PPS_IN_MASK k) (-(15 * 2 ^ 47))))))
    ∧ (takes = false → exec (.ppsInEdge k falling) s = .next s)

/-- KEY_UPDATE while BUSY is refused with 0x0B. Else the checks run in the order of the steps: format 0x01, UID 0x02, the device
counter at 262,144 0x0E, a counter not above the device's 0x03, more than 1,024 above it 0x04, above 262,144 0x0E, a tampered
device 0x0C, active tamper inputs 0x10, the fleet key 0x05, the signature 0x06, TYPE 4 naming the signing or last key 0x11,
the unwrap 0x07 and the attributes 0x08, the write 0x0A. A refusal sets LAST_ERR and REFUSED_EVT, counts, and leaves slots,
records and counter. A message that passes sets BUSY; TYPE 1 and 2 write a record of COUNTER m and the next GEN to its place,
and no slot has changed. The commit advances the counter to m with fuses up to m / 1,024 and a counter record in its place,
sets DONE_EVT and, for a record with the complex unsealed, puts the key into the slot with count 0 and no reservation but the
one being written, and wipes the units' copies of the slot; a sealed complex keeps its slots, and other slots stay. TYPE 3
clears the tamper flag and unseals: each slot holds its record in force, with its count at the newest reservation, or is
empty. TYPE 4 revokes the fleet key. The end of a reservation write raises RESERVED and records it. Without a message to
commit, or a reservation being written, the two completions change nothing. Where the rules can be read in two ways or leave
a point open, it takes the reading of log entries 145 to 158, 159 to 169. (rests on: spec 14 R307; spec 14 R308; spec 14
R309; spec 14 R311; spec 14 R312; spec 14 R320; spec 15 R336) -/
def Obligations.KeyUpdatesAreCheckedWrittenThenCommitted : Prop :=
  ∀ (s : State) (written tamp : Bool) (n : Fin 256),
    let m := s.keyMsg.read 0 288
    let typ := msgNat m 4 1
    let slot := msgNat m 6 2
    let new := msgNat m 24 4
    let c := s.rd F.KEY_KUC_COUNTER 0
    let form : Bool := decide (msgNat m 0 4 = 0x4B554D31) && decide (msgNat m 5 1 = 1) && decide (1 ≤ typ) && decide (typ ≤ 4)
      && (if typ ≤ 2 then decide (slot < 256) else decide (slot = 0xFFFF)) && decide (msgNat m 37 3 = 0) && decide (msgNat m 188 4 = 0)
      && (decide (typ = 1) || (decide (msgNat m 32 16 = 0) && decide (msgNat m 48 136 = 0))) && (decide (typ = 4) || decide (msgNat m 184 4 = 0))
    let first : Nat := if form = false then 0x01 else if (m.drop 8).take 16 ≠ fit 16 Config.uid then 0x02
      else if c = 262144 then 0x0E else if new ≤ c then 0x03 else if c + 1024 < new then 0x04 else if 262144 < new then 0x0E
      else if s.tamperFlag = true ∧ typ ≤ 2 then 0x0C else if typ = 3 ∧ tamp = true then 0x10
      else match s.fleetPos (msgNat m 28 4) with
        | none => 0x05
        | some k => if ecdsaVerify (Config.fleetKey k) (m.take 192) ((m.drop 192).take 96) = false then 0x06
          else if typ = 4 then (match s.fleetPos (msgNat m 184 4) with
            | none => 0x05
            | some j => if j = k ∨ ((List.range 4).filter s.fleetLive).length ≤ 1 then 0x11 else 0)
          else if typ = 1 then (updKey m).1 else 0
    let code := if first = 0 ∧ typ ≤ 2 ∧ written = false then 0x0A else first
    let rec1 : KeyRec := ⟨if typ = 1 then msgAttr m else KeyAttr.empty, if typ = 1 then (updKey m).2 else [], new, s.nextGen slot⟩
    let kept (t : State) : Prop := t.keySlots = s.keySlots ∧ t.kucHigh = s.kucHigh ∧ t.rd F.KEY_KUC_COUNTER 0 = c
      ∧ t.tamperFlag = s.tamperFlag ∧ t.fleetRevoked = s.fleetRevoked ∧ t.keyCopies = s.keyCopies
    let refused (e : Nat) (t : State) : Prop := t.rd F.KEY_STAT_LAST_ERR 0 = e % 256 ∧ t.rd F.KEY_STAT_REFUSED_EVT 0 = 1
      ∧ t.rd F.KEY_CNT_COUNT 4 = (s.rd F.KEY_CNT_COUNT 4 + 1) % 2 ^ F.KEY_CNT_COUNT.width ∧ kept t ∧ t.keyFlash = s.keyFlash ∧ t.keyCmd = s.keyCmd
      ∧ RegsBut [F.KEY_STAT_LAST_ERR, F.KEY_STAT_REFUSED_EVT, F.KEY_CNT_COUNT, F.KEY_STAT_BUSY] s t
    (s.on F.KEY_STAT_BUSY 0 = true → Does (.keyUpdate written tamp) s (refused 0x0B))
    ∧ (s.on F.KEY_STAT_BUSY 0 = false → code ≠ 0 → Does (.keyUpdate written tamp) s (fun t => refused code t ∧ t.rd F.KEY_STAT_BUSY 0 = 0 ∧ t.keyMsg = []))
    ∧ (s.on F.KEY_STAT_BUSY 0 = false → code = 0 → Does (.keyUpdate written tamp) s (fun t => t.rd F.KEY_STAT_BUSY 0 = 1 ∧ kept t ∧ RegsBut [F.KEY_STAT_BUSY] s t
        ∧ (typ ≤ 2 → t.keyFlash = (s.putRec slot rec1).keyFlash ∧ t.keyCmd = some ⟨typ, slot, new, msgNat m 184 4, some rec1⟩)
        ∧ (2 < typ → t.keyFlash = s.keyFlash ∧ t.keyCmd = some ⟨typ, 0, new, msgNat m 184 4, none⟩)))
    ∧ (s.keyCmd = none → exec .keyUpdateCommit s = .next s)
    ∧ (∀ k, s.keyCmd = some k → Does .keyUpdateCommit s (fun t =>
        t.rd F.KEY_KUC_COUNTER 0 = k.m % 2 ^ F.KEY_KUC_COUNTER.width ∧ t.kucHigh = max s.kucHigh (k.m / 1024) ∧ t.keyCmd = none ∧ t.keyMsg = []
        ∧ t.keyFlash = s.keyFlash.writes (ctrAddr s.ctrPlace) (ctrBody (k.m % 1024) t.kucHigh ++ ctrMac (k.m % 1024) t.kucHigh)
        ∧ t.rd F.KEY_STAT_BUSY 0 = 0 ∧ t.rd F.KEY_STAT_DONE_EVT 0 = 1 ∧ t.rd F.KEY_STAT_LAST_ERR 0 = 0
        ∧ t.rd F.KEY_CNT_COUNT 0 = (s.rd F.KEY_CNT_COUNT 0 + 1) % 2 ^ F.KEY_CNT_COUNT.width
        ∧ (k.typ ≠ 4 → t.fleetRevoked = s.fleetRevoked)
        ∧ (k.typ = 4 → ∀ j, s.fleetPos k.param = some j → t.fleetRevoked = setBitN s.fleetRevoked j)
        ∧ (k.typ = 3 → t.tamperFlag = false ∧ t.rd F.KEY_STAT_TAMPER_FLAG 0 = 0 ∧ t.rd F.KEY_STAT_UNSEALED 0 = 1 ∧ t.rd F.KEY_STAT_ZEROISED 0 = 0
            ∧ ∀ j, j < 256 → match t.recInForce j (t.rd F.KEY_KUC_COUNTER 0) with
              | none => t.keySlot j = KeySlot.empty
              | some r => (t.keySlot j).attr = (if r.attr.typ = 0 then KeyAttr.empty else r.attr)
                  ∧ (t.keySlot j).key = (if r.attr.typ = 0 then [] else fit 32 r.key)
                  ∧ (t.keySlot j).count = (if r.attr.typ = 0 then 0 else t.reservedOf j r.counter r.gen))
        ∧ (k.typ ≠ 3 → t.tamperFlag = s.tamperFlag ∧ (∀ j, j ≠ k.slot → t.keySlot j = s.keySlot j)
            ∧ (s.on F.KEY_STAT_UNSEALED 0 = false ∨ k.record = none → t.keySlots = s.keySlots) ∧ ∀ r, k.record = some r → s.on F.KEY_STAT_UNSEALED 0 = true →
            (t.keySlot k.slot).attr = (if r.attr.typ = 0 then KeyAttr.empty else r.attr)
            ∧ (t.keySlot k.slot).key = (if r.attr.typ = 0 then [] else fit 32 r.key)
            ∧ (t.keySlot k.slot).count = 0 ∧ (t.keySlot k.slot).reserved = 0 ∧ (∀ e ∈ t.keyCopies, e.1 % 256 ≠ k.slot)
            ∧ (t.keySlot k.slot).writing = (if r.attr.typ ≠ 0 ∧ 0 < r.attr.limit then some (min (2 ^ 64 - 1) (2 ^ r.attr.ckpt)) else none))))
    ∧ ((s.keySlot n).writing = none → exec (.reservationWriteDone n) s = .next s)
    ∧ (∀ v, (s.keySlot n).writing = some v → Does (.reservationWriteDone n) s (fun t => (t.keySlot n).reserved = v ∧ (t.keySlot n).count = (s.keySlot n).count
        ∧ (t.keySlot n).key = (s.keySlot n).key ∧ t.regs = s.regs ∧ (∀ j, j ≠ n.val → t.keySlot j = s.keySlot j)
        ∧ t.keyFlash = (s.putRes n (s.keySlot n).counter (s.keySlot n).gen v).keyFlash
        ∧ (v < 2 ^ 64 → v ≤ t.reservedOf n (s.keySlot n).counter (s.keySlot n).gen)))

/-- A command while BUSY is refused with 0x0B, on a sealed complex with 0x0D. GENERATE and DERIVE into a slot that is not empty
are refused with 0x09, with attributes that are not valid with 0x08, a source not READY with 0x12 or without DERIVE_SRC with
0x11, ERASE of an empty slot with 0x12 and of an imported key with 0x11, a failed TRNG with 0x0F, a failed write with 0x0A,
an uncovered use with 0x13. Else the new key (drawn, or derived from the source's key and LABEL) is in the slot and in its
record with ORIGIN 1 or its source's and count 0, the source has one more use, ERASE leaves the slot empty, ATTEST writes 96
bytes of body and their signature. No other slot changes. Re-masking after its period keeps the key. Parity empties the slot
in key RAM, wipes its copies and keeps its record. A TRNG failure makes KEY_RNG read 0; else KEY_RNG is 4 bytes of the DRBG;
a halted core reads nothing. A tamper alarm of a running main die zeroises every slot and copy, the DRBG and the lookaside
window, seals the complex, sets the flag and aborts an update with 0x0C (stated without frames in progress); a starting
device that is not unsealed sets its flag and log only; without power the AOC records inputs 0 and 1, and the monitors do
nothing. Where the rules can be read in two ways or leave a point open, it takes the reading of log entries 145 to 158.
(rests on: spec 14 R306; spec 14 R308; spec 14 R314; spec 14 R315; spec 14 R316; spec 14 R317; spec 14 R318; spec 14 R319) -/
def Obligations.KeyCommandsMakeEraseAndAttestAndTamperZeroises : Prop :=
  ∀ (s : State) (n src : Fin 256) (written : Bool) (ini : Initiator) (tamper : Fin 5),
    let x := s.keySlot n
    let y := s.keySlot src
    let a := s.attrReg
    let other (k : Nat) (t : State) : Prop := ∀ j, j ≠ k → t.keySlot j = s.keySlot j
    let start : Nat := if s.on F.KEY_STAT_BUSY 0 = true then 0x0B else if s.on F.KEY_STAT_UNSEALED 0 = false then 0x0D else 0
    let refused (e : Nat) (t : State) : Prop := t.rd F.KEY_STAT_LAST_ERR 0 = e ∧ t.rd F.KEY_STAT_REFUSED_EVT 0 = 1 ∧ t.keySlots = s.keySlots ∧ t.keyFlash = s.keyFlash
      ∧ RegsBut [F.KEY_STAT_LAST_ERR, F.KEY_STAT_REFUSED_EVT, F.KEY_CNT_COUNT] s t
    let done (t : State) : Prop := t.rd F.KEY_STAT_LAST_ERR 0 = 0 ∧ t.rd F.KEY_STAT_DONE_EVT 0 = 1
    let made (origin : Nat) (key : List Byte) (t : State) : Prop := done t ∧ (t.keySlot n).attr = { a with origin := origin } ∧ (t.keySlot n).count = 0
      ∧ (t.keySlot n).key = key ∧ (t.keySlot n).counter = s.keyCtrNow ∧ (t.keySlot n).gen = s.nextGen n
      ∧ t.keyFlash = (s.putRec n ⟨{ a with origin := origin }, key, s.keyCtrNow, s.nextGen n⟩).keyFlash
    let label := (List.range 8).flatMap (fun i => beBytes 4 (s.rd F.KEY_LABEL_BYTES i))
    let free : Nat := if x.state ≠ 0 then 0x09 else if (a.valid && decide (a.origin = 0)) = false then 0x08 else 0
    let gen : Nat := if start ≠ 0 then start else if free ≠ 0 then free else if s.trngFail = true then 0x0F else if written = false then 0x0A else 0
    let der : Nat := if start ≠ 0 then start else if y.state ≠ 1 then 0x12 else if y.attr.typ ≠ 5 ∨ y.attr.uses.testBit 8 = false then 0x11
      else if free ≠ 0 then free else if written = false then 0x0A else if y.reserved ≤ y.count then 0x13 else 0
    let era : Nat := if start ≠ 0 then start else if x.attr.typ = 0 then 0x12 else if x.attr.origin ≠ 1 then 0x11 else if written = false then 0x0A else 0
    let att : Nat := if start ≠ 0 then start else if s.trngFail = true then 0x0F else 0
    let powered := s.pd.inh = true ∧ s.phase ≠ .off
    let operating := s.phase = .running ∨ s.phase = .recovery ∨ s.on F.KEY_STAT_UNSEALED 0 = true
    let idle := s.flight = [] ∧ s.sealWait = [] ∧ s.sealHeld = [] ∧ ∀ p, p < 40 → (s.port p).tx = none
    let logged : Fld := match tamper.val with
      | 0 => F.KEY_TAMPER_LOG_TAMP0
      | 1 => F.KEY_TAMPER_LOG_TAMP1
      | 2 => F.KEY_TAMPER_LOG_VOLT
      | 3 => F.KEY_TAMPER_LOG_CLOCK
      | _ => F.KEY_TAMPER_LOG_TEMP
    (gen ≠ 0 → Does (.keyGenerate n written) s (refused gen))
    ∧ (gen = 0 → Does (.keyGenerate n written) s (fun t => made 1 (s.drawKey a.typ).2 t ∧ other n t))
    ∧ (der ≠ 0 → Does (.keyDerive src n written) s (refused der))
    ∧ (der = 0 → Does (.keyDerive src n written) s (fun t => (t.keySlot src).count = y.count + 1
        ∧ made y.attr.origin (fit 32 (kdf y.key label (uidBytes ++ beBytes 2 n) (if a.typ = 1 ∨ a.typ = 3 then 128 else 256))) t
        ∧ ∀ j, j ≠ n.val → j ≠ src.val → t.keySlot j = s.keySlot j))
    ∧ (era ≠ 0 → Does (.keyErase n written) s (refused era))
    ∧ (era = 0 → Does (.keyErase n written) s (fun t => done t ∧ (t.keySlot n).state = 0 ∧ (t.keySlot n).key = [] ∧ other n t
        ∧ (∀ e ∈ t.keyCopies, e.1 % 256 ≠ n.val) ∧ t.keyFlash = (s.putRec n ⟨KeyAttr.empty, [], s.keyCtrNow, s.nextGen n⟩).keyFlash))
    ∧ (att ≠ 0 → Does (.keyAttest n) s (refused att))
    ∧ (att = 0 → Does (.keyAttest n) s (fun t => done t ∧ t.keyAtt.length = 192 ∧ t.keyAtt.take 8 = beBytes 4 0x4B415431 ++ beBytes 2 n
        ++ beBytes 1 x.state ++ beBytes 1 (1 + 2 * b2n s.tamperFlag) ∧ (t.keyAtt.drop 8).take 16 = uidBytes ∧ (t.keyAtt.drop 32).take 16 = x.attr.bytes
        ∧ t.keyAtt.drop 96 = fit 96 (ecdsaSign idKey (t.keyAtt.take 96) s.signNonce.2) ∧ t.keySlots = s.keySlots ∧ t.keyFlash = s.keyFlash))
    ∧ (x.attr.typ = 0 ∨ s.now < x.maskAt + s.remaskPeriod ∨ s.trngFail = true → exec (.keyRemask n) s = .next s)
    ∧ (x.attr.typ ≠ 0 → x.maskAt + s.remaskPeriod ≤ s.now → s.trngFail = false → x.share.length ≤ 32 → Does (.keyRemask n) s (fun t =>
        (t.keySlot n).mask = (s.random 32).2 ∧ (t.keySlot n).maskAt = s.now ∧ (t.keySlot n).key = x.key ∧ (t.keySlot n).attr = x.attr ∧ (t.keySlot n).count = x.count
        ∧ other n t ∧ t.regs = s.regs))
    ∧ Does (.keyRamParity n) s (fun t => (t.keySlot n).state = 0 ∧ (t.keySlot n).key = [] ∧ other n t ∧ t.keyFlash = s.keyFlash ∧ t.regs = s.regs
        ∧ (∀ e ∈ t.keyCopies, e.1 % 256 ≠ n.val) ∧ ∃ info, t.transit = s.transit ++ [⟨0x1D0, elemId 12 n, info⟩])
    ∧ Does .trngHealthFail s (fun t => t.trngFail = true ∧ t.rd F.KEY_STAT_TRNG_FAIL_EVT 0 = 1 ∧ RegsBut [F.KEY_STAT_TRNG_FAIL_EVT] s t ∧ t.keySlots = s.keySlots
        ∧ ∃ info, t.transit = s.transit ++ [⟨0x1D2, elemId 12 0, info⟩])
    ∧ (s.coreHalted ini = true → exec (.keyRngRead ini) s = .next s)
    ∧ (s.coreHalted ini = false → s.trngFail = true → Does (.keyRngRead ini) s (fun t => t = { s with answer := some ⟨ini, .done, 0⟩ }))
    ∧ (s.coreHalted ini = false → s.trngFail = false → Does (.keyRngRead ini) s (fun t => t.answer = some ⟨ini, .done, beNat (s.random 4).2⟩
        ∧ t = { s with drbg := t.drbg, freeCtr := t.freeCtr, answer := t.answer }))
    ∧ (powered → operating → idle → Does (.tamperAlarm tamper) s (fun t => t.tamperFlag = true ∧ t.keySlots = [] ∧ t.keyCopies = [] ∧ t.drbg = none ∧ t.laWin = []
        ∧ t.rd F.KEY_STAT_UNSEALED 0 = 0 ∧ t.rd F.KEY_STAT_ZEROISED 0 = 1 ∧ t.rd F.KEY_STAT_TAMPER_FLAG 0 = 1 ∧ t.rd F.KEY_STAT_TAMPER_EVT 0 = 1
        ∧ t.rd logged 0 = 1 ∧ t.keyCmd = none ∧ (s.keyCmd.isSome = true → t.rd F.KEY_STAT_LAST_ERR 0 = 0x0C) ∧ t.keyFlash = s.keyFlash))
    ∧ (powered → ¬ operating → Does (.tamperAlarm tamper) s (fun t => t.tamperFlag = true ∧ t.rd F.KEY_STAT_TAMPER_FLAG 0 = 1 ∧ t.rd logged 0 = 1
        ∧ t.keySlots = s.keySlots ∧ t.keyFlash = s.keyFlash))
    ∧ (¬ powered → 2 ≤ tamper.val → exec (.tamperAlarm tamper) s = .next s)
    ∧ (¬ powered → tamper.val < 2 → Does (.tamperAlarm tamper) s (fun t => t.tamperFlag = true ∧ t.keyFlash = s.keyFlash
        ∧ t.tampRec = some (tamper.val, s.rd F.AOC_RTC_SEC 0)))

/-- A lookaside command while BUSY has no effect. Else it sets BUSY, and its result waits for LA_DONE: for a slot command 0x24 on
a sealed complex, 0x20 for a slot not READY, 0x22 for a wrong TYPE or use, 0x23 for lengths above the window or a bad TAGLEN,
else one use of the slot is counted and the cryptographic result is taken; a failed tag or signature is 0x21; a signature
without a TRNG is 0x0F. LA_DONE writes the output, zeros after an error, clears BUSY and sets RESULT and LA_DONE_EVT. The
oldest pending seal check of a lane is done: the frame passes when length, slot, freshness window and tag agree, which sets
LAST and ends the run of failures; else the cause is counted, SEAL_FAIL_EVT is set, the run grows, RESYNC_EVT at 16. A frame
that waits before Pipeline A enters it when it passes or has PASS_FAIL, else is gone; waiting copies leave, and without
PASS_FAIL no queue changes; a frame in the pipeline takes the result (stated where no frame is ready to settle). A fault of a
MACsec unit wipes its key copies, stops and blocks its protected transmissions, fails the received frames it holds and asks
for the unit's recovery; one of the lookaside engine ends its command with 0x24 and, where no check is pending, does no more;
a pending one is judged failed. Each sets UNIT_FAULT_EVT and is reported. Where the rules can be read in two ways or leave a
point open, it takes the reading of log entries 145 to 158, 159 to 169. (rests on: spec 15 R325; spec 15 R331; spec 15 R333;
spec 15 R334; spec 15 R336; spec 15 R338; spec 14 R306) -/
def Obligations.LookasideCommandsSealChecksAndCipherFaults : Prop :=
  ∀ (s : State) (slot : Fin 256) (tagLen : BitVec 5) (fleet : BitVec 4) (n : Fin 24) (u : Fin 3),
    let busy := s.on F.CIP_LA_STAT_BUSY 0
    let x := s.keySlot slot
    let key := keyBytes x.attr.typ x.key
    let aad := s.rd F.CIP_LA_LEN_AAD_LEN 0
    let len := s.rd F.CIP_LA_LEN_TEXT_LEN 0
    let text := s.laWin.read (0x100 + (aad + 15) / 16 * 16) len
    let tag := s.laWin.read 0x10 tagLen.toNat
    let code (use lo hi : Nat) (lenOk : Bool) : Nat := if s.on F.KEY_STAT_UNSEALED 0 = false then 0x24 else if x.state ≠ 1 then 0x20
      else if x.attr.typ < lo ∨ hi < x.attr.typ ∨ x.attr.uses.testBit use = false then 0x22 else if 7936 < aad + len ∨ lenOk = false then 0x23
      else if x.reserved ≤ x.count then 0x20 else 0
    let tagOk : Bool := decide (4 ≤ tagLen.toNat) && decide (tagLen.toNat ≤ 16)
    let ends (e : Nat) (out : LaRun) (t : State) : Prop := t.rd F.CIP_LA_STAT_BUSY 0 = 1 ∧ t.laWin = s.laWin
      ∧ t.laRun = some (if e = 0 then out else ⟨e, [], []⟩)
    let used (e : Nat) (t : State) : Prop := (e = 0 → (t.keySlot slot).count = x.count + 1 ∧ (t.keySlot slot).key = x.key ∧ ∀ j, j ≠ slot.val → t.keySlot j = s.keySlot j)
      ∧ (e ≠ 0 → t.keySlots = s.keySlots)
    let quiet := s.flight.any (fun g => g.integ && g.verdict.isSome) = false
    let kslot (i : Nat) : KeySlot := s.keySlot (s.rd F.CIP_SEAL_SLOT i)
    let fv (i : Nat) : Nat := s.rd F.CIP_SEAL_FV_LEN_M1 i + 1
    let mac (i : Nat) : Nat := max 3 (s.rd F.CIP_SEAL_MAC_LEN_M1 i) + 1
    let fresh (i : Nat) (f : LaneFrame) : Nat × Bool := freshOf (s.rd F.CIP_SEAL_LAST i) (fv i)
      (min (max 1 (s.rd F.CIP_SEAL_WINDOW i)) (2 ^ (8 * fv i) - 1)) (beNat ((f.data.drop (f.data.length - fv i - mac i)).take (fv i)))
    let why (i : Nat) (f : LaneFrame) : Nat := match s.sealPayload i f with
      | none => 4
      | some p => if s.sealReady i 7 = false ∨ (kslot i).reserved ≤ (kslot i).count then 6 else if (fresh i f).2 = false then 3
        else if s.sealTag i (kslot i).key (s.sealMsg i f (f.data.take p) (fresh i f).1) = f.data.drop (f.data.length - mac i) then 1 else 2
    let judged (i : Nat) (f : LaneFrame) (t : State) : Prop :=
      t.rd F.CIP_SEAL_CNT_COUNT (why i f) = (s.rd F.CIP_SEAL_CNT_COUNT (why i f) + 1) % 2 ^ F.CIP_SEAL_CNT_COUNT.width
        ∧ if why i f = 1 then t.rd F.CIP_SEAL_LAST i = (fresh i f).1 % 2 ^ F.CIP_SEAL_LAST.width ∧ t.rd F.CIP_SEAL_FAIL_RUN i = 0
          else t.rd F.CIP_SEAL_LAST i = s.rd F.CIP_SEAL_LAST i ∧ t.rd F.CIP_STAT_SEAL_FAIL_EVT 0 = 1
            ∧ t.rd F.CIP_SEAL_FAIL_RUN i = (min (s.rd F.CIP_SEAL_FAIL_RUN i + 1) (2 ^ F.CIP_SEAL_FAIL_RUN.width - 1))
            ∧ (t.rd F.CIP_SEAL_FAIL_RUN i = 16 → t.rd F.CIP_STAT_RESYNC_EVT 0 = 1)
    let plain (e : Nat) : Nat := if e ≠ 0 then e else if 7936 < aad + len then 0x23 else 0
    (busy = true → Does (.laGcmEnc slot) s (· = s) ∧ Does (.laGcmDec slot tagLen) s (· = s) ∧ Does (.laCmacGen slot) s (· = s) ∧ Does (.laCmacVerify slot tagLen) s (· = s)
        ∧ Does .laSha384 s (· = s) ∧ Does (.laEcdsaVerify fleet) s (· = s) ∧ Does .laEcdsaSign s (· = s))
    ∧ (busy = false →
        Does (.laGcmEnc slot) s (fun t => used (code 2 1 2 true) t ∧ let r := gcmEnc key (s.laWin.read 0 12) (s.laWin.read 0x100 aad) text
            ends (code 2 1 2 true) ⟨0, fit len r.1, fit 16 r.2⟩ t)
        ∧ Does (.laGcmDec slot tagLen) s (fun t => used (code 3 1 2 tagOk) t ∧ ends (code 3 1 2 tagOk)
            (match gcmDec key (s.laWin.read 0 12) (s.laWin.read 0x100 aad) text tag with | some p => ⟨0, fit len p, []⟩ | none => ⟨0x21, [], []⟩) t)
        ∧ Does (.laCmacGen slot) s (fun t => used (code 4 3 4 true) t ∧ ends (code 4 3 4 true) ⟨0, [], fit 16 (cmac key text)⟩ t)
        ∧ Does (.laCmacVerify slot tagLen) s (fun t => used (code 5 3 4 tagOk) t
            ∧ ends (code 5 3 4 tagOk) ⟨if (fit 16 (cmac key text)).take tagLen.toNat = tag then 0 else 0x21, [], []⟩ t)
        ∧ Does .laSha384 s (fun t => ends (plain 0) ⟨0, [], fit 48 (sha384 text)⟩ t ∧ t.keySlots = s.keySlots)
        ∧ Does .laEcdsaSign s (fun t => t.keySlots = s.keySlots ∧ ends (plain (if s.on F.KEY_STAT_UNSEALED 0 = false then 0x24 else if s.trngFail = true then 0x0F else 0))
            ⟨0, [], fit 96 (ecdsaSign idKey (ascii "VGN-USER" ++ text) s.signNonce.2)⟩ t)
        ∧ Does (.laEcdsaVerify fleet) s (fun t => t.keySlots = s.keySlots ∧ ends (plain (if fleet.toNat < 4 ∨ fleet.toNat = 15 then 0 else 0x22))
            ⟨if ecdsaVerify (if fleet.toNat = 15 then s.laWin.read 0x20 96 else Config.fleetKey fleet.toNat) text (s.laWin.read 0x80 96) = true then 0 else 0x21, [], []⟩ t))
    ∧ (∀ r, s.laRun = some r → r.tag.length ≤ 48 → Does .laDone s (fun t => t.laRun = none ∧ t.rd F.CIP_LA_STAT_BUSY 0 = 0 ∧ t.rd F.CIP_STAT_LA_DONE_EVT 0 = 1
        ∧ t.rd F.CIP_LA_STAT_RESULT 0 = r.result % 2 ^ F.CIP_LA_STAT_RESULT.width ∧ (∀ a, a < 0x2000 → t.laWin.byte a = s.laWin.byte a)
        ∧ (r.result = 0 → t.laWin.read 0x2010 r.tag.length = r.tag ∧ t.laWin.read (0x2100 + (aad + 15) / 16 * 16) r.text.length = r.text)
        ∧ (r.result ≠ 0 → ∀ a, 0x2000 ≤ a → t.laWin.byte a = 0)))
    ∧ (s.laRun = none → exec .laDone s = .next s)
    ∧ (s.sealFirst n = none → exec (.sealCheckDone n) s = .next s)
    ∧ (∀ k w, s.sealFirst n = some k → quiet → s.sealHeld.find? (fun g => decide (g.sealNo = k)) = none → s.sealWait.find? (fun x => decide (x.no = k)) = some w →
        Does (.sealCheckDone n) s (fun t => judged w.entry (laneOf w.frame.bytes) t ∧ t.sealWait = s.sealWait.filter (fun x => decide (x.no ≠ k))
          ∧ (why w.entry (laneOf w.frame.bytes) ≠ 1 → s.sealPassFail n w.entry = false → t.queues = s.queues)))
    ∧ (∀ k f, s.sealFirst n = some k → quiet → s.sealHeld.find? (fun g => decide (g.sealNo = k)) = some f → f.integ = false →
        Does (.sealCheckDone n) s (fun t => judged (f.sealEnt.getD 0) (laneOf f.bytes) t ∧ t.sealHeld = s.sealHeld.filter (fun g => decide (g.sealNo ≠ k))
          ∧ t.queues = s.queues
          ∧ (why (f.sealEnt.getD 0) (laneOf f.bytes) ≠ 1 → s.sealPassFail n (f.sealEnt.getD 0) = false → t.flight = s.flight)
          ∧ (why (f.sealEnt.getD 0) (laneOf f.bytes) = 1 ∨ s.sealPassFail n (f.sealEnt.getD 0) = true → s.recovering (pipeOf f.port) = false →
              t.flight = s.flight ++ [{ f with sealRes := some (decide (why (f.sealEnt.getD 0) (laneOf f.bytes) = 1)) }])))
    ∧ (∀ k m f, s.sealFirst n = some k → quiet → s.sealHeld.find? (fun g => decide (g.sealNo = k)) = none →
        s.sealWait.find? (fun x => decide (x.no = k)) = none → s.flightWith (fun g => g.sealPending && decide (g.sealNo = k)) = some (m, f) → f.integ = false →
        Does (.sealCheckDone n) s (fun t => judged (f.sealEnt.getD 0) (laneOf f.bytes) t ∧ t.queues = s.queues
          ∧ t.flight = s.flight.set m { f with sealRes := some (decide (why (f.sealEnt.getD 0) (laneOf f.bytes) = 1)) }))
    ∧ Does (.cipherUnitFault (Fin.castSucc u)) s (fun t => t.rd F.CIP_STAT_UNIT_FAULT_EVT 0 = 1 ∧ (∀ e ∈ t.keyCopies, e.1 / 256 ≠ u.val)
        ∧ (∃ info, (⟨0x0F2 + u, elemId 1 u, info⟩ : Report) ∈ t.transit)
        ∧ (t.recov.forwarding.running = some (.macsec u) ∨ Recovery.macsec u ∈ t.recov.forwarding.waiting ∨ Recovery.macsec u ∈ t.recov.forwarding.coming)
        ∧ (∀ g ∈ t.flight, g.secured = true → g.port < 40 → unitOf g.port = u.val → g.integ = false → g.icvOk = false)
        ∧ ∀ p, p < 40 → unitOf p = u.val → s.cipTx p = true → (t.port p).tx = none)
    ∧ (s.sealPend = [] → quiet → Does (.cipherUnitFault 3) s (fun t => t.rd F.CIP_STAT_UNIT_FAULT_EVT 0 = 1 ∧ (∀ e ∈ t.keyCopies, e.1 / 256 ≠ 3)
        ∧ (∃ info, t.transit = s.transit ++ [⟨0x017, elemDevice, info⟩])
        ∧ (s.laRun.isSome = true → t.laRun = some ⟨0x24, [], []⟩) ∧ (s.laRun = none → t.laRun = none)))
    ∧ (∀ w, s.sealPend = [(n.val, w.no)] → s.sealWait = [w] → s.sealHeld = [] → quiet → Does (.cipherUnitFault 3) s (fun t => t.rd F.CIP_STAT_UNIT_FAULT_EVT 0 = 1
        ∧ t.sealWait = [] ∧ t.rd F.CIP_SEAL_CNT_COUNT 6 = (s.rd F.CIP_SEAL_CNT_COUNT 6 + 1) % 2 ^ F.CIP_SEAL_CNT_COUNT.width
        ∧ t.rd F.CIP_STAT_SEAL_FAIL_EVT 0 = 1 ∧ (s.sealPassFail n w.entry = false → t.queues = s.queues)))

/-- A receive ring that runs writes the head frame of its CPU queue, or goes on with its held frame, into the descriptors it
owns: with enough of them each gets STATUS 0x8000_0000, HEAD advances past them and frame and octets are counted; else the
frame is held, or dropped and counted in NOBUF_DROP; HOLD_NS ends a hold with the drop, unless TAIL has advanced and so ended
the hold (HOLDING 0). A ring that does not run, owns no further descriptor or has no frame does nothing. A transmit ring
whose turn it is hands its frame on and writes one code to each descriptor, 3 for an invalid frame; code 0 counts frame and
octets. A descriptor or buffer outside an internal ring's reach is a ring error: STOPPED, ERR_EVT, a report, HEAD stays, a
held frame is dropped. So is a TAIL past HEAD, which is ignored, and a completion timeout. RESTART clears STOPPED. A write of
DMA_RING_CFG keeps TARGET and SIZE_LOG2 while EN is 1, and a start with both ADDR and SIZE_LOG2 changed sets HEAD and TAIL to
0. COAL_US after the first uncounted completion sets COMPL_EVT. Re-arming sends each pending vector or sets its pending bit.
Clearing Bus Master Enable, or D3hot, returns the host rings' held frames. Memory is stated with every MSI-X vector masked.
Where the rules can be read in two ways or leave a point open, it takes the reading of log entries 170 to 179. (rests on:
spec 16 R342; spec 16 R343; spec 16 R345; spec 16 R346; spec 16 R347; spec 16 R348; spec 16 R349; spec 16 R352) -/
def Obligations.DescriptorRingsMoveFramesAndStop : Prop :=
  ∀ (s : State) (r : Fin 64) (q j : Fin 32) (sw : List Host.Cell) (v : BitVec 15) (w : Word) (mask : BitVec 64) (vec : Fin 64) (d3 : Bool),
    let cnt (k n i : Nat) (t : State) : Prop := t.rd F.DMA_RING_CNT_COUNT (7 * k + i) = (s.rd F.DMA_RING_CNT_COUNT (7 * k + i) + n) % 2 ^ F.DMA_RING_CNT_COUNT.width
    let failed (k : Nat) (t : State) : Prop := t.rd F.DMA_RING_STAT_STOPPED k = 1 ∧ t.rd F.DMA_RING_STAT_ERR_EVT k = 1 ∧ t.rd F.DMA_RING_HEAD_HEAD k = s.rd F.DMA_RING_HEAD_HEAD k
      ∧ (t.ring k).held = none ∧ ∃ info, (⟨0x190 + k, elemId 9 k, info⟩ : Report) ∈ t.transit
    let a := s.ringSw q sw
    let b := s.ringSw (32 + j) sw
    let received (e : QEnt) (f : Frame) (lo time : Nat) (t : State) : Prop :=
      let bs := a.rxBytes q f
      let n := descsFor bs.length
      let own := a.ringOwned q
      if a.rxReach q lo (min n own) = false then failed q t ∧ cnt q 1 4 t
      else if n ≤ own then t.rd F.DMA_RING_HEAD_HEAD q = (a.ringHead q + n) % a.ringSize q % 2 ^ F.DMA_RING_HEAD_HEAD.width ∧ (t.ring q).held = none ∧ t.rd F.DMA_RING_STAT_HOLDING q = 0
        ∧ cnt q 1 0 t ∧ cnt q bs.length 1 t ∧ ∀ k, k < n → (t.ringMem q).read (a.descAt q k + 28) 4 = leBytes 4 0x80000000
      else if s.on F.DMA_RING_CFG_RX_HOLD q = true then (t.ring q).held = some ⟨e, own, time⟩ ∧ t.rd F.DMA_RING_STAT_HOLDING q = 1 ∧ t.rd F.DMA_RING_STAT_HOLD_EVT q = 1
        ∧ t.rd F.DMA_RING_HEAD_HEAD q = s.rd F.DMA_RING_HEAD_HEAD q
      else (t.ring q).held = none ∧ t.rd F.DMA_RING_STAT_NOBUF_EVT q = 1 ∧ cnt q 1 2 t ∧ t.rd F.DMA_RING_HEAD_HEAD q = s.rd F.DMA_RING_HEAD_HEAD q
    let tailOk : Bool := decide ((v.toNat + s.ringSize r - s.ringTail r) % s.ringSize r
      ≤ (s.ringHead r + s.ringSize r - 1 + s.ringSize r - s.ringTail r) % s.ringSize r)
    (s.msix.table = [] → (a.ring q).held = none → a.ringRuns q = true → a.ringOwned q ≠ 0 → ∀ e f, (a.pruned (cpuQueue q)).headOf (cpuQueue q) = some (e, f) →
        Does (.dmaRxFrame q sw) s (received e f 0 (s.mtime / 4 % 2 ^ 32)))
    ∧ (s.msix.table = [] → ∀ h f, (a.ring q).held = some h → h.taken < a.ringOwned q → s.frames.find h.ent.first = some f → Does (.dmaRxFrame q sw) s (received h.ent f h.taken h.time))
    ∧ ((a.ring q).held = none → a.ringRuns q = false ∨ a.ringOwned q = 0 → Does (.dmaRxFrame q sw) s (fun t => t.regs = s.regs ∧ t.rings = s.rings ∧ t.queues = s.queues))
    ∧ (∀ h, (a.ring q).held = some h → a.ringOwned q ≤ h.taken → Does (.dmaRxFrame q sw) s (fun t => t.regs = s.regs ∧ t.rings = s.rings ∧ t.queues = s.queues))
    ∧ ((s.ring q).held = none ∨ s.on F.DMA_RING_STAT_HOLDING q = false → Does (.dmaRxHoldTimeout q) s (fun t => t.regs = s.regs ∧ t.rings = s.rings ∧ t.queues = s.queues))
    ∧ ((s.ring q).held.isSome = true → s.on F.DMA_RING_STAT_HOLDING q = true → Does (.dmaRxHoldTimeout q) s (fun t => (t.ring q).held = none ∧ t.rd F.DMA_RING_STAT_HOLDING q = 0
        ∧ t.rd F.DMA_RING_STAT_NOBUF_EVT q = 1 ∧ cnt q 1 3 t ∧ cnt q 1 2 t))
    ∧ (s.msix.table = [] → b.txTurn = some (32 + j) → ∀ n, b.txFrameLen (32 + j) = some n → Does (.dmaTxFrame j sw) s (fun t =>
        let ds := (List.range n).map (fun k => b.txDescAt (32 + j) k)
        let bs := (ds.map (fun d => (b.ringMem (32 + j)).read d.buf (min d.len 2048))).flatten
        t.ringLast = 32 + j ∧
        if ((List.range n).all (fun k => b.ringReach (32 + j) (b.descAt (32 + j) k) 32) && ds.all (fun d => b.ringReach (32 + j) d.buf d.len)) = false then
          t.rd F.DMA_RING_STAT_STOPPED (32 + j) = 1 ∧ t.rd F.DMA_RING_STAT_ERR_EVT (32 + j) = 1 ∧ t.rd F.DMA_RING_HEAD_HEAD (32 + j) = s.rd F.DMA_RING_HEAD_HEAD (32 + j)
        else t.rd F.DMA_RING_HEAD_HEAD (32 + j) = (b.ringHead (32 + j) + n) % b.ringSize (32 + j) % 2 ^ F.DMA_RING_HEAD_HEAD.width
          ∧ ∃ code, (txOk ds bs = false → code = 3) ∧ (txOk ds bs = true → (ds.headD ⟨0, 0, 0, 0, 0⟩).flags.testBit 3 = false → code = 0)
            ∧ (∀ k, k < n → (t.ringMem (32 + j)).read (b.descAt (32 + j) k + 28) 4 = leBytes 4 (2 ^ 31 + 2 ^ 24 * code))
            ∧ (code = 0 → cnt (32 + j) 1 0 t ∧ cnt (32 + j) bs.length 1 t) ∧ (code = 1 → cnt (32 + j) 1 5 t) ∧ (code = 3 → cnt (32 + j) 1 6 t)))
    ∧ (b.txTurn ≠ some (32 + j) → Does (.dmaTxFrame j sw) s (fun t => t.regs = s.regs ∧ t.ringLast = s.ringLast ∧ t.queues = s.queues ∧ t.flight = s.flight))
    ∧ (tailOk = true → Does (.dmaRingTailWrite r v) s (fun t =>
          t.rd F.DMA_RING_TAIL_TAIL r = v.toNat ∧ ElemsBut F.DMA_RING_TAIL_TAIL r s t ∧ RegsBut [F.DMA_RING_TAIL_TAIL, F.DMA_RING_STAT_HOLDING] s t
            ∧ ElemsBut F.DMA_RING_STAT_HOLDING r s t ∧ t.rings = s.rings
            ∧ t.rd F.DMA_RING_STAT_HOLDING r = (match (s.ring r).held with
              | some h => if h.taken < (s.wr F.DMA_RING_TAIL_TAIL r v.toNat).ringOwned r then 0 else s.rd F.DMA_RING_STAT_HOLDING r
              | none => s.rd F.DMA_RING_STAT_HOLDING r)))
    ∧ (tailOk = false → Does (.dmaRingTailWrite r v) s (fun t => failed r t ∧ t.rd F.DMA_RING_TAIL_TAIL r = s.rd F.DMA_RING_TAIL_TAIL r))
    ∧ Does (.dmaRingRestart r) s (fun t => t.rd F.DMA_RING_STAT_STOPPED r = 0 ∧ ElemsBut F.DMA_RING_STAT_STOPPED r s t ∧ RegsBut [F.DMA_RING_STAT_STOPPED] s t
        ∧ t = { s with regs := t.regs })
    ∧ Does (.dmaRingEnWrite r w) s (fun t =>
        let was := s.on F.DMA_RING_CFG_EN r
        t.rd F.DMA_RING_CFG_EN r = bits w.toNat 31 1 ∧ t.rd F.DMA_RING_CFG_RX_HOLD r = bits w.toNat 29 1 ∧ t.rd F.DMA_RING_CFG_KEEP_FCS r = bits w.toNat 28 1
          ∧ t.rd F.DMA_RING_CFG_TARGET r = (if was = true then s.rd F.DMA_RING_CFG_TARGET r else bits w.toNat 30 1)
          ∧ t.rd F.DMA_RING_CFG_SIZE_LOG2 r = (if was = true then s.rd F.DMA_RING_CFG_SIZE_LOG2 r else bits w.toNat 8 4)
          ∧ if was = false ∧ w.toNat.testBit 31 = true ∧ (match (s.ring r).ran with
              | some (addr, log) => decide (addr ≠ s.rd F.DMA_RING_BASE_ADDR r) && decide (log ≠ t.ringLog r) | none => false) = true
            then t.rd F.DMA_RING_HEAD_HEAD r = 0 ∧ t.rd F.DMA_RING_TAIL_TAIL r = 0
            else t.rd F.DMA_RING_HEAD_HEAD r = s.rd F.DMA_RING_HEAD_HEAD r ∧ t.rd F.DMA_RING_TAIL_TAIL r = s.rd F.DMA_RING_TAIL_TAIL r)
    ∧ (s.on F.DMA_RING_IRQ_COAL_US r = true → 0 < (s.ring r).uncounted → Does (.dmaCoalesceTimer r) s (fun t =>
        t.rd F.DMA_RING_STAT_COMPL_EVT r = 1 ∧ (t.ring r).uncounted = 0 ∧ RegsBut [F.DMA_RING_STAT_COMPL_EVT] s t))
    ∧ (s.on F.DMA_RING_IRQ_COAL_US r = false ∨ (s.ring r).uncounted = 0 → Does (.dmaCoalesceTimer r) s (fun t => t.regs = s.regs ∧ t.rings = s.rings))
    ∧ (s.ringRuns r = true ∨ (s.ring r).held.isSome = true → Does (.dmaCplTimeout r) s (fun t => failed r t ∧ ((s.ring r).held.isSome = true → cnt r 1 4 t)))
    ∧ (s.ringRuns r = false → (s.ring r).held = none → Does (.dmaCplTimeout r) s (fun t => t.regs = s.regs ∧ t.rings = s.rings))
    ∧ Does (.dmaVecRearm mask) s (fun t =>
        let due : Bool := (!s.msix.disarmed.contains vec.val || mask.toNat.testBit vec) && s.vecPending vec
        let masked (x : Nat) : Bool := decide (s.msixWord (4 * x + 3) % 2 = 1)
        t.regs = s.regs ∧ t.msix.table = s.msix.table
          ∧ (masked vec = true → due = true → vec.val ∈ t.msix.pba) ∧ (masked vec = false → due = true → s.busMaster = true → vec.val ∈ t.msix.disarmed ∧ vec.val ∉ t.msix.pba
            ∧ ((∀ x, x ≠ vec.val → masked x = true) → t.hostMem.read (s.msixWord (4 * vec) + 2 ^ 32 * s.msixWord (4 * vec + 1)) 4 = leBytes 4 (s.msixWord (4 * vec + 2))))
          ∧ (due = false → vec.val ∉ s.msix.pba → vec.val ∉ t.msix.pba ∧ (vec.val ∈ t.msix.disarmed → vec.val ∈ s.msix.disarmed)))
    ∧ (s.pcieUp = false → exec (.pcieBmeClear d3) s = .next s)
    ∧ (s.pcieUp = true → Does (.pcieBmeClear d3) s (fun t => (if d3 = true then t.rd F.DMA_PCIE_STAT_DSTATE 0 = 3 else t.rd F.DMA_PCIE_STAT_BME 0 = 0)
          ∧ (s.internal r = false → (t.ring r).held = none) ∧ (s.internal r = true → t.ring r = s.ring r)))

/-- A halted core makes no access. A BAR2 access that is not aligned, beyond the window, through an aperture that is not enabled,
with the bridge off or in DOZE or an entry to it ends at once with the refusal error. A write through a poisoned aperture
completes and is dropped with POISON_DROP. Without a free slot an access waits. Else it takes the lowest free slot, with the
next SEQ of its stream and RESYNC after a timeout; a write completes at once; a request to another device is sent and
counted; one to the device itself, without RESP_EN, is not sent. An OK frees a write's slot; another final status, or a write
timeout, fails it: WR_FAIL, BRG_WERR unless VALID, every aperture of the device poisoned, WERR_EVT and a report. BUSY and
ORDER wait for a resend. A read that is alone completes with its data, or with the remote error after a failure, a poisoned
aperture or a timeout, which also resyncs the stream and remembers the read. A retry resends with the same TAG and SEQ and
counts, or after RETRY_MAX fails a write and ends a read with the remote error. Where the rules can be read in two ways or
leave a point open, it takes the reading of log entries 180 to 191. (rests on: spec 17 R356; spec 17 R359; spec 17 R360; spec
17 R361; spec 17 R362; spec 17 R363; spec 17 R364) -/
def Obligations.LigatureAccessesArePostedSentAndFail : Prop :=
  ∀ (s : State) (ini : Initiator) (off : Nat) (val : Word) (k : Fin 64) (p : Nat) (sec : Bool) (bs : List Byte) (rest : List (Nat × Bool × List Byte)) (r : LigReq),
    let ap := off / 2 ^ 20
    let dev := s.rd F.BRG_APT_DEV ap
    let cnt (i : Nat) (t : State) : Prop := t.rd F.BRG_CNT_COUNT i = (s.rd F.BRG_CNT_COUNT i + 1) % 2 ^ F.BRG_CNT_COUNT.width
    let refused : Prop := off % 4 ≠ 0 ∨ 2 ^ 26 ≤ off ∨ s.on F.BRG_CTL_EN 0 = false ∨ s.on F.BRG_APT_EN ap = false ∨ s.dozing = true ∨ s.entering = true
    let taken (write : Bool) (t : State) : Prop :=
      let x := s.ligStream (iniNo ini) dev
      let gen := match s.lig.gens.find k with | some g => (g + 1) % 1024 | none => 0
      t.lig.out = s.lig.out ++ [⟨k, gen, iniNo ini, dev, write, ap, s.rd F.BRG_APT_BASE ap * 2 ^ 20 + off % 2 ^ 20, if write = true then val.toNat else 0, x.next, 0, false, none, 0, false, x.resync⟩]
        ∧ t.ligStream (iniNo ini) dev = ⟨(x.next + 1) % 65536, false⟩
    let failed (r : LigReq) (status : Nat) (t : State) : Prop := cnt 9 t ∧ t.ligSlot r.slot = none ∧ t.rd F.BRG_STAT_WERR_EVT 0 = 1
      ∧ (∀ a, a < 64 → t.rd F.BRG_APT_POISON a = if s.rd F.BRG_APT_DEV a = r.dev then 1 else s.rd F.BRG_APT_POISON a)
      ∧ (∃ info, (⟨0x1E0, elemId 0xD r.dev, info⟩ : Report) ∈ t.transit)
      ∧ if s.on F.BRG_WERR_VALID 0 = true then cnt 19 t ∧ t.rd F.BRG_WERR_ADDR 0 = s.rd F.BRG_WERR_ADDR 0
        else t.rd F.BRG_WERR_VALID 0 = 1 ∧ t.rd F.BRG_WERR_STATUS 0 = status % 256 ∧ t.rd F.BRG_WERR_ADDR 0 = r.addr % 2 ^ 32 ∧ t.rd F.BRG_WERR_DATA 0 = r.data % 2 ^ 32
          ∧ t.rd F.BRG_WERR_DEV 0 = r.dev % 4096 ∧ t.rd F.BRG_WERR_INIT 0 = r.ini % 4
    let b := s.tisBody bs
    let x := tisOf b
    let matched (op : Nat) : Prop := s.brgRx = (p, sec, bs) :: rest ∧ x.op = op ∧ tisGood b [0x81, 0x82, 0x83] = true ∧ s.mainUp = true ∧ s.dozing = false
      ∧ s.lig.out = [r] ∧ tisFor x r = true ∧ r.status = none ∧ r.backoff = false
    (s.mainUp = false ∨ ini = .ligature ∨ s.coreHalted ini = true → exec (.bar2Write ini off val) s = .next s ∧ exec (.bar2Read ini off) s = .next s)
    ∧ (s.mainUp = true → ini ≠ .ligature → s.coreHalted ini = false → refused → Does (.bar2Write ini off val) s (· = s.reply ini (refusalKind ini) 0) ∧ Does (.bar2Read ini off) s (· = s.reply ini (refusalKind ini) 0))
    ∧ (s.mainUp = true → ini ≠ .ligature → s.coreHalted ini = false → ¬ refused → s.lig.wait = [] →
        (s.poisoned ap = true → Does (.bar2Write ini off val) s (fun t => t.answer = some ⟨ini, .done, 0⟩ ∧ cnt 10 t ∧ t.lig = s.lig))
        ∧ (s.ligFree = none → (s.poisoned ap = false → Does (.bar2Write ini off val) s (fun t => t = { s with lig := { s.lig with wait := [⟨iniNo ini, true, off, val.toNat⟩] } }))
            ∧ Does (.bar2Read ini off) s (fun t => t = { s with lig := { s.lig with wait := [⟨iniNo ini, false, off, 0⟩] } }))
        ∧ (s.ligFree = some k → dev ≠ s.myDev → (s.poisoned ap = false → Does (.bar2Write ini off val) s (fun t => taken true t ∧ cnt 0 t ∧ t.answer = some ⟨ini, .done, 0⟩))
            ∧ Does (.bar2Read ini off) s (fun t => taken false t ∧ cnt 0 t ∧ t.answer = s.answer))
        ∧ (s.ligFree = some k → dev = s.myDev → s.on F.BRG_RESP_CFG_RESP_EN 0 = false →
            (s.poisoned ap = false → Does (.bar2Write ini off val) s (fun t => taken true t ∧ t.regs = s.regs ∧ t.answer = some ⟨ini, .done, 0⟩))
            ∧ Does (.bar2Read ini off) s (fun t => taken false t ∧ t.regs = s.regs ∧ t.answer = s.answer)))
    ∧ (matched 0x82 → s.lig.wait = [] → Does .tisulerResponseRx s (fun t => t.brgRx = rest ∧ cnt 1 t ∧
        if x.status = 3 ∨ x.status = 4 then cnt (if x.status = 3 then 5 else 13) t ∧ t.lig.out = [{ r with backoff := true }]
        else if x.status = 0 then t.lig = { s.lig with out := [] } ∧ RegsBut [F.BRG_CNT_COUNT] s t else failed r x.status t))
    ∧ (matched 0x81 → s.lig.wait = [] → x.status ≠ 3 → x.status ≠ 4 → Does .tisulerResponseRx s (fun t => t.lig.out = [] ∧ cnt 1 t ∧ RegsBut [F.BRG_CNT_COUNT] s t ∧
        t.answer = if x.status = 0 ∧ r.taint = false ∧ s.poisoned r.ap = false then some ⟨iniOf r.ini, .done, x.data⟩ else some ⟨iniOf r.ini, remoteKind (iniOf r.ini), 0⟩))
    ∧ (s.lig.out = [r] → s.lig.wait = [] → r.slot = k.val →
        (r.write = true → Does (.ligatureWriteTimeout k) s (fun t => failed r 0xFF t ∧ cnt 8 t ∧ (t.ligStream r.ini r.dev).resync = true))
        ∧ (r.write = false → r.status = none → Does (.ligatureReadTimeout k) s (fun t => t.lig.out = [] ∧ cnt 7 t ∧ (t.ligStream r.ini r.dev).resync = true
            ∧ t.lig.late.find k = some r ∧ t.answer = some ⟨iniOf r.ini, remoteKind (iniOf r.ini), 0⟩))
        ∧ (r.backoff = true → r.resends < s.rd F.BRG_RETRY_RETRY_MAX 0 → r.dev ≠ s.myDev → r.status = none → Does (.ligatureRetry k) s (fun t => cnt 6 t ∧ cnt 0 t
            ∧ t.lig.out = [{ r with resends := r.resends + 1, backoff := false, resync := r.resync || (s.ligStream r.ini r.dev).resync }]))
        ∧ (r.backoff = true → s.rd F.BRG_RETRY_RETRY_MAX 0 ≤ r.resends → r.write = true → Does (.ligatureRetry k) s (failed r 3))
        ∧ (r.backoff = true → s.rd F.BRG_RETRY_RETRY_MAX 0 ≤ r.resends → r.write = false → Does (.ligatureRetry k) s (fun t => t.lig.out = [] ∧ t.regs = s.regs
            ∧ t.answer = some ⟨iniOf r.ini, remoteKind (iniOf r.ini), 0⟩))
        ∧ (r.backoff = false → exec (.ligatureRetry k) s = .next s))

/-- A request with the device's own number counts DUP_DEV and is reported. With RESP_EN clear, from a port outside
BRG_RESP_PORTS, or unsecured where REQUIRE_SECURE asks for it, it is discarded. A bad format and a POLL are answered without
a slot. With a free slot a request behind its stream's SEQ is discarded and counted, one ahead is answered without execution,
and one in order to a denied region takes a slot, advances the SEQ and is answered with DENIED counted; to another register
of the main die it is executed as the Ligature initiator and answered with status 0 and its data, to none it is answered with
1 and 0x007 is reported. Without a free slot one of a higher device is answered BUSY, one of a lower waits in the FIFO or is
dropped. A slot that frees with an empty FIFO is free. A response that matches nothing counts STRAY; one of a read that timed
out is kept as late. A poll counts POLLS; its answer clears UNREACH and records a changed summary; the third missed poll sets
UNREACH with a report. Where the rules can be read in two ways or leave a point open, it takes the reading of log entries 180
to 191. (rests on: spec 17 R354; spec 17 R358; spec 17 R360; spec 17 R364; spec 17 R365; spec 17 R366; spec 17 R367) -/
def Obligations.LigatureResponderAnswersAndWatches : Prop :=
  ∀ (s : State) (p : Nat) (sec : Bool) (bs : List Byte) (rest : List (Nat × Bool × List Byte)) (w : Fin 64) (r : LigReq),
    let b := s.tisBody bs
    let x := tisOf b
    let cnt (i : Nat) (t : State) : Prop := t.rd F.BRG_CNT_COUNT i = (s.rd F.BRG_CNT_COUNT i + 1) % 2 ^ F.BRG_CNT_COUNT.width
    let only (t : State) : Prop := t.lig = s.lig ∧ RegsBut [F.BRG_CNT_COUNT, F.PP_CNT_COUNT] s t
    let shut : Bool := !s.on F.BRG_RESP_CFG_RESP_EN 0 || !s.bit F.BRG_RESP_PORTS_PORTS 0 p || (s.on F.BRG_RESP_CFG_REQUIRE_SECURE 0 && !sec)
    let want := if x.flags % 2 = 1 then x.seq else s.lig.expect.get 0 (4096 * x.init + x.src)
    let ahead := (x.seq + 65536 - want) % 65536
    let u := State.brgCnt { s with brgRx := rest } 2
    let v : State := { u with lig := { u.lig with expect := u.lig.expect.set 0 (4096 * x.init + x.src) ((x.seq + 1) % 65536) } }
    let run := if x.op = 2 then (v.regWrite .ligature x.addr x.data, 0) else v.regRead .ligature x.addr
    let denied : Bool := (decide (0xC00000 ≤ x.addr) && decide (x.addr < 0xD00000)) || (decide (0xD80000 ≤ x.addr) && decide (x.addr < 0xE00000))
      || (decide (0xF00000 ≤ x.addr) && decide (x.addr < 0x1000000))
    (s.brgRx = (p, sec, bs) :: rest → s.mainUp = true → s.dozing = false → x.op < 0x80 → Does .tisulerRequestRx s (fun t => t.brgRx = rest ∧ cnt 2 t ∧
        if x.src = s.myDev then only t ∧ cnt 18 t ∧ ∃ info, t.transit = s.transit ++ [⟨0x1E2, elemId 0xD s.myDev, info⟩]
        else if shut = true then t = { s with brgRx := rest, regs := t.regs } ∧ only t
        else if tisGood b [1, 2, 3] = false ∨ x.op = 3 then only t ∧ cnt 3 t
        else if s.lig.resp < 64 then
          (ahead = 0 → denied = true → cnt 16 t ∧ cnt 3 t ∧ RegsBut [F.BRG_CNT_COUNT, F.PP_CNT_COUNT] s t ∧ t.lig.resp = s.lig.resp + 1
            ∧ t.lig.expect.get 0 (4096 * x.init + x.src) = (x.seq + 1) % 65536)
          ∧ (ahead = 0 → denied = false → x.addr % 4 ≠ 0 ∨ s.reached x.addr = false → cnt 3 t ∧ t.lig.resp = s.lig.resp + 1
              ∧ ∃ info, (⟨0x007, elemDevice, info⟩ : Report) ∈ t.transit)
          ∧ (ahead = 0 → denied = false → x.addr % 4 = 0 → s.reached x.addr = true → run.1.mainUp = true →
              t = State.tisAnswer { run.1 with lig := { run.1.lig with resp := run.1.lig.resp + 1 } } x 0 run.2)
          ∧ (ahead ≠ 0 → ahead < 32768 → only t ∧ cnt 3 t)
          ∧ (32768 ≤ ahead → only t ∧ cnt 11 t ∧ t.flight = s.flight)
        else if s.myDev < x.src then only t ∧ cnt 4 t ∧ cnt 3 t
        else if s.lig.fifo.length < 256 then t.lig = { s.lig with fifo := s.lig.fifo ++ [b] } ∧ t.flight = s.flight
        else only t ∧ cnt 12 t ∧ t.flight = s.flight))
    ∧ Does .responderSlotFree s (fun t => (s.lig.resp = 0 → t = s) ∧ (0 < s.lig.resp → s.lig.fifo = [] → t = { s with lig := { s.lig with resp := s.lig.resp - 1 } }))
    ∧ (s.brgRx = (p, sec, bs) :: rest → s.mainUp = true → s.dozing = false → 0x80 ≤ x.op → s.lig.out = [] → Does .tisulerResponseRx s (fun t => t.brgRx = rest ∧ cnt 1 t ∧
        if tisGood b [0x81, 0x82, 0x83] = false then only t
        else if x.op = 0x83 ∧ s.lig.polled.contains x.tag = true ∧ s.rd F.BRG_WATCH_DEV x.tag = x.dst then
          t.rd F.BRG_WATCH_UNREACH x.tag = 0 ∧ t.lig.polled.contains x.tag = false ∧
          (s.rd F.BRG_WATCH_SUMMARY x.tag ≠ x.data → t.rd F.BRG_WATCH_SUMMARY x.tag = x.data % 2 ^ 32 ∧ t.rd F.BRG_STAT_WATCH_EVT 0 = 1
            ∧ t.rd F.BRG_WATCH_CHG_CHG 0 = setBitN (s.rd F.BRG_WATCH_CHG_CHG 0) x.tag % 2 ^ 64)
        else if x.op ≠ 0x83 ∧ s.lig.late.find (x.tag % 64) = some r ∧ tisFor x r = true then
          cnt 14 t ∧ t.rd F.BRG_STAT_LATE_EVT 0 = 1 ∧ t.rd F.BRG_LATE_DATA_VALID 0 = 1 ∧ t.rd F.BRG_LATE_DATA_DATA 0 = x.data % 2 ^ 32
            ∧ t.rd F.BRG_LATE_DATA_STATUS 0 = x.status % 256 ∧ t.rd F.BRG_LATE_DATA_ADDR 0 = r.addr % 2 ^ 32 ∧ t.rd F.BRG_LATE_DATA_DEV 0 = r.dev % 4096
            ∧ (s.on F.BRG_LATE_DATA_VALID 0 = true → t.rd F.BRG_LATE_DATA_OVERWRITTEN 0 = 1) ∧ t.answer = s.answer
        else x.op = 0x83 ∨ s.lig.late.find (x.tag % 64) = none → only t ∧ cnt 17 t))
    ∧ Does (.watchPollSend w) s (fun t => if s.mainUp = true ∧ s.dozing = false ∧ s.on F.BRG_WATCH_EN w = true
        then cnt 15 t ∧ (s.rd F.BRG_WATCH_DEV w ≠ s.myDev → cnt 0 t ∧ w.val ∈ t.lig.polled ∧ RegsBut [F.BRG_CNT_COUNT, F.PP_CNT_COUNT] s t) else t = s)
    ∧ Does (.watchPollTimeout w) s (fun t => if s.lig.polled.contains w.val = false then t = s
        else let m := s.lig.misses.get 0 w.val + 1
          t.lig.misses.get 0 w.val = m ∧ t.lig.polled.contains w.val = false ∧
          if m < 3 ∨ s.on F.BRG_WATCH_UNREACH w = true then t.regs = s.regs ∧ t.transit = s.transit
          else t.rd F.BRG_WATCH_UNREACH w = 1 ∧ t.rd F.BRG_STAT_UNREACH_EVT 0 = 1 ∧ t.rd F.BRG_WATCH_CHG_CHG 0 = setBitN (s.rd F.BRG_WATCH_CHG_CHG 0) w % 2 ^ 64
            ∧ ∃ info, t.transit = s.transit ++ [⟨0x1E1, elemId 0xD (s.rd F.BRG_WATCH_DEV w), info⟩])

/-- WFI of S0 with a TARGET other than STATE starts the transition: to TRIM and RUN it asks for the setpoints, each the larger of
the AVS_SETPT field in its range and the floor; RUN stops the loop first. Entry to DOZE or SLEEP is refused with 4 without a
wake source and with 5 while a commit is in progress, waits for S1 (one stopped on a lockstep mismatch executes no WFI), and
is refused with 3 when S1_WAIT_US ends; a refusal sets ABORT_EVT and TARGET reads STATE. The commit of DOZE, once frames have
ended, flushes the Stroke caches, refuses waiting bridge accesses and asks for the DOZE setpoints; that of SLEEP takes the
main die's supply: every register outside the power die and the sticky ones reads its reset value, and INH_OUT is held low. A
wake in DOZE asks for the RUN setpoints, and the exit ends in RUN with result 1. The hold of INH_OUT ends with a start if a
wake was recorded. A PWR_REQ write stores its TARGET and counts a replaced one; the take copies it to TAKEN_TARGET. A step
whose transition is not in progress changes nothing. Where the rules can be read in two ways or leave a point open, it takes
the reading of log entries 192 to 204. (rests on: spec 18 R370; spec 18 R371; spec 18 R372; spec 18 R373; spec 18 R374; spec
18 R375; spec 18 R378) -/
def Obligations.PowerTransitionsStartAbortCommitAndEnd : Prop :=
  ∀ (s : State) (s1 committed : Bool) (target : BitVec 3) (g : Nat),
    let cnt (i n : Nat) (t : State) : Prop := t.rd F.PWR_CNT_COUNT i = (s.rd F.PWR_CNT_COUNT i + n) % 2 ^ F.PWR_CNT_COUNT.width
    let floor (k : Nat) : Nat := railClamp k (s.rd (if k = 0 then F.AVS_FLOOR_CORE_MV else F.AVS_FLOOR_SRAM_MV) 0)
    let asked (f : Fld) (t : State) : Prop := match t.pwr.avs with
      | some a => a.core = max (railClamp 0 (s.rd f 0)) (floor 0) ∧ a.sram = max (railClamp 1 (s.rd f 1)) (floor 1) ∧ a.tries = 0 ∧ a.repeating = false
          ∧ a.raising = (decide (s.pwr.cur.1 < a.core) || decide (s.pwr.cur.2 < a.sram))
          ∧ (s.on F.AVS_LOOP_CTL_MODE 0 = false → t.rd F.AVS_STAT_BUSY 0 = 1 ∧ t.rd F.AVS_CNT_COUNT 0 = (s.rd F.AVS_CNT_COUNT 0 + 1) % 2 ^ F.AVS_CNT_COUNT.width)
      | none => False
    let stays (t : State) : Prop := t.rd F.PWR_STAT_STATE 0 = s.rd F.PWR_STAT_STATE 0
    let refused (g code : Nat) (t : State) : Prop := stays t ∧ t.pwr.trans = none ∧ t.rd F.PWR_STAT_LAST_RESULT 0 = code ∧ t.rd F.PWR_STAT_LAST_TARGET 0 = g % 8
      ∧ t.rd F.PWR_STAT_ABORT_EVT 0 = 1 ∧ t.rd F.PWR_STAT_TRANS_DONE_EVT 0 = 1 ∧ t.rd F.PWR_STAT_IN_TRANSITION 0 = 0
      ∧ t.rd F.PWR_MODE_TARGET 0 = s.rd F.PWR_STAT_STATE 0 % 8
      ∧ RegsBut [F.PWR_STAT_LAST_RESULT, F.PWR_STAT_LAST_TARGET, F.PWR_STAT_ABORT_EVT, F.PWR_STAT_TRANS_DONE_EVT, F.PWR_STAT_IN_TRANSITION, F.PWR_MODE_TARGET] s t
    let begun (g : Nat) (waits : Bool) (t : State) : Prop := stays t ∧ t.pwr.trans = some ⟨g, waits, false⟩ ∧ t.rd F.PWR_STAT_IN_TRANSITION 0 = 1
    let held : Bool := !s.on F.GLB_SCRIBE_CTL_S1_RUN 0 || s.on F.GLB_BLK_RST_S1 0
    let waits : Bool := (s1 && !s.coreHalted .s1) || held
    let busy : Bool := s.on F.SCR_STAT_RESTRUCT_BUSY 0 || s.on F.SCR_STAT_APPLYING 0 || s.on F.SCR_STAT_PERSISTING 0 || s.on F.KEY_STAT_BUSY 0 || s.on F.UPD_STAT_BUSY 0
    let entered (g : Nat) (t : State) : Prop := if s.mayStart g = true then
        if s.wakeEnabled g = false then refused g 4 t else if busy = true then refused g 5 t else begun g (!waits) t
      else if s.pwr.trans = some ⟨g, true, false⟩ ∧ waits = true then begun g false t else t = s
    Does .enterTrim s (fun t => if s.mayStart 1 = true then stays t ∧ t.pwr.trans = some ⟨1, false, false⟩ ∧ t.rd F.PWR_STAT_IN_TRANSITION 0 = 1 ∧ asked F.AVS_SETPT_TRIM_MV t else t = s)
    ∧ Does .enterRun s (fun t => if s.mayStart 0 = true then stays t ∧ t.pwr.trans = some ⟨0, false, false⟩ ∧ t.rd F.AVS_STAT_LOOP_ACTIVE 0 = 0 ∧ asked F.AVS_SETPT_RUN_MV t else t = s)
    ∧ Does (.dozeEntry s1) s (entered 2) ∧ Does (.sleepEntry s1) s (entered 3)
    ∧ (s.pwr.trans = some ⟨g, true, committed⟩ → Does .s1WaitTimeout s (refused g 3))
    ∧ ((s.pwr.trans = none ∨ s.pwr.trans = some ⟨g, false, committed⟩) → exec .s1WaitTimeout s = .next s)
    ∧ (s.pwr.trans ≠ some ⟨2, false, false⟩ ∨ s.entryQuiet = false → exec .dozeCommit s = .next s)
    ∧ (s.pwr.trans ≠ some ⟨3, false, false⟩ ∨ s.entryQuiet = false → exec .sleepCommit s = .next s)
    ∧ (s.pwr.exiting = false ∨ s.pwr.avs.isSome = true → exec .dozeExitDone s = .next s)
    ∧ (s.pwr.trans = some ⟨2, false, false⟩ → s.entryQuiet = true → Does .dozeCommit s (fun t => stays t ∧ t.pwr.trans = some ⟨2, false, true⟩ ∧ t.strokes = []
        ∧ t.lig.wait = [] ∧ t.rd F.AVS_STAT_LOOP_ACTIVE 0 = 0 ∧ asked F.AVS_SETPT_DOZE_MV t))
    ∧ (s.pwr.trans = some ⟨3, false, false⟩ → s.entryQuiet = true → Does .sleepCommit s (fun t => t.phase = .off
        ∧ t.pd = { s.pd with inh := false, holdOff := true, wakeHeld := false, cause := 2 }
        ∧ (∀ (f : Fld) (i : Nat), f.id < powerBase → t.rd f i = f.rst i) ∧ t.frames = [] ∧ t.keySlots = [] ∧ t.pwr.trans = none))
    ∧ Does .dozeExit s (fun t => if s.rd F.PWR_STAT_STATE 0 = 2 ∧ s.pwr.wake.isSome = true ∧ s.pwr.exiting = false
        then stays t ∧ t.pwr.exiting = true ∧ t.rd F.PWR_STAT_IN_TRANSITION 0 = 1 ∧ asked F.AVS_SETPT_RUN_MV t else t = s)
    ∧ (s.pwr.exiting = true → s.pwr.avs = none → Does .dozeExitDone s (fun t => t.rd F.PWR_STAT_STATE 0 = 0 ∧ t.pwr.exiting = false ∧ t.pwr.wake = none ∧ t.pwr.trans = none
        ∧ t.rd F.PWR_STAT_LAST_RESULT 0 = 1 ∧ t.rd F.PWR_STAT_TRANS_DONE_EVT 0 = 1 ∧ t.rd F.PWR_MODE_TARGET 0 = 0 ∧ cnt 0 1 t))
    ∧ Does .inhOutHoldEnd s (fun t => if s.pd.holdOff = true then t = { s with pd := t.pd } ∧ t.pd.holdOff = false ∧ t.pd.inh = (s.pd.inh || s.pd.wakeHeld)
        ∧ t.pd.wakeHeld = false ∧ t.pd.phase = s.pd.phase else t = s)
    ∧ Does (.pwrReqWrite target) s (fun t => t.rd F.PWR_REQ_REQ 0 = 1 ∧ t.rd F.PWR_REQ_TARGET 0 = target.toNat ∧ (s.rd F.PWR_STAT_STATE 0 ≠ 2 ∨ s.pwr.exiting = true ∨ s.pcieUp = false → cnt 2 (b2n (s.on F.PWR_REQ_REQ 0)) t
        ∧ t = { s with regs := t.regs } ∧ RegsBut [F.PWR_REQ_REQ, F.PWR_REQ_TARGET, F.PWR_CNT_COUNT] s t))
    ∧ Does .pwrReqTake s (fun t => if s.on F.PWR_REQ_REQ 0 = true then t.rd F.PWR_REQ_REQ 0 = 0 ∧ t.rd F.PWR_REQ_ACK_TAKEN_TARGET 0 = s.rd F.PWR_REQ_TARGET 0 % 8
        ∧ RegsBut [F.PWR_REQ_REQ, F.PWR_REQ_ACK_TAKEN_TARGET] s t else t = s)

/-- An acknowledged change puts its setpoints in force, clears BUSY and counts ACKS; a transition to RUN, TRIM or DOZE past its
commit completes with result 1. The first timeout writes the rails once more; the second counts TIMEOUTS, sets AVS_FAULT_EVT
and DEGRADED and is reported; a lowering change then ends with the old setpoints and a transition with result 6, a raising
one proceeds when both rails read the setpoints, and else repeats. In legacy mode 20 microseconds take the acknowledgement's
place. A loop step in TRIM moves both rails by STEP_MV between floor and RUN setpoint, and counts. A rail below its warning
threshold is logged, counted and reported once until re-armed; below its reset threshold the main die loses its supply with
cause 7 and starts again by the restart. VBAT below the power-on threshold resets all but the non-volatile state. Without a
change an acknowledgement, a timeout or a settle changes nothing. Where the rules can be read in two ways or leave a point
open, it takes the reading of log entries 192 to 204. (rests on: spec 18 R370; spec 18 R376; spec 18 R378; spec 18 R379; spec
18 R380; spec 18 R381; spec 18 R382) -/
def Obligations.VoltageChangesAndSupplyMonitors : Prop :=
  ∀ (s : State) (a : AvsChange) (core sram : BitVec 10) (slack : BitVec 8) (k : Fin 4) (level : BitVec 16) (target : Nat),
    let cnt (i : Nat) (t : State) : Prop := t.rd F.AVS_CNT_COUNT i = (s.rd F.AVS_CNT_COUNT i + 1) % 2 ^ F.AVS_CNT_COUNT.width
    let legacy := s.on F.AVS_LOOP_CTL_MODE 0
    let entered (result : Nat) (t : State) : Prop := s.pwr.trans = some ⟨target, false, decide (target = 2)⟩ → target ≤ 2 →
      t.rd F.PWR_STAT_STATE 0 = target ∧ t.pwr.trans = none ∧ t.rd F.PWR_STAT_LAST_RESULT 0 = result ∧ t.rd F.PWR_STAT_LAST_TARGET 0 = target
        ∧ t.rd F.PWR_STAT_TRANS_DONE_EVT 0 = 1 ∧ t.rd F.PWR_MODE_TARGET 0 = target ∧ t.rd F.PWR_CNT_COUNT 0 = (s.rd F.PWR_CNT_COUNT 0 + 1) % 2 ^ F.PWR_CNT_COUNT.width
    let settled (done : Bool) (t : State) : Prop := t.pwr.avs = none ∧ t.rd F.AVS_STAT_BUSY 0 = 0 ∧ t.pwr.cur = (if done then (a.core, a.sram) else s.pwr.cur)
    let runs : Prop := s.rd F.PWR_STAT_STATE 0 = 1 ∧ s.on F.AVS_LOOP_CTL_LOOP_EN 0 = true ∧ legacy = false ∧ s.pwr.trans = none ∧ s.pwr.avs = none
    let lo := s.rd F.AVS_LOOP_SLACK_LO_PCT 0
    let hi := s.rd F.AVS_LOOP_SLACK_HI_PCT 0
    let move (v : Nat) : Nat := if slack.toNat < lo then v + max 1 (s.rd F.AVS_LOOP_STEP_MV 0) else v - max 1 (s.rd F.AVS_LOOP_STEP_MV 0)
    let rail (i v : Nat) : Nat := max (s.floorMv i) (min (move v) (s.setpoint 0 i))
    let seen : Bool := decide (s.pd.phase = .run) && (decide (k.val = 3) || s.pd.inh)
    let logged (reset : Nat) (t : State) : Prop := t.rd F.PWR_SAG_LOG_RAIL 0 = k ∧ t.rd F.PWR_SAG_LOG_LEVEL_MV 0 = level.toNat ∧ t.rd F.PWR_SAG_LOG_RESET 0 = reset ∧ t.rd F.PWR_SUP_MV_LEVEL k = level.toNat
    let saw (t : State) : Prop := if seen = true then t = s.wr F.PWR_SUP_MV_LEVEL k level.toNat else t = s
    (s.pwr.avs = none ∨ legacy = true → exec .avsAck s = .next s ∧ exec (.avsTimeout core sram) s = .next s)
    ∧ (s.pwr.avs = none → exec .legacySettle s = .next s)
    ∧ (s.pwr.avs = some a → legacy = false → Does .avsAck s (fun t => settled true t ∧ cnt 1 t ∧ entered 1 t ∧ t.rd F.AVS_STAT_CORE_MV 0 = a.core % 1024 ∧ t.rd F.AVS_STAT_SRAM_MV 0 = a.sram % 1024
        ∧ (a.repeating = false → t.rd F.AVS_STAT_DEGRADED 0 = 0)))
    ∧ (s.pwr.avs = some a → legacy = false → Does (.avsTimeout core sram) s (fun t =>
        if a.tries = 0 then t.pwr = { s.pwr with avs := some { a with tries := 1 } } ∧ cnt 0 t ∧ RegsBut [F.AVS_CNT_COUNT] s t
        else cnt 2 t ∧ t.rd F.PWR_STAT_AVS_FAULT_EVT 0 = 1 ∧ t.rd F.AVS_STAT_DEGRADED 0 = 1 ∧ (∃ info, (⟨0x003, elemDevice, info⟩ : Report) ∈ t.transit) ∧
          if a.raising = false then settled false t ∧ entered 6 t
          else if a.core ≤ core.toNat ∧ a.sram ≤ sram.toNat then settled true t ∧ entered 1 t
          else t.pwr = { s.pwr with avs := some { a with repeating := true } } ∧ cnt 0 t ∧ t.rd F.PWR_STAT_STATE 0 = s.rd F.PWR_STAT_STATE 0))
    ∧ (s.pwr.avs = some a → Does .legacySettle s (fun t => if legacy = true then settled false t ∧ entered 1 t else t = s))
    ∧ Does (.avsLoopTick slack) s (fun t => (¬ runs → t = s) ∧ (runs → if hi ≤ lo ∨ (lo ≤ slack.toNat ∧ slack.toNat ≤ hi) ∨ (rail 0 s.pwr.cur.1, rail 1 s.pwr.cur.2) = s.pwr.cur then t = s
        else cnt 0 t ∧ cnt 3 t ∧ (∃ x, t.pwr.avs = some x ∧ x.core = rail 0 s.pwr.cur.1 ∧ x.sram = rail 1 s.pwr.cur.2) ∧ RegsBut [F.AVS_CNT_COUNT, F.AVS_STAT_BUSY] s t))
    ∧ Does (.supplyWarning k level) s (fun t => if seen = true ∧ s.warned.testBit k = false ∧ level.toNat < s.warnLevel k
        then logged 0 t ∧ t.warned.testBit k = true ∧ t.rd F.PWR_SAG_CNT_COUNT 3 = (s.rd F.PWR_SAG_CNT_COUNT 3 + 1) % 2 ^ F.PWR_SAG_CNT_COUNT.width
          ∧ (∃ info, t.transit = s.transit ++ [⟨0x004, elemDevice, info⟩]) ∧ (s.mainUp = true → t.rd F.PWR_STAT_SAG_WARN_EVT 0 = 1)
        else saw t)
    ∧ Does (.supplyWarningRearm k) s (fun t => t = { s with warned := t.warned } ∧ t.warned.testBit k = false ∧ ∀ j, j ≠ k.val → t.warned.testBit j = s.warned.testBit j)
    ∧ Does (.supplyReset k level) s (fun t => if seen = false ∨ s.resetLevel k ≤ level.toNat then saw t
        else logged 1 t ∧ (s.pd.inh = true → t.phase = .off ∧ t.pd = { s.pd with inh := false, sagWait := true, cause := 7, holdOff := false, wakeHeld := false }
          ∧ t.rd F.PWR_SAG_CNT_COUNT 4 = (s.rd F.PWR_SAG_CNT_COUNT 4 + 1) % 2 ^ F.PWR_SAG_CNT_COUNT.width ∧ t.loads = s.loads
          ∧ ∀ (f : Fld) (i : Nat), f.id < powerBase → t.rd f i = f.rst i))
    ∧ Does .sagRestart s (fun t => if s.pd.sagWait = true then t = { s with pd := { s.pd with sagWait := false, inh := true } } else t = s)
    ∧ Does .vbatPowerLoss s (fun t => t.phase = .off ∧ t.pd.phase = .off ∧ t.loads = [] ∧ t.tamperFlag = s.tamperFlag ∧ t.flash = s.flash ∧ t.keyFlash = s.keyFlash
        ∧ ∀ (f : Fld) (i : Nat), t.rd f i = if nvBase ≤ f.id then s.rd f i else f.rst i)

/-- A running network with local need sends presence on its Ethernet members that send (unprotected: the frame as it is), and on
a CAN lane at the next bus idle. A rise of local need is a network wake of code 8. T_QUIET without need puts it in
PREPARE_SLEEP, T_WAIT in ASLEEP with NET_SLEEPS, NET_SLEEP_EVT and its nodes' runs ended. A network wake records LAST_WAKE; a
network not AWAKE returns with HOLDING, from ASLEEP with NET_WAKES and NET_WAKE_EVT. HOLD_MS ends HOLDING. A received
presence takes its node's entry or counts NODE_FULL, and is a network wake when it counts. An expired entry is free; an ended
run clears NEED and CAPPED. A run beyond MAX_AWAKE_S is capped or logged, once, with a log entry, OFFENDER_EVT and a report.
A WAKE_IN pin wakes the networks of its mask. An enabled wake of a device that no TERMINAL fault has stopped is recorded by
the AOC when VALID is 0, else it sets MORE, and sets its PEND bit. A frame at a sleeping port counts as wake match or is
dropped. Where the rules can be read in two ways or leave a point open, it takes the reading of log entries 39 to 50, 205 to
214. (rests on: spec 19 R384; spec 19 R385; spec 19 R386; spec 19 R387; spec 19 R389; spec 19 R391; spec 19 R392; spec 19
R393; spec 19 R394; spec 04 R98) -/
def Obligations.NetworksSleepWakeAndLimitTheirNodes : Prop :=
  ∀ (s : State) (k : Fin 16) (p : Fin 64) (e : Fin 40) (node flags idx : BitVec 8) (code : BitVec 4) (i : Fin 256) (n : Fin 8) (need : Bool) (bs : List Byte),
    let st := s.rd F.NSL_NET_STATE k
    let on := s.netOn k
    let cnt (j : Nat) (t : State) : Prop := t.rd F.NSL_CNT_COUNT j = (s.rd F.NSL_CNT_COUNT j + 1) % 2 ^ F.NSL_CNT_COUNT.width
    let member : Bool := s.bit F.NSL_NET_MEMBERS k p
    let lastWake (c j : Nat) (t : State) : Prop := t.rd F.NSL_NET_WAKE_CODE k = c ∧ t.rd F.NSL_NET_WAKE_IDX k = j
    let woken (c j : Nat) (t : State) : Prop := lastWake c j t ∧ t.rd F.NSL_NET_STATE k = 0 ∧
      if st = 0 then RegsBut [F.NSL_NET_WAKE_CODE, F.NSL_NET_WAKE_IDX] s t
      else t.rd F.NSL_NET_HOLDING k = 1 ∧ t.bit F.NSL_STAT_ASLEEP 0 k = false ∧ (st = 2 → cnt 6 t ∧ t.rd F.NSL_STAT_NET_WAKE_EVT 0 = 1)
    let recorded (c j : Nat) (t : State) : Prop := s.stopped = false → t.bit F.AOC_WAKE_PEND_CODE 0 (c - 1) = true ∧
      if s.on F.AOC_WAKE_SRC_VALID 0 = true then t.rd F.AOC_WAKE_SRC_MORE 0 = 1 ∧ t.rd F.AOC_WAKE_SRC_CODE 0 = s.rd F.AOC_WAKE_SRC_CODE 0
      else t.rd F.AOC_WAKE_SRC_VALID 0 = 1 ∧ t.rd F.AOC_WAKE_SRC_CODE 0 = c ∧ t.rd F.AOC_WAKE_SRC_INDEX 0 = j ∧ t.rd F.AOC_WAKE_SRC_SEC 0 = s.rd F.AOC_RTC_SEC 0 % 2 ^ 32
    let sent (woke : Bool) (t : State) : Prop := s.netHas k p = true →
      let f := 1 + 2 * b2n woke + 4 * s.rd F.NSL_NET_LOCAL_FLAGS k
      let me := s.rd F.NSL_NET_MY_NODE k
      (p.val < 40 → s.on F.ETH_STAT_LINK p = true → s.txOn p = true → s.cipTx p = false → s.dozing = false → t.lastTx.get [] p = beBytes 6 (0x0356474E5300 + k) ++ beBytes 6 (s.rd F.ETH_MAC_ADDR_ADDR p) ++ beBytes 2 (s.rd F.NSL_ETYPE_ETYPE 0)
          ++ [1] ++ beBytes 1 me ++ beBytes 1 f ++ beBytes 1 k ++ beBytes 42 0)
        ∧ (40 ≤ p.val → s.pers (p - 40) ≠ 2 → (t.canLane (p - 40)).presDue = some (LaneFrame.bytes ⟨1, 0, 0, min 0x7C0 (s.rd F.NSL_NET_ID_BASE k) + me % 64, 0, beBytes 1 me ++ beBytes 1 f⟩ (p - 40) 0xFFFF))
    Does (.presenceSend k) s (fun t => if on = true ∧ s.localNeed k = true ∧ s.dozing = false ∧ st = 0 then sent false t else t = s)
    ∧ Does (.localNeedWrite k need) s (fun t => t.rd F.NSL_NET_LOCAL_NEED k = b2n need ∧ if need = true ∧ s.localNeed k = false ∧ on = true
        then lastWake 8 0 t ∧ t.rd F.NSL_NET_STATE k = 0 ∧ (st ≠ 0 → t.rd F.NSL_NET_HOLDING k = 1) else RegsBut [F.NSL_NET_LOCAL_NEED] s t)
    ∧ Does (.quietTimeout k) s (fun t => if on = true ∧ s.localNeed k = false ∧ st = 0 ∧ s.dozing = false
        then t.rd F.NSL_NET_STATE k = 1 ∧ ElemsBut F.NSL_NET_STATE k s t ∧ RegsBut [F.NSL_NET_STATE, F.NSL_STAT_ASLEEP] s t else t = s)
    ∧ Does (.tWaitExpiry k) s (fun t => if on = true ∧ st = 1 ∧ s.dozing = false
        then t.rd F.NSL_NET_STATE k = 2 ∧ t.bit F.NSL_STAT_ASLEEP 0 k = true ∧ cnt 5 t ∧ t.rd F.NSL_STAT_NET_SLEEP_EVT 0 = 1
          ∧ (∀ j ∈ s.nodesOf k, t.rd F.NSL_NODE_NEED j = 0 ∧ t.rd F.NSL_NODE_CAPPED j = 0) ∧ ((∀ j, j < 16 → j ≠ k.val → s.netOn j = false) → t.rd F.NSL_STAT_ALL_ASLEEP_EVT 0 = 1)
        else t = s)
    ∧ Does (.networkWake k code idx) s (fun t => if on = true then woken code.toNat idx.toNat t else t = s)
    ∧ Does (.holdExpiry k) s (fun t => t.rd F.NSL_NET_HOLDING k = 0 ∧ ElemsBut F.NSL_NET_HOLDING k s t ∧ RegsBut [F.NSL_NET_HOLDING] s t ∧ t = { s with regs := t.regs })
    ∧ Does (.presenceRx k p node flags) s (fun t => if s.dozing = true ∨ on = false ∨ member = false then t = s
        else cnt 0 t ∧ (match s.nodeSlot k node.toNat with
          | none => cnt 4 t ∧ t.rd F.NSL_STAT_NODE_FULL_EVT 0 = 1
          | some j => t.rd F.NSL_NODE_VALID j = 1 ∧ t.rd F.NSL_NODE_NET j = k ∧ t.rd F.NSL_NODE_NODE j = node.toNat ∧ t.rd F.NSL_NODE_FLAGS j = flags.toNat ∧ t.rd F.NSL_NODE_PORT j = p
              ∧ (flags.toNat.testBit 0 = false → t.rd F.NSL_NODE_NEED j = 0) ∧ (flags.toNat.testBit 0 = true → s.on F.NSL_NET_MAX_AWAKE_S k = true → t.on F.NSL_NODE_NEED j = true))
          ∧ (flags.toNat.testBit 0 = true → node.toNat ≠ s.rd F.NSL_NET_MY_NODE k → s.nslNodes = [] → (∀ j, j < 256 → s.on F.NSL_NODE_CAPPED j = false) → lastWake 9 node.toNat t ∧ t.rd F.NSL_NET_STATE k = 0)
          ∧ (flags.toNat.testBit 0 = false ∨ node.toNat = s.rd F.NSL_NET_MY_NODE k ∨ st = 0 → t.rd F.NSL_NET_STATE k = st))
    ∧ Does (.nodeEntryExpiry i) s (fun t => t.rd F.NSL_NODE_VALID i = 0 ∧ t.rd F.NSL_NODE_NEED i = 0 ∧ ElemsBut F.NSL_NODE_VALID i s t ∧ t.nslNodes.find i = none
        ∧ RegsBut [F.NSL_NODE_VALID, F.NSL_NODE_NEED, F.NSL_NODE_CAPPED, F.NSL_NODE_NET, F.NSL_NODE_NODE, F.NSL_NODE_FLAGS, F.NSL_NODE_PORT] s t)
    ∧ Does (.needRunTimeout i) s (fun t => t.rd F.NSL_NODE_NEED i = 0 ∧ t.rd F.NSL_NODE_CAPPED i = 0 ∧ ElemsBut F.NSL_NODE_NEED i s t ∧ RegsBut [F.NSL_NODE_NEED, F.NSL_NODE_CAPPED] s t)
    ∧ Does (.maxAwakeExceeded i) s (fun t => if s.on F.NSL_NODE_VALID i = true ∧ s.on F.NSL_NODE_NEED i = true ∧ (s.nslNodes.get ⟨s.now, s.now, false⟩ i).logged = false
        then let net := s.rd F.NSL_NODE_NET i
          let who := s.rd F.NSL_NODE_NODE i
          let h := s.rd F.NSL_LOG_HEAD_HEAD 0
          let cap : Bool := s.on F.NSL_NET_ENFORCE net && !s.exempt net who
          (cap = true → t.rd F.NSL_NODE_CAPPED i = 1 ∧ cnt 2 t) ∧ (cap = false → t.rd F.NSL_NODE_CAPPED i = s.rd F.NSL_NODE_CAPPED i ∧ cnt 3 t) ∧ t.rd F.NSL_STAT_OFFENDER_EVT 0 = 1
            ∧ t.rd F.NSL_LOG_VALID h = 1 ∧ t.rd F.NSL_LOG_ENFORCED h = b2n cap ∧ t.rd F.NSL_LOG_NODE h = who % 256 ∧ t.rd F.NSL_LOG_PORT h = s.rd F.NSL_NODE_PORT i % 128
            ∧ t.rd F.NSL_LOG_HEAD_HEAD 0 = (h + 1) % 32 ∧ (∃ info, t.transit = s.transit ++ [⟨0x090 + s.rd F.NSL_NODE_PORT i, elemId 0 (s.rd F.NSL_NODE_PORT i), info⟩])
            ∧ Does (.maxAwakeExceeded i) t (· = t)
        else t = s)
    ∧ Does (.wakeInActive n) s (fun t => (s.wakeInEnabled n = true → s.wakeable = true → recorded 2 n t)
        ∧ (s.wakeInEnabled n = false ∨ s.wakeable = false → s.dozing = false → s.bit F.NSL_NET_WAKE_IN k n = true → on = true → lastWake 2 n t ∧ t.rd F.NSL_NET_STATE k = 0))
    ∧ Does .rtcAlarm s (fun t => if s.on F.AOC_WAKE_EN_RTC 0 = true ∧ s.on F.AOC_RTC_ALARM_SEC 0 = true ∧ s.wakeable = true then recorded 5 0 t else t = s)
    ∧ Does (.wakePatternFrame e bs) s (fun t => if s.portLive e = true then t = s
        else let hit : Bool := s.on F.ETH_WAKE_CFG_EN e && (List.range 4).any (fun j => s.patMatch e j bs)
          t.rd F.ETH_CNT_COUNT (29 * e + if hit then 16 else 15) = (s.rd F.ETH_CNT_COUNT (29 * e + if hit then 16 else 15) + 1) % 2 ^ F.ETH_CNT_COUNT.width
            ∧ (hit = true → s.dozing = true → recorded 3 e t) ∧ (hit = false → RegsBut [F.ETH_CNT_COUNT] s t))

/-- While the Ferrule link is up and the device is not in recovery mode (else the three commands change nothing), LC_ON switches
a masked channel that is OFF and present, with a valid configuration held, into INRUSH with its envelope clock at 0, and sets
REFUSED_EVT of any other masked channel, whose state stays; LC_OFF switches a masked channel that is commanded on OFF and
keeps every fault count; LC_CLR clears the fault count of a masked channel in every state and switches a LATCHED one OFF.
Where the rules can be read in two ways or leave a point open, it takes the reading of log entries 5 to 16, 29 to 38, 215 to
223. (rests on: spec 20 R402; spec 20 R401; spec 20 R404; spec 01 R13; spec 03 R69) -/
def Obligations.LoadCommandsSwitchTheirChannels : Prop :=
  ∀ (s : State) (mask : BitVec 24) (n : Fin 24),
    (s.linkUp = false ∨ s.phase = .recovery → exec (.lcOn mask) s = .next s ∧ exec (.lcOff mask) s = .next s ∧ exec (.lcClr mask) s = .next s)
    ∧ (s.linkUp = true → s.phase ≠ .recovery → mask.toNat.testBit n.val = true →
    Does (.lcOn mask) s (fun t =>
      if s.lcState n = lcOff ∧ s.on F.LC_CH_CFG_PRESENT n = true ∧ s.on F.LC_GLB_STAT_CFG_VALID 0 = true
      then t.lcState n = lcInrush ∧ (t.load n).clk = 0
      else t.rd F.LC_CH_STAT_REFUSED_EVT n = 1 ∧ t.lcState n = s.lcState n)
    ∧ Does (.lcOff mask) s (fun t => t.rd F.LC_CH_STAT_FAULT_CNT n = s.rd F.LC_CH_STAT_FAULT_CNT n ∧
      (s.lcCommanded n = true → t.lcState n = lcOff))
    ∧ Does (.lcClr mask) s (fun t => t.rd F.LC_CH_STAT_FAULT_CNT n = 0 ∧
      t.lcState n = if s.lcState n = lcLatched then lcOff else s.lcState n))

/-- A channel n is in INRUSH or ON with fault count f and retry limit N. A short-circuit trip (its current above SC_DA), an over-
current trip (above the envelope limit), an energy trip (let-through reaching ELIM_MJ), a thermal trip and a driver or sense
fault set LAST_FAULT to 1 to 5 and the fault count to f + 1, at most 9. The first four put the channel in PAUSE with
FAULT_EVT while f + 1 is at most N, and else in LATCHED with LATCH_EVT; a driver or sense fault always latches. The gate is
pulled down (measured current 0). A thermal trip or driver fault of a channel in another state changes nothing; nor does a
trip whose condition does not hold. The three current trips record the peak current and the let-through energy. Where the
rules can be read in two ways or leave a point open, it takes the reading of log entries 215 to 223. (rests on: spec 20 R398;
spec 20 R399; spec 20 R400; spec 20 R401; spec 20 R402; spec 20 R408) -/
def Obligations.LoadFaultsPauseOrLatch : Prop :=
  ∀ (s : State) (n : Fin 24) (cur lt : Nat),
    let f := s.rd F.LC_CH_STAT_FAULT_CNT n + 1
    let faulted (code : Nat) (t : State) : Prop :=
      t.rd F.LC_CH_STAT_LAST_FAULT n = code ∧ t.rd F.LC_CH_STAT_FAULT_CNT n = min f 9 ∧ t.rd F.LC_CH_MEAS_I_10MA n = 0 ∧
      if code = 5 ∨ s.rd F.LC_CH_CFG_RETRY_N n < f
      then t.lcState n = lcLatched ∧ t.rd F.LC_CH_STAT_LATCH_EVT n = 1
      else t.lcState n = lcPause ∧ t.rd F.LC_CH_STAT_FAULT_EVT n = 1
    let episode (t : State) : Prop := t.rd F.LC_CH_MEAS_PEAK_10MA n = min cur 65535 ∧ t.rd F.LC_CH_WIRE_LT_10UJ n = min lt 65535
    let runs := s.lcState n = lcInrush ∨ s.lcState n = lcOn
    let heat := lt * 10 ^ 8 + cur * cur * s.rd F.LC_CH_LIM_WIRE_MOHM n
    (runs → (s.rd F.LC_CH_BOARD_SC_DA n * 10 < cur → Does (.shortCircuitTrip n cur lt) s (fun t => faulted 1 t ∧ episode t))
      ∧ (s.envLimit n < cur * 10 → Does (.overcurrentTrip n cur lt) s (fun t => faulted 2 t ∧ episode t))
      ∧ (s.rd F.LC_CH_LIM_ELIM_MJ n * 10 ^ 10 ≤ heat → Does (.energyTrip n cur lt) s (fun t => faulted 3 t ∧ episode t))
      ∧ Does (.thermalTrip n) s (fun t => faulted 4 t)
      ∧ Does (.driverSenseFault n) s (fun t => faulted 5 t))
    ∧ (¬ runs → exec (.thermalTrip n) s = .next s ∧ exec (.driverSenseFault n) s = .next s)
    ∧ (cur ≤ s.rd F.LC_CH_BOARD_SC_DA n * 10 → exec (.shortCircuitTrip n cur lt) s = .next s)
    ∧ (cur * 10 ≤ s.envLimit n → exec (.overcurrentTrip n cur lt) s = .next s)
    ∧ (heat < s.rd F.LC_CH_LIM_ELIM_MJ n * 10 ^ 10 → exec (.energyTrip n cur lt) s = .next s)

/-- The end of inrush turns INRUSH into ON. The end of a pause, unless a thermal fault has not cooled to half its limit, puts the
channel in WAIT_BANK while its bank is in inrush or VBAT holds retries back, and else in INRUSH when no lower channel of the
bank waits, in WAIT_BANK when one does. Two quiet seconds clear the fault count of a channel in ON or OFF. A bank voltage
below its dip threshold freezes the envelope clocks, one at or above it releases them. A current below OPEN_MA sets OPEN_ON
of a channel in ON, and any other clears it. The off-state test of a channel in OFF outside SLEEP sets SHORT_BAT and
OPEN_OFF. Each of these changes nothing of a channel in another state. The end of a VBAT warning releases the retries, and
the lowest waiting channel of a bank without inrush retries. Where the rules can be read in two ways or leave a point open,
it takes the reading of log entries 215 to 223. (rests on: spec 20 R396; spec 20 R397; spec 20 R401; spec 20 R402; spec 20
R403; spec 20 R407; spec 20 R408) -/
def Obligations.LoadTimersAndDiagnosis : Prop :=
  ∀ (s : State) (n : Fin 24) (b : Fin 4) (mv cur : Nat) (before after : Bool),
    (s.lcState n = lcInrush → Does (.inrushEnd n) s (fun t => t.lcState n = lcOn))
    ∧ (s.lcState n = lcPause → ¬(s.rd F.LC_CH_STAT_LAST_FAULT n = 4 ∧ s.qLimit n < 2 * (s.load n).q) →
        Does (.lcPauseEnd n) s (fun t =>
          ((s.bankInrush (n / 6) || s.retryHold) = true → t.lcState n = lcWaitBank)
          ∧ ((s.bankInrush (n / 6) || s.retryHold) = false → (∀ m, s.lowestWaiting (n / 6) = some m → n.val < m) → t.lcState n = lcInrush)
          ∧ (∀ m, (s.bankInrush (n / 6) || s.retryHold) = false → s.lowestWaiting (n / 6) = some m → m < n.val → t.lcState n = lcWaitBank ∧ t.lcState m = lcInrush)))
    ∧ (s.lcState n = lcOn ∨ s.lcState n = lcOff → Does (.faultCountReset n) s (fun t => t.rd F.LC_CH_STAT_FAULT_CNT n = 0))
    ∧ (mv < s.dipMv b → Does (.vldDip b mv) s (fun t => t.vldDip.get false b = true ∧ t.rd F.LC_BANK_VLD_MV b = min mv 65535))
    ∧ (s.dipMv b ≤ mv → Does (.vldDipEnd b mv) s (fun t => t.vldDip.get false b = false ∧ t.rd F.LC_BANK_VLD_MV b = min mv 65535))
    ∧ (s.lcState n = lcOn → Does (.openLoadOn n cur) s (fun t =>
        t.rd F.LC_CH_STAT_OPEN_ON n = b2n (s.on F.LC_CH_SENSE_OPEN_MA n && decide (cur * 10 < s.rd F.LC_CH_SENSE_OPEN_MA n))))
    ∧ (s.lcState n = lcOff → s.asleep = false → Does (.offStateDiag n before after) s (fun t =>
        t.rd F.LC_CH_STAT_SHORT_BAT n = b2n before ∧ t.rd F.LC_CH_STAT_OPEN_OFF n = b2n (!before && after)))
    ∧ (s.lcState n ≠ lcInrush → exec (.inrushEnd n) s = .next s)
    ∧ (s.lcState n ≠ lcPause ∨ (s.rd F.LC_CH_STAT_LAST_FAULT n = 4 ∧ s.qLimit n < 2 * (s.load n).q) → exec (.lcPauseEnd n) s = .next s)
    ∧ (s.lcState n ≠ lcOn → s.lcState n ≠ lcOff → exec (.faultCountReset n) s = .next s)
    ∧ (s.lcState n ≠ lcOn → exec (.openLoadOn n cur) s = .next s)
    ∧ (s.lcState n ≠ lcOff ∨ s.asleep = true → exec (.offStateDiag n before after) s = .next s)
    ∧ Does .vbatWarningClear s (fun t => t.retryHold = false ∧
        ∀ m : Fin 24, s.bankInrush (m / 6) = false → s.lowestWaiting (m / 6) = some m.val → t.lcState m = lcInrush)

/-- LC_ON, LC_OFF, LC_CLR, the trips, the driver fault, the ends of inrush, pause and quiet time, dips and diagnosis leave every
register outside the load-channel block and every part of the state but the channels, the dip flags, the retry hold, the held
and deferred power-die configuration and the reports on their way as they were. LC_OFF, LC_ON and LC_CLR of a mask without
channel n leave n's fault count and its latch and fault events. Where the rules can be read in two ways or leave a point
open, it takes the reading of log entries 215 to 223. (rests on: spec 20 R402; spec 20 R404; spec 20 R408; spec 20 R395; spec
20 R406) -/
def Obligations.LoadCommandsLeaveTheRestUnchanged : Prop :=
  ∀ (s t : State) (mask : BitVec 24) (n : Fin 24) (b : Fin 4) (x y : Nat) (u v : Bool) (c : Instr),
    c ∈ ([.lcOn mask, .lcOff mask, .lcClr mask, .shortCircuitTrip n x y, .overcurrentTrip n x y, .energyTrip n x y, .thermalTrip n,
      .driverSenseFault n, .inrushEnd n, .lcPauseEnd n, .faultCountReset n, .vldDip b x, .vldDipEnd b x, .openLoadOn n x,
      .offStateDiag n u v, .vbatWarningClear] : List Instr) →
    exec c s = .next t →
    t = { s with regs := t.regs, loads := t.loads, vldDip := t.vldDip, retryHold := t.retryHold, pdConfig := t.pdConfig,
                 pdConfigWait := t.pdConfigWait, transit := t.transit, freeCtr := t.freeCtr }
    ∧ RegsBut loadFlds s t
    ∧ (c ∈ ([.lcOn mask, .lcOff mask, .lcClr mask] : List Instr) → mask.toNat.testBit n.val = false →
        t.rd F.LC_CH_STAT_FAULT_CNT n = s.rd F.LC_CH_STAT_FAULT_CNT n ∧ t.rd F.LC_CH_STAT_FAULT_EVT n = s.rd F.LC_CH_STAT_FAULT_EVT n
        ∧ t.rd F.LC_CH_STAT_LATCH_EVT n = s.rd F.LC_CH_STAT_LATCH_EVT n)

/-- A report of an assigned source reaching a Blotter that runs counts in the source's TOTAL and window. With nothing waiting and
nothing else in its cycle it is logged at HEAD with its class, source, element and detail; a NOTE or SEVERE one that does not
escalate counts and sets its event, and nothing is reset; a CRITICAL one resets the main die with cause 6 and the source,
when fewer than three such resets have come before; a TERMINAL one stops the device with the pair at fault. An escalated NOTE
report is logged as SEVERE with ESCALATED; with ESC_ACTION 1 it asks for the recovery of a port's SerDes and halts a Nib
engine that runs. A recovery whose fault the report brings joins those that wait. With the report of a parity error of the
Ligature bridge's state every stream resyncs. A Blotter that does not run, or an unassigned source, takes the report from its
way and does nothing else. Where the rules can be read in two ways or leave a point open, it takes the reading of log entries
5 to 16, 29 to 38, 180 to 191, 224 to 234. (rests on: spec 21 R410; spec 21 R411; spec 21 R412; spec 21 R413; spec 21 R415;
spec 03 R68; spec 17 R368; spec 21 R414; spec 01 R20) -/
def Obligations.BlotterLogsClassesAndReacts : Prop :=
  ∀ (s : State) (r : Report),
    let a : State := { s with transit := s.transit.erase r }
    let u := if r.src = 0x1E3 then a.ligParity else a
    let m := u.rd F.BLT_LOG_HEAD_HEAD 0
    let port := r.elem % 4096
    (∀ more, s.mainUp = false ∨ bltAssigned r.src = false → exec (.blotterReport r more) s = .next a)
    ∧ (s.mainUp = true → bltAssigned r.src = true → r.wellFormed = true → u.blt.queue = [] →
    Does (.blotterReport r true) s (fun t => t.blt.queue = [⟨r, if u.bltEscalates r.src && decide (u.bltClass r = 0) then 1 else u.bltClass r, u.bltEscalates r.src⟩]
      ∧ t.rd F.BLT_SRC_STAT_TOTAL r.src = min (u.rd F.BLT_SRC_STAT_TOTAL r.src + 1) (2 ^ F.BLT_SRC_STAT_TOTAL.width - 1)
      ∧ t.rd F.BLT_SRC_STAT_WIN_CNT r.src = min (u.bltWindow r.src) 255
      ∧ (∀ d q, faultRecovery r.src = some (d, q) → q ∈ (u.recov.of d).coming → (t.recov.of d).waiting = (u.recov.of d).waiting ++ [q])
      ∧ (r.src = 0x1E3 → ∀ ini dev, (t.ligStream ini dev).resync = true))
    ∧ (u.bltEscalates r.src = true → u.bltClass r = 0 → Does (.blotterReport r false) s (fun t =>
        t.blt.queue = [] ∧ t.rd F.BLT_LOG_VALID m = 1 ∧ t.rd F.BLT_LOG_SOURCE m = r.src ∧ t.rd F.BLT_LOG_CLASS m = 1 ∧ t.rd F.BLT_LOG_ESCALATED m = 1
        ∧ t.rd F.BLT_STAT_SEVERE_EVT 0 = 1 ∧ t.rd F.BLT_CNT_COUNT 3 = (u.rd F.BLT_CNT_COUNT 3 + 1) % 2 ^ F.BLT_CNT_COUNT.width
        ∧ (s.on F.BLT_SRC_CFG_ESC_ACTION r.src = true → r.elem < 40 →
            t.recov.forwarding.running = some (.serdes port) ∨ Recovery.serdes port ∈ t.recov.forwarding.waiting)
        ∧ (s.on F.BLT_SRC_CFG_ESC_ACTION r.src = true → r.elem / 4096 = 6 → port < 10 →
            u.rd F.NIB_STAT_STATE port = 1 ∨ u.rd F.NIB_STAT_STATE port = 2 ∨ u.rd F.NIB_STAT_STATE port = 4 → t.rd F.NIB_STAT_STATE port = 3)
        ∧ (s.on F.BLT_SRC_CFG_ESC_ACTION r.src = false → t.recov.fields = (u.recoveryReported r.src).recov.fields
            ∧ t.recov.forwarding = (u.recoveryReported r.src).recov.forwarding)))
    ∧ (u.bltEscalates r.src = false → u.bltClass r ≤ 1 → Does (.blotterReport r false) s (fun t =>
        t.blt.queue = [] ∧ t.phase = u.phase ∧ t.rd F.BLT_LOG_VALID m = 1 ∧ t.rd F.BLT_LOG_SOURCE m = r.src ∧ t.rd F.BLT_LOG_ELEMENT m = r.elem
        ∧ t.rd F.BLT_LOG_INFO m = r.info ∧ t.rd F.BLT_LOG_CLASS m = u.bltClass r ∧ t.rd F.BLT_LOG_HEAD_HEAD 0 = (m + 1) % 256
        ∧ t.rd (if u.bltClass r = 0 then F.BLT_STAT_NOTE_EVT else F.BLT_STAT_SEVERE_EVT) 0 = 1
        ∧ t.rd F.BLT_CNT_COUNT (u.bltClass r) = (u.rd F.BLT_CNT_COUNT (u.bltClass r) + 1) % 2 ^ F.BLT_CNT_COUNT.width))
    ∧ (u.bltClass r = 2 → u.rd F.GLB_RST_COUNT_COUNT 0 < 3 → Does (.blotterReport r false) s (fun t =>
        t.phase = .held ∧ t.rd F.GLB_RST_CAUSE_CAUSE 0 = 6 ∧ t.rd F.GLB_RST_CAUSE_BLT_SOURCE 0 = r.src
        ∧ t.rd F.GLB_RST_COUNT_COUNT 0 = u.rd F.GLB_RST_COUNT_COUNT 0 + 1 ∧ t.loads = u.loads))
    ∧ (u.bltClass r = 3 → Does (.blotterReport r false) s (fun t => t.phase = .off ∧ t.stopped = true ∧ t.pd.inh = false ∧ t.pairFault = true ∧ t.loads = u.loads)))

/-- A window that closes sets its count and its escalation mark to 0. Half a heartbeat period toggles FLT_P while the pair beats.
Main-die absent for ABSENT_MS with INH_OUT high shows fault; FORCE sets and clears its cause over a working link; without the
link neither it nor a clear of the power die's ring acts. In OFF the pins are not driven. LOG_CLR empties BLT_LOG and returns
HEAD to 0; CNT_CLR zeroes every counter and TOTAL; a CLR of BLT_PLOG_HEAD empties the ring with key 0xA5 and does nothing
with another. A failed self-check of the power die is reported as source 0x019. Where the rules can be read in two ways or
leave a point open, it takes the reading of log entries 224 to 234. (rests on: spec 21 R409; spec 21 R411; spec 21 R416; spec
21 R417; spec 21 BLT_CTL, BLT_PLOG_HEAD) -/
def Obligations.BlotterWindowsPairAndClears : Prop :=
  ∀ (s : State) (src : Fin 1024) (force : Bool) (key : BitVec 8) (info : Word),
    Does (.bltWindowClose src) s (fun t => t.rd F.BLT_SRC_STAT_WIN_CNT src = 0 ∧ t.rd F.BLT_SRC_STAT_ESC src = 0 ∧ t.bltWindow src = 1
        ∧ RegsBut [F.BLT_SRC_STAT_WIN_CNT, F.BLT_SRC_STAT_ESC] s t)
    ∧ (s.beating = true → Does .fltHeartbeat s (fun t => t.fltP = !s.fltP ∧ t.regs = s.regs))
    ∧ (s.beating = false → Does .fltHeartbeat s (fun t => t = { s with fltBeat := false } ∧ t.fltP = !s.pairFault))
    ∧ (s.ferrule.absent = true → s.pd.inh = true → Does .absentTimeout s (fun t => t.pairFault = true ∧ t.fltP = false ∧ RegsBut [F.BLT_FLT_STAT_ABSENT] s t
        ∧ t.fltPins = (if s.pd.phase = .off then none else some (false, true))))
    ∧ (s.ferrule.absent = false ∨ s.pd.inh = false → exec .absentTimeout s = .next s)
    ∧ (s.linkUp = false → exec (.fltForceWrite force) s = .next s ∧ exec (.bltPlogClr key) s = .next s)
    ∧ (s.linkUp = true → Does (.fltForceWrite force) s (fun t =>
        t.rd F.BLT_FLT_STAT_FORCE 0 = b2n force ∧ (force = true → t.pairFault = true) ∧ RegsBut [F.BLT_FLT_STAT_FORCE, F.BLT_FLT_CTL_FORCE] s t))
    ∧ Does .bltLogClr s (fun t => (∀ i, t.rd F.BLT_LOG_VALID i = 0) ∧ t.rd F.BLT_LOG_HEAD_HEAD 0 = 0 ∧ t.rd F.BLT_LOG_HEAD_WRAPPED 0 = 0
        ∧ t.rd F.BLT_PLOG_HEAD_HEAD 0 = s.rd F.BLT_PLOG_HEAD_HEAD 0)
    ∧ Does .bltCntClr s (fun t => (∀ i, t.rd F.BLT_CNT_COUNT i = 0 ∧ t.rd F.BLT_SRC_STAT_TOTAL i = 0) ∧ RegsBut [F.BLT_CNT_COUNT, F.BLT_SRC_STAT_TOTAL] s t)
    ∧ (s.linkUp = true → Does (.bltPlogClr 0xA5) s (fun t => (∀ i, t.rd F.BLT_PLOG_VALID i = 0) ∧ t.rd F.BLT_PLOG_HEAD_HEAD 0 = 0))
    ∧ (key ≠ 0xA5 → exec (.bltPlogClr key) s = .next s)
    ∧ Does (.powerDieSelfCheckFail info) s (fun t => t.regs = s.regs ∧ t.transit = s.transit ++ [⟨0x019, elemDevice, info.toNat⟩])

/-- In recovery mode without an authorisation the five commands are refused with 0x0E. Else STAGE refuses a manifest with the
code of the first check that fails, and otherwise shows its version: the set that the inactive bank holds already stays as it
is, any other takes its place without sheets, and a failed write is refused with 0x09. SHEET needs a staged set, an index it
names and the hash it names, then holds the sheet; a failed write is refused with 0x09. VERIFY sets READY exactly when every
sheet is held, hashed and readable and every part matches, and else refuses with 0x0D. COMMIT needs no persist and no key
command (0x10), no pending confirmation (0x11) and READY (0x0C), then writes an unconfirmed record with the next SEQ for the
inactive bank to the place of the older record, and with RESTART resets the main die; one whose write fails is refused with
0x09, and its place holds no record. ABORT clears READY. Where the rules can be read in two ways or leave a point open, it
takes the reading of log entries 235 to 246. (rests on: spec 22 R420; spec 22 R421; spec 22 R423; spec 22 R429) -/
def Obligations.UpdateStagesVerifiesAndCommits : Prop :=
  ∀ (s : State) (i : BitVec 12) (bad : List (BitVec 12)) (restart ok : Bool),
    let refused (c : Nat) (t : State) : Prop := t.rd F.UPD_STAT_LAST_ERR 0 = c ∧ t.rd F.UPD_STAT_REFUSED_EVT 0 = 1
    let finished (t : State) : Prop := t.rd F.UPD_STAT_LAST_ERR 0 = 0 ∧ t.rd F.UPD_STAT_DONE_EVT 0 = 1
    let m := s.manWin.read 0 (min (s.rd F.UPD_LEN_LEN 0) 262144)
    let e := s.manErr m (some (s.rd F.UPD_ACTIVE_VER_VALUE 0))
    let b := s.bank s.inactiveNo
    let same : Prop := b.man ≠ [] ∧ fit 48 (sha384 b.man) = fit 48 (sha384 m)
    let bytes := s.sheetBuf.read 0 4096
    let hashed : Prop := fit 48 (sha384 bytes) = manHash b.man i.toNat
    let seq := match s.recordInForce with | some (_, r) => (r.seq + 1) % 2 ^ 32 | none => 1
    (s.updBarred = true → ∀ c ∈ ([.updStage ok, .updSheet i ok, .updVerify bad, .updCommit restart ok, .updAbort] : List Instr),
        Does c s (fun t => refused 0x0E t ∧ t.flash = s.flash ∧ RegsBut [F.UPD_STAT_LAST_ERR, F.UPD_STAT_REFUSED_EVT] s t))
    ∧ (s.updBarred = false →
      (e ≠ 0 → Does (.updStage ok) s (fun t => refused e t ∧ t.flash = s.flash))
      ∧ (e = 0 → same → Does (.updStage ok) s (fun t => finished t ∧ t.rd F.UPD_STAGED_VER_VALUE 0 = manVersion m % 2 ^ 32 ∧ t.flash = s.flash))
      ∧ (e = 0 → ¬ same → Does (.updStage true) s (fun t => finished t ∧ t.rd F.UPD_STAGED_VER_VALUE 0 = manVersion m % 2 ^ 32
          ∧ t.bank s.inactiveNo = ⟨m, [], []⟩ ∧ t.rd F.UPD_STAT_READY 0 = 0))
      ∧ (e = 0 → ¬ same → Does (.updStage false) s (fun t => refused 0x09 t ∧ t.rd F.UPD_STAGED_VER_VALUE 0 = 0 ∧ t.rd F.UPD_STAT_READY 0 = 0))
      ∧ (s.updStaged = false → Does (.updSheet i ok) s (fun t => refused 0x0A t ∧ t.flash = s.flash) ∧ Does (.updVerify bad) s (fun t => refused 0x0A t ∧ t.flash = s.flash))
      ∧ (s.updStaged = true →
        (manSheets b.man ≤ i.toNat → Does (.updSheet i ok) s (fun t => refused 0x07 t ∧ t.flash = s.flash))
        ∧ (i.toNat < manSheets b.man → ¬ hashed → Does (.updSheet i ok) s (fun t => refused 0x08 t ∧ t.rd F.UPD_BAD_SHEET_INDEX 0 = i.toNat ∧ t.flash = s.flash))
        ∧ (i.toNat < manSheets b.man → hashed → Does (.updSheet i true) s (fun t => finished t
            ∧ (t.bank s.inactiveNo).sheets.find i.toNat = some ((b.sheets.find i.toNat).getD bytes)))
        ∧ (i.toNat < manSheets b.man → hashed → b.sheets.find i.toNat = none → Does (.updSheet i false) s (fun t => refused 0x09 t ∧ t.flash = s.flash
            ∧ t.rd F.UPD_BAD_SHEET_INDEX 0 = i.toNat))
        ∧ (let held : Prop := (∀ j, j < manSheets b.man → ∃ x, b.sheets.find j = some x ∧ fit 48 (sha384 x) = manHash b.man j
              ∧ j ∉ bad.map BitVec.toNat) ∧ (∀ k, k < 6 → b.partGood (k + 1) = true)
          (held → Does (.updVerify bad) s (fun t => finished t ∧ t.rd F.UPD_STAT_READY 0 = 1 ∧ t.flash = s.flash))
          ∧ (¬ held → Does (.updVerify bad) s (fun t => refused 0x0D t ∧ t.rd F.UPD_STAT_READY 0 = 0))))
      ∧ ((s.on F.SCR_STAT_PERSISTING 0 || s.on F.KEY_STAT_BUSY 0) = true → Does (.updCommit restart ok) s (fun t => refused 0x10 t ∧ t.flash = s.flash))
      ∧ ((s.on F.SCR_STAT_PERSISTING 0 || s.on F.KEY_STAT_BUSY 0) = false →
        (s.on F.UPD_STAT_CONFIRM_PENDING 0 = true → Does (.updCommit restart ok) s (fun t => refused 0x11 t ∧ t.flash = s.flash))
        ∧ (s.on F.UPD_STAT_CONFIRM_PENDING 0 = false → s.on F.UPD_STAT_READY 0 = false → Does (.updCommit restart ok) s (fun t => refused 0x0C t ∧ t.flash = s.flash))
        ∧ (s.on F.UPD_STAT_CONFIRM_PENDING 0 = false → s.on F.UPD_STAT_READY 0 = true →
          Does (.updCommit false true) s (fun t => finished t ∧ t.rd F.UPD_COMMIT_SEQ_VALUE 0 = seq % 2 ^ 32
            ∧ t.flash.commits.find s.commitPlace = some (CommitRec.bytes ⟨seq, s.inactiveNo, false, manVersion b.man, fit 48 (sha384 b.man)⟩)
            ∧ t.flash.commits.find (1 - s.commitPlace) = s.flash.commits.find (1 - s.commitPlace))
          ∧ Does (.updCommit true true) s (fun t => t.phase = .held ∧ t.rd F.GLB_RST_CAUSE_CAUSE 0 = 4
            ∧ t.flash.commits.find s.commitPlace = some (CommitRec.bytes ⟨seq, s.inactiveNo, false, manVersion b.man, fit 48 (sha384 b.man)⟩))
          ∧ Does (.updCommit restart false) s (fun t => refused 0x09 t ∧ t.flash.commits.find s.commitPlace = none)))
      ∧ Does .updAbort s (fun t => finished t ∧ t.rd F.UPD_STAT_READY 0 = 0 ∧ t.flash = s.flash))

/-- CONFIRM marks every record of the active bank confirmed and stops the time to confirm; a failed write is refused with 0x09.
With that time running, 10 s before its end CONFIRM_DUE_EVT is set, and at its end the start check fails with code 0x0E and
the device enters recovery mode with a TOMBSTONE of that code, unless it holds one already; without it neither does anything.
AUTH takes the key that the authorisation names: unknown keys are refused with 0x05, a signature over the present nonce that
does not verify with 0x06, and one that does sets AUTHED. CHALLENGE draws a new nonce and clears AUTHED; without a TRNG it is
refused with 0x0F. An authorisation is needed in recovery mode. Where the rules can be read in two ways or leave a point
open, it takes the reading of log entries 145 to 158, 235 to 246. (rests on: spec 22 R425; spec 22 R426; spec 22 R427; spec
14 R302) -/
def Obligations.UpdateConfirmsAndAuthorises : Prop :=
  ∀ (s : State) (ok : Bool),
    let a := s.sheetBuf.read 0 100
    let refused (c : Nat) (t : State) : Prop := t.rd F.UPD_STAT_LAST_ERR 0 = c ∧ t.rd F.UPD_STAT_REFUSED_EVT 0 = 1 ∧ t.flash = s.flash
      ∧ t.rd F.UPD_STAT_AUTHED 0 = s.rd F.UPD_STAT_AUTHED 0
    let verifies (k : Nat) : Bool := ecdsaVerify (Config.fleetKey k)
      ([0x56, 0x47, 0x4E, 0x2D, 0x4D, 0x41, 0x49, 0x4E, 0x54] ++ fit 16 Config.uid ++ s.nonce) ((a.drop 4).take 96)
    (s.updBarred = false → Does (.updConfirm true) s (fun t => t.rd F.UPD_STAT_CONFIRM_PENDING 0 = 0 ∧ t.rd F.UPD_STAT_LAST_ERR 0 = 0
        ∧ t.upd.confirmAt = none ∧ ∀ p r, t.commitAt p = some r → r.bank = s.activeNo → r.confirmed = true))
    ∧ (s.updBarred = false → Does (.updConfirm false) s (refused 0x09))
    ∧ (s.updBarred = true → Does (.updConfirm ok) s (refused 0x0E))
    ∧ (s.upd.confirmAt.isSome = true → Does .confirmDue s (fun t => t = s.wr F.UPD_STAT_CONFIRM_DUE_EVT 0 1)
      ∧ Does .confirmTimeout s (fun t => t.phase = .recovery ∧ t.rd F.GLB_BOOT_STAT_FAIL_CODE 0 = 0x0E ∧ t.tombstone.isSome = true
          ∧ (s.tombstone = none → fieldAt t.flash.tomb 4 1 = 0x0E) ∧ (s.tombstone.isSome = true → t.flash = s.flash) ∧ t.pairFault = true))
    ∧ (s.upd.confirmAt = none → exec .confirmDue s = .next s ∧ exec .confirmTimeout s = .next s)
    ∧ (s.fleetPos (fieldAt a 0 4) = none → Does .updAuth s (refused 0x05))
    ∧ (∀ k, s.fleetPos (fieldAt a 0 4) = some k → verifies k = false → Does .updAuth s (refused 0x06))
    ∧ (∀ k, s.fleetPos (fieldAt a 0 4) = some k → verifies k = true → Does .updAuth s (fun t => t.rd F.UPD_STAT_AUTHED 0 = 1 ∧ t.rd F.UPD_STAT_LAST_ERR 0 = 0))
    ∧ (s.trngFail = true → Does .updChallenge s (refused 0x0F))
    ∧ (s.trngFail = false → Does .updChallenge s (fun t => t.rd F.UPD_STAT_AUTHED 0 = 0 ∧ t.rd F.UPD_STAT_LAST_ERR 0 = 0 ∧ t.flash = s.flash
        ∧ t.nonce = (s.random 16).2))

/-- Outside recovery mode a frame of any type changes nothing. In recovery mode a frame with a bad CRC is answered with status
0x01 and changes nothing else. With a good one: HELLO answers DEV_ID, revision, UID and GLB_BOOT_STAT; CHALLENGE answers the
new nonce, or without a TRNG is refused; AUTH acts as the command does; with the authorisation, MANIFEST stores its bytes at
its offset, SHEET fills the sheet buffer, and COMMIT writes the commit record as the command does; SET_RATE takes 115,200,
921,600 and 3,000,000 bit/s. Without the authorisation these four are answered 0x02. Where the rules can be read in two ways
or leave a point open, it takes the reading of log entries 29 to 38, 235 to 246. (rests on: spec 03 R69; spec 03 R70; spec 22
R427; spec 22 R428) -/
def Obligations.MaintenanceUartAnswersFrames : Prop :=
  ∀ (s : State) (p : List Byte) (crc : BitVec 16) (bad : List (BitVec 12)) (ok : Bool),
    (s.phase ≠ .recovery → ∀ c ∈ ([.uartHello p crc, .uartChallenge p crc, .uartAuth p crc, .uartManifest p crc ok, .uartSheet p crc ok,
        .uartCommit p crc bad ok, .uartSetRate p crc] : List Instr), exec c s = .next s)
    ∧ (s.phase = .recovery →
      (∀ x ∈ ([(0x01, .uartHello p crc), (0x02, .uartChallenge p crc), (0x03, .uartAuth p crc), (0x04, .uartManifest p crc ok),
          (0x05, .uartSheet p crc ok), (0x06, .uartCommit p crc bad ok), (0x07, .uartSetRate p crc)] : List (Nat × Instr)),
        crc.toNat ≠ uartCrc x.1 p → ∃ rest reply, exec x.2 s = .next { s with upd := { s.upd with reply := reply } } ∧ reply = uartFrame 0x80 (beBytes 1 1 ++ rest))
      ∧ (crc.toNat = uartCrc 0x01 p → Does (.uartHello p crc) s (fun t => t.regs = s.regs
          ∧ t.upd.reply = uartFrame 0x80 (beBytes 1 0 ++ (beBytes 4 0x56476412 ++ beBytes 4 s.devRev ++ fit 16 Config.uid ++ beBytes 4 s.bootStat))))
      ∧ (crc.toNat = uartCrc 0x02 p → s.trngFail = false → Does (.uartChallenge p crc) s (fun t => t.rd F.UPD_STAT_AUTHED 0 = 0
          ∧ t.nonce = (s.random 16).2 ∧ t.upd.reply = uartFrame 0x80 (beBytes 1 0 ++ t.nonce)))
      ∧ (crc.toNat = uartCrc 0x02 p → s.trngFail = true → Does (.uartChallenge p crc) s (fun t => t.rd F.UPD_STAT_AUTHED 0 = s.rd F.UPD_STAT_AUTHED 0
          ∧ t.upd.reply = uartFrame 0x80 (beBytes 1 3)))
      ∧ (s.on F.UPD_STAT_AUTHED 0 = false → ∀ x ∈ ([(0x04, .uartManifest p crc ok), (0x05, .uartSheet p crc ok), (0x06, .uartCommit p crc bad ok),
          (0x07, .uartSetRate p crc)] : List (Nat × Instr)), crc.toNat = uartCrc x.1 p → Does x.2 s (fun t => t.flash = s.flash ∧ t.manWin = s.manWin
            ∧ t.sheetBuf = s.sheetBuf ∧ t.upd.rate = s.upd.rate ∧ ∃ rest, t.upd.reply = uartFrame 0x80 (beBytes 1 2 ++ rest)))
      ∧ (crc.toNat = uartCrc 0x03 p → p.length = 100 → Does (.uartAuth p crc) s (fun t => t.regs = (s.updAuth p).regs
          ∧ t.upd.reply.getD 5 0 = BitVec.ofNat 8 (t.rd F.UPD_STAT_LAST_ERR 0)))
      ∧ (s.on F.UPD_STAT_AUTHED 0 = true →
        (crc.toNat = uartCrc 0x04 p → 8 ≤ p.length → p.length ≤ 4104 → fieldAt p 4 4 ≤ 262144 → fieldAt p 0 4 + (p.length - 8) < fieldAt p 4 4 →
          Does (.uartManifest p crc ok) s (fun t => t.manWin = s.manWin.writes (fieldAt p 0 4) (p.drop 8) ∧ t.rd F.UPD_STAT_LAST_ERR 0 = 0))
        ∧ (crc.toNat = uartCrc 0x05 p → p.length = 4100 → Does (.uartSheet p crc ok) s (fun t => t.sheetBuf = s.sheetBuf.writes 0 (p.drop 4)))
        ∧ (crc.toNat = uartCrc 0x06 [0] → Does (.uartCommit [0] crc bad ok) s (fun t => t.flash = ((s.wr F.UPD_STAT_LAST_ERR 0 0).updCommit ok).1.flash))
        ∧ (crc.toNat = uartCrc 0x07 p → p.length = 4 → fieldAt p 0 4 = 115200 ∨ fieldAt p 0 4 = 921600 ∨ fieldAt p 0 4 = 3000000 →
          Does (.uartSetRate p crc) s (fun t => t.upd.rate = fieldAt p 0 4 ∧ t.regs = s.regs))))

/-- CNT_CLR of a CAN, 10BASE-T1S or MVB lane clears every counter of that lane and none of another; that of a pipeline its
PPx_CNT, PPx_DECLINE_CNT and PPx_STENCIL_CNT and none of the other pipeline's; that of a Nib engine its NIB_CNT and
NIB_EVQ.PEAK. Those of the tables, the queues, the signal gateway, the Rulers, the key store, the cipher complex, the DMA
rings, the Ligature bridge and network sleep clear every element of the counters named. Nothing else changes. Where the rules
can be read in two ways or leave a point open, it takes the reading of log entries 51 to 62, 63 to 67, 68 to 82, 83 to 94, 95
to 105, 106 to 117, 118 to 124, 145 to 158, 159 to 169, 170 to 179, 180 to 191, 205 to 214. (rests on: spec 05
LSL_CAN_CTL.CNT_CLR; spec 06 LSL_T1S_CTL.CNT_CLR; spec 07 PPx_CTL.CNT_CLR; spec 08 TBL_CTL.CNT_CLR; spec 09 QUE_CTL.CNT_CLR;
spec 10 NIB_CTL.CNT_CLR; spec 11 SIG_CTL.CNT_CLR; spec 14 KEY_CTL.CNT_CLR; spec 15 CIP_CTL.CNT_CLR; spec 16 DMA_CTL.CNT_CLR;
spec 17 BRG_CTL.CNT_CLR; spec 19 NSL_CTL.CNT_CLR) -/
def Obligations.CounterClearsClearTheirCountersAlone : Prop :=
  ∀ (s : State) (n : Fin 24) (i : Pipe) (e : Fin 10),
    let only (fs : List Fld) (t : State) : Prop := t = { s with regs := t.regs } ∧ RegsBut fs s t
    let own (f : Fld) (per k : Nat) (t : State) : Prop := ∀ j, t.rd f j = if j / per = k then 0 else s.rd f j
    let all (f : Fld) (t : State) : Prop := ∀ j, t.rd f j = 0
    Does (.canCntClr n) s (fun t => own F.LSL_CAN_CNT_COUNT 20 n t ∧ only [F.LSL_CAN_CNT_COUNT] t)
    ∧ Does (.t1sCntClr n) s (fun t => own F.LSL_T1S_CNT_COUNT 14 n t ∧ only [F.LSL_T1S_CNT_COUNT] t)
    ∧ Does (.mvbCntClr n) s (fun t => own F.LSL_MVB_CNT_COUNT 10 n t ∧ only [F.LSL_MVB_CNT_COUNT] t)
    ∧ Does (.ppxCntClr i) s (fun t => own F.PP_CNT_COUNT 10 i.idx t ∧ own F.PP_DECLINE_CNT_COUNT 14 i.idx t ∧ own F.PP_STENCIL_CNT_COUNT 1024 i.idx t
        ∧ only [F.PP_CNT_COUNT, F.PP_DECLINE_CNT_COUNT, F.PP_STENCIL_CNT_COUNT] t)
    ∧ Does .tblCntClr s (fun t => all F.TBL_CNT_COUNT t ∧ all F.TBL_RED_CNT_COUNT t ∧ only [F.TBL_CNT_COUNT, F.TBL_RED_CNT_COUNT] t)
    ∧ Does .queCntClr s (fun t => all F.QUE_CNT_COUNT t ∧ all F.INK_CNT_COUNT t ∧ all F.RSV_CNT_COUNT t ∧ all F.QUE_RECIRC_DROP_COUNT t
        ∧ only [F.QUE_CNT_COUNT, F.INK_CNT_COUNT, F.RSV_CNT_COUNT, F.QUE_RECIRC_DROP_COUNT] t)
    ∧ Does (.nibCntClr e) s (fun t => own F.NIB_CNT_COUNT 9 e t ∧ t.rd F.NIB_EVQ_PEAK e = 0 ∧ ElemsBut F.NIB_EVQ_PEAK e s t
        ∧ only [F.NIB_CNT_COUNT, F.NIB_EVQ_PEAK] t)
    ∧ Does .sigCntClr s (fun t => all F.SIG_CNT_COUNT t ∧ only [F.SIG_CNT_COUNT] t)
    ∧ Does .rulCntClr s (fun t => all F.RUL_CNT_COUNT t ∧ only [F.RUL_CNT_COUNT] t)
    ∧ Does .keyCntClr s (fun t => all F.KEY_CNT_COUNT t ∧ only [F.KEY_CNT_COUNT] t)
    ∧ Does .cipCntClr s (fun t => all F.CIP_PORT_CNT_COUNT t ∧ all F.CIP_SEAL_CNT_COUNT t ∧ only [F.CIP_PORT_CNT_COUNT, F.CIP_SEAL_CNT_COUNT] t)
    ∧ Does .dmaCntClr s (fun t => all F.DMA_RING_CNT_COUNT t ∧ only [F.DMA_RING_CNT_COUNT] t)
    ∧ Does .brgCntClr s (fun t => all F.BRG_CNT_COUNT t ∧ only [F.BRG_CNT_COUNT] t)
    ∧ Does .nslCntClr s (fun t => all F.NSL_CNT_COUNT t ∧ only [F.NSL_CNT_COUNT] t)
end

