-- ==== Sys2Proof/Laws/State.lean ====
section
/-! SUPPORT. One small lemma per field of State: the register file and the other fields do not disturb
each other, whatever is written. -/
namespace Sys2Proof.Machine

@[simp] theorem State.wr_now (s : State) (f : Fld) (i v : Nat) : (s.wr f i v).now = s.now := rfl
@[simp] theorem State.wr_freeCtr (s : State) (f : Fld) (i v : Nat) : (s.wr f i v).freeCtr = s.freeCtr := rfl
@[simp] theorem State.wr_answer (s : State) (f : Fld) (i v : Nat) : (s.wr f i v).answer = s.answer := rfl
@[simp] theorem State.wr_bus (s : State) (f : Fld) (i v : Nat) : (s.wr f i v).bus = s.bus := rfl
@[simp] theorem State.wr_ferrule (s : State) (f : Fld) (i v : Nat) : (s.wr f i v).ferrule = s.ferrule := rfl
@[simp] theorem State.wr_recov (s : State) (f : Fld) (i v : Nat) : (s.wr f i v).recov = s.recov := rfl
@[simp] theorem State.wr_pd (s : State) (f : Fld) (i v : Nat) : (s.wr f i v).pd = s.pd := rfl
@[simp] theorem State.wr_phase (s : State) (f : Fld) (i v : Nat) : (s.wr f i v).phase = s.phase := rfl
@[simp] theorem State.wr_maintLow (s : State) (f : Fld) (i v : Nat) : (s.wr f i v).maintLow = s.maintLow := rfl
@[simp] theorem State.wr_wdog (s : State) (f : Fld) (i v : Nat) : (s.wr f i v).wdog = s.wdog := rfl
@[simp] theorem State.wr_cores (s : State) (f : Fld) (i v : Nat) : (s.wr f i v).cores = s.cores := rfl
@[simp] theorem State.wr_wdogWarned (s : State) (f : Fld) (i v : Nat) : (s.wr f i v).wdogWarned = s.wdogWarned := rfl
@[simp] theorem State.wr_inService (s : State) (f : Fld) (i v : Nat) : (s.wr f i v).inService = s.inService := rfl
@[simp] theorem State.wr_flight (s : State) (f : Fld) (i v : Nat) : (s.wr f i v).flight = s.flight := rfl
@[simp] theorem State.wr_strokes (s : State) (f : Fld) (i v : Nat) : (s.wr f i v).strokes = s.strokes := rfl
@[simp] theorem State.wr_memCfg (s : State) (f : Fld) (i v : Nat) : (s.wr f i v).memCfg = s.memCfg := rfl
@[simp] theorem State.wr_fdb (s : State) (f : Fld) (i v : Nat) : (s.wr f i v).fdb = s.fdb := rfl
@[simp] theorem State.wr_rows (s : State) (f : Fld) (i v : Nat) : (s.wr f i v).rows = s.rows := rfl
@[simp] theorem State.wr_shadow (s : State) (f : Fld) (i v : Nat) : (s.wr f i v).shadow = s.shadow := rfl
@[simp] theorem State.wr_routes4 (s : State) (f : Fld) (i v : Nat) : (s.wr f i v).routes4 = s.routes4 := rfl
@[simp] theorem State.wr_routes6 (s : State) (f : Fld) (i v : Nat) : (s.wr f i v).routes6 = s.routes6 := rfl
@[simp] theorem State.wr_tokens (s : State) (f : Fld) (i v : Nat) : (s.wr f i v).tokens = s.tokens := rfl
@[simp] theorem State.wr_updBuf (s : State) (f : Fld) (i v : Nat) : (s.wr f i v).updBuf = s.updBuf := rfl
@[simp] theorem State.wr_routerMac (s : State) (f : Fld) (i v : Nat) : (s.wr f i v).routerMac = s.routerMac := rfl
@[simp] theorem State.wr_learnQ (s : State) (f : Fld) (i v : Nat) : (s.wr f i v).learnQ = s.learnQ := rfl
@[simp] theorem State.wr_drainMet (s : State) (f : Fld) (i v : Nat) : (s.wr f i v).drainMet = s.drainMet := rfl
@[simp] theorem State.wr_mtime (s : State) (f : Fld) (i v : Nat) : (s.wr f i v).mtime = s.mtime := rfl
@[simp] theorem State.wr_hostMem (s : State) (f : Fld) (i v : Nat) : (s.wr f i v).hostMem = s.hostMem := rfl
@[simp] theorem State.wr_scribeMem (s : State) (f : Fld) (i v : Nat) : (s.wr f i v).scribeMem = s.scribeMem := rfl
@[simp] theorem State.wr_pcieUp (s : State) (f : Fld) (i v : Nat) : (s.wr f i v).pcieUp = s.pcieUp := rfl
@[simp] theorem State.wr_polBad (s : State) (f : Fld) (i v : Nat) : (s.wr f i v).polBad = s.polBad := rfl
@[simp] theorem State.wr_trieBad (s : State) (f : Fld) (i v : Nat) : (s.wr f i v).trieBad = s.trieBad := rfl
@[simp] theorem State.wr_polLost (s : State) (f : Fld) (i v : Nat) : (s.wr f i v).polLost = s.polLost := rfl
@[simp] theorem State.wr_dramRate (s : State) (f : Fld) (i v : Nat) : (s.wr f i v).dramRate = s.dramRate := rfl
@[simp] theorem State.wr_frames (s : State) (f : Fld) (i v : Nat) : (s.wr f i v).frames = s.frames := rfl
@[simp] theorem State.wr_queues (s : State) (f : Fld) (i v : Nat) : (s.wr f i v).queues = s.queues := rfl
@[simp] theorem State.wr_fifos (s : State) (f : Fld) (i v : Nat) : (s.wr f i v).fifos = s.fifos := rfl
@[simp] theorem State.wr_recirc (s : State) (f : Fld) (i v : Nat) : (s.wr f i v).recirc = s.recirc := rfl
@[simp] theorem State.wr_ink (s : State) (f : Fld) (i v : Nat) : (s.wr f i v).ink = s.ink := rfl
@[simp] theorem State.wr_sched (s : State) (f : Fld) (i v : Nat) : (s.wr f i v).sched = s.sched := rfl
@[simp] theorem State.wr_cbs (s : State) (f : Fld) (i v : Nat) : (s.wr f i v).cbs = s.cbs := rfl
@[simp] theorem State.wr_sigTable (s : State) (f : Fld) (i v : Nat) : (s.wr f i v).sigTable = s.sigTable := rfl
@[simp] theorem State.wr_rulers (s : State) (f : Fld) (i v : Nat) : (s.wr f i v).rulers = s.rulers := rfl
@[simp] theorem State.wr_tsRecs (s : State) (f : Fld) (i v : Nat) : (s.wr f i v).tsRecs = s.tsRecs := rfl
@[simp] theorem State.wr_txRing (s : State) (f : Fld) (i v : Nat) : (s.wr f i v).txRing = s.txRing := rfl
@[simp] theorem State.wr_txReqCount (s : State) (f : Fld) (i v : Nat) : (s.wr f i v).txReqCount = s.txReqCount := rfl
@[simp] theorem State.wr_ppsOut (s : State) (f : Fld) (i v : Nat) : (s.wr f i v).ppsOut = s.ppsOut := rfl
@[simp] theorem State.wr_ppsIn (s : State) (f : Fld) (i v : Nat) : (s.wr f i v).ppsIn = s.ppsIn := rfl
@[simp] theorem State.wr_capMask (s : State) (f : Fld) (i v : Nat) : (s.wr f i v).capMask = s.capMask := rfl
@[simp] theorem State.wr_dd (s : State) (f : Fld) (i v : Nat) : (s.wr f i v).dd = s.dd := rfl
@[simp] theorem State.wr_agg (s : State) (f : Fld) (i v : Nat) : (s.wr f i v).agg = s.agg := rfl
@[simp] theorem State.wr_pins (s : State) (f : Fld) (i v : Nat) : (s.wr f i v).pins = s.pins := rfl
@[simp] theorem State.wr_enqAt (s : State) (f : Fld) (i v : Nat) : (s.wr f i v).enqAt = s.enqAt := rfl
@[simp] theorem State.wr_rtcFrac (s : State) (f : Fld) (i v : Nat) : (s.wr f i v).rtcFrac = s.rtcFrac := rfl
@[simp] theorem State.wr_loads (s : State) (f : Fld) (i v : Nat) : (s.wr f i v).loads = s.loads := rfl
@[simp] theorem State.wr_vldDip (s : State) (f : Fld) (i v : Nat) : (s.wr f i v).vldDip = s.vldDip := rfl
@[simp] theorem State.wr_pdConfig (s : State) (f : Fld) (i v : Nat) : (s.wr f i v).pdConfig = s.pdConfig := rfl
@[simp] theorem State.wr_pdConfigWait (s : State) (f : Fld) (i v : Nat) : (s.wr f i v).pdConfigWait = s.pdConfigWait := rfl
@[simp] theorem State.wr_retryHold (s : State) (f : Fld) (i v : Nat) : (s.wr f i v).retryHold = s.retryHold := rfl
@[simp] theorem State.wr_transit (s : State) (f : Fld) (i v : Nat) : (s.wr f i v).transit = s.transit := rfl
@[simp] theorem State.wr_blt (s : State) (f : Fld) (i v : Nat) : (s.wr f i v).blt = s.blt := rfl
@[simp] theorem State.wr_plogCopy (s : State) (f : Fld) (i v : Nat) : (s.wr f i v).plogCopy = s.plogCopy := rfl
@[simp] theorem State.wr_fltBeat (s : State) (f : Fld) (i v : Nat) : (s.wr f i v).fltBeat = s.fltBeat := rfl
@[simp] theorem State.wr_stopped (s : State) (f : Fld) (i v : Nat) : (s.wr f i v).stopped = s.stopped := rfl
@[simp] theorem State.wr_scr (s : State) (f : Fld) (i v : Nat) : (s.wr f i v).scr = s.scr := rfl
@[simp] theorem State.wr_flash (s : State) (f : Fld) (i v : Nat) : (s.wr f i v).flash = s.flash := rfl
@[simp] theorem State.wr_upd (s : State) (f : Fld) (i v : Nat) : (s.wr f i v).upd = s.upd := rfl
@[simp] theorem State.wr_portHold (s : State) (f : Fld) (i v : Nat) : (s.wr f i v).portHold = s.portHold := rfl
@[simp] theorem State.wr_staging (s : State) (f : Fld) (i v : Nat) : (s.wr f i v).staging = s.staging := rfl
@[simp] theorem State.wr_sheetBuf (s : State) (f : Fld) (i v : Nat) : (s.wr f i v).sheetBuf = s.sheetBuf := rfl
@[simp] theorem State.wr_manWin (s : State) (f : Fld) (i v : Nat) : (s.wr f i v).manWin = s.manWin := rfl
@[simp] theorem State.wr_coreStop (s : State) (f : Fld) (i v : Nat) : (s.wr f i v).coreStop = s.coreStop := rfl
@[simp] theorem State.wr_eth (s : State) (f : Fld) (i v : Nat) : (s.wr f i v).eth = s.eth := rfl
@[simp] theorem State.wr_lastTx (s : State) (f : Fld) (i v : Nat) : (s.wr f i v).lastTx = s.lastTx := rfl
@[simp] theorem State.wr_can (s : State) (f : Fld) (i v : Nat) : (s.wr f i v).can = s.can := rfl
@[simp] theorem State.wr_canBad (s : State) (f : Fld) (i v : Nat) : (s.wr f i v).canBad = s.canBad := rfl
@[simp] theorem State.wr_t1s (s : State) (f : Fld) (i v : Nat) : (s.wr f i v).t1s = s.t1s := rfl
@[simp] theorem State.wr_mvb (s : State) (f : Fld) (i v : Nat) : (s.wr f i v).mvb = s.mvb := rfl
@[simp] theorem State.wr_mvbData (s : State) (f : Fld) (i v : Nat) : (s.wr f i v).mvbData = s.mvbData := rfl
@[simp] theorem State.wr_mvbPoll (s : State) (f : Fld) (i v : Nat) : (s.wr f i v).mvbPoll = s.mvbPoll := rfl
@[simp] theorem State.wr_aocArmed (s : State) (f : Fld) (i v : Nat) : (s.wr f i v).aocArmed = s.aocArmed := rfl
@[simp] theorem State.wr_nib (s : State) (f : Fld) (i v : Nat) : (s.wr f i v).nib = s.nib := rfl
@[simp] theorem State.wr_ss (s : State) (f : Fld) (i v : Nat) : (s.wr f i v).ss = s.ss := rfl
@[simp] theorem State.wr_ssBad (s : State) (f : Fld) (i v : Nat) : (s.wr f i v).ssBad = s.ssBad := rfl
@[simp] theorem State.wr_keySlots (s : State) (f : Fld) (i v : Nat) : (s.wr f i v).keySlots = s.keySlots := rfl
@[simp] theorem State.wr_keyCmd (s : State) (f : Fld) (i v : Nat) : (s.wr f i v).keyCmd = s.keyCmd := rfl
@[simp] theorem State.wr_drbg (s : State) (f : Fld) (i v : Nat) : (s.wr f i v).drbg = s.drbg := rfl
@[simp] theorem State.wr_keyScramble (s : State) (f : Fld) (i v : Nat) : (s.wr f i v).keyScramble = s.keyScramble := rfl
@[simp] theorem State.wr_keyDataMask (s : State) (f : Fld) (i v : Nat) : (s.wr f i v).keyDataMask = s.keyDataMask := rfl
@[simp] theorem State.wr_trngFail (s : State) (f : Fld) (i v : Nat) : (s.wr f i v).trngFail = s.trngFail := rfl
@[simp] theorem State.wr_keyMsg (s : State) (f : Fld) (i v : Nat) : (s.wr f i v).keyMsg = s.keyMsg := rfl
@[simp] theorem State.wr_keyAtt (s : State) (f : Fld) (i v : Nat) : (s.wr f i v).keyAtt = s.keyAtt := rfl
@[simp] theorem State.wr_kucHigh (s : State) (f : Fld) (i v : Nat) : (s.wr f i v).kucHigh = s.kucHigh := rfl
@[simp] theorem State.wr_fleetRevoked (s : State) (f : Fld) (i v : Nat) : (s.wr f i v).fleetRevoked = s.fleetRevoked := rfl
@[simp] theorem State.wr_keyFlash (s : State) (f : Fld) (i v : Nat) : (s.wr f i v).keyFlash = s.keyFlash := rfl
@[simp] theorem State.wr_tamperFlag (s : State) (f : Fld) (i v : Nat) : (s.wr f i v).tamperFlag = s.tamperFlag := rfl
@[simp] theorem State.wr_tampRec (s : State) (f : Fld) (i v : Nat) : (s.wr f i v).tampRec = s.tampRec := rfl
@[simp] theorem State.wr_keyCopies (s : State) (f : Fld) (i v : Nat) : (s.wr f i v).keyCopies = s.keyCopies := rfl
@[simp] theorem State.wr_pnOver (s : State) (f : Fld) (i v : Nat) : (s.wr f i v).pnOver = s.pnOver := rfl
@[simp] theorem State.wr_secpol (s : State) (f : Fld) (i v : Nat) : (s.wr f i v).secpol = s.secpol := rfl
@[simp] theorem State.wr_laRun (s : State) (f : Fld) (i v : Nat) : (s.wr f i v).laRun = s.laRun := rfl
@[simp] theorem State.wr_laWin (s : State) (f : Fld) (i v : Nat) : (s.wr f i v).laWin = s.laWin := rfl
@[simp] theorem State.wr_sealNo (s : State) (f : Fld) (i v : Nat) : (s.wr f i v).sealNo = s.sealNo := rfl
@[simp] theorem State.wr_sealWait (s : State) (f : Fld) (i v : Nat) : (s.wr f i v).sealWait = s.sealWait := rfl
@[simp] theorem State.wr_sealHeld (s : State) (f : Fld) (i v : Nat) : (s.wr f i v).sealHeld = s.sealHeld := rfl
@[simp] theorem State.wr_pcie (s : State) (f : Fld) (i v : Nat) : (s.wr f i v).pcie = s.pcie := rfl
@[simp] theorem State.wr_rings (s : State) (f : Fld) (i v : Nat) : (s.wr f i v).rings = s.rings := rfl
@[simp] theorem State.wr_ringLast (s : State) (f : Fld) (i v : Nat) : (s.wr f i v).ringLast = s.ringLast := rfl
@[simp] theorem State.wr_msix (s : State) (f : Fld) (i v : Nat) : (s.wr f i v).msix = s.msix := rfl
@[simp] theorem State.wr_lig (s : State) (f : Fld) (i v : Nat) : (s.wr f i v).lig = s.lig := rfl
@[simp] theorem State.wr_brgRx (s : State) (f : Fld) (i v : Nat) : (s.wr f i v).brgRx = s.brgRx := rfl
@[simp] theorem State.wr_pwr (s : State) (f : Fld) (i v : Nat) : (s.wr f i v).pwr = s.pwr := rfl
@[simp] theorem State.wr_warned (s : State) (f : Fld) (i v : Nat) : (s.wr f i v).warned = s.warned := rfl
@[simp] theorem State.wr_xtalStopped (s : State) (f : Fld) (i v : Nat) : (s.wr f i v).xtalStopped = s.xtalStopped := rfl
@[simp] theorem State.wr_rtcAcc (s : State) (f : Fld) (i v : Nat) : (s.wr f i v).rtcAcc = s.rtcAcc := rfl
@[simp] theorem State.wr_nslOn (s : State) (f : Fld) (i v : Nat) : (s.wr f i v).nslOn = s.nslOn := rfl
@[simp] theorem State.wr_nslNodes (s : State) (f : Fld) (i v : Nat) : (s.wr f i v).nslNodes = s.nslNodes := rfl
@[simp] theorem State.wr_pending (s : State) (f : Fld) (i v : Nat) : (s.wr f i v).pending = s.pending := rfl

end Sys2Proof.Machine
end

