-- ==== Sys2Proof/Laws/RegFile.lean ====
section
/-! SUPPORT. Reading after writing in the register file, and its canonical form. -/
namespace Sys2Proof.Machine

namespace RegFile

theorem find_drop_same (r : RegFile) (k : RegKey) : (r.drop k).find k = none := by
  induction r with
  | nil => rfl
  | cons e t ih =>
    obtain ⟨k', v⟩ := e
    by_cases h : k' = k <;> simp [RegFile.drop, RegFile.find, h, ih]

theorem find_drop_ne (r : RegFile) (k j : RegKey) (h : j ≠ k) : (r.drop k).find j = r.find j := by
  induction r with
  | nil => rfl
  | cons e t ih =>
    obtain ⟨k', v⟩ := e
    by_cases hk : k' = k
    · subst hk; simp [RegFile.drop, RegFile.find, ih, h.symm]
    · by_cases hj : k' = j
      · subst hj; simp [RegFile.drop, RegFile.find, hk]
      · simp [RegFile.drop, RegFile.find, hk, hj, ih]

theorem find_put_same (r : RegFile) (k : RegKey) (v : Nat) (h : r.find k = none) : (r.put k v).find k = some v := by
  induction r with
  | nil => simp [RegFile.put, RegFile.find]
  | cons e t ih =>
    obtain ⟨k', w⟩ := e
    have hk : k' ≠ k := by rintro rfl; simp [RegFile.find] at h
    have ht : RegFile.find t k = none := by simpa [RegFile.find, hk] using h
    by_cases hb : RegKey.before k k' <;> simp [RegFile.put, RegFile.find, hb, hk, ih ht]

theorem find_put_ne (r : RegFile) (k j : RegKey) (v : Nat) (h : j ≠ k) : (r.put k v).find j = r.find j := by
  induction r with
  | nil => simp [RegFile.put, RegFile.find, h.symm]
  | cons e t ih =>
    obtain ⟨k', w⟩ := e
    by_cases hj : k' = j
    · subst hj; by_cases hb : RegKey.before k k' <;> simp [RegFile.put, RegFile.find, hb, h.symm]
    · by_cases hb : RegKey.before k k' <;> simp [RegFile.put, RegFile.find, hb, hj, ih, h.symm]

/-- A field reads as the low bits last written to it. -/
theorem get_set_same (r : RegFile) (f : Fld) (i v : Nat) : (r.set f i v).get f i = v % 2 ^ f.width := by
  by_cases h : v % 2 ^ f.width = f.rst i
  · simp [RegFile.set, RegFile.get, h, find_drop_same]
  · simp [RegFile.set, RegFile.get, h, find_put_same _ _ _ (find_drop_same r _)]

/-- A write leaves every other field and element as it was. -/
theorem get_set_ne (r : RegFile) (f g : Fld) (i j v : Nat) (h : g.id ≠ f.id ∨ j ≠ i) : (r.set f i v).get g j = r.get g j := by
  have hk : (g.id, j) ≠ (f.id, i) := by
    intro e; rw [Prod.mk.injEq] at e; exact h.elim (fun x => x e.1) (fun x => x e.2)
  by_cases hv : v % 2 ^ f.width = f.rst i
  · simp [RegFile.set, RegFile.get, hv, find_drop_ne _ _ _ hk]
  · simp [RegFile.set, RegFile.get, hv, find_put_ne _ _ _ _ hk, find_drop_ne _ _ _ hk]

theorem find_filter (r : RegFile) (p : RegKey → Bool) (k : RegKey) :
    RegFile.find (r.filter (fun e => p e.1)) k = if p k then r.find k else none := by
  induction r with
  | nil => simp [RegFile.find]
  | cons e t ih =>
    obtain ⟨k', v⟩ := e
    by_cases hp : p k' <;> by_cases hk : k' = k
    · subst hk; simp [RegFile.find, hp]
    · simp [RegFile.find, hp, hk, ih]
    · subst hk; simp [hp, ih]
    · simp [RegFile.find, hp, hk, ih]

/-- A cleared field reads as its reset value in every element. -/
theorem get_clearFld_same (r : RegFile) (f : Fld) (i : Nat) : (r.clearFld f).get f i = f.rst i := by
  have := find_filter r (fun k => decide (k.1 ≠ f.id)) (f.id, i)
  simp_all [RegFile.clearFld, RegFile.get]

/-- Clearing a field leaves every other field as it was. -/
theorem get_clearFld_ne (r : RegFile) (f g : Fld) (i : Nat) (h : g.id ≠ f.id) : (r.clearFld f).get g i = r.get g i := by
  have := find_filter r (fun k => decide (k.1 ≠ f.id)) (g.id, i)
  simp_all [RegFile.clearFld, RegFile.get]

theorem get_clearWhere_same (r : RegFile) (f : Fld) (p : Nat → Bool) (i : Nat) :
    (r.clearWhere f p).get f i = if p i then f.rst i else r.get f i := by
  have := find_filter r (fun k => !(decide (k.1 = f.id) && p k.2)) (f.id, i)
  by_cases h : p i <;> simp_all [RegFile.clearWhere, RegFile.get]

theorem get_clearWhere_ne (r : RegFile) (f g : Fld) (p : Nat → Bool) (i : Nat) (h : g.id ≠ f.id) :
    (r.clearWhere f p).get g i = r.get g i := by
  have := find_filter r (fun k => !(decide (k.1 = f.id) && p k.2)) (g.id, i)
  simp_all [RegFile.clearWhere, RegFile.get]

/-- What a reset keeps (03 R63): fields from `base` on keep their values, the others read their reset values. -/
theorem get_from (r : RegFile) (base : Nat) (f : Fld) (i : Nat) :
    (r.from base).get f i = if base ≤ f.id then r.get f i else f.rst i := by
  have := find_filter r (fun k => decide (base ≤ k.1)) (f.id, i)
  by_cases h : base ≤ f.id <;> simp [RegFile.from, RegFile.get, this, h]

end RegFile

/-! ## The same of the state -/

@[simp] theorem State.rd_wr_same (s : State) (f : Fld) (i v : Nat) : (s.wr f i v).rd f i = v % 2 ^ f.width := RegFile.get_set_same _ _ _ _

theorem State.rd_wr_ne (s : State) (f g : Fld) (i j v : Nat) (h : g.id ≠ f.id ∨ j ≠ i) : (s.wr f i v).rd g j = s.rd g j :=
  RegFile.get_set_ne _ _ _ _ _ _ h

/-- A write of one field does not reach another. -/
theorem State.rd_wr_fld (s : State) (f g : Fld) (i j v : Nat) (h : g.id ≠ f.id) : (s.wr f i v).rd g j = s.rd g j :=
  s.rd_wr_ne f g i j v (.inl h)

/-- A write of one element does not reach another. -/
theorem State.rd_wr_elem (s : State) (f g : Fld) (i j v : Nat) (h : j ≠ i) : (s.wr f i v).rd g j = s.rd g j :=
  s.rd_wr_ne f g i j v (.inr h)

@[simp] theorem State.rd_report (s : State) (src elem info : Nat) (f : Fld) (i : Nat) : (s.report src elem info).rd f i = s.rd f i := rfl
@[simp] theorem State.rd_reportX (s : State) (src elem : Nat) (f : Fld) (i : Nat) : (s.reportX src elem).rd f i = s.rd f i := rfl
@[simp] theorem State.rd_reply (s : State) (ini : Initiator) (k : AnsKind) (d : Nat) (f : Fld) (i : Nat) :
    (s.reply ini k d).rd f i = s.rd f i := rfl
@[simp] theorem State.rd_drawn (s : State) (f : Fld) (i : Nat) : s.drawn.rd f i = s.rd f i := rfl

theorem State.rd_clearFld_same (s : State) (f : Fld) (i : Nat) : (s.clearFld f).rd f i = f.rst i := RegFile.get_clearFld_same _ _ _
theorem State.rd_clearFld_ne (s : State) (f g : Fld) (i : Nat) (h : g.id ≠ f.id) : (s.clearFld f).rd g i = s.rd g i :=
  RegFile.get_clearFld_ne _ _ _ _ h
theorem State.rd_clearWhere_same (s : State) (f : Fld) (p : Nat → Bool) (i : Nat) :
    (s.clearWhere f p).rd f i = if p i then f.rst i else s.rd f i := RegFile.get_clearWhere_same _ _ _ _
theorem State.rd_clearWhere_ne (s : State) (f g : Fld) (p : Nat → Bool) (i : Nat) (h : g.id ≠ f.id) :
    (s.clearWhere f p).rd g i = s.rd g i := RegFile.get_clearWhere_ne _ _ _ _ _ h

/-- A main-die reset (03 R63): kept fields keep their values, the others read their reset values. -/
theorem State.rd_mainClear (s : State) (f : Fld) (i : Nat) : s.mainClear.rd f i = if keptBase ≤ f.id then s.rd f i else f.rst i :=
  RegFile.get_from _ _ _ _
theorem State.rd_mainPorClear (s : State) (f : Fld) (i : Nat) :
    s.mainPorClear.rd f i = if powerBase ≤ f.id then s.rd f i else f.rst i := RegFile.get_from _ _ _ _
theorem State.rd_powerPorClear (s : State) (f : Fld) (i : Nat) :
    s.powerPorClear.rd f i = if nvBase ≤ f.id then s.rd f i else f.rst i := RegFile.get_from _ _ _ _

end Sys2Proof.Machine
end

