-- ==== Sys2Proof/Laws/Sparse.lean ====
section
/-! SUPPORT. Sparse collections and byte memories: reading after writing, and that writing keeps the canonical form. -/
namespace Sys2Proof.Machine

namespace Tbl

variable {α : Type}

theorem find_erase_same (t : Tbl α) (i : Nat) : find (erase t i) i = none := by
  induction t with
  | nil => rfl
  | cons e t ih => obtain ⟨j, a⟩ := e; by_cases h : j = i <;> simp [erase, find, h, ih]

theorem find_erase_ne (t : Tbl α) (i k : Nat) (h : k ≠ i) : find (erase t i) k = find t k := by
  induction t with
  | nil => rfl
  | cons e t ih =>
    obtain ⟨j, a⟩ := e
    by_cases hj : j = i
    · subst hj; simp [erase, find, ih, h.symm]
    · by_cases hk : j = k
      · subst hk; simp [erase, find, hj]
      · simp [erase, find, hj, hk, ih]

theorem find_ins_same (t : Tbl α) (i : Nat) (a : α) (h : find t i = none) : find (ins t i a) i = some a := by
  induction t with
  | nil => simp [ins, find]
  | cons e t ih =>
    obtain ⟨j, b⟩ := e
    have hj : j ≠ i := by rintro rfl; simp [find] at h
    have ht : find t i = none := by simpa [find, hj] using h
    by_cases hl : i < j <;> simp [ins, find, hl, hj, ih ht]

theorem find_ins_ne (t : Tbl α) (i k : Nat) (a : α) (h : k ≠ i) : find (ins t i a) k = find t k := by
  induction t with
  | nil => simp [ins, find, h.symm]
  | cons e t ih =>
    obtain ⟨j, b⟩ := e
    by_cases hk : j = k
    · subst hk; by_cases hl : i < j <;> simp [ins, find, hl, h.symm]
    · by_cases hl : i < j <;> simp [ins, find, hl, hk, ih, h.symm]

theorem get_put_same (t : Tbl α) (d : α) (i : Nat) (a : α) : get (put t i a) d i = a := by
  simp [get, put, find_ins_same _ _ _ (find_erase_same t i)]

theorem get_put_ne (t : Tbl α) (d : α) (i k : Nat) (a : α) (h : k ≠ i) : get (put t i a) d k = get t d k := by
  simp [get, put, find_ins_ne _ _ _ _ h, find_erase_ne _ _ _ h]

/-- An element reads as what was last set there. -/
@[simp] theorem get_set_same [DecidableEq α] (t : Tbl α) (d : α) (i : Nat) (a : α) : get (set t d i a) d i = a := by
  by_cases h : a = d
  · simp [set, h, get, find_erase_same]
  · simp [set, h, get_put_same]

/-- Setting one element leaves the others as they were. -/
theorem get_set_ne [DecidableEq α] (t : Tbl α) (d : α) (i k : Nat) (a : α) (h : k ≠ i) : get (set t d i a) d k = get t d k := by
  by_cases ha : a = d
  · simp [set, ha, get, find_erase_ne _ _ _ h]
  · simp [set, ha, get_put_ne _ _ _ _ _ h]

/-- Every index listed is above `b`. -/
def above (b : Nat) (t : Tbl α) : Prop := ∀ e ∈ t, b < e.1

theorem sorted_cons (e : Nat × α) (t : Tbl α) : sorted (e :: t) = true ↔ above e.1 t ∧ sorted t = true := by
  induction t generalizing e with
  | nil => simp [sorted, above]
  | cons f t ih =>
    constructor
    · intro h
      simp only [sorted, Bool.and_eq_true, decide_eq_true_eq] at h
      refine ⟨?_, h.2⟩
      intro g hg
      rcases List.mem_cons.1 hg with rfl | hg
      · exact h.1
      · exact Nat.lt_trans h.1 (((ih f).1 h.2).1 g hg)
    · rintro ⟨ha, hs⟩
      simp only [sorted, Bool.and_eq_true, decide_eq_true_eq]
      exact ⟨ha f (List.mem_cons_self ..), hs⟩

theorem mem_erase {t : Tbl α} {i : Nat} {e : Nat × α} (h : e ∈ erase t i) : e ∈ t ∧ e.1 ≠ i := by
  induction t with
  | nil => simp [erase] at h
  | cons f t ih =>
    obtain ⟨j, b⟩ := f
    by_cases hj : j = i
    · simp only [erase, hj, if_true] at h; exact ⟨List.mem_cons_of_mem _ (ih h).1, (ih h).2⟩
    · simp only [erase, hj, if_false, List.mem_cons] at h
      rcases h with rfl | h
      · exact ⟨List.mem_cons_self .., hj⟩
      · exact ⟨List.mem_cons_of_mem _ (ih h).1, (ih h).2⟩

theorem mem_ins {t : Tbl α} {i : Nat} {a : α} {e : Nat × α} (h : e ∈ ins t i a) : e = (i, a) ∨ e ∈ t := by
  induction t with
  | nil => simpa [ins] using h
  | cons f t ih =>
    obtain ⟨j, b⟩ := f
    by_cases hl : i < j
    · simpa [ins, hl] using h
    · simp only [ins, hl, if_false, List.mem_cons] at h
      rcases h with rfl | h
      · exact .inr (List.mem_cons_self ..)
      · exact (ih h).imp id (List.mem_cons_of_mem _)

theorem sorted_erase (t : Tbl α) (i : Nat) (h : sorted t = true) : sorted (erase t i) = true := by
  induction t with
  | nil => rfl
  | cons f t ih =>
    obtain ⟨j, b⟩ := f
    have hs := (sorted_cons _ _).1 h
    by_cases hj : j = i
    · simpa [erase, hj] using ih hs.2
    · simp only [erase, hj, if_false]
      exact (sorted_cons _ _).2 ⟨fun e he => hs.1 e (mem_erase he).1, ih hs.2⟩

theorem sorted_ins (t : Tbl α) (i : Nat) (a : α) (h : sorted t = true) (hn : ∀ e ∈ t, e.1 ≠ i) : sorted (ins t i a) = true := by
  induction t with
  | nil => rfl
  | cons f t ih =>
    obtain ⟨j, b⟩ := f
    have hs := (sorted_cons _ _).1 h
    by_cases hl : i < j
    · simp only [ins, hl, if_true]
      refine (sorted_cons _ _).2 ⟨?_, h⟩
      intro e he
      rcases List.mem_cons.1 he with rfl | he
      · exact hl
      · exact Nat.lt_trans hl (hs.1 e he)
    · simp only [ins, hl, if_false]
      have hji : j < i := Nat.lt_of_le_of_ne (Nat.le_of_not_lt hl) (hn (j, b) (List.mem_cons_self ..))
      refine (sorted_cons _ _).2 ⟨?_, ih hs.2 (fun e he => hn e (List.mem_cons_of_mem _ he))⟩
      intro e he
      rcases mem_ins he with rfl | he
      · exact hji
      · exact hs.1 e he

theorem sorted_put (t : Tbl α) (i : Nat) (a : α) (h : sorted t = true) : sorted (put t i a) = true :=
  sorted_ins _ _ _ (sorted_erase _ _ h) (fun _ he => (mem_erase he).2)

/-- Setting an element keeps the indices rising. -/
theorem sorted_set [DecidableEq α] (t : Tbl α) (d : α) (i : Nat) (a : α) (h : sorted t = true) : sorted (set t d i a) = true := by
  by_cases ha : a = d
  · simpa [set, ha] using sorted_erase t i h
  · simpa [set, ha] using sorted_put t i a h

end Tbl

namespace Mem

/-- A byte reads as what was last written there. -/
@[simp] theorem byte_write_same (m : Mem) (a : Nat) (b : Byte) : (m.write a b).byte a = b := Tbl.get_set_same _ _ _ _

/-- Writing a byte leaves every other address as it was. -/
theorem byte_write_ne (m : Mem) (a c : Nat) (b : Byte) (h : c ≠ a) : (m.write a b).byte c = m.byte c := Tbl.get_set_ne _ _ _ _ _ h

/-- Writing bytes leaves every address outside them as it was. -/
theorem byte_writes_out (m : Mem) (bs : List Byte) (a c : Nat) (h : c < a ∨ a + bs.length ≤ c) : (m.writes a bs).byte c = m.byte c := by
  induction bs generalizing m a with
  | nil => rfl
  | cons b t ih =>
    simp only [List.length_cons] at h
    rw [writes, ih (m.write a b) (a + 1) (by omega), byte_write_ne _ _ _ _ (by omega)]

/-- A written byte reads back. -/
theorem byte_writes_in (m : Mem) (bs : List Byte) (a k : Nat) (h : k < bs.length) : (m.writes a bs).byte (a + k) = bs[k] := by
  induction bs generalizing m a k with
  | nil => simp at h
  | cons b t ih =>
    cases k with
    | zero => rw [writes, Nat.add_zero, byte_writes_out _ _ _ _ (by omega)]; simp
    | succ k =>
      have := ih (m.write a b) (a + 1) k (by simpa using h)
      rw [writes, List.getElem_cons_succ, ← this]; congr 1; omega

theorem wf_write (m : Mem) (a : Nat) (b : Byte) (h : m.wf = true) : (m.write a b).wf = true := by
  simp only [wf, Bool.and_eq_true, List.all_eq_true, decide_eq_true_eq] at h ⊢
  refine ⟨Tbl.sorted_set _ _ _ _ h.1, ?_⟩
  intro e he
  by_cases hb : b = 0
  · subst hb
    simp only [write, Tbl.set] at he
    exact h.2 e (Tbl.mem_erase (by simpa using he)).1
  · simp only [write, Tbl.set, hb, if_false, Tbl.put] at he
    rcases Tbl.mem_ins he with rfl | he
    · exact hb
    · exact h.2 e (Tbl.mem_erase he).1

/-- Writing bytes keeps the canonical form. -/
theorem wf_writes (m : Mem) (bs : List Byte) (a : Nat) (h : m.wf = true) : (m.writes a bs).wf = true := by
  induction bs generalizing m a with
  | nil => exact h
  | cons b t ih => exact ih _ _ (wf_write m a b h)

end Mem

end Sys2Proof.Machine
end

