-- ==== Sys2Proof/Laws/Ops.lean ====
section
/-! SUPPORT. What the shared operations do: the named register operations as writes of one field; the records of ports, lanes,
engines, channels, queues, Rulers, rings and slots read after writing; and that reports, answers and draws touch nothing else. -/
namespace Sys2Proof.Machine

/-! ## Register operations are writes of one field -/

theorem State.evt_eq_wr (s : State) (f : Fld) (i : Nat) : s.evt f i = s.wr f i 1 := rfl
theorem State.wrb_eq_wr (s : State) (f : Fld) (i : Nat) (b : Bool) : s.wrb f i b = s.wr f i (b2n b) := rfl
theorem State.bump_eq_wr (s : State) (f : Fld) (i : Nat) : s.bump f i = s.wr f i (s.rd f i + 1) := rfl
theorem State.bumpBy_eq_wr (s : State) (f : Fld) (i n : Nat) : s.bumpBy f i n = s.wr f i (s.rd f i + n) := rfl
theorem State.bumpSat_eq_wr (s : State) (f : Fld) (i : Nat) : s.bumpSat f i = s.wr f i (min (s.rd f i + 1) (2 ^ f.width - 1)) := rfl
theorem State.setBit_eq_wr (s : State) (f : Fld) (i b : Nat) : s.setBit f i b = s.wr f i (setBitN (s.rd f i) b) := rfl
theorem State.clrBit_eq_wr (s : State) (f : Fld) (i b : Nat) : s.clrBit f i b = s.wr f i (clrBitN (s.rd f i) b) := rfl

/-- An event bit of one bit or more reads 1 after it is set. -/
theorem State.rd_evt (s : State) (f : Fld) (i : Nat) (h : 0 < f.width) : (s.evt f i).rd f i = 1 := by
  have : 1 < 2 ^ f.width := Nat.one_lt_two_pow (by omega)
  rw [State.evt_eq_wr, State.rd_wr_same, Nat.mod_eq_of_lt this]

/-- A counter reads one more, modulo its width. -/
theorem State.rd_bump (s : State) (f : Fld) (i : Nat) : (s.bump f i).rd f i = (s.rd f i + 1) % 2 ^ f.width := State.rd_wr_same ..

/-- A saturating counter reads one more, or its largest value. -/
theorem State.rd_bumpSat (s : State) (f : Fld) (i : Nat) : (s.bumpSat f i).rd f i = min (s.rd f i + 1) (2 ^ f.width - 1) := by
  have h : 0 < 2 ^ f.width := Nat.two_pow_pos _
  rw [State.bumpSat, State.rd_wr_same, Nat.mod_eq_of_lt (by omega)]

/-! ## Records: reading after writing -/

@[simp] theorem State.port_setPort_same (s : State) (n : Nat) (x : EthPort) : (s.setPort n x).port n = x := Tbl.get_set_same ..
theorem State.port_setPort_ne (s : State) (n m : Nat) (x : EthPort) (h : m ≠ n) : (s.setPort n x).port m = s.port m := Tbl.get_set_ne _ _ _ _ _ h
@[simp] theorem State.rd_setPort (s : State) (n : Nat) (x : EthPort) (f : Fld) (i : Nat) : (s.setPort n x).rd f i = s.rd f i := rfl
@[simp] theorem State.port_wr (s : State) (f : Fld) (i v n : Nat) : (s.wr f i v).port n = s.port n := rfl
@[simp] theorem State.setPort_pending (s : State) (n : Nat) (x : EthPort) : (s.setPort n x).pending = s.pending := rfl
@[simp] theorem State.canLane_setPort (s : State) (n m : Nat) (x : EthPort) : (s.setPort n x).canLane m = s.canLane m := rfl
@[simp] theorem State.t1sLane_setPort (s : State) (n m : Nat) (x : EthPort) : (s.setPort n x).t1sLane m = s.t1sLane m := rfl
@[simp] theorem State.mvbLane_setPort (s : State) (n m : Nat) (x : EthPort) : (s.setPort n x).mvbLane m = s.mvbLane m := rfl
@[simp] theorem State.nibEng_setPort (s : State) (n m : Nat) (x : EthPort) : (s.setPort n x).nibEng m = s.nibEng m := rfl
@[simp] theorem State.load_setPort (s : State) (n m : Nat) (x : EthPort) : (s.setPort n x).load m = s.load m := rfl
@[simp] theorem State.queue_setPort (s : State) (n m : Nat) (x : EthPort) : (s.setPort n x).queue m = s.queue m := rfl
@[simp] theorem State.fifo_setPort (s : State) (n m : Nat) (x : EthPort) : (s.setPort n x).fifo m = s.fifo m := rfl
@[simp] theorem State.ruler_setPort (s : State) (n m : Nat) (x : EthPort) : (s.setPort n x).ruler m = s.ruler m := rfl
@[simp] theorem State.ring_setPort (s : State) (n m : Nat) (x : EthPort) : (s.setPort n x).ring m = s.ring m := rfl
@[simp] theorem State.keySlot_setPort (s : State) (n m : Nat) (x : EthPort) : (s.setPort n x).keySlot m = s.keySlot m := rfl
@[simp] theorem State.fdbOf_setPort (s : State) (n m : Nat) (x : EthPort) : (s.setPort n x).fdbOf m = s.fdbOf m := rfl
@[simp] theorem State.bank_setPort (s : State) (n m : Nat) (x : EthPort) : (s.setPort n x).bank m = s.bank m := rfl

@[simp] theorem State.canLane_setCan_same (s : State) (n : Nat) (x : CanLane) : (s.setCan n x).canLane n = x := Tbl.get_set_same ..
theorem State.canLane_setCan_ne (s : State) (n m : Nat) (x : CanLane) (h : m ≠ n) : (s.setCan n x).canLane m = s.canLane m := Tbl.get_set_ne _ _ _ _ _ h
@[simp] theorem State.rd_setCan (s : State) (n : Nat) (x : CanLane) (f : Fld) (i : Nat) : (s.setCan n x).rd f i = s.rd f i := rfl
@[simp] theorem State.canLane_wr (s : State) (f : Fld) (i v n : Nat) : (s.wr f i v).canLane n = s.canLane n := rfl
@[simp] theorem State.setCan_pending (s : State) (n : Nat) (x : CanLane) : (s.setCan n x).pending = s.pending := rfl
@[simp] theorem State.port_setCan (s : State) (n m : Nat) (x : CanLane) : (s.setCan n x).port m = s.port m := rfl
@[simp] theorem State.t1sLane_setCan (s : State) (n m : Nat) (x : CanLane) : (s.setCan n x).t1sLane m = s.t1sLane m := rfl
@[simp] theorem State.mvbLane_setCan (s : State) (n m : Nat) (x : CanLane) : (s.setCan n x).mvbLane m = s.mvbLane m := rfl
@[simp] theorem State.nibEng_setCan (s : State) (n m : Nat) (x : CanLane) : (s.setCan n x).nibEng m = s.nibEng m := rfl
@[simp] theorem State.load_setCan (s : State) (n m : Nat) (x : CanLane) : (s.setCan n x).load m = s.load m := rfl
@[simp] theorem State.queue_setCan (s : State) (n m : Nat) (x : CanLane) : (s.setCan n x).queue m = s.queue m := rfl
@[simp] theorem State.fifo_setCan (s : State) (n m : Nat) (x : CanLane) : (s.setCan n x).fifo m = s.fifo m := rfl
@[simp] theorem State.ruler_setCan (s : State) (n m : Nat) (x : CanLane) : (s.setCan n x).ruler m = s.ruler m := rfl
@[simp] theorem State.ring_setCan (s : State) (n m : Nat) (x : CanLane) : (s.setCan n x).ring m = s.ring m := rfl
@[simp] theorem State.keySlot_setCan (s : State) (n m : Nat) (x : CanLane) : (s.setCan n x).keySlot m = s.keySlot m := rfl
@[simp] theorem State.fdbOf_setCan (s : State) (n m : Nat) (x : CanLane) : (s.setCan n x).fdbOf m = s.fdbOf m := rfl
@[simp] theorem State.bank_setCan (s : State) (n m : Nat) (x : CanLane) : (s.setCan n x).bank m = s.bank m := rfl

@[simp] theorem State.t1sLane_setT1s_same (s : State) (n : Nat) (x : T1sLane) : (s.setT1s n x).t1sLane n = x := Tbl.get_set_same ..
theorem State.t1sLane_setT1s_ne (s : State) (n m : Nat) (x : T1sLane) (h : m ≠ n) : (s.setT1s n x).t1sLane m = s.t1sLane m := Tbl.get_set_ne _ _ _ _ _ h
@[simp] theorem State.rd_setT1s (s : State) (n : Nat) (x : T1sLane) (f : Fld) (i : Nat) : (s.setT1s n x).rd f i = s.rd f i := rfl
@[simp] theorem State.t1sLane_wr (s : State) (f : Fld) (i v n : Nat) : (s.wr f i v).t1sLane n = s.t1sLane n := rfl
@[simp] theorem State.setT1s_pending (s : State) (n : Nat) (x : T1sLane) : (s.setT1s n x).pending = s.pending := rfl
@[simp] theorem State.port_setT1s (s : State) (n m : Nat) (x : T1sLane) : (s.setT1s n x).port m = s.port m := rfl
@[simp] theorem State.canLane_setT1s (s : State) (n m : Nat) (x : T1sLane) : (s.setT1s n x).canLane m = s.canLane m := rfl
@[simp] theorem State.mvbLane_setT1s (s : State) (n m : Nat) (x : T1sLane) : (s.setT1s n x).mvbLane m = s.mvbLane m := rfl
@[simp] theorem State.nibEng_setT1s (s : State) (n m : Nat) (x : T1sLane) : (s.setT1s n x).nibEng m = s.nibEng m := rfl
@[simp] theorem State.load_setT1s (s : State) (n m : Nat) (x : T1sLane) : (s.setT1s n x).load m = s.load m := rfl
@[simp] theorem State.queue_setT1s (s : State) (n m : Nat) (x : T1sLane) : (s.setT1s n x).queue m = s.queue m := rfl
@[simp] theorem State.fifo_setT1s (s : State) (n m : Nat) (x : T1sLane) : (s.setT1s n x).fifo m = s.fifo m := rfl
@[simp] theorem State.ruler_setT1s (s : State) (n m : Nat) (x : T1sLane) : (s.setT1s n x).ruler m = s.ruler m := rfl
@[simp] theorem State.ring_setT1s (s : State) (n m : Nat) (x : T1sLane) : (s.setT1s n x).ring m = s.ring m := rfl
@[simp] theorem State.keySlot_setT1s (s : State) (n m : Nat) (x : T1sLane) : (s.setT1s n x).keySlot m = s.keySlot m := rfl
@[simp] theorem State.fdbOf_setT1s (s : State) (n m : Nat) (x : T1sLane) : (s.setT1s n x).fdbOf m = s.fdbOf m := rfl
@[simp] theorem State.bank_setT1s (s : State) (n m : Nat) (x : T1sLane) : (s.setT1s n x).bank m = s.bank m := rfl

@[simp] theorem State.mvbLane_setMvb_same (s : State) (n : Nat) (x : MvbLane) : (s.setMvb n x).mvbLane n = x := Tbl.get_set_same ..
theorem State.mvbLane_setMvb_ne (s : State) (n m : Nat) (x : MvbLane) (h : m ≠ n) : (s.setMvb n x).mvbLane m = s.mvbLane m := Tbl.get_set_ne _ _ _ _ _ h
@[simp] theorem State.rd_setMvb (s : State) (n : Nat) (x : MvbLane) (f : Fld) (i : Nat) : (s.setMvb n x).rd f i = s.rd f i := rfl
@[simp] theorem State.mvbLane_wr (s : State) (f : Fld) (i v n : Nat) : (s.wr f i v).mvbLane n = s.mvbLane n := rfl
@[simp] theorem State.setMvb_pending (s : State) (n : Nat) (x : MvbLane) : (s.setMvb n x).pending = s.pending := rfl
@[simp] theorem State.port_setMvb (s : State) (n m : Nat) (x : MvbLane) : (s.setMvb n x).port m = s.port m := rfl
@[simp] theorem State.canLane_setMvb (s : State) (n m : Nat) (x : MvbLane) : (s.setMvb n x).canLane m = s.canLane m := rfl
@[simp] theorem State.t1sLane_setMvb (s : State) (n m : Nat) (x : MvbLane) : (s.setMvb n x).t1sLane m = s.t1sLane m := rfl
@[simp] theorem State.nibEng_setMvb (s : State) (n m : Nat) (x : MvbLane) : (s.setMvb n x).nibEng m = s.nibEng m := rfl
@[simp] theorem State.load_setMvb (s : State) (n m : Nat) (x : MvbLane) : (s.setMvb n x).load m = s.load m := rfl
@[simp] theorem State.queue_setMvb (s : State) (n m : Nat) (x : MvbLane) : (s.setMvb n x).queue m = s.queue m := rfl
@[simp] theorem State.fifo_setMvb (s : State) (n m : Nat) (x : MvbLane) : (s.setMvb n x).fifo m = s.fifo m := rfl
@[simp] theorem State.ruler_setMvb (s : State) (n m : Nat) (x : MvbLane) : (s.setMvb n x).ruler m = s.ruler m := rfl
@[simp] theorem State.ring_setMvb (s : State) (n m : Nat) (x : MvbLane) : (s.setMvb n x).ring m = s.ring m := rfl
@[simp] theorem State.keySlot_setMvb (s : State) (n m : Nat) (x : MvbLane) : (s.setMvb n x).keySlot m = s.keySlot m := rfl
@[simp] theorem State.fdbOf_setMvb (s : State) (n m : Nat) (x : MvbLane) : (s.setMvb n x).fdbOf m = s.fdbOf m := rfl
@[simp] theorem State.bank_setMvb (s : State) (n m : Nat) (x : MvbLane) : (s.setMvb n x).bank m = s.bank m := rfl

@[simp] theorem State.nibEng_setNib_same (s : State) (n : Nat) (x : NibEng) : (s.setNib n x).nibEng n = x := Tbl.get_set_same ..
theorem State.nibEng_setNib_ne (s : State) (n m : Nat) (x : NibEng) (h : m ≠ n) : (s.setNib n x).nibEng m = s.nibEng m := Tbl.get_set_ne _ _ _ _ _ h
@[simp] theorem State.rd_setNib (s : State) (n : Nat) (x : NibEng) (f : Fld) (i : Nat) : (s.setNib n x).rd f i = s.rd f i := rfl
@[simp] theorem State.nibEng_wr (s : State) (f : Fld) (i v n : Nat) : (s.wr f i v).nibEng n = s.nibEng n := rfl
@[simp] theorem State.setNib_pending (s : State) (n : Nat) (x : NibEng) : (s.setNib n x).pending = s.pending := rfl
@[simp] theorem State.port_setNib (s : State) (n m : Nat) (x : NibEng) : (s.setNib n x).port m = s.port m := rfl
@[simp] theorem State.canLane_setNib (s : State) (n m : Nat) (x : NibEng) : (s.setNib n x).canLane m = s.canLane m := rfl
@[simp] theorem State.t1sLane_setNib (s : State) (n m : Nat) (x : NibEng) : (s.setNib n x).t1sLane m = s.t1sLane m := rfl
@[simp] theorem State.mvbLane_setNib (s : State) (n m : Nat) (x : NibEng) : (s.setNib n x).mvbLane m = s.mvbLane m := rfl
@[simp] theorem State.load_setNib (s : State) (n m : Nat) (x : NibEng) : (s.setNib n x).load m = s.load m := rfl
@[simp] theorem State.queue_setNib (s : State) (n m : Nat) (x : NibEng) : (s.setNib n x).queue m = s.queue m := rfl
@[simp] theorem State.fifo_setNib (s : State) (n m : Nat) (x : NibEng) : (s.setNib n x).fifo m = s.fifo m := rfl
@[simp] theorem State.ruler_setNib (s : State) (n m : Nat) (x : NibEng) : (s.setNib n x).ruler m = s.ruler m := rfl
@[simp] theorem State.ring_setNib (s : State) (n m : Nat) (x : NibEng) : (s.setNib n x).ring m = s.ring m := rfl
@[simp] theorem State.keySlot_setNib (s : State) (n m : Nat) (x : NibEng) : (s.setNib n x).keySlot m = s.keySlot m := rfl
@[simp] theorem State.fdbOf_setNib (s : State) (n m : Nat) (x : NibEng) : (s.setNib n x).fdbOf m = s.fdbOf m := rfl
@[simp] theorem State.bank_setNib (s : State) (n m : Nat) (x : NibEng) : (s.setNib n x).bank m = s.bank m := rfl

@[simp] theorem State.load_setLoad_same (s : State) (n : Nat) (x : LoadCh) : (s.setLoad n x).load n = x := Tbl.get_set_same ..
theorem State.load_setLoad_ne (s : State) (n m : Nat) (x : LoadCh) (h : m ≠ n) : (s.setLoad n x).load m = s.load m := Tbl.get_set_ne _ _ _ _ _ h
@[simp] theorem State.rd_setLoad (s : State) (n : Nat) (x : LoadCh) (f : Fld) (i : Nat) : (s.setLoad n x).rd f i = s.rd f i := rfl
@[simp] theorem State.load_wr (s : State) (f : Fld) (i v n : Nat) : (s.wr f i v).load n = s.load n := rfl
@[simp] theorem State.setLoad_pending (s : State) (n : Nat) (x : LoadCh) : (s.setLoad n x).pending = s.pending := rfl
@[simp] theorem State.port_setLoad (s : State) (n m : Nat) (x : LoadCh) : (s.setLoad n x).port m = s.port m := rfl
@[simp] theorem State.canLane_setLoad (s : State) (n m : Nat) (x : LoadCh) : (s.setLoad n x).canLane m = s.canLane m := rfl
@[simp] theorem State.t1sLane_setLoad (s : State) (n m : Nat) (x : LoadCh) : (s.setLoad n x).t1sLane m = s.t1sLane m := rfl
@[simp] theorem State.mvbLane_setLoad (s : State) (n m : Nat) (x : LoadCh) : (s.setLoad n x).mvbLane m = s.mvbLane m := rfl
@[simp] theorem State.nibEng_setLoad (s : State) (n m : Nat) (x : LoadCh) : (s.setLoad n x).nibEng m = s.nibEng m := rfl
@[simp] theorem State.queue_setLoad (s : State) (n m : Nat) (x : LoadCh) : (s.setLoad n x).queue m = s.queue m := rfl
@[simp] theorem State.fifo_setLoad (s : State) (n m : Nat) (x : LoadCh) : (s.setLoad n x).fifo m = s.fifo m := rfl
@[simp] theorem State.ruler_setLoad (s : State) (n m : Nat) (x : LoadCh) : (s.setLoad n x).ruler m = s.ruler m := rfl
@[simp] theorem State.ring_setLoad (s : State) (n m : Nat) (x : LoadCh) : (s.setLoad n x).ring m = s.ring m := rfl
@[simp] theorem State.keySlot_setLoad (s : State) (n m : Nat) (x : LoadCh) : (s.setLoad n x).keySlot m = s.keySlot m := rfl
@[simp] theorem State.fdbOf_setLoad (s : State) (n m : Nat) (x : LoadCh) : (s.setLoad n x).fdbOf m = s.fdbOf m := rfl
@[simp] theorem State.bank_setLoad (s : State) (n m : Nat) (x : LoadCh) : (s.setLoad n x).bank m = s.bank m := rfl

@[simp] theorem State.queue_setQueue_same (s : State) (n : Nat) (x : Queue) : (s.setQueue n x).queue n = x := Tbl.get_set_same ..
theorem State.queue_setQueue_ne (s : State) (n m : Nat) (x : Queue) (h : m ≠ n) : (s.setQueue n x).queue m = s.queue m := Tbl.get_set_ne _ _ _ _ _ h
@[simp] theorem State.rd_setQueue (s : State) (n : Nat) (x : Queue) (f : Fld) (i : Nat) : (s.setQueue n x).rd f i = s.rd f i := rfl
@[simp] theorem State.queue_wr (s : State) (f : Fld) (i v n : Nat) : (s.wr f i v).queue n = s.queue n := rfl
@[simp] theorem State.setQueue_pending (s : State) (n : Nat) (x : Queue) : (s.setQueue n x).pending = s.pending := rfl
@[simp] theorem State.port_setQueue (s : State) (n m : Nat) (x : Queue) : (s.setQueue n x).port m = s.port m := rfl
@[simp] theorem State.canLane_setQueue (s : State) (n m : Nat) (x : Queue) : (s.setQueue n x).canLane m = s.canLane m := rfl
@[simp] theorem State.t1sLane_setQueue (s : State) (n m : Nat) (x : Queue) : (s.setQueue n x).t1sLane m = s.t1sLane m := rfl
@[simp] theorem State.mvbLane_setQueue (s : State) (n m : Nat) (x : Queue) : (s.setQueue n x).mvbLane m = s.mvbLane m := rfl
@[simp] theorem State.nibEng_setQueue (s : State) (n m : Nat) (x : Queue) : (s.setQueue n x).nibEng m = s.nibEng m := rfl
@[simp] theorem State.load_setQueue (s : State) (n m : Nat) (x : Queue) : (s.setQueue n x).load m = s.load m := rfl
@[simp] theorem State.fifo_setQueue (s : State) (n m : Nat) (x : Queue) : (s.setQueue n x).fifo m = s.fifo m := rfl
@[simp] theorem State.ruler_setQueue (s : State) (n m : Nat) (x : Queue) : (s.setQueue n x).ruler m = s.ruler m := rfl
@[simp] theorem State.ring_setQueue (s : State) (n m : Nat) (x : Queue) : (s.setQueue n x).ring m = s.ring m := rfl
@[simp] theorem State.keySlot_setQueue (s : State) (n m : Nat) (x : Queue) : (s.setQueue n x).keySlot m = s.keySlot m := rfl
@[simp] theorem State.fdbOf_setQueue (s : State) (n m : Nat) (x : Queue) : (s.setQueue n x).fdbOf m = s.fdbOf m := rfl
@[simp] theorem State.bank_setQueue (s : State) (n m : Nat) (x : Queue) : (s.setQueue n x).bank m = s.bank m := rfl

@[simp] theorem State.fifo_setFifo_same (s : State) (n : Nat) (x : Fifo) : (s.setFifo n x).fifo n = x := Tbl.get_set_same ..
theorem State.fifo_setFifo_ne (s : State) (n m : Nat) (x : Fifo) (h : m ≠ n) : (s.setFifo n x).fifo m = s.fifo m := Tbl.get_set_ne _ _ _ _ _ h
@[simp] theorem State.rd_setFifo (s : State) (n : Nat) (x : Fifo) (f : Fld) (i : Nat) : (s.setFifo n x).rd f i = s.rd f i := rfl
@[simp] theorem State.fifo_wr (s : State) (f : Fld) (i v n : Nat) : (s.wr f i v).fifo n = s.fifo n := rfl
@[simp] theorem State.setFifo_pending (s : State) (n : Nat) (x : Fifo) : (s.setFifo n x).pending = s.pending := rfl
@[simp] theorem State.port_setFifo (s : State) (n m : Nat) (x : Fifo) : (s.setFifo n x).port m = s.port m := rfl
@[simp] theorem State.canLane_setFifo (s : State) (n m : Nat) (x : Fifo) : (s.setFifo n x).canLane m = s.canLane m := rfl
@[simp] theorem State.t1sLane_setFifo (s : State) (n m : Nat) (x : Fifo) : (s.setFifo n x).t1sLane m = s.t1sLane m := rfl
@[simp] theorem State.mvbLane_setFifo (s : State) (n m : Nat) (x : Fifo) : (s.setFifo n x).mvbLane m = s.mvbLane m := rfl
@[simp] theorem State.nibEng_setFifo (s : State) (n m : Nat) (x : Fifo) : (s.setFifo n x).nibEng m = s.nibEng m := rfl
@[simp] theorem State.load_setFifo (s : State) (n m : Nat) (x : Fifo) : (s.setFifo n x).load m = s.load m := rfl
@[simp] theorem State.queue_setFifo (s : State) (n m : Nat) (x : Fifo) : (s.setFifo n x).queue m = s.queue m := rfl
@[simp] theorem State.ruler_setFifo (s : State) (n m : Nat) (x : Fifo) : (s.setFifo n x).ruler m = s.ruler m := rfl
@[simp] theorem State.ring_setFifo (s : State) (n m : Nat) (x : Fifo) : (s.setFifo n x).ring m = s.ring m := rfl
@[simp] theorem State.keySlot_setFifo (s : State) (n m : Nat) (x : Fifo) : (s.setFifo n x).keySlot m = s.keySlot m := rfl
@[simp] theorem State.fdbOf_setFifo (s : State) (n m : Nat) (x : Fifo) : (s.setFifo n x).fdbOf m = s.fdbOf m := rfl
@[simp] theorem State.bank_setFifo (s : State) (n m : Nat) (x : Fifo) : (s.setFifo n x).bank m = s.bank m := rfl

@[simp] theorem State.ruler_setRuler_same (s : State) (n : Nat) (x : Ruler) : (s.setRuler n x).ruler n = x := Tbl.get_set_same ..
theorem State.ruler_setRuler_ne (s : State) (n m : Nat) (x : Ruler) (h : m ≠ n) : (s.setRuler n x).ruler m = s.ruler m := Tbl.get_set_ne _ _ _ _ _ h
@[simp] theorem State.rd_setRuler (s : State) (n : Nat) (x : Ruler) (f : Fld) (i : Nat) : (s.setRuler n x).rd f i = s.rd f i := rfl
@[simp] theorem State.ruler_wr (s : State) (f : Fld) (i v n : Nat) : (s.wr f i v).ruler n = s.ruler n := rfl
@[simp] theorem State.setRuler_pending (s : State) (n : Nat) (x : Ruler) : (s.setRuler n x).pending = s.pending := rfl
@[simp] theorem State.port_setRuler (s : State) (n m : Nat) (x : Ruler) : (s.setRuler n x).port m = s.port m := rfl
@[simp] theorem State.canLane_setRuler (s : State) (n m : Nat) (x : Ruler) : (s.setRuler n x).canLane m = s.canLane m := rfl
@[simp] theorem State.t1sLane_setRuler (s : State) (n m : Nat) (x : Ruler) : (s.setRuler n x).t1sLane m = s.t1sLane m := rfl
@[simp] theorem State.mvbLane_setRuler (s : State) (n m : Nat) (x : Ruler) : (s.setRuler n x).mvbLane m = s.mvbLane m := rfl
@[simp] theorem State.nibEng_setRuler (s : State) (n m : Nat) (x : Ruler) : (s.setRuler n x).nibEng m = s.nibEng m := rfl
@[simp] theorem State.load_setRuler (s : State) (n m : Nat) (x : Ruler) : (s.setRuler n x).load m = s.load m := rfl
@[simp] theorem State.queue_setRuler (s : State) (n m : Nat) (x : Ruler) : (s.setRuler n x).queue m = s.queue m := rfl
@[simp] theorem State.fifo_setRuler (s : State) (n m : Nat) (x : Ruler) : (s.setRuler n x).fifo m = s.fifo m := rfl
@[simp] theorem State.ring_setRuler (s : State) (n m : Nat) (x : Ruler) : (s.setRuler n x).ring m = s.ring m := rfl
@[simp] theorem State.keySlot_setRuler (s : State) (n m : Nat) (x : Ruler) : (s.setRuler n x).keySlot m = s.keySlot m := rfl
@[simp] theorem State.fdbOf_setRuler (s : State) (n m : Nat) (x : Ruler) : (s.setRuler n x).fdbOf m = s.fdbOf m := rfl
@[simp] theorem State.bank_setRuler (s : State) (n m : Nat) (x : Ruler) : (s.setRuler n x).bank m = s.bank m := rfl

@[simp] theorem State.ring_setRing_same (s : State) (n : Nat) (x : DmaRing) : (s.setRing n x).ring n = x := Tbl.get_set_same ..
theorem State.ring_setRing_ne (s : State) (n m : Nat) (x : DmaRing) (h : m ≠ n) : (s.setRing n x).ring m = s.ring m := Tbl.get_set_ne _ _ _ _ _ h
@[simp] theorem State.rd_setRing (s : State) (n : Nat) (x : DmaRing) (f : Fld) (i : Nat) : (s.setRing n x).rd f i = s.rd f i := rfl
@[simp] theorem State.ring_wr (s : State) (f : Fld) (i v n : Nat) : (s.wr f i v).ring n = s.ring n := rfl
@[simp] theorem State.setRing_pending (s : State) (n : Nat) (x : DmaRing) : (s.setRing n x).pending = s.pending := rfl
@[simp] theorem State.port_setRing (s : State) (n m : Nat) (x : DmaRing) : (s.setRing n x).port m = s.port m := rfl
@[simp] theorem State.canLane_setRing (s : State) (n m : Nat) (x : DmaRing) : (s.setRing n x).canLane m = s.canLane m := rfl
@[simp] theorem State.t1sLane_setRing (s : State) (n m : Nat) (x : DmaRing) : (s.setRing n x).t1sLane m = s.t1sLane m := rfl
@[simp] theorem State.mvbLane_setRing (s : State) (n m : Nat) (x : DmaRing) : (s.setRing n x).mvbLane m = s.mvbLane m := rfl
@[simp] theorem State.nibEng_setRing (s : State) (n m : Nat) (x : DmaRing) : (s.setRing n x).nibEng m = s.nibEng m := rfl
@[simp] theorem State.load_setRing (s : State) (n m : Nat) (x : DmaRing) : (s.setRing n x).load m = s.load m := rfl
@[simp] theorem State.queue_setRing (s : State) (n m : Nat) (x : DmaRing) : (s.setRing n x).queue m = s.queue m := rfl
@[simp] theorem State.fifo_setRing (s : State) (n m : Nat) (x : DmaRing) : (s.setRing n x).fifo m = s.fifo m := rfl
@[simp] theorem State.ruler_setRing (s : State) (n m : Nat) (x : DmaRing) : (s.setRing n x).ruler m = s.ruler m := rfl
@[simp] theorem State.keySlot_setRing (s : State) (n m : Nat) (x : DmaRing) : (s.setRing n x).keySlot m = s.keySlot m := rfl
@[simp] theorem State.fdbOf_setRing (s : State) (n m : Nat) (x : DmaRing) : (s.setRing n x).fdbOf m = s.fdbOf m := rfl
@[simp] theorem State.bank_setRing (s : State) (n m : Nat) (x : DmaRing) : (s.setRing n x).bank m = s.bank m := rfl

@[simp] theorem State.keySlot_setSlot_same (s : State) (n : Nat) (x : KeySlot) : (s.setSlot n x).keySlot n = x := Tbl.get_set_same ..
theorem State.keySlot_setSlot_ne (s : State) (n m : Nat) (x : KeySlot) (h : m ≠ n) : (s.setSlot n x).keySlot m = s.keySlot m := Tbl.get_set_ne _ _ _ _ _ h
@[simp] theorem State.rd_setSlot (s : State) (n : Nat) (x : KeySlot) (f : Fld) (i : Nat) : (s.setSlot n x).rd f i = s.rd f i := rfl
@[simp] theorem State.keySlot_wr (s : State) (f : Fld) (i v n : Nat) : (s.wr f i v).keySlot n = s.keySlot n := rfl
@[simp] theorem State.setSlot_pending (s : State) (n : Nat) (x : KeySlot) : (s.setSlot n x).pending = s.pending := rfl
@[simp] theorem State.port_setSlot (s : State) (n m : Nat) (x : KeySlot) : (s.setSlot n x).port m = s.port m := rfl
@[simp] theorem State.canLane_setSlot (s : State) (n m : Nat) (x : KeySlot) : (s.setSlot n x).canLane m = s.canLane m := rfl
@[simp] theorem State.t1sLane_setSlot (s : State) (n m : Nat) (x : KeySlot) : (s.setSlot n x).t1sLane m = s.t1sLane m := rfl
@[simp] theorem State.mvbLane_setSlot (s : State) (n m : Nat) (x : KeySlot) : (s.setSlot n x).mvbLane m = s.mvbLane m := rfl
@[simp] theorem State.nibEng_setSlot (s : State) (n m : Nat) (x : KeySlot) : (s.setSlot n x).nibEng m = s.nibEng m := rfl
@[simp] theorem State.load_setSlot (s : State) (n m : Nat) (x : KeySlot) : (s.setSlot n x).load m = s.load m := rfl
@[simp] theorem State.queue_setSlot (s : State) (n m : Nat) (x : KeySlot) : (s.setSlot n x).queue m = s.queue m := rfl
@[simp] theorem State.fifo_setSlot (s : State) (n m : Nat) (x : KeySlot) : (s.setSlot n x).fifo m = s.fifo m := rfl
@[simp] theorem State.ruler_setSlot (s : State) (n m : Nat) (x : KeySlot) : (s.setSlot n x).ruler m = s.ruler m := rfl
@[simp] theorem State.ring_setSlot (s : State) (n m : Nat) (x : KeySlot) : (s.setSlot n x).ring m = s.ring m := rfl
@[simp] theorem State.fdbOf_setSlot (s : State) (n m : Nat) (x : KeySlot) : (s.setSlot n x).fdbOf m = s.fdbOf m := rfl
@[simp] theorem State.bank_setSlot (s : State) (n m : Nat) (x : KeySlot) : (s.setSlot n x).bank m = s.bank m := rfl

@[simp] theorem State.fdbOf_setFdb_same (s : State) (n : Nat) (x : Tbl FdbEntry) : (s.setFdb n x).fdbOf n = x := Tbl.get_set_same ..
theorem State.fdbOf_setFdb_ne (s : State) (n m : Nat) (x : Tbl FdbEntry) (h : m ≠ n) : (s.setFdb n x).fdbOf m = s.fdbOf m := Tbl.get_set_ne _ _ _ _ _ h
@[simp] theorem State.rd_setFdb (s : State) (n : Nat) (x : Tbl FdbEntry) (f : Fld) (i : Nat) : (s.setFdb n x).rd f i = s.rd f i := rfl
@[simp] theorem State.fdbOf_wr (s : State) (f : Fld) (i v n : Nat) : (s.wr f i v).fdbOf n = s.fdbOf n := rfl
@[simp] theorem State.setFdb_pending (s : State) (n : Nat) (x : Tbl FdbEntry) : (s.setFdb n x).pending = s.pending := rfl
@[simp] theorem State.port_setFdb (s : State) (n m : Nat) (x : Tbl FdbEntry) : (s.setFdb n x).port m = s.port m := rfl
@[simp] theorem State.canLane_setFdb (s : State) (n m : Nat) (x : Tbl FdbEntry) : (s.setFdb n x).canLane m = s.canLane m := rfl
@[simp] theorem State.t1sLane_setFdb (s : State) (n m : Nat) (x : Tbl FdbEntry) : (s.setFdb n x).t1sLane m = s.t1sLane m := rfl
@[simp] theorem State.mvbLane_setFdb (s : State) (n m : Nat) (x : Tbl FdbEntry) : (s.setFdb n x).mvbLane m = s.mvbLane m := rfl
@[simp] theorem State.nibEng_setFdb (s : State) (n m : Nat) (x : Tbl FdbEntry) : (s.setFdb n x).nibEng m = s.nibEng m := rfl
@[simp] theorem State.load_setFdb (s : State) (n m : Nat) (x : Tbl FdbEntry) : (s.setFdb n x).load m = s.load m := rfl
@[simp] theorem State.queue_setFdb (s : State) (n m : Nat) (x : Tbl FdbEntry) : (s.setFdb n x).queue m = s.queue m := rfl
@[simp] theorem State.fifo_setFdb (s : State) (n m : Nat) (x : Tbl FdbEntry) : (s.setFdb n x).fifo m = s.fifo m := rfl
@[simp] theorem State.ruler_setFdb (s : State) (n m : Nat) (x : Tbl FdbEntry) : (s.setFdb n x).ruler m = s.ruler m := rfl
@[simp] theorem State.ring_setFdb (s : State) (n m : Nat) (x : Tbl FdbEntry) : (s.setFdb n x).ring m = s.ring m := rfl
@[simp] theorem State.keySlot_setFdb (s : State) (n m : Nat) (x : Tbl FdbEntry) : (s.setFdb n x).keySlot m = s.keySlot m := rfl
@[simp] theorem State.bank_setFdb (s : State) (n m : Nat) (x : Tbl FdbEntry) : (s.setFdb n x).bank m = s.bank m := rfl

@[simp] theorem State.bank_setBank_same (s : State) (n : Nat) (x : Bank) : (s.setBank n x).bank n = x := Tbl.get_set_same ..
theorem State.bank_setBank_ne (s : State) (n m : Nat) (x : Bank) (h : m ≠ n) : (s.setBank n x).bank m = s.bank m := Tbl.get_set_ne _ _ _ _ _ h
@[simp] theorem State.rd_setBank (s : State) (n : Nat) (x : Bank) (f : Fld) (i : Nat) : (s.setBank n x).rd f i = s.rd f i := rfl
@[simp] theorem State.bank_wr (s : State) (f : Fld) (i v n : Nat) : (s.wr f i v).bank n = s.bank n := rfl
@[simp] theorem State.setBank_pending (s : State) (n : Nat) (x : Bank) : (s.setBank n x).pending = s.pending := rfl
@[simp] theorem State.port_setBank (s : State) (n m : Nat) (x : Bank) : (s.setBank n x).port m = s.port m := rfl
@[simp] theorem State.canLane_setBank (s : State) (n m : Nat) (x : Bank) : (s.setBank n x).canLane m = s.canLane m := rfl
@[simp] theorem State.t1sLane_setBank (s : State) (n m : Nat) (x : Bank) : (s.setBank n x).t1sLane m = s.t1sLane m := rfl
@[simp] theorem State.mvbLane_setBank (s : State) (n m : Nat) (x : Bank) : (s.setBank n x).mvbLane m = s.mvbLane m := rfl
@[simp] theorem State.nibEng_setBank (s : State) (n m : Nat) (x : Bank) : (s.setBank n x).nibEng m = s.nibEng m := rfl
@[simp] theorem State.load_setBank (s : State) (n m : Nat) (x : Bank) : (s.setBank n x).load m = s.load m := rfl
@[simp] theorem State.queue_setBank (s : State) (n m : Nat) (x : Bank) : (s.setBank n x).queue m = s.queue m := rfl
@[simp] theorem State.fifo_setBank (s : State) (n m : Nat) (x : Bank) : (s.setBank n x).fifo m = s.fifo m := rfl
@[simp] theorem State.ruler_setBank (s : State) (n m : Nat) (x : Bank) : (s.setBank n x).ruler m = s.ruler m := rfl
@[simp] theorem State.ring_setBank (s : State) (n m : Nat) (x : Bank) : (s.setBank n x).ring m = s.ring m := rfl
@[simp] theorem State.keySlot_setBank (s : State) (n m : Nat) (x : Bank) : (s.setBank n x).keySlot m = s.keySlot m := rfl
@[simp] theorem State.fdbOf_setBank (s : State) (n m : Nat) (x : Bank) : (s.setBank n x).fdbOf m = s.fdbOf m := rfl

/-! ## Reports, answers and draws -/

@[simp] theorem State.port_report (s : State) (src elem info n : Nat) : (s.report src elem info).port n = s.port n := rfl
@[simp] theorem State.port_reportX (s : State) (src elem n : Nat) : (s.reportX src elem).port n = s.port n := rfl
@[simp] theorem State.port_reply (s : State) (a : Initiator) (k : AnsKind) (d n : Nat) : (s.reply a k d).port n = s.port n := rfl
@[simp] theorem State.canLane_report (s : State) (src elem info n : Nat) : (s.report src elem info).canLane n = s.canLane n := rfl
@[simp] theorem State.canLane_reportX (s : State) (src elem n : Nat) : (s.reportX src elem).canLane n = s.canLane n := rfl
@[simp] theorem State.canLane_reply (s : State) (a : Initiator) (k : AnsKind) (d n : Nat) : (s.reply a k d).canLane n = s.canLane n := rfl
@[simp] theorem State.t1sLane_report (s : State) (src elem info n : Nat) : (s.report src elem info).t1sLane n = s.t1sLane n := rfl
@[simp] theorem State.t1sLane_reportX (s : State) (src elem n : Nat) : (s.reportX src elem).t1sLane n = s.t1sLane n := rfl
@[simp] theorem State.t1sLane_reply (s : State) (a : Initiator) (k : AnsKind) (d n : Nat) : (s.reply a k d).t1sLane n = s.t1sLane n := rfl
@[simp] theorem State.mvbLane_report (s : State) (src elem info n : Nat) : (s.report src elem info).mvbLane n = s.mvbLane n := rfl
@[simp] theorem State.mvbLane_reportX (s : State) (src elem n : Nat) : (s.reportX src elem).mvbLane n = s.mvbLane n := rfl
@[simp] theorem State.mvbLane_reply (s : State) (a : Initiator) (k : AnsKind) (d n : Nat) : (s.reply a k d).mvbLane n = s.mvbLane n := rfl
@[simp] theorem State.nibEng_report (s : State) (src elem info n : Nat) : (s.report src elem info).nibEng n = s.nibEng n := rfl
@[simp] theorem State.nibEng_reportX (s : State) (src elem n : Nat) : (s.reportX src elem).nibEng n = s.nibEng n := rfl
@[simp] theorem State.nibEng_reply (s : State) (a : Initiator) (k : AnsKind) (d n : Nat) : (s.reply a k d).nibEng n = s.nibEng n := rfl
@[simp] theorem State.load_report (s : State) (src elem info n : Nat) : (s.report src elem info).load n = s.load n := rfl
@[simp] theorem State.load_reportX (s : State) (src elem n : Nat) : (s.reportX src elem).load n = s.load n := rfl
@[simp] theorem State.load_reply (s : State) (a : Initiator) (k : AnsKind) (d n : Nat) : (s.reply a k d).load n = s.load n := rfl
@[simp] theorem State.queue_report (s : State) (src elem info n : Nat) : (s.report src elem info).queue n = s.queue n := rfl
@[simp] theorem State.queue_reportX (s : State) (src elem n : Nat) : (s.reportX src elem).queue n = s.queue n := rfl
@[simp] theorem State.queue_reply (s : State) (a : Initiator) (k : AnsKind) (d n : Nat) : (s.reply a k d).queue n = s.queue n := rfl
@[simp] theorem State.fifo_report (s : State) (src elem info n : Nat) : (s.report src elem info).fifo n = s.fifo n := rfl
@[simp] theorem State.fifo_reportX (s : State) (src elem n : Nat) : (s.reportX src elem).fifo n = s.fifo n := rfl
@[simp] theorem State.fifo_reply (s : State) (a : Initiator) (k : AnsKind) (d n : Nat) : (s.reply a k d).fifo n = s.fifo n := rfl
@[simp] theorem State.ruler_report (s : State) (src elem info n : Nat) : (s.report src elem info).ruler n = s.ruler n := rfl
@[simp] theorem State.ruler_reportX (s : State) (src elem n : Nat) : (s.reportX src elem).ruler n = s.ruler n := rfl
@[simp] theorem State.ruler_reply (s : State) (a : Initiator) (k : AnsKind) (d n : Nat) : (s.reply a k d).ruler n = s.ruler n := rfl
@[simp] theorem State.ring_report (s : State) (src elem info n : Nat) : (s.report src elem info).ring n = s.ring n := rfl
@[simp] theorem State.ring_reportX (s : State) (src elem n : Nat) : (s.reportX src elem).ring n = s.ring n := rfl
@[simp] theorem State.ring_reply (s : State) (a : Initiator) (k : AnsKind) (d n : Nat) : (s.reply a k d).ring n = s.ring n := rfl
@[simp] theorem State.keySlot_report (s : State) (src elem info n : Nat) : (s.report src elem info).keySlot n = s.keySlot n := rfl
@[simp] theorem State.keySlot_reportX (s : State) (src elem n : Nat) : (s.reportX src elem).keySlot n = s.keySlot n := rfl
@[simp] theorem State.keySlot_reply (s : State) (a : Initiator) (k : AnsKind) (d n : Nat) : (s.reply a k d).keySlot n = s.keySlot n := rfl
@[simp] theorem State.fdbOf_report (s : State) (src elem info n : Nat) : (s.report src elem info).fdbOf n = s.fdbOf n := rfl
@[simp] theorem State.fdbOf_reportX (s : State) (src elem n : Nat) : (s.reportX src elem).fdbOf n = s.fdbOf n := rfl
@[simp] theorem State.fdbOf_reply (s : State) (a : Initiator) (k : AnsKind) (d n : Nat) : (s.reply a k d).fdbOf n = s.fdbOf n := rfl
@[simp] theorem State.bank_report (s : State) (src elem info n : Nat) : (s.report src elem info).bank n = s.bank n := rfl
@[simp] theorem State.bank_reportX (s : State) (src elem n : Nat) : (s.reportX src elem).bank n = s.bank n := rfl
@[simp] theorem State.bank_reply (s : State) (a : Initiator) (k : AnsKind) (d n : Nat) : (s.reply a k d).bank n = s.bank n := rfl
@[simp] theorem State.report_pending (s : State) (src elem info : Nat) : (s.report src elem info).pending = s.pending := rfl
@[simp] theorem State.reportX_pending (s : State) (src elem : Nat) : (s.reportX src elem).pending = s.pending := rfl
@[simp] theorem State.reply_pending (s : State) (a : Initiator) (k : AnsKind) (d : Nat) : (s.reply a k d).pending = s.pending := rfl

end Sys2Proof.Machine
end

