-- ==== Sys2Proof/Tests/Slice0.lean ====
section
/-! SUPPORT. Tests: for each statement, states and operands that meet its hypotheses; ill-formed commands; single commands
with results worked out from the spec. -/
namespace Sys2Proof.Tests
open Sys2Proof.Machine

/-- A device that runs, its power die too, with the Ferrule link up. -/
def up : State := { State.reset with
  phase := .running
  pd := { State.reset.pd with phase := .run, inh := true }
  ferrule := { State.reset.ferrule with up := true, absent := false } }

/-- The command answers a next state. -/
def goes (c : Instr) (s : State) : Bool := match exec c s with | .next _ => true | _ => false

/-- The watchdog's source pending for target 0 at priority 3. -/
def irqUp : State := ({ up with wdogWarned := true } : State).wr F.GLB_IRQ_CFG_PRIO 30 3

/-- The command answers a next state, and `p` holds of it. -/
def gives (c : Instr) (s : State) (p : State → Bool) : Bool := match exec c s with | .next t => p t | _ => false
/-! ### NoCommandTouchesTheQueue -/

theorem test_queue_hyps : (∀ c ∈ ({ up with pending := [.fltHeartbeat] } : State).pending, c.wellFormed = true)
    ∧ goes (.fltHeartbeat) up = true := by decide

/-! ### IdentityRegistersNeverChange -/

theorem test_identity_hyps : identityHolds up
    ∧ goes (.registerWrite .s0 0 7) up = true := by decide

/-! ### EveryStepKeepsMemoriesCanonical -/

theorem test_memories_hyps : memoriesCanonical up
    ∧ goes (.fltHeartbeat) up = true := by decide

/-! ### NoWellFormedCommandStops -/

theorem test_wellFormed_hyps : (Instr.registerWrite .s0 0x100 5).wellFormed = true ∧ (0x101 : Nat) % 4 ≠ 0 := by decide

/-! ### RegisterWriteStoresByType -/

/-- GLB_S1_BOOT, whose only field is RW. -/
theorem test_registerWrite_hyps :
    up.mainUp = true ∧ up.coreHalted .pcie = false ∧ up.coreHalted .s0 = false ∧ up.reached 0x38 = true ∧ (onPowerDie 0x38 && !up.linkUp) = false ∧ up.softNames 0x38 = false
    ∧ (up.winWrite 0x38 5).isNone = true ∧ (up.regHits 0x38).map (fun h => (h.1.flds.map Fld.id, h.1.words, h.2)) = [([F.GLB_S1_BOOT_ADDR.id], 1, (0, 0))]
    ∧ (∀ h ∈ handlers, h.1 ≠ F.GLB_S1_BOOT_ADDR.id) := by decide

/-! ### WideRegisterAccesses -/

/-- GLB_MTIMECMP[0]. -/
theorem test_wideRegister_hyps :
    up.mainUp = true ∧ up.coreHalted .s0 = false ∧ up.reached 0x48 = true ∧ up.reached 0x4C = true ∧ (onPowerDie 0x48 && !up.linkUp) = false ∧ (onPowerDie 0x4C && !up.linkUp) = false
    ∧ up.softNames 0x48 = false ∧ up.softNames 0x4C = false ∧ (up.winWrite 0x48 5).isNone = true ∧ (up.winWrite 0x4C 5).isNone = true
    ∧ (up.winRead 0x48).isNone = true ∧ up.latchedWord .s0 0x48 = none
    ∧ (up.regHits 0x48).map (fun h => (h.1.flds.map Fld.id, h.1.words, h.2)) = [([F.GLB_MTIMECMP_VALUE.id], 2, (0, 0))]
    ∧ (up.regHits 0x4C).map (fun h => (h.1.flds.map Fld.id, h.1.words, h.2)) = [([F.GLB_MTIMECMP_VALUE.id], 2, (0, 1))]
    ∧ (∀ h ∈ handlers, h.1 ≠ F.GLB_MTIMECMP_VALUE.id) ∧ (rcRegs.find? (fun r => decide (r.1 = 0x48))).isNone = true := by decide

/-! ### RcReadsAndAccessesOutsideRegions -/

theorem test_rcRead_hyps : up.mainUp = true ∧ up.coreHalted .pcie = false ∧ up.reached 0xD00010 = true ∧ up.reached 0xD00018 = true ∧ up.reached 0x2000000 = false
    ∧ (rcRegs.map (fun r => r.1)) = [0xD00010, 0xD00018] := by decide

/-! ### FerruleTransfersAndMainDieAbsent -/

theorem test_ferrule_hyps : up.dieRuns .main = true ∧ up.dieRuns .power = true ∧ up.ferrule.up = true
    ∧ (0 : Fin 256).val = (up.ferruleTo .main).expect ∧ (255 : Fin 256).val ≠ (up.ferruleTo .main).expect
    ∧ ((up.ferruleTo .main).expect + 256 - (255 : Fin 256).val) % 256 ≤ 128
    ∧ up.ferrule.toPower.pending.isNone = true ∧ up.pd.phase = .run ∧ up.ferrule.absent = false := by decide

/-- The register written is AOC_RTC_ALARM. -/
theorem test_ferruleWrite_hyps : (∀ u : State, u.winWrite 0xE8F01C (5 : Word).toNat = none
      ∧ u.regHits 0xE8F01C = [(⟨0xe8f01c, 1, 1, 0x0, 1, 0x0, 0, [F.AOC_RTC_ALARM_SEC]⟩, 0, 0)])
    ∧ onPowerDie 0xE8F01C = true ∧ 0xE8F01C % 4 = 0 ∧ (∀ h ∈ handlers, h.1 ≠ F.AOC_RTC_ALARM_SEC.id)
    ∧ F.AOC_RTC_ALARM_SEC.id ≠ F.BLT_FLT_STAT_ABSENT.id := ⟨fun _ => ⟨rfl, rfl⟩, by decide, by decide, by decide, by decide⟩

/-! ### FerruleRetransmissionsAreReported -/

theorem test_ferruleRetransmit_hyps : up.dieRuns .power = true ∧ up.dieRuns .main = true ∧ up.mainUp = true ∧ up.ferrule.up = true := by decide

/-! ### ClockLossesAreReported -/

theorem test_clockLoss_hyps : up.mainUp = true ∧ up.pd.phase ≠ .off := by decide

/-! ### RecoveriesRunOneByOneAndTablesAreScrubbed -/

theorem test_recoveries_hyps :
    let s := up.request .fields (.engine 3)
    let c := up.requestFault .forwarding (.pipeline 1)
    (s.recov.of .fields).running = none ∧ (s.recov.of .fields).waiting = [.engine 3] ∧ s.recoverBlocked (.engine 3) = false
    ∧ (c.recov.of .forwarding).waiting = [] ∧ (c.recov.of .forwarding).coming = [.pipeline 1]
    ∧ (({ up with recov := up.recov.put .fields { up.recov.fields with running := some (.engine 3) } } : State).recov.of .fields).running = some (.engine 3)
    ∧ (up.evt F.QUE_STAT_AUDITING 0).on F.QUE_STAT_AUDITING 0 = true
    ∧ ({ up with ferrule := { up.ferrule with absent := true } } : State).linkUp = false
    ∧ (1 ≤ (3 : Nat)) ∧ (3 ≤ 0xB) ∧ 0xB < (12 : Nat) := by decide

/-! ### SoftScrollsApplyPersistAndLock -/

theorem test_softScrolls_hyps : (up.on F.SCR_STAT_APPLYING 0 || up.on F.SCR_STAT_PERSISTING 0) = false
    ∧ ({ up with scr := { up.scr with applying := some [] } } : State).scr.applying = some [] ∧ up.bumpBlocked = false ∧ up.scr.held = []
    ∧ ({ up with scr := { up.scr with persist := some (0, 1), inForce := some [] } } : State).scr.persist = some (0, 1)
    ∧ ((up.wr F.SCR_STAT_APPLYING 0 1).on F.SCR_STAT_APPLYING 0) = true := by decide

/-! ### RestructureRunsItsSteps -/

theorem test_restructure_hyps :
    let s (k : Nat) : State := { up with scr := { up.scr with stage := k }, recov := up.recov.put .forwarding { up.recov.forwarding with running := some (.restructure 0 1) } }
    (s 0).runningRestructure = some (0, 1) ∧ (s 0).scr.stage = 0 ∧ (s 1).scr.stage = 1 ∧ (s 2).scr.stage = 2 ∧ (s 2).scr.applyWait = false
    ∧ ({ s 2 with scr := { (s 2).scr with applyWait := true } } : State).scr.applyWait = true ∧ groupSize 0 = 8 := by decide

/-! ### PowerDieAndRailsStart -/

theorem test_powerStart_hyps :
    let pd (q : PdSt) : State := { up with pd := q }
    (pd { up.pd with phase := .por }).pd.phase = .por ∧ up.stopped = false
    ∧ (pd { up.pd with phase := .aocStart }).pd.phase = .aocStart
    ∧ ((pd { up.pd with inh := false, wakeHeld := true }).pd.phase = .run ∧ (pd { up.pd with inh := false, wakeHeld := true }).pd.inh = false
      ∧ (pd { up.pd with inh := false, wakeHeld := true }).pd.wakeHeld = true ∧ up.pd.holdOff = false ∧ up.pd.sagWait = false ∧ up.pd.retryWait = false)
    ∧ (up.pd.phase = .run ∧ up.pd.inh = true ∧ ({ up with phase := .off } : State).phase = .off)
    ∧ ({ up with stopped := true } : State).stopped = true
    ∧ (pd { up.pd with retryWait := true }).pd.retryWait = true ∧ up.on F.AOC_WAKE_SRC_VALID 0 = false := by decide

/-! ### MainDieStartStages -/

theorem test_startStages_hyps :
    let at_ (n : Nat) : State := ({ up with phase := .starting } : State).wr F.GLB_BOOT_STAT_STAGE 0 n
    ({ up with phase := .released } : State).phase = .released ∧ ({ up with phase := .rom } : State).phase = .rom
    ∧ up.recoveryCase = false ∧ ({ up with maintLow := true } : State).recoveryCase = true ∧ up.ferruleInit.showActive.recordInForce.isNone = true
    ∧ (at_ 1).atStage 1 = true ∧ (at_ 2).atStage 2 = true ∧ (at_ 4).atStage 4 = true ∧ (at_ 5).atStage 5 = true := by decide

/-! ### MainDieResetsKeepWhatTheSpecKeeps -/

theorem test_resets_hyps : up.mainRuns = true ∧ (0xA4 : BitVec 8) ≠ 0xA5 ∧ up.phase ≠ .off
    ∧ ({ up with phase := .held } : State).phase = .held := by decide

/-! ### BlockResetsAndPcie -/

theorem test_blockResets_hyps : up.on F.GLB_BLK_RST_S1 0 = false ∧ up.on F.GLB_SCRIBE_CTL_S1_RUN 0 = false
    ∧ (up.wr F.GLB_SCRIBE_CTL_S1_RUN 0 1).on F.GLB_SCRIBE_CTL_S1_RUN 0 = true ∧ up.phase = .running ∧ up.pcieUp = false
    ∧ (2 : BitVec 10).toNat.testBit 1 = true ∧ (up.rd F.GLB_BLK_RST_NIB 0).testBit 1 = false := by decide

/-! ### InterruptsTimerWatchdogAndCores -/

set_option maxRecDepth 10000 in
theorem test_interrupts_hyps : up.coreHalted .s0 = false ∧ up.coreHalted .s1 = true ∧ ({ up with wdog := .runs 0 } : State).wdog = .runs 0 ∧ 0 ≤ up.now
    ∧ (∀ e, up.wdog ≠ .runs e) ∧ (5 : Word) ≠ 0x5A5A ∧ irqUp.irqBest 0 = 30 := ⟨by decide, by decide, rfl, Nat.zero_le _, nofun, by decide, by decide⟩

/-! ### EthernetLinksComeAndGo -/

theorem test_ethLinks_hyps :
    let m := up.wr F.ETH_MODE_MODE 9 1
    let d : State := ((m.wr F.PWR_STAT_STATE 0 2).wr F.ETH_WAKE_CFG_EN 9 1).wr F.ETH_WAKE_CFG_LINK_WAKE 9 1
    let r := (up.wr F.ETH_MODE_MODE 2 1).wr F.ETH_TAPER_STAT_STATE 2 4
    let ok (s : State) (p : Nat) : Bool := s.modeUp p && !s.portRestructuring p && !(s.dozing && !s.on F.ETH_WAKE_CFG_EN p)
    (m.wr F.ETH_STAT_LINK 9 1).on F.ETH_STAT_LINK 9 = true ∧ ok m 9 = true
    ∧ m.rd F.ETH_TAPER_STAT_STATE 9 ≠ 4 ∧ m.on F.ETH_STAT_LINK 9 = false
    ∧ d.dozing = true ∧ d.stopped = false ∧ (d.on F.ETH_WAKE_CFG_EN 9 && d.on F.ETH_WAKE_CFG_LINK_WAKE 9) = true ∧ ok d 9 = true
    ∧ ok r 2 = true ∧ r.rd F.ETH_TAPER_STAT_STATE 2 = 4
    ∧ (up.wr F.ETH_MODE_MODE 9 6).rd F.ETH_MODE_MODE 9 = 6 := by decide

/-! ### PauseAndLowPowerIdle -/

theorem test_pause_hyps :
    let pm := ((up.wr F.ETH_FC_CFG_RX_EN 9 1).wr F.ETH_FC_CFG_MODE 9 1)
    let x : State := (((((up.wr F.ETH_FC_CFG_TX_EN 9 1).wr F.ETH_STAT_LINK 9 1).wr F.ETH_FC_THR_XON_CELLS 9 1).wr F.ETH_FC_THR_XOFF_CELLS 9 2).wr F.ETH_FC_CFG_PAUSE_QUANTA 9 5).wr F.ETH_FC_CFG_MODE 9 1
    let x : State := ({ x with frames := [(0, { Frame.plain [] 9 0 0 0 with cells := [1, 2, 3] })] } : State).setPort 9 { x.port 9 with xoff := 255 }
    let st : State := (up.wr F.ETH_FC_STORM_STORM_MS 9 10).wr F.ETH_FC_STORM_PAUSED 9 1
    let pf : State := (x.wr F.ETH_FC_CFG_MODE 9 2).wr F.ETH_FC_CFG_PFC_CLASSES 9 255
    let dz := (up.wr F.PWR_STAT_STATE 0 2).wr F.ETH_STAT_LINK 9 1
    let l : State := (((up.wr F.ETH_LPI_CFG_EN 9 1).wr F.ETH_MODE_LPI_ALLOWED 9 1).wr F.ETH_STAT_LINK 9 1)
    up.portLive 9 = true ∧ dz.portLive 9 = false ∧ dz.on F.ETH_STAT_LINK 9 = true
    ∧ pf.fcSends 9 = true ∧ pf.fcMask 9 (fun k n => decide (pf.rd F.ETH_FC_THR_XON_CELLS 9 < n) && (pf.port 9).xoff.testBit k) ≠ 0
    ∧ (pm.on F.ETH_FC_CFG_RX_EN 9 && decide (pm.rd F.ETH_FC_CFG_MODE 9 = 1)) = true
    ∧ ((up.setPort 9 { up.port 9 with pend := [[(0, 5)]] }).port 9).pend = [[(0, 5)]]
    ∧ x.fcSends 9 = true ∧ (x.port 9).xoff ≠ 0 ∧ x.rd F.ETH_FC_CFG_MODE 9 = 1 ∧ x.rd F.ETH_FC_THR_XON_CELLS 9 < x.heldCells 9 (fun _ => true)
    ∧ st.on F.ETH_FC_STORM_STORM_MS 9 = true ∧ st.bit F.ETH_FC_STORM_PAUSED 9 0 = true ∧ st.bit F.ETH_FC_STORM_STORMED 9 0 = false
    ∧ (l.lpiEn 9 && l.queuesEmpty 9 && l.txFree 9 && l.on F.ETH_STAT_LINK 9 && !l.on F.ETH_STAT_LPI_TX 9) = true
    ∧ ({ up with queues := [(72, { Queue.init with tail := [⟨0, 0, .none⟩] })] } : State).queuesEmpty 9 = false := by decide

/-! ### TaperNegotiatesRates -/

theorem test_taper_hyps :
    let a := ((up.wr F.ETH_MODE_MODE 2 1).wr F.ETH_MODE_TAPER_ALLOWED 2 1).wr F.ETH_STAT_LINK 2 1
    let b := (((((a.wr F.ETH_TAPER_CTL_EN 2 1).wr F.ETH_STAT_PEER 2 1).wr F.PWR_STAT_STATE 0 1).wr F.ETH_TAPER_CTL_TAPER_CEIL 2 2).wr F.ETH_TAPER_CTL_TAPER_FLOOR 2 1).wr F.ETH_TAPER_STAT_STATE 2 1
    let b := (b.wr F.ETH_TAPER_THR_DOWN_HOLD 2 1).wr F.ETH_TAPER_THR_DOWN_PCT 2 10
    a.rd F.ETH_MODE_MODE 2 = 1 ∧ a.on F.ETH_CTL_PEER_OFF 2 = false ∧ a.on F.ETH_STAT_LINK 2 = true ∧ a.portLive 2 = true
    ∧ (0x56476412 : Word).toNat / 65536 = 0x5647 ∧ b.rd F.ETH_TAPER_STAT_STATE 2 = 1 ∧ b.taperLoop 2 = true ∧ b.rd F.ETH_TAPER_STAT_RATE 2 = 2
    ∧ max 0 0 * 100 < b.rd F.ETH_TAPER_THR_DOWN_PCT 2 * 25000 * max 100 (b.rd F.ETH_TAPER_THR_WIN_US 2)
    ∧ max 1 (b.rd F.ETH_TAPER_THR_DOWN_HOLD 2) ≤ (b.port 2).lows + 1 ∧ (b.port 2).dwell = none ∧ b.rd F.ETH_TAPER_CTL_TAPER_FLOOR 2 = 1
    ∧ b.slopesOver 2 = false ∧ (b.wr F.ETH_TAPER_STAT_RATE 2 1).taperLoop 2 = true ∧ (b.wr F.ETH_TAPER_STAT_RATE 2 1).rd F.ETH_TAPER_STAT_RATE 2 = 1
    ∧ b.rd F.ETH_TAPER_THR_UP_PCT 2 * 10000 * max 100 (b.rd F.ETH_TAPER_THR_WIN_US 2) < max (10 ^ 12) 0 * 100 ∧ b.rd F.ETH_TAPER_CTL_TAPER_CEIL 2 = 2
    ∧ (b.wr F.ETH_TAPER_STAT_STATE 2 2).rd F.ETH_TAPER_STAT_STATE 2 = 2 ∧ (0 : BitVec 16).toNat = (b.port 2).seq
    ∧ (b.wr F.ETH_TAPER_STAT_STATE 2 3).txFree 2 = true ∧ (b.wr F.ETH_TAPER_STAT_STATE 2 4).rd F.ETH_TAPER_STAT_STATE 2 = 4 := by decide

/-! ### CanLanesStartStopRecoverAndWake -/

/-- Lane 3 as a CAN lane in a lane state. -/
def canIn (st : CanSt) : State := (up.wr F.LSL_PERS_PERSONALITY 3 1).setCan 3 { CanLane.init with st := st }

theorem test_canLanes_hyps :
    let c := canIn .stopped
    let arb := c.setCan 3 { CanLane.init with st := .active, stopping := true, waits := true, arb := some (.presence []) }
    let tm := ((c.wr F.LSL_PERS_ROLE 3 4).wr F.LSL_CAN_TM_EN 3 1).wr F.LSL_CAN_CTL_EN 3 1
    let w := (canIn .standby).wr F.LSL_CAN_WAKE_EN 3 1
    let net := ((w.wr F.NSL_NET_EN 1 1).wr F.NSL_NET_STATE 1 2).wr F.NSL_NET_MEMBERS 1 (2 ^ 43)
    c.pers 3 = 1 ∧ c.on F.LSL_CAN_CTL_EN 3 = false ∧ (arb.canLane 3).arb.isSome = true ∧ (c.canLane 3).arb.isSome = false ∧ arb.pers 3 = 1
    ∧ (arb.canLane 3).stopping = true ∧ (arb.canLane 3).waits = true ∧ (c.canLane 3).stopping = false
    ∧ (canIn .integrating).pers 3 = 1 ∧ ((canIn .integrating).canLane 3).st = .integrating
    ∧ (canIn .busOff).pers 3 = 1 ∧ ((canIn .busOff).canLane 3).st = .busOff
    ∧ (canIn .recovering).pers 3 = 1 ∧ ((canIn .recovering).canLane 3).st = .recovering
    ∧ ((canIn .recovering).wr F.LSL_CAN_ERR_RECOV_CNT 3 127).rd F.LSL_CAN_ERR_RECOV_CNT 3 = 127
    ∧ (decide (tm.pers 3 = 1) && tm.bit F.LSL_PERS_ROLE 3 2 && tm.on F.LSL_CAN_TM_EN 3 && tm.on F.LSL_CAN_CTL_EN 3 && tm.canSends 3) = true ∧ tm.tmFormat 3 = true
    ∧ ((tm.setCan 3 { CanLane.init with refDue := true }).canLane 3).refDue = true
    ∧ w.pers 3 = 1 ∧ w.on F.LSL_CAN_WAKE_EN 3 = true ∧ (w.canLane 3).st = .standby ∧ w.laneArmed 3 = false ∧ (w.wr F.PWR_STAT_STATE 0 2).dozing = true
    ∧ w.dozing = false ∧ net.portAsleep 43 = true ∧ net.dozing = false
    ∧ (w.setArmed 3 true).laneArmed 3 = true ∧ w.phase = .running
    ∧ (c.wr F.LSL_CAN_CTL_OPMODE 3 1).pers 3 = 1 ∧ (c.wr F.LSL_CAN_CTL_OPMODE 3 1).rd F.LSL_CAN_CTL_OPMODE 3 = 1 ∧ c.rd F.LSL_CAN_CTL_OPMODE 3 ≠ 1
    ∧ (c.wr F.LSL_CAN_BRD_START 3 1).on F.LSL_CAN_BRD_START 3 = true := by decide

/-! ### CanFramesAndErrors -/

/-- A base-format CAN frame of two data bytes with key 5, as lane 3 receives it. -/
def canBytes : List Byte := LaneFrame.bytes ⟨1, 0, 0, 5, 0, [1, 2]⟩ 3 0xFFFF

/-- What `passes` of the statement says of a frame, with no entry found bad. -/
def canClear (s : State) (b : Bool) (y : LaneFrame) : Bool :=
  decide (s.canAction 3 b y = (false, none)) && (s.sealEntry b 3 y).isNone && !s.secure 43

theorem test_canFrames_hyps :
    let c := canIn .active
    let a := c.setCan 3 { CanLane.init with st := .active, arb := some (.presence [1]), timing := [0, 0, 0, 0, 0, 0, 0, 0, 0, 0, 0, 0, 1] }
    let p := (c.wr F.LSL_CAN_CTL_EN 3 1).setCan 3 { CanLane.init with st := .active, presDue := some canBytes }
    let r := (c.wr F.LSL_CAN_CTL_EN 3 1).setCan 3 { CanLane.init with st := .active, refDue := true }
    let f : Frame := { Frame.plain canBytes 64 0 0 0xFFFF with cells := [7] }
    let e : QEnt := ⟨0, 7, CopyEd.none⟩
    let q := ({ c with frames := [(7, f)] } : State).setQueue 335 { Queue.init with head := [e] }
    let high := a.setCan 3 { a.canLane 3 with tec := 250 }
    c.canTakes 3 = true ∧ (c.canLane 3).sof.isNone = true ∧ (c.canLane 3).arb.isNone = true ∧ c.canFormat 3 ⟨1, 0, 0, 5, 0, [1, 2]⟩ = true ∧ c.dozing = false
    ∧ canClear c false ⟨1, 0, 0, 5, 0, [1, 2]⟩ = true ∧ c.recovering (pipeOf 43) = false ∧ c.canSends 3 = true ∧ c.portRestructuring 43 = false
    ∧ (p.canLane 3).presDue = some canBytes ∧ p.canRuns 3 = true ∧ p.on F.LSL_CAN_CTL_EN 3 = true ∧ canClear p true (laneOf canBytes) = true
    ∧ (r.canLane 3).presDue = none ∧ (r.canLane 3).refDue = true ∧ (r.canLane 3).refOut = none ∧ r.tmFormat 3 = true ∧ canClear r true (r.refMessage 3) = true ∧ r.canRuns 3 = true
    ∧ (q.queue 335).head = [e] ∧ q.frames.find 7 = some f ∧ q.tooOld 43 f.epoch = false ∧ q.canFormat 3 (laneOut f e) = true
    ∧ canClear q true (laneOut f e) = true ∧ q.canHeadIs 3 335 e = false
    ∧ (∀ c : Fin 3, (q.queue (332 + c)).head = []) ∧ q.canRuns 3 = true
    ∧ (a.canLane 3).arb.isSome = true ∧ (a.canLane 3).timing.getD 12 0 = 1 ∧ a.canRuns 3 = true ∧ a.canCounts 3 = true ∧ a.canHears 3 = true
    ∧ (a.wr F.LSL_CAN_CTL_OPMODE 3 2).rd F.LSL_CAN_CTL_OPMODE 3 = 2 ∧ (a.wr F.LSL_PERS_ROLE 3 1).bit F.LSL_PERS_ROLE 3 0 = true ∧ a.bit F.LSL_PERS_ROLE 3 0 = false
    ∧ (a.canLane 3).stopping = false ∧ a.laneParked 3 = false ∧ high.canRuns 3 = true ∧ 255 < (high.canLane 3).tec + 8 := by decide

/-! ### T1sDuplicateCoordinatorRemains -/

/-- Lane 3 as a T1S lane that runs, with a NODE_ID. -/
def t1sUp (id : Nat) : State :=
  (((up.wr F.LSL_PERS_PERSONALITY 3 2).wr F.LSL_T1S_CTL_EN 3 1).wr F.LSL_T1S_CTL_PLCA_EN 3 1).wr F.LSL_T1S_PLCA_NODE_ID 3 id

theorem test_t1sCoord_hyps : (t1sUp 0).t1sRuns 3 = true ∧ (t1sUp 0).t1sCoord 3 = true := by decide

/-! ### T1sLanesTakeTurnsAndCollide -/

/-- A T1S lane that is sending a frame of queue 335, in a state after some collisions. -/
def t1sSending (k : Nat) (csma : Nat) : State :=
  ((t1sUp 2).wr F.LSL_T1S_STAT_MODE 3 csma).setT1s 3 { T1sLane.init with tx := some ⟨335, some ⟨0, 7, CopyEd.none⟩, 7, CopyEd.none, [], none⟩, attempts := k }

theorem test_t1sLanes_hyps :
    let a := (t1sUp 2).setT1s 3 { T1sLane.init with coming := some 2 }
    let b := a.setT1s 3 { T1sLane.init with presDue := some [1], coming := some 2 }
    let cs := a.wr F.LSL_T1S_STAT_MODE 3 1
    let f : Frame := { Frame.plain (List.replicate 64 0) 64 0 0 0xFFFF with cells := [7] }
    let q := ({ a with frames := [(7, f)] } : State).setQueue 335 { Queue.init with head := [⟨0, 7, CopyEd.none⟩] }
    a.t1sRuns 3 = true ∧ a.secure 43 = false ∧ a.presenceOf 43 (List.replicate 64 0) = none ∧ a.recovering (pipeOf 43) = false
    ∧ (List.replicate 64 (0 : Byte)).length = 64 ∧ a.t1sCsma 3 = false ∧ (t1sUp 0).t1sCsma 3 = false ∧ (t1sUp 0).t1sCoord 3 = true ∧ (t1sUp 0).t1sRuns 3 = true
    ∧ (a.t1sLane 3).tx = none ∧ a.t1sPlca 3 = true ∧ a.t1sCoord 3 = false ∧ a.portRestructuring 43 = false
    ∧ cs.t1sRuns 3 = true ∧ cs.t1sCsma 3 = true ∧ cs.t1sPlca 3 = true ∧ cs.t1sCoord 3 = false ∧ (cs.t1sLane 3).switchTo = none ∧ (cs.t1sLane 3).backoff = none
    ∧ (t1sUp 0).t1sCycleOver 3 = true ∧ ((t1sUp 0).setT1s 3 { T1sLane.init with coming := some 0 } |>.wr F.LSL_T1S_PLCA_NODE_CNT 3 4).t1sCycleOver 3 = false
    ∧ a.t1sOpens 3 2 = true ∧ b.t1sOpens 3 2 = true ∧ a.t1sOpens 3 5 = false ∧ (a.setT1s 3 { T1sLane.init with coming := some 5 }).t1sOpens 3 5 = true
    ∧ (2 : BitVec 8).toNat = a.rd F.LSL_T1S_PLCA_NODE_ID 3 ∧ (a.t1sLane 3).opp ≠ some 2 ∧ (b.t1sLane 3).presDue = some [1] ∧ b.t1sRuns 3 = true
    ∧ (q.t1sLane 3).presDue = none ∧ (q.queue 335).head = [⟨0, 7, CopyEd.none⟩] ∧ q.frames.find 7 = some f ∧ q.tooOld 43 f.epoch = false
    ∧ q.t1sRuns 3 = true ∧ (t1sSending 0 0).t1sRuns 3 = true ∧ ((t1sSending 0 0).t1sLane 3).tx.isSome = true
    ∧ (t1sSending 15 1).t1sRuns 3 = true ∧ ((t1sSending 15 1).t1sLane 3).tx.isSome = true ∧ ¬((t1sSending 15 1).t1sLane 3).attempts + 1 < 16
    ∧ a.pers 3 = 2 ∧ a.on F.LSL_T1S_STAT_ED 3 = false := by decide

set_option maxRecDepth 100000 in
theorem test_t1sHead_hyps :
    ((t1sUp 2).egressBytes (t1sUp 2).snap 43 { Frame.plain (List.replicate 64 0) 64 0 0 0xFFFF with cells := [7] } CopyEd.none).2.length ≤ 1518 := by decide +kernel

/-! ### MvbMasterConflictClearsAdminRun -/

/-- Lane 3 as an MVB lane that runs, with ADMIN_RUN or without. -/
def mvbUp (run : Nat) : State :=
  (((up.wr F.LSL_PERS_PERSONALITY 3 3).wr F.LSL_MVB_CTL_EN 3 1).wr F.LSL_PERS_ROLE 3 1).wr F.LSL_MVB_CTL_ADMIN_RUN 3 run

theorem test_mvbConflict_hyps : (mvbUp 1).mvbRuns 3 = true ∧ (mvbUp 1).mvbAdmin 3 = true ∧ (mvbUp 1).secure 43 = false := by decide

/-! ### MvbLanesAnswerPollAndTimeOut -/

/-- The MVB lane with port 0 valid for F_code 0 and address 5, a source or a sink. -/
def mvbPorted (dir : Nat) : State :=
  (((mvbUp 1).wr F.LSL_MVB_PORT_VALID 768 1).wr F.LSL_MVB_PORT_ADDR 768 5).wr F.LSL_MVB_PORT_DIR 768 dir

/-- Its queue of class 3 holds one lane frame of a kind with key 5. -/
def mvbQueued (kind : Nat) : State :=
  ({ mvbPorted 1 with frames := [(7, { Frame.plain (LaneFrame.bytes ⟨kind, 0, 0, 5, 0, if kind = 0x11 then [1, 2] else []⟩ 3 0xFFFF) 64 0 0 0xFFFF with cells := [7] })] } : State).setQueue
    335 { Queue.init with head := [⟨0, 7, CopyEd.none⟩] }

theorem test_mvbLanes_hyps :
    let a := mvbUp 1
    let st (x : MvbLane) : State := a.setMvb 3 x
    let w := st { MvbLane.init with waiting := some 5, reply := some [1, 2] }
    let b := st { MvbLane.init with began := true }
    let due := (b.wr F.LSL_MVB_STAT_BP_NUM 3 0)
    let due := { due with mvbPoll := due.mvbPoll.set 0 3072 (2 ^ 31 + 5) }
    let sp := (mvbQueued 0x10).setMvb 3 { MvbLane.init with began := true, cursor := 1024 }
    a.mvbRuns 3 = true ∧ a.secure 43 = false ∧ a.mvbAdmin 3 = true ∧ a.pers 3 = 3 ∧ w.mvbEnds 3 = true ∧ (w.mvbLane 3).reply = some [1, 2]
    ∧ (w.mvbLane 3).waiting = some 5 ∧ (st { MvbLane.init with waiting := some 5 }).mvbEnds 3 = true
    ∧ b.mvbRuns 3 = true ∧ b.mvbAdmin 3 = true ∧ (b.mvbLane 3).began = true ∧ (b.mvbLane 3).waiting = none ∧ (b.mvbLane 3).cursor < 1024
    ∧ pollDue (due.pollEntry 3 0) (due.rd F.LSL_MVB_STAT_BP_NUM 3) = true ∧ due.mvbWorst 3 0 ≤ 1500 ∧ ¬due.mvbWorst 3 0 ≤ 10 ∧ due.mvbRuns 3 = true
    ∧ sp.mvbRuns 3 = true ∧ 1024 ≤ (sp.mvbLane 3).cursor ∧ sp.queue 335 = { Queue.init with head := [⟨0, 7, CopyEd.none⟩] }
    ∧ sp.mvbWorst 3 0 ≤ 1500 ∧ (mvbQueued 0x11).mvbRuns 3 = true := by decide

set_option maxRecDepth 100000 in
theorem test_mvbPorts_hyps :
    let x := { Frame.plain (LaneFrame.bytes ⟨0x11, 0, 0, 5, 0, [1, 2]⟩ 3 0xFFFF) 64 0 0 0xFFFF with cells := [7] }
    let m := { Frame.plain (LaneFrame.bytes ⟨0x10, 0, 0, 5, 0, []⟩ 3 0xFFFF) 64 0 0 0xFFFF with cells := [7] }
    let e : QEnt := ⟨0, 7, CopyEd.none⟩
    (mvbPorted 1).mvbPort 3 0 5 = some 0 ∧ (mvbPorted 1).mvbSource 3 0 = true ∧ (mvbPorted 0).mvbPort 3 0 5 = some 0
    ∧ (mvbPorted 0).mvbSource 3 0 = false ∧ (laneOut x e).kind = 0x11 ∧ (laneOut x e).key = 5 ∧ (laneOut m e).kind = 0x10 ∧ (laneOut m e).key = 5
    ∧ (mvbQueued 0x11).mvbPort 3 0 5 = some 0 ∧ (mvbQueued 0x11).mvbSource 3 0 = true ∧ (mvbQueued 0x11).frames.find 7 = some x
    ∧ (mvbQueued 0x10).frames.find 7 = some m ∧ (mvbQueued 0x11).tooOld 43 x.epoch = false ∧ (mvbQueued 0x11).queue 335 = { Queue.init with head := [e] }
    ∧ ∀ c : Fin 3, ((mvbQueued 0x11).queue (332 + c)).head = [] := by decide +kernel

/-! ### FramesArriveAndAreGrantedOrDeclined -/

/-- Port 9 receives, and Quickstroke is on from it to port 10. -/
def qsUp : State :=
  (((up.wr F.ETH_CTL_RX_EN 9 1).wr F.ETH_STAT_LINK 9 1).wr F.PP_CTL_QS_EN (pipeOf 9) 1).wr F.PP_QS_PORT_EN_PORT (pipeOf 9) (2 ^ 63)

/-- An untagged frame of 64 bytes to a unicast address. -/
def frame64 : List Byte := [2, 0, 0, 0, 0, 1, 2, 0, 0, 0, 0, 2, 8, 0] ++ List.replicate 50 0

/-- The Stroke cache entry of its address. -/
def strokeOf : Stroke := ⟨false, 9, 10, 0, false, qsUp.frameVid (pipeOf 9) 9 (qsUp.parse (pipeOf 9) 9 false frame64), 0x020000000001, 0, 0⟩

set_option maxRecDepth 100000 in
theorem test_framesArrive_hyps :
    let i := pipeOf 9
    let on : State := qsUp.wr F.PP_QS_PORT_EN_PORT i (2 ^ 64 - 1)
    let h := on.parse i 9 false frame64
    let c : State := { on with strokes := on.strokes.put (strokeBase i 9 h.da) strokeOf }
    let g : Flight := { Flight.good 9 frame64 0xFFFF with whole := false, spec := some ⟨10, 0, 0, 0, .granted, none, [], 0⟩ }
    let r : State := { (on.wr F.ETH_CTL_TX_EN 10 1).wr F.ETH_STAT_LINK 10 1 with flight := [g] }
    let pr : State := { (up.wr F.ETH_STAT_PEER 2 1).wr F.ETH_CTL_RX_EN 2 1 with flight := [{ g with port := 2, spec := none }] }
    (on.on F.ETH_CTL_RX_EN 9 && on.on F.ETH_STAT_LINK 9 && on.portLive 9 && !on.portRestructuring 9 && !on.recovering i && !(on.port 9).gone && (on.arriving 9).isNone) = true
    ∧ (!on.consumed frame64 && (on.presenceOf 9 frame64).isNone) = true ∧ on.cipRx 9 = false ∧ frame64.length = 64
    ∧ max 1518 (on.rd F.ETH_CTL_MAX_LEN 9) < 20000
    ∧ (on.on F.PP_CTL_QS_EN i && on.bit F.PP_QS_PORT_EN_PORT i (portBit 9) && decide (on.rd F.PWR_STAT_STATE 0 ≤ 1)) = true
    ∧ h.da.testBit 40 = false ∧ (c.strokeFind i 9 h.da (c.frameVid i 9 h)).isSome = true
    ∧ r.flightWith (fun f => decide (f.port = 9) && (match f.spec with | some x => decide (x.st = .granted) | none => false)) = some (0, g)
    ∧ r.specBusy ⟨10, 0, 0, 0, .granted, none, [], 0⟩ = false ∧ r.specHolds ⟨10, 0, 0, 0, .granted, none, [], 0⟩ = true
    ∧ r.flight.any (fun g => g.integ && g.verdict.isSome) = false ∧ g.integ = false ∧ on.arriving 2 = none
    ∧ (pr.on F.ETH_STAT_PEER 2 && pr.on F.ETH_CTL_RX_EN 2) = true ∧ (pr.arriving 2).isSome = true ∧ g.verdict = none
    ∧ (up.on F.ETH_STAT_PEER 2 && up.on F.ETH_CTL_RX_EN 2) = false := by decide +kernel

/-! ### VerdictsStrikeAndPipelinesRecover -/

/-- A frame to a group address whose transmission on port 10 is on the wire, alone in the pipelines. -/
def sending : Flight := { Flight.good 9 frame64 0xFFFF with spec := some ⟨10, 0, 0, 0, .sending, none, [], 0⟩ }

set_option maxRecDepth 100000 in
theorem test_verdicts_hyps :
    let a : State := { up with flight := [sending] }
    let b : State := { up with flight := [{ Flight.good 9 frame64 0xFFFF with verdict := some (a.decision sending), fcsOk := false }] }
    let c : State := { up with flight := [{ Flight.good 9 frame64 0xFFFF with integ := true, fcsOk := false }] }
    a.flightWith (fun f => decide (f.port = 9) && f.verdict.isNone) = some (0, sending)
    ∧ a.flight.any (fun g => g.integ && g.verdict.isSome) = false ∧ sending.integ = false ∧ (a.decision sending).policer = none
    ∧ (a.vetoOf { sending with epoch := a.epoch } (a.decision sending) ⟨10, 0, 0, 0, .sending, none, [], 0⟩).isSome = true
    ∧ (a.flightWith (fun f => decide (f.port = 9) && f.whole && !f.integ)).isSome = true
    ∧ (b.flightWith (fun f => decide (f.port = 9) && f.whole && !f.integ)).isSome = true ∧ b.flight.length = 1
    ∧ (c.flightWith (fun f => decide (f.port = 9) && f.verdict.isNone)).isSome = true ∧ c.flight.length = 1
    ∧ (up.wr F.PP_STAT_RECOVERING 1 1).recovering Pipe.b.idx = true := by decide +kernel

/-! ### TableWritesBecomeVisibleByEpochs -/

theorem test_tableWrites_hyps :
    let w : BufWrite := ⟨0, .word 6 1 0 5⟩
    let full : State := { up with updBuf := List.replicate 2 w }
    let a := (((((up.wr F.ETH_STAT_LINK 0 1).wr F.ETH_STAT_LINK 1 1).wr F.TBL_AGG_CFG_EN 2 1).wr F.TBL_AGG_CFG_N_M1 2 1).wr F.TBL_AGG_CFG_MEMBERS 2 64)
    let moving : State := { a with agg := a.agg.set ⟨false, []⟩ 2 ⟨true, [1]⟩ }
    let two : TblOp := .fdbDelete .both 5 1
    let room : State := { up with scr := { up.scr with room := 2047 } }
    up.opInRange (.word 6 1 0 5) = true ∧ up.pendingWrites + up.scr.room + (opEntries (.word 6 1 0 5)).length ≤ 2048
    ∧ room.opInRange two = true ∧ room.pendingWrites + room.scr.room = 2047 ∧ opEntries two = [.fdbDelete .pipeA 5 1, .fdbDelete .pipeB 5 1]
    ∧ 2048 ≤ (room.pendingWrites + 1) + room.scr.room ∧ up.opInRange (.word 6 5000 0 5) = false ∧ (up.wr F.SCR_LOCK_LOCK 0 1).locked = true ∧ full.updBuf = w :: [w] ∧ full.committed w = true
    ∧ up.on F.TBL_STAT_BUMP_HELD 0 = false ∧ serialNewer 0 up.drain = false ∧ up.locked = false ∧ up.bumpBlocked = false
    ∧ (up.wr F.TBL_EPOCH_EPOCH 0 5).epoch = 5 ∧ moving.moving 2 0 = true ∧ moving.inFlight 2 0 = 0 ∧ moving.gapPassed 512 = true := by decide

/-! ### AddressesAreLearnedAndAge -/

/-- One learn request waits in pipeline A. -/
def learning : State := { up with learnQ := up.learnQ.set [] 0 [⟨1, 5, 9, none⟩] }

set_option maxRecDepth 100000 in
theorem test_learning_hyps :
    let r : LearnReq := ⟨1, 5, 9, none⟩
    let l : State := learning.setFdb 0 [(7, ⟨5, 1, false, 3, false, 0, 8⟩)]
    learning.gated = false ∧ learning.learnQ.get [] Pipe.a.idx = [r]
    ∧ (learning.updBuf.any (fun w => (opOnKey w.op Pipe.a.idx r.vid r.mac).isSome)) = false
    ∧ (({ learning with updBuf := [⟨0, .fdbDelete .pipeA 5 1⟩] } : State).updBuf.any (fun w => (opOnKey w.op Pipe.a.idx r.vid r.mac).isSome)) = true
    ∧ learning.fdbSlot 0 1 5 = none ∧ (learning.fdbInsert 0 ⟨5, 1, false, 0, false, 0, 9⟩).isSome = true
    ∧ (l.fdbOf Pipe.a.idx).find 7 = some ⟨5, 1, false, 3, false, 0, 8⟩
    ∧ (up.wr F.TBL_FDB_AGE_CFG_PERIOD_S 0 300).on F.TBL_FDB_AGE_CFG_PERIOD_S 0 = true := by decide +kernel

/-! ### QueuesScheduleSpillFlushAndRecirculate -/

/-- A frame of 64 bytes in cell 7, at the head of queue 72 of port 9, whose class 0 is strict. -/
def queued : State :=
  (({ up with frames := [(7, { Frame.plain frame64 64 0 0 0xFFFF with cells := [7] })] } : State).setQueue 72
    { Queue.init with head := [⟨0, 7, CopyEd.none⟩] }).wr F.QUE_SCHED_STRICT 9 255

theorem test_queues_hyps :
    let f : Frame := { Frame.plain frame64 64 0 0 0xFFFF with cells := [7] }
    let a := (queued.wr F.ETH_STAT_LINK 9 1).wr F.ETH_CTL_TX_EN 9 1
    let tx := up.setPort 9 { up.port 9 with tx := some ⟨72, none, 7, CopyEd.none, frame64, none⟩ }
    let bad : State := { tx with frames := [(7, { f with damaged := true })] }
    let d := (up.wr F.QUE_CFG_DEEP 5 1).setQueue 5 { Queue.init with tail := [⟨0, 7, CopyEd.none⟩], tailOff := 8, blocks := [⟨0, 8, 0, 0⟩], refill := true }
    let g := (up.wr F.QUE_CFG_DEEP 517 1).setFifo 5 { Fifo.init with tail := [⟨[1, 2, 3, 4], false, false, 0, false, false, [9], false⟩], blocks := [⟨0, 8, 0, 0⟩], refill := true }
    let r : State := { queued with recirc := [7] }
    a.txFree 9 = true ∧ (a.queue 72).head.head? = some ⟨0, 7, CopyEd.none⟩ ∧ a.frames.find 7 = some f ∧ a.strictCls 9 0 = true ∧ a.eligible 9 0 = true
    ∧ (∀ d : Fin 8, 0 < d → (a.strictCls 9 d && a.eligible 9 d) = false) ∧ (∀ d : Fin 8, a.pruned (72 + d) = a)
    ∧ (a.select 9).2 = some 0 ∧ a.headOf 72 = some (⟨0, 7, CopyEd.none⟩, f) ∧ a.cipTx 9 = false
    ∧ (tx.port 9).tx.isSome = true ∧ tx.frames.find 7 = none ∧ bad.frames.find 7 = some { f with damaged := true } ∧ d.deep 5 = true ∧ (d.queue 5).tail = [⟨0, 7, CopyEd.none⟩] ∧ (d.queue 5).blocks ≠ []
    ∧ d.entsCells (d.queue 5).head + (d.queue 5).asm.length + 8 ≤ 64 ∧ d.pruned 5 = d ∧ (1 : Nat) ≠ (d.queue 5).expSeq
    ∧ g.deep 517 = true ∧ (g.fifo 5).tailOff < ((g.fifo 5).spillable.map pktSize).foldl (· + ·) 0 ∧ (g.fifo 5).blocks = [⟨0, 8, 0, 0⟩]
    ∧ (g.fifo 5).refill = true ∧ pktsCells (g.fifo 5).pkts + (g.fifo 5).asm.length + 8 ≤ 64
    ∧ up.rd F.QUE_POOL_SIZE (poolOf 9) < 2 * (up.minSum (poolOf 9) - up.rd F.QUE_CFG_MIN_CELLS 9 + 0x3FFFF)
    ∧ (d.queue 5).refill = true ∧ (d.queue 5).blocks = [⟨0, 8, 0, 0⟩]
    ∧ up.on F.QUE_FLUSH_GO 0 = false ∧ (up.wr F.QUE_PORT_CFG_LINGERING 9 1).on F.QUE_PORT_CFG_LINGERING 9 = true ∧ up.gated = false
    ∧ r.recirc = [7] ∧ r.gated = false ∧ r.frames.find 7 = some f ∧ r.tooOld 66 f.epoch = false ∧ r.recovering (pipeOf 66) = false := by decide

/-! ### FifosAndInkwellFaults -/

/-- FIFO 3 with an open packet. -/
def building : State := up.setFifo 3 { Fifo.init with prod := .building, pkts := [⟨[1, 2, 3, 4], true, false, 0, false, false, [9], false⟩] }

theorem test_fifos_hyps :
    let c := up.setFifo 3 { Fifo.init with pkts := [⟨[1, 2, 3, 4], false, false, 0, false, false, [9], false⟩] }
    let dead := up.setFifo 3 { Fifo.init with prod := .dead }
    (up.fifo 3).prod = .none ∧ (dead.fifo 3).prod = .dead ∧ (dead.fifo 3).prod ≠ .none
    ∧ cellsOf (8 + 4) ≤ [9].length ∧ ¬cellsOf (8 + 256) ≤ [9].length ∧ 4 + 4 ≤ (16380 : Nat) ∧ (building.wr F.QUE_POOL_SIZE 1 64).fifoAdmits 3 = true ∧ building.fifoAdmits 3 = false ∧ building.ink.takeCell.2.isSome = true
    ∧ up.coreHalted .s0 = false ∧ (c.fifo 3).pkts.any Pkt.bad = false
    ∧ (((building.fifo 3).pkts ++ (building.fifo 3).mid ++ (building.fifo 3).tail).any (fun p => p.isOpen || p.inCons)) = true
    ∧ (building.fifo 3).prod = .building ∧ ((building.fifo 3).newest (building.deep 515)).isSome = true
    ∧ building.deep 515 = false ∧ building.cutThrough 3 = false ∧ (c.fifo 3).pkts = [⟨[1, 2, 3, 4], false, false, 0, false, false, [9], false⟩]
    ∧ c.pktVisible 3 ⟨[1, 2, 3, 4], false, false, 0, false, false, [9], false⟩ = true
    ∧ (((c.fifo 3).pkts ++ (c.fifo 3).mid ++ (c.fifo 3).tail).any (fun p => p.isOpen || p.inCons)) = false
    ∧ (queued.frameWith 7).isSome = true ∧ (up.wr F.QUE_STAT_AUDITING 0 1).on F.QUE_STAT_AUDITING 0 = true := by decide

/-! ### NibInstructionsComputeJumpAndTrap -/

/-- Engine 2 runs, with an instruction word at its pc, 0. -/
def nibAt (w : Nat) : State :=
  (up.setNib 2 { NibEng.init with isram := Mem.writes [] 0 (leBytes 4 w) }).wr F.NIB_STAT_STATE 2 1

set_option maxRecDepth 100000 in
/-- Words from the encodings of RV32IM and Zicsr: LUI x5, 0x12345000; AUIPC x5, 0x1000; ADDI x5, x6, -1; SUB x5, x6, x7;
BEQ x6, x7, 8; JAL x1, 16; JALR x0, x1, 0; MRET; MULH x5, x6, x7; DIV x5, x6, x7; CSRRW x5, mscratch, x6; FENCE; WFI; ECALL;
EBREAK; all zeros. -/
theorem test_nibArithmetic_hyps :
    fetches (nibAt 0x123452B7) 2 (.lui 5 0x12345000) 0x123452B7 4 = true ∧ fetches (nibAt 0x00001297) 2 (.auipc 5 0x1000) 0x00001297 4 = true
    ∧ fetches (nibAt 0xFFF30293) 2 (.aluI .add 5 6 0xFFFFFFFF) 0xFFF30293 4 = true ∧ fetches (nibAt 0x407302B3) 2 (.aluR .sub 5 6 7) 0x407302B3 4 = true
    ∧ fetches (nibAt 0x00730463) 2 (.branch 0 6 7 8) 0x00730463 4 = true ∧ fetches (nibAt 0x010000EF) 2 (.jal 1 16) 0x010000EF 4 = true
    ∧ fetches (nibAt 0x00008067) 2 (.jalr 0 1 0) 0x00008067 4 = true ∧ fetches (nibAt 0x30200073) 2 .mret 0x30200073 4 = true
    ∧ fetches (nibAt 0x027312B3) 2 (.mul 1 5 6 7) 0x027312B3 4 = true ∧ fetches (nibAt 0x027342B3) 2 (.div 4 5 6 7) 0x027342B3 4 = true
    ∧ fetches (nibAt 0x340312F3) 2 (.csr 1 5 6 0x340) 0x340312F3 4 = true ∧ fetches (nibAt 0x0FF0000F) 2 .fence 0x0FF0000F 4 = true
    ∧ fetches (nibAt 0x10500073) 2 .wfi 0x10500073 4 = true ∧ fetches (nibAt 0x00000073) 2 .ecall 0x00000073 4 = true
    ∧ fetches (nibAt 0x00100073) 2 .ebreak 0x00100073 4 = true ∧ fetches (nibAt 0) 2 .illegal 0 2 = true
    ∧ (((nibAt 0x10500073).setNib 2 { (nibAt 0x10500073).nibEng 2 with evq := [2 ^ 28] }).nibEng 2).evq ≠ [] ∧ ((nibAt 0x10500073).nibEng 2).evq = []
    ∧ (nibAt 0).nibFetch 2 ≠ none ∧ ((nibAt 0).setNib 2 { NibEng.init with pc := 0x10000 }).nibFetch 2 = none ∧ (nibAt 0).nibRunning 2 = true := by decide +kernel

/-! ### NibInstructionsReachMemoryFieldsAndTime -/

/-- The same with registers 6 and 7 holding values. -/
def nibWith (w : Nat) (a b : Word) : State :=
  let s := nibAt w
  s.setNib 2 (((s.nibEng 2).setX 6 a).setX 7 b)

set_option maxRecDepth 100000 in
/-- LW x5, 0(x6); SW x7, 0(x6); custom-0 and custom-1 words by 10 R228. -/
theorem test_nibMemory_hyps :
    let d : Word := 0x10000010
    let g : Word := 0x20000010
    let l := nibWith 0x00032283 d 5
    let ok (s : State) (a k : Nat) : Bool := decide (s.nibRead 2 a k .good = (s, true))
    fetches l 2 (.load 2 5 6 0) 0x00032283 4 = true ∧ (d + 0).toNat % 4 = 0 ∧ (nibSpan (d + 0).toNat 4).isNone = false ∧ ok l (d + 0).toNat 4 = true
    ∧ fetches (nibWith 0x00732023 d 5) 2 (.store 2 6 7 0) 0x00732023 4 = true ∧ nibSpan g.toNat 4 = some .ss
    ∧ fetches (nibWith 0x0073028B d 5) 2 (.bext 5 6 7) 0x0073028B 4 = true ∧ (nibSpan (d.toNat + (fieldSpan 5).1) (fieldSpan 5).2).isSome = true
    ∧ ok (nibWith 0x0073028B d 5) (d.toNat + (fieldSpan 5).1) (fieldSpan 5).2 = true
    ∧ nibRegion d.toNat ≠ none ∧ nibStores d.toNat 1 = true ∧ nibSpan 0x30000000 4 = none
    ∧ fetches (nibWith 0x2873002B d 5) 2 (.bins 6 7 5) 0x2873002B 4 = true ∧ nibStores (d.toNat + (fieldSpan 5).1) (fieldSpan 5).2 = true
    ∧ fetches (nibWith 0x0213028B d 5) 2 (.bswap 5 6 1) 0x0213028B 4 = true
    ∧ fetches (nibWith 0x0073128B 5 d) 2 (.scale 5 6 7) 0x0073128B 4 = true ∧ fetches (nibWith 0x0273128B 5 d) 2 (.scaleu 5 6 7) 0x0273128B 4 = true
    ∧ d.toNat % 16 = 0 ∧ nibStores d.toNat 16 = true ∧ ok (nibWith 0x0073128B 5 d) d.toNat 16 = true
    ∧ fetches (nibWith 0x0273228B d 5) 2 (.crcb 1 5 6 7) 0x0273228B 4 = true ∧ fetches (nibWith 0x2273228B d 5) 2 (.crcw 1 5 6 7) 0x2273228B 4 = true
    ∧ fetches (nibWith 0x4273228B d 5) 2 (.crcm 1 5 6 7) 0x4273228B 4 = true ∧ (nibSpan d.toNat 5).isSome = true ∧ ok (nibWith 0x4273228B d 5) d.toNat 5 = true
    ∧ fetches (nibWith 0x0003328B d 5) 2 (.trd 5 6) 0x0003328B 4 = true ∧ fetches (nibWith 0x0203328B d 5) 2 (.tlat 5 6) 0x0203328B 4 = true
    ∧ fetches (nibWith 0x0073600B g 5) 2 (.sput 6 7) 0x0073600B 4 = true ∧ fetches (nibWith 0x0203628B g 5) 2 (.sage 5 6) 0x0203628B 4 = true
    ∧ fetches (nibWith 0x0473628B g 5) 2 (.amoadd 5 6 7) 0x0473628B 4 = true ∧ g.toNat % 16 = 0 ∧ nibSpan g.toNat 16 = some .ss
    ∧ ok (nibWith 0x0203628B g 5) (g.toNat + 8) 8 = true ∧ ok (nibWith 0x0473628B g 5) g.toNat 4 = true := by decide +kernel

/-! ### NibEnginesTakeEventsFramesAndRestart -/

set_option maxRecDepth 100000 in
/-- Custom-0 words by 10 R228. -/
theorem test_nibEvents_hyps :
    let ev (s : State) (q : List Nat) : State := s.setNib 2 { s.nibEng 2 with evq := q }
    let sub (s : State) : State := (s.wr F.NIB_QSUB_EN 0 1).wr F.NIB_QSUB_ENGINE 0 2
    let m (a : Word) : Nat := if a.toNat % 65536 = 0 then 0xFFFF else a.toNat % 65536
    let aw := nibWith 0x0003428B 0 5
    let pop : State := sub { (nibWith 0x0003528B 448 5) with frames := [(7, { Frame.plain frame64 64 0 0 0xFFFF with cells := [7] })] }
    let pop := pop.setQueue 448 { Queue.init with head := [⟨0, 7, CopyEd.none⟩] }
    let rl := nibWith 0x0200528B 0 5
    let pk := (rl.setNib 2 { rl.nibEng 2 with cur := some (.packet 3) }).setFifo 3 { Fifo.init with pkts := [⟨[1, 2, 3, 4], true, false, 0, false, false, [9], false⟩] }
    let pk := (pk.wr F.QUE_FIFO_CFG_FRAMING 3 1).wr F.QUE_FIFO_CFG_CT_THRESHOLD 3 4
    let pu := nibWith 0x0403528B 0x10000000 5
    let pu := pu.setNib 2 { pu.nibEng 2 with dsram := Mem.writes [] 0 [0x40, 0, 0, 0x10, 60, 0, 0, 0] }
    fetches aw 2 (.await 5 6) 0x0003428B 4 = true ∧ (aw.nibEng 2).evq.findIdx? (fun w => (m 0).testBit (evKind w)) = none
    ∧ ((ev aw [2 ^ 28]).nibEng 2).evq.findIdx? (fun w => (m 0).testBit (evKind w)) = some 0
    ∧ fetches (nibWith 0x0203428B 0 5) 2 (.pollev 5 6) 0x0203428B 4 = true
    ∧ fetches (nibWith 0x0473400B 4 5) 2 (.ring 6 7) 0x0473400B 4 = true ∧ up.nibHeld 4 = false ∧ (up.nibEng 4).evq.length < 64
    ∧ fetches (nibWith 0x0673400B 4 5) 2 (.tset 6 7) 0x0673400B 4 = true ∧ (up.wr F.NIB_TIMER_ARMED 9 1).on F.NIB_TIMER_ARMED 9 = true ∧ up.rd F.NIB_STAT_STATE 2 ≠ 4
    ∧ fetches pop 2 (.pop 5 6) 0x0003528B 4 = true ∧ pop.nibConsumer 448 = some 2 ∧ (pop.nibEng 2).cur = none ∧ (pop.headOf 448).isSome = true
    ∧ fetches rl 2 (.rel 5) 0x0200528B 4 = true ∧ (pk.nibEng 2).cur = some (.packet 3) ∧ pk.cutThrough 3 = true
    ∧ fetches pu 2 (.push 5 6) 0x0403528B 4 = true ∧ nibSpan 0x10000000 16 = some .dsram ∧ (sendDesc (pu.nibBytes 2 0x10000000 16)).kind = 0
    ∧ pu.sendOk 2 (sendDesc (pu.nibBytes 2 0x10000000 16)) = true ∧ pu.recovering (pipeOf 65) = false ∧ decide (pu.nibRead 2 0x10000000 16 .good = (pu, true)) = true
    ∧ (nibWith 0x0403528B 0x10000000 5).sendOk 2 (sendDesc ((nibWith 0x0403528B 0x10000000 5).nibBytes 2 0x10000000 16)) = false
    ∧ fetches (sub (nibWith 0x0603528B 448 5)) 2 (.qlen 5 6) 0x0603528B 4 = true ∧ (sub up).nibConsumer 448 = some 2
    ∧ up.rd F.NIB_STAT_STATE 2 = 0 ∧ up.nibHeld 2 = false ∧ (nibAt 0).nibRunning 2 = true
    ∧ (({ up with recov := up.recov.put .fields { up.recov.fields with running := some (.engine 2) } } : State).recov.of .fields).running = some (.engine 2)
    ∧ ((up.wr F.NIB_STAT_STATE 2 3).wr F.NIB_CTL_AUTO_RESTART 2 1).nibMayRestart 2 = true ∧ up.nibMayRestart 2 = false ∧ up.phase ≠ .recovery ∧ up.gated = false
    ∧ pop.nibRelease 2 = some pop ∧ pop.pruned 448 = pop := by decide +kernel

theorem test_nibAwait_hyps :
    let w := (nibWith 0x0003428B 0 5).wr F.NIB_STAT_STATE 2 2
    let w := w.setNib 2 { w.nibEng 2 with waiting := some (.await 5 0), evq := [2 ^ 28] }
    let pk := up.setFifo 3 { Fifo.init with pkts := [⟨[1, 2, 3, 4], true, false, 0, false, false, [9], false⟩] }
    let pk := (pk.wr F.QUE_FIFO_CFG_FRAMING 3 1).wr F.QUE_FIFO_CFG_CT_THRESHOLD 3 4
    w.rd F.NIB_STAT_STATE 2 = 2 ∧ (w.nibEng 2).waiting = some (.await 5 0)
    ∧ (w.nibEng 2).evq.findIdx? (fun w => (if 0 % 65536 = 0 then 0xFFFF else 0 % 65536).testBit (evKind w)) = some 0
    ∧ pk.fifoHead 3 = some ⟨[1, 2, 3, 4], true, false, 0, false, false, [9], false⟩ := by decide +kernel

/-! ### GatewayUnpacksAndSends -/

/-- The gateway program on engine 2, with output 1 of that engine in use: mode 2, no list, 60 bytes, to Pipeline A. -/
def gwUp : State :=
  let s := (up.setNib 2 { NibEng.init with gwOn := true, gwPend := [1], evq := [4 * 2 ^ 28 + 1] }).wr F.NIB_STAT_STATE 2 1
  let s := ((s.ssPut (gwHeader 0) 0x53475731).ssPut (gwHeader 8) 2).ssPut (outDescAt 1) (2 ^ 31 + 2 * 2 ^ 26 + 2 * 2 ^ 16 + 2 ^ 28)
  s.ssPut (outDescAt 1 + 24) (0xFFFF0000 + 60)

set_option maxRecDepth 100000 in
theorem test_gateway_hyps :
    let q : State := { ((gwUp.wr F.NIB_QSUB_EN 0 1).wr F.NIB_QSUB_ENGINE 0 2) with frames := [(7, { Frame.plain canBytes 43 0 0 0xFFFF with cells := [7] })] }
    let q := (q.setQueue 448 { Queue.init with head := [⟨0, 7, CopyEd.none⟩] }).wr F.LSL_PERS_PERSONALITY 3 1
    gwUp.ssWord (gwHeader 0) = 0x53475731 ∧ gwUp.rd F.NIB_STAT_STATE 2 = 1 ∧ (gwUp.nibEng 2).evq.findIdx? (fun w => decide (evKind w = 4)) = some 0
    ∧ (gwUp.nibEng 2).evq.getD 0 0 % 2 ^ 24 = 1 ∧ q.gwRuns 2 = true ∧ q.nibConsumer 448 = some 2 ∧ (q.nibEng 2).cur = none ∧ (q.headOf 448).isSome = true
    ∧ (decide (q.nibRelease 2 = some q) && decide (q.pruned 448 = q)) = true ∧ up.ssWord (gwHeader 0) ≠ 0x53475731 ∧ up.gwRuns 2 = false ∧ up.gwOutput 2 1 0 = false ∧ up.gwOutput 2 1 1 = false
    ∧ q.lanePort 43 = true ∧ gwUp.gwOutput 2 1 0 = true ∧ gwUp.gwOutput 2 1 1 = true ∧ 1 ∈ (gwUp.nibEng 2).gwPend ∧ gwUp.gwGapOver 2 1 = true
    ∧ gwUp.listEnts (bits (gwUp.ssWord (outDescAt 1 + 16)) 0 17) (bits (gwUp.ssWord (outDescAt 1 + 20)) 0 16) = []
    ∧ (gwUp.gwBuild 1 []).length = 60 ∧ bits (gwUp.ssWord (outDescAt 1 + 24)) 16 16 = 0xFFFF ∧ gwUp.recovering (pipeOf 65) = false := by decide +kernel

/-! ### RulersChangeUnderTheJumpGuard -/

theorem test_rulers_hyps : ((up.setRuler 3 { Ruler.init with slewing := true, slewLeft := 5 }).ruler 3).slewing = true
    ∧ up.rulerRuns 0 = true ∧ up.rulerRuns 3 = false ∧ (up.wr F.RUL_CTL_RUN 3 1).rulerRuns 3 = true
    ∧ ((up.setRuler 3 { Ruler.init with guard := .guarded }).ruler 3).guard = .guarded ∧ (up.ruler 3).guard = .normal ∧ up.rd F.RUL_JUMP_LIMIT_LIMIT_NS 3 = 1000
    ∧ (up.wr F.RUL_JUMP_LIMIT_LIMIT_NS 3 0).rd F.RUL_JUMP_LIMIT_LIMIT_NS 3 = 0
    ∧ up.tsRecs.find 5 = none ∧ (({ up with tsRecs := [(5, recordOf up.snap false 9 0 0)] } : State).tsRecs.find 5).isSome = true := by decide

/-! ### TimestampRecordsAndPps -/

theorem test_timestamps_hyps :
    let h : State := { up with tsRecs := [(5, { recordOf up.snap false 9 0 0 with held := true })], txRing := [(0, ⟨9, 0, 5, 0, 0, 0⟩)] }
    (h.tsRecs.find 5).isSome = true ∧ (h.txRing.find 0).isSome = true ∧ (h.wr F.RUL_TXQ_HEAD_HEAD 0 1).rd F.RUL_TXQ_HEAD_HEAD 0 ≠ 0
    ∧ up.rd F.RUL_TXQ_TAIL_TAIL 0 < 1024 ∧ up.tsRecs.find 5 = none ∧ up.mainUp = true
    ∧ (up.wr F.RUL_PPS_OUT_EN 1 1).on F.RUL_PPS_OUT_EN 1 = true ∧ up.rulerRuns (up.rd F.RUL_PPS_OUT_RULER 1) = true ∧ up.on F.RUL_PPS_OUT_EN 1 = false
    ∧ (up.wr F.RUL_PPS_IN_EN 1 1).on F.RUL_PPS_IN_EN 1 = true ∧ up.on F.RUL_PPS_IN_EDGE 1 = false ∧ up.edgeFarEnough 1 = true ∧ up.rd F.RUL_PPS_IN_REC 1 = 0xFFFF
    ∧ up.on F.RUL_PPS_IN_EN 1 = false ∧ up.tsRecs.free 8192 = some 0 := by decide

/-! ### KeyUpdatesAreCheckedWrittenThenCommitted -/

/-- A slot of TYPE 2 for MACsec and GCM, with its uses reserved. -/
def readySlot (typ uses : Nat) : KeySlot := ⟨⟨typ, 0, uses, 18, 1000000⟩, List.replicate 32 7, List.replicate 32 0, 0, 5, 262144, none, 3, 1⟩

theorem test_keyUpdates_hyps : (up.wr F.KEY_STAT_BUSY 0 1).on F.KEY_STAT_BUSY 0 = true ∧ up.on F.KEY_STAT_BUSY 0 = false
    ∧ (⟨1, 17, 1024, 0, some ⟨⟨2, 0, 3, 18, 2 ^ 48⟩, [], 1024, 5⟩⟩ : KeyCmd).typ ≠ 3
    ∧ (up.wr F.KEY_STAT_UNSEALED 0 1).on F.KEY_STAT_UNSEALED 0 = true
    ∧ ((up.setSlot 255 { readySlot 2 15 with writing := some 524288 }).keySlot 255).writing = some 524288
    ∧ up.keyCmd = none ∧ (up.keySlot 255).writing = none ∧ up.on F.KEY_STAT_UNSEALED 0 = false ∧ 524288 < 2 ^ 64
    ∧ gives (.keyUpdate true false) up (fun t => decide (t.rd F.KEY_STAT_LAST_ERR 0 = 0x01)) = true := by decide

/-- A slot of 14 R313's example: the commit advances the counter to 1,024 and blows KUC_HIGH to 1. -/
theorem test_commit_example : gives .keyUpdateCommit { up with keyCmd := some ⟨2, 17, 1024, 0, some ⟨KeyAttr.empty, [], 1024, 5⟩⟩ }
    (fun t => decide (t.rd F.KEY_KUC_COUNTER 0 = 1024 ∧ t.kucHigh = 1)) = true := by decide +kernel

/-! ### KeyCommandsMakeEraseAndAttestAndTamperZeroises -/

theorem test_keyCommands_hyps : up.pd.inh = true ∧ up.phase = .running ∧ State.reset.pd.inh = false ∧ up.trngFail = false := by decide

set_option maxRecDepth 100000 in
/-- 14 R315: GENERATE into an empty slot with valid attributes gives ORIGIN 1; DERIVE counts one use of its source. -/
theorem test_generate_derive :
    let s := ((((up.wr F.KEY_STAT_UNSEALED 0 1).wr F.KEY_ATTR_TYPE 0 2).wr F.KEY_ATTR_USES 0 3).wr F.KEY_ATTR_CKPT_LOG2 0 18).wr F.KEY_ATTR_LIMIT 0 9
    gives (.keyGenerate 4 true) s (fun t => decide ((t.keySlot 4).attr.origin = 1 ∧ (t.keySlot 4).state = 1)) = true
    ∧ gives (.keyGenerate 4 true) (s.setSlot 4 (readySlot 2 3)) (fun t => decide (t.rd F.KEY_STAT_LAST_ERR 0 = 0x09)) = true := by decide +kernel

/-! ### LookasideCommandsSealChecksAndCipherFaults -/

set_option maxRecDepth 100000 in
theorem test_cipher_hyps :
    (up.wr F.CIP_LA_STAT_BUSY 0 1).on F.CIP_LA_STAT_BUSY 0 = true ∧ up.on F.CIP_LA_STAT_BUSY 0 = false
    ∧ (⟨0, [1, 2], List.replicate 16 9⟩ : LaRun).tag.length ≤ 48 ∧ ({ up with laRun := some ⟨0x21, [], []⟩ } : State).laRun.isSome = true
    ∧ (let w : SealWait := ⟨3, 511, Frame.plain canBytes 64 0 0 0xFFFF, [], 7⟩
      let f : Flight := { Flight.good 43 canBytes 0xFFFF with sealEnt := some 511, sealRes := none, sealNo := 7 }
      let a : State := { up with sealWait := [w] }
      let b : State := { up with sealHeld := [f] }
      let c : State := { up with flight := [f] }
      a.sealFirst 3 = some 7 ∧ a.flight.any (fun g => g.integ && g.verdict.isSome) = false ∧ a.sealHeld = [] ∧ a.sealPend = [(3, 7)] ∧ up.sealPend = []
        ∧ a.sealPassFail 3 511 = false
        ∧ a.sealWait.find? (fun x => decide (x.no = 7)) = some w ∧ b.sealFirst 3 = some 7 ∧ b.sealHeld.find? (fun g => decide (g.sealNo = 7)) = some f
        ∧ f.integ = false ∧ b.recovering (pipeOf f.port) = false
        ∧ c.sealFirst 3 = some 7 ∧ c.flightWith (fun g => g.sealPending && decide (g.sealNo = 7)) = some (0, f)
        ∧ c.sealHeld = [] ∧ c.sealWait = [] ∧ up.sealFirst 3 = none ∧ up.laRun = none
        ∧ gives (.sealCheckDone 3) a (fun t => decide (t.rd F.CIP_SEAL_CNT_COUNT 4 = 1 ∧ t.rd F.CIP_SEAL_FAIL_RUN 511 = 1)) = true) := by decide +kernel

/-- 15 R336: GCM with an empty slot ends with 0x20 on an unsealed complex, with 0x24 on a sealed one. -/
theorem test_la_errors :
    gives (.laGcmEnc 9) up (fun t => decide (t.laRun = some ⟨0x24, [], []⟩ ∧ t.rd F.CIP_LA_STAT_BUSY 0 = 1)) = true
    ∧ gives (.laGcmEnc 9) (up.wr F.KEY_STAT_UNSEALED 0 1) (fun t => decide (t.laRun = some ⟨0x20, [], []⟩)) = true := by decide

/-! ### DescriptorRingsMoveFramesAndStop -/

/-- Host ring `r` runs with 64 descriptors of which it owns `k`; every vector is masked. -/
def ringUp (r k : Nat) : State :=
  (((({ up with pcieUp := true } : State).wr F.DMA_PCIE_STAT_BME 0 1).wr F.DMA_RING_CFG_EN r 1).wr F.DMA_RING_CFG_SIZE_LOG2 r 6).wr F.DMA_RING_TAIL_TAIL r k

set_option maxRecDepth 100000 in
theorem test_rings_hyps :
    let f : Frame := { Frame.plain (List.replicate 64 0) 9 0 0 0xFFFF with cells := [7] }
    let e : QEnt := ⟨0, 7, CopyEd.none⟩
    let x := (({ ringUp 3 5 with frames := [(7, f)] } : State).setQueue (cpuQueue 3) { Queue.init with head := [e] })
    x.msix.table = [] ∧ (x.ring 3).held = none ∧ x.ringRuns 3 = true ∧ x.ringOwned 3 ≠ 0 ∧ (x.pruned (cpuQueue 3)).headOf (cpuQueue 3) = some (e, f)
    ∧ ((x.setRing 3 { x.ring 3 with held := some ⟨e, 2, 0⟩ }).ring 3).held = some ⟨e, 2, 0⟩ ∧ (2 : Nat) < x.ringOwned 3
    ∧ (({ ringUp 34 1 with hostMem := [(10, 3)] } : State)).txTurn = some 34 ∧ (({ ringUp 34 1 with hostMem := [(10, 3)] } : State)).txFrameLen 34 = some 1
    ∧ (up.ring 3).held = none ∧ up.ringRuns 3 = false ∧ ((x.setRing 3 { x.ring 3 with held := some ⟨e, 5, 0⟩ }).ringOwned 3) ≤ 5
    ∧ (x.setRing 3 { x.ring 3 with held := some ⟨e, 2, 0⟩ } |>.wr F.DMA_RING_STAT_HOLDING 3 1).on F.DMA_RING_STAT_HOLDING 3 = true
    ∧ (0x3F + 64 - (x.ringTail 3)) % 64 ≤ (x.ringHead 3 + 64 - 1 + 64 - x.ringTail 3) % 64
    ∧ ¬ ((0x4 + 64 - (x.ringTail 3)) % 64 ≤ (x.ringHead 3 + 64 - 1 + 64 - x.ringTail 3) % 64)
    ∧ (up.wr F.DMA_RING_IRQ_COAL_US 5 9).on F.DMA_RING_IRQ_COAL_US 5 = true ∧ up.on F.DMA_RING_IRQ_COAL_US 5 = false
    ∧ 0 < ((up.setRing 5 { up.ring 5 with uncounted := 2 }).ring 5).uncounted ∧ up.pcieUp = false ∧ x.pcieUp = true
    ∧ up.txTurn ≠ some 34 ∧ up.internal 3 = false ∧ (up.wr F.DMA_RING_CFG_TARGET 3 1).internal 3 = true := by decide +kernel

/-! ### LigatureAccessesArePostedSentAndFail -/

/-- The bridge runs with aperture 5 enabled, and device 0x123 behind it. -/
def ligUp : State := ((up.wr F.BRG_CTL_EN 0 1).wr F.BRG_APT_EN 5 1).wr F.BRG_APT_DEV 5 0x123

/-- A write in slot 7 to device 0x123, and a read. -/
def ligOut (w : Bool) : LigReq := ⟨7, 0, 0, 0x123, w, 5, 4, 9, 0x100, 0, false, none, 0, false, false⟩

/-- The frame of a response to it. -/
def ligReply (op : Byte) : List Byte :=
  List.replicate 12 0 ++ [0x88, 0xB5, 1, op, 0, 0, 0x01, 0x23, 0, 7, 1, 0, 0, 0, 0, 0, 0, 0, 0, 4, 0, 0, 0, 0x1F] ++ List.replicate 24 0

set_option maxRecDepth 100000 in
theorem test_ligatureInitiator_hyps :
    let x (op : Byte) (w : Bool) : State := { ligUp with brgRx := [(64, true, ligReply op)], lig := { ligUp.lig with out := [ligOut w] } }
    ligUp.mainUp = true ∧ ligUp.on F.BRG_CTL_EN 0 = true ∧ ligUp.on F.BRG_APT_EN 5 = true ∧ ligUp.dozing = false ∧ ligUp.entering = false ∧ ligUp.lig.wait = []
    ∧ ligUp.poisoned 5 = false ∧ (ligUp.wr F.BRG_APT_POISON 5 1).poisoned 5 = true ∧ ligUp.ligFree = some 0 ∧ ligUp.rd F.BRG_APT_DEV 5 ≠ ligUp.myDev
    ∧ ({ ligUp with lig := { ligUp.lig with out := (List.range 64).map (fun k => { ligOut true with slot := k }) } } : State).ligFree = none
    ∧ up.coreHalted .s1 = true ∧ up.coreHalted .pcie = false ∧ ligUp.on F.BRG_RESP_CFG_RESP_EN 0 = false ∧ (ligUp.wr F.BRG_CTL_MY_DEV 0 0x123).myDev = 0x123
    ∧ (∀ e ∈ [(0x82, true), (0x81, false)], let s := x e.1 e.2
        (tisOf (s.tisBody (ligReply e.1))).op = e.1.toNat ∧ tisGood (s.tisBody (ligReply e.1)) [0x81, 0x82, 0x83] = true ∧ tisFor (tisOf (s.tisBody (ligReply e.1))) (ligOut e.2) = true
        ∧ s.mainUp = true ∧ s.dozing = false ∧ (tisOf (s.tisBody (ligReply e.1))).status = 0)
    ∧ (0 : Nat) < ligUp.rd F.BRG_RETRY_RETRY_MAX 0 ∧ ligUp.rd F.BRG_RETRY_RETRY_MAX 0 ≤ 16 := by decide +kernel

/-! ### LigatureResponderAnswersAndWatches -/

/-- The body of a request frame: OP, SRC_DEV 2, DST_DEV 1, TAG 0, SEQ, no flags, INIT 0, ADDR. -/
def ligAsk (op seq : Byte) (addr : Nat) : List Byte :=
  List.replicate 12 0 ++ [0x88, 0xB5, 1, op, 0, 2, 0, 1, 0, 0, 0, seq, 0, 0, 0, 0] ++ beBytes 4 addr ++ beBytes 4 0 ++ List.replicate 24 0

set_option maxRecDepth 100000 in
theorem test_ligatureResponder_hyps :
    let s := ((ligUp.wr F.BRG_CTL_MY_DEV 0 1).wr F.BRG_RESP_CFG_RESP_EN 0 1).wr F.BRG_RESP_PORTS_PORTS 0 (2 ^ 40 - 1)
    let rx (bs : List Byte) : State := { s with brgRx := [(9, true, bs)] }
    s.mainUp = true ∧ s.dozing = false ∧ (tisOf (s.tisBody (ligAsk 1 0 0xC00004))).op < 0x80 ∧ 0x80 ≤ (tisOf (s.tisBody (ligReply 0x81))).op
    ∧ gives .tisulerRequestRx (rx (ligAsk 1 0 0xC00004)) (fun t => decide (t.rd F.BRG_CNT_COUNT 16 = 1 ∧ t.lig.resp = 1)) = true
    ∧ gives .tisulerRequestRx (rx (ligAsk 1 0xFF 4)) (fun t => decide (t.rd F.BRG_CNT_COUNT 3 = 1 ∧ t.lig.resp = 0)) = true
    ∧ gives .tisulerResponseRx (rx (ligReply 0x82)) (fun t => decide (t.rd F.BRG_CNT_COUNT 17 = 1)) = true
    ∧ gives .tisulerResponseRx { rx (ligReply 0x81) with lig := { s.lig with late := [(7, ligOut false)] } } (fun t => decide (t.rd F.BRG_LATE_DATA_DATA 0 = 0x1F)) = true := by
  decide +kernel

/-! ### PowerTransitionsStartAbortCommitAndEnd -/

/-- A device with a transition in progress. -/
def inTrans (target : Nat) (waits committed : Bool) : State := { up with pwr := { up.pwr with trans := some ⟨target, waits, committed⟩ } }

set_option maxRecDepth 100000 in
theorem test_transitions_hyps : (up.wr F.PWR_MODE_TARGET 0 1).mayStart 1 = true ∧ ((up.wr F.PWR_STAT_STATE 0 1).wr F.PWR_MODE_TARGET 0 0).mayStart 0 = true
    ∧ (up.wr F.PWR_MODE_TARGET 0 2).mayStart 2 = true ∧ (up.wr F.PWR_MODE_TARGET 0 3).mayStart 3 = true
    ∧ (inTrans 2 false false).entryQuiet = true ∧ (inTrans 3 false false).entryQuiet = true ∧ (inTrans 2 true false).pwr.trans = some ⟨2, true, false⟩
    ∧ ({ up with pwr := { up.pwr with exiting := true } } : State).pwr.avs = none
    ∧ gives (.sleepEntry true) (up.wr F.PWR_MODE_TARGET 0 3) (fun t => decide (t.rd F.PWR_STAT_LAST_RESULT 0 = 4)) = true
    ∧ up.pwr.trans = none ∧ up.entryQuiet = true ∧ up.pwr.exiting = false ∧ (inTrans 2 false true).pwr.trans = some ⟨2, false, true⟩ ∧ up.pcieUp = false
    ∧ gives .enterTrim (up.wr F.PWR_MODE_TARGET 0 1) (fun t => decide (t.rd F.AVS_CNT_COUNT 0 = 1)) = true := by decide +kernel

/-! ### VoltageChangesAndSupplyMonitors -/

theorem test_voltage_hyps :
    let x := inTrans 1 false false
    let a : AvsChange := ⟨720, 760, 780, 820, false, 1, false⟩
    ({ x with pwr := { x.pwr with avs := some a } } : State).pwr.avs = some a ∧ x.on F.AVS_LOOP_CTL_MODE 0 = false ∧ x.pwr.trans = some ⟨1, false, decide ((1 : Nat) = 2)⟩
    ∧ (inTrans 2 false true).pwr.trans = some ⟨2, false, decide ((2 : Nat) = 2)⟩ ∧ (up.wr F.AVS_LOOP_CTL_MODE 0 1).on F.AVS_LOOP_CTL_MODE 0 = true
    ∧ (up.wr F.PWR_STAT_STATE 0 1).rd F.PWR_STAT_STATE 0 = 1 ∧ up.on F.AVS_LOOP_CTL_LOOP_EN 0 = true ∧ up.pwr.trans = none ∧ up.pwr.avs = none
    ∧ up.pd.phase = .run ∧ up.pd.inh = true ∧ (100 : Nat) < up.warnLevel 3 ∧ up.warned.testBit 3 = false ∧ ¬ up.resetLevel 3 ≤ 100 ∧ up.resetLevel 3 ≤ 12000 := by decide

/-- 18 R378: one step of the loop from the TRIM setpoints 720 and 760, with slack above 15 percent, lowers both rails by 5 mV. -/
theorem test_loop_step : gives (.avsLoopTick 20) { up.wr F.PWR_STAT_STATE 0 1 with pwr := { up.pwr with cur := (720, 760) } }
    (fun t => match t.pwr.avs with | some a => decide (a.core = 715 ∧ a.sram = 755) | none => false) = true := by decide

/-! ### NetworksSleepWakeAndLimitTheirNodes -/

/-- Network 2 runs with lane 8, of personality CAN, as its member. -/
def netUp : State :=
  ({ ((((up.wr F.NSL_CTL_EN 0 1).wr F.NSL_NET_EN 2 1).wr F.NSL_NET_MEMBERS 2 (2 ^ 48)).wr F.LSL_PERS_PERSONALITY 8 1) with nslOn := 4 } : State)

set_option maxRecDepth 100000 in
theorem test_networks_hyps :
    netUp.netOn 2 = true ∧ netUp.localNeed 2 = false ∧ netUp.rd F.NSL_NET_STATE 2 = 0 ∧ netUp.dozing = false ∧ (netUp.wr F.NSL_NET_HOLDING 2 1).localNeed 2 = true
    ∧ netUp.bit F.NSL_NET_MEMBERS 2 48 = true ∧ netUp.netHas 2 48 = true ∧ netUp.pers 8 ≠ 2
    ∧ (netUp.wr F.NSL_NET_STATE 2 1).rd F.NSL_NET_STATE 2 = 1 ∧ netUp.nodeSlot 2 21 = some 0 ∧ netUp.nslNodes = [] ∧ (∀ j, j < 256 → netUp.on F.NSL_NODE_CAPPED j = false)
    ∧ (up.wr F.PWR_STAT_STATE 0 2).wakeable = true ∧ (up.wr F.PWR_STAT_STATE 0 2).stopped = false ∧ ((up.wr F.PWR_STAT_STATE 0 2).wr F.AOC_WAKE_EN_WAKE_IN 0 4).wakeInEnabled 2 = true ∧ up.wakeInEnabled 2 = false
    ∧ (netUp.wr F.NSL_NET_WAKE_IN 2 4).bit F.NSL_NET_WAKE_IN 2 2 = true ∧ (up.wr F.PWR_STAT_STATE 0 2).portLive 3 = false ∧ up.portLive 3 = true
    ∧ gives (.tWaitExpiry 2) (netUp.wr F.NSL_NET_STATE 2 1) (fun t => decide (t.rd F.NSL_NET_STATE 2 = 2 ∧ t.rd F.NSL_STAT_ALL_ASLEEP_EVT 0 = 1)) = true
    ∧ gives (.networkWake 2 1 8) (netUp.wr F.NSL_NET_STATE 2 2) (fun t => decide (t.rd F.NSL_NET_STATE 2 = 0 ∧ t.rd F.NSL_CNT_COUNT 6 = 1)) = true
    ∧ gives (.maxAwakeExceeded 5) ((netUp.wr F.NSL_NODE_VALID 5 1).wr F.NSL_NODE_NEED 5 1) (fun t => decide (t.rd F.NSL_CNT_COUNT 3 = 1)) = true := by decide +kernel

/-! ### LoadCommandsSwitchTheirChannels -/

theorem test_loadCommands_hyps : up.linkUp = true ∧ up.phase ≠ .recovery ∧ State.reset.linkUp = false ∧ (3 : BitVec 24).toNat.testBit 1 = true
    ∧ ((up.wr F.LC_CH_STAT_STATE 1 2).lcCommanded 1) = true := by decide

/-! ### LoadFaultsPauseOrLatch -/

theorem test_loadFaults_hyps :
    let s := up.wr F.LC_CH_STAT_STATE 2 2
    s.lcState 2 = lcOn ∧ ¬ (up.lcState 2 = lcInrush ∨ up.lcState 2 = lcOn) ∧ s.rd F.LC_CH_BOARD_SC_DA 2 * 10 < 60000 ∧ s.envLimit 2 < 60000 * 10
      ∧ s.rd F.LC_CH_LIM_ELIM_MJ 2 * 10 ^ 10 ≤ 60000 * 10 ^ 8 + 1 * 1 * s.rd F.LC_CH_LIM_WIRE_MOHM 2 := by decide

/-! ### LoadTimersAndDiagnosis -/

theorem test_loadTimers_hyps :
    (up.wr F.LC_CH_STAT_STATE 2 1).lcState 2 = lcInrush ∧ (up.wr F.LC_CH_STAT_STATE 2 3).lcState 2 = lcPause
    ∧ up.rd F.LC_CH_STAT_LAST_FAULT 2 ≠ 4 ∧ (up.wr F.LC_CH_STAT_STATE 2 2).lcState 2 = lcOn ∧ up.lcState 2 = lcOff
    ∧ up.asleep = false ∧ 5999 < up.dipMv 1 ∧ up.dipMv 1 ≤ 30000
    ∧ up.bankInrush 0 = false ∧ up.lowestWaiting 0 = none
    ∧ (up.wr F.LC_CH_STAT_STATE 2 4).lowestWaiting 0 = some 2 ∧ (up.wr F.LC_CH_STAT_STATE 2 1).bankInrush 0 = true := by decide

/-! ### LoadCommandsLeaveTheRestUnchanged -/

theorem test_loadFrame_hyps : (0 : BitVec 24).toNat.testBit 3 = false
    ∧ goes (.lcOn 0) up = true := by decide

/-! ### BlotterLogsClassesAndReacts -/

theorem test_blotter_hyps : up.mainUp = true ∧ bltAssigned 0x011 = true ∧ (⟨0x011, 0x7000, 5⟩ : Report).wellFormed = true ∧ up.blt.queue = []
    ∧ bltAssigned 0x1E3 = true ∧ up.bltClass ⟨0x1E3, 0xD000, 5⟩ = 1 ∧ up.ligParity.blt.queue = [] ∧ up.bltEscalates 0x011 = false ∧ up.bltClass ⟨0x011, 0x7000, 5⟩ = 1 ∧ up.bltClass ⟨0x001, 0xF000, 5⟩ = 2
    ∧ (let e := (up.wr F.BLT_SRC_CFG_ESC_N 0x040 1).wr F.BLT_SRC_CFG_ESC_ACTION 0x040 1
      e.bltEscalates 0x040 = true ∧ e.bltClass ⟨0x040, 0, 5⟩ = 0 ∧ e.on F.BLT_SRC_CFG_ESC_ACTION 0x040 = true ∧ bltAssigned 0x040 = true)
    ∧ bltAssigned 0x150 = false ∧ State.reset.mainUp = false
    ∧ faultRecovery 0x0F1 = some (.forwarding, .pipeline 1) ∧ Recovery.pipeline 1 ∈ ((up.requestFault .forwarding (.pipeline 1)).recov.of .forwarding).coming
    ∧ up.rd F.GLB_RST_COUNT_COUNT 0 < 3 ∧ up.bltClass ⟨0x019, 0xF000, 5⟩ = 3 := by decide

/-! ### BlotterWindowsPairAndClears -/

theorem test_blotterWindows_hyps : (up.wr F.BLT_FLT_CTL_HEARTBEAT 0 1).beating = true
    ∧ ({ up with ferrule := { up.ferrule with absent := true } } : State).ferrule.absent = true ∧ up.pd.inh = true
    ∧ up.beating = false ∧ up.linkUp = true ∧ State.reset.linkUp = false ∧ up.ferrule.absent = false ∧ (0 : BitVec 8) ≠ 0xA5 := by decide

/-! ### UpdateStagesVerifiesAndCommits -/

theorem test_update_hyps : up.updBarred = false ∧ (up.on F.SCR_STAT_PERSISTING 0 || up.on F.KEY_STAT_BUSY 0) = false
    ∧ up.on F.UPD_STAT_CONFIRM_PENDING 0 = false ∧ (up.wr F.UPD_STAT_READY 0 1).on F.UPD_STAT_READY 0 = true
    ∧ (up.wr F.UPD_STAT_READY 0 1).updBarred = false ∧ up.on F.UPD_STAT_READY 0 = false
    ∧ ({ up with phase := .recovery } : State).updBarred = true ∧ up.updStaged = false ∧ (up.wr F.UPD_STAGED_VER_VALUE 0 5).updStaged = true
    ∧ ((up.wr F.SCR_STAT_PERSISTING 0 1).on F.SCR_STAT_PERSISTING 0 || up.on F.KEY_STAT_BUSY 0) = true
    ∧ (up.wr F.UPD_STAT_CONFIRM_PENDING 0 1).on F.UPD_STAT_CONFIRM_PENDING 0 = true
    ∧ manSheets (up.bank up.inactiveNo).man ≤ (0 : BitVec 12).toNat ∧ up.manErr (up.manWin.read 0 (min (up.rd F.UPD_LEN_LEN 0) 262144)) (some 0) ≠ 0 := by decide

/-! ### UpdateConfirmsAndAuthorises -/

theorem test_confirm_hyps : up.updBarred = false ∧ ({ up with phase := .recovery } : State).updBarred = true
    ∧ ({ up with upd := { up.upd with confirmAt := some 0 } } : State).upd.confirmAt.isSome = true ∧ up.upd.confirmAt = none ∧ up.trngFail = false := by decide

/-! ### MaintenanceUartAnswersFrames -/

set_option maxRecDepth 100000 in
theorem test_uart_hyps :
    let r : State := ({ up with phase := .recovery } : State).wr F.UPD_STAT_AUTHED 0 1
    up.phase ≠ .recovery ∧ r.phase = .recovery ∧ r.trngFail = false ∧ ({ up with phase := .recovery } : State).on F.UPD_STAT_AUTHED 0 = false ∧ r.on F.UPD_STAT_AUTHED 0 = true
    ∧ (0 : BitVec 16).toNat ≠ uartCrc 0x01 [] ∧ (BitVec.ofNat 16 (uartCrc 0x01 [])).toNat = uartCrc 0x01 []
    ∧ (BitVec.ofNat 16 (uartCrc 0x02 [])).toNat = uartCrc 0x02 []
    ∧ (let p : List Byte := List.replicate 100 0; (BitVec.ofNat 16 (uartCrc 0x03 p)).toNat = uartCrc 0x03 p ∧ p.length = 100)
    ∧ (let p : List Byte := beBytes 4 0 ++ beBytes 4 100 ++ [1]; (BitVec.ofNat 16 (uartCrc 0x04 p)).toNat = uartCrc 0x04 p ∧ 8 ≤ p.length
        ∧ p.length ≤ 4104 ∧ fieldAt p 4 4 ≤ 262144 ∧ fieldAt p 0 4 + (p.length - 8) < fieldAt p 4 4)
    ∧ (BitVec.ofNat 16 (uartCrc 0x06 [0])).toNat = uartCrc 0x06 [0]
    ∧ (let p : List Byte := beBytes 4 921600; (BitVec.ofNat 16 (uartCrc 0x07 p)).toNat = uartCrc 0x07 p ∧ p.length = 4 ∧ fieldAt p 0 4 = 921600) := by
  decide +kernel

/-! ### CounterClearsClearTheirCountersAlone -/

theorem test_clear_boundary : gives (.canCntClr 1) (((up.wr F.LSL_CAN_CNT_COUNT 19 7).wr F.LSL_CAN_CNT_COUNT 20 7).wr F.LSL_CAN_CNT_COUNT 40 7)
    (fun t => decide (t.rd F.LSL_CAN_CNT_COUNT 19 = 7 ∧ t.rd F.LSL_CAN_CNT_COUNT 20 = 0 ∧ t.rd F.LSL_CAN_CNT_COUNT 40 = 7)) = true := by decide

/-! ### Well-formedness: for each check a command that fails it alone -/

theorem test_wf_addresses :
    (Instr.registerWrite .s0 2 0).wellFormed = false ∧ (Instr.registerWrite .s0 (2 ^ 25) 0).wellFormed = false ∧ (Instr.registerWrite .s0 4 0).wellFormed = true
    ∧ (Instr.wideRegLowRead .s0 1).wellFormed = false ∧ (Instr.wideRegLowRead .s0 (2 ^ 25)).wellFormed = false
    ∧ (Instr.rcRegisterRead .s0 3).wellFormed = false ∧ (Instr.rcRegisterRead .s0 (2 ^ 25)).wellFormed = false
    ∧ (Instr.accessOutsideRegion .s0 6).wellFormed = false ∧ (Instr.accessOutsideRegion .s0 (2 ^ 32)).wellFormed = false
    ∧ (Instr.bar2Write .pcie (2 ^ 26) 0).wellFormed = false ∧ (Instr.bar2Read .pcie (2 ^ 26)).wellFormed = false := by decide

theorem test_wf_messages :
    (Instr.ferruleTransferRx .main (.good true) 0 (.regWrite 2 0)).wellFormed = false ∧ (Instr.ferruleTransferRx .main (.good true) 0 (.regWrite (2 ^ 25) 0)).wellFormed = false
    ∧ (Instr.ferruleTransferRx .main (.good true) 0 (.report ⟨0, 2 ^ 16, 0⟩)).wellFormed = false ∧ (Instr.ferruleTransferRx .main (.good true) 0 .idle).wellFormed = true
    ∧ (Instr.blotterReport ⟨1024, 0, 0⟩ false).wellFormed = false ∧ (Instr.blotterReport ⟨0, 2 ^ 16, 0⟩ false).wellFormed = false
    ∧ (Instr.blotterReport ⟨0, 0, 2 ^ 32⟩ false).wellFormed = false ∧ (Instr.blotterReport ⟨1023, 0xFFFF, 0⟩ false).wellFormed = true := by decide

set_option maxRecDepth 100000 in
theorem test_wf_lengths :
    (Instr.pfcFrameRx 0 0 [0]).wellFormed = false ∧ (Instr.canFrameRx 0 (.frame 0) 0 0 0 0 (List.replicate 2049 0) []).wellFormed = false
    ∧ (Instr.brdDone 0 257 0).wellFormed = false ∧ (Instr.mvbSlaveFrameRx 0 (List.replicate 33 0) true).wellFormed = false
    ∧ (Instr.dmaRxFrame 0 [(5, 0), (5, 0)]).wellFormed = false ∧ (Instr.dmaTxFrame 0 [(5, 0), (4, 0)]).wellFormed = false
    ∧ (Instr.dmaRxFrame 0 [(4, 0), (5, 0)]).wellFormed = true := by decide +kernel

theorem test_wf_tables :
    (Instr.tableEntryWrite (.word 32 0 0 0)).wellFormed = false ∧ (Instr.tableEntryWrite (.word 0 (2 ^ 20) 0 0)).wellFormed = false
    ∧ (Instr.tableEntryWrite (.word 0 0 32 0)).wellFormed = false ∧ (Instr.tableEntryWrite (.routeInsert false 0 33 0)).wellFormed = false
    ∧ (Instr.tableEntryWrite (.routeInsert false (2 ^ 32) 32 0)).wellFormed = false ∧ (Instr.tableEntryWrite (.routeDelete true 0 129)).wellFormed = false
    ∧ (Instr.tableEntryWrite (.routeDelete false (2 ^ 32) 0)).wellFormed = false ∧ (Instr.tableEntryWrite (.sigInsert [0])).wellFormed = false
    ∧ (Instr.tableEntryWrite (.sigDelete [])).wellFormed = false ∧ (Instr.tableScrub 32 0 true).wellFormed = false ∧ (Instr.tableScrub 0 (2 ^ 20) true).wellFormed = false
    ∧ (Instr.refillDone 0 (.corrected 32)).wellFormed = false ∧ (Instr.refillDone 0 (.header 32)).wellFormed = false
    ∧ (Instr.refillDone 0 (.seq (2 ^ 32))).wellFormed = false ∧ (Instr.refillDone 0 (.bytes 32)).wellFormed = false
    ∧ (Instr.queFlushGo 1024).wellFormed = false ∧ (Instr.linkParityError (.queue 768 0 true 0)).wellFormed = false
    ∧ (Instr.linkParityError (.freeList 131072)).wellFormed = false := by decide

theorem test_wf_supply : (Instr.vldDip 0 (2 ^ 16)).wellFormed = false ∧ (Instr.vldDipEnd 0 (2 ^ 16)).wellFormed = false
    ∧ (Instr.vldDip 0 65535).wellFormed = true := by decide

/-! ### A payload of UART_SHEET with its CRC -/

theorem crc16_lt (init : Nat) (bs : List Byte) (h : init < 2 ^ 16) : crc16 init bs < 2 ^ 16 := by
  have bit (c : Nat) : crc16Bit c < 2 ^ 16 := by unfold crc16Bit; split <;> exact Nat.mod_lt _ (by decide)
  induction bs generalizing init with
  | nil => exact h
  | cons b t ih => exact ih _ (bit _)

theorem test_uartSheet_hyps : ∃ (p : List Byte) (crc : BitVec 16), crc.toNat = uartCrc 0x05 p ∧ p.length = 4100 :=
  ⟨List.replicate 4100 0, BitVec.ofNat 16 (uartCrc 0x05 (List.replicate 4100 0)),
   by rw [BitVec.toNat_ofNat]; exact Nat.mod_eq_of_lt (crc16_lt _ _ (by decide)), List.length_replicate⟩

/-! ### The standards' own examples: FIPS 180-4, FIPS 197, RFC 4231, RFC 4493, RFC 3394 and the GCM specification -/

set_option maxRecDepth 100000 in
theorem test_sha384_abc : sha384 [0x61, 0x62, 0x63]
    = beBytes 48 0xCB00753F45A35E8BB5A03D699AC65007272C32AB0EDED1631A8B605A43FF5BED8086072BA1E7CC2358BAECA134C825A7 := by decide +kernel

set_option maxRecDepth 100000 in
theorem test_hmac384 : hmac384 (List.replicate 20 0x0B) (ascii "Hi There")
    = beBytes 48 0xAFD03944D84895626B0825F4AB46907F15F9DADBE4101EC682AA034C7CEBC59CFAEA9EA9076EDE7F4AF152E8B2FA9CB6 := by decide +kernel

set_option maxRecDepth 100000 in
theorem test_aes : aesNat (beBytes 16 0x000102030405060708090A0B0C0D0E0F) 0x00112233445566778899AABBCCDDEEFF = 0x69C4E0D86A7B0430D8CDB78070B4C55A := by
  decide +kernel

set_option maxRecDepth 100000 in
theorem test_cmac : cmac (beBytes 16 0x2B7E151628AED2A6ABF7158809CF4F3C) (beBytes 16 0x6BC1BEE22E409F96E93D7E117393172A)
    = beBytes 16 0x070A16B46B4D4144F79BDD9DD04A287C := by decide +kernel

set_option maxRecDepth 100000 in
theorem test_gcm : gcmEnc (beBytes 16 0) (beBytes 12 0) [] (beBytes 16 0)
    = (beBytes 16 0x0388DACE60B6A392F328C2B971B2FE78, beBytes 16 0xAB6E47D42CEC13BDF53A67B21257BDDF) := by decide +kernel

set_option maxRecDepth 100000 in
theorem test_unwrap : keyUnwrap (beBytes 16 0x000102030405060708090A0B0C0D0E0F) (beBytes 24 0x1FA68B0A8112B447AEF34BD8FB5A7B829D3E862371D2CFE5)
    = some (beBytes 16 0x00112233445566778899AABBCCDDEEFF) := by decide +kernel

end Sys2Proof.Tests
end

section
/-! SUPPORT. Every operation of the model leaves the identity registers and the queue as they were, but for software writes and resets. -/
namespace Sys2Proof.Machine

-- One proof after another: many at a time take more memory than the check allows.
set_option Elab.async false

/-! ### What every command leaves as it was -/

/-- What the field with number `k` below 5, one of GLB_DEV_ID and GLB_DEV_REV, holds by chapter 03. -/
def identVal : Nat → Nat
  | 0 => 0x56476412
  | 2 => 0
  | _ => 1

/-- What the five fields of GLB_DEV_ID and GLB_DEV_REV read in a register file. -/
def identOf (r : RegFile) : List Nat := (List.range 5).map fun k => (r.find (k, 0)).getD (identVal k)

/-- `t` has the identity registers and the queue of `s`. -/
@[simp] abbrev Keeps (s t : State) : Prop := identOf t.regs = identOf s.regs ∧ t.pending = s.pending

/-- `o` is a next state that has the identity registers and the queue of `s`. -/
def Ends (s : State) (o : Out) : Prop := ∃ t, o = .next t ∧ Keeps s t

theorem identOf_congr {r r' : RegFile} (h : ∀ k, k < 5 → r'.find (k, 0) = r.find (k, 0)) : identOf r' = identOf r :=
  List.map_congr_left fun k hk => by rw [h k (List.mem_range.mp hk)]

theorem RegFile.find_set_ne (r : RegFile) (f : Fld) (i v : Nat) (k : RegKey) (h : k ≠ (f.id, i)) : (r.set f i v).find k = r.find k := by
  by_cases hv : v % 2 ^ f.width = f.rst i
  · simp [RegFile.set, hv, find_drop_ne _ _ _ h]
  · simp [RegFile.set, hv, find_put_ne _ _ _ _ h, find_drop_ne _ _ _ h]

@[simp] theorem identOf_wr (s : State) (f : Fld) (i v : Nat) (h : 5 ≤ f.id) : identOf (s.wr f i v).regs = identOf s.regs :=
  identOf_congr fun k hk => RegFile.find_set_ne _ _ _ _ _ (by rw [Ne, Prod.mk.injEq]; omega)

@[simp] theorem identOf_ite (c : Prop) [Decidable c] (a b : RegFile) : identOf (if c then a else b) = if c then identOf a else identOf b :=
  apply_ite ..

@[simp] theorem State.regs_ite (c : Prop) [Decidable c] (a b : State) : (if c then a else b).regs = if c then a.regs else b.regs :=
  apply_ite ..

@[simp] theorem State.pending_ite (c : Prop) [Decidable c] (a b : State) : (if c then a else b).pending = if c then a.pending else b.pending :=
  apply_ite ..

theorem Keeps.refl (s : State) : Keeps s s := ⟨rfl, rfl⟩

theorem Keeps.trans {s t u : State} (h : Keeps s t) (h' : Keeps t u) : Keeps s u := ⟨h'.1.trans h.1, h'.2.trans h.2⟩

@[simp] theorem foldl_keeps {α : Type} (g : State → α → State) (h : ∀ s x, Keeps s (g s x)) (l : List α) (s : State) :
    Keeps s (l.foldl g s) := by
  induction l generalizing s with
  | nil => exact Keeps.refl s
  | cons x l ih => exact (h s x).trans (ih _)

@[simp] theorem ends_next (s t : State) : Ends s (.next t) ↔ Keeps s t := by simp [Ends]

@[simp] theorem ends_ite (s : State) (c : Prop) [Decidable c] (a b : Out) : Ends s (if c then a else b) ↔ if c then Ends s a else Ends s b := by
  split <;> rfl

@[simp] theorem leaves_keeps (s : State) (o : Out) (h : Ends s o) : Keeps s (leaves o s) := by
  obtain ⟨u, rfl, hu⟩ := h
  exact hu

@[simp] theorem State.clearFld_keeps (s : State) (f : Fld) (h : 5 ≤ f.id) : Keeps s (s.clearFld f) := by
  refine ⟨identOf_congr fun k hk => ?_, rfl⟩
  have := RegFile.find_filter s.regs (fun k => decide (k.1 ≠ f.id)) (k, 0)
  rw [if_pos (by simp; omega)] at this
  exact this

@[simp] theorem State.clearWhere_keeps (s : State) (f : Fld) (p : Nat → Bool) (h : 5 ≤ f.id) : Keeps s (s.clearWhere f p) := by
  refine ⟨identOf_congr fun k hk => ?_, rfl⟩
  have := RegFile.find_filter s.regs (fun k => !(decide (k.1 = f.id) && p k.2)) (k, 0)
  rw [if_pos (by simp; omega)] at this
  exact this

theorem Keeps.of_fst {α : Type} {s t : State} {p : State × α} {x : α} (h : Keeps s p.1) (hp : p = (t, x)) : Keeps s t := by
  rw [hp] at h; exact h

theorem foldl_keeps_mem {α : Type} {g : State → α → State} (l : List α) (h : ∀ s, ∀ x ∈ l, Keeps s (g s x)) (s : State) :
    Keeps s (l.foldl g s) := by
  induction l generalizing s with
  | nil => exact Keeps.refl s
  | cons x l ih => exact (h s x (by simp)).trans (ih (fun t y hy => h t y (by simp [hy])) _)

theorem foldl_fst_keeps {α β : Type} (g : State × β → α → State × β) (h : ∀ p x, Keeps p.1 (g p x).1) (l : List α) (p : State × β) :
    Keeps p.1 (l.foldl g p).1 := by
  induction l generalizing p with
  | nil => exact Keeps.refl p.1
  | cons x l ih => exact (h p x).trans (ih _)

/-- No soft-settable field is an identity field. -/
theorem softField_id (off : Nat) (f : Fld) (i : Nat) (h : softField off = some (f, i)) : 5 ≤ f.id := by
  obtain ⟨r, hr, hf⟩ := List.exists_of_findSome?_eq_some h
  split at hf
  · obtain ⟨rfl, -⟩ := Prod.mk.inj (Option.some.inj hf)
    exact (by decide : ∀ r ∈ softFields, 5 ≤ r.2.2.2.id) r hr
  · cases hf

section
variable (s : State)

/-! ### The named operations over the state that every command uses: reading and writing a register field, counting, setting an event, reporting a fault, answering an initiator, drawing a free value, asking for a recovery. -/

@[simp] theorem State.evt_keeps (f : Fld) (i : Nat) (h : 5 ≤ f.id) : Keeps s (s.evt f i) := by simp [State.evt, h]
@[simp] theorem State.wrb_keeps (f : Fld) (i : Nat) (b : Bool) (h : 5 ≤ f.id) : Keeps s (s.wrb f i b) := by simp [State.wrb, h]
@[simp] theorem State.bump_keeps (f : Fld) (i : Nat) (h : 5 ≤ f.id) : Keeps s (s.bump f i) := by simp [State.bump, h]
@[simp] theorem State.bumpBy_keeps (f : Fld) (i n : Nat) (h : 5 ≤ f.id) : Keeps s (s.bumpBy f i n) := by simp [State.bumpBy, h]
@[simp] theorem State.bumpSat_keeps (f : Fld) (i : Nat) (h : 5 ≤ f.id) : Keeps s (s.bumpSat f i) := by simp [State.bumpSat, h]
@[simp] theorem State.setBit_keeps (f : Fld) (i b : Nat) (h : 5 ≤ f.id) : Keeps s (s.setBit f i b) := by simp [State.setBit, h]
@[simp] theorem State.clrBit_keeps (f : Fld) (i b : Nat) (h : 5 ≤ f.id) : Keeps s (s.clrBit f i b) := by simp [State.clrBit, h]
@[simp] theorem State.putBit_keeps (f : Fld) (i b : Nat) (v : Bool) (h : 5 ≤ f.id) : Keeps s (s.putBit f i b v) := by simp [State.putBit, h]
@[simp] theorem State.report_keeps (src elem info : Nat) : Keeps s (s.report src elem info) := by simp [State.report]
@[simp] theorem State.reportX_keeps (src elem : Nat) : Keeps s (s.reportX src elem) := by simp [State.reportX]
@[simp] theorem State.reply_keeps (ini : Initiator) (k : AnsKind) (data : Nat) : Keeps s (s.reply ini k data) := by simp [State.reply]
@[simp] theorem State.drawn_keeps : Keeps s s.drawn := by simp [State.drawn]
@[simp] theorem State.request_keeps (d : Domain) (r : Recovery) : Keeps s (s.request d r) := by simp [State.request]
@[simp] theorem State.requestFault_keeps (d : Domain) (r : Recovery) : Keeps s (s.requestFault d r) := by simp [State.requestFault]
@[simp] theorem State.requestArrived_keeps (d : Domain) (r : Recovery) : Keeps s (s.requestArrived d r) := by simp [State.requestArrived]
@[simp] theorem State.endRecovery_keeps (d : Domain) (r : Recovery) : Keeps s (s.endRecovery d r) := by simp [State.endRecovery]

/-! ### The event queues of the Nib engines (spec 10 R233), and who posts to them. -/

@[simp] theorem State.setNib_keeps (n : Nat) (e : NibEng) : Keeps s (s.setNib n e) := by simp [State.setNib]
@[simp] theorem State.nibCnt_keeps (n k : Nat) : Keeps s (s.nibCnt n k) := by simp [State.nibCnt]
@[simp] theorem State.nibPush_keeps (n w : Nat) : Keeps s (s.nibPush n w) := by simp [State.nibPush]
@[simp] theorem State.nibCoalesce_keeps (n w : Nat) (same : Nat → Bool) : Keeps s (s.nibCoalesce n w same) := by simp [State.nibCoalesce]
@[simp] theorem State.nibPost_keeps (n w : Nat) (same : Nat → Bool) : Keeps s (s.nibPost n w same) := by simp [State.nibPost]
@[simp] theorem State.queueEvent_keeps (q : Nat) : Keeps s (s.queueEvent q) := by unfold State.queueEvent; split <;> simp
@[simp] theorem State.mvbEvent_keeps (l k : Nat) : Keeps s (s.mvbEvent l k) := by simp [State.mvbEvent]

@[simp] theorem State.nibTake_keeps (n mask : Nat) : ∀ t, s.nibTake n mask = some t → Keeps s t.1 := by
  simp only [State.nibTake]
  repeat' split
  all_goals simp

@[simp] theorem State.tsHold_keeps (q i : Nat) : Keeps s (s.tsHold q i) := by
  unfold State.tsHold
  repeat' split
  all_goals simp

/-! ### Rulers and network time (spec 12): the time bases, the jump guard, time-stamp records, the egress report ring and the PPS pins. -/

@[simp] theorem State.setRuler_keeps (t : Nat) (r : Ruler) : Keeps s (s.setRuler t r) := by simp [State.setRuler]
@[simp] theorem State.slewEnded_keeps (t : Nat) : Keeps s (s.slewEnded t) := by simp [State.slewEnded]
@[simp] theorem State.rulerTick_keeps (t : Nat) : Keeps s (s.rulerTick t) := by simp [State.rulerTick]
@[simp] theorem State.rulersTick_keeps : Keeps s s.rulersTick := by simp [State.rulersTick]
@[simp] theorem State.seedT0_keeps (rtc : Nat) : Keeps s (s.seedT0 rtc) := by simp [State.seedT0]

@[simp] theorem State.refuseChange_keeps (t : Nat) (c : Change) (newAdj : Int) (code : Nat) : Keeps s (s.refuseChange t c newAdj code) := by
  simp [State.refuseChange]

@[simp] theorem State.ppsRetarget_keeps (t : Nat) : Keeps s (s.ppsRetarget t) := by simp [State.ppsRetarget]
@[simp] theorem State.ppsGate_keeps : Keeps s s.ppsGate := by simp [State.ppsGate]
@[simp] theorem State.applyStep_keeps (t x : Nat) : Keeps s (s.applyStep t x) := by simp [State.applyStep]
@[simp] theorem execRulStep_keeps (t : Fin 8) : Ends s (execRulStep t s) := by simp [execRulStep]
@[simp] theorem execRulSet_keeps (t : Fin 8) : Ends s (execRulSet t s) := by simp [execRulSet]
@[simp] theorem execRulSlew_keeps (t : Fin 8) : Ends s (execRulSlew t s) := by simp [execRulSlew]
@[simp] theorem execRulAccept_keeps (t : Fin 8) : Ends s (execRulAccept t s) := by simp [execRulAccept]
@[simp] theorem execSlewDone_keeps (t : Fin 8) : Ends s (execSlewDone t s) := by simp [execSlewDone]
@[simp] theorem execRulAdjWrite_keeps (t : Fin 8) (adj : BitVec 40) : Ends s (execRulAdjWrite t adj s) := by simp [execRulAdjWrite]
@[simp] theorem execRulRunWrite_keeps (t : Fin 8) (run : Bool) : Ends s (execRulRunWrite t run s) := by simp [execRulRunWrite]
@[simp] theorem State.freeTs_keeps (i : Nat) : Keeps s (s.freeTs i) := by simp [State.freeTs]
@[simp] theorem execTsRecordHoldExpiry_keeps (idx : Fin 8192) : Ends s (execTsRecordHoldExpiry idx s) := by unfold execTsRecordHoldExpiry; split <;> simp

@[simp] theorem State.freeReports_keeps (i n : Nat) : Keeps s (s.freeReports i n) := by
  induction n generalizing s i with
  | zero => simp [State.freeReports]
  | succ n ih => simp only [State.freeReports]; split <;> simp [ih]

@[simp] theorem execTxqTailWrite_keeps (tail : Fin 1024) : Ends s (execTxqTailWrite tail s) := by simp [execTxqTailWrite]

@[simp] theorem State.captureAt_keeps (sn : Snap) (tx : Bool) (port mask : Nat) (comp : Int) : Keeps s (s.captureAt sn tx port mask comp).1 := by
  unfold State.captureAt; split <;> simp

@[simp] theorem State.capture_keeps (tx : Bool) (port mask : Nat) (comp : Int) : Keeps s (s.capture tx port mask comp).1 := by simp [State.capture]
@[simp] theorem State.egressReport_keeps (r : TxReport) : Keeps s (s.egressReport r) := by simp [State.egressReport]
@[simp] theorem execPpsOutPulse_keeps (k : Fin 2) : Ends s (execPpsOutPulse k s) := by simp [execPpsOutPulse]
@[simp] theorem execPpsOutPulseEnd_keeps (k : Fin 2) : Ends s (execPpsOutPulseEnd k s) := by simp [execPpsOutPulseEnd]
@[simp] theorem execPpsInEdge_keeps (k : Fin 2) (falling : Bool) : Ends s (execPpsInEdge k falling s) := by simp [execPpsInEdge]
@[simp] theorem State.copyMismatch_keeps (t : Nat) : Keeps s (s.copyMismatch t) := by simp [State.copyMismatch]
@[simp] theorem State.recordEcc_keeps (i : Nat) (corrected : Bool) : Keeps s (s.recordEcc i corrected) := by unfold State.recordEcc; split <;> simp
@[simp] theorem execRulerCopyMismatch_keeps (what : RulFault) : Ends s (execRulerCopyMismatch what s) := by unfold execRulerCopyMismatch; split <;> simp
@[simp] theorem execRulCntClr_keeps : Ends s (execRulCntClr s) := by simp [execRulCntClr]

/-! ### Inkwell, the Reservoir, the 768 queues and the software FIFOs (spec 09). -/

@[simp] theorem State.setQueue_keeps (q : Nat) (x : Queue) : Keeps s (s.setQueue q x) := by simp [State.setQueue]
@[simp] theorem State.setFifo_keeps (f : Nat) (x : Fifo) : Keeps s (s.setFifo f x) := by simp [State.setFifo]
@[simp] theorem State.qcnt_keeps (q k : Nat) : Keeps s (s.qcnt q k) := by simp [State.qcnt]
@[simp] theorem State.unpool_keeps (first : Nat) : Keeps s (s.unpool first) := by unfold State.unpool; split <;> simp
@[simp] theorem State.asmFill_keeps (q : Nat) : Keeps s (s.asmFill q) := by simp [State.asmFill]
@[simp] theorem State.headIn_keeps (q : Nat) (m : MidFrame) (cells : List Nat) : Keeps s (s.headIn q m cells) := by unfold State.headIn; split <;> simp

@[simp] theorem State.assemble_keeps (q n : Nat) : Keeps s (s.assemble q n) := by
  induction n generalizing s with
  | zero => simp [State.assemble]
  | succ n ih => simp only [State.assemble]; split <;> simp [ih]

@[simp] theorem State.deepMove_keeps (q n : Nat) : Keeps s (s.deepMove q n) := by
  induction n generalizing s with
  | zero => simp [State.deepMove]
  | succ n ih => simp only [State.deepMove]; split <;> simp [ih]

@[simp] theorem State.deepService_keeps (q : Nat) : Keeps s (s.deepService q) := by simp [State.deepService]

@[simp] theorem State.join_keeps (first : Nat) (d : Dest) : Keeps s (s.join first d) := by
  unfold State.join
  repeat' split
  all_goals simp

@[simp] theorem State.offerKeep_keeps (f : Frame) (ecn : Nat) (ds : List Dest) (keep : Nat) : Keeps s (s.offerKeep f ecn ds keep).1 := by
  simp only [State.offerKeep]
  repeat' split
  all_goals
    simp
    exact foldl_keeps _ (fun t d => by split <;> simp) ds s

@[simp] theorem State.tsDone_keeps (i : Nat) : Keeps s (s.tsDone i) := by unfold State.tsDone; split <;> simp
@[simp] theorem State.finishRef_keeps (first : Nat) (pooled : Bool) : Keeps s (s.finishRef first pooled) := by unfold State.finishRef; split <;> simp
@[simp] theorem State.finish_keeps (e : QEnt) (pooled : Bool) : Keeps s (s.finish e pooled) := by simp [State.finish]
@[simp] theorem State.finishIn_keeps (q : Nat) (e : QEnt) (pooled : Bool) : Keeps s (s.finishIn q e pooled) := by unfold State.finishIn; split <;> simp
@[simp] theorem State.take_keeps (q : Nat) : Keeps s (s.take q) := by simp [State.take]
@[simp] theorem State.putBack_keeps (q : Nat) (e : QEnt) : Keeps s (s.putBack q e) := by simp [State.putBack]
@[simp] theorem State.dropHead_keeps (q k : Nat) : Keeps s (s.dropHead q k) := by unfold State.dropHead; split <;> simp
@[simp] theorem State.forgetHead_keeps (q : Nat) : Keeps s (s.forgetHead q) := by simp [State.forgetHead]
@[simp] theorem State.flushQueue_keeps (q k : Nat) : Keeps s (s.flushQueue q k) := by simp [State.flushQueue]
@[simp] theorem State.dropStored_keeps (q n : Nat) (y : Queue) : Keeps s (s.dropStored q n y) := by simp [State.dropStored]

@[simp] theorem State.pruneStored_keeps (q : Nat) : Keeps s (s.pruneStored q).1 := by
  simp only [State.pruneStored]
  repeat' split
  all_goals simp

@[simp] theorem State.prune_keeps (q n : Nat) : Keeps s (s.prune q n) := by
  induction n generalizing s with
  | zero => simp [State.prune]
  | succ n ih => simp only [State.prune]; split <;> simp [ih]

@[simp] theorem State.pruned_keeps (q : Nat) : Keeps s (s.pruned q) := by simp [State.pruned]
@[simp] theorem State.fifoWatch_keeps (f : Nat) (t : State) : Keeps t (s.fifoWatch f t) := by simp [State.fifoWatch]
@[simp] theorem State.rsvFull_keeps (counted : Bool) : Keeps s (s.rsvFull counted) := by simp [State.rsvFull]
@[simp] theorem State.spill_keeps (q : Nat) : Keeps s (s.spill q) := by unfold State.spill; split <;> simp
@[simp] theorem State.rsvLog_keeps (uncorr : Bool) (unit blk q : Nat) : Keeps s (s.rsvLog uncorr unit blk q) := by simp [State.rsvLog]
@[simp] theorem State.chainDamage_keeps (q : Nat) : Keeps s (s.chainDamage q) := by simp [State.chainDamage]

@[simp] theorem State.blockRead_keeps (q : Nat) (r : RefillResult) : Keeps s (s.blockRead q r) := by
  simp only [State.blockRead]
  repeat' split
  all_goals simp

@[simp] theorem State.lingerEnd_keeps (p : Nat) : Keeps s (s.lingerEnd p) := by simp [State.lingerEnd]
@[simp] theorem State.queuesDown_keeps (p : Nat) (noLinger : Bool) : Keeps s (s.queuesDown p noLinger) := by simp [State.queuesDown]
@[simp] theorem State.queuesUp_keeps (p : Nat) : Keeps s (s.queuesUp p) := by simp [State.queuesUp]
@[simp] theorem execQueFlushGo_keeps (q : Nat) : Ends s (execQueFlushGo q s) := by simp [execQueFlushGo]
@[simp] theorem execQueFlushDone_keeps : Ends s (execQueFlushDone s) := by simp [execQueFlushDone]
@[simp] theorem execLingerEnd_keeps (p : Fin 64) : Ends s (execLingerEnd p s) := by simp [execLingerEnd]

@[simp] theorem execQueCfgWrite_keeps (q : Fin 768) (minCells : BitVec 18) (alpha : BitVec 4) (mark drop : BitVec 26) :
    Ends s (execQueCfgWrite q minCells alpha mark drop s) := by
  simp [execQueCfgWrite]

@[simp] theorem State.fifoFill_keeps (f : Nat) : Keeps s (s.fifoFill f) := by simp [State.fifoFill]

@[simp] theorem State.fifoPrune_keeps (f n : Nat) : Keeps s (s.fifoPrune f n) := by
  induction n generalizing s with
  | zero => simp [State.fifoPrune]
  | succ n ih => simp only [State.fifoPrune]; split <;> simp [ih]

@[simp] theorem State.fifoService_keeps (f : Nat) : Keeps s (s.fifoService f) := by simp [State.fifoService]
@[simp] theorem State.fifoSpill_keeps (f : Nat) : Keeps s (s.fifoSpill f) := by unfold State.fifoSpill; split <;> simp

@[simp] theorem State.fifoBlockRead_keeps (f : Nat) (r : RefillResult) : Keeps s (s.fifoBlockRead f r) := by
  simp only [State.fifoBlockRead]
  repeat' split
  all_goals simp

@[simp] theorem execSpillBlockWrite_keeps (q : Fin 768) : Ends s (execSpillBlockWrite q s) := by simp [execSpillBlockWrite]
@[simp] theorem execRefillRequest_keeps (q : Fin 768) : Ends s (execRefillRequest q s) := by simp [execRefillRequest]
@[simp] theorem execRefillDone_keeps (q : Fin 768) (r : RefillResult) : Ends s (execRefillDone q r s) := by simp [execRefillDone]
@[simp] theorem execReservoirControllerFault_keeps : Ends s (execReservoirControllerFault s) := by simp [execReservoirControllerFault]
@[simp] theorem State.lastProd_keeps (f v : Nat) : Keeps s (s.lastProd f v) := by simp [State.lastProd]
@[simp] theorem State.flushCheck_keeps (f : Nat) : Keeps s (s.flushCheck f) := by simp [State.flushCheck]

@[simp] theorem State.freeNewest_keeps (f : Nat) : Keeps s (s.freeNewest f) := by
  simp only [State.freeNewest]
  repeat' split
  all_goals simp

@[simp] theorem State.endPkt_keeps (f : Nat) (p : Pkt) : Keeps s (s.endPkt f p) := by simp [State.endPkt]
@[simp] theorem State.fifoOpen_keeps (f : Nat) : Keeps s (s.fifoOpen f) := by simp [State.fifoOpen]
@[simp] theorem State.autoAbort_keeps (f : Nat) (p : Pkt) (code : Nat) : Keeps s (s.autoAbort f p code) := by simp [State.autoAbort]

@[simp] theorem State.fifoData_keeps (f : Nat) (w : Word) : Keeps s (s.fifoData f w) := by
  simp only [State.fifoData]
  repeat' split
  all_goals simp

@[simp] theorem State.fifoCommit_keeps (f flags trim : Nat) : Keeps s (s.fifoCommit f flags trim) := by
  simp only [State.fifoCommit]
  repeat' split
  all_goals simp

@[simp] theorem State.fifoAbort_keeps (f : Nat) : Keeps s (s.fifoAbort f) := by
  simp only [State.fifoAbort]
  repeat' split
  all_goals simp

@[simp] theorem State.fifoConsume_keeps (f : Nat) : Keeps s (s.fifoConsume f) := by unfold State.fifoConsume; split <;> simp
@[simp] theorem State.fifoPop_keeps (f : Nat) : Keeps s (s.fifoPop f) := by unfold State.fifoPop; split <;> simp
@[simp] theorem State.fifoFlush_keeps (f : Nat) : Keeps s (s.fifoFlush f) := by simp [State.fifoFlush]
@[simp] theorem execFifoOpen_keeps (f : Fin 256) : Ends s (execFifoOpen f s) := by simp [execFifoOpen]
@[simp] theorem execFifoData_keeps (f : Fin 256) (w : Word) : Ends s (execFifoData f w s) := by simp [execFifoData]

@[simp] theorem execFifoCommit_keeps (f : Fin 256) (flags : BitVec 6) (trim : BitVec 2) : Ends s (execFifoCommit f flags trim s) := by
  simp [execFifoCommit]

@[simp] theorem execFifoAbort_keeps (f : Fin 256) : Ends s (execFifoAbort f s) := by simp [execFifoAbort]

@[simp] theorem execFifoConsumeRead_keeps (ini : Initiator) (f : Fin 256) (word : Fin 4096) : Ends s (execFifoConsumeRead ini f word s) := by
  simp [execFifoConsumeRead]

@[simp] theorem execFifoPop_keeps (f : Fin 256) : Ends s (execFifoPop f s) := by simp [execFifoPop]
@[simp] theorem execFifoFlush_keeps (f : Fin 256) : Ends s (execFifoFlush f s) := by simp [execFifoFlush]
@[simp] theorem State.inkLog_keeps (uncorr link entry : Bool) (idx : Nat) : Keeps s (s.inkLog uncorr link entry idx) := by simp [State.inkLog]
@[simp] theorem State.markDamaged_keeps (c : Nat) : Keeps s (s.markDamaged c) := by unfold State.markDamaged; split <;> simp
@[simp] theorem execInkwellScrub_keeps (c : Fin 131072) (r : CellRead) : Ends s (execInkwellScrub c r s) := by unfold execInkwellScrub; split <;> simp
@[simp] theorem State.auditRequest_keeps : Keeps s s.auditRequest := by simp [State.auditRequest]

@[simp] theorem State.loseEnts_keeps (l : List QEnt) (pooled : Bool) : Keeps s (s.loseEnts l pooled) := by
  refine foldl_keeps _ (fun t e => ?_) l s
  split <;> simp

@[simp] theorem State.breakQueue_keeps (q i : Nat) : Keeps s (s.breakQueue q i) := by simp [State.breakQueue]
@[simp] theorem State.breakFifo_keeps (f i : Nat) : Keeps s (s.breakFifo f i) := by simp [State.breakFifo]
@[simp] theorem State.cutFreeList_keeps (c : Nat) : Keeps s (s.cutFreeList c) := by simp [State.cutFreeList]
@[simp] theorem execLinkParityError_keeps (w : LinkDamage) : Ends s (execLinkParityError w s) := by unfold execLinkParityError; split <;> simp
@[simp] theorem execCellAuditStart_keeps : Ends s (execCellAuditStart s) := by simp [execCellAuditStart]
@[simp] theorem execCellAuditDone_keeps : Ends s (execCellAuditDone s) := by simp [execCellAuditDone]
@[simp] theorem execQueCntClr_keeps : Ends s (execQueCntClr s) := by simp [execQueCntClr]

/-! ### What the personalities of a lane share (spec 05, 06): link and standby, and which ports sleep with their network (19 R388). -/

@[simp] theorem State.send_keeps (p : Nat) (bs : List Byte) : Keeps s (s.send p bs) := by simp [State.send]
@[simp] theorem State.setCan_keeps (n : Nat) (x : CanLane) : Keeps s (s.setCan n x) := by simp [State.setCan]
@[simp] theorem State.canShow_keeps (n : Nat) : Keeps s (s.canShow n) := by simp [State.canShow]
@[simp] theorem State.canTo_keeps (n : Nat) (st : CanSt) : Keeps s (s.canTo n st) := by simp [State.canTo]
@[simp] theorem State.setT1s_keeps (n : Nat) (x : T1sLane) : Keeps s (s.setT1s n x) := by simp [State.setT1s]
@[simp] theorem State.setMvb_keeps (n : Nat) (x : MvbLane) : Keeps s (s.setMvb n x) := by simp [State.setMvb]
@[simp] theorem State.laneTook_keeps (n : Nat) : Keeps s (s.laneTook n) := by simp [State.laneTook]
@[simp] theorem State.linkTo_keeps (f : Fld) (n : Nat) (up : Bool) (h : 5 ≤ f.id) : Keeps s (s.linkTo f n up) := by simp [State.linkTo, h]
@[simp] theorem State.laneLink_keeps (n : Nat) : Keeps s (s.laneLink n) := by simp [State.laneLink]
@[simp] theorem State.setArmed_keeps (n : Nat) (b : Bool) : Keeps s (s.setArmed n b) := by simp [State.setArmed]

@[simp] theorem State.t1sReturn_keeps (n : Nat) : Keeps s (s.t1sReturn n) := by
  simp only [State.t1sReturn]
  repeat' split
  all_goals simp

@[simp] theorem State.laneStandby_keeps (n : Nat) : Keeps s (s.laneStandby n) := by simp [State.laneStandby]
@[simp] theorem State.laneResume_keeps (n : Nat) : Keeps s (s.laneResume n) := by simp [State.laneResume]

/-! ### The wake record of the AOC and what a wake does to the power state (spec 19 R393, R394; 18 R373 to R375). -/

@[simp] theorem State.transEnd_keeps (result target : Nat) : Keeps s (s.transEnd result target) := by simp [State.transEnd]
@[simp] theorem State.transAbort_keeps (result target : Nat) : Keeps s (s.transAbort result target) := by simp [State.transAbort]
@[simp] theorem State.entryAborted_keeps (target : Nat) : Keeps s (s.entryAborted target) := by simp [State.entryAborted]
@[simp] theorem State.wakeFrom_keeps (code idx : Nat) : Keeps s (s.wakeFrom code idx) := by simp [State.wakeFrom]

@[simp] theorem State.wakePower_keeps (code idx : Nat) : Keeps s (s.wakePower code idx) := by
  unfold State.wakePower
  repeat' split
  all_goals simp

@[simp] theorem State.aocWake_keeps (code idx : Nat) : Keeps s (s.aocWake code idx) := by simp [State.aocWake]

/-! ### The DRBG of the key store (spec 14 R314): CTR_DRBG with AES-256 and the derivation function of NIST SP 800-90A, seeded by the TRNG. -/

@[simp] theorem State.seedDrbg_keeps : Keeps s s.seedDrbg := by simp [State.seedDrbg]

@[simp] theorem State.random_keeps (n : Nat) : Keeps s (s.random n).1 := by
  simp only [State.random]
  repeat' split
  all_goals simp

/-! ### Key store and attestation (spec 14): derivation, slots, their records in flash, the key-update counter, key update messages, generation, attestation and tamper. -/

@[simp] theorem State.signNonce_keeps : Keeps s (s.signNonce).1 := by simp [State.signNonce]
@[simp] theorem State.setSlot_keeps (n : Nat) (x : KeySlot) : Keeps s (s.setSlot n x) := by simp [State.setSlot]
@[simp] theorem State.keyProgram_keeps (a : Nat) (b : List Byte) : Keeps s (s.keyProgram a b) := by simp [State.keyProgram]
@[simp] theorem State.putRec_keeps (n : Nat) (r : KeyRec) : Keeps s (s.putRec n r) := by simp [State.putRec]
@[simp] theorem State.putRes_keeps (n counter gen reserved : Nat) : Keeps s (s.putRes n counter gen reserved) := by simp [State.putRes]
@[simp] theorem State.wipeCopies_keeps (n : Nat) : Keeps s (s.wipeCopies n) := by simp [State.wipeCopies]

@[simp] theorem State.commitSlot_keeps (n : Nat) (r : KeyRec) (reserved : Nat) : Keeps s (s.commitSlot n r reserved) := by
  unfold State.commitSlot; split <;> simp

@[simp] theorem execReservationWriteDone_keeps (n : Fin 256) : Ends s (execReservationWriteDone n s) := by
  simp only [execReservationWriteDone]
  repeat' split
  all_goals simp

@[simp] theorem State.exhausted_keeps (n : Nat) : Keeps s (s.exhausted n) := by simp [State.exhausted]
@[simp] theorem State.loadCopy_keeps (u n : Nat) : Keeps s (s.loadCopy u n) := by unfold State.loadCopy; split <;> simp

@[simp] theorem State.keyUse_keeps (n : Nat) : Keeps s (s.keyUse n).1 := by
  simp only [State.keyUse]
  repeat' split
  all_goals simp

@[simp] theorem State.unitUse_keeps (u n : Nat) : Keeps s (s.unitUse u n).1 := by simp [State.unitUse]
@[simp] theorem State.keyExhaust_keeps (n : Nat) : Keeps s (s.keyExhaust n) := by simp [State.keyExhaust]
@[simp] theorem State.ctrAdvance_keeps (m : Nat) : Keeps s (s.ctrAdvance m) := by simp [State.ctrAdvance]
@[simp] theorem State.ctrResolve_keeps : Keeps s s.ctrResolve := by simp [State.ctrResolve]
@[simp] theorem State.loadSlot_keeps (n : Nat) : Keeps s (s.loadSlot n) := by unfold State.loadSlot; split <;> simp
@[simp] theorem State.loadSlots_keeps : Keeps s s.loadSlots := by simp [State.loadSlots]
@[simp] theorem State.unseal_keeps : Keeps s s.unseal := by simp [State.unseal]
@[simp] theorem State.keyRefuse_keeps (code : Nat) : Keeps s (s.keyRefuse code) := by simp [State.keyRefuse]
@[simp] theorem State.keyDone_keeps (cnt : Nat) : Keeps s (s.keyDone cnt) := by simp [State.keyDone]
@[simp] theorem State.updEnd_keeps : Keeps s s.updEnd := by simp [State.updEnd]
@[simp] theorem execKeyUpdate_keeps (written tampActive : Bool) : Ends s (execKeyUpdate written tampActive s) := by simp [execKeyUpdate]

@[simp] theorem execKeyUpdateCommit_keeps : Ends s (execKeyUpdateCommit s) := by
  simp only [execKeyUpdateCommit]
  repeat' split
  all_goals simp

@[simp] theorem State.newKey_keeps (n : Nat) (a : KeyAttr) (key : List Byte) : Keeps s (s.newKey n a key) := by simp [State.newKey]
@[simp] theorem State.drawKey_keeps (typ : Nat) : Keeps s (s.drawKey typ).1 := by simp [State.drawKey]
@[simp] theorem execKeyGenerate_keeps (n : Fin 256) (written : Bool) : Ends s (execKeyGenerate n written s) := by simp [execKeyGenerate]

@[simp] theorem execKeyDerive_keeps (src n : Fin 256) (written : Bool) : Ends s (execKeyDerive src n written s) := by
  have used := s.keyUse_keeps src
  simp only [execKeyDerive]
  repeat' split
  all_goals simp_all

@[simp] theorem execKeyErase_keeps (n : Fin 256) (written : Bool) : Ends s (execKeyErase n written s) := by simp [execKeyErase]
@[simp] theorem execKeyAttest_keeps (n : Fin 256) : Ends s (execKeyAttest n s) := by simp [execKeyAttest]
@[simp] theorem execKeyRemask_keeps (n : Fin 256) : Ends s (execKeyRemask n s) := by simp [execKeyRemask]
@[simp] theorem execKeyRamParity_keeps (n : Fin 256) : Ends s (execKeyRamParity n s) := by simp [execKeyRamParity]
@[simp] theorem execTrngHealthFail_keeps : Ends s (execTrngHealthFail s) := by simp [execTrngHealthFail]
@[simp] theorem execKeyRngRead_keeps (ini : Initiator) : Ends s (execKeyRngRead ini s) := by simp [execKeyRngRead]
@[simp] theorem execKeyCntClr_keeps : Ends s (execKeyCntClr s) := by simp [execKeyCntClr]

/-! ### Forwarding tables and learning (spec 08): the FDB, the VLAN, route, next-hop and NAT tables, the policers, the update buffer and its epochs, learning, aging and notifications. -/

@[simp] theorem State.setFdb_keeps (i : Nat) (t : Tbl FdbEntry) : Keeps s (s.setFdb i t) := by simp [State.setFdb]
@[simp] theorem State.fdbInsert_keeps (i : Nat) (e : FdbEntry) : ∀ t, s.fdbInsert i e = some t → Keeps s t := by simp [State.fdbInsert]
@[simp] theorem State.fdbErase_keeps (i n : Nat) : Keeps s (s.fdbErase i n) := by simp [State.fdbErase]
@[simp] theorem State.policerFull_keeps (i n : Nat) : Keeps s (s.policerFull i n) := by simp [State.policerFull]
@[simp] theorem State.writeMem_keeps (scribe : Bool) (a : Nat) (bs : List Byte) : Keeps s (s.writeMem scribe a bs) := by simp [State.writeMem]

@[simp] theorem State.notify_keeps (code i port old vid mac : Nat) (sync : Bool) : Keeps s (s.notify code i port old vid mac sync) := by
  simp [State.notify]

@[simp] theorem State.learnRequest_keeps (i : Nat) (r : LearnReq) : Keeps s (s.learnRequest i r) := by simp [State.learnRequest]

@[simp] theorem State.learn_keeps (i : Nat) (r : LearnReq) : Keeps s (s.learn i r) := by
  simp only [State.learn]
  split
  · split
    · simp
    · split
      · simpa using s.fdbInsert_keeps _ _ _ ‹_›
      · simp
  · repeat' split
    all_goals simp

@[simp] theorem execLearnInsert_keeps (p : Pipe) : Ends s (execLearnInsert p s) := by
  simp only [execLearnInsert]
  repeat' split
  all_goals simp

@[simp] theorem execAgeSweepVisit_keeps (p : Pipe) (slot : Fin 65600) : Ends s (execAgeSweepVisit p slot s) := by
  unfold execAgeSweepVisit; split <;> simp

@[simp] theorem execLnCfgEnable_keeps (en target : Bool) (sizeLog2 : BitVec 5) (events : BitVec 4) :
    Ends s (execLnCfgEnable en target sizeLog2 events s) := by
  simp [execLnCfgEnable]

@[simp] theorem State.bumpNow_keeps : Keeps s s.bumpNow := by
  refine Keeps.trans ?_ ((foldl_keeps _ (fun t w => ?_) _ _).trans (State.wrb_keeps _ _ _ _ (by decide)))
  · simp
  · split <;> simp

@[simp] theorem State.drainService_keeps : Keeps s s.drainService := by simp [State.drainService]

@[simp] theorem State.bufferOne_keeps (op : TblOp) : Keeps s (s.bufferOne op) := by
  unfold State.bufferOne
  repeat' split
  all_goals simp

@[simp] theorem execTableEntryWrite_keeps (op : TblOp) : Ends s (execTableEntryWrite op s) := by simp [execTableEntryWrite]
@[simp] theorem execEpochBump_keeps : Ends s (execEpochBump s) := by simp [execEpochBump]
@[simp] theorem State.insertFail_keeps (i vid mac : Nat) : Keeps s (s.insertFail i vid mac) := by simp [State.insertFail]

/-- A failed insertion of a signal entry keeps, whatever it notes of the key: stated for opaque numbers, as a key's own bits are costly
to reduce. -/
theorem State.sigInsertFail_keeps (key kclass lane : Nat) :
    Keeps s (((((s.bump F.TBL_CNT_COUNT 8).evt F.TBL_STAT_INSERT_FAIL_EVT 0).wr F.SIG_OP_FAIL_KEY 0 key).wr
      F.SIG_OP_FAIL_KCLASS 0 kclass).wr F.SIG_OP_FAIL_LANE 0 lane) := by
  simp

@[simp] theorem State.applyOp_keeps (op : TblOp) : Keeps s (s.applyOp op) := by
  cases op with
  | fdbInsert =>
    simp only [State.applyOp]
    split
    · exact s.fdbInsert_keeps _ _ _ ‹_›
    · simp
  | sigInsert =>
    simp only [State.applyOp]
    split
    · simp
    · exact s.sigInsertFail_keeps _ _ _
  | _ =>
    simp only [State.applyOp]
    repeat' split
    all_goals simp

@[simp] theorem execCommittedWriteApply_keeps : Ends s (execCommittedWriteApply s) := by unfold execCommittedWriteApply; split <;> simp
@[simp] theorem execDrainTargetWrite_keeps (target : Word) : Ends s (execDrainTargetWrite target s) := by simp [execDrainTargetWrite]
@[simp] theorem execTblCntClr_keeps : Ends s (execTblCntClr s) := by simp [execTblCntClr]
@[simp] theorem State.takeTokens_keeps (i p n : Nat) (yellow : Bool) : Keeps s (s.takeTokens i p n yellow) := by simp [State.takeTokens]
@[simp] theorem State.giveTokens_keeps (i p n : Nat) (yellow : Bool) : Keeps s (s.giveTokens i p n yellow) := by simp [State.giveTokens]
@[simp] theorem State.policersTick_keeps : Keeps s s.policersTick := by simp [State.policersTick]

/-! ### Redundancy and aggregation (spec 13): PRP and HSR pairs, the duplicate-discard table, aggregation groups and their buckets. -/

@[simp] theorem State.pairCheck_keeps (i : Nat) : Keeps s (s.pairCheck i) := by simp [State.pairCheck]

@[simp] theorem State.ddRecord_keeps (pair sa seq : Nat) (g : DdEnt → DdEnt) : Keeps s (s.ddRecord pair sa seq g) := by
  simp only [State.ddRecord]
  repeat' split
  all_goals simp

@[simp] theorem State.aggConfigured_keeps (g : Nat) : Keeps s (s.aggConfigured g) := by simp [State.aggConfigured]
@[simp] theorem execBucketRepin_keeps (g : Fin 16) (b : Fin 256) : Ends s (execBucketRepin g b s) := by simp [execBucketRepin]
@[simp] theorem State.aggLinkChange_keeps (p : Nat) : Keeps s (s.aggLinkChange p) := by unfold State.aggLinkChange; split <;> simp
@[simp] theorem State.groupJudge_keeps (g : Nat) : Keeps s (s.groupJudge g) := by simp [State.groupJudge]
@[simp] theorem State.pairChange_keeps (i : Nat) : Keeps s (s.pairChange i) := by simp [State.pairChange]
@[simp] theorem State.setPairMode_keeps (i m : Nat) : Keeps s (s.setPairMode i m) := by simp [State.setPairMode]
@[simp] theorem execRedPairModeWrite_keeps (i : Fin 4) (mode : BitVec 2) : Ends s (execRedPairModeWrite i mode s) := by simp [execRedPairModeWrite]

/-! ### What the commands of the Ethernet ports, the pipelines and the power states share (spec 04, 07): a port's link, pauses and readiness, its speculative transmissions and the Stroke cache. -/

@[simp] theorem State.setPort_keeps (p : Nat) (x : EthPort) : Keeps s (s.setPort p x) := by simp [State.setPort]
@[simp] theorem State.ethCnt_keeps (p k : Nat) : Keeps s (s.ethCnt p k) := by simp [State.ethCnt]
@[simp] theorem State.strokeTouch_keeps (n : Nat) : Keeps s (s.strokeTouch n) := by unfold State.strokeTouch; split <;> simp
@[simp] theorem State.strokeFlush_keeps (i : Nat) : Keeps s (s.strokeFlush i) := by simp [State.strokeFlush]
@[simp] theorem State.strokeDropPort_keeps (p : Nat) : Keeps s (s.strokeDropPort p) := by simp [State.strokeDropPort]
@[simp] theorem State.strokeDrop_keeps (i p da vid : Nat) : Keeps s (s.strokeDrop i p da vid) := by unfold State.strokeDrop; split <;> simp
@[simp] theorem State.mapSpec_keeps (g : Spec → Spec) : Keeps s (s.mapSpec g) := by simp [State.mapSpec]
@[simp] theorem State.withdrawPort_keeps (p : Nat) (c : Nat → Bool) : Keeps s (s.withdrawPort p c) := by simp [State.withdrawPort]
@[simp] theorem State.cutSpec_keeps (p : Nat) : Keeps s (s.cutSpec p) := by simp [State.cutSpec]
@[simp] theorem State.endFrame_keeps (p : Nat) (e : WireEnd) : Keeps s (s.endFrame p e) := by simp [State.endFrame]

@[simp] theorem State.returnTx_keeps (p : Nat) : Keeps s (s.returnTx p) := by
  simp only [State.returnTx]
  repeat' split
  all_goals simp

@[simp] theorem State.setPeer_keeps (p : Nat) (b : Bool) : Keeps s (s.setPeer p b) := by simp [State.setPeer]
@[simp] theorem State.taperTo_keeps (p st : Nat) : Keeps s (s.taperTo p st) := by simp [State.taperTo]
@[simp] theorem State.cutArriving_keeps (p : Nat) : Keeps s (s.cutArriving p) := by simp [State.cutArriving]
@[simp] theorem State.portDown_keeps (p : Nat) (noLinger : Bool) : Keeps s (s.portDown p noLinger) := by simp [State.portDown]
@[simp] theorem State.portSleep_keeps (p : Nat) : Keeps s (s.portSleep p) := by simp [State.portSleep]

/-! ### The cipher complex (spec 15): in-line MACsec, sealed frames and the lookaside engine. -/

@[simp] theorem State.cipCnt_keeps (p k : Nat) : Keeps s (s.cipCnt p k) := by simp [State.cipCnt]

@[simp] theorem State.macsecRx_keeps (p : Nat) (t : SecTag) (bs : List Byte) : Keeps s (s.macsecRx p t bs).1 := by
  unfold State.macsecRx
  extract_lets head rest n data icv v sa lost
  have lost_keeps : ∀ t, Keeps t (lost t).1 := by simp [lost]
  clear_value sa lost
  split
  · simp
  · split
    · split <;> simp
    · split
      · exact lost_keeps s
      · extract_lets pn₀ lowest pn
        clear_value pn
        split
        · simp
        · split
          · exact (Keeps.of_fst (State.unitUse_keeps ..) ‹_›).trans (lost_keeps _)
          · refine (Keeps.of_fst (State.unitUse_keeps ..) ‹_›).trans ?_
            extract_lets key iv off
            clear_value off
            split
            · rename_i u _ _ _
              simp [u]
            · split <;> simp

@[simp] theorem State.txBlocked_keeps (p : Nat) : Keeps s (s.txBlocked p) := by simp [State.txBlocked]

@[simp] theorem State.macsecTx_keeps (p : Nat) (bs : List Byte) : Keeps s (s.macsecTx p bs).1 := by
  have used := s.unitUse_keeps (unitOf p) (s.rd F.CIP_TXSA_SLOT (4 * p + s.rd F.CIP_PORT_TX_AN p))
  simp only [State.macsecTx]
  repeat' split
  all_goals simp_all

@[simp] theorem State.keepCopies_keeps : Keeps s s.keepCopies := by simp [State.keepCopies]
@[simp] theorem State.sealCnt_keeps (k : Nat) : Keeps s (s.sealCnt k) := by simp [State.sealCnt]

@[simp] theorem State.sealTx_keeps (i : Nat) (x : LaneFrame) : Keeps s (s.sealTx i x).1 := by
  have used := s.unitUse_keeps 3 (s.rd F.CIP_SEAL_SLOT i)
  simp only [State.sealTx]
  repeat' split
  all_goals simp_all

@[simp] theorem State.sealFailed_keeps (i k : Nat) : Keeps s (s.sealFailed i k) := by simp [State.sealFailed]

@[simp] theorem State.sealCheck_keeps (i : Nat) (x : LaneFrame) : Keeps s (s.sealCheck i x).1 := by
  have used := s.unitUse_keeps 3 (s.rd F.CIP_SEAL_SLOT i)
  simp only [State.sealCheck]
  repeat' split
  all_goals simp_all

@[simp] theorem State.laStart_keeps (r : LaRun) : Keeps s (s.laStart r) := by simp [State.laStart]

@[simp] theorem State.laSlot_keeps (slot use lo hi : Nat) (tagOk : Bool) (g : List Byte → LaRun) :
    Keeps s (s.laSlot slot use lo hi tagOk g) := by
  have used := s.keyUse_keeps slot
  simp only [State.laSlot]
  repeat' split
  all_goals simp_all

@[simp] theorem State.laPlain_keeps (code : Nat) (r : LaRun) : Keeps s (s.laPlain code r) := by simp [State.laPlain]
@[simp] theorem execLaGcmEnc_keeps (slot : Fin 256) : Ends s (execLaGcmEnc slot s) := by simp [execLaGcmEnc]
@[simp] theorem execLaGcmDec_keeps (slot : Fin 256) (tagLen : BitVec 5) : Ends s (execLaGcmDec slot tagLen s) := by simp [execLaGcmDec]
@[simp] theorem execLaCmacGen_keeps (slot : Fin 256) : Ends s (execLaCmacGen slot s) := by simp [execLaCmacGen]
@[simp] theorem execLaCmacVerify_keeps (slot : Fin 256) (tagLen : BitVec 5) : Ends s (execLaCmacVerify slot tagLen s) := by simp [execLaCmacVerify]
@[simp] theorem execLaSha384_keeps : Ends s (execLaSha384 s) := by simp [execLaSha384]
@[simp] theorem execLaEcdsaSign_keeps : Ends s (execLaEcdsaSign s) := by simp [execLaEcdsaSign]
@[simp] theorem execLaEcdsaVerify_keeps (fleet : BitVec 4) : Ends s (execLaEcdsaVerify fleet s) := by simp [execLaEcdsaVerify]
@[simp] theorem execLaDone_keeps : Ends s (execLaDone s) := by unfold execLaDone; split <;> simp
@[simp] theorem execCipCntClr_keeps : Ends s (execCipCntClr s) := by simp [execCipCntClr]

/-! ### What egress changes in a frame (spec 09 R196, R448, R202; 08 R182, R185; 13 R289, R290), time-stamps with their compensation (12 R272 to R276) and the transparent clock (12 R277 to R280). -/

@[simp] theorem State.rxStamp_keeps (sn : Snap) (p : Nat) (h : Hdr) (bs : List Byte) : Keeps s (s.rxStamp sn p h bs).1 := by
  unfold State.rxStamp; split <;> simp

@[simp] theorem State.txStampBy_keeps (sn : Snap) (p : Nat) (asked : Bool) (bs : List Byte) (comp : Int) :
    Keeps s (s.txStampBy sn p asked bs comp) := by
  simp [State.txStampBy]

@[simp] theorem State.txStamp_keeps (sn : Snap) (p : Nat) (asked : Bool) (bs : List Byte) : Keeps s (s.txStamp sn p asked bs) := by simp [State.txStamp]
@[simp] theorem State.tcCount_keeps (tc : Option Bool) : Keeps s (s.tcCount tc) := by unfold State.tcCount; split <;> simp

/-! ### Network sleep and wake (spec 19): networks, presence messages, maximum awake time, and the wake sources of the AOC. -/

@[simp] theorem State.sendOwn_keeps (p : Nat) (body : List Byte) : Keeps s (s.sendOwn p body).1 := by
  simp only [State.sendOwn]
  repeat' split
  all_goals simp

@[simp] theorem State.presOn_keeps (k : Nat) (woke : Bool) (p : Nat) : Keeps s (s.presOn k woke p) := by
  simp only [State.presOn]
  split
  · split
    · split
      all_goals simpa using Keeps.of_fst (s.sendOwn_keeps _ _) ‹_›
    · simp
  · split <;> simp

@[simp] theorem State.presSend_keeps (k : Nat) (woke : Bool) : Keeps s (s.presSend k woke) := by simp [State.presSend]
@[simp] theorem execPresenceSend_keeps (k : Fin 16) : Ends s (execPresenceSend k s) := by simp [execPresenceSend]
@[simp] theorem State.netTo_keeps (k st : Nat) : Keeps s (s.netTo k st) := by simp [State.netTo]
@[simp] theorem State.netResume_keeps (k : Nat) : Keeps s (s.netResume k) := by simp [State.netResume]
@[simp] theorem State.netAwake_keeps (k : Nat) : Keeps s (s.netAwake k) := by simp [State.netAwake]
@[simp] theorem State.netWake_keeps (k code idx : Nat) : Keeps s (s.netWake k code idx) := by simp [State.netWake]
@[simp] theorem State.memberWake_keeps (p code idx : Nat) : Keeps s (s.memberWake p code idx) := by simp [State.memberWake]
@[simp] theorem State.netStart_keeps (k : Nat) : Keeps s (s.netStart k) := by simp [State.netStart]
@[simp] theorem State.netConfigured_keeps (k : Nat) : Keeps s (s.netConfigured k) := by simp [State.netConfigured]
@[simp] theorem State.nslEnabled_keeps (was : Bool) : Keeps s (s.nslEnabled was) := by simp [State.nslEnabled]
@[simp] theorem execLocalNeedWrite_keeps (k : Fin 16) (need : Bool) : Ends s (execLocalNeedWrite k need s) := by simp [execLocalNeedWrite]
@[simp] theorem execQuietTimeout_keeps (k : Fin 16) : Ends s (execQuietTimeout k s) := by simp [execQuietTimeout]
@[simp] theorem State.needEnd_keeps (i : Nat) : Keeps s (s.needEnd i) := by simp [State.needEnd]
@[simp] theorem State.memberSleep_keeps (p : Nat) : Keeps s (s.memberSleep p) := by simp [State.memberSleep]
@[simp] theorem execTWaitExpiry_keeps (k : Fin 16) : Ends s (execTWaitExpiry k s) := by simp [execTWaitExpiry]

@[simp] theorem execNetworkWake_keeps (k : Fin 16) (code : BitVec 4) (idx : BitVec 8) : Ends s (execNetworkWake k code idx s) := by
  simp [execNetworkWake]

@[simp] theorem execHoldExpiry_keeps (k : Fin 16) : Ends s (execHoldExpiry k s) := by simp [execHoldExpiry]
@[simp] theorem State.nodeSeen_keeps (k p node flags : Nat) : Keeps s (s.nodeSeen k p node flags) := by unfold State.nodeSeen; split <;> simp
@[simp] theorem State.presRx_keeps (k p node flags : Nat) : Keeps s (s.presRx k p node flags) := by simp [State.presRx]

@[simp] theorem execPresenceRx_keeps (k : Fin 16) (p : Fin 64) (node flags : BitVec 8) : Ends s (execPresenceRx k p node flags s) := by
  simp [execPresenceRx]

@[simp] theorem execNodeEntryExpiry_keeps (i : Fin 256) : Ends s (execNodeEntryExpiry i s) := by simp [execNodeEntryExpiry]
@[simp] theorem execNeedRunTimeout_keeps (i : Fin 256) : Ends s (execNeedRunTimeout i s) := by simp [execNeedRunTimeout]

@[simp] theorem State.nslLog_keeps (enforced : Bool) (k node flags port dur : Nat) : Keeps s (s.nslLog enforced k node flags port dur) := by
  simp [State.nslLog]

@[simp] theorem execMaxAwakeExceeded_keeps (i : Fin 256) : Ends s (execMaxAwakeExceeded i s) := by simp [execMaxAwakeExceeded]
@[simp] theorem execNslCntClr_keeps : Ends s (execNslCntClr s) := by simp [execNslCntClr]
@[simp] theorem execWakeInActive_keeps (n : Fin 8) : Ends s (execWakeInActive n s) := by simp [execWakeInActive]
@[simp] theorem execRtcAlarm_keeps : Ends s (execRtcAlarm s) := by simp [execRtcAlarm]

/-! ### Ethernet ports (spec 04): link, SerDes, PAUSE and PFC, low-power idle, Taper and wake patterns. -/

@[simp] theorem State.sendPause_keeps (p quanta : Nat) : Keeps s (s.sendPause p quanta) := by simp [State.sendPause]
@[simp] theorem State.sendPfc_keeps (p on off : Nat) : Keeps s (s.sendPfc p on off) := by simp [State.sendPfc]
@[simp] theorem State.fcCheck_keeps (p : Nat) : Keeps s (s.fcCheck p) := by simp [State.fcCheck]
@[simp] theorem execPauseRepeat_keeps (p : Fin 40) : Ends s (execPauseRepeat p s) := by simp [execPauseRepeat]
@[simp] theorem State.taperSend_keeps (p op seq rate flags reason : Nat) : Keeps s (s.taperSend p op seq rate flags reason) := by simp [State.taperSend]
@[simp] theorem State.taperIdle_keeps (p : Nat) : Keeps s (s.taperIdle p) := by simp [State.taperIdle]
@[simp] theorem State.propose_keeps (p rate flags : Nat) : Keeps s (s.propose p rate flags) := by simp [State.propose]
@[simp] theorem State.taperService_keeps (p : Nat) : Keeps s (s.taperService p) := by simp [State.taperService]
@[simp] theorem State.taperSuspend_keeps (p : Nat) : Keeps s (s.taperSuspend p) := by simp [State.taperSuspend]

@[simp] theorem State.taperAnswer_keeps (p seq rate flags : Nat) (lost : Bool) : Keeps s (s.taperAnswer p seq rate flags lost) := by
  simp [State.taperAnswer]

@[simp] theorem State.taperProposed_keeps (p seq rate flags : Nat) : Keeps s (s.taperProposed p seq rate flags) := by
  unfold State.taperProposed; split <;> simp

@[simp] theorem State.taperAccepted_keeps (p seq : Nat) : Keeps s (s.taperAccepted p seq) := by simp [State.taperAccepted]
@[simp] theorem State.taperGiveUp_keeps (p reason : Nat) (refused : Bool) : Keeps s (s.taperGiveUp p reason refused) := by simp [State.taperGiveUp]
@[simp] theorem State.taperRefused_keeps (p reason : Nat) : Keeps s (s.taperRefused p reason) := by simp [State.taperRefused]

@[simp] theorem State.macFrame_keeps (p : Nat) (act : State → State) (h : Keeps s (act s)) : Keeps s (s.macFrame p act) := by
  simp [State.macFrame, h]

@[simp] theorem State.helloRx_keeps (p devId : Nat) : Keeps s (s.helloRx p devId) := by simp [State.helloRx]

@[simp] theorem State.taperRx_keeps (p : Nat) (bs : List Byte) : Keeps s (s.taperRx p bs) := by
  simp only [State.taperRx]
  repeat' split
  all_goals simp

@[simp] theorem State.helloSend_keeps (p : Nat) : Keeps s (s.helloSend p) := by simp [State.helloSend]
@[simp] theorem execTaperHelloSend_keeps (p : Fin 8) : Ends s (execTaperHelloSend p s) := by simp [execTaperHelloSend]
@[simp] theorem execTaperHelloRx_keeps (p : Fin 8) (devId : Word) : Ends s (execTaperHelloRx p devId s) := by simp [execTaperHelloRx]
@[simp] theorem State.peerLost_keeps (p : Nat) : Keeps s (s.peerLost p) := by simp [State.peerLost]
@[simp] theorem execPeerTimeout_keeps (p : Fin 8) : Ends s (execPeerTimeout p s) := by simp [execPeerTimeout]

@[simp] theorem execTaperWindowEnd_keeps (p : Fin 8) (txBits rxBits : Nat) : Ends s (execTaperWindowEnd p txBits rxBits s) := by
  simp [execTaperWindowEnd]

@[simp] theorem execTaperProposeRx_keeps (p : Fin 8) (seq : BitVec 16) (rate flags : BitVec 8) : Ends s (execTaperProposeRx p seq rate flags s) := by
  simp [execTaperProposeRx]

@[simp] theorem execTaperAcceptRx_keeps (p : Fin 8) (seq : BitVec 16) : Ends s (execTaperAcceptRx p seq s) := by simp [execTaperAcceptRx]
@[simp] theorem execTaperRefuseRx_keeps (p : Fin 8) (reason : BitVec 8) : Ends s (execTaperRefuseRx p reason s) := by simp [execTaperRefuseRx]
@[simp] theorem execTaperProposeTimeout_keeps (p : Fin 8) : Ends s (execTaperProposeTimeout p s) := by simp [execTaperProposeTimeout]
@[simp] theorem execTaperHoldEnd_keeps (p : Fin 8) : Ends s (execTaperHoldEnd p s) := by simp [execTaperHoldEnd]
@[simp] theorem execTaperRetrainTimeout_keeps (p : Fin 8) : Ends s (execTaperRetrainTimeout p s) := by simp [execTaperRetrainTimeout]
@[simp] theorem State.taperCtl_keeps (p force ceil floor : Nat) (en : Bool) : Keeps s (s.taperCtl p force ceil floor en) := by simp [State.taperCtl]

@[simp] theorem execTaperCtlWrite_keeps (p : Fin 8) (force ceil floor : BitVec 2) (en : Bool) :
    Ends s (execTaperCtlWrite p force ceil floor en s) := by
  simp [execTaperCtlWrite]

@[simp] theorem execPcsSignalLoss_keeps (p : Fin 40) (signal lock : Bool) : Ends s (execPcsSignalLoss p signal lock s) := by simp [execPcsSignalLoss]
@[simp] theorem State.retrained_keeps (p : Nat) : Keeps s (s.retrained p) := by simp [State.retrained]
@[simp] theorem State.portUp_keeps (p : Nat) : Keeps s (s.portUp p) := by simp [State.portUp]
@[simp] theorem execLinkUp_keeps (p : Fin 40) (eyeW eyeH : BitVec 8) : Ends s (execLinkUp p eyeW eyeH s) := by simp [execLinkUp]
@[simp] theorem execLinkDown_keeps (p : Fin 40) : Ends s (execLinkDown p s) := by simp [execLinkDown]

@[simp] theorem execInbandStatusWord_keeps (p : Fin 40) (link : Bool) (speed : BitVec 2) (full : Bool) :
    Ends s (execInbandStatusWord p link speed full s) := by
  simp [execInbandStatusWord]

@[simp] theorem execSerdesReadapt_keeps (p : Fin 40) : Ends s (execSerdesReadapt p s) := by simp [execSerdesReadapt]
@[simp] theorem State.serdesLoss_keeps (p : Nat) : Keeps s (s.serdesLoss p) := by simp [State.serdesLoss]
@[simp] theorem execSerdesPllLockLoss_keeps (p : Fin 40) : Ends s (execSerdesPllLockLoss p s) := by simp [execSerdesPllLockLoss]
@[simp] theorem State.pauseReq_keeps (p : Nat) (r : PauseReq) : Keeps s (s.pauseReq p r) := by simp [State.pauseReq]
@[simp] theorem State.pauseRx_keeps (p da quanta : Nat) : Keeps s (s.pauseRx p da quanta) := by simp [State.pauseRx]
@[simp] theorem State.pfcRx_keeps (p enable : Nat) (times : List Nat) : Keeps s (s.pfcRx p enable times) := by simp [State.pfcRx]

@[simp] theorem execPauseFrameRx_keeps (p : Fin 40) (da : BitVec 48) (quanta : BitVec 16) : Ends s (execPauseFrameRx p da quanta s) := by
  simp [execPauseFrameRx]

@[simp] theorem execPfcFrameRx_keeps (p : Fin 40) (enable : BitVec 8) (times : List (BitVec 16)) : Ends s (execPfcFrameRx p enable times s) := by
  simp [execPfcFrameRx]

@[simp] theorem execPauseTakesEffect_keeps (p : Fin 40) : Ends s (execPauseTakesEffect p s) := by
  simp only [execPauseTakesEffect]
  repeat' split
  all_goals simp

@[simp] theorem execPauseTimerExpiry_keeps (p : Fin 40) (c : Fin 8) : Ends s (execPauseTimerExpiry p c s) := by simp [execPauseTimerExpiry]
@[simp] theorem execPauseStorm_keeps (p : Fin 40) (c : Fin 8) : Ends s (execPauseStorm p c s) := by simp [execPauseStorm]
@[simp] theorem execLpiEntry_keeps (p : Fin 40) : Ends s (execLpiEntry p s) := by simp [execLpiEntry]
@[simp] theorem execLpiWakeDone_keeps (p : Fin 40) : Ends s (execLpiWakeDone p s) := by simp [execLpiWakeDone]
@[simp] theorem execReceiveLpi_keeps (p : Fin 40) (on : Bool) : Ends s (execReceiveLpi p on s) := by simp [execReceiveLpi]
@[simp] theorem State.wakeFrame_keeps (p : Nat) (bs : List Byte) : Keeps s (s.wakeFrame p bs) := by simp [State.wakeFrame]
@[simp] theorem execWakePatternFrame_keeps (p : Fin 40) (bs : List Byte) : Ends s (execWakePatternFrame p bs s) := by simp [execWakePatternFrame]
@[simp] theorem execEthCntClr_keeps (p : Fin 40) : Ends s (execEthCntClr p s) := by simp [execEthCntClr]

/-! ### Credit-based shapers and DWRR charges of the port schedulers (spec 09 R207 to R209). A credit is held in 1/3,200,000,000 byte: one tick of an idle slope unit is 16,000 of them, and one tick of 1 Mb/s is 1,000,000. -/

@[simp] theorem State.setCredit_keeps (p c : Nat) (v : Int) : Keeps s (s.setCredit p c v) := by simp [State.setCredit]
@[simp] theorem State.cbsTick_keeps (p c : Nat) : Keeps s (s.cbsTick p c) := by simp [State.cbsTick]
@[simp] theorem State.shapersTick_keeps : Keeps s s.shapersTick := by simp [State.shapersTick]
@[simp] theorem State.specRestore_keeps (x : Spec) : Keeps s (s.specRestore x) := by simp [State.specRestore]
@[simp] theorem State.specCharge_keeps (p c n : Nat) : Keeps s (s.specCharge p c n) := by simp [State.specCharge]

/-! ### The ingress pipelines and Quickstroke (spec 07): frames received, grants, verdicts, strikes, and what becomes of a decided frame. -/

@[simp] theorem State.setFlight_keeps (n : Nat) (f : Flight) : Keeps s (s.setFlight n f) := by simp [State.setFlight]
@[simp] theorem State.decline_keeps (i code : Nat) : Keeps s (s.decline i code) := by simp [State.decline]
@[simp] theorem State.enter_keeps (f : Flight) : Keeps s (s.enter f) := by simp [State.enter]
@[simp] theorem State.strike_keeps (f : Flight) (x : Spec) (code : Nat) : Keeps s (s.strike f x code) := by unfold State.strike; split <;> simp
@[simp] theorem State.veto_keeps (f : Flight) (x : Spec) (code : Nat) : Keeps s (s.veto f x code).1 := by unfold State.veto; split <;> simp
@[simp] theorem State.chargeOne_keeps (p : Nat) (c : Charge) : Keeps s (s.chargeOne p c) := by unfold State.chargeOne; split <;> simp
@[simp] theorem State.charge_keeps (p : Nat) (cs : List Charge) : Keeps s (s.charge p cs) := by simp [State.charge]
@[simp] theorem State.verdictCounts_keeps (i : Nat) (h : Hdr) : Keeps s (s.verdictCounts i h) := by simp [State.verdictCounts]
@[simp] theorem State.learnFrom_keeps (f : Flight) (v : Verdict) (h : Hdr) : Keeps s (s.learnFrom f v h) := by simp [State.learnFrom]
@[simp] theorem State.strokeFill_keeps (f : Flight) (v : Verdict) (h : Hdr) : Keeps s (s.strokeFill f v h) := by unfold State.strokeFill; split <;> simp
@[simp] theorem State.sentInto_keeps (i sa : Nat) : Keeps s (s.sentInto i sa) := by simp [State.sentInto]

@[simp] theorem State.store_keeps (f : Frame) (ecn : Nat) (ds : List Dest) (keep : Nat) : Keeps s (s.store f ecn ds keep).1 := by
  simp only [State.store]
  split
  all_goals
    have offered := Keeps.of_fst (State.offerKeep_keeps _ _ _ _ _) ‹_›
    simp_all

@[simp] theorem State.launch_keeps (sn : Snap) (p cls first : Nat) (f : Frame) (ed : CopyEd) : Keeps s (s.launch sn p cls first f ed) := by
  simp [State.launch]

@[simp] theorem State.launchSpec_keeps (x : Spec) (first : Nat) (f : Frame) (ed : CopyEd) : Keeps s (s.launchSpec x first f ed) := by
  unfold State.launchSpec; split <;> simp

@[simp] theorem State.storeLane_keeps (f : Flight) (v : Verdict) (r : Frame) (ds : List Dest) : Keeps s (s.storeLane f v r ds) := by
  unfold State.storeLane; split <;> simp

@[simp] theorem State.deliver_keeps (f : Flight) (v : Verdict) (h : Hdr) (d : DupRes) (conf : Option Spec) :
    Keeps s (s.deliver f v h d conf) := by
  unfold State.deliver
  extract_lets mirrorSpec here rec1 toHere ds ecn pairs keep bare ed r s₁ whole rec2 r' s₂ s₃
  clear_value ds keep toHere mirrorSpec here
  have stored : Keeps s s₁ := by
    unfold s₁
    split
    · simp
    · split <;> simp [r]
  have passed : Keeps s₁ s₂ := by
    unfold s₂
    split
    · split
      · split <;> simp [r']
      · simp
    · simp
  have sent : Keeps s₂ s₃ := by simp [s₃]
  have all := (stored.trans passed).trans sent
  clear_value s₃
  split <;> simpa using all

@[simp] theorem State.dupRecord_keeps (f : Flight) (v : Verdict) (h : Hdr) (d : DupRes) : Keeps s (s.dupRecord f v h d) := by
  unfold State.dupRecord; split <;> simp

@[simp] theorem State.limiterTake_keeps (lim : Option Nat) : Keeps s (s.limiterTake lim).1 := by
  simp only [State.limiterTake]
  repeat' split
  all_goals simp

@[simp] theorem State.carryOut_keeps (f : Flight) (v : Verdict) (conf : Option Spec) : Keeps s (s.carryOut f v conf) := by
  unfold State.carryOut
  repeat' split
  all_goals simp

@[simp] theorem State.dropFlight_keeps (n : Nat) : Keeps s (s.dropFlight n) := by simp [State.dropFlight]
@[simp] theorem State.refund_keeps (f : Flight) (v : Verdict) : Keeps s (s.refund f v) := by unfold State.refund; split <;> simp

@[simp] theorem State.settle_keeps (n : Nat) (f : Flight) (v : Verdict) : Keeps s (s.settle n f v) := by
  simp only [State.settle]
  repeat' split
  all_goals simp

@[simp] theorem State.settleFrom_keeps (fuel n : Nat) : Keeps s (s.settleFrom fuel n) := by
  induction fuel generalizing s n with
  | zero => simp [State.settleFrom]
  | succ fuel ih => simp only [State.settleFrom]; repeat' split
                    all_goals simp [ih]

@[simp] theorem State.settleAll_keeps : Keeps s s.settleAll := by simp [State.settleAll]

@[simp] theorem State.decideFlight_keeps (n : Nat) (f : Flight) : Keeps s (s.decideFlight n f) := by
  simp only [State.decideFlight]
  repeat' split
  all_goals simp

@[simp] theorem execVerdictDecisionFinal_keeps (p : Fin 67) : Ends s (execVerdictDecisionFinal p s) := by unfold execVerdictDecisionFinal; split <;> simp

@[simp] theorem execVerdictIntegrityFinal_keeps (p : Fin 67) : Ends s (execVerdictIntegrityFinal p s) := by
  unfold execVerdictIntegrityFinal; split <;> simp

@[simp] theorem State.consume_keeps (p : Nat) (bs : List Byte) : Keeps s (s.consume p bs) := by
  unfold State.consume
  repeat' split
  all_goals simp

@[simp] theorem State.rxCount_keeps (p : Nat) (bs : List Byte) : Keeps s (s.rxCount p bs) := by simp [State.rxCount]
@[simp] theorem State.dropArriving_keeps (p : Nat) : Keeps s (s.dropArriving p) := by unfold State.dropArriving; split <;> simp

@[simp] theorem State.arrivedPlain_keeps (p : Nat) (secured : Bool) (plain : List Byte) : Keeps s (s.arrivedPlain p secured plain) := by
  unfold State.arrivedPlain; split <;> simp

@[simp] theorem State.arrived_keeps (p : Nat) (bs : List Byte) : Keeps s (s.arrived p bs) := by
  simp only [State.arrived]
  repeat' split
  all_goals simp

@[simp] theorem State.arrivedBad_keeps (p k : Nat) (fcsGood : Bool) : Keeps s (s.arrivedBad p k fcsGood) := by unfold State.arrivedBad; split <;> simp

@[simp] theorem execFrameReceived_keeps (p : Fin 40) (bs : List Byte) (fcsGood : Bool) : Ends s (execFrameReceived p bs fcsGood s) := by
  simp only [execFrameReceived]
  repeat' split
  all_goals simp

@[simp] theorem execStrikeBlockRx_keeps (p : Fin 8) : Ends s (execStrikeBlockRx p s) := by
  simp only [execStrikeBlockRx]
  repeat' split
  all_goals simp

@[simp] theorem execQsGrantCheck_keeps (p : Fin 40) (bs : List Byte) (secured free lost mFree mLost : Bool) :
    Ends s (execQsGrantCheck p bs secured free lost mFree mLost s) := by
  simp only [execQsGrantCheck]
  repeat' split
  all_goals simp

@[simp] theorem execQsRelease_keeps (p : Fin 40) : Ends s (execQsRelease p s) := by
  unfold execQsRelease
  repeat' split
  all_goals simp

@[simp] theorem execPipelineStall_keeps (i : Pipe) : Ends s (execPipelineStall i s) := by simp [execPipelineStall]

@[simp] theorem State.pipelineRecover_keeps (i : Nat) : Keeps s (s.pipelineRecover i) := by
  simp [State.pipelineRecover]
  exact foldl_keeps _ (fun t f => by split <;> simp) _ s

@[simp] theorem execPipelineRecoveryDone_keeps (i : Pipe) : Ends s (execPipelineRecoveryDone i s) := by simp [execPipelineRecoveryDone]
@[simp] theorem execStencilScrub_keeps (i : Pipe) (stroke : Bool) (n : Fin 8192) : Ends s (execStencilScrub i stroke n s) := by simp [execStencilScrub]
@[simp] theorem execScFlush_keeps (i : Pipe) : Ends s (execScFlush i s) := by simp [execScFlush]
@[simp] theorem execPpxCntClr_keeps (i : Pipe) : Ends s (execPpxCntClr i s) := by simp [execPpxCntClr]

@[simp] theorem State.sealDone_keeps (n k : Nat) (judge : State → Nat → LaneFrame → State × Bool) (h : ∀ t i x, Keeps t (judge t i x).1) :
    Keeps s (s.sealDone n k judge) := by
  simp only [State.sealDone]
  repeat' split
  all_goals simp [h]

@[simp] theorem execSealCheckDone_keeps (n : Fin 24) : Ends s (execSealCheckDone n s) := by unfold execSealCheckDone; split <;> simp
@[simp] theorem State.sealAbort_keeps : Keeps s s.sealAbort := by simp [State.sealAbort]

/-! ### CAN lanes (spec 05): state, errors and bus-off, filters and limiters, frames received and sent, reference messages, standby and wake, the bit-rate aid. -/

@[simp] theorem State.canCnt_keeps (n k : Nat) : Keeps s (s.canCnt n k) := by simp [State.canCnt]
@[simp] theorem State.canLimitersFull_keeps (n : Nat) : Keeps s (s.canLimitersFull n) := by simp [State.canLimitersFull]
@[simp] theorem State.canStart_keeps (n : Nat) (t : List Nat) : Keeps s (s.canStart n t) := by simp [State.canStart]
@[simp] theorem State.canEnable_keeps (n : Nat) : Keeps s (s.canEnable n) := by simp [State.canEnable]
@[simp] theorem execCanEnable_keeps (n : Fin 24) : Ends s (execCanEnable n s) := by simp [execCanEnable]

@[simp] theorem State.canStopped_keeps (n : Nat) : Keeps s (s.canStopped n) := by
  simp only [State.canStopped]
  repeat' split
  all_goals simp

@[simp] theorem State.canDisable_keeps (n : Nat) : Keeps s (s.canDisable n) := by simp [State.canDisable]
@[simp] theorem execCanDisable_keeps (n : Fin 24) : Ends s (execCanDisable n s) := by simp [execCanDisable]
@[simp] theorem State.canBusOff_keeps (n : Nat) : Keeps s (s.canBusOff n) := by simp [State.canBusOff]

@[simp] theorem execCanIntegrated_keeps (n : Fin 24) : Ends s (execCanIntegrated n s) := by
  simp only [execCanIntegrated]
  repeat' split
  all_goals simp

@[simp] theorem State.canEnded_keeps (n : Nat) : Keeps s (s.canEnded n) := by simp [State.canEnded]
@[simp] theorem State.canSpoil_keeps (n k : Nat) : Keeps s (s.canSpoil n k) := by simp [State.canSpoil]
@[simp] theorem State.canParity_keeps (n : Nat) (bad : List (Fin 64)) : Keeps s (s.canParity n bad) := by simp [State.canParity]

@[simp] theorem State.canPass_keeps (n : Nat) (tx : Bool) (x : LaneFrame) : Keeps s (s.canPass n tx x).1 := by
  simp only [State.canPass]
  repeat' split
  all_goals simp

@[simp] theorem execCanRlRefill_keeps (n : Fin 24) (j : Fin 16) : Ends s (execCanRlRefill n j s) := by simp [execCanRlRefill]
@[simp] theorem State.canErrors_keeps (n tec recC : Nat) : Keeps s (s.canErrors n tec recC) := by simp [State.canErrors]
@[simp] theorem State.canGood_keeps (n : Nat) (tx : Bool) : Keeps s (s.canGood n tx) := by simp [State.canGood]
@[simp] theorem State.canRemove_keeps (n q : Nat) (e : QEnt) : Keeps s (s.canRemove n q e) := by simp [State.canRemove]
@[simp] theorem State.canRetry_keeps (n : Nat) (a : Option CanTx) : Keeps s (s.canRetry n a) := by unfold State.canRetry; split <;> simp
@[simp] theorem State.canLec_keeps (n lec : Nat) (data : Bool) : Keeps s (s.canLec n lec data) := by simp [State.canLec]
@[simp] theorem State.canErrCount_keeps (n : Nat) (tx special : Bool) : Keeps s (s.canErrCount n tx special) := by simp [State.canErrCount]
@[simp] theorem State.canError_keeps (n lec : Nat) (data tx special : Bool) : Keeps s (s.canError n lec data tx special) := by simp [State.canError]
@[simp] theorem State.tdcTaken_keeps (n v : Nat) : Keeps s (s.tdcTaken n v) := by unfold State.tdcTaken; split <;> simp

@[simp] theorem execCanBusError_keeps (n : Fin 24) (lec : BitVec 3) (data : Bool) (side : CanSide) (special : Bool) :
    Ends s (execCanBusError n lec data side special s) := by
  unfold execCanBusError
  repeat' split
  all_goals simp

@[simp] theorem execTdcFail_keeps (n : Fin 24) : Ends s (execTdcFail n s) := by simp [execTdcFail]
@[simp] theorem execCanProtocolException_keeps (what : CanForeign) : Ends s (execCanProtocolException what s) := by simp [execCanProtocolException]
@[simp] theorem execCanRecoveryStart_keeps (n : Fin 24) : Ends s (execCanRecoveryStart n s) := by simp [execCanRecoveryStart]
@[simp] theorem execCanRecoveryDone_keeps (n : Fin 24) : Ends s (execCanRecoveryDone n s) := by simp [execCanRecoveryDone]

@[simp] theorem State.canRx_keeps (n : Nat) (x : LaneFrame) (sn : Snap) : Keeps s (s.canRx n x sn) := by
  simp only [State.canRx]
  split
  all_goals
    have passed := Keeps.of_fst (State.canPass_keeps ..) ‹_›
    simp_all

@[simp] theorem execCanFrameRx_keeps (n : Fin 24) (seen : CanSeen) (flags sdt : BitVec 8) (key : BitVec 29) (af : Word) (data : List Byte) (bad : List (Fin 64)) :
    Ends s (execCanFrameRx n seen flags sdt key af data bad s) := by
  unfold execCanFrameRx; split <;> simp

@[simp] theorem State.canChecked_keeps (n : Nat) (x : LaneFrame) : Keeps s (s.canChecked n x).1 := by
  simp only [State.canChecked]
  split
  all_goals have passed := Keeps.of_fst (State.canPass_keeps _ _ _ _) ‹_›
  · exact passed
  · repeat' split
    case h_1 h => exact passed.trans (Keeps.of_fst (State.sealTx_keeps _ _ _) h)
    case h_2 h => exact passed.trans (Keeps.of_fst (State.sealTx_keeps _ _ _) h)
    all_goals simp_all

@[simp] theorem State.canPrepare_keeps (n : Nat) (f : Frame) (e : QEnt) : Keeps s (s.canPrepare n f e).1 := by
  have passed := s.canPass_keeps n true (laneOut f e)
  simp only [State.canPrepare]
  repeat' split
  all_goals simp_all

@[simp] theorem State.canHead_keeps (n c fuel : Nat) : Keeps s (s.canHead n c fuel) := by
  induction fuel generalizing s with
  | zero => simp [State.canHead]
  | succ fuel ih =>
    simp only [State.canHead]
    repeat' split
    all_goals simp [ih]

@[simp] theorem State.presChoose_keeps (n : Nat) : Keeps s (s.presChoose n) := by
  simp only [State.presChoose]
  repeat' split
  all_goals simp

@[simp] theorem State.refChoose_keeps (n : Nat) : Keeps s (s.refChoose n) := by
  simp only [State.refChoose]
  repeat' split
  all_goals simp

@[simp] theorem State.queueChoose_keeps (n : Nat) : Keeps s (s.queueChoose n) := by
  have heads : Keeps s ((List.range 4).reverse.foldl (fun t c => t.canHead n c (t.qLen (320 + 4 * n + c))) s) :=
    foldl_keeps _ (fun t c => t.canHead_keeps n c _) _ s
  unfold State.queueChoose
  dsimp only
  repeat' split
  all_goals simpa using heads

@[simp] theorem State.chooseIf_keeps (n : Nat) (g : State → Nat → State) (h : Keeps s (g s n)) : Keeps s (s.chooseIf n g) := by
  simp [State.chooseIf, h]

@[simp] theorem State.canChoose_keeps (n : Nat) : Keeps s (s.canChoose n) := by simp [State.canChoose]
@[simp] theorem execCanTxHead_keeps (n : Fin 24) (bad : List (Fin 64)) : Ends s (execCanTxHead n bad s) := by simp [execCanTxHead]
@[simp] theorem State.laneTxStamp_keeps (sn : Snap) (n lat : Nat) (asked : Bool) : Keeps s (s.laneTxStamp sn n lat asked) := by simp [State.laneTxStamp]
@[simp] theorem State.canSent_keeps (n : Nat) (a : CanTx) : Keeps s (s.canSent n a) := by unfold State.canSent; split <;> simp
@[simp] theorem execCanTxSuccess_keeps (n : Fin 24) (tdcv : BitVec 7) : Ends s (execCanTxSuccess n tdcv s) := by unfold execCanTxSuccess; split <;> simp
@[simp] theorem execCanArbLost_keeps (n : Fin 24) : Ends s (execCanArbLost n s) := by simp [execCanArbLost]
@[simp] theorem execCanTmDue_keeps (n : Fin 24) : Ends s (execCanTmDue n s) := by simp [execCanTmDue]
@[simp] theorem execCanWakeDominant_keeps (n : Fin 24) : Ends s (execCanWakeDominant n s) := by simp [execCanWakeDominant]
@[simp] theorem execAocLaneWake_keeps (n : Fin 24) : Ends s (execAocLaneWake n s) := by simp [execAocLaneWake]
@[simp] theorem execCanAuxArmed_keeps (n : Fin 24) : Ends s (execCanAuxArmed n s) := by simp [execCanAuxArmed]
@[simp] theorem execBrdStart_keeps (n : Fin 24) : Ends s (execBrdStart n s) := by simp [execBrdStart]
@[simp] theorem execBrdDone_keeps (n : Fin 24) (edges : Nat) (minEdge : BitVec 16) : Ends s (execBrdDone n edges minEdge s) := by simp [execBrdDone]
@[simp] theorem execCanCntClr_keeps (n : Fin 24) : Ends s (execCanCntClr n s) := by simp [execCanCntClr]

/-! ### What the instructions of a Nib engine share (spec 10): its registers and CSRs, its memory map, exceptions and halts, fetching and retiring. -/

@[simp] theorem State.ssWrite_keeps (o : Nat) (bs : List Byte) : Keeps s (s.ssWrite o bs) := by simp [State.ssWrite]

@[simp] theorem State.nibStoreBytes_keeps (n a : Nat) (bs : List Byte) : Keeps s (s.nibStoreBytes n a bs) := by
  unfold State.nibStoreBytes; split <;> simp

@[simp] theorem State.ssError_keeps (uncorr : Bool) (word : Nat) : Keeps s (s.ssError uncorr word) := by simp [State.ssError]
@[simp] theorem State.nibParity_keeps (n : Nat) : Keeps s (s.nibParity n) := by simp [State.nibParity]
@[simp] theorem State.nibRead_keeps (n a len : Nat) (r : CellRead) : Keeps s (s.nibRead n a len r).1 := by unfold State.nibRead; split <;> simp
@[simp] theorem State.nibHalted_keeps (n : Nat) : Keeps s (s.nibHalted n) := by simp [State.nibHalted]
@[simp] theorem State.nibHaltDone_keeps (n : Nat) (parity : Bool) : Keeps s (s.nibHaltDone n parity) := by simp [State.nibHaltDone]
@[simp] theorem State.nibHaltBy_keeps (n cause : Nat) (parity : Bool) : Keeps s (s.nibHaltBy n cause parity) := by simp [State.nibHaltBy]
@[simp] theorem State.nibTrap_keeps (n cause : Nat) (tval : Word) (parity : Bool) : Keeps s (s.nibTrap n cause tval parity) := by simp [State.nibTrap]
@[simp] theorem State.nibRetire_keeps (n rd : Nat) (v pc : Word) : Keeps s (s.nibRetire n rd v pc) := by simp [State.nibRetire]

/-- The state that an instruction leaves before it ends. -/
def NibRes.left (r : NibRes) : State :=
  match r with
  | .next s _ _ | .jump s _ _ _ | .trap s _ _ | .parity s _ | .wait s _ => s

@[simp] theorem NibRes.left_next (t : State) (rd : Nat) (v : Word) : (NibRes.next t rd v).left = t := rfl
@[simp] theorem NibRes.left_jump (t : State) (rd : Nat) (v pc : Word) : (NibRes.jump t rd v pc).left = t := rfl
@[simp] theorem NibRes.left_trap (t : State) (cause : Nat) (tval : Word) : (NibRes.trap t cause tval).left = t := rfl
@[simp] theorem NibRes.left_parity (t : State) (tval : Word) : (NibRes.parity t tval).left = t := rfl
@[simp] theorem NibRes.left_wait (t : State) (w : NibWait) : (NibRes.wait t w).left = t := rfl
@[simp] theorem NibRes.left_ite (c : Prop) [Decidable c] (a b : NibRes) : (if c then a else b).left = if c then a.left else b.left :=
  apply_ite ..

theorem some_left_keeps {s : State} {x : NibRes} (h : Keeps s x.left) : ∀ r ∈ some x, Keeps s r.left := by
  rintro r ⟨⟩
  exact h

@[simp] theorem readFault_keeps (a : Nat) (tval : Word) : Keeps s (readFault s a tval).left := by unfold readFault; split <;> simp

@[simp] theorem State.nibEnd_keeps (n len : Nat) (r : NibRes) : Keeps r.left (State.nibEnd n len r) := by
  cases r <;> simp [State.nibEnd]

/-- A row keeps what its instruction keeps. -/
theorem State.nibRow_keeps (n : Nat) (f : NibInstr → Option NibRes) (h : ∀ i, ∀ r ∈ f i, Keeps s r.left) : Keeps s (s.nibRow n f) := by
  unfold State.nibRow
  repeat' split
  case h_1 r hr => exact (h _ r hr).trans (State.nibEnd_keeps ..)
  all_goals exact Keeps.refl s

/-! ### The instructions of the Nib engines (spec 10): one row for each instruction class. An engine executes what it fetches at its pc; the row of another class then does not occur. `r` says what an access to protected memory finds (R241). -/

@[simp] theorem execNibAlu_keeps (n : Fin 10) : Ends s (execNibAlu n s) := by
  refine (ends_next ..).2 (s.nibRow_keeps _ _ fun i r hr => ?_)
  obtain ⟨x, -, rfl⟩ := Option.map_eq_some_iff.mp hr
  exact Keeps.refl s

@[simp] theorem execNibBranch_keeps (n : Fin 10) : Ends s (execNibBranch n s) := by
  refine (ends_next ..).2 (s.nibRow_keeps _ _ fun i => ?_)
  split <;> simp

@[simp] theorem execNibJal_keeps (n : Fin 10) : Ends s (execNibJal n s) := by
  refine (ends_next ..).2 (s.nibRow_keeps _ _ fun i => ?_)
  split <;> simp

@[simp] theorem execNibJalr_keeps (n : Fin 10) : Ends s (execNibJalr n s) := by
  refine (ends_next ..).2 (s.nibRow_keeps _ _ fun i => ?_)
  split <;> simp

@[simp] theorem execNibMret_keeps (n : Fin 10) : Ends s (execNibMret n s) := by
  refine (ends_next ..).2 (s.nibRow_keeps _ _ fun i => ?_)
  split <;> simp

@[simp] theorem State.nibLoad_keeps (n f3 rd : Nat) (a : Word) (r : CellRead) : Keeps s (s.nibLoad n f3 rd a r).left := by simp [State.nibLoad]

@[simp] theorem execNibLoad_keeps (n : Fin 10) (r : CellRead) : Ends s (execNibLoad n r s) := by
  refine (ends_next ..).2 (s.nibRow_keeps _ _ fun i => ?_)
  split <;> simp

@[simp] theorem State.nibStore_keeps (n f3 : Nat) (a v : Word) : Keeps s (s.nibStore n f3 a v).left := by simp [State.nibStore]

@[simp] theorem execNibStore_keeps (n : Fin 10) : Ends s (execNibStore n s) := by
  refine (ends_next ..).2 (s.nibRow_keeps _ _ fun i => ?_)
  split <;> simp

@[simp] theorem execNibMul_keeps (n : Fin 10) : Ends s (execNibMul n s) := by
  refine (ends_next ..).2 (s.nibRow_keeps _ _ fun i => ?_)
  split <;> simp

@[simp] theorem execNibDiv_keeps (n : Fin 10) : Ends s (execNibDiv n s) := by
  refine (ends_next ..).2 (s.nibRow_keeps _ _ fun i => ?_)
  split <;> simp

@[simp] theorem State.nibCsr_keeps (n f3 rd src num : Nat) : Keeps s (s.nibCsr n f3 rd src num).left := by simp [State.nibCsr]

@[simp] theorem execNibCsrAccess_keeps (n : Fin 10) : Ends s (execNibCsrAccess n s) := by
  refine (ends_next ..).2 (s.nibRow_keeps _ _ fun i => ?_)
  split <;> simp

@[simp] theorem execNibFence_keeps (n : Fin 10) : Ends s (execNibFence n s) := by
  refine (ends_next ..).2 (s.nibRow_keeps _ _ fun i => ?_)
  split <;> simp

@[simp] theorem execNibWfi_keeps (n : Fin 10) : Ends s (execNibWfi n s) := by
  refine (ends_next ..).2 (s.nibRow_keeps _ _ fun i => ?_)
  split <;> simp

@[simp] theorem execNibEcall_keeps (n : Fin 10) : Ends s (execNibEcall n s) := by
  refine (ends_next ..).2 (s.nibRow_keeps _ _ fun i => ?_)
  split <;> simp

@[simp] theorem execNibEbreak_keeps (n : Fin 10) : Ends s (execNibEbreak n s) := by
  refine (ends_next ..).2 (s.nibRow_keeps _ _ fun i => ?_)
  split <;> simp

@[simp] theorem State.nibIllegal_keeps (n raw : Nat) : Keeps s (s.nibIllegal n raw).left := by simp [State.nibIllegal]

@[simp] theorem execNibIllegalInstruction_keeps (n : Fin 10) (parity : Bool) : Ends s (execNibIllegalInstruction n parity s) := by
  simp only [execNibIllegalInstruction]
  repeat' split
  all_goals simp

@[simp] theorem State.vgBext_keeps (n rd : Nat) (a spec : Word) (raw : Nat) (r : CellRead) : Keeps s (s.vgBext n rd a spec raw r).left := by
  simp [State.vgBext]

@[simp] theorem execVgBext_keeps (n : Fin 10) (r : CellRead) : Ends s (execVgBext n r s) := by
  refine (ends_next ..).2 (s.nibRow_keeps _ _ fun i => ?_)
  split <;> simp

@[simp] theorem execVgBswap_keeps (n : Fin 10) : Ends s (execVgBswap n s) := by
  refine (ends_next ..).2 (s.nibRow_keeps _ _ fun i => ?_)
  split <;> simp

@[simp] theorem State.vgBins_keeps (n : Nat) (a spec v : Word) (raw : Nat) (r : CellRead) : Keeps s (s.vgBins n a spec v raw r).left := by
  simp [State.vgBins]

@[simp] theorem execVgBins_keeps (n : Fin 10) (r : CellRead) : Ends s (execVgBins n r s) := by
  refine (ends_next ..).2 (s.nibRow_keeps _ _ fun i => ?_)
  split <;> simp

@[simp] theorem State.vgScale_keeps (n rd : Nat) (raw : Int) (d : Word) (r : CellRead) : Keeps s (s.vgScale n rd raw d r).left := by simp [State.vgScale]

@[simp] theorem execVgScale_keeps (n : Fin 10) (r : CellRead) : Ends s (execVgScale n r s) := by
  refine (ends_next ..).2 (s.nibRow_keeps _ _ fun i => ?_)
  split <;> simp

@[simp] theorem execVgScaleu_keeps (n : Fin 10) (r : CellRead) : Ends s (execVgScaleu n r s) := by
  refine (ends_next ..).2 (s.nibRow_keeps _ _ fun i => ?_)
  split <;> simp

@[simp] theorem execVgCrcb_keeps (n : Fin 10) : Ends s (execVgCrcb n s) := by
  refine (ends_next ..).2 (s.nibRow_keeps _ _ fun i => ?_)
  split <;> simp

@[simp] theorem execVgCrcw_keeps (n : Fin 10) : Ends s (execVgCrcw n s) := by
  refine (ends_next ..).2 (s.nibRow_keeps _ _ fun i => ?_)
  split <;> simp

@[simp] theorem State.vgCrcm_keeps (n p rd : Nat) (a len : Word) (r : CellRead) : Keeps s (s.vgCrcm n p rd a len r).left := by simp [State.vgCrcm]

@[simp] theorem execVgCrcm_keeps (n : Fin 10) (r : CellRead) : Ends s (execVgCrcm n r s) := by
  refine (ends_next ..).2 (s.nibRow_keeps _ _ fun i => ?_)
  split <;> simp

@[simp] theorem execVgTrd_keeps (n : Fin 10) : Ends s (execVgTrd n s) := by
  refine (ends_next ..).2 (s.nibRow_keeps _ _ fun i => ?_)
  split <;> simp

@[simp] theorem execVgTlat_keeps (n : Fin 10) : Ends s (execVgTlat n s) := by
  refine (ends_next ..).2 (s.nibRow_keeps _ _ fun i => ?_)
  split <;> simp

@[simp] theorem execVgAwait_keeps (n : Fin 10) : Ends s (execVgAwait n s) := by
  refine (ends_next ..).2 (s.nibRow_keeps _ _ fun i => ?_)
  split
  · refine some_left_keeps ?_
    split
    · exact s.nibTake_keeps _ _ _ ‹_›
    · simp
  · simp

@[simp] theorem execVgPollev_keeps (n : Fin 10) : Ends s (execVgPollev n s) := by
  refine (ends_next ..).2 (s.nibRow_keeps _ _ fun i => ?_)
  split
  · refine some_left_keeps ?_
    split
    · exact s.nibTake_keeps _ _ _ ‹_›
    · simp
  · simp

@[simp] theorem execAwaitReturn_keeps (n : Fin 10) : Ends s (execAwaitReturn n s) := by
  simp only [execAwaitReturn]
  split
  · simp
  · split
    · split
      · simpa using s.nibTake_keeps _ _ _ ‹_›
      · simp
    · simp
    · simp

@[simp] theorem execVgRing_keeps (n : Fin 10) : Ends s (execVgRing n s) := by
  refine (ends_next ..).2 (s.nibRow_keeps _ _ fun i => ?_)
  split <;> simp

@[simp] theorem execNibDoorbellWrite_keeps (n : Fin 10) (v : BitVec 24) : Ends s (execNibDoorbellWrite n v s) := by simp [execNibDoorbellWrite]

@[simp] theorem State.nibTimerSet_keeps (n t : Nat) (periodic : Bool) (period : Nat) : Keeps s (s.nibTimerSet n t periodic period) := by
  simp [State.nibTimerSet]

@[simp] theorem execVgTset_keeps (n : Fin 10) : Ends s (execVgTset n s) := by
  refine (ends_next ..).2 (s.nibRow_keeps _ _ fun i => ?_)
  split <;> simp

@[simp] theorem execNibTimerWrite_keeps (n : Fin 10) (t : Fin 4) (periodic : Bool) (period : BitVec 24) :
    Ends s (execNibTimerWrite n t periodic period s) := by
  simp [execNibTimerWrite]

@[simp] theorem execNibTimerExpiry_keeps (n : Fin 10) (t : Fin 4) : Ends s (execNibTimerExpiry n t s) := by simp [execNibTimerExpiry]

@[simp] theorem State.nibRelease_keeps (n : Nat) : ∀ t, s.nibRelease n = some t → Keeps s t := by
  unfold State.nibRelease
  repeat' split
  all_goals simp

@[simp] theorem State.nibPop_keeps (n q : Nat) : Keeps s (s.nibPop n q).1 := by
  simp only [State.nibPop]
  repeat' split
  all_goals simp

@[simp] theorem execVgPop_keeps (n : Fin 10) : Ends s (execVgPop n s) := by
  refine (ends_next ..).2 (s.nibRow_keeps _ _ fun i => ?_)
  split
  · refine some_left_keeps ?_
    split
    · simp
    · split
      · simp
      · simpa using s.nibRelease_keeps _ _ ‹_›
  · simp

@[simp] theorem execVgRel_keeps (n : Fin 10) : Ends s (execVgRel n s) := by
  refine (ends_next ..).2 (s.nibRow_keeps _ _ fun i => ?_)
  split
  · refine some_left_keeps ?_
    split
    · simp
    · simpa using s.nibRelease_keeps _ _ ‹_›
  · simp

@[simp] theorem execVgQlen_keeps (n : Fin 10) : Ends s (execVgQlen n s) := by
  refine (ends_next ..).2 (s.nibRow_keeps _ _ fun i => ?_)
  split <;> simp

@[simp] theorem State.pushInject_keeps (p : Nat) (bs : List Byte) (req : Bool) : Keeps s (s.pushInject p bs req) := by simp [State.pushInject]

@[simp] theorem State.pushQueue_keeps (p q : Nat) (bs : List Byte) (req : Bool) : Keeps s (s.pushQueue p q bs req).1 := by
  simp only [State.pushQueue]
  split
  all_goals exact Keeps.of_fst (State.offerKeep_keeps _ _ _ _ _) ‹_›

@[simp] theorem State.pushFifo_keeps (f flags : Nat) (bs : List Byte) : Keeps s (s.pushFifo f flags bs).1 := by unfold State.pushFifo; split <;> simp
@[simp] theorem State.pushOut_keeps (d : SendDesc) (bs : List Byte) : Keeps s (s.pushOut d bs).1 := by unfold State.pushOut; split <;> simp

@[simp] theorem State.vgPush_keeps (n rd : Nat) (a : Word) (r : CellRead) : Keeps s (s.vgPush n rd a r).left := by
  simp only [State.vgPush]
  repeat' split
  all_goals simp

@[simp] theorem execVgPush_keeps (n : Fin 10) (r : CellRead) : Ends s (execVgPush n r s) := by
  refine (ends_next ..).2 (s.nibRow_keeps _ _ fun i => ?_)
  split <;> simp

@[simp] theorem State.cellPut_keeps (o v : Nat) : Keeps s (s.cellPut o v) := by simp [State.cellPut]

@[simp] theorem execVgSput_keeps (n : Fin 10) : Ends s (execVgSput n s) := by
  refine (ends_next ..).2 (s.nibRow_keeps _ _ fun i => ?_)
  split
  · refine some_left_keeps ?_
    split <;> simp
  · simp

@[simp] theorem execVgSage_keeps (n : Fin 10) (r : CellRead) : Ends s (execVgSage n r s) := by
  refine (ends_next ..).2 (s.nibRow_keeps _ _ fun i => ?_)
  split
  · refine some_left_keeps ?_
    split <;> simp
  · simp

@[simp] theorem execVgAmoadd_keeps (n : Fin 10) (r : CellRead) : Ends s (execVgAmoadd n r s) := by
  refine (ends_next ..).2 (s.nibRow_keeps _ _ fun i => ?_)
  split
  · refine some_left_keeps ?_
    split <;> simp
  · simp

@[simp] theorem execNibWatchdog_keeps (n : Fin 10) : Ends s (execNibWatchdog n s) := by simp [execNibWatchdog]
@[simp] theorem execNibHaltCmd_keeps (n : Fin 10) : Ends s (execNibHaltCmd n s) := by simp [execNibHaltCmd]
@[simp] theorem State.nibReset_keeps (n : Nat) : Keeps s (s.nibReset n) := by unfold State.nibReset; split <;> simp
@[simp] theorem State.nibStart_keeps (n : Nat) : Keeps s (s.nibStart n) := by simp [State.nibStart]
@[simp] theorem execNibRun_keeps (n : Fin 10) : Ends s (execNibRun n s) := by simp [execNibRun]
@[simp] theorem execEngineRecovery_keeps (n : Fin 10) : Ends s (execEngineRecovery n s) := by simp [execEngineRecovery]

@[simp] theorem execSignalStoreScrub_keeps (word : Fin 262144) (uncorr : Bool) : Ends s (execSignalStoreScrub word uncorr s) := by
  simp [execSignalStoreScrub]

@[simp] theorem execNibCntClr_keeps (n : Fin 10) : Ends s (execNibCntClr n s) := by simp [execNibCntClr]
@[simp] theorem State.nibStop_keeps : Keeps s s.nibStop := by simp [State.nibStop]
@[simp] theorem State.nibResume_keeps : Keeps s s.nibResume := by simp [State.nibResume]

/-! ### The signal gateway (spec 11): signal limiters, and what the gateway program does with its tables in the Signal Store (R256 to R263). A gateway row is the program's effect on the Signal Store, the queues and its own state; the engine's registers and pc are those of the instruction rows. -/

@[simp] theorem execSigRlRefill_keeps (j : Fin 256) : Ends s (execSigRlRefill j s) := by simp [execSigRlRefill]
@[simp] theorem State.sigLimitersFull_keeps : Keeps s s.sigLimitersFull := by simp [State.sigLimitersFull]
@[simp] theorem execSigCntClr_keeps : Ends s (execSigCntClr s) := by simp [execSigCntClr]
@[simp] theorem State.ssPut_keeps (o v : Nat) : Keeps s (s.ssPut o v) := by simp [State.ssPut]
@[simp] theorem State.gwCount_keeps (off : Nat) : Keeps s (s.gwCount off) := by simp [State.gwCount]

@[simp] theorem execGatewayStart_keeps (n : Fin 10) : Ends s (execGatewayStart n s) := by
  simp only [execGatewayStart]
  split
  · simp
  · split
    · simpa using s.nibTake_keeps _ _ _ ‹_›
    · simp

@[simp] theorem State.gwTrigger_keeps (m : Nat) : Keeps s (s.gwTrigger m) := by simp [State.gwTrigger]
@[simp] theorem State.unpackOne_keeps (data : List Byte) (x : ListEnt) : Keeps s (s.unpackOne data x) := by simp [State.unpackOne]
@[simp] theorem State.unpack_keeps (i : Nat) (data : List Byte) : Keeps s (s.unpack i data) := by simp [State.unpack]

@[simp] theorem State.gwTelegram_keeps (t : List Byte) (udpLen : Nat) : Keeps s (s.gwTelegram t udpLen) := by
  unfold State.gwTelegram
  repeat' split
  all_goals simp

@[simp] theorem State.gwFrame_keeps (f : Frame) : Keeps s (s.gwFrame f) := by
  simp only [State.gwFrame]
  repeat' split
  all_goals simp

@[simp] theorem execGatewayFrameUnpack_keeps (n : Fin 10) (j : Fin 64) : Ends s (execGatewayFrameUnpack n j s) := by
  have again : ∀ t : State, Keeps t ((t.nibRelease n).getD t) := by
    intro t
    cases h : t.nibRelease n with
    | none => exact Keeps.refl t
    | some u => exact t.nibRelease_keeps _ _ h
  simp only [execGatewayFrameUnpack]
  split
  · simp
  · split
    · simp
    · refine (ends_next ..).2 (Keeps.trans ((s.nibRelease_keeps _ _ ‹_›).trans ?_) (again _))
      split
      · split <;> simp
      · simp

@[simp] theorem State.gwMark_keeps (l : List ListEnt) : Keeps s (s.gwMark l) := by simp [State.gwMark]

@[simp] theorem State.gwPush_keeps (target : Nat) (bs : List Byte) : Keeps s (s.gwPush target bs).1 := by
  unfold State.gwPush
  repeat' split
  all_goals simp

@[simp] theorem State.gwSend_keeps (n m : Nat) : Keeps s (s.gwSend n m) := by simp [State.gwSend]

@[simp] theorem execGatewayScheduledSend_keeps (n : Fin 10) (m : Fin 4096) : Ends s (execGatewayScheduledSend n m s) := by
  simp [execGatewayScheduledSend]

@[simp] theorem execGatewayTriggeredSend_keeps (n : Fin 10) (m : Fin 4096) : Ends s (execGatewayTriggeredSend n m s) := by
  simp [execGatewayTriggeredSend]

/-! ### Load channels (spec 20): the power-die configuration, load profiles, the protection, retry and latch, commands, and diagnosis. -/

@[simp] theorem State.setLoad_keeps (n : Nat) (c : LoadCh) : Keeps s (s.setLoad n c) := by simp [State.setLoad]
@[simp] theorem State.applyPdConfig_keeps (bs : List Byte) : Keeps s (s.applyPdConfig bs) := by simp [State.applyPdConfig]
@[simp] theorem State.offerPdConfig_keeps (bs : List Byte) : Keeps s (s.offerPdConfig bs) := by simp [State.offerPdConfig]
@[simp] theorem State.configService_keeps : Keeps s s.configService := by unfold State.configService; split <;> simp
@[simp] theorem State.applyLoadRec_keeps (n : Nat) (r : LoadRec) : Keeps s (s.applyLoadRec n r) := by simp [State.applyLoadRec]
@[simp] theorem State.offerLoadRec_keeps (n : Nat) (r : LoadRec) : Keeps s (s.offerLoadRec n r) := by simp [State.offerLoadRec]
@[simp] theorem State.lcGateOff_keeps (n st : Nat) : Keeps s (s.lcGateOff n st) := by simp [State.lcGateOff]

@[simp] theorem State.lcGoesOff_keeps (n st : Nat) : Keeps s (s.lcGoesOff n st) := by
  simp only [State.lcGoesOff]
  repeat' split
  all_goals simp

@[simp] theorem State.lcSwitchOn_keeps (n : Nat) : Keeps s (s.lcSwitchOn n) := by simp [State.lcSwitchOn]

@[simp] theorem State.bankService_keeps (b : Nat) : Keeps s (s.bankService b) := by
  unfold State.bankService
  repeat' split
  all_goals simp

@[simp] theorem State.lcReport_keeps (src n : Nat) : Keeps s (s.lcReport src n) := by simp [State.lcReport]
@[simp] theorem State.lcLatch_keeps (n : Nat) : Keeps s (s.lcLatch n) := by simp [State.lcLatch]
@[simp] theorem State.lcPauses_keeps (n : Nat) : Keeps s (s.lcPauses n) := by simp [State.lcPauses]
@[simp] theorem State.lcCount_keeps (n code : Nat) : Keeps s (s.lcCount n code) := by simp [State.lcCount]
@[simp] theorem State.lcFault_keeps (n code : Nat) : Keeps s (s.lcFault n code) := by simp [State.lcFault]
@[simp] theorem State.lcEpisode_keeps (n peak lt : Nat) : Keeps s (s.lcEpisode n peak lt) := by simp [State.lcEpisode]
@[simp] theorem State.lcOnOne_keeps (n : Nat) : Keeps s (s.lcOnOne n) := by simp [State.lcOnOne]
@[simp] theorem State.lcOffOne_keeps (n : Nat) : Keeps s (s.lcOffOne n) := by simp [State.lcOffOne]
@[simp] theorem State.lcClrOne_keeps (n : Nat) : Keeps s (s.lcClrOne n) := by simp [State.lcClrOne]

@[simp] theorem State.eachOf_keeps (mask : Nat) (f : State → Nat → State) (h : ∀ t n, Keeps t (f t n)) : Keeps s (s.eachOf mask f) := by
  simp [State.eachOf, h]

@[simp] theorem execLcOn_keeps (mask : BitVec 24) : Ends s (execLcOn mask s) := by simp [execLcOn]
@[simp] theorem execLcOff_keeps (mask : BitVec 24) : Ends s (execLcOff mask s) := by simp [execLcOff]
@[simp] theorem execLcClr_keeps (mask : BitVec 24) : Ends s (execLcClr mask s) := by simp [execLcClr]

@[simp] theorem execShortCircuitTrip_keeps (n : Fin 24) (i10mA lt10uJ : Nat) : Ends s (execShortCircuitTrip n i10mA lt10uJ s) := by
  simp [execShortCircuitTrip]

@[simp] theorem execOvercurrentTrip_keeps (n : Fin 24) (i10mA lt10uJ : Nat) : Ends s (execOvercurrentTrip n i10mA lt10uJ s) := by
  simp [execOvercurrentTrip]

@[simp] theorem execEnergyTrip_keeps (n : Fin 24) (i10mA lt10uJ : Nat) : Ends s (execEnergyTrip n i10mA lt10uJ s) := by simp [execEnergyTrip]
@[simp] theorem execThermalTrip_keeps (n : Fin 24) : Ends s (execThermalTrip n s) := by simp [execThermalTrip]
@[simp] theorem execDriverSenseFault_keeps (n : Fin 24) : Ends s (execDriverSenseFault n s) := by simp [execDriverSenseFault]
@[simp] theorem execInrushEnd_keeps (n : Fin 24) : Ends s (execInrushEnd n s) := by simp [execInrushEnd]
@[simp] theorem execLcPauseEnd_keeps (n : Fin 24) : Ends s (execLcPauseEnd n s) := by simp [execLcPauseEnd]
@[simp] theorem execFaultCountReset_keeps (n : Fin 24) : Ends s (execFaultCountReset n s) := by simp [execFaultCountReset]
@[simp] theorem execVldDip_keeps (b : Fin 4) (mv : Nat) : Ends s (execVldDip b mv s) := by simp [execVldDip]
@[simp] theorem execVldDipEnd_keeps (b : Fin 4) (mv : Nat) : Ends s (execVldDipEnd b mv s) := by simp [execVldDipEnd]
@[simp] theorem execOpenLoadOn_keeps (n : Fin 24) (i10mA : Nat) : Ends s (execOpenLoadOn n i10mA s) := by simp [execOpenLoadOn]
@[simp] theorem execOffStateDiag_keeps (n : Fin 24) (before after : Bool) : Ends s (execOffStateDiag n before after s) := by simp [execOffStateDiag]
@[simp] theorem execVbatWarningClear_keeps : Ends s (execVbatWarningClear s) := by simp [execVbatWarningClear]
@[simp] theorem State.lcAbsent_keeps : Keeps s s.lcAbsent := by simp [State.lcAbsent]
@[simp] theorem State.lcAdopted_keeps : Keeps s s.lcAdopted := by simp [State.lcAdopted]
@[simp] theorem State.lcTick_keeps (n : Nat) : Keeps s (s.lcTick n) := by simp [State.lcTick]
@[simp] theorem State.lcWireTick_keeps : Keeps s s.lcWireTick := by simp [State.lcWireTick]

/-! ### 10BASE-T1S lanes (spec 06 R126 to R132, R142, R143): receiving, PLCA, CSMA/CD. -/

@[simp] theorem State.t1sCnt_keeps (n k : Nat) : Keeps s (s.t1sCnt n k) := by simp [State.t1sCnt]
@[simp] theorem State.laneNote_keeps (n : Nat) : Keeps s (s.laneNote n) := by simp [State.laneNote]
@[simp] theorem State.t1sShow_keeps (n : Nat) : Keeps s (s.t1sShow n) := by simp [State.t1sShow]
@[simp] theorem State.t1sMode_keeps (n : Nat) (csma : Bool) : Keeps s (s.t1sMode n csma) := by simp [State.t1sMode]
@[simp] theorem State.t1sOppEnd_keeps (n : Nat) : Keeps s (s.t1sOppEnd n) := by simp [State.t1sOppEnd]
@[simp] theorem State.t1sCycle_keeps (n : Nat) : Keeps s (s.t1sCycle n) := by simp [State.t1sCycle]
@[simp] theorem State.t1sEnded_keeps (n : Nat) : Keeps s (s.t1sEnded n) := by unfold State.t1sEnded; split <;> simp

@[simp] theorem State.t1sSettle_keeps (n : Nat) : Keeps s (s.t1sSettle n) := by
  simp only [State.t1sSettle]
  repeat' split
  all_goals simp

@[simp] theorem State.t1sHead_keeps (n c fuel : Nat) : Keeps s (s.t1sHead n c fuel).1 := by
  induction fuel generalizing s with
  | zero => simp [State.t1sHead]
  | succ fuel ih =>
    simp only [State.t1sHead]
    repeat' split
    all_goals simp [ih]

@[simp] theorem State.t1sTake_keeps (n q : Nat) (e : QEnt) (r : Option Bool × List Byte) : Keeps s (s.t1sTake n q e r) := by simp [State.t1sTake]

@[simp] theorem State.t1sStart_keeps (n : Nat) : Keeps s (s.t1sStart n) := by
  simp only [State.t1sStart]
  split
  · simp
  · split
    · simp
    · refine foldl_fst_keeps _ (fun p c => ?_) _ _
      split
      · simp
      · split
        all_goals simpa using Keeps.of_fst (State.t1sHead_keeps ..) ‹_›

@[simp] theorem execT1sOpportunity_keeps (n : Fin 24) (id : BitVec 8) : Ends s (execT1sOpportunity n id s) := by simp [execT1sOpportunity]
@[simp] theorem execT1sToTimer_keeps (n : Fin 24) : Ends s (execT1sToTimer n s) := by simp [execT1sToTimer]
@[simp] theorem execT1sBurstTimer_keeps (n : Fin 24) : Ends s (execT1sBurstTimer n s) := by simp [execT1sBurstTimer]
@[simp] theorem execT1sBeaconSend_keeps (n : Fin 24) : Ends s (execT1sBeaconSend n s) := by simp [execT1sBeaconSend]
@[simp] theorem execT1sBeaconRx_keeps (n : Fin 24) : Ends s (execT1sBeaconRx n s) := by simp [execT1sBeaconRx]
@[simp] theorem execBeaconLoss_keeps (n : Fin 24) : Ends s (execBeaconLoss n s) := by simp [execBeaconLoss]
@[simp] theorem State.t1sAbandon_keeps (n : Nat) (t : Tx) : Keeps s (s.t1sAbandon n t) := by unfold State.t1sAbandon; split <;> simp

@[simp] theorem execT1sCollision_keeps (n : Fin 24) (r : BitVec 10) : Ends s (execT1sCollision n r s) := by
  simp only [execT1sCollision]
  repeat' split
  all_goals simp

@[simp] theorem execT1sBackoffEnd_keeps (n : Fin 24) : Ends s (execT1sBackoffEnd n s) := by simp [execT1sBackoffEnd]
@[simp] theorem execEnergyDetect_keeps (n : Fin 24) (level : Bool) : Ends s (execEnergyDetect n level s) := by simp [execEnergyDetect]
@[simp] theorem execT1sEdTimeout_keeps (n : Fin 24) : Ends s (execT1sEdTimeout n s) := by simp [execT1sEdTimeout]

@[simp] theorem execT1sFrameRx_keeps (n : Fin 24) (bs : List Byte) (fcsGood : Bool) : Ends s (execT1sFrameRx n bs fcsGood s) := by
  simp only [execT1sFrameRx]
  repeat' split
  all_goals simp

@[simp] theorem execT1sCntClr_keeps (n : Fin 24) : Ends s (execT1sCntClr n s) := by simp [execT1sCntClr]
@[simp] theorem State.t1sConfigured_keeps (n : Nat) : Keeps s (s.t1sConfigured n) := by simp [State.t1sConfigured]

/-! ### MVB lanes (spec 06 R133 to R143; 11 R255): device, bus administrator, process data. -/

@[simp] theorem State.mvbCnt_keeps (n k : Nat) : Keeps s (s.mvbCnt n k) := by simp [State.mvbCnt]
@[simp] theorem State.mvbWrite_keeps (n k : Nat) (bs : List Byte) : Keeps s (s.mvbWrite n k bs) := by simp [State.mvbWrite]
@[simp] theorem State.mvbStamp_keeps (n : Nat) : Keeps s (s.mvbStamp n) := by simp [State.mvbStamp]

@[simp] theorem State.mvbAnswer_keeps (n f a : Nat) : Keeps s (s.mvbAnswer n f a) := by
  simp only [State.mvbAnswer]
  repeat' split
  all_goals simp

@[simp] theorem execMvbMasterFrameRx_keeps (n : Fin 24) (fcode : BitVec 4) (addr : BitVec 12) (ok : Bool) :
    Ends s (execMvbMasterFrameRx n fcode addr ok s) := by
  simp [execMvbMasterFrameRx]

@[simp] theorem execMvbReplySend_keeps (n : Fin 24) : Ends s (execMvbReplySend n s) := by unfold execMvbReplySend; split <;> simp
@[simp] theorem State.mvbTimeout_keeps (n : Nat) : Keeps s (s.mvbTimeout n) := by simp [State.mvbTimeout]
@[simp] theorem State.mvbSink_keeps (n k : Nat) (bs : List Byte) : Keeps s (s.mvbSink n k bs) := by simp [State.mvbSink]

@[simp] theorem State.mvbSlave_keeps (n key : Nat) (bs : List Byte) : Keeps s (s.mvbSlave n key bs) := by
  simp only [State.mvbSlave]
  repeat' split
  all_goals simp

@[simp] theorem execMvbSlaveFrameRx_keeps (n : Fin 24) (data : List Byte) (ok : Bool) : Ends s (execMvbSlaveFrameRx n data ok s) := by
  unfold execMvbSlaveFrameRx
  repeat' split
  all_goals simp

@[simp] theorem execMvbReplyTimeout_keeps (n : Fin 24) : Ends s (execMvbReplyTimeout n s) := by simp [execMvbReplyTimeout]
@[simp] theorem execMvbSilenceTimeout_keeps (n : Fin 24) : Ends s (execMvbSilenceTimeout n s) := by simp [execMvbSilenceTimeout]
@[simp] theorem execMvbBasicPeriod_keeps (n : Fin 24) : Ends s (execMvbBasicPeriod n s) := by simp [execMvbBasicPeriod]
@[simp] theorem State.mvbPollOut_keeps (n key : Nat) : Keeps s (s.mvbPollOut n key) := by simp [State.mvbPollOut]
@[simp] theorem State.mvbOverrun_keeps (n : Nat) : Keeps s (s.mvbOverrun n) := by simp [State.mvbOverrun]

@[simp] theorem State.mvbPeriodic_keeps (n left fuel : Nat) : Keeps s (s.mvbPeriodic n left fuel).1 := by
  induction fuel generalizing s with
  | zero => simp [State.mvbPeriodic]
  | succ fuel ih =>
    simp only [State.mvbPeriodic]
    repeat' split
    all_goals simp [ih]

@[simp] theorem State.mvbSrcUpdate_keeps (n : Nat) (x : LaneFrame) : Keeps s (s.mvbSrcUpdate n x) := by
  unfold State.mvbSrcUpdate
  repeat' split
  all_goals simp

@[simp] theorem State.mvbHeads_keeps (n c fuel : Nat) : Keeps s (s.mvbHeads n c fuel) := by
  induction fuel generalizing s with
  | zero => simp [State.mvbHeads]
  | succ fuel ih =>
    simp only [State.mvbHeads]
    repeat' split
    all_goals simp [ih]

@[simp] theorem State.mvbService_keeps (n : Nat) : Keeps s (s.mvbService n) := by simp [State.mvbService]

@[simp] theorem State.mvbSporadic_keeps (n left : Nat) : Keeps s (s.mvbSporadic n left) := by
  simp only [State.mvbSporadic]
  repeat' split
  all_goals simp

@[simp] theorem execMvbPollSend_keeps (n : Fin 24) (left : Nat) : Ends s (execMvbPollSend n left s) := by simp [execMvbPollSend]
@[simp] theorem execMvbSrcUpdate_keeps (n : Fin 24) : Ends s (execMvbSrcUpdate n s) := by simp [execMvbSrcUpdate]
@[simp] theorem execMvbCntClr_keeps (n : Fin 24) : Ends s (execMvbCntClr n s) := by simp [execMvbCntClr]
@[simp] theorem State.mvbConfigured_keeps (n : Nat) (wasAdmin : Bool) : Keeps s (s.mvbConfigured n wasAdmin) := by simp [State.mvbConfigured]

/-! ### Interrupts to the host and the descriptor rings (spec 16). -/

@[simp] theorem State.msixSend_keeps (v : Nat) : Keeps s (s.msixSend v) := by simp [State.msixSend]
@[simp] theorem State.msixVector_keeps (v : Nat) : Keeps s (s.msixVector v) := by simp [State.msixVector]
@[simp] theorem State.msixService_keeps : Keeps s s.msixService := by simp [State.msixService]
@[simp] theorem execDmaVecRearm_keeps (mask : BitVec 64) : Ends s (execDmaVecRearm mask s) := by simp [execDmaVecRearm]
@[simp] theorem State.setRing_keeps (r : Nat) (x : DmaRing) : Keeps s (s.setRing r x) := by simp [State.setRing]
@[simp] theorem State.setRingMem_keeps (r : Nat) (m : Mem) : Keeps s (s.setRingMem r m) := by simp [State.setRingMem]
@[simp] theorem State.ringSw_keeps (r : Nat) (sw : List Host.Cell) : Keeps s (s.ringSw r sw) := by simp [State.ringSw]
@[simp] theorem State.ringCnt_keeps (r k n : Nat) : Keeps s (s.ringCnt r k n) := by simp [State.ringCnt]
@[simp] theorem State.ringDone_keeps (r : Nat) : Keeps s (s.ringDone r) := by simp [State.ringDone]
@[simp] theorem State.ringAdvance_keeps (r n : Nat) : Keeps s (s.ringAdvance r n) := by simp [State.ringAdvance]
@[simp] theorem State.rxFinish_keeps (r : Nat) (e : QEnt) : Keeps s (s.rxFinish r e) := by simp [State.rxFinish]
@[simp] theorem State.dropHeld_keeps (r : Nat) : Keeps s (s.dropHeld r) := by unfold State.dropHeld; split <;> simp
@[simp] theorem State.returnHeld_keeps (r : Nat) : Keeps s (s.returnHeld r) := by unfold State.returnHeld; split <;> simp
@[simp] theorem State.ringError_keeps (r : Nat) : Keeps s (s.ringError r) := by simp [State.ringError]
@[simp] theorem State.rxData_keeps (r : Nat) (bs : List Byte) (lo hi : Nat) : Keeps s (s.rxData r bs lo hi) := by simp [State.rxData]
@[simp] theorem State.rxBack_keeps (r : Nat) (f : Frame) (len time n : Nat) : Keeps s (s.rxBack r f len time n) := by simp [State.rxBack]
@[simp] theorem State.rxWrite_keeps (r : Nat) (e : QEnt) (f : Frame) (lo time : Nat) : Keeps s (s.rxWrite r e f lo time) := by simp [State.rxWrite]

@[simp] theorem execDmaRxFrame_keeps (r : Fin 32) (sw : List Host.Cell) : Ends s (execDmaRxFrame r sw s) := by
  simp only [execDmaRxFrame]
  repeat' split
  all_goals simp

@[simp] theorem execDmaRxHoldTimeout_keeps (r : Fin 32) : Ends s (execDmaRxHoldTimeout r s) := by simp [execDmaRxHoldTimeout]

@[simp] theorem State.txHand_keeps (ds : List TxDesc) (bs : List Byte) : Keeps s (s.txHand ds bs).1 := by
  simp only [State.txHand]
  repeat' split
  all_goals simp

@[simp] theorem State.txBack_keeps (r code n : Nat) : Keeps s (s.txBack r code n) := by simp [State.txBack]
@[simp] theorem State.txCount_keeps (r code len : Nat) : Keeps s (s.txCount r code len) := by simp [State.txCount]
@[simp] theorem State.txServe_keeps (r n : Nat) : Keeps s (s.txServe r n) := by simp [State.txServe]

@[simp] theorem execDmaTxFrame_keeps (j : Fin 32) (sw : List Host.Cell) : Ends s (execDmaTxFrame j sw s) := by
  simp only [execDmaTxFrame]
  repeat' split
  all_goals simp

@[simp] theorem State.holdEnd_keeps (r : Nat) : Keeps s (s.holdEnd r) := by unfold State.holdEnd; split <;> simp
@[simp] theorem execDmaRingTailWrite_keeps (r : Fin 64) (v : BitVec 15) : Ends s (execDmaRingTailWrite r v s) := by simp [execDmaRingTailWrite]
@[simp] theorem execDmaRingRestart_keeps (r : Fin 64) : Ends s (execDmaRingRestart r s) := by simp [execDmaRingRestart]
@[simp] theorem execDmaRingEnWrite_keeps (r : Fin 64) (w : Word) : Ends s (execDmaRingEnWrite r w s) := by simp [execDmaRingEnWrite]
@[simp] theorem execDmaCoalesceTimer_keeps (r : Fin 64) : Ends s (execDmaCoalesceTimer r s) := by simp [execDmaCoalesceTimer]
@[simp] theorem execDmaCplTimeout_keeps (r : Fin 64) : Ends s (execDmaCplTimeout r s) := by simp [execDmaCplTimeout]
@[simp] theorem execDmaCntClr_keeps : Ends s (execDmaCntClr s) := by simp [execDmaCntClr]
@[simp] theorem State.hostRingsStop_keeps : Keeps s s.hostRingsStop := by simp [State.hostRingsStop]
@[simp] theorem execPcieBmeClear_keeps (d3 : Bool) : Ends s (execPcieBmeClear d3 s) := by simp [execPcieBmeClear]

theorem ringFields_id : ∀ f ∈ ringFields, 5 ≤ f.id := by decide

@[simp] theorem State.ringsReset_keeps (p : Nat → Bool) : Keeps s (s.ringsReset p) := by
  have fields : Keeps s (ringFields.foldl (fun (t : State) f => t.clearWhere f p) s) :=
    foldl_keeps_mem _ (fun t f hf => t.clearWhere_keeps f p (ringFields_id f hf)) s
  simpa [State.ringsReset] using fields

@[simp] theorem State.pcieReset_keeps : Keeps s s.pcieReset := by simp [State.pcieReset]

@[simp] theorem execPcieLinkUp_keeps (speed : Fin 4) (lanes : Fin 3) (cfg : HostCfg) : Ends s (execPcieLinkUp speed lanes cfg s) := by
  simp [execPcieLinkUp]

/-! ### The register bank (spec 00 R4 to R8, 24 R445): which register words an offset names, the value that the fields of a register spell, held and latched upper words, and what a write stores by the fields' types. -/

@[simp] theorem State.hold_keeps (ini : Initiator) (a val : Nat) : Keeps s (s.hold ini a val) := by simp [State.hold]
@[simp] theorem State.unhold_keeps (ini : Initiator) (a n : Nat) : Keeps s (s.unhold ini a n) := by simp [State.unhold]
@[simp] theorem State.latch_keeps (ini : Initiator) (a n v : Nat) : Keeps s (s.latch ini a n v) := by simp [State.latch]
@[simp] theorem State.unlatch_keeps (ini : Initiator) (a : Nat) : Keeps s (s.unlatch ini a) := by simp [State.unlatch]

/-! ### The table and memory windows (spec 24, and the chapter of each window): what a read of a 32-bit word returns, and what a write does. A window of bytes holds byte `k` at offset `k`; a 32-bit word holds the byte of its lowest offset in bits [7:0] (00 R3). -/

@[simp] theorem State.portWrite_keeps (a v n : Nat) : Keeps s (s.portWrite a v n) := by
  simp only [State.portWrite]
  repeat' split
  all_goals simp

@[simp] theorem State.sramWrite_keeps (a v : Nat) : Keeps s (s.sramWrite a v) := by unfold State.sramWrite; split <;> simp

theorem some_keeps {s t u : State} (h : Keeps s t) : some t = some u → Keeps s u := by
  rintro ⟨⟩
  exact h

theorem ite_some_keeps {c : Prop} [Decidable c] {s u : State} {a b : Option State} (ha : a = some u → Keeps s u) (hb : b = some u → Keeps s u) :
    (if c then a else b) = some u → Keeps s u := by
  split
  · exact ha
  · exact hb

theorem State.winWrite_keeps (a v : Nat) (t : State) : s.winWrite a v = some t → Keeps s t := by
  unfold State.winWrite
  iterate 8 refine ite_some_keeps (some_keeps (by simp)) ?_
  split
  · exact some_keeps (by simp)
  · refine ite_some_keeps (some_keeps (by simp)) ?_
    split
    · exact some_keeps (by simp)
    · nofun

@[simp] theorem State.winWrite_getD_keeps (a v : Nat) : Keeps s ((s.winWrite a v).getD s) := by
  cases h : s.winWrite a v with
  | none => exact Keeps.refl s
  | some t => exact s.winWrite_keeps a v t h

/-! ### The Scroll (spec 02): its format and checks, the loading of hard and soft sections, restructures. -/

@[simp] theorem State.loadMemory_keeps (mem que : List Byte) : Keeps s (s.loadMemory mem que) := by simp [State.loadMemory]
@[simp] theorem State.loadQueues_keeps (b : List Byte) : Keeps s (s.loadQueues b) := by simp [State.loadQueues]
@[simp] theorem State.loadRulers_keeps (b : List Byte) : Keeps s (s.loadRulers b) := by simp [State.loadRulers]
@[simp] theorem State.loadPower_keeps (b : List Byte) : Keeps s (s.loadPower b) := by simp [State.loadPower]
@[simp] theorem State.placeNib_keeps (img b : List Byte) (n : Nat) : Keeps s (s.placeNib img b n) := by simp [State.placeNib]
@[simp] theorem State.loadGlobal_keeps (l : List Sect) (img : List Byte) : Keeps s (s.loadGlobal l img) := by simp [State.loadGlobal]
@[simp] theorem State.loadPort_keeps (p : Nat) (r : List Byte) : Keeps s (s.loadPort p r) := by simp [State.loadPort]
@[simp] theorem State.loadLane_keeps (n : Nat) (r : List Byte) : Keeps s (s.loadLane n r) := by simp [State.loadLane]
@[simp] theorem State.loadGroup_keeps (l : List Sect) (g v : Nat) : Keeps s (s.loadGroup l g v) := by simp [State.loadGroup]
@[simp] theorem varFld_id (g : Nat) : 5 ≤ (varFld g).id := by unfold varFld; split <;> decide
@[simp] theorem State.loadGroups_keeps (l : List Sect) : Keeps s (s.loadGroups l) := by simp [State.loadGroups]

@[simp] theorem State.softReg_keeps (r : Nat × Nat × Nat) : Keeps s (s.softReg r) := by
  unfold State.softReg
  split
  case h_1 h => simp [softField_id _ _ _ h]
  case h_2 => simp

@[simp] theorem State.directOp_keeps (op : TblOp) : Keeps s (s.directOp op) := by unfold State.directOp; split <;> simp

@[simp] theorem State.rowDirect_keeps (a v : Nat) : Keeps s (s.rowDirect a v) := by
  simp only [State.rowDirect]
  repeat' split
  all_goals simp [State.winWrite_getD_keeps]

@[simp] theorem State.rowWords_keeps (put : State → Nat → Nat → State) (h : ∀ t a v, Keeps t (put t a v)) (r : RowRec) :
    Keeps s (s.rowWords put r) := by
  simp [State.rowWords, h]

@[simp] theorem State.softSects_keeps (put : State → Nat → Nat → State) (h : ∀ t a v, Keeps t (put t a v)) (l : List Sect) :
    Keeps s (s.softSects put l) := by
  refine foldl_keeps _ (fun t x => ?_) l s
  split
  · simp
  · split
    · exact foldl_keeps _ (fun u r => u.rowWords_keeps put h r) _ t
    · simp

@[simp] theorem State.setActiveBank_keeps (b : Bank) : Keeps s (s.setActiveBank b) := by simp [State.setActiveBank]
@[simp] theorem State.loadPersisted_keeps : Keeps s s.loadPersisted := by unfold State.loadPersisted; split <;> simp
@[simp] theorem State.enableGroup_keeps (g : Nat) : Keeps s (s.enableGroup g) := by simp [State.enableGroup]
@[simp] theorem State.applyBase_keeps (bs img : List Byte) : Keeps s (s.applyBase bs img) := by simp [State.applyBase]
@[simp] theorem State.scrFail_keeps (e : ScrErr) : Keeps s (s.scrFail e) := by simp [State.scrFail]
@[simp] theorem State.scrDone_keeps : Keeps s s.scrDone := by simp [State.scrDone]

@[simp] theorem State.startWaiting_keeps : Keeps s s.startWaiting := by
  refine foldl_keeps _ (fun t d => ?_) _ s
  dsimp only
  split <;> simp

@[simp] theorem State.applyBegin_keeps : Keeps s s.applyBegin := by
  simp only [State.applyBegin]
  repeat' split
  all_goals simp

@[simp] theorem execScrollApply_keeps : Ends s (execScrollApply s) := by simp [execScrollApply]

@[simp] theorem execScrollPersist_keeps : Ends s (execScrollPersist s) := by
  unfold execScrollPersist
  repeat' split
  all_goals simp

@[simp] theorem execPersistDone_keeps (ok : Bool) : Ends s (execPersistDone ok s) := by unfold execPersistDone; split <;> simp

@[simp] theorem execRestructure_keeps (g : BitVec 2) (v : BitVec 3) : Ends s (execRestructure g v s) := by
  simp only [execRestructure]
  repeat' split
  all_goals simp

@[simp] theorem State.laneStop_keeps (n : Nat) : Keeps s (s.laneStop n) := by simp [State.laneStop]
@[simp] theorem execRestructStopped_keeps : Ends s (execRestructStopped s) := by unfold execRestructStopped; split <;> simp
@[simp] theorem State.pairsLoaded_keeps (g : Nat) : Keeps s (s.pairsLoaded g) := by simp [State.pairsLoaded]
@[simp] theorem execRestructLoaded_keeps : Ends s (execRestructLoaded s) := by unfold execRestructLoaded; split <;> simp
@[simp] theorem State.restructEnd_keeps (g v : Nat) : Keeps s (s.restructEnd g v) := by simp [State.restructEnd]
@[simp] theorem execScrollLock_keeps : Ends s (execScrollLock s) := by simp [execScrollLock]

/-! ### Field update (spec 22): the manifest, staging, activation, confirmation, the authorisation of maintenance, and the maintenance UART (03 R70). -/

@[simp] theorem State.setBank_keeps (b : Nat) (x : Bank) : Keeps s (s.setBank b x) := by simp [State.setBank]
@[simp] theorem State.updRefuse_keeps (code : Nat) : Keeps s (s.updRefuse code) := by simp [State.updRefuse]
@[simp] theorem State.updDone_keeps : Keeps s s.updDone := by simp [State.updDone]
@[simp] theorem State.updShow_keeps : Keeps s s.updShow := by simp [State.updShow]
@[simp] theorem State.updStage_keeps (ok : Bool) : Keeps s (s.updStage ok) := by simp [State.updStage]
@[simp] theorem State.updSheet_keeps (i : Nat) (ok : Bool) : Keeps s (s.updSheet i ok) := by simp [State.updSheet]

@[simp] theorem State.updVerify_keeps (bad : List Nat) : Keeps s (s.updVerify bad) := by
  simp only [State.updVerify]
  repeat' split
  all_goals simp

@[simp] theorem State.updCommit_keeps (ok : Bool) : Keeps s (s.updCommit ok).1 := by
  unfold State.updCommit
  repeat' split
  all_goals simp

@[simp] theorem State.updConfirm_keeps (ok : Bool) : Keeps s (s.updConfirm ok) := by simp [State.updConfirm]
@[simp] theorem State.updAuth_keeps (a : List Byte) : Keeps s (s.updAuth a) := by unfold State.updAuth; split <;> simp
@[simp] theorem State.updChallenge_keeps : Keeps s s.updChallenge := by simp [State.updChallenge]
@[simp] theorem execUpdStage_keeps (ok : Bool) : Ends s (execUpdStage ok s) := by simp [execUpdStage]
@[simp] theorem execUpdSheet_keeps (i : BitVec 12) (ok : Bool) : Ends s (execUpdSheet i ok s) := by simp [execUpdSheet]
@[simp] theorem execUpdVerify_keeps (bad : List (BitVec 12)) : Ends s (execUpdVerify bad s) := by simp [execUpdVerify]
@[simp] theorem execUpdAbort_keeps : Ends s (execUpdAbort s) := by simp [execUpdAbort]
@[simp] theorem execUpdConfirm_keeps (ok : Bool) : Ends s (execUpdConfirm ok s) := by simp [execUpdConfirm]
@[simp] theorem execUpdAuth_keeps : Ends s (execUpdAuth s) := by simp [execUpdAuth]
@[simp] theorem execUpdChallenge_keeps : Ends s (execUpdChallenge s) := by simp [execUpdChallenge]
@[simp] theorem State.uartReply_keeps (status : Nat) (rest : List Byte) : Keeps s (s.uartReply status rest) := by simp [State.uartReply]
@[simp] theorem State.uartResult_keeps : Keeps s s.uartResult := by simp [State.uartResult]

@[simp] theorem State.uartTake_keeps (typ : Nat) (p : List Byte) (crc : Nat) (r428 : Bool) (act : State → State) (h : Keeps s (act s)) :
    Keeps s (s.uartTake typ p crc r428 act) := by
  simp [State.uartTake, h]

@[simp] theorem State.uartAuthed_keeps (act : State → State) (h : Keeps s (act s)) : Keeps s (s.uartAuthed act) := by
  simp [State.uartAuthed, h]

@[simp] theorem State.uartRefuse_keeps : Keeps s s.uartRefuse := by simp [State.uartRefuse]
@[simp] theorem execUartHello_keeps (p : List Byte) (crc : BitVec 16) : Ends s (execUartHello p crc s) := by simp [execUartHello]
@[simp] theorem execUartChallenge_keeps (p : List Byte) (crc : BitVec 16) : Ends s (execUartChallenge p crc s) := by simp [execUartChallenge]
@[simp] theorem execUartAuth_keeps (p : List Byte) (crc : BitVec 16) : Ends s (execUartAuth p crc s) := by simp [execUartAuth]

@[simp] theorem execUartManifest_keeps (p : List Byte) (crc : BitVec 16) (ok : Bool) : Ends s (execUartManifest p crc ok s) := by
  refine (ends_next ..).2 (s.uartTake_keeps _ _ _ _ _ (s.uartAuthed_keeps _ ?_))
  simp

@[simp] theorem execUartSheet_keeps (p : List Byte) (crc : BitVec 16) (ok : Bool) : Ends s (execUartSheet p crc ok s) := by simp [execUartSheet]
@[simp] theorem execUartSetRate_keeps (p : List Byte) (crc : BitVec 16) : Ends s (execUartSetRate p crc s) := by simp [execUartSetRate]

/-! ### The initiator side of the Ligature bridge (spec 17 R353 to R364, R368): transactions, their frames and their ends. -/

@[simp] theorem State.brgCnt_keeps (k : Nat) : Keeps s (s.brgCnt k) := by simp [State.brgCnt]
@[simp] theorem State.tisSend_keeps (da sa : Nat) (t : Tis) : Keeps s (s.tisSend da sa t) := by simp [State.tisSend]
@[simp] theorem State.setStream_keeps (ini dev : Nat) (x : LigStream) : Keeps s (s.setStream ini dev x) := by simp [State.setStream]
@[simp] theorem State.setOut_keeps (l : List LigReq) : Keeps s (s.setOut l) := by simp [State.setOut]
@[simp] theorem State.ligSend_keeps (r : LigReq) : Keeps s (s.ligSend r) := by simp [State.ligSend]
@[simp] theorem State.ligReadEnd_keeps (r : LigReq) : Keeps s (s.ligReadEnd r) := by simp [State.ligReadEnd]

@[simp] theorem State.ligReads_keeps (n : Nat) : Keeps s (s.ligReads n) := by
  induction n generalizing s with
  | zero => simp [State.ligReads]
  | succ n ih =>
    simp only [State.ligReads]
    repeat' split
    all_goals simp [ih]

@[simp] theorem State.writeFail_keeps (r : LigReq) (status : Nat) : Keeps s (s.writeFail r status) := by simp [State.writeFail]
@[simp] theorem State.resync_keeps (r : LigReq) : Keeps s (s.resync r) := by simp [State.resync]
@[simp] theorem State.writeTimeout_keeps (r : LigReq) : Keeps s (s.writeTimeout r) := by simp [State.writeTimeout]
@[simp] theorem State.readTimeout_keeps (r : LigReq) : Keeps s (s.readTimeout r) := by simp [State.readTimeout]

@[simp] theorem State.ligFailAll_keeps : Keeps s s.ligFailAll := by
  refine foldl_keeps _ (fun t r => ?_) _ s
  split <;> simp

@[simp] theorem State.ligDoze_keeps : Keeps s s.ligDoze := by simp [State.ligDoze]
@[simp] theorem State.ligParity_keeps : Keeps s s.ligParity := by simp [State.ligParity]

/-! ### The Blotter and the fault pair (spec 21): classes and escalation, the logs, the reactions, FLT_P and FLT_N. -/

@[simp] theorem State.bltArrive_keeps (r : Report) : Keeps s (s.bltArrive r) := by simp [State.bltArrive]
@[simp] theorem State.bltLog_keeps (e : BltEntry) (sec ns : Nat) : Keeps s (s.bltLog e sec ns) := by simp [State.bltLog]
@[simp] theorem State.bltPlog_keeps (e : BltEntry) : Keeps s (s.bltPlog e) := by simp [State.bltPlog]
@[simp] theorem State.powerDieFault_keeps (src info : Nat) : Keeps s (s.powerDieFault src info) := by simp [State.powerDieFault]
@[simp] theorem State.bltCopyPlog_keeps : Keeps s s.bltCopyPlog := by simp [State.bltCopyPlog]
@[simp] theorem State.escalateNib_keeps (n : Nat) : Keeps s (s.escalateNib n) := by simp [State.escalateNib]
@[simp] theorem State.escalate_keeps (r : Report) : Keeps s (s.escalate r) := by simp [State.escalate]
@[simp] theorem State.bltRecord_keeps (e : BltEntry) : Keeps s (s.bltRecord e) := by simp [State.bltRecord]
@[simp] theorem State.recoveryReported_keeps (src : Nat) : Keeps s (s.recoveryReported src) := by unfold State.recoveryReported; split <;> simp
@[simp] theorem execBltWindowClose_keeps (src : Fin 1024) : Ends s (execBltWindowClose src s) := by simp [execBltWindowClose]
@[simp] theorem execFltHeartbeat_keeps : Ends s (execFltHeartbeat s) := by simp [execFltHeartbeat]
@[simp] theorem execAbsentTimeout_keeps : Ends s (execAbsentTimeout s) := by simp [execAbsentTimeout]
@[simp] theorem execFltForceWrite_keeps (force : Bool) : Ends s (execFltForceWrite force s) := by simp [execFltForceWrite]
@[simp] theorem execBltLogClr_keeps : Ends s (execBltLogClr s) := by simp [execBltLogClr]
@[simp] theorem execBltCntClr_keeps : Ends s (execBltCntClr s) := by simp [execBltCntClr]
@[simp] theorem execBltPlogClr_keeps (key : BitVec 8) : Ends s (execBltPlogClr key s) := by simp [execBltPlogClr]
@[simp] theorem execPowerDieSelfCheckFail_keeps (info : Word) : Ends s (execPowerDieSelfCheckFail info s) := by simp [execPowerDieSelfCheckFail]

/-! ### Egress of the Ethernet ports: scheduling (spec 09 R207 to R209), the frame on the transmitter, and the recirculation list of port 66 (09 R198). -/

@[simp] theorem State.select_keeps (p : Nat) : Keeps s (s.select p).1 := by
  simp only [State.select]
  repeat' split
  all_goals simp

@[simp] theorem State.startHead_keeps (p q : Nat) (e : QEnt) (f : Frame) : Keeps s (s.startHead p q e f) := by
  simp only [State.startHead]
  repeat' split
  all_goals simp

@[simp] theorem execEgressSelect_keeps (p : Fin 40) : Ends s (execEgressSelect p s) := by
  simp only [execEgressSelect]
  repeat' split
  all_goals simp

@[simp] theorem State.sentCount_keeps (p : Nat) (t : Tx) : Keeps s (s.sentCount p t) := by simp [State.sentCount]

@[simp] theorem execEgressFrameDone_keeps (p : Fin 40) : Ends s (execEgressFrameDone p s) := by
  unfold execEgressFrameDone
  repeat' split
  all_goals simp

@[simp] theorem State.recircPrune_keeps (n : Nat) : Keeps s (s.recircPrune n) := by
  induction n generalizing s with
  | zero => simp [State.recircPrune]
  | succ n ih =>
    simp only [State.recircPrune]
    repeat' split
    all_goals simp [ih]

@[simp] theorem execRecirculate_keeps : Ends s (execRecirculate s) := by
  simp only [execRecirculate]
  repeat' split
  all_goals simp

/-! ### Power states, adaptive voltage and supply monitors (spec 18). -/

@[simp] theorem State.avsStart_keeps (core sram : Nat) : Keeps s (s.avsStart core sram) := by simp [State.avsStart]
@[simp] theorem State.avsTo_keeps (st : Nat) : Keeps s (s.avsTo st) := by simp [State.avsTo]
@[simp] theorem State.transDone_keeps (result target : Nat) : Keeps s (s.transDone result target) := by simp [State.transDone]
@[simp] theorem State.tapersStop_keeps : Keeps s s.tapersStop := by simp [State.tapersStop]
@[simp] theorem State.tapersGo_keeps : Keeps s s.tapersGo := by simp [State.tapersGo]
@[simp] theorem State.avsProceed_keeps (result : Nat) : Keeps s (s.avsProceed result) := by unfold State.avsProceed; split <;> simp
@[simp] theorem State.avsOver_keeps (a : AvsChange) (done : Bool) : Keeps s (s.avsOver a done) := by simp [State.avsOver]
@[simp] theorem execAvsAck_keeps : Ends s (execAvsAck s) := by unfold execAvsAck; split <;> simp
@[simp] theorem State.avsFault_keeps : Keeps s s.avsFault := by simp [State.avsFault]
@[simp] theorem execAvsTimeout_keeps (core sram : BitVec 10) : Ends s (execAvsTimeout core sram s) := by unfold execAvsTimeout; split <;> simp
@[simp] theorem execLegacySettle_keeps : Ends s (execLegacySettle s) := by unfold execLegacySettle; split <;> simp
@[simp] theorem execAvsLoopTick_keeps (slack : BitVec 8) : Ends s (execAvsLoopTick slack s) := by simp [execAvsLoopTick]
@[simp] theorem State.transTo_keeps (t : Machine.Trans) : Keeps s (s.transTo t) := by simp [State.transTo]
@[simp] theorem execEnterTrim_keeps : Ends s (execEnterTrim s) := by simp [execEnterTrim]
@[simp] theorem execEnterRun_keeps : Ends s (execEnterRun s) := by simp [execEnterRun]
@[simp] theorem State.entryStart_keeps (target : Nat) : Keeps s (s.entryStart target) := by simp [State.entryStart]
@[simp] theorem State.powerEntry_keeps (target : Nat) (s1Waiting : Bool) : Keeps s (s.powerEntry target s1Waiting) := by simp [State.powerEntry]
@[simp] theorem execDozeEntry_keeps (s1Waiting : Bool) : Ends s (execDozeEntry s1Waiting s) := by simp [execDozeEntry]
@[simp] theorem execSleepEntry_keeps (s1Waiting : Bool) : Ends s (execSleepEntry s1Waiting s) := by simp [execSleepEntry]
@[simp] theorem execS1WaitTimeout_keeps : Ends s (execS1WaitTimeout s) := by unfold execS1WaitTimeout; split <;> simp
@[simp] theorem State.lanesHanded_keeps : Keeps s s.lanesHanded := by simp [State.lanesHanded]
@[simp] theorem State.entrySteps_keeps : Keeps s s.entrySteps := by simp [State.entrySteps]
@[simp] theorem State.wdogPause_keeps : Keeps s s.wdogPause := by unfold State.wdogPause; split <;> simp
@[simp] theorem State.wdogResume_keeps : Keeps s s.wdogResume := by unfold State.wdogResume; split <;> simp
@[simp] theorem execDozeCommit_keeps : Ends s (execDozeCommit s) := by simp [execDozeCommit]
@[simp] theorem execDozeExit_keeps : Ends s (execDozeExit s) := by simp [execDozeExit]
@[simp] theorem State.wakeNets_keeps (code idx : Nat) : Keeps s (s.wakeNets code idx) := by simp [State.wakeNets]

@[simp] theorem execDozeExitDone_keeps : Ends s (execDozeExitDone s) := by
  simp only [execDozeExitDone]
  repeat' split
  all_goals simp

@[simp] theorem execInhOutHoldEnd_keeps : Ends s (execInhOutHoldEnd s) := by simp [execInhOutHoldEnd]

@[simp] theorem execPwrReqWrite_keeps (target : BitVec 3) : Ends s (execPwrReqWrite target s) := by
  simp only [execPwrReqWrite]
  repeat' split
  all_goals simp

@[simp] theorem execPwrReqTake_keeps : Ends s (execPwrReqTake s) := by simp [execPwrReqTake]
@[simp] theorem State.sagLog_keeps (k level : Nat) (reset : Bool) : Keeps s (s.sagLog k level reset) := by simp [State.sagLog]
@[simp] theorem execSupplyWarning_keeps (k : Fin 4) (level : BitVec 16) : Ends s (execSupplyWarning k level s) := by simp [execSupplyWarning]
@[simp] theorem execSupplyWarningRearm_keeps (k : Fin 4) : Ends s (execSupplyWarningRearm k s) := by simp [execSupplyWarningRearm]
@[simp] theorem execSagRestart_keeps : Ends s (execSagRestart s) := by simp [execSagRestart]

/-! ### The start, the resets, the Scribe cores' own registers (spec 03). -/

@[simp] theorem execPowerDiePorEnd_keeps : Ends s (execPowerDiePorEnd s) := by simp [execPowerDiePorEnd]
@[simp] theorem execInhOutAssert_keeps : Ends s (execInhOutAssert s) := by simp [execInhOutAssert]
@[simp] theorem State.released_keeps : Keeps s s.released := by simp [State.released]
@[simp] theorem execRailsInWindow_keeps (maintLow : Bool) : Ends s (execRailsInWindow maintLow s) := by simp [execRailsInWindow]
@[simp] theorem execRailWindowTimeout_keeps : Ends s (execRailWindowTimeout s) := by simp [execRailWindowTimeout]
@[simp] theorem execRailRetry_keeps : Ends s (execRailRetry s) := by simp [execRailRetry]
@[simp] theorem execRootPllLock_keeps : Ends s (execRootPllLock s) := by simp [execRootPllLock]
@[simp] theorem State.ferruleInit_keeps : Keeps s s.ferruleInit := by simp [State.ferruleInit]
@[simp] theorem State.enterRecovery_keeps : Keeps s s.enterRecovery := by simp [State.enterRecovery]
@[simp] theorem State.failStart_keeps (code : Nat) : Keeps s (s.failStart code) := by simp [State.failStart]
@[simp] theorem State.showActive_keeps : Keeps s s.showActive := by unfold State.showActive; split <;> simp
@[simp] theorem State.wdogLoad_keeps : Keeps s s.wdogLoad := by simp [State.wdogLoad]

@[simp] theorem execSecondStageStart_keeps (ok : Bool) : Ends s (execSecondStageStart ok s) := by
  simp only [execSecondStageStart]
  repeat' split
  all_goals simp

@[simp] theorem execDramTrained_keeps (t : DramTrain) : Ends s (execDramTrained t s) := by
  unfold execDramTrained
  repeat' split
  all_goals simp

@[simp] theorem execPowerDieConfigWrite_keeps (ok : Bool) : Ends s (execPowerDieConfigWrite ok s) := by simp [execPowerDieConfigWrite]
@[simp] theorem execUnseal_keeps : Ends s (execUnseal s) := by simp [execUnseal]
@[simp] theorem State.stage7_keeps : Keeps s s.stage7 := by simp [State.stage7]

@[simp] theorem execScrollLoad_keeps (ok : Bool) : Ends s (execScrollLoad ok s) := by
  simp only [execScrollLoad]
  repeat' split
  all_goals simp

@[simp] theorem execConfirmDue_keeps : Ends s (execConfirmDue s) := by simp [execConfirmDue]
@[simp] theorem execConfirmTimeout_keeps : Ends s (execConfirmTimeout s) := by simp [execConfirmTimeout]
@[simp] theorem State.staleErase_keeps : Keeps s s.staleErase := by unfold State.staleErase; split <;> simp
@[simp] theorem execMainDieResetRelease_keeps (maintLow : Bool) : Ends s (execMainDieResetRelease maintLow s) := by simp [execMainDieResetRelease]
@[simp] theorem execPcieReset_keeps : Ends s (execPcieReset s) := by simp [execPcieReset]
@[simp] theorem execGlbBlkRstWrite_keeps (nib : BitVec 10) (s1 : Bool) : Ends s (execGlbBlkRstWrite nib s1 s) := by simp [execGlbBlkRstWrite]
@[simp] theorem execS1Run_keeps : Ends s (execS1Run s) := by simp [execS1Run]
@[simp] theorem execIrqClaim_keeps (ini : Initiator) (t : Fin 4) : Ends s (execIrqClaim ini t s) := by simp [execIrqClaim]
@[simp] theorem execIrqComplete_keeps (n : BitVec 8) : Ends s (execIrqComplete n s) := by simp [execIrqComplete]
@[simp] theorem execMtimeCompare_keeps (_c : Fin 2) : Ends s (execMtimeCompare _c s) := by simp [execMtimeCompare]

@[simp] theorem execWdogKick_keeps (v : Word) : Ends s (execWdogKick v s) := by
  unfold execWdogKick
  repeat' split
  all_goals simp

@[simp] theorem execWdogExpiry_keeps : Ends s (execWdogExpiry s) := by simp [execWdogExpiry]
@[simp] theorem execLockstepMismatch_keeps (c : Fin 2) : Ends s (execLockstepMismatch c s) := by simp [execLockstepMismatch]
@[simp] theorem execCacheError_keeps (c : Fin 2) (k : CacheErr) : Ends s (execCacheError c k s) := by simp [execCacheError]

/-! ### Register accesses (spec 00 R4 to R8, 01 R17, 02 R52, 03 R69, 16 R351): what a write of a word does, by the register it reaches, and what a read returns and clears. -/

@[simp] theorem State.chance_keeps (g : Bool → State → Out) (h : ∀ b t, Ends t (g b t)) : Keeps s (s.chance g) := by
  obtain ⟨t, ht, kept⟩ := h (Config.outcome s.freeCtr) s.drawn
  simpa [State.chance, ht, leaves] using kept

@[simp] theorem State.onBit_keeps (v b : Nat) (o : State → Out) (h : Ends s (o s)) : Keeps s (s.onBit v b o) := by
  simp [State.onBit, h]

@[simp] theorem State.brgCntClr_keeps : Keeps s s.brgCntClr := by simp [State.brgCntClr]
@[simp] theorem State.rcRead_keeps (first : Nat) (snap : Fld) (h : 5 ≤ snap.id) : Keeps s (s.rcRead first snap).1 := by simp [State.rcRead, h]

@[simp] theorem answered_keeps (o : Out) (h : Ends s o) : Keeps s (answered o s).1 := leaves_keeps s o h

/-- The companions of the RC registers are no identity registers. -/
theorem rcRegs_id (a : Nat) (r : Nat × Nat × Fld) (h : rcRegs.find? (fun r => decide (r.1 = a)) = some r) : 5 ≤ r.2.2.id :=
  (by decide : ∀ r ∈ rcRegs, 5 ≤ r.2.2.id) r (List.mem_of_find?_eq_some h)

@[simp] theorem State.wordRead_keeps (ini : Initiator) (a : Nat) : Keeps s (s.wordRead ini a).1 := by
  simp only [State.wordRead]
  repeat' split
  case h_1 h => exact s.rcRead_keeps _ _ (rcRegs_id _ _ h)
  all_goals simp

@[simp] theorem State.regRead_keeps (ini : Initiator) (a : Nat) : Keeps s (s.regRead ini a).1 := by unfold State.regRead; split <;> simp
@[simp] theorem State.noRegion_keeps (ini : Initiator) : Keeps s (s.noRegion ini) := by simp [State.noRegion]

theorem execWideRegLowRead_keeps (ini : Initiator) (a : Nat) (h : a % 4 = 0) : Ends s (execWideRegLowRead ini a s) := by
  simp [execWideRegLowRead, h]

@[simp] theorem execRcRegisterRead_keeps (ini : Initiator) (a : Nat) : Ends s (execRcRegisterRead ini a s) := by
  unfold execRcRegisterRead
  split
  case h_1 h => simp [rcRegs_id _ _ h]
  case h_2 => simp

@[simp] theorem execAccessOutsideRegion_keeps (ini : Initiator) (a : Nat) : Ends s (execAccessOutsideRegion ini a s) := by simp [execAccessOutsideRegion]

/-! ### The real-time clock of the power die (spec 03 R67, 19 R394, 23 R438). -/

@[simp] theorem State.rtcForward_keeps (n : Nat) : Keeps s (s.rtcForward n) := by simp [State.rtcForward]
@[simp] theorem State.rtcTick_keeps : Keeps s s.rtcTick := by simp [State.rtcTick]
@[simp] theorem execXtal32Stop_keeps : Ends s (execXtal32Stop s) := by simp [execXtal32Stop]

/-! ### The Ferrule link between the dies (spec 01 R11 to R13) and the loss of clocks (R26). -/

@[simp] theorem State.setFerruleTo_keeps (die : Die) (d : FerruleDir) : Keeps s (s.setFerruleTo die d) := by unfold State.setFerruleTo; split <;> simp
@[simp] theorem execFerruleRetransmit_keeps (sent : FerruleSent) : Ends s (execFerruleRetransmit sent s) := by simp [execFerruleRetransmit]
@[simp] theorem execFerruleIdleSend_keeps : Ends s (execFerruleIdleSend s) := by simp [execFerruleIdleSend]
@[simp] theorem execMainDieAbsent_keeps : Ends s (execMainDieAbsent s) := by simp [execMainDieAbsent]
@[simp] theorem execPllUnlock_keeps : Ends s (execPllUnlock s) := by simp [execPllUnlock]
@[simp] theorem execSrefclkLoss_keeps (clk : Fin 2) : Ends s (execSrefclkLoss clk s) := by simp [execSrefclkLoss]

/-! ### The Ligature bridge's accesses, its responder and its watch (spec 17 R353 to R368). -/

@[simp] theorem State.tisAnswer_keeps (t : Tis) (status data : Nat) : Keeps s (s.tisAnswer t status data) := by simp [State.tisAnswer]
@[simp] theorem State.ligStatus_keeps (r : LigReq) (status data : Nat) : Keeps s (s.ligStatus r status data) := by simp [State.ligStatus]
@[simp] theorem State.watchSummary_keeps (w sum : Nat) : Keeps s (s.watchSummary w sum) := by simp [State.watchSummary]
@[simp] theorem State.lateRead_keeps (r : LigReq) (status data : Nat) : Keeps s (s.lateRead r status data) := by simp [State.lateRead]

@[simp] theorem State.tisHead_keeps (rsp : Bool) : ∀ t, s.tisHead rsp = some t → Keeps s t.1 := by
  simp only [State.tisHead]
  repeat' split
  all_goals simp

@[simp] theorem execWatchPollSend_keeps (w : Fin 64) : Ends s (execWatchPollSend w s) := by simp [execWatchPollSend]
@[simp] theorem execWatchPollTimeout_keeps (w : Fin 64) : Ends s (execWatchPollTimeout w s) := by simp [execWatchPollTimeout]
@[simp] theorem execBrgCntClr_keeps : Ends s (execBrgCntClr s) := by simp [execBrgCntClr]

/-! ### Block-level recoveries (spec 01 R20, 13 R301) and the table scrubber (08 R187, 11 R248, 13 R291). -/

@[simp] theorem State.laneReinit_keeps (n : Nat) : Keeps s (s.laneReinit n) := by simp [State.laneReinit]
@[simp] theorem State.recoverStart_keeps (dom : Domain) (r : Recovery) : Keeps s (s.recoverStart dom r) := by unfold State.recoverStart; split <;> simp

@[simp] theorem execBlockRecoveryStart_keeps (dom : Domain) : Ends s (execBlockRecoveryStart dom s) := by
  simp only [execBlockRecoveryStart]
  repeat' split
  all_goals simp

@[simp] theorem execRecoveryBoundExceeded_keeps (what : Bounded) : Ends s (execRecoveryBoundExceeded what s) := by
  unfold execRecoveryBoundExceeded
  repeat' split
  all_goals simp

@[simp] theorem State.scrubAction_keeps (tid idx : Nat) : Keeps s (s.scrubAction tid idx) := by unfold State.scrubAction; split <;> simp
@[simp] theorem State.scrubLost_keeps (tid idx : Nat) : Keeps s (s.scrubLost tid idx) := by unfold State.scrubLost; split <;> simp
@[simp] theorem State.scrubMiss_keeps (tid idx : Nat) : Keeps s (s.scrubMiss tid idx) := by unfold State.scrubMiss; split <;> simp
@[simp] theorem State.scrubTick_keeps : Keeps s s.scrubTick := by simp [State.scrubTick]
@[simp] theorem execTableScrub_keeps (tid idx : Nat) (uncorr : Bool) : Ends s (execTableScrub tid idx uncorr s) := by simp [execTableScrub]

/-! ### The end of a soft apply and of a restructure (spec 02 R50, R52, R54). -/

@[simp] theorem State.rowBuffered_keeps (a v : Nat) : Keeps s (s.rowBuffered a v) := by simp [State.rowBuffered]
@[simp] theorem State.lanesSoft_keeps : Keeps s s.lanesSoft := by simp [State.lanesSoft]

/-! ### Faults of the cipher units and tamper alarms: what they do to the frames and keys that the units hold (spec 14 R319, 15 R338). -/

@[simp] theorem State.unitDrop_keeps (u : Nat) : Keeps s (s.unitDrop u) := by
  refine Keeps.trans ?_ (foldl_keeps _ (fun t p => ?_) _ _)
  · simp
  · split
    · split
      · split <;> simp
      · simp
    · simp

@[simp] theorem State.unitWipe_keeps (u : Nat) : Keeps s (s.unitWipe u) := by simp [State.unitWipe]

@[simp] theorem execCipherUnitFault_keeps (u : Fin 4) : Ends s (execCipherUnitFault u s) := by
  simp only [execCipherUnitFault]
  repeat' split
  all_goals simp

@[simp] theorem State.zeroise_keeps : Keeps s s.zeroise := by simp [State.zeroise]
@[simp] theorem State.tamperEnd_keeps : Keeps s s.tamperEnd := by simp [State.tamperEnd]
@[simp] theorem execTamperAlarm_keeps (src : Fin 5) : Ends s (execTamperAlarm src s) := by unfold execTamperAlarm; split <;> simp

/-! ### One tick of TCLK, 2.5 ns (spec 01 R21): what the passing of time alone changes. It is what a step does on an empty queue. -/

@[simp] theorem State.nibTick_keeps (n : Nat) : Keeps s (s.nibTick n) := by simp [State.nibTick]
@[simp] theorem State.powerTick_keeps : Keeps s s.powerTick := by simp [State.powerTick]
@[simp] theorem State.gatedTick_keeps : Keeps s s.gatedTick := by simp [State.gatedTick]

end

end Sys2Proof.Machine
end

section
/-! SUPPORT. Software writes and resets leave the identity registers as chapter 03 gives them; no step changes them, and no
aligned command stops. -/
namespace Sys2Proof.Machine

-- One proof after another: many at a time take more memory than the check allows.
set_option Elab.async false

/-! ### What a software write and a reset leave of the identity registers -/

/-- What the five fields read by chapter 03. -/
def ident : List Nat := (List.range 5).map identVal

/-- If the identity registers of `s` hold what chapter 03 gives, those of `t` do; the queue is the same. -/
@[simp] abbrev Safe (s t : State) : Prop := (identOf s.regs = ident → identOf t.regs = ident) ∧ t.pending = s.pending

/-- `o` is a next state, and safe. -/
def SafeEnds (s : State) (o : Out) : Prop := ∃ t, o = .next t ∧ Safe s t

theorem identOf_eq_ident (r : RegFile) : identOf r = ident ↔ ∀ k, k < 5 → (r.find (k, 0)).getD (identVal k) = identVal k := by
  simp [identOf, ident, List.map_inj_left]

theorem identityHolds_iff (s : State) : identityHolds s ↔ identOf s.regs = ident := by
  simp [identityHolds, State.rd, RegFile.get, identOf, ident, identVal, List.range_succ]

theorem Keeps.safe {s t : State} (h : Keeps s t) : Safe s t := ⟨fun hs => h.1.trans hs, h.2⟩

theorem Safe.refl (s : State) : Safe s s := ⟨id, rfl⟩

theorem Safe.trans {s t u : State} (h : Safe s t) (h' : Safe t u) : Safe s u := ⟨h'.1 ∘ h.1, h'.2.trans h.2⟩

theorem foldl_safe {α : Type} {g : State → α → State} (l : List α) (h : ∀ s, ∀ x ∈ l, Safe s (g s x)) (s : State) :
    Safe s (l.foldl g s) := by
  induction l generalizing s with
  | nil => exact Safe.refl s
  | cons x l ih => exact (h s x (by simp)).trans (ih (fun t y hy => h t y (by simp [hy])) _)

theorem Ends.safe {s : State} {o : Out} (h : Ends s o) : SafeEnds s o := by
  obtain ⟨t, rfl, ht⟩ := h
  exact ⟨t, rfl, ht.safe⟩

theorem safeEnds_next (s t : State) : SafeEnds s (.next t) ↔ Safe s t := by simp [SafeEnds]

theorem leaves_safe {s : State} {o : Out} (h : SafeEnds s o) : Safe s (leaves o s) := by
  obtain ⟨t, rfl, ht⟩ := h
  exact ht

theorem identOf_from (r : RegFile) (base : Nat) (h : 5 ≤ base) : identOf (r.from base) = ident := by
  refine (identOf_eq_ident _).mpr fun k hk => ?_
  have := RegFile.find_filter r (fun k => decide (base ≤ k.1)) (k, 0)
  rw [if_neg (by simp; omega)] at this
  simp [RegFile.from, this]

/-- A field that is no identity field, or is one as chapter 03 has it: read-only, with its reset value. -/
def Fld.guarded (f : Fld) : Bool :=
  decide (5 ≤ f.id) || (decide (f.ty = .ro) && decide (f.rst 0 = identVal f.id) && decide (identVal f.id < 2 ^ f.width))

/-- A software write by the field's type leaves the identity registers alone. -/
theorem State.wr_written_safe (s : State) (f : Fld) (i v : Nat) (locked : Bool) (hf : f.guarded = true) :
    Safe s (s.wr f i (f.ty.written locked (s.rd f i) v)) := by
  by_cases hid : 5 ≤ f.id
  · exact Keeps.safe ⟨identOf_wr _ _ _ _ hid, rfl⟩
  · obtain ⟨⟨hty, hrst⟩, hfits⟩ : (f.ty = .ro ∧ f.rst 0 = identVal f.id) ∧ identVal f.id < 2 ^ f.width := by
      simpa [Fld.guarded, hid] using hf
    refine ⟨fun hs => (identOf_eq_ident _).mpr fun k hk => ?_, rfl⟩
    have old := (identOf_eq_ident _).mp hs k hk
    by_cases hki : (k, 0) = (f.id, i)
    · obtain ⟨rfl, rfl⟩ := Prod.mk.inj hki
      have read : s.rd f 0 = identVal f.id := by simpa [State.rd, RegFile.get, hrst] using old
      have written := s.rd_wr_same f 0 (s.rd f 0)
      rw [read, Nat.mod_eq_of_lt hfits] at written
      rw [hty, FldTy.written, read]
      simpa [State.rd, RegFile.get, hrst] using written
    · exact (congrArg (·.getD (identVal k)) (RegFile.find_set_ne _ _ _ _ _ hki)).trans old

/-- A software write leaves every identity field among `fs` alone. -/
def Guarded (fs : List Fld) : Prop := ∀ f ∈ fs, f.guarded = true

theorem State.storeFlds_safe (s : State) (locked : Bool) (fs : List Fld) (i v : Nat) (hf : Guarded fs) :
    Safe s (s.storeFlds locked fs i v) :=
  foldl_safe fs (fun t f h => t.wr_written_safe f i (f.cut v) locked (hf f h)) s

@[simp] theorem State.put_safe (s : State) (fs : List Fld) (i v : Nat) (hf : Guarded fs) : Safe s (s.put fs i v) :=
  s.storeFlds_safe _ fs i v hf

@[simp] theorem butFlds_guarded {fs : List Fld} (not : List Fld) (hf : Guarded fs) : Guarded (butFlds fs not) :=
  fun f h => hf f ((List.mem_filter.mp h).1)

@[simp] theorem State.mainClear_ident (s : State) : identOf s.mainClear.regs = ident := identOf_from _ _ (by decide)
@[simp] theorem State.mainClear_pending (s : State) : s.mainClear.pending = s.pending := rfl
@[simp] theorem State.mainPorClear_ident (s : State) : identOf s.mainPorClear.regs = ident := identOf_from _ _ (by decide)
@[simp] theorem State.mainPorClear_pending (s : State) : s.mainPorClear.pending = s.pending := rfl
@[simp] theorem State.powerPorClear_ident (s : State) : identOf s.powerPorClear.regs = ident := identOf_from _ _ (by decide)
@[simp] theorem State.powerPorClear_pending (s : State) : s.powerPorClear.pending = s.pending := rfl

/-- A main-die reset leaves the identity registers at their reset values. -/
@[simp] theorem State.mainReset_safe (s : State) (cause src : Nat) :
    identOf (s.mainReset cause src).regs = ident ∧ (s.mainReset cause src).pending = s.pending := by simp [State.mainReset]

@[simp] theorem State.mainOff_safe (s : State) : identOf s.mainOff.regs = ident ∧ s.mainOff.pending = s.pending := by simp [State.mainOff]

@[simp] theorem State.terminalStop_safe (s : State) : identOf s.terminalStop.regs = ident ∧ s.terminalStop.pending = s.pending := by
  simp [State.terminalStop]

@[simp] theorem State.criticalReset_safe (s : State) (src : Nat) :
    identOf (s.criticalReset src).regs = ident ∧ (s.criticalReset src).pending = s.pending := by simp [State.criticalReset]

@[simp] theorem State.bltDrain_safe (s : State) : Safe s s.bltDrain := by
  simp only [State.bltDrain]
  split
  · simp
  · split <;> simp

/-! ### The commands that reset -/

theorem execGlbRstRecovery_safe (s : State) (key : BitVec 8) : SafeEnds s (execGlbRstRecovery key s) := by
  refine (safeEnds_next ..).2 ?_
  split <;> simp

theorem execGlbRstMain_safe (s : State) (key : BitVec 8) : SafeEnds s (execGlbRstMain key s) := by
  refine (safeEnds_next ..).2 ?_
  split <;> simp

theorem execSysRstNLow_safe (s : State) : SafeEnds s (execSysRstNLow s) := by
  refine (safeEnds_next ..).2 ?_
  split <;> simp

theorem execUpdCommit_safe (s : State) (restart ok : Bool) : SafeEnds s (execUpdCommit restart ok s) := by
  refine (safeEnds_next ..).2 ?_
  split <;> simp

theorem State.uartTake_safe (s : State) (typ : Nat) (p : List Byte) (crc : Nat) (r428 : Bool) (act : State → State) (h : Safe s (act s)) :
    Safe s (s.uartTake typ p crc r428 act) := by
  unfold State.uartTake
  split
  · simp
  · split
    · simp
    · exact h

theorem State.uartAuthed_safe (s : State) (act : State → State) (h : Safe s (act s)) : Safe s (s.uartAuthed act) := by
  unfold State.uartAuthed
  split
  · simp
  · exact h

theorem execUartCommit_safe (s : State) (p : List Byte) (crc : BitVec 16) (bad : List (BitVec 12)) (ok : Bool) :
    SafeEnds s (execUartCommit p crc bad ok s) := by
  refine (safeEnds_next ..).2 (s.uartTake_safe _ _ _ _ _ (s.uartAuthed_safe _ ?_))
  dsimp only
  repeat' split
  all_goals simp

theorem execVbatPowerOn_safe (s : State) : SafeEnds s (execVbatPowerOn s) := by simp [execVbatPowerOn, safeEnds_next]

theorem execVbatPowerLoss_safe (s : State) : SafeEnds s (execVbatPowerLoss s) := by simp [execVbatPowerLoss, safeEnds_next]

theorem execSleepCommit_safe (s : State) : SafeEnds s (execSleepCommit s) := by
  unfold execSleepCommit
  split <;> simp [safeEnds_next]

theorem execSupplyReset_safe (s : State) (k : Fin 4) (level : BitVec 16) : SafeEnds s (execSupplyReset k level s) := by
  simp only [execSupplyReset]
  repeat' split
  all_goals simp [safeEnds_next]

theorem execBlotterReport_safe (s : State) (r : Report) (more : Bool) : SafeEnds s (execBlotterReport r more s) := by
  simp only [execBlotterReport]
  split
  · refine (safeEnds_next ..).2 ?_
    split
    · simp
    · refine Safe.trans (Keeps.safe ?_) (State.bltDrain_safe _)
      simp
  · simp [safeEnds_next]

/-! ### The registers that an offset names, and what a software write of them does -/

/-- Every register of a list is one whose write leaves the identity fields alone. -/
def guardedRegs (l : List RegDef) : Bool := l.all fun d => d.flds.all Fld.guarded

theorem guarded_of_mem {l : List RegDef} (h : guardedRegs l = true) {d : RegDef} (hd : d ∈ l) : Guarded d.flds :=
  fun _ hf => List.all_eq_true.mp (List.all_eq_true.mp h d hd) _ hf

/-- No register but GLB_DEV_ID and GLB_DEV_REV has an identity field, and those two have them as chapter 03 gives them. -/
theorem regMap_guarded : ∀ l ∈ [RegMap.rGlb, RegMap.rScr, RegMap.rPwr, RegMap.rBlt, RegMap.rEth, RegMap.rLane, RegMap.rPp, RegMap.rTbl,
    RegMap.rSig, RegMap.rRed, RegMap.rQue, RegMap.rNib, RegMap.rRul, RegMap.rKey, RegMap.rCip, RegMap.rDma, RegMap.rBrg, RegMap.rNsl,
    RegMap.rLc ++ RegMap.rNsl ++ RegMap.rBlt, RegMap.rUpd, RegMap.rCan, RegMap.rT1s, RegMap.rMvb, []], guardedRegs l = true := by decide

theorem unitRegs_guarded (a : Nat) : guardedRegs (unitRegs a) = true := by
  have h := regMap_guarded
  simp only [List.forall_mem_cons] at h
  simp only [unitRegs, apply_ite guardedRegs, h, ite_self]

theorem State.laneRegs_guarded (s : State) (a : Nat) : guardedRegs (s.laneRegs a) = true := by
  have h := regMap_guarded
  simp only [List.forall_mem_cons] at h
  unfold State.laneRegs
  repeat' split
  all_goals simp only [h]

theorem RegDef.at?_eq_some {a : Nat} {d : RegDef} {h : RegHit} (hd : d.at? a = some h) : h.1 = d := by
  obtain ⟨x, -, rfl⟩ := Option.map_eq_some_iff.mp hd
  rfl

theorem State.regHits_guarded (s : State) (a : Nat) : ∀ h ∈ s.regHits a, Guarded h.1.flds := by
  intro h hh
  obtain ⟨d, hd, hit⟩ := List.mem_filterMap.mp hh
  rw [RegDef.at?_eq_some hit]
  rcases List.mem_append.mp hd with hd | hd
  · exact guarded_of_mem (unitRegs_guarded a) hd
  · exact guarded_of_mem (s.laneRegs_guarded a) hd

/-- A register's write, of fields that a software write leaves alone where they are identity fields, is safe. -/
def HandlerSafe (g : Handler) : Prop := ∀ s ini fs i v, Guarded fs → Safe s (g s ini fs i v)

theorem State.onBit_safe (s : State) (v b : Nat) (o : State → Out) (h : SafeEnds s (o s)) : Safe s (s.onBit v b o) := by
  unfold State.onBit
  split
  · exact leaves_safe h
  · exact Safe.refl s

/-- What a handler does after it has stored the fields keeps what the store kept. -/
theorem State.put_then_safe {s : State} {fs : List Fld} (i v : Nat) (hf : Guarded fs) {t : State} (h : Keeps (s.put fs i v) t) : Safe s t :=
  (s.put_safe fs i v hf).trans h.safe

theorem Keeps.ends {s t : State} {o : Out} (h : Keeps s t) (ho : Ends t o) : Ends s o := by
  obtain ⟨u, rfl, hu⟩ := ho
  exact ⟨u, rfl, h.trans hu⟩

theorem State.chance_safe (s : State) (g : Bool → State → Out) (h : ∀ b t, SafeEnds t (g b t)) : Safe s (s.chance g) := by
  unfold State.chance
  exact Safe.trans (Keeps.safe (by simp)) (leaves_safe (h _ s.drawn))

theorem glbHandlers_safe : ∀ h ∈ glbHandlers, HandlerSafe h.2 := by
  simp only [glbHandlers, List.forall_mem_cons]
  refine ⟨?_, ?_, ?_, ?_, ?_, ?_, by simp⟩ <;> intro s ini fs i v hf <;> dsimp only
  · split
    · exact leaves_safe (execGlbRstRecovery_safe ..)
    · exact s.onBit_safe _ _ _ (execGlbRstMain_safe ..)
  · simp
  · simp
  · simp
  · simp
  · split
    · exact s.put_safe fs i v hf
    · exact Safe.refl s

theorem scrHandlers_safe : ∀ h ∈ scrHandlers, HandlerSafe h.2 := by
  simp only [scrHandlers, List.forall_mem_cons]
  refine ⟨?_, ?_, ?_, by simp⟩ <;> intro s ini fs i v hf <;> dsimp only
  · split <;> simp
  · split
    · simp
    · exact s.put_safe fs i v hf
  · split
    · exact Safe.refl s
    · exact s.put_safe fs i v hf

theorem pwrHandlers_safe : ∀ h ∈ pwrHandlers, HandlerSafe h.2 := by
  simp only [pwrHandlers, List.forall_mem_cons]
  refine ⟨?_, ?_, ?_, ?_, by simp⟩ <;> intro s ini fs i v hf <;> dsimp only
  · split
    · exact s.put_safe fs i v hf
    · exact Safe.refl s
  · simp
  · simp
  · exact State.put_then_safe i v hf (by simp)

theorem bltHandlers_safe : ∀ h ∈ bltHandlers, HandlerSafe h.2 := by
  simp only [bltHandlers, List.forall_mem_cons]
  refine ⟨?_, ?_, ?_, by simp⟩ <;> intro s ini fs i v hf <;> dsimp only
  · simp
  · exact State.put_then_safe i v (butFlds_guarded [F.BLT_FLT_CTL_FORCE] hf) (by simp)
  · simp

theorem ethHandlers_safe : ∀ h ∈ ethHandlers, HandlerSafe h.2 := by
  simp only [ethHandlers, List.forall_mem_cons]
  refine ⟨?_, ?_, ?_, ?_, ?_, ?_, ?_, by simp⟩ <;> intro s ini fs i v hf <;> dsimp only
  · refine State.put_then_safe i v hf ?_
    split <;> simp
  · simp
  · exact State.put_then_safe i v hf (by simp)
  · exact State.put_then_safe i v hf (by simp)
  · simp
  · exact State.put_then_safe i v hf (by simp)
  · exact State.put_then_safe i v hf (by simp)

theorem laneHandlers_safe : ∀ h ∈ laneHandlers, HandlerSafe h.2 := by
  simp only [laneHandlers, List.forall_mem_cons]
  refine ⟨?_, ?_, ?_, ?_, ?_, ?_, ?_, ?_, by simp⟩ <;> intro s ini fs i v hf <;> dsimp only
  · refine State.put_then_safe i v (butFlds_guarded [F.LSL_CAN_CTL_EN] hf) ?_
    repeat' split
    all_goals simp
  · simp
  · exact State.put_then_safe i v hf (by simp)
  · exact State.put_then_safe i v hf (by simp)
  · simp
  · exact State.put_then_safe i v hf (by simp)
  · exact State.put_then_safe i v hf (by simp)
  · exact State.put_then_safe i v hf (by simp)

theorem ppHandlers_safe : ∀ h ∈ ppHandlers, HandlerSafe h.2 := by
  simp only [ppHandlers, List.forall_mem_cons]
  refine ⟨?_, ?_, by simp⟩ <;> intro s ini fs i v hf <;> dsimp only
  · exact State.put_then_safe i v hf (by simp)
  · exact s.put_safe fs i _ hf

theorem tblHandlers_safe : ∀ h ∈ tblHandlers, HandlerSafe h.2 := by
  simp only [tblHandlers, List.forall_mem_cons]
  refine ⟨?_, ?_, ?_, ?_, ?_, ?_, ?_, ?_, by simp⟩ <;> intro s ini fs i v hf <;> dsimp only
  · exact State.put_then_safe i v hf (by simp)
  · simp
  · simp
  · simp
  · simp
  · refine State.put_then_safe i v hf ?_
    split <;> simp
  · simp
  · exact State.put_then_safe i v hf (by simp)

theorem queHandlers_safe : ∀ h ∈ queHandlers, HandlerSafe h.2 := by
  simp only [queHandlers, List.forall_mem_cons]
  refine ⟨?_, ?_, ?_, ?_, ?_, ?_, ?_, ?_, ?_, by simp⟩ <;> intro s ini fs i v hf <;> dsimp only
  · simp
  · split
    · simp
    · split
      · exact Safe.refl s
      · exact s.put_safe fs i v hf
  · refine State.put_then_safe i v hf ?_
    split <;> simp
  · refine State.put_then_safe i v hf ?_
    split <;> simp
  · simp
  · split <;> simp
  · simp
  · simp
  · simp

theorem nibHandlers_safe : ∀ h ∈ nibHandlers, HandlerSafe h.2 := by
  simp only [nibHandlers, List.forall_mem_cons]
  refine ⟨?_, ?_, ?_, by simp⟩ <;> intro s ini fs i v hf <;> dsimp only <;> simp

theorem rulHandlers_safe : ∀ h ∈ rulHandlers, HandlerSafe h.2 := by
  simp only [rulHandlers, List.forall_mem_cons]
  refine ⟨?_, ?_, ?_, ?_, ?_, by simp⟩ <;> intro s ini fs i v hf <;> dsimp only
  · simp
  · simp
  · split <;> simp
  · simp
  · exact State.put_then_safe i v hf (by simp)

theorem secHandlers_safe : ∀ h ∈ secHandlers, HandlerSafe h.2 := by
  simp only [secHandlers, List.forall_mem_cons]
  refine ⟨?_, ?_, ?_, ?_, ?_, ?_, ?_, ?_, ?_, by simp⟩ <;> intro s ini fs i v hf <;> dsimp only
  · exact State.put_then_safe i v hf (by simp)
  · split
    · exact (s.chance_keeps _ fun w t => t.drawn_keeps.ends (execKeyUpdate_keeps ..)).safe
    all_goals simp
  · exact State.put_then_safe i v hf (by simp)
  · split <;> simp
  · exact State.put_then_safe i v hf (by simp)
  · exact State.put_then_safe i v hf (by simp)
  · exact State.put_then_safe i v hf (by simp)
  · exact State.put_then_safe i v hf (by simp)
  · split
    · exact Safe.refl s
    · exact s.put_safe fs i v hf

theorem dmaHandlers_safe : ∀ h ∈ dmaHandlers, HandlerSafe h.2 := by
  simp only [dmaHandlers, List.forall_mem_cons]
  refine ⟨?_, ?_, ?_, ?_, ?_, ?_, by simp⟩ <;> intro s ini fs i v hf <;> dsimp only
  · exact State.put_then_safe i v hf (by simp)
  · simp
  · split
    · exact Safe.refl s
    · exact s.put_safe fs i v hf
  · simp
  · simp
  · simp

theorem brgHandlers_safe : ∀ h ∈ brgHandlers, HandlerSafe h.2 := by
  simp only [brgHandlers, List.forall_mem_cons]
  refine ⟨?_, ?_, ?_, by simp⟩ <;> intro s ini fs i v hf <;> dsimp only <;> refine State.put_then_safe i v hf ?_
  · split <;> simp [State.brgCntClr]
  · split <;> simp
  · split <;> simp

theorem nslHandlers_safe : ∀ h ∈ nslHandlers, HandlerSafe h.2 := by
  simp only [nslHandlers, List.forall_mem_cons]
  refine ⟨?_, ?_, ?_, ?_, ?_, ?_, ?_, ?_, by simp⟩ <;> intro s ini fs i v hf <;> dsimp only
  · exact State.put_then_safe i v hf (by simp)
  · exact State.put_then_safe i v hf (by simp)
  · exact State.put_then_safe i v (butFlds_guarded [F.NSL_NET_LOCAL_NEED] hf) (by simp)
  · refine State.put_then_safe i v hf ?_
    split <;> simp
  · exact State.put_then_safe i v hf (by simp)
  · simp
  · simp
  · simp

theorem updHandlers_safe : ∀ h ∈ updHandlers, HandlerSafe h.2 := by
  simp only [updHandlers, List.forall_mem_cons]
  refine ⟨?_, by simp⟩
  intro s ini fs i v hf
  dsimp only
  split
  case h_3 => exact (leaves_keeps _ _ (s.drawn_keeps.ends (execUpdVerify_keeps ..))).safe
  case h_4 => exact s.chance_safe _ fun w t => execUpdCommit_safe t _ w
  all_goals simp

theorem handlers_safe : ∀ h ∈ handlers, HandlerSafe h.2 := by
  simp only [handlers, List.forall_mem_append]
  exact ⟨⟨⟨⟨⟨⟨⟨⟨⟨⟨⟨⟨⟨⟨⟨glbHandlers_safe, scrHandlers_safe⟩, pwrHandlers_safe⟩, bltHandlers_safe⟩, ethHandlers_safe⟩, laneHandlers_safe⟩,
    ppHandlers_safe⟩, tblHandlers_safe⟩, queHandlers_safe⟩, nibHandlers_safe⟩, rulHandlers_safe⟩, secHandlers_safe⟩, dmaHandlers_safe⟩,
    brgHandlers_safe⟩, nslHandlers_safe⟩, updHandlers_safe⟩

theorem State.regStore_safe (s : State) (ini : Initiator) (fs : List Fld) (i v : Nat) (hf : Guarded fs) : Safe s (s.regStore ini fs i v) := by
  unfold State.regStore
  split
  · exact Safe.refl s
  · split
    · next h found => exact handlers_safe h (List.mem_of_find?_eq_some found) s ini _ i v hf
    · exact s.put_safe _ i v hf

theorem State.hitWrite_safe (s : State) (ini : Initiator) (a val : Nat) (h : RegHit) (hh : Guarded h.1.flds) :
    Safe s (s.hitWrite ini a val h) := by
  unfold State.hitWrite
  split
  · exact Safe.refl s
  · split
    · simp
    · exact (s.unhold_keeps ini a h.1.words).safe.trans (State.regStore_safe _ ini _ _ _ hh)

theorem State.wordWrite_safe (s : State) (ini : Initiator) (a val : Nat) : Safe s (s.wordWrite ini a val) := by
  unfold State.wordWrite
  split
  · next t ht => exact (s.winWrite_keeps a val t ht).safe
  · exact foldl_safe _ (fun t h hh => t.hitWrite_safe ini a val h (s.regHits_guarded a h hh)) s

@[simp] theorem State.regWrite_safe (s : State) (ini : Initiator) (a val : Nat) : Safe s (s.regWrite ini a val) := by
  unfold State.regWrite
  split
  · exact Safe.refl s
  · split
    · simp
    · exact (s.wordWrite_safe ini a val).trans (Keeps.safe (by simp))

theorem execRegisterWrite_safe (s : State) (ini : Initiator) (a : Nat) (val : Word) (h : a % 4 = 0) :
    SafeEnds s (execRegisterWrite ini a val s) := by
  unfold execRegisterWrite
  rw [if_neg (by omega)]
  split
  · simp [safeEnds_next]
  · split
    · simp [safeEnds_next]
    · exact (safeEnds_next ..).2 ((s.regWrite_safe ini a val.toNat).trans (Keeps.safe (by simp)))

/-! ### The commands that write registers for software: Ferrule, Scroll, Ligature -/

theorem State.ferruleAct_safe (s : State) (die : Die) (m : FerruleMsg) : Safe s (s.ferruleAct die m) := by
  unfold State.ferruleAct
  split
  · split
    · exact s.wordWrite_safe _ _ _
    · exact Safe.refl s
  · simp
  · exact Safe.refl s

theorem execFerruleTransferRx_safe (s : State) (die : Die) (got : FerruleRx) (seq : Fin 256) (msg : FerruleMsg) :
    SafeEnds s (execFerruleTransferRx die got seq msg s) := by
  have seen : Keeps s (if die = .power then s.wr F.BLT_FLT_STAT_ABSENT 0 0 else s) := by simp
  simp only [execFerruleTransferRx]
  generalize (if die = .power then s.wr F.BLT_FLT_STAT_ABSENT 0 0 else s) = u at seen
  split
  · simp [safeEnds_next]
  split
  · simp [safeEnds_next]
  split
  · simp [safeEnds_next, seen]
  split
  · exact (safeEnds_next ..).2 (Safe.trans (Keeps.safe (by simp [seen])) (State.ferruleAct_safe _ die msg))
  split <;> simp [safeEnds_next, seen]

@[simp] theorem State.releaseHeld_safe (s : State) : Safe s s.releaseHeld :=
  foldl_safe _ (fun t h _ => t.wordWrite_safe h.1 h.2.1 h.2.2) { s with scr := { s.scr with held := [] } }

theorem execSoftScrollCommit_safe (s : State) : SafeEnds s (execSoftScrollCommit s) := by
  simp only [execSoftScrollCommit]
  split
  · simp [safeEnds_next]
  split
  · simp [safeEnds_next]
  refine (safeEnds_next ..).2 ⟨fun hs => ?_, ?_⟩ <;> simp [*]

theorem execRestructPortsEnabled_safe (s : State) : SafeEnds s (execRestructPortsEnabled s) := by
  simp only [execRestructPortsEnabled]
  split
  · simp [safeEnds_next]
  split
  · simp [safeEnds_next]
  split
  · refine (safeEnds_next ..).2 ?_
    split
    · simp
    · exact Safe.trans (Keeps.safe (by simp)) (State.releaseHeld_safe _)
  · simp [safeEnds_next]

theorem State.ligExecute_safe (s : State) (t : Tis) : Safe s (s.ligExecute t).1 := by
  simp only [State.ligExecute]
  split
  · simp
  split
  · simp
  · dsimp only
    split
    · exact s.regWrite_safe ..
    · simp

theorem State.ligRespond_safe (s : State) (t : Tis) : Safe s (s.ligRespond t).1 := by
  simp only [State.ligRespond]
  generalize (if t.flags % 2 = 1 then t.seq else s.lig.expect.get 0 (4096 * t.init + t.src)) = want
  split
  · exact Safe.trans (Keeps.safe (by simp)) (State.ligExecute_safe _ t)
  split <;> simp

theorem State.ligGo_safe (s : State) (r : LigReq) : Safe s (s.ligGo r) := by
  simp only [State.ligGo]
  split
  · split
    · generalize Tis.mk .. = t
      split
      · exact (s.ligRespond_safe t).trans (Keeps.safe (by simp))
      · exact s.ligRespond_safe t
    · exact Safe.refl s
  · simp

theorem State.ligTake_safe (s : State) (x : LigAcc) : Safe s (s.ligTake x) := by
  simp only [State.ligTake]
  split
  · simp
  split
  · simp
  · refine Safe.trans (Keeps.safe ?_) (State.ligGo_safe _ _)
    split <;> simp

theorem State.ligService_safe (s : State) (n : Nat) : Safe s (s.ligService n) := by
  induction n generalizing s with
  | zero => exact Safe.refl s
  | succ n ih =>
    unfold State.ligService
    split
    · exact Safe.refl s
    · split
      · exact Safe.trans (Safe.trans (Keeps.safe (by simp)) (State.ligTake_safe _ _)) (ih _)
      · exact Safe.refl s

theorem State.ligServiced_safe (s : State) : Safe s s.ligServiced := s.ligService_safe _

/-- Accesses that wait are served after a state that keeps the registers and the queue. -/
theorem Keeps.ligServiced {s t : State} (h : Keeps s t) : Safe s t.ligServiced := h.safe.trans t.ligServiced_safe

theorem State.ligAccess_safe (s : State) (x : LigAcc) : Safe s (s.ligAccess x) := by
  unfold State.ligAccess
  split
  · simp
  · exact (s.ligTake_safe x).trans (State.ligServiced_safe _)

theorem execBar2Write_safe (s : State) (ini : Initiator) (off : Nat) (val : Word) : SafeEnds s (execBar2Write ini off val s) := by
  refine (safeEnds_next ..).2 ?_
  split
  · exact s.ligAccess_safe _
  · exact Safe.refl s

theorem execBar2Read_safe (s : State) (ini : Initiator) (off : Nat) : SafeEnds s (execBar2Read ini off s) := by
  refine (safeEnds_next ..).2 ?_
  split
  · exact s.ligAccess_safe _
  · exact Safe.refl s

theorem State.ligServe_safe (s : State) (t : Tis) : Safe s (s.ligServe t) := by
  refine (s.ligRespond_safe t).trans ?_
  simp only [State.ligServe]
  split
  · exact Safe.refl _
  · split <;> simp

theorem State.ligRequest_safe (s : State) (port : Nat) (secured : Bool) (b : List Byte) : Safe s (s.ligRequest port secured b) := by
  simp only [State.ligRequest]
  iterate 4 (split; · simp)
  split
  · exact Safe.trans (Keeps.safe (by simp)) (State.ligServe_safe _ _)
  · split
    · simp
    · split <;> simp

theorem execTisulerRequestRx_safe (s : State) : SafeEnds s (execTisulerRequestRx s) := by
  refine (safeEnds_next ..).2 ?_
  split
  · next x hx => exact (s.tisHead_keeps false x hx).safe.trans (State.ligRequest_safe _ _ _ _)
  · exact Safe.refl s

theorem State.ligResponse_safe (s : State) (b : List Byte) : Safe s (s.ligResponse b) := by
  simp only [State.ligResponse]
  split
  · simp
  split
  · split <;> simp
  split
  · exact Keeps.ligServiced (by simp)
  · split
    · split <;> simp
    · simp

theorem execTisulerResponseRx_safe (s : State) : SafeEnds s (execTisulerResponseRx s) := by
  refine (safeEnds_next ..).2 ?_
  split
  · next x hx => exact (s.tisHead_keeps true x hx).safe.trans (State.ligResponse_safe _ _)
  · exact Safe.refl s

theorem execLigatureWriteTimeout_safe (s : State) (k : Fin 64) : SafeEnds s (execLigatureWriteTimeout k s) := by
  refine (safeEnds_next ..).2 ?_
  split
  · split
    · exact Keeps.ligServiced (by simp)
    · exact Safe.refl s
  · exact Safe.refl s

theorem execLigatureReadTimeout_safe (s : State) (k : Fin 64) : SafeEnds s (execLigatureReadTimeout k s) := by
  refine (safeEnds_next ..).2 ?_
  split
  · split
    · exact Safe.refl s
    · exact Keeps.ligServiced (by simp)
  · exact Safe.refl s

theorem execLigatureRetry_safe (s : State) (k : Fin 64) : SafeEnds s (execLigatureRetry k s) := by
  refine (safeEnds_next ..).2 ?_
  split
  · split
    · exact Safe.refl s
    split
    · refine Keeps.ligServiced ?_
      split <;> simp
    · exact Safe.trans (Safe.trans (Keeps.safe (by simp)) (State.ligGo_safe _ _)) (State.ligServiced_safe _)
  · exact Safe.refl s

theorem State.ligFifo_safe (s : State) (n : Nat) : Safe s (s.ligFifo n) := by
  induction n generalizing s with
  | zero => exact Safe.refl s
  | succ n ih =>
    unfold State.ligFifo
    split
    · exact Safe.refl s
    · split
      · exact Safe.trans (Safe.trans (Keeps.safe (by simp)) (State.ligServe_safe _ _)) (ih _)
      · exact Safe.refl s

theorem execResponderSlotFree_safe (s : State) : SafeEnds s (execResponderSlotFree s) := by
  refine (safeEnds_next ..).2 ?_
  split
  · exact Safe.refl s
  · exact Safe.trans (Keeps.safe (by simp)) (State.ligFifo_safe _ _)

/-! ### Every command and every step -/

@[simp] theorem State.tick_keeps (s : State) : Keeps s s.tick := by
  simp only [State.tick]
  split
  · split <;> simp
  · simp

/-- The offset of a register access is a multiple of 4. -/
def Aligned : Instr → Prop
  | .registerWrite _ a _ => a % 4 = 0
  | .wideRegLowRead _ a => a % 4 = 0
  | _ => True

/-- Every aligned command ends, leaves the queue, and leaves identity registers that are as chapter 03 has them. -/
theorem exec_safe (i : Instr) (s : State) (h : Aligned i) : SafeEnds s (exec i s) := by
  cases i with
  | registerWrite ini a v => exact execRegisterWrite_safe s ini a v h
  | wideRegLowRead ini a => exact (execWideRegLowRead_keeps s ini a h).safe
  | ferruleTransferRx die got seq msg => exact execFerruleTransferRx_safe s die got seq msg
  | vbatPowerOn => exact execVbatPowerOn_safe s
  | vbatPowerLoss => exact execVbatPowerLoss_safe s
  | glbRstMain key => exact execGlbRstMain_safe s key
  | glbRstRecovery key => exact execGlbRstRecovery_safe s key
  | sysRstNLow => exact execSysRstNLow_safe s
  | supplyReset k level => exact execSupplyReset_safe s k level
  | sleepCommit => exact execSleepCommit_safe s
  | softScrollCommit => exact execSoftScrollCommit_safe s
  | restructPortsEnabled => exact execRestructPortsEnabled_safe s
  | bar2Write ini off v => exact execBar2Write_safe s ini off v
  | bar2Read ini off => exact execBar2Read_safe s ini off
  | tisulerRequestRx => exact execTisulerRequestRx_safe s
  | tisulerResponseRx => exact execTisulerResponseRx_safe s
  | ligatureWriteTimeout k => exact execLigatureWriteTimeout_safe s k
  | ligatureReadTimeout k => exact execLigatureReadTimeout_safe s k
  | ligatureRetry k => exact execLigatureRetry_safe s k
  | responderSlotFree => exact execResponderSlotFree_safe s
  | blotterReport r more => exact execBlotterReport_safe s r more
  | updCommit restart ok => exact execUpdCommit_safe s restart ok
  | uartCommit p crc bad ok => exact execUartCommit_safe s p crc bad ok
  | _ => exact Ends.safe (by simp [exec])

theorem exec_misaligned (ini : Initiator) (a : Nat) (v : Word) (s : State) (h : a % 4 ≠ 0) :
    exec (.registerWrite ini a v) s = .fault .misalignedAccess ∧ exec (.wideRegLowRead ini a) s = .fault .misalignedAccess := by
  simp [exec, execRegisterWrite, execWideRegLowRead, h]

/-- A command that answers a next state is aligned. -/
theorem aligned_of_exec {i : Instr} {s t : State} (h : exec i s = .next t) : Aligned i := by
  cases i with
  | registerWrite ini a v =>
    refine Classical.byContradiction fun (ha : a % 4 ≠ 0) => ?_
    rw [(exec_misaligned ini a v s ha).1] at h
    cases h
  | wideRegLowRead ini a =>
    refine Classical.byContradiction fun (ha : a % 4 ≠ 0) => ?_
    rw [(exec_misaligned ini a 0 s ha).2] at h
    cases h
  | _ => trivial

theorem aligned_of_wellFormed {i : Instr} (h : i.wellFormed = true) : Aligned i := by
  cases i with
  | registerWrite ini a v => exact (by simpa [Instr.wellFormed] using h : a % 4 = 0 ∧ _).1
  | wideRegLowRead ini a => exact (by simpa [Instr.wellFormed] using h : a % 4 = 0 ∧ _).1
  | _ => trivial

/-- Every step leaves identity registers that are as chapter 03 has them. -/
theorem step_keeps_ident {s t : State} (h : step s = .next t) (hs : identOf s.regs = ident) : identOf t.regs = ident := by
  unfold step at h
  split at h
  · obtain rfl := Host.Outcome.next.inj h
    rw [s.tick_keeps.1, hs]
  · next i rest _ =>
    obtain ⟨u, hu, safe⟩ := exec_safe i { s with pending := rest } (aligned_of_exec h)
    obtain rfl := Host.Outcome.next.inj (hu.symm.trans h)
    exact safe.1 hs

end Sys2Proof.Machine
end

section
/-! SUPPORT. The statements about scope that the invariant of the identity registers settles. -/
namespace Sys2Proof
open Sys2Proof.Machine

/-- Settles O3: every operation of the model keeps what GLB_DEV_ID and GLB_DEV_REV read (`Keeps`), but for software writes and resets,
which keep it where it is what chapter 03 gives (`Safe`). -/
theorem identityRegistersNeverChange : Obligations.IdentityRegistersNeverChange := by
  unfold Obligations.IdentityRegistersNeverChange
  intro s t hs h
  rw [identityHolds_iff] at hs ⊢
  exact step_keeps_ident h hs

/-- Settles O6: only a misaligned register access stops. -/
theorem noWellFormedCommandStops : Obligations.NoWellFormedCommandStops := by
  unfold Obligations.NoWellFormedCommandStops
  refine ⟨fun c s h => ?_, fun ini a v s h => exec_misaligned ini a v s h⟩
  obtain ⟨t, ht, -⟩ := exec_safe c s (aligned_of_wellFormed h)
  exact ⟨t, ht⟩

end Sys2Proof
end

section
/-! SUPPORT. Register accesses that reach one register (spec 00 R4 to R7): what a write stores, what an upper word held and a read do. -/
namespace Sys2Proof.Machine

-- One proof after another: many at a time take more memory than the check allows.
set_option Elab.async false

/-! ### What the store of a register's fields leaves -/

theorem State.rd_storeFlds_of_notMem (s : State) (l : Bool) (fs : List Fld) (i v : Nat) (f : Fld) (j : Nat) (h : f.id ∉ fs.map Fld.id) :
    (s.storeFlds l fs i v).rd f j = s.rd f j := by
  induction fs generalizing s with
  | nil => rfl
  | cons g fs ih =>
    obtain ⟨hg, hfs⟩ : f.id ≠ g.id ∧ f.id ∉ fs.map Fld.id := by simpa using h
    exact (ih _ hfs).trans (s.rd_wr_fld g f i j _ hg)

theorem State.rd_storeFlds_elem (s : State) (l : Bool) (fs : List Fld) (i v : Nat) (f : Fld) (j : Nat) (h : j ≠ i) :
    (s.storeFlds l fs i v).rd f j = s.rd f j := by
  induction fs generalizing s with
  | nil => rfl
  | cons g fs ih => exact (ih _).trans (s.rd_wr_elem g f i j _ h)

/-- A field that the register has once takes what its type leaves of the bits written. -/
theorem State.rd_storeFlds_of_mem (s : State) (l : Bool) (fs : List Fld) (i v : Nat) (f : Fld) (hf : f ∈ fs) (once : (fs.map Fld.id).Nodup) :
    (s.storeFlds l fs i v).rd f i = f.ty.written l (s.rd f i) (f.cut v) % 2 ^ f.width := by
  induction fs generalizing s with
  | nil => cases hf
  | cons g fs ih =>
    obtain ⟨hg, rest⟩ := List.nodup_cons.mp once
    rcases List.mem_cons.mp hf with rfl | hf
    · exact (State.rd_storeFlds_of_notMem _ l fs i v f i hg).trans (s.rd_wr_same f i _)
    · have other : f.id ≠ g.id := fun e => hg (e ▸ List.mem_map_of_mem hf)
      refine (ih _ hf rest).trans ?_
      rw [s.rd_wr_fld g f i i _ other]

theorem State.storeFlds_eq (s : State) (l : Bool) (fs : List Fld) (i v : Nat) :
    s.storeFlds l fs i v = { s with regs := (s.storeFlds l fs i v).regs } := by
  induction fs generalizing s with
  | nil => rfl
  | cons g fs ih => exact ih (s.wr g i _)

/-- The write of a register with these fields does nothing but store. -/
def StoresOnly (fs : List Fld) : Prop := ∀ f ∈ fs, ∀ h ∈ handlers, h.1 ≠ f.id

theorem State.regStore_eq_put (s : State) (ini : Initiator) (fs : List Fld) (i v : Nat) (h : StoresOnly fs) :
    s.regStore ini fs i v = s.put fs i v := by
  cases fs with
  | nil => rfl
  | cons f fs =>
    have none : handlers.find? (fun x => decide (x.1 = f.id)) = none :=
      List.find?_eq_none.mpr fun x hx => by simpa using h f (by simp) x hx
    simp only [State.regStore, none]

/-! ### The value that a write gives the whole register -/

theorem State.wholeWrite_one (s : State) (ini : Initiator) (d : RegDef) (i a val : Nat) (h : d.words = 1) : s.wholeWrite ini d i a val = val := by
  simp [State.wholeWrite, h]

theorem State.wholeWrite_two (s : State) (ini : Initiator) (d : RegDef) (i a val hi : Nat) (h : d.words = 2)
    (held : s.heldWord ini (a + 4) = some hi) : s.wholeWrite ini d i a val = val + hi * 2 ^ 32 := by
  have two : List.range d.words = [0, 1] := by rw [h]; rfl
  have low : val * 2 ^ (32 * 0) = val := Nat.mul_one val
  rw [State.wholeWrite, two, List.foldl_cons, List.foldl_cons, List.foldl_nil, if_pos rfl, if_neg Nat.one_ne_zero, low, Nat.zero_add,
    show 4 * 1 = 4 from rfl, show 32 * 1 = 32 from rfl, held, Option.getD_some]

theorem State.heldWord_hold (s : State) (ini : Initiator) (a val : Nat) : (s.hold ini a val).heldWord ini a = some val := by
  simp only [State.heldWord, State.hold, List.find?_append]
  rw [List.find?_eq_none.mpr fun x hx => ne_true_of_eq_false ((Bool.not_eq_true' _).mp (List.mem_filter.mp hx).2)]
  simp

theorem State.latchedWord_latch (s : State) (ini : Initiator) (a v : Nat) : (s.latch ini a 2 v).latchedWord ini (a + 4) = some (bits v 32 32) := by
  simp only [State.latchedWord, State.latch, List.find?_append]
  rw [List.find?_eq_none.mpr fun x hx found => ?_]
  · simp
  · obtain ⟨hi, ha⟩ : x.1 = ini ∧ x.2.1 = a + 4 := by simpa using found
    have kept := (List.mem_filter.mp hx).2
    simp [hi, ha] at kept

/-! ### What an access leaves beside the registers -/

/-- `t` is `s` but for the interrupt table, its memory and what the bus holds. -/
def BusOnly (s t : State) : Prop :=
  t = { s with bus := t.bus, answer := t.answer, msix := t.msix, hostMem := t.hostMem }

theorem BusOnly.trans {s t u : State} (h : BusOnly s t) (h' : BusOnly t u) : BusOnly s u := by
  unfold BusOnly at *
  rw [h', h]

theorem State.msixVector_busOnly (s : State) (v : Nat) : BusOnly s (s.msixVector v) := by
  simp only [State.msixVector]
  repeat' split
  all_goals rfl

theorem State.msixService_busOnly (s : State) : BusOnly s s.msixService := by
  unfold State.msixService
  generalize List.range 64 = l
  induction l generalizing s with
  | nil => rfl
  | cons v l ih => exact (s.msixVector_busOnly v).trans (ih _)

theorem State.msixService_bus (s : State) : s.msixService.bus = s.bus := by
  unfold State.msixService
  generalize List.range 64 = l
  induction l generalizing s with
  | nil => rfl
  | cons v l ih =>
    refine (ih _).trans ?_
    simp only [State.msixVector]
    repeat' split
    all_goals rfl

theorem State.reply_done (s : State) (ini : Initiator) (data : Nat) : s.reply ini .done data = { s with answer := some ⟨ini, .done, data⟩ } := by
  simp [State.reply, aerBit]

theorem State.hold_busOnly (s : State) (ini : Initiator) (a val : Nat) : BusOnly s (s.hold ini a val) := rfl

/-! ### A write that reaches one register -/

/-- A word written at `a` reaches the register word `h` and nothing else (00 R6, 02 R52, 03 R69). -/
structure State.WriteHits (s : State) (ini : Initiator) (a val : Nat) (h : RegHit) : Prop where
  up : s.mainUp = true
  runs : s.coreHalted ini = false
  reached : s.reached a = true
  aligned : a % 4 = 0
  link : (onPowerDie a && !s.linkUp) = false
  free : s.softNames a = false
  window : s.winWrite a val = none
  only : s.regHits a = [h]

theorem exec_registerWrite_of_hits {s : State} {ini : Initiator} {a : Nat} {val : Word} {h : RegHit} (w : s.WriteHits ini a val.toNat h) :
    exec (.registerWrite ini a val) s = .next ((s.hitWrite ini a val.toNat h).msixService.reply ini .done 0) := by
  simp [exec, execRegisterWrite, State.regWrite, State.wordWrite, w.up, w.runs, w.reached, w.aligned, w.link, w.free, w.window, w.only]

/-- What a write reaches does not depend on what the bus holds. -/
theorem State.WriteHits.of_busOnly {s t : State} {ini : Initiator} {a val val' : Nat} {h : RegHit} (w : s.WriteHits ini a val h)
    (hb : BusOnly s t) (window : t.winWrite a val' = none) : t.WriteHits ini a val' h := by
  unfold BusOnly at hb
  generalize t.bus = b, t.answer = x, t.msix = m, t.hostMem = mem at hb
  subst hb
  exact ⟨w.up, w.runs, w.reached, w.aligned, w.link, w.free, window, w.only⟩

theorem State.hitWrite_low (s : State) (ini : Initiator) (a val : Nat) (d : RegDef) (i : Nat) (present : regAbsent d i = false)
    (h : StoresOnly d.flds) : s.hitWrite ini a val (d, i, 0) = (s.unhold ini a d.words).put d.flds i (s.wholeWrite ini d i a val) := by
  simp [State.hitWrite, present, State.regStore_eq_put _ _ _ _ _ h]

theorem State.hitWrite_high (s : State) (ini : Initiator) (a val : Nat) (d : RegDef) (i : Nat) (present : regAbsent d i = false) :
    s.hitWrite ini a val (d, i, 1) = s.hold ini a val := by
  simp [State.hitWrite, present]

theorem BusOnly.rd {s t : State} (h : BusOnly s t) (f : Fld) (i : Nat) : t.rd f i = s.rd f i := by
  unfold BusOnly at h
  rw [h]
  rfl

theorem BusOnly.locked {s t : State} (h : BusOnly s t) : t.locked = s.locked := by
  unfold BusOnly at h
  rw [h]
  rfl

theorem State.unhold_busOnly (s : State) (ini : Initiator) (a n : Nat) : BusOnly s (s.unhold ini a n) := rfl

theorem State.reply_done_busOnly (s : State) (ini : Initiator) (data : Nat) : BusOnly s (s.reply ini .done data) := by
  rw [State.reply_done]
  rfl

/-- The fields `fs` of element `i` of `t` hold what a software write of `v` leaves of those of `s`; no other field and no other element
differs (00 R7). -/
structure Stored (s t : State) (fs : List Fld) (i v : Nat) : Prop where
  written : ∀ f ∈ fs, t.rd f i = f.ty.written s.locked (s.rd f i) (f.cut v) % 2 ^ f.width
  others : RegsBut fs s t
  elems : ∀ f ∈ fs, ElemsBut f i s t

theorem State.storeFlds_stored (s : State) (fs : List Fld) (i v : Nat) (once : (fs.map Fld.id).Nodup) :
    Stored s (s.storeFlds s.locked fs i v) fs i v where
  written f hf := s.rd_storeFlds_of_mem _ fs i v f hf once
  others f j hf := s.rd_storeFlds_of_notMem _ fs i v f j hf
  elems f _ j hj := s.rd_storeFlds_elem _ fs i v f j hj

theorem Stored.then_busOnly {s t u : State} {fs : List Fld} {i v : Nat} (h : Stored s t fs i v) (hb : BusOnly t u) : Stored s u fs i v where
  written f hf := (hb.rd f i).trans (h.written f hf)
  others f j hf := (hb.rd f j).trans (h.others f j hf)
  elems f hf j hj := (hb.rd f j).trans (h.elems f hf j hj)

theorem Stored.of_busOnly {s t u : State} {fs : List Fld} {i v : Nat} (hb : BusOnly s t) (h : Stored t u fs i v) : Stored s u fs i v where
  written f hf := by rw [h.written f hf, hb.rd, hb.locked]
  others f j hf := (h.others f j hf).trans (hb.rd f j)
  elems f hf j hj := (h.elems f hf j hj).trans (hb.rd f j)

/-- A write of the low word of a register that only stores: it stores the whole value and answers. -/
theorem exec_registerWrite_stores {s : State} {ini : Initiator} {a : Nat} {val : Word} {d : RegDef} {i : Nat}
    (w : s.WriteHits ini a val.toNat (d, i, 0)) (present : regAbsent d i = false) (once : (d.flds.map Fld.id).Nodup)
    (plain : StoresOnly d.flds) :
    Does (.registerWrite ini a val) s fun t => Stored s t d.flds i (s.wholeWrite ini d i a val.toNat) ∧ t.answer = some ⟨ini, .done, 0⟩
      ∧ t = { s with regs := t.regs, bus := t.bus, answer := t.answer, msix := t.msix, hostMem := t.hostMem } := by
  refine ⟨_, exec_registerWrite_of_hits w, ?_⟩
  rw [State.hitWrite_low _ _ _ _ _ _ present plain]
  generalize s.wholeWrite ini d i a val.toNat = v
  have freed := s.unhold_busOnly ini a d.words
  generalize s.unhold ini a d.words = u at freed
  have stored := (u.storeFlds_stored d.flds i v once).of_busOnly freed
  have shape := u.storeFlds_eq u.locked d.flds i v
  rw [State.put]
  generalize u.storeFlds u.locked d.flds i v = x at stored shape
  have sent := x.msixService_busOnly.trans (x.msixService.reply_done_busOnly ini 0)
  refine ⟨stored.then_busOnly sent, rfl, ?_⟩
  generalize x.msixService.reply ini .done 0 = t at sent
  unfold BusOnly at freed sent
  rw [sent, shape, freed]

theorem State.reply_bus (s : State) (ini : Initiator) (k : AnsKind) (data : Nat) : (s.reply ini k data).bus = s.bus := rfl

theorem State.heldWord_congr {s t : State} (h : t.bus = s.bus) (ini : Initiator) (a : Nat) : t.heldWord ini a = s.heldWord ini a := by
  simp only [State.heldWord, h]

/-- A write of the upper word of a register: the word is held, and no register changes (00 R5). -/
theorem exec_registerWrite_holds {s : State} {ini : Initiator} {a : Nat} {val : Word} {d : RegDef} {i : Nat}
    (w : s.WriteHits ini a val.toNat (d, i, 1)) (present : regAbsent d i = false) :
    Does (.registerWrite ini a val) s fun t => BusOnly s t ∧ t.heldWord ini a = some val.toNat := by
  refine ⟨_, exec_registerWrite_of_hits w, ?_⟩
  rw [State.hitWrite_high _ _ _ _ _ _ present]
  have sent := (s.hold ini a val.toNat).msixService_busOnly.trans (State.reply_done_busOnly _ ini 0)
  refine ⟨(s.hold_busOnly ini a val.toNat).trans sent, ?_⟩
  rw [State.heldWord_congr ((State.reply_bus ..).trans (State.msixService_bus _)), s.heldWord_hold]

/-- A word read at `a` reaches the low word of register `d` and nothing else: no window, and no register whose read acts. -/
structure State.ReadHits (s : State) (ini : Initiator) (a : Nat) (d : RegDef) (i : Nat) : Prop where
  up : s.mainUp = true
  runs : s.coreHalted ini = false
  reached : s.reached a = true
  aligned : a % 4 = 0
  link : (onPowerDie a && !s.linkUp) = false
  noFifo : ¬(0x1800000 ≤ a ∧ a < 0x1C00000)
  noRandom : a ≠ 0xC00018
  noClaim : ¬(0x1400 ≤ a ∧ a < 0x1410)
  noCause : rcRegs.find? (fun r => decide (r.1 = a)) = none
  window : s.winRead a = none
  unlatched : s.latchedWord ini a = none
  only : s.regHits a = [(d, i, 0)]

/-- A read of the low word of a two-word register answers it and latches the upper word (00 R5). -/
theorem exec_wideRegLowRead_of_hits {s : State} {ini : Initiator} {a : Nat} {d : RegDef} {i : Nat} (r : s.ReadHits ini a d i)
    (wide : d.words = 2) : exec (.wideRegLowRead ini a) s
      = .next ((s.latch ini a 2 (s.readReg d i)).reply ini .done (bits (s.readReg d i) 0 32)) := by
  have read : s.wordRead ini a = (s.latch ini a 2 (s.readReg d i), bits (s.readReg d i) 0 32) := by
    unfold State.wordRead
    rw [if_neg r.noFifo, if_neg r.noRandom, if_neg r.noClaim, r.noCause, r.window, r.unlatched, r.only]
    simp [wide]
  simp [exec, execWideRegLowRead, State.regRead, r.up, r.runs, r.reached, r.aligned, r.link, read]

end Sys2Proof.Machine
end

section
/-! SUPPORT. The statements about register accesses. -/
namespace Sys2Proof
open Sys2Proof.Machine

/-- Settles O7: a one-word register's write value is the word itself, and each field is stored once. -/
theorem registerWriteStoresByType : Obligations.RegisterWriteStoresByType := by
  unfold Obligations.RegisterWriteStoresByType
  intro s ini a val d i
  refine ⟨fun aligned idle => ?_, fun up runs reached aligned link free window only present one once plain => ?_⟩
  · rcases idle with h | h <;> simp [exec, execRegisterWrite, aligned, h]
  · obtain ⟨t, ht, stored, answer, shape⟩ :=
      exec_registerWrite_stores ⟨up, runs, reached, aligned, link, free, window, only⟩ present once plain
    rw [s.wholeWrite_one ini d i a _ one] at stored
    exact ⟨t, ht, stored.written, stored.others, stored.elems, answer, shape⟩

/-- Settles O8: the held word is the upper half of the value stored, and a read latches the upper word of the value read. -/
theorem wideRegisterAccesses : Obligations.WideRegisterAccesses := by
  unfold Obligations.WideRegisterAccesses
  intro s ini a lo hi d i up runs reached reachedHi aligned link linkHi free freeHi window windowHi noWin unlatched only onlyHi wide present
    once plain noCause noClaim noRandom noFifo
  refine ⟨?_, ?_⟩
  · obtain ⟨t, ht, bus, held⟩ :=
      exec_registerWrite_holds ⟨up, runs, reachedHi, by omega, linkHi, freeHi, windowHi, onlyHi⟩ present
    refine ⟨t, ht, fun f j _ => bus.rd f j, fun windowAfter => ?_⟩
    have low : s.WriteHits ini a lo.toNat (d, i, 0) := ⟨up, runs, reached, aligned, link, free, window, only⟩
    obtain ⟨u, hu, stored, -⟩ := exec_registerWrite_stores (low.of_busOnly bus windowAfter) present once plain
    rw [t.wholeWrite_two ini d i a _ _ wide held] at stored
    exact ⟨u, hu, (stored.of_busOnly bus).written⟩
  · refine ⟨_, exec_wideRegLowRead_of_hits ⟨up, runs, reached, aligned, link, noFifo, noRandom, noClaim, noCause, noWin, unlatched, only⟩ wide, ?_⟩
    rw [State.reply_done]
    exact ⟨rfl, s.latchedWord_latch ini a _⟩

end Sys2Proof
end

section
/-! SUPPORT. What folds and reports leave as it was. -/
namespace Sys2Proof.Machine

/-- What every step of a fold leaves as it was, the fold leaves so. -/
theorem foldl_leaves {α β : Type} (π : State → β) {g : State → α → State} (l : List α) (s : State) (h : ∀ t x, π (g t x) = π t) :
    π (l.foldl g s) = π s :=
  List.foldlRecOn l g (motive := fun t => π t = π s) rfl fun t ht x _ => (h t x).trans ht

/-- A command that only reports sends one report, of any detail, and changes no register. -/
theorem does_reportX {c : Instr} {s : State} {src elem : Nat} (h : exec c s = .next (s.reportX src elem)) :
    Does c s fun t => (∃ info, t.transit = s.transit ++ [⟨src, elem, info⟩]) ∧ RegsBut [] s t :=
  ⟨_, h, ⟨_, rfl⟩, fun _ _ _ => rfl⟩

/-- `t` has the registers of `s` and the reports on their way. -/
def Quiet (s t : State) : Prop := t.regs = s.regs ∧ t.transit = s.transit

theorem Quiet.trans {s t u : State} (h : Quiet s t) (h' : Quiet t u) : Quiet s u := ⟨h'.1.trans h.1, h'.2.trans h.2⟩

theorem Quiet.rd {s t : State} (h : Quiet s t) (f : Fld) (i : Nat) : t.rd f i = s.rd f i := by
  rw [State.rd, h.1, State.rd]

end Sys2Proof.Machine
end

section
/-! SUPPORT. The operations that start a recovery leave the recoveries running and waiting as they were. -/
namespace Sys2Proof.Machine

@[simp] theorem foldl_recov {α : Type} (g : State → α → State) (h : ∀ t x, (g t x).recov = t.recov) (l : List α) (s : State) :
    (l.foldl g s).recov = s.recov := foldl_leaves State.recov l s h

@[simp] theorem State.recov_ite (c : Prop) [Decidable c] (a b : State) : (if c then a else b).recov = if c then a.recov else b.recov :=
  apply_ite ..

section
variable (s : State)

/-! ### Registers, frames and queues (spec 09) -/

@[simp] theorem State.evt_recov (f : Fld) (i : Nat) : (s.evt f i).recov = s.recov := rfl
@[simp] theorem State.wrb_recov (f : Fld) (i : Nat) (b : Bool) : (s.wrb f i b).recov = s.recov := rfl
@[simp] theorem State.bump_recov (f : Fld) (i : Nat) : (s.bump f i).recov = s.recov := rfl
@[simp] theorem State.bumpBy_recov (f : Fld) (i n : Nat) : (s.bumpBy f i n).recov = s.recov := rfl
@[simp] theorem State.setQueue_recov (q : Nat) (x : Queue) : (s.setQueue q x).recov = s.recov := rfl
@[simp] theorem State.putBack_recov (q : Nat) (e : QEnt) : (s.putBack q e).recov = s.recov := rfl

@[simp] theorem State.tsDone_recov (i : Nat) : (s.tsDone i).recov = s.recov := by
  unfold State.tsDone State.freeTs
  split <;> simp

@[simp] theorem State.tsHold_recov (q i : Nat) : (s.tsHold q i).recov = s.recov := by
  unfold State.tsHold
  repeat' split
  all_goals rfl

@[simp] theorem State.finishRef_recov (first : Nat) (pooled : Bool) : (s.finishRef first pooled).recov = s.recov := by
  unfold State.finishRef
  split <;> simp

@[simp] theorem State.finishIn_recov (q : Nat) (e : QEnt) (pooled : Bool) : (s.finishIn q e pooled).recov = s.recov := by
  unfold State.finishIn State.finish
  split <;> simp

@[simp] theorem State.forgetHead_recov (q : Nat) : (s.forgetHead q).recov = s.recov := by simp [State.forgetHead]
@[simp] theorem State.flushQueue_recov (q k : Nat) : (s.flushQueue q k).recov = s.recov := by simp [State.flushQueue]
@[simp] theorem State.lingerEnd_recov (p : Nat) : (s.lingerEnd p).recov = s.recov := by simp [State.lingerEnd]
@[simp] theorem State.queuesDown_recov (p : Nat) (noLinger : Bool) : (s.queuesDown p noLinger).recov = s.recov := by simp [State.queuesDown]
@[simp] theorem State.queuesUp_recov (p : Nat) : (s.queuesUp p).recov = s.recov := rfl
@[simp] theorem State.auditRequest_recov : s.auditRequest.recov = s.recov := by simp [State.auditRequest]

/-! ### An Ethernet port goes down (spec 04 R80) -/

@[simp] theorem State.setPort_recov (p : Nat) (x : EthPort) : (s.setPort p x).recov = s.recov := rfl
@[simp] theorem State.ethCnt_recov (p k : Nat) : (s.ethCnt p k).recov = s.recov := rfl
@[simp] theorem State.setPeer_recov (p : Nat) (b : Bool) : (s.setPeer p b).recov = s.recov := by simp [State.setPeer]
@[simp] theorem State.withdrawPort_recov (p : Nat) (c : Nat → Bool) : (s.withdrawPort p c).recov = s.recov := rfl
@[simp] theorem State.taperTo_recov (p st : Nat) : (s.taperTo p st).recov = s.recov := by simp [State.taperTo]
@[simp] theorem State.cutSpec_recov (p : Nat) : (s.cutSpec p).recov = s.recov := rfl
@[simp] theorem State.strokeDropPort_recov (p : Nat) : (s.strokeDropPort p).recov = s.recov := rfl
@[simp] theorem State.cutArriving_recov (p : Nat) : (s.cutArriving p).recov = s.recov := rfl

@[simp] theorem State.returnTx_recov (p : Nat) : (s.returnTx p).recov = s.recov := by
  simp only [State.returnTx]
  repeat' split
  all_goals simp

@[simp] theorem State.aggLinkChange_recov (p : Nat) : (s.aggLinkChange p).recov = s.recov := by
  unfold State.aggLinkChange
  split <;> simp

@[simp] theorem State.groupJudge_recov (g : Nat) : (s.groupJudge g).recov = s.recov := by simp [State.groupJudge, State.aggConfigured]

@[simp] theorem State.portDown_recov (p : Nat) (noLinger : Bool) : (s.portDown p noLinger).recov = s.recov := by simp [State.portDown]

/-! ### A pipeline recovers (spec 07 R168) -/

@[simp] theorem State.specRestore_recov (x : Spec) : (s.specRestore x).recov = s.recov := by simp [State.specRestore, State.setCredit]
@[simp] theorem State.endFrame_recov (p : Nat) (e : WireEnd) : (s.endFrame p e).recov = s.recov := rfl

@[simp] theorem State.strokeDrop_recov (i p da vid : Nat) : (s.strokeDrop i p da vid).recov = s.recov := by
  unfold State.strokeDrop
  split <;> rfl

@[simp] theorem State.strike_recov (f : Flight) (x : Spec) (code : Nat) : (s.strike f x code).recov = s.recov := by
  unfold State.strike
  split <;> simp

@[simp] theorem State.veto_recov (f : Flight) (x : Spec) (code : Nat) : (s.veto f x code).1.recov = s.recov := by
  unfold State.veto
  split <;> simp

@[simp] theorem State.strokeFlush_recov (i : Nat) : (s.strokeFlush i).recov = s.recov := rfl

@[simp] theorem State.pipelineRecover_recov (i : Nat) : (s.pipelineRecover i).recov = s.recov := by
  simp only [State.pipelineRecover, State.wr_recov, State.strokeFlush_recov, State.tsDone_recov, State.recov_ite, State.setPort_recov, ite_self,
    implies_true, foldl_recov, State.bumpBy_recov]
  refine foldl_leaves State.recov _ s fun t f => ?_
  split <;> simp

/-! ### A lane is re-initialised (spec 21 R414) -/

@[simp] theorem State.setCan_recov (n : Nat) (x : CanLane) : (s.setCan n x).recov = s.recov := rfl
@[simp] theorem State.setT1s_recov (n : Nat) (x : T1sLane) : (s.setT1s n x).recov = s.recov := rfl
@[simp] theorem State.setMvb_recov (n : Nat) (x : MvbLane) : (s.setMvb n x).recov = s.recov := rfl
@[simp] theorem State.canShow_recov (n : Nat) : (s.canShow n).recov = s.recov := by simp [State.canShow]
@[simp] theorem State.canTo_recov (n : Nat) (st : CanSt) : (s.canTo n st).recov = s.recov := by simp [State.canTo]
@[simp] theorem State.canStart_recov (n : Nat) (t : List Nat) : (s.canStart n t).recov = s.recov := by simp [State.canStart]
@[simp] theorem State.canLimitersFull_recov (n : Nat) : (s.canLimitersFull n).recov = s.recov := by
  unfold State.canLimitersFull
  exact foldl_leaves State.recov _ s fun t _ => t.wr_recov ..
@[simp] theorem State.canEnable_recov (n : Nat) : (s.canEnable n).recov = s.recov := by simp [State.canEnable]

@[simp] theorem State.canStopped_recov (n : Nat) : (s.canStopped n).recov = s.recov := by
  simp only [State.canStopped]
  split <;> simp

@[simp] theorem State.linkTo_recov (f : Fld) (n : Nat) (up : Bool) : (s.linkTo f n up).recov = s.recov := by simp [State.linkTo]
@[simp] theorem State.laneLink_recov (n : Nat) : (s.laneLink n).recov = s.recov := by simp [State.laneLink]

@[simp] theorem State.t1sReturn_recov (n : Nat) : (s.t1sReturn n).recov = s.recov := by
  simp only [State.t1sReturn]
  repeat' split
  all_goals simp

@[simp] theorem State.laneReinit_recov (n : Nat) : (s.laneReinit n).recov = s.recov := by simp [State.laneReinit]

end

end Sys2Proof.Machine
end

section
/-! SUPPORT. The sequencer of recoveries (spec 01 R20, 13 R301) and the table scrubber (08 R187). -/
namespace Sys2Proof.Machine

/-! ### What starts, and what it leaves running -/

theorem RecovSt.of_put (r : RecovSt) (d : Domain) (x : DomRec) : (r.put d x).of d = x := by
  cases d <;> rfl

/-- What runs once `r` has started: a MACsec unit's and a lane's recovery ends at once. -/
def Recovery.runsOn (r : Recovery) : Option Recovery :=
  match r with
  | .macsec _ | .lane _ => none
  | _ => some r

theorem State.endRecovery_of_running {s : State} {dom : Domain} {r : Recovery} (h : (s.recov.of dom).running = some r) :
    (s.endRecovery dom r).recov.of dom = { s.recov.of dom with running := none } := by
  simp [State.endRecovery, h, RecovSt.of_put]

/-- The start of a running recovery changes of its domain only whether it still runs. -/
theorem State.recoverStart_of_running {s : State} {dom : Domain} {r : Recovery} (h : (s.recov.of dom).running = some r) :
    (s.recoverStart dom r).recov.of dom = { s.recov.of dom with running := r.runsOn } := by
  have same : { s.recov.of dom with running := some r } = s.recov.of dom := by rw [← h]
  cases r with
  | macsec u => exact State.endRecovery_of_running h
  | lane n =>
    have reinit := s.laneReinit_recov n
    exact (State.endRecovery_of_running (by rwa [reinit])).trans (by rw [reinit]; rfl)
  | pipeline i => exact (congrArg (·.of dom) (s.pipelineRecover_recov i)).trans same.symm
  | audit => exact (congrArg (·.of dom) s.auditRequest_recov).trans same.symm
  | serdes p => exact (congrArg (·.of dom) (s.portDown_recov p false)).trans same.symm
  | engine n => exact same.symm
  | restructure g v => exact same.symm

/-- A recovery that has become the running one of `x` starts. -/
theorem State.recoverStart_put (s : State) (dom : Domain) (r : Recovery) (x : DomRec) :
    (State.recoverStart { s with recov := s.recov.put dom { x with running := some r } } dom r).recov.of dom = { x with running := r.runsOn } := by
  have put := s.recov.of_put dom { x with running := some r }
  rw [State.recoverStart_of_running (by rw [put]), put]

/-- With none running, the recovery whose fault reached the Blotter first starts (01 R20). -/
theorem exec_blockRecoveryStart_waiting {s : State} {dom : Domain} {r : Recovery} {rest : List Recovery} (idle : (s.recov.of dom).running = none)
    (first : (s.recov.of dom).waiting = r :: rest) (free : s.recoverBlocked r = false) :
    Does (.blockRecoveryStart dom) s fun t => t.recov.of dom = { s.recov.of dom with running := r.runsOn, waiting := rest } := by
  refine ⟨_, ?_, s.recoverStart_put dom r { s.recov.of dom with waiting := rest }⟩
  simp [exec, execBlockRecoveryStart, idle, first, free]

/-- With none running and none reported, the recovery whose fault was detected first starts. -/
theorem exec_blockRecoveryStart_coming {s : State} {dom : Domain} {r : Recovery} {rest : List Recovery} (idle : (s.recov.of dom).running = none)
    (noneWaits : (s.recov.of dom).waiting = []) (first : (s.recov.of dom).coming = r :: rest) :
    Does (.blockRecoveryStart dom) s fun t => t.recov.of dom = { s.recov.of dom with running := r.runsOn, coming := rest } := by
  refine ⟨_, ?_, s.recoverStart_put dom r { s.recov.of dom with coming := rest }⟩
  simp [exec, execBlockRecoveryStart, idle, noneWaits, first]

theorem exec_blockRecoveryStart_running {s : State} {dom : Domain} {r : Recovery} (h : (s.recov.of dom).running = some r) :
    exec (.blockRecoveryStart dom) s = .next s := by
  simp [exec, execBlockRecoveryStart, h]

/-! ### The table scrubber -/

theorem State.scrubAction_quiet (s : State) (tid idx : Nat) : Quiet s (s.scrubAction tid idx) := by
  unfold State.scrubAction
  split <;> simp [Quiet, State.fdbErase, State.setFdb, State.policerFull]

theorem State.scrubMiss_quiet (s : State) (tid idx : Nat) : Quiet s (s.scrubMiss tid idx) := by
  unfold State.scrubMiss
  split <;> exact ⟨rfl, rfl⟩

theorem State.scrubLost_quiet (s : State) (tid idx : Nat) : Quiet s (s.scrubLost tid idx) := by
  unfold State.scrubLost
  split <;> exact ⟨rfl, rfl⟩

/-- A VLAN, next-hop or NAT entry with bad parity is absent. -/
theorem State.scrub_rows (s : State) (tid idx : Nat) (h : tid = 3 ∨ tid = 6 ∨ tid = 7) :
    ((s.scrubAction tid idx).scrubMiss tid idx).rows = s.rows.erase (rowKey tid idx) := by
  rcases h with rfl | rfl | rfl <;> rfl

/-- The scrubber logs, counts and reports a parity error of one of the tables (08 R187). -/
def State.scrubNoted (s : State) (tid idx : Nat) : State :=
  State.report ((((s.wr F.TBL_PAR_LOG_TABLE_ID 0 tid).wr F.TBL_PAR_LOG_INDEX 0 idx).bump F.TBL_CNT_COUNT 15).evt F.TBL_STAT_PARITY_EVT 0)
    (0x150 + tid) (elemId 11 tid) idx

theorem exec_tableScrub_parity (s : State) (tid idx : Nat) (low : 1 ≤ tid) (high : tid ≤ 0xB) :
    exec (.tableScrub tid idx false) s = .next (((s.scrubAction tid idx).scrubMiss tid idx).scrubNoted tid idx) := by
  have known : ¬(tid = 0 ∨ 0xB < tid) := by omega
  simp only [exec, execTableScrub, if_neg known]
  rfl

theorem exec_tableScrub_lost (s : State) (tid idx : Nat) (h : tid = 4 ∨ tid = 5 ∨ tid = 8 ∨ tid = 9) :
    exec (.tableScrub tid idx true) s = .next ((s.scrubLost tid idx).report 0x164 (elemId 11 tid) idx) := by
  rcases h with rfl | rfl | rfl | rfl <;> rfl

theorem exec_tableScrub_unknown (s : State) (tid idx : Nat) (uncorr : Bool) (h : tid = 0 ∨ 0xB < tid) :
    exec (.tableScrub tid idx uncorr) s = .next s := by
  simp [exec, execTableScrub, h]

/-- What the scrubber's note of an error reads as. -/
theorem State.rd_scrubNoted (s : State) (tid idx : Nat) (high : tid ≤ 0xB) :
    (s.scrubNoted tid idx).rd F.TBL_PAR_LOG_TABLE_ID 0 = tid
    ∧ (s.scrubNoted tid idx).rd F.TBL_PAR_LOG_INDEX 0 = idx % 2 ^ F.TBL_PAR_LOG_INDEX.width
    ∧ (s.scrubNoted tid idx).rd F.TBL_CNT_COUNT 15 = (s.rd F.TBL_CNT_COUNT 15 + 1) % 2 ^ F.TBL_CNT_COUNT.width
    ∧ (s.scrubNoted tid idx).rd F.TBL_STAT_PARITY_EVT 0 = 1 := by
  have fits : tid < 256 := by omega
  simp [State.scrubNoted, State.evt, State.bump, State.rd_wr_fld, fits]

end Sys2Proof.Machine
end

section
/-! SUPPORT. The statement about recoveries and the table scrubber. -/
namespace Sys2Proof
open Sys2Proof.Machine

/-- Settles O13: of its domain, the start of a recovery changes what runs and where `r` waited; a scrubber's action is quiet. -/
theorem recoveriesRunOneByOneAndTablesAreScrubbed : Obligations.RecoveriesRunOneByOneAndTablesAreScrubbed := by
  unfold Obligations.RecoveriesRunOneByOneAndTablesAreScrubbed
  intro s dom r rest tid idx uncorr runs
  have runsOn : r.runsOn = runs r := by cases r <;> rfl
  refine ⟨fun idle first free => ?_, fun idle noneWaits first => ?_, exec_blockRecoveryStart_running, fun running => ?_,
    fun up auditing => ?_, fun up down => ?_, fun low high => ?_, fun lost => ?_, exec_tableScrub_unknown s tid idx uncorr⟩
  · obtain ⟨t, ht, left⟩ := exec_blockRecoveryStart_waiting idle first free
    exact ⟨t, ht, by rw [left, ← runsOn], by rw [left]⟩
  · obtain ⟨t, ht, left⟩ := exec_blockRecoveryStart_coming idle noneWaits first
    exact ⟨t, ht, by rw [left, ← runsOn], by rw [left, ← noneWaits], by rw [left]⟩
  · exact does_reportX (by simp [exec, execRecoveryBoundExceeded, running])
  · exact does_reportX (by simp [exec, execRecoveryBoundExceeded, up, auditing])
  · exact does_reportX (by simp [exec, execRecoveryBoundExceeded, up, down])
  · have quiet := (s.scrubAction_quiet tid idx).trans (State.scrubMiss_quiet _ tid idx)
    obtain ⟨table, index, count, event⟩ := State.rd_scrubNoted ((s.scrubAction tid idx).scrubMiss tid idx) tid idx high
    rw [quiet.rd] at count
    exact ⟨_, exec_tableScrub_parity s tid idx low high, table, index, count, event, s.scrub_rows tid idx,
      congrArg (· ++ [_]) quiet.2⟩
  · have quiet := s.scrubLost_quiet tid idx
    exact ⟨_, exec_tableScrub_lost s tid idx lost, congrArg (· ++ [_]) quiet.2, fun f i _ => quiet.rd f i⟩

end Sys2Proof
end

section
/-! SUPPORT. The loss of clocks (spec 01 R26, 23 R438). -/
namespace Sys2Proof.Machine

/-- The loss of its SerDes reference reaches port `p`: it is reported unless it has been and lasts (01 R26). -/
def State.refLost (s : State) (p : Nat) : State :=
  if (s.port p).losing then s else (s.setPort p { s.port p with losing := true }).reportX (0x040 + p) (elemId 0 p)

theorem exec_srefclkLoss {s : State} (clk : Fin 2) (up : s.mainUp = true) : exec (.srefclkLoss clk) s
    = .next (((List.range 40).filter fun p => decide (p < 24) == decide (clk.val = 0)).foldl State.refLost s) := by
  simp only [exec, execSrefclkLoss, up]
  rfl

theorem State.refLost_of_losing {s : State} {p : Nat} (h : (s.port p).losing = true) : s.refLost p = s := if_pos h

theorem State.refLost_regs (s : State) (p : Nat) : (s.refLost p).regs = s.regs := by
  unfold State.refLost
  split <;> rfl

theorem State.port_refLost_ne (s : State) (p q : Nat) (h : q ≠ p) : (s.refLost p).port q = s.port q := by
  unfold State.refLost
  split
  · rfl
  · exact s.port_setPort_ne p q _ h

theorem State.refLost_transit {s : State} {p : Nat} (h : (s.port p).losing = false) :
    ∃ info, (s.refLost p).transit = s.transit ++ [⟨0x040 + p, elemId 0 p, info⟩] := by
  rw [State.refLost, if_neg (by simp [h])]
  exact ⟨_, rfl⟩

/-- Of different ports, those whose loss has not been reported are, in their order; what a port's own loss changes concerns no other. -/
theorem foldl_refLost_transit (ps : List Nat) (once : ps.Nodup) (s : State) :
    ∃ l, (ps.foldl State.refLost s).transit = s.transit ++ l ∧ l.map (fun r => (r.src, r.elem))
      = (ps.filter fun p => !(s.port p).losing).map fun p => (0x040 + p, elemId 0 p) := by
  induction ps generalizing s with
  | nil => exact ⟨[], by simp⟩
  | cons p ps ih =>
    obtain ⟨new, once⟩ := List.nodup_cons.mp once
    obtain ⟨l, sent, named⟩ := ih once (s.refLost p)
    have others : ps.filter (fun q => !((s.refLost p).port q).losing) = ps.filter fun q => !(s.port q).losing :=
      List.filter_congr fun q hq => by rw [s.port_refLost_ne p q (ne_of_mem_of_not_mem hq new)]
    rw [others] at named
    cases losing : (s.port p).losing with
    | true =>
      rw [State.refLost_of_losing losing] at sent
      exact ⟨l, by rw [List.foldl_cons, State.refLost_of_losing losing, sent], by simpa [losing] using named⟩
    | false =>
      obtain ⟨info, own⟩ := State.refLost_transit losing
      exact ⟨⟨0x040 + p, elemId 0 p, info⟩ :: l, by simp [sent, own], by simpa [losing] using named⟩

end Sys2Proof.Machine
end

section
/-! SUPPORT. The statement about the loss of clocks. -/
namespace Sys2Proof
open Sys2Proof.Machine

/-- Settles O12: the ports that a reference feeds are different ones, and each reports its own loss. -/
theorem clockLossesAreReported : Obligations.ClockLossesAreReported := by
  unfold Obligations.ClockLossesAreReported
  intro s clk
  refine ⟨fun up => ⟨does_reportX (by simp [exec, execPllUnlock, up]), ?_⟩, fun runs => ⟨_, by simp [exec, execXtal32Stop, runs], rfl⟩⟩
  obtain ⟨l, sent, named⟩ :=
    foldl_refLost_transit ((List.range 40).filter fun p => decide (p < 24) == decide (clk.val = 0)) (List.nodup_range.filter _) s
  refine ⟨_, exec_srefclkLoss clk up, fun f i _ => ?_, l, sent, ?_⟩
  · rw [State.rd, foldl_leaves State.regs _ s State.refLost_regs, State.rd]
  · rw [named, List.filter_filter]
    simp only [Bool.and_comm]

end Sys2Proof
end

section
/-! SUPPORT. The Ferrule link between the dies (spec 01 R11 to R13): its two directions, its transfers, its re-initialisation. -/
namespace Sys2Proof.Machine

section
variable (s : State) (die : Die)

/-! ### The two directions -/

@[simp] theorem State.ferruleTo_setFerruleTo (d : FerruleDir) : (s.setFerruleTo die d).ferruleTo die = d := by
  cases die <;> rfl

theorem State.ferruleTo_reportX (src elem : Nat) : (s.reportX src elem).ferruleTo die = s.ferruleTo die := rfl

@[simp] theorem State.rd_setFerruleTo (d : FerruleDir) (f : Fld) (i : Nat) : (s.setFerruleTo die d).rd f i = s.rd f i := by
  cases die <;> rfl

@[simp] theorem State.setFerruleTo_transit (d : FerruleDir) : (s.setFerruleTo die d).transit = s.transit := by
  cases die <;> rfl

@[simp] theorem State.setFerruleTo_absent (d : FerruleDir) : (s.setFerruleTo die d).ferrule.absent = s.ferrule.absent := by
  cases die <;> rfl

theorem State.ferruleTo_congr {s t : State} (h : t.ferrule = s.ferrule) (die : Die) : t.ferruleTo die = s.ferruleTo die := by
  cases die <;> simp [State.ferruleTo, h]

/-! ### What a transfer leaves of its direction, and of cause ABSENT -/

/-- The direction whose transfer `msg` stays unacknowledged. -/
def State.ferruleKept (msg : FerruleMsg) : FerruleDir :=
  { s.ferruleTo die with pending := some ((s.ferruleTo die).pending.getD msg) }

/-- The direction after the receiver has acknowledged `msg`; `acked` says that the acknowledgement has arrived. -/
def State.ferruleAnswered (acked : Bool) (msg : FerruleMsg) : FerruleDir :=
  if acked then { s.ferruleTo die with pending := none, retries := 0 } else s.ferruleKept die msg

theorem State.ferruleAnswered_expect (acked : Bool) (msg : FerruleMsg) : (s.ferruleAnswered die acked msg).expect = (s.ferruleTo die).expect := by
  cases acked <;> rfl

theorem State.ferruleAnswered_pending (acked : Bool) (msg : FerruleMsg) : (s.ferruleAnswered die acked msg).pending.isSome = !acked := by
  cases acked <;> rfl

/-- A valid transfer at the power die ends cause ABSENT (21 R417). -/
def State.ferruleSeen : State := if die = .power then s.wr F.BLT_FLT_STAT_ABSENT 0 0 else s

@[simp] theorem State.ferruleSeen_ferrule : (s.ferruleSeen die).ferrule = s.ferrule := by cases die <;> rfl
@[simp] theorem State.ferruleSeen_transit : (s.ferruleSeen die).transit = s.transit := by cases die <;> rfl

theorem State.rd_ferruleSeen_absent : (s.ferruleSeen .power).rd F.BLT_FLT_STAT_ABSENT 0 = 0 := s.rd_wr_same ..

theorem State.rd_ferruleSeen_ne (f : Fld) (i : Nat) (h : f.id ≠ F.BLT_FLT_STAT_ABSENT.id) : (s.ferruleSeen die).rd f i = s.rd f i := by
  cases die
  · rfl
  · exact s.rd_wr_fld _ f 0 i 0 h

theorem State.ferruleSeen_regsBut : RegsBut (if die = .power then [F.BLT_FLT_STAT_ABSENT] else []) s (s.ferruleSeen die) := by
  intro f i hf
  cases die
  · rfl
  · exact s.rd_ferruleSeen_ne .power f i (by simpa using hf)

end

/-! ### The outcomes of a transfer -/

/-- The die receives: it runs, the link is up, and the power die is not in main-die absent. -/
structure State.FerruleOpen (s : State) (die : Die) : Prop where
  runs : s.dieRuns die = true
  up : s.ferrule.up = true
  present : die = .power → s.ferrule.absent = false

variable {s : State} {die : Die} {seq : Fin 256} {msg : FerruleMsg} {acked : Bool}

theorem State.FerruleOpen.accepts (o : s.FerruleOpen die) : (decide (die = .power) && (s.ferruleSeen die).ferrule.absent) = false := by
  cases die with
  | main => rfl
  | power => simp [o.present rfl]

/-- A bad CRC: the transfer stays unacknowledged. -/
theorem exec_ferruleTransferRx_badCrc (o : s.FerruleOpen die) :
    exec (.ferruleTransferRx die .badCrc seq msg) s = .next (s.setFerruleTo die (s.ferruleKept die msg)) := by
  simp [exec, execFerruleTransferRx, o.runs, o.up, State.ferruleKept]

/-- The expected number: the transfer is accepted and acts. -/
theorem exec_ferruleTransferRx_expected (o : s.FerruleOpen die) (due : seq.val = (s.ferruleTo die).expect) :
    exec (.ferruleTransferRx die (.good acked) seq msg) s = .next (((s.ferruleSeen die).setFerruleTo die
      { s.ferruleAnswered die acked msg with expect := (seq.val + 1) % 256 }).ferruleAct die msg) := by
  have accepts := o.accepts
  rw [State.ferruleSeen] at accepts
  rw [due]
  cases acked <;>
    simp [exec, execFerruleTransferRx, o.runs, o.up, accepts, due, State.ferruleSeen, State.ferruleAnswered, State.ferruleKept]

/-- A number already accepted: the transfer is acknowledged and discarded. -/
theorem exec_ferruleTransferRx_repeated (o : s.FerruleOpen die) (other : seq.val ≠ (s.ferruleTo die).expect)
    (before : ((s.ferruleTo die).expect + 256 - seq.val) % 256 ≤ 128) :
    exec (.ferruleTransferRx die (.good acked) seq msg) s
      = .next ((s.ferruleSeen die).setFerruleTo die (s.ferruleAnswered die acked msg)) := by
  have accepts := o.accepts
  rw [State.ferruleSeen] at accepts
  cases acked <;>
    simp [exec, execFerruleTransferRx, o.runs, o.up, accepts, other, before, State.ferruleSeen, State.ferruleAnswered, State.ferruleKept]

/-! ### What an accepted transfer does -/

theorem State.storeFlds_ferrule (s : State) (l : Bool) (fs : List Fld) (i v : Nat) : (s.storeFlds l fs i v).ferrule = s.ferrule := by
  rw [State.storeFlds_eq]

/-- A word written at the low word of a register that only stores: its fields are stored, and the link is as it was. -/
theorem State.wordWrite_stores {s : State} {a val : Nat} {d : RegDef} {i : Nat} (ini : Initiator) (window : s.winWrite a val = none)
    (only : s.regHits a = [(d, i, 0)]) (present : regAbsent d i = false) (one : d.words = 1) (once : (d.flds.map Fld.id).Nodup)
    (plain : StoresOnly d.flds) : Stored s (s.wordWrite ini a val) d.flds i val ∧ (s.wordWrite ini a val).ferrule = s.ferrule := by
  have written : s.wordWrite ini a val = (s.unhold ini a d.words).put d.flds i val := by
    simp [State.wordWrite, window, only, State.hitWrite_low s ini a val d i present plain, s.wholeWrite_one ini d i a val one]
  rw [written, State.put]
  exact ⟨(State.storeFlds_stored _ d.flds i val once).of_busOnly (s.unhold_busOnly ini a d.words),
    State.storeFlds_ferrule ..⟩

/-- Every transfer but a register write at the power die leaves the link and the registers. -/
theorem State.ferruleAct_leaves (s : State) {die : Die} {msg : FerruleMsg} (h : die = .main ∨ ∀ x w, msg ≠ .regWrite x w) :
    (s.ferruleAct die msg).ferrule = s.ferrule ∧ (s.ferruleAct die msg).regs = s.regs := by
  unfold State.ferruleAct
  split
  · next a v => simp at h
  · exact ⟨rfl, rfl⟩
  · exact ⟨rfl, rfl⟩

theorem State.ferruleAct_regWrite {s : State} {a : Nat} {v : Word} (there : onPowerDie a = true) (aligned : a % 4 = 0)
    (present : s.ferrule.absent = false) : s.ferruleAct .power (.regWrite a v) = s.wordWrite .s0 a v.toNat := by
  simp [State.ferruleAct, there, aligned, present]

/-- An accepted transfer that writes no register of the power die. -/
theorem ferruleTransferRx_accepts (o : s.FerruleOpen die) (due : seq.val = (s.ferruleTo die).expect)
    (plain : die = .main ∨ ∀ x w, msg ≠ .regWrite x w) :
    Does (.ferruleTransferRx die (.good acked) seq msg) s fun t => (t.ferruleTo die).expect = (seq.val + 1) % 256
      ∧ (t.ferruleTo die).pending.isSome = !acked ∧ (die = .power → t.rd F.BLT_FLT_STAT_ABSENT 0 = 0) := by
  refine ⟨_, exec_ferruleTransferRx_expected o due, ?_⟩
  obtain ⟨link, regs⟩ := State.ferruleAct_leaves ((s.ferruleSeen die).setFerruleTo die
    { s.ferruleAnswered die acked msg with expect := (seq.val + 1) % 256 }) plain
  rw [State.ferruleTo_congr link, State.ferruleTo_setFerruleTo]
  refine ⟨rfl, s.ferruleAnswered_pending die acked msg, ?_⟩
  rintro rfl
  rw [State.rd, regs]
  exact s.rd_ferruleSeen_absent

/-- An accepted report reaches the Blotter (01 R19). -/
theorem ferruleTransferRx_reports {r : Report} (o : s.FerruleOpen .main) (due : seq.val = (s.ferruleTo .main).expect) :
    Does (.ferruleTransferRx .main (.good acked) seq (.report r)) s fun t => t.transit = s.transit ++ [r] ∧ RegsBut [] s t :=
  ⟨_, exec_ferruleTransferRx_expected o due, rfl, fun _ _ _ => rfl⟩

/-- An accepted write of a register of the power die that only stores. -/
theorem ferruleTransferRx_writes {a : Nat} {v : Word} {d : RegDef} {i : Nat} (o : s.FerruleOpen .power)
    (due : seq.val = (s.ferruleTo .power).expect) (there : onPowerDie a = true) (aligned : a % 4 = 0)
    (hits : ∀ u : State, u.winWrite a v.toNat = none ∧ u.regHits a = [(d, i, 0)]) (present : regAbsent d i = false) (one : d.words = 1)
    (once : (d.flds.map Fld.id).Nodup) (plain : StoresOnly d.flds) (other : ∀ f ∈ d.flds, f.id ≠ F.BLT_FLT_STAT_ABSENT.id) :
    Does (.ferruleTransferRx .power (.good acked) seq (.regWrite a v)) s fun t =>
      (∀ f ∈ d.flds, t.rd f i = f.ty.written s.locked (s.rd f i) (f.cut v.toNat) % 2 ^ f.width)
      ∧ RegsBut (F.BLT_FLT_STAT_ABSENT :: d.flds) s t ∧ t.rd F.BLT_FLT_STAT_ABSENT 0 = 0
      ∧ (t.ferruleTo .power).expect = (seq.val + 1) % 256 ∧ (t.ferruleTo .power).pending.isSome = !acked := by
  refine ⟨_, (exec_ferruleTransferRx_expected o due).trans (congrArg _ (State.ferruleAct_regWrite there aligned ?_)), ?_⟩
  · simp [o.present rfl]
  generalize hu : (s.ferruleSeen .power).setFerruleTo .power
    { s.ferruleAnswered .power acked (.regWrite a v) with expect := (seq.val + 1) % 256 } = u
  have reads (f : Fld) (j : Nat) (hf : f.id ≠ F.BLT_FLT_STAT_ABSENT.id) : u.rd f j = s.rd f j := by
    rw [← hu, State.rd_setFerruleTo, s.rd_ferruleSeen_ne .power f j hf]
  have locked : u.locked = s.locked := by rw [State.locked, State.on, reads _ _ (by decide), State.locked, State.on]
  obtain ⟨stored, link⟩ := u.wordWrite_stores .s0 (hits u).1 (hits u).2 present one once plain
  refine ⟨fun f hf => ?_, fun f j hf => ?_, ?_, ?_⟩
  · rw [stored.written f hf, locked, reads f i (other f hf)]
  · obtain ⟨notAbsent, notStored⟩ : f.id ≠ F.BLT_FLT_STAT_ABSENT.id ∧ f.id ∉ d.flds.map Fld.id := by simpa using hf
    rw [stored.others f j notStored, reads f j notAbsent]
  · have notStored : F.BLT_FLT_STAT_ABSENT.id ∉ d.flds.map Fld.id := fun h => by
      obtain ⟨f, hf, same⟩ := List.mem_map.mp h
      exact other f hf same
    rw [stored.others _ 0 notStored, ← hu, State.rd_setFerruleTo, s.rd_ferruleSeen_absent]
  · rw [State.ferruleTo_congr link, ← hu, State.ferruleTo_setFerruleTo]
    exact ⟨rfl, s.ferruleAnswered_pending .power acked _⟩

/-- A repeated transfer takes no effect. -/
theorem ferruleTransferRx_repeats (o : s.FerruleOpen die) (other : seq.val ≠ (s.ferruleTo die).expect)
    (before : ((s.ferruleTo die).expect + 256 - seq.val) % 256 ≤ 128) :
    Does (.ferruleTransferRx die (.good acked) seq msg) s fun t => (t.ferruleTo die).expect = (s.ferruleTo die).expect
      ∧ (t.ferruleTo die).pending.isSome = !acked ∧ RegsBut (if die = .power then [F.BLT_FLT_STAT_ABSENT] else []) s t
      ∧ (die = .power → t.rd F.BLT_FLT_STAT_ABSENT 0 = 0) ∧ t.transit = s.transit := by
  refine ⟨_, exec_ferruleTransferRx_repeated o other before, ?_⟩
  dsimp only
  rw [State.ferruleTo_setFerruleTo, State.setFerruleTo_transit]
  refine ⟨s.ferruleAnswered_expect die acked msg, s.ferruleAnswered_pending die acked msg, fun f i hf => ?_, ?_, s.ferruleSeen_transit die⟩
  · rw [State.rd_setFerruleTo, s.ferruleSeen_regsBut die f i hf]
  · rintro rfl
    exact s.rd_ferruleSeen_absent

/-! ### Main-die absent, and its end (spec 20 R405) -/

theorem State.lcAbsent_eq (s : State) : ∃ t : State, s.lcAbsent = t.evt F.LC_GLB_STAT_ABSENT_SEEN 0 ∧ t.regs = s.regs ∧ t.ferrule = s.ferrule :=
  ⟨_, rfl, foldl_leaves State.regs _ s fun _ _ => rfl, foldl_leaves State.ferrule _ s fun _ _ => rfl⟩

/-- Sixteen microseconds of silence at the power die (01 R13). -/
theorem mainDieAbsent_enters {s : State} (runs : s.pd.phase = .run) (present : s.ferrule.absent = false) :
    Does .mainDieAbsent s fun t => t.ferrule.absent = true ∧ t.linkUp = false ∧ t.rd F.LC_GLB_STAT_ABSENT_SEEN 0 = 1
      ∧ RegsBut [F.LC_GLB_STAT_ABSENT_SEEN] s t := by
  obtain ⟨t, left, regs, link⟩ := State.lcAbsent_eq { s with ferrule := { s.ferrule with absent := true } }
  have absent : (t.evt F.LC_GLB_STAT_ABSENT_SEEN 0).ferrule.absent = true := congrArg FerruleSt.absent link
  refine ⟨t.evt F.LC_GLB_STAT_ABSENT_SEEN 0, by simp [exec, execMainDieAbsent, runs, present, left], absent, ?_,
    t.rd_evt F.LC_GLB_STAT_ABSENT_SEEN 0 (by decide), fun f j hf => ?_⟩
  · simp [State.linkUp, absent]
  · rw [State.evt_eq_wr, t.rd_wr_fld _ f 0 j 1 (by simpa using hf), State.rd, regs, State.rd]

/-- What came of the channels while the main die was absent is only reported. -/
theorem State.lcAdopted_reports (s : State) : s.transit <+: s.lcAdopted.transit ∧ s.lcAdopted.ferrule = s.ferrule := by
  unfold State.lcAdopted
  refine List.foldlRecOn _ _ (motive := fun t : State => s.transit <+: t.transit ∧ t.ferrule = s.ferrule) ⟨List.prefix_rfl, rfl⟩ ?_
  rintro t ⟨before, link⟩ n -
  dsimp only
  split
  · exact ⟨before.trans (List.prefix_append ..), link⟩
  · split
    · exact ⟨before.trans (List.prefix_append ..), link⟩
    · exact ⟨before, link⟩

/-- The link initialised again: both directions begin anew, and nothing but reports is sent (01 R12). -/
theorem State.ferruleInit_link (s : State) :
    s.ferruleInit.ferrule = ⟨⟨0, 0, none, 0⟩, ⟨0, 0, none, 0⟩, true, false, true⟩ ∧ s.transit <+: s.ferruleInit.transit := by
  unfold State.ferruleInit
  dsimp only
  split
  · obtain ⟨before, link⟩ := State.lcAdopted_reports
      (State.wr { s with ferrule := ⟨⟨0, 0, none, 0⟩, ⟨0, 0, none, 0⟩, true, false, true⟩ } F.BLT_FLT_STAT_ABSENT 0 0)
    exact ⟨link, before⟩
  · exact ⟨rfl, List.prefix_rfl⟩

/-! ### The transfers that a die sends (01 R11, R12) -/

theorem exec_ferruleIdleSend (free : (s.mainUp && s.ferrule.up && s.ferrule.toPower.pending.isNone) = true) :
    exec .ferruleIdleSend s = .next (s.setFerruleTo .power
      { s.ferrule.toPower with next := (s.ferrule.toPower.next + 1) % 256, pending := some .idle, retries := 0 }) :=
  congrArg Host.Outcome.next (if_pos free)

/-- Up to three retransmissions are each reported and counted. -/
theorem exec_ferruleRetransmit_again (sends : s.dieRuns die = true) (main : s.mainUp = true) (up : s.ferrule.up = true)
    (few : (s.ferruleTo (otherDie die)).retries < 3) :
    exec (.ferruleRetransmit ⟨die, msg⟩) s = .next ((s.setFerruleTo (otherDie die) { s.ferruleKept (otherDie die) msg with
      retries := (s.ferruleTo (otherDie die)).retries + 1 }).reportX 0x012 elemDevice) := by
  simp [exec, execFerruleRetransmit, sends, main, up, few, State.ferruleKept]

/-- After the third the link has failed. -/
theorem exec_ferruleRetransmit_failed (sends : s.dieRuns die = true) (main : s.mainUp = true) (up : s.ferrule.up = true)
    (many : ¬(s.ferruleTo (otherDie die)).retries < 3) :
    exec (.ferruleRetransmit ⟨die, msg⟩) s = .next (s.reportX 0x013 elemDevice).ferruleInit := by
  simp only [exec, execFerruleRetransmit, sends, main, up, if_neg many]
  rfl

end Sys2Proof.Machine
end

section
/-! SUPPORT. The statements about the Ferrule link. -/
namespace Sys2Proof
open Sys2Proof.Machine

/-- Settles O10: each outcome of a transfer, then the idle transfer and main-die absent. -/
theorem ferruleTransfersAndMainDieAbsent : Obligations.FerruleTransfersAndMainDieAbsent := by
  unfold Obligations.FerruleTransfersAndMainDieAbsent
  intro s die seq msg acked r a v d i
  refine ⟨fun runs up present => ?_, fun free => ?_, fun runs present => ?_⟩
  · have o : s.FerruleOpen die := ⟨runs, up, present⟩
    refine ⟨?_, fun due => ⟨ferruleTransferRx_accepts o due, ?_, ?_⟩, ferruleTransferRx_repeats o⟩
    · exact ⟨_, exec_ferruleTransferRx_badCrc o, by simp [State.ferruleKept], by simp [State.ferruleKept],
        fun f j _ => s.rd_setFerruleTo die _ f j⟩
    · rintro rfl
      exact ferruleTransferRx_reports o due
    · rintro rfl
      exact ferruleTransferRx_writes o due
  · exact ⟨_, exec_ferruleIdleSend free, rfl, rfl, fun _ _ _ => rfl⟩
  · exact mainDieAbsent_enters runs present

/-- Settles O11: a retransmission is the pending transfer sent again; after the third, `ferruleInit` begins anew. -/
theorem ferruleRetransmissionsAreReported : Obligations.FerruleRetransmissionsAreReported := by
  unfold Obligations.FerruleRetransmissionsAreReported
  refine ⟨by decide, by decide, fun s die msg sends main up => ?_⟩
  by_cases few : (s.ferruleTo (otherDie die)).retries < 3
  · refine ⟨_, exec_ferruleRetransmit_again sends main up few, ?_⟩
    simp only [if_pos few, State.ferruleTo_reportX, State.ferruleTo_setFerruleTo, true_and]
    exact ⟨rfl, ⟨_, congrArg (· ++ [_]) (s.setFerruleTo_transit ..)⟩, fun f j _ => s.rd_setFerruleTo _ _ f j⟩
  · obtain ⟨link, l, sent⟩ := (s.reportX 0x013 elemDevice).ferruleInit_link
    refine ⟨_, exec_ferruleRetransmit_failed sends main up few, ?_⟩
    simp only [if_neg few, link, true_and]
    exact ⟨_, l, sent.symm⟩

end Sys2Proof
end

section
/-! SUPPORT. What the end of a soft apply and the steps of a restructure leave as it was: the Scroll's own state, and the fields that the
statements about them read. -/
namespace Sys2Proof.Machine

/-! ### The predicate, and the operations on one field -/

/-- Fields that the statements about the Scroll read, and that the shared operations of queues, groups, lanes and tables never write. -/
abbrev steadyFlds : List Fld :=
  [F.ETH_STAT_LINK, F.ETH_MODE_MODE, F.LSL_PERS_PERSONALITY, F.LSL_CAN_CTL_EN, F.LSL_T1S_CTL_EN, F.LSL_MVB_CTL_EN, F.TBL_EPOCH_EPOCH,
    F.TBL_STAT_BUMP_HELD, F.SCR_VARIANT_VAR_G0, F.SCR_VARIANT_VAR_G1, F.SCR_VARIANT_VAR_G2, F.SCR_VARIANT_VAR_G3]

/-- What the steady fields read in a register file. -/
def steadyOf (r : RegFile) : List (Nat → Nat) := steadyFlds.map fun f => r.get f

/-- `t` has the Scroll's state and the steady fields of `s`. -/
@[simp] abbrev Steady (s t : State) : Prop := t.scr = s.scr ∧ steadyOf t.regs = steadyOf s.regs

theorem Steady.refl (s : State) : Steady s s := ⟨rfl, rfl⟩

theorem Steady.trans {s t u : State} (h : Steady s t) (h' : Steady t u) : Steady s u := ⟨h'.1.trans h.1, h'.2.trans h.2⟩

theorem Steady.rd {s t : State} (h : Steady s t) {f : Fld} (hf : f ∈ steadyFlds) (i : Nat) : t.rd f i = s.rd f i :=
  congrFun (List.map_inj_left.1 h.2 f hf) i

theorem Steady.symm {s t : State} (h : Steady s t) : Steady t s := ⟨h.1.symm, h.2.symm⟩

theorem steadyOf_congr {r r' : RegFile} (h : ∀ f ∈ steadyFlds, ∀ i, r'.get f i = r.get f i) : steadyOf r' = steadyOf r :=
  List.map_congr_left fun f hf => funext (h f hf)

@[simp] theorem steadyOf_wr (s : State) (f : Fld) (i v : Nat) (h : f.id ∉ steadyFlds.map Fld.id) : steadyOf (s.wr f i v).regs = steadyOf s.regs :=
  steadyOf_congr fun g hg j => s.rd_wr_fld f g i j v fun e => h (e ▸ List.mem_map_of_mem hg)

/-- Two of the steady fields with one number are one field. -/
theorem steadyFlds_eq {f g : Fld} (hf : f ∈ steadyFlds) (hg : g ∈ steadyFlds) (h : f.id = g.id) : f = g :=
  List.inj_on_of_nodup_map (by decide : (steadyFlds.map Fld.id).Nodup) hf hg h

/-- A field that is written with what it reads stays as it is. -/
theorem State.wr_same_steady (s : State) {f : Fld} (hf : f ∈ steadyFlds) {i v : Nat} (h : s.rd f i = v % 2 ^ f.width) : Steady s (s.wr f i v) := by
  refine ⟨rfl, steadyOf_congr fun g hg j => ?_⟩
  by_cases same : g.id = f.id ∧ j = i
  · obtain ⟨id, rfl⟩ := same
    obtain rfl := steadyFlds_eq hg hf id
    exact (s.rd_wr_same g j v).trans h.symm
  · exact s.rd_wr_ne f g i j v (not_and_or.1 same)

/-- The same write of a steady field leaves the steady fields alike. -/
theorem Steady.wr {s t : State} (h : Steady s t) {f : Fld} (hf : f ∈ steadyFlds) {i v : Nat} : Steady (s.wr f i v) (t.wr f i v) := by
  refine ⟨h.1, steadyOf_congr fun g hg j => ?_⟩
  by_cases same : g.id = f.id ∧ j = i
  · obtain ⟨id, rfl⟩ := same
    obtain rfl := steadyFlds_eq hg hf id
    exact (t.rd_wr_same g j v).trans (s.rd_wr_same g j v).symm
  · have other := not_and_or.1 same
    exact (t.rd_wr_ne f g i j v other).trans ((h.rd hg j).trans (s.rd_wr_ne f g i j v other).symm)

/-- A field that reads 0 still does when a field is written 0. -/
theorem State.rd_wr_zero (s : State) {f g : Fld} (i : Nat) {j : Nat} (hf : f ∈ steadyFlds) (hg : g ∈ steadyFlds) (h : s.rd g j = 0) :
    (s.wr f i 0).rd g j = 0 := by
  by_cases same : g.id = f.id ∧ j = i
  · obtain ⟨id, rfl⟩ := same
    rw [steadyFlds_eq hg hf id, State.rd_wr_same, Nat.zero_mod]
  · rw [s.rd_wr_ne f g i j 0 (not_and_or.1 same), h]

@[simp] theorem steadyOf_ite (c : Prop) [Decidable c] (a b : RegFile) : steadyOf (if c then a else b) = if c then steadyOf a else steadyOf b :=
  apply_ite ..

@[simp] theorem State.scr_ite (c : Prop) [Decidable c] (a b : State) : (if c then a else b).scr = if c then a.scr else b.scr :=
  apply_ite ..

@[simp] theorem foldl_steady {α : Type} (g : State → α → State) (h : ∀ t x, Steady t (g t x)) (l : List α) (s : State) :
    Steady s (l.foldl g s) :=
  ⟨foldl_leaves State.scr l s fun t x => (h t x).1, foldl_leaves (fun t => steadyOf t.regs) l s fun t x => (h t x).2⟩

section
variable (s : State)

theorem State.wr_steady (f : Fld) (i v : Nat) (h : f.id ∉ steadyFlds.map Fld.id) : Steady s (s.wr f i v) := ⟨rfl, steadyOf_wr s f i v h⟩
@[simp] theorem State.evt_steady (f : Fld) (i : Nat) (h : f.id ∉ steadyFlds.map Fld.id) : Steady s (s.evt f i) := s.wr_steady f i 1 h
@[simp] theorem State.wrb_steady (f : Fld) (i : Nat) (b : Bool) (h : f.id ∉ steadyFlds.map Fld.id) : Steady s (s.wrb f i b) := s.wr_steady f i _ h
@[simp] theorem State.bump_steady (f : Fld) (i : Nat) (h : f.id ∉ steadyFlds.map Fld.id) : Steady s (s.bump f i) := s.wr_steady f i _ h
@[simp] theorem State.bumpBy_steady (f : Fld) (i n : Nat) (h : f.id ∉ steadyFlds.map Fld.id) : Steady s (s.bumpBy f i n) := s.wr_steady f i _ h

/-! ### Frames and queues (spec 09) -/

@[simp] theorem State.putBack_steady (q : Nat) (e : QEnt) : Steady s (s.putBack q e) := by simp [State.putBack, State.setQueue]

@[simp] theorem State.tsDone_steady (i : Nat) : Steady s (s.tsDone i) := by
  unfold State.tsDone
  split <;> simp [State.freeTs]

@[simp] theorem State.tsHold_steady (q i : Nat) : Steady s (s.tsHold q i) := by
  unfold State.tsHold
  repeat' split
  all_goals simp

@[simp] theorem State.finishRef_steady (first : Nat) (pooled : Bool) : Steady s (s.finishRef first pooled) := by
  unfold State.finishRef
  split <;> simp

@[simp] theorem State.finishIn_steady (q : Nat) (e : QEnt) (pooled : Bool) : Steady s (s.finishIn q e pooled) := by
  unfold State.finishIn
  split <;> simp [State.finish]

@[simp] theorem State.forgetHead_steady (q : Nat) : Steady s (s.forgetHead q) := by simp [State.forgetHead]
@[simp] theorem State.flushQueue_steady (q k : Nat) : Steady s (s.flushQueue q k) := by simp [State.flushQueue, State.setQueue]
@[simp] theorem State.lingerEnd_steady (p : Nat) : Steady s (s.lingerEnd p) := by simp [State.lingerEnd]
@[simp] theorem State.queuesDown_steady (p : Nat) (noLinger : Bool) : Steady s (s.queuesDown p noLinger) := by simp [State.queuesDown]
@[simp] theorem State.queuesUp_steady (p : Nat) : Steady s (s.queuesUp p) := by simp [State.queuesUp]

/-! ### Groups and pairs (spec 13) -/

@[simp] theorem State.aggLinkChange_steady (p : Nat) : Steady s (s.aggLinkChange p) := by
  unfold State.aggLinkChange
  split <;> simp

@[simp] theorem State.groupJudge_steady (g : Nat) : Steady s (s.groupJudge g) := by simp [State.groupJudge, State.aggConfigured]
@[simp] theorem State.pairChange_steady (i : Nat) : Steady s (s.pairChange i) := by simp [State.pairChange, State.pairCheck]
@[simp] theorem State.pairsLoaded_steady (g : Nat) : Steady s (s.pairsLoaded g) := by simp [State.pairsLoaded]

/-! ### An Ethernet port goes down (spec 04 R80) -/

@[simp] theorem State.setPort_steady (p : Nat) (x : EthPort) : Steady s (s.setPort p x) := ⟨rfl, rfl⟩
@[simp] theorem State.setPeer_steady (p : Nat) (b : Bool) : Steady s (s.setPeer p b) := by simp [State.setPeer]
@[simp] theorem State.taperTo_steady (p st : Nat) : Steady s (s.taperTo p st) := by simp [State.taperTo, State.withdrawPort, State.mapSpec]
@[simp] theorem State.cutSpec_steady (p : Nat) : Steady s (s.cutSpec p) := ⟨rfl, rfl⟩
@[simp] theorem State.strokeDropPort_steady (p : Nat) : Steady s (s.strokeDropPort p) := ⟨rfl, rfl⟩
@[simp] theorem State.cutArriving_steady (p : Nat) : Steady s (s.cutArriving p) := ⟨rfl, rfl⟩

@[simp] theorem State.returnTx_steady (p : Nat) : Steady s (s.returnTx p) := by
  simp only [State.returnTx]
  repeat' split
  all_goals simp

/-- Of the steady fields the end of a link writes LINK alone. -/
theorem State.portDown_steady (p : Nat) (noLinger : Bool) : Steady (s.wr F.ETH_STAT_LINK p 0) (s.portDown p noLinger) := by
  have link (x : EthPort) : (s.setPort p x).on F.ETH_STAT_LINK p = s.on F.ETH_STAT_LINK p := rfl
  cases up : s.on F.ETH_STAT_LINK p with
  | true =>
    have regs (x : EthPort) : ((s.setPort p x).wr F.ETH_STAT_LINK p 0).regs = (s.wr F.ETH_STAT_LINK p 0).regs := rfl
    simp [State.portDown, State.ethCnt, link, up, regs]
  | false =>
    have down : s.rd F.ETH_STAT_LINK p = 0 := by simpa [State.on] using up
    have same : Steady s (s.portDown p noLinger) := by simp [State.portDown, link, up]
    exact (s.wr_same_steady (f := F.ETH_STAT_LINK) (by simp) down).symm.trans same

/-! ### Lanes (spec 05, 06) -/

@[simp] theorem State.setCan_steady (n : Nat) (x : CanLane) : Steady s (s.setCan n x) := ⟨rfl, rfl⟩
@[simp] theorem State.setT1s_steady (n : Nat) (x : T1sLane) : Steady s (s.setT1s n x) := ⟨rfl, rfl⟩
@[simp] theorem State.setMvb_steady (n : Nat) (x : MvbLane) : Steady s (s.setMvb n x) := ⟨rfl, rfl⟩
@[simp] theorem State.canShow_steady (n : Nat) : Steady s (s.canShow n) := by simp [State.canShow]
@[simp] theorem State.canTo_steady (n : Nat) (st : CanSt) : Steady s (s.canTo n st) := by simp [State.canTo]
@[simp] theorem State.canStart_steady (n : Nat) (t : List Nat) : Steady s (s.canStart n t) := by simp [State.canStart]
@[simp] theorem State.canLimitersFull_steady (n : Nat) : Steady s (s.canLimitersFull n) := by simp [State.canLimitersFull]

@[simp] theorem State.canStopped_steady (n : Nat) : Steady s (s.canStopped n) := by
  simp only [State.canStopped]
  split <;> simp

@[simp] theorem State.t1sReturn_steady (n : Nat) : Steady s (s.t1sReturn n) := by
  simp only [State.t1sReturn]
  repeat' split
  all_goals simp

@[simp] theorem State.laneLink_steady (n : Nat) : Steady s (s.laneLink n) := by simp [State.laneLink, State.linkTo]
@[simp] theorem State.t1sConfigured_steady (n : Nat) : Steady s (s.t1sConfigured n) := by simp [State.t1sConfigured, State.t1sMode, State.t1sShow]
@[simp] theorem State.mvbConfigured_steady (n : Nat) (was : Bool) : Steady s (s.mvbConfigured n was) := by simp [State.mvbConfigured]
@[simp] theorem State.lanesSoft_steady : Steady s s.lanesSoft := by simp [State.lanesSoft]

/-- The enabling of a group's ports leaves the Scroll's state. -/
@[simp] theorem State.enableGroup_scr (g : Nat) : (s.enableGroup g).scr = s.scr := by
  refine foldl_leaves State.scr _ s fun t p => ?_
  simp [State.setArmed, State.canEnable]

/-! ### The tables and their update buffer (spec 08) -/

@[simp] theorem State.policerFull_steady (i n : Nat) : Steady s (s.policerFull i n) := ⟨rfl, rfl⟩

@[simp] theorem State.bufferOne_steady (op : TblOp) : Steady s (s.bufferOne op) := by
  unfold State.bufferOne
  repeat' split
  all_goals simp

@[simp] theorem State.portWrite_steady (a v n : Nat) : Steady s (s.portWrite a v n) := by
  simp only [State.portWrite]
  repeat' split
  all_goals simp

@[simp] theorem State.sramWrite_steady (a v : Nat) : Steady s (s.sramWrite a v) := by
  unfold State.sramWrite
  split <;> simp [State.setNib]

theorem steady_getD_ite {s t : State} {c : Prop} [Decidable c] {o : Option State} (ht : Steady s t) (ho : Steady s (o.getD s)) :
    Steady s ((if c then some t else o).getD s) := by
  split
  · exact ht
  · exact ho

@[simp] theorem State.rowBuffered_steady (a v : Nat) : Steady s (s.rowBuffered a v) := by
  unfold State.rowBuffered State.winWrite
  iterate 8 refine steady_getD_ite (by simp [State.ssWrite]) ?_
  split
  · simp
  · refine steady_getD_ite (by simp) ?_
    split
    · simp
    · exact Steady.refl s

theorem softField_steady (off : Nat) (f : Fld) (i : Nat) (h : softField off = some (f, i)) : f.id ∉ steadyFlds.map Fld.id := by
  obtain ⟨r, hr, hf⟩ := List.exists_of_findSome?_eq_some h
  split at hf
  · obtain ⟨rfl, -⟩ := Prod.mk.inj (Option.some.inj hf)
    exact (by decide : ∀ r ∈ softFields, r.2.2.2.id ∉ steadyFlds.map Fld.id) r hr
  · cases hf

@[simp] theorem State.softReg_steady (r : Nat × Nat × Nat) : Steady s (s.softReg r) := by
  unfold State.softReg
  split
  next f i soft =>
    split
    · exact Steady.refl s
    · exact s.wr_steady f i _ (softField_steady _ f i soft)
  next => exact Steady.refl s

/-- The records of a soft Scroll write its own registers and the tables alone. -/
theorem State.softSects_steady (l : List Sect) : Steady s (s.softSects State.rowBuffered l) := by
  refine foldl_steady _ (fun t x => ?_) l s
  split
  · simp
  · split
    · exact foldl_steady _ (fun u r => by simp [State.rowWords]) _ t
    · exact Steady.refl t

/-- Of the steady fields an increment of TBL_EPOCH writes EPOCH and BUMP_HELD alone. -/
theorem State.bumpNow_steady : Steady ((s.bump F.TBL_EPOCH_EPOCH 0).wr F.TBL_STAT_BUMP_HELD 0 0) s.bumpNow := by
  refine Steady.trans ?_ ((foldl_steady _ (fun t w => ?_) _ _).trans (State.wrb_steady _ _ _ _ (by decide)))
  · exact Steady.refl _
  · split
    · split <;> simp
    · exact Steady.refl t

/-- With no increment held, a newer TBL_DRAIN writes no steady field. -/
theorem State.drainService_steady (h : s.rd F.TBL_STAT_BUMP_HELD 0 = 0) : Steady s s.drainService := by
  simp [State.drainService, State.on, h]

end
end Sys2Proof.Machine
end

section
/-! SUPPORT. Soft Scrolls (spec 02 R49 to R52, R447): an apply, its commit and a persist. -/
namespace Sys2Proof.Machine

/-! ### What the shared ends of the commands leave -/

theorem State.startWaiting_leaves {β : Type} (π : State → β) (h : ∀ (t : State) r, π { t with recov := r } = π t) (s : State) :
    π s.startWaiting = π s := by
  refine foldl_leaves π _ s fun t d => ?_
  dsimp only
  split
  · exact h t _
  · rfl

/-- A restructure that starts writes no register. -/
@[simp] theorem State.rd_startWaiting (s : State) (f : Fld) (i : Nat) : s.startWaiting.rd f i = s.rd f i :=
  s.startWaiting_leaves (fun t => t.rd f i) fun _ _ => rfl

@[simp] theorem State.startWaiting_scr (s : State) : s.startWaiting.scr = s.scr := s.startWaiting_leaves State.scr fun _ _ => rfl

@[simp] theorem State.rd_scrDone (s : State) : s.scrDone.rd F.SCR_STAT_DONE 0 = 1 := s.rd_wr_same ..

theorem State.rd_scrDone_ne (s : State) (f : Fld) (i : Nat) (h : f.id ≠ F.SCR_STAT_DONE.id) : s.scrDone.rd f i = s.rd f i :=
  s.rd_wr_fld _ f 0 i 1 h

/-- With no software write held, none takes effect. -/
theorem State.rd_releaseHeld_nil (s : State) (h : s.scr.held = []) (f : Fld) (i : Nat) : s.releaseHeld.rd f i = s.rd f i := by
  simp only [State.releaseHeld, h]
  rfl

/-- The state whose Scroll's own state is `x`. -/
def State.setScr (s : State) (x : ScrSt) : State := { s with scr := x }

@[simp] theorem State.rd_setScr (s : State) (x : ScrSt) (f : Fld) (i : Nat) : (s.setScr x).rd f i = s.rd f i := rfl
@[simp] theorem State.setScr_scr (s : State) (x : ScrSt) : (s.setScr x).scr = x := rfl

/-! ### An apply begins (R50, R52) -/

/-- The state in which an apply has been commanded. -/
def State.applyNoted (s : State) : State := (s.wr F.SCR_STAT_LAST_ERR 0 0).wr F.SCR_STAT_APPLYING 0 1

theorem State.staged_applyNoted (s : State) : s.applyNoted.staged = s.staged := by
  simp [State.applyNoted, State.staged, State.rd_wr_fld]

/-- A good Scroll is being applied; nothing else changes but the room that the update buffer keeps for it. -/
theorem State.applyBegin_good {s : State} (h : s.applyErr s.staged = none) :
    s.applyBegin = s.setScr { s.scr with applying := some s.staged, room := entryWrites (scrollSects s.staged) } := by
  simp [State.applyBegin, h, State.setScr]

/-- A bad one leaves its code, and the apply has ended. -/
theorem State.applyBegin_bad {s : State} {e : ScrErr} (h : s.applyErr s.staged = some e) :
    s.applyBegin = (((s.scrFail e).wr F.SCR_STAT_APPLYING 0 0).scrDone).startWaiting := by
  simp [State.applyBegin, h]

/-- An apply that begins writes the registers of its result alone. -/
theorem State.rd_applyBegin (s : State) (f : Fld) (i : Nat)
    (h : f.id ∉ [F.SCR_STAT_LAST_ERR, F.SCR_ERR_INFO_SECTION, F.SCR_ERR_INFO_RECORD, F.SCR_STAT_APPLYING, F.SCR_STAT_DONE].map Fld.id) :
    s.applyBegin.rd f i = s.rd f i := by
  cases err : s.applyErr s.staged with
  | none => rw [State.applyBegin_good err, State.rd_setScr]
  | some e =>
    simp only [List.map_cons, List.map_nil, List.mem_cons, List.not_mem_nil, or_false, not_or] at h
    simp [State.applyBegin_bad err, State.rd_scrDone_ne, State.scrFail, State.rd_wr_fld, h]

/-- An apply that begins never clears DONE. -/
theorem State.rd_done_applyBegin (s : State) (h : s.rd F.SCR_STAT_DONE 0 = 1) : s.applyBegin.rd F.SCR_STAT_DONE 0 = 1 := by
  cases err : s.applyErr s.staged with
  | none => rw [State.applyBegin_good err, State.rd_setScr, h]
  | some e => rw [State.applyBegin_bad err, State.rd_startWaiting, State.rd_scrDone]

/-- An apply that begins does not change whether one waits for a restructure. -/
theorem State.applyWait_applyBegin (s : State) : s.applyBegin.scr.applyWait = s.scr.applyWait := by
  cases err : s.applyErr s.staged with
  | none => rw [State.applyBegin_good err, State.setScr_scr]
  | some e => rw [State.applyBegin_bad err, State.startWaiting_scr]; rfl

/-- A commanded apply of a good Scroll is in progress, without an error. -/
theorem State.applyBegin_applyNoted_good (s : State) (h : s.applyNoted.applyErr s.applyNoted.staged = none) :
    s.applyNoted.applyBegin.scr.applying = some s.staged ∧ s.applyNoted.applyBegin.rd F.SCR_STAT_APPLYING 0 = 1
    ∧ s.applyNoted.applyBegin.rd F.SCR_STAT_LAST_ERR 0 = 0 := by
  rw [State.applyBegin_good h, State.staged_applyNoted]
  simp [State.applyNoted, State.rd_wr_fld]

theorem State.applyBegin_bad_spec {s : State} {e : ScrErr} (h : s.applyErr s.staged = some e) :
    s.applyBegin.rd F.SCR_STAT_APPLYING 0 = 0 ∧ s.applyBegin.rd F.SCR_STAT_LAST_ERR 0 = e.1 % 2 ^ F.SCR_STAT_LAST_ERR.width
    ∧ s.applyBegin.rd F.SCR_STAT_DONE 0 = 1 := by
  simp [State.applyBegin_bad h, State.scrFail, State.rd_scrDone_ne, State.rd_wr_fld]

theorem exec_scrollApply_waits {s : State} (free : (s.on F.SCR_STAT_APPLYING 0 || s.on F.SCR_STAT_PERSISTING 0) = false)
    (h : s.restructuring = true) :
    exec .scrollApply s = .next (s.applyNoted.setScr { s.scr with applyWait := true }) := by
  have still : s.applyNoted.restructuring = true := by
    simpa [State.applyNoted, State.restructuring, State.on, State.rd_wr_fld] using h
  simp only [exec, execScrollApply, free, Bool.false_eq_true, if_false]
  exact if_pos still

theorem exec_scrollApply_begins {s : State} (free : (s.on F.SCR_STAT_APPLYING 0 || s.on F.SCR_STAT_PERSISTING 0) = false)
    (h : s.restructuring = false) : exec .scrollApply s = .next s.applyNoted.applyBegin := by
  have still : ¬s.applyNoted.restructuring = true := by
    simpa [State.applyNoted, State.restructuring, State.on, State.rd_wr_fld] using h
  simp only [exec, execScrollApply, free, Bool.false_eq_true, if_false]
  exact if_neg still

/-! ### The commit (R50) -/

/-- The state in which the tables and registers of Scroll `bs` have taken effect with one increment of TBL_EPOCH. -/
def State.softTaken (s : State) (bs : List Byte) : State :=
  ((s.setScr { s.scr with room := 0 }).softSects State.rowBuffered (scrollSects bs)).bumpNow.drainService.lanesSoft

/-- The state in which Scroll `bs` is in force, and the software writes held during its apply still wait. -/
def State.softInForce (s : State) (bs : List Byte) : State :=
  let t := s.softTaken bs
  let t := ((t.wr F.SCR_STAT_SOFT_ACTIVE 0 1).wr F.SCR_SOFT_VERSION_VALUE 0 (fieldAt bs 28 4)).bump F.SCR_APPLY_CNT_COUNT 0
  let t := (t.wr F.SCR_STAT_LAST_ERR 0 0).wr F.SCR_STAT_APPLYING 0 0
  t.setScr { t.scr with applying := none, inForce := some (bs.take (fieldAt bs 16 4)) }

theorem exec_softScrollCommit {s : State} {bs : List Byte} (applying : s.scr.applying = some bs) (free : s.bumpBlocked = false) :
    exec .softScrollCommit s = .next (s.softInForce bs).releaseHeld.scrDone.startWaiting := by
  simp only [exec, execSoftScrollCommit, applying, free, Bool.false_eq_true, if_false, State.softInForce, State.softTaken, State.setScr]

/-- An increment of TBL_EPOCH and the service of TBL_DRAIN after it: no second increment was held. -/
theorem State.bumpNow_drainService_steady (s : State) :
    Steady ((s.bump F.TBL_EPOCH_EPOCH 0).wr F.TBL_STAT_BUMP_HELD 0 0) s.bumpNow.drainService := by
  have bumped := s.bumpNow_steady
  refine bumped.trans (State.drainService_steady _ ?_)
  rw [bumped.rd (by simp), State.rd_wr_same]
  rfl

/-- The tables' part of a commit: one increment of TBL_EPOCH, and of the Scroll's state the room in the update buffer alone. -/
theorem State.softTaken_spec (s : State) (bs : List Byte) :
    (s.softTaken bs).scr = { s.scr with room := 0 } ∧ (s.softTaken bs).rd F.TBL_EPOCH_EPOCH 0 = (s.rd F.TBL_EPOCH_EPOCH 0 + 1) % 2 ^ 32 := by
  let noRoom := s.setScr { s.scr with room := 0 }
  have sects := noRoom.softSects_steady (scrollSects bs)
  have taken := (State.bumpNow_drainService_steady (noRoom.softSects State.rowBuffered (scrollSects bs))).trans (State.lanesSoft_steady _)
  refine ⟨taken.1.trans sects.1, (taken.rd (by simp) 0).trans ?_⟩
  rw [State.rd_wr_fld _ _ _ _ _ _ (by decide), State.rd_bump, sects.rd (by simp)]
  rfl

/-- What the commit leaves in the registers and in the Scroll's state before the writes held take effect. -/
theorem State.softInForce_spec (s : State) (bs : List Byte) :
    (s.softInForce bs).scr = { s.scr with room := 0, applying := none, inForce := some (bs.take (fieldAt bs 16 4)) }
    ∧ (s.softInForce bs).rd F.TBL_EPOCH_EPOCH 0 = (s.rd F.TBL_EPOCH_EPOCH 0 + 1) % 2 ^ 32
    ∧ (s.softInForce bs).rd F.SCR_STAT_SOFT_ACTIVE 0 = 1 ∧ (s.softInForce bs).rd F.SCR_STAT_APPLYING 0 = 0 := by
  obtain ⟨scr, epoch⟩ := s.softTaken_spec bs
  refine ⟨?_, ?_, ?_, ?_⟩
  · simp [State.softInForce, State.bump, scr]
  · rw [← epoch]
    simp [State.softInForce, State.bump, State.rd_wr_fld]
  · simp [State.softInForce, State.bump, State.rd_wr_fld]
  · simp [State.softInForce]

/-! ### A persist (R51) -/

@[simp] theorem State.rd_setActiveBank (s : State) (b : Bank) (f : Fld) (i : Nat) : (s.setActiveBank b).rd f i = s.rd f i := rfl
@[simp] theorem State.activeBank_setScr (s : State) (x : ScrSt) : (s.setScr x).activeBank = s.activeBank := rfl
@[simp] theorem State.activeBank_setActiveBank (s : State) (b : Bank) : (s.setActiveBank b).activeBank = b := Tbl.get_set_same ..

theorem State.activeBank_wr (s : State) (f : Fld) (i v : Nat) (h : F.GLB_BOOT_STAT_ACTIVE_BANK.id ≠ f.id) :
    (s.wr f i v).activeBank = s.activeBank := by
  rw [State.activeBank, s.rd_wr_fld f _ i 0 v h]
  rfl

theorem Tbl.find_put_same {α : Type} (t : Tbl α) (i : Nat) (a : α) : (t.put i a).find i = some a :=
  find_ins_same _ _ _ (find_erase_same t i)

theorem exec_scrollPersist_refused {s : State} (free : (s.on F.SCR_STAT_APPLYING 0 || s.on F.SCR_STAT_PERSISTING 0) = false)
    (h : s.scr.inForce = none) : exec .scrollPersist s = .next (s.wr F.SCR_STAT_LAST_ERR 0 0x11).scrDone := by
  simp [exec, execScrollPersist, free, h]

/-- The state in which the place of the record has been erased, and its write begins. -/
def State.persistBegun (s : State) : State :=
  let t := (s.wr F.SCR_STAT_LAST_ERR 0 0).wr F.SCR_STAT_PERSISTING 0 1
  let t := t.setActiveBank { t.activeBank with soft := t.activeBank.soft.erase s.persistPlace.1 }
  t.setScr { t.scr with persist := some s.persistPlace }

theorem exec_scrollPersist_begins {s : State} {bs : List Byte} (free : (s.on F.SCR_STAT_APPLYING 0 || s.on F.SCR_STAT_PERSISTING 0) = false)
    (h : s.scr.inForce = some bs) : exec .scrollPersist s = .next s.persistBegun := by
  simp only [exec, execScrollPersist, free, h]
  rfl

theorem State.persistBegun_spec (s : State) :
    s.persistBegun.rd F.SCR_STAT_PERSISTING 0 = 1 ∧ s.persistBegun.rd F.SCR_STAT_LAST_ERR 0 = 0 ∧ s.persistBegun.scr.persist = some s.persistPlace := by
  simp [State.persistBegun, State.rd_wr_fld]

/-- The state after a persist whose write has been read back (`ok`) or has failed. -/
def State.persistEnded (s : State) (ok : Bool) (p : Nat × Nat) (bs : List Byte) : State :=
  let t := if ok then s.setActiveBank { s.activeBank with soft := s.activeBank.soft.put p.1 ⟨p.2, bs⟩ } else s.wr F.SCR_STAT_LAST_ERR 0 0x0F
  let t := (t.wr F.SCR_STAT_PERSISTING 0 0).scrDone
  t.setScr { t.scr with persist := none }

theorem exec_persistDone {s : State} {p : Nat × Nat} {bs : List Byte} (ok : Bool) (persist : s.scr.persist = some p)
    (inForce : s.scr.inForce = some bs) : exec (.persistDone ok) s = .next (s.persistEnded ok p bs) := by
  simp only [exec, execPersistDone, persist, inForce]
  rfl

/-- Success or failure, the persist has ended. -/
theorem State.persistEnded_spec (s : State) (ok : Bool) (p : Nat × Nat) (bs : List Byte) :
    (s.persistEnded ok p bs).rd F.SCR_STAT_PERSISTING 0 = 0 ∧ (s.persistEnded ok p bs).rd F.SCR_STAT_DONE 0 = 1
    ∧ (s.persistEnded ok p bs).scr.persist = none := by
  simp [State.persistEnded, State.rd_scrDone_ne]

/-- A write that was read back leaves the record in its place. -/
theorem State.persistEnded_ok (s : State) (p : Nat × Nat) (bs : List Byte) :
    (s.persistEnded true p bs).activeBank.soft.find p.1 = some ⟨p.2, bs⟩ := by
  simp [State.persistEnded, State.scrDone, State.activeBank_wr, Tbl.find_put_same]

/-- A failed one leaves the flash as it was, and its code. -/
theorem State.persistEnded_failed (s : State) (p : Nat × Nat) (bs : List Byte) :
    (s.persistEnded false p bs).rd F.SCR_STAT_LAST_ERR 0 = 0x0F ∧ (s.persistEnded false p bs).flash = s.flash := by
  refine ⟨?_, rfl⟩
  simp [State.persistEnded, State.rd_scrDone_ne, State.rd_wr_fld]

/-! ### Commands that only write a register (R52, R56) -/

theorem exec_scroll_busy {s : State} (h : (s.on F.SCR_STAT_APPLYING 0 || s.on F.SCR_STAT_PERSISTING 0) = true) :
    exec .scrollApply s = .next (s.wr F.SCR_STAT_LAST_ERR 0 0x0B) ∧ exec .scrollPersist s = .next (s.wr F.SCR_STAT_LAST_ERR 0 0x0B) :=
  ⟨if_pos h, if_pos h⟩

/-- SCR_LOCK, once set, locks. -/
theorem State.locked_wr_lock (s : State) : (s.wr F.SCR_LOCK_LOCK 0 1).locked = true := by
  simp [State.locked, State.on]

end Sys2Proof.Machine
end

section
/-! SUPPORT. The statement about soft Scrolls. -/
namespace Sys2Proof
open Sys2Proof.Machine

/-- Settles O14: each command's state is named, and of the tables' part of a commit only EPOCH and the Scroll's own state are needed. -/
theorem softScrollsApplyPersistAndLock : Obligations.SoftScrollsApplyPersistAndLock := by
  unfold Obligations.SoftScrollsApplyPersistAndLock
  intro s ok bs p busy
  refine ⟨fun free => ?_, fun applying free => ?_, fun free => ?_, fun persist inForce => ?_, exec_scroll_busy,
    ⟨_, rfl, rfl, s.locked_wr_lock, fun old v => by rw [s.locked_wr_lock]; rfl⟩⟩
  · cases restr : s.restructuring with
    | true => exact ⟨_, exec_scrollApply_waits free restr, rfl, by simp [State.applyNoted]⟩
    | false =>
      refine ⟨_, exec_scrollApply_begins free restr, ?_⟩
      simp only [Bool.false_eq_true, if_false]
      split
      next good => exact s.applyBegin_applyNoted_good good
      next bad => exact State.applyBegin_bad_spec bad
  · obtain ⟨scr, epoch, active, ended⟩ := s.softInForce_spec bs
    refine ⟨_, exec_softScrollCommit applying free, by rw [State.rd_startWaiting, State.rd_scrDone], s.softInForce bs, epoch, active, ended,
      by rw [scr], by rw [scr], by rw [scr], rfl, fun none f i other => ?_⟩
    rw [State.rd_startWaiting, State.rd_scrDone_ne _ _ _ (by simpa using other), State.rd_releaseHeld_nil _ (by rw [scr, none])]
  · cases inForce : s.scr.inForce with
    | none => exact ⟨_, exec_scrollPersist_refused free inForce, by simp [State.rd_scrDone_ne], State.rd_scrDone _, rfl⟩
    | some bs => exact ⟨_, exec_scrollPersist_begins free inForce, s.persistBegun_spec⟩
  · obtain ⟨ended, done, noPersist⟩ := s.persistEnded_spec ok p bs
    refine ⟨_, exec_persistDone ok persist inForce, ended, done, noPersist, ?_⟩
    cases ok with
    | true => exact s.persistEnded_ok p bs
    | false => exact s.persistEnded_failed p bs

end Sys2Proof
end

section
/-! SUPPORT. Restructures (spec 02 R53, R54): their command, their steps, and what each leaves. -/
namespace Sys2Proof.Machine

/-! ### The command (R53) -/

/-- The state in which a restructure has been commanded: it waits in its domain. -/
def State.restructNoted (s : State) (g v : Nat) : State :=
  let t := ((s.wr F.SCR_RESTRUCT_GO 0 1).wr F.SCR_RESTRUCT_GROUP 0 g).wr F.SCR_RESTRUCT_VARIANT 0 v
  let t := ((t.wr F.SCR_STAT_RESTRUCT_BUSY 0 1).wr F.SCR_STAT_RESTRUCT_GROUP 0 g).wr F.SCR_STAT_LAST_ERR 0 0
  (t.setScr { t.scr with stage := 0, took := [] }).request (groupDomain g) (.restructure g v)

@[simp] theorem State.rd_request (s : State) (d : Domain) (r : Recovery) (f : Fld) (i : Nat) : (s.request d r).rd f i = s.rd f i := by
  simp only [State.request]
  split <;> rfl

/-- The refusals in their order (R53); a restructure that starts waits while an apply is in progress. -/
theorem exec_restructure (s : State) (g : BitVec 2) (v : BitVec 3) :
    exec (.restructure g v) s = .next (if s.restructuring = true then s.wr F.SCR_STAT_LAST_ERR 0 0x0B
      else if s.locked = true then s.wr F.SCR_STAT_LAST_ERR 0 0x0C
      else if variantExists s.scr.base g.toNat v.toNat = false then s.wr F.SCR_STAT_LAST_ERR 0 0x0D
      else if 2 ≤ s.rd F.PWR_STAT_STATE 0 ∨ s.phase ≠ .running then s.wr F.SCR_STAT_LAST_ERR 0 0x10
      else if (s.restructNoted g.toNat v.toNat).on F.SCR_STAT_APPLYING 0 = true then s.restructNoted g.toNat v.toNat
      else (s.restructNoted g.toNat v.toNat).startWaiting) := by
  simp only [exec, execRestructure, Bool.not_eq_true', apply_ite Host.Outcome.next]
  rfl

theorem State.restructNoted_spec (s : State) (g : BitVec 2) (v : BitVec 3) :
    (s.restructNoted g.toNat v.toNat).rd F.SCR_RESTRUCT_GO 0 = 1 ∧ (s.restructNoted g.toNat v.toNat).rd F.SCR_STAT_RESTRUCT_BUSY 0 = 1
    ∧ (s.restructNoted g.toNat v.toNat).rd F.SCR_STAT_LAST_ERR 0 = 0 ∧ (s.restructNoted g.toNat v.toNat).rd F.SCR_RESTRUCT_GROUP 0 = g.toNat
    ∧ (s.restructNoted g.toNat v.toNat).rd F.SCR_RESTRUCT_VARIANT 0 = v.toNat := by
  have group : g.toNat < 4 := g.isLt
  have variant : v.toNat < 8 := v.isLt
  simp [State.restructNoted, State.rd_wr_fld, Nat.mod_eq_of_lt group, Nat.mod_eq_of_lt variant]

/-! ### Steps over a list of ports -/

/-- A step that brings about `P` of its own element and never undoes it of another brings it about of every element of the list. -/
theorem foldl_reaches {α : Type} (g : State → α → State) (P : State → α → Prop) (own : ∀ t x, P (g t x) x)
    (keep : ∀ t x y, P t y → P (g t x) y) (l : List α) (s : State) : ∀ x ∈ l, P (l.foldl g s) x := by
  induction l generalizing s with
  | nil => simp
  | cons a l ih =>
    intro x hx
    rcases List.mem_cons.1 hx with rfl | hx
    · exact List.foldlRecOn l g (motive := fun t => P t x) (own s x) fun t ht y _ => keep t y x ht
    · exact ih (g s a) x hx

/-! ### The end of ingress and egress (R54 steps 1 and 2) -/

/-- The end of ingress and egress at one port. -/
def State.stopPort (s : State) (p : Nat) : State :=
  if p < 40 then ((s.portDown p true).strokeDropPort p).queuesDown p true else s.laneStop (p - 40)

theorem exec_restructStopped {s : State} {g v : Nat} (running : s.runningRestructure = some (g, v)) (stage : s.scr.stage = 0) :
    exec .restructStopped s = .next (((groupPorts g).foldl State.stopPort s).setScr
      { ((groupPorts g).foldl State.stopPort s).scr with stage := 1 }) := by
  simp only [exec, execRestructStopped, running, stage]
  rfl

/-- Of the steady fields the end of ingress and egress at port `p` writes one, with 0. -/
def State.stopWrite (s : State) (p : Nat) : State :=
  if p < 40 then s.wr F.ETH_STAT_LINK p 0
  else if s.pers (p - 40) = 1 then s.wr F.LSL_CAN_CTL_EN (p - 40) 0
  else if s.pers (p - 40) = 2 then s.wr F.LSL_T1S_CTL_EN (p - 40) 0
  else if s.pers (p - 40) = 3 then s.wr F.LSL_MVB_CTL_EN (p - 40) 0
  else s

theorem State.stopPort_steady (s : State) (p : Nat) : Steady (s.stopWrite p) (s.stopPort p) := by
  unfold State.stopWrite State.stopPort
  split
  · exact (s.portDown_steady p true).trans ((State.strokeDropPort_steady _ p).trans (State.queuesDown_steady _ p true))
  · unfold State.laneStop
    refine Steady.trans ?_ (State.queuesDown_steady _ _ true)
    split_ifs
    · exact State.canStopped_steady _ _
    · have returned := (s.t1sReturn_steady (p - 40)).trans (State.setT1s_steady _ (p - 40) T1sLane.init)
      exact (returned.wr (f := F.LSL_T1S_CTL_EN) (by simp)).trans (State.wr_steady _ _ _ _ (by decide))
    · exact ((s.setMvb_steady _ _).wr (f := F.LSL_MVB_CTL_EN) (by simp)).trans (State.wr_steady _ _ _ _ (by decide))
    · exact Steady.refl s

/-- Port `p` has no link, or its lane is not enabled. -/
def State.portStopped (s : State) (p : Nat) : Prop :=
  (p < 40 → s.rd F.ETH_STAT_LINK p = 0)
    ∧ (40 ≤ p → (s.pers (p - 40) = 1 → s.rd F.LSL_CAN_CTL_EN (p - 40) = 0) ∧ (s.pers (p - 40) = 2 → s.rd F.LSL_T1S_CTL_EN (p - 40) = 0)
      ∧ (s.pers (p - 40) = 3 → s.rd F.LSL_MVB_CTL_EN (p - 40) = 0))

theorem Steady.pers {s t : State} (h : Steady s t) (n : Nat) : t.pers n = s.pers n := h.rd (by simp) n

theorem Steady.portStopped {s t : State} (h : Steady s t) {p : Nat} (hp : s.portStopped p) : t.portStopped p := by
  simpa only [State.portStopped, h.pers, h.rd (f := F.ETH_STAT_LINK) (by simp), h.rd (f := F.LSL_CAN_CTL_EN) (by simp),
    h.rd (f := F.LSL_T1S_CTL_EN) (by simp), h.rd (f := F.LSL_MVB_CTL_EN) (by simp)] using hp

theorem State.pers_stopWrite (s : State) (p n : Nat) : (s.stopWrite p).pers n = s.pers n := by
  unfold State.stopWrite State.pers
  split_ifs <;> simp [State.rd_wr_fld]

theorem State.stopWrite_stopped (s : State) (p : Nat) : (s.stopWrite p).portStopped p := by
  simp only [State.portStopped, State.pers_stopWrite]
  unfold State.stopWrite
  refine ⟨fun eth => by simp [eth], fun lane => ?_⟩
  have eth : ¬p < 40 := by omega
  refine ⟨fun can => ?_, fun t1s => ?_, fun mvb => ?_⟩ <;> simp [*]

theorem State.rd_stopWrite_zero (s : State) (p : Nat) {f : Fld} (hf : f ∈ steadyFlds) {i : Nat} (h : s.rd f i = 0) :
    (s.stopWrite p).rd f i = 0 := by
  unfold State.stopWrite
  split_ifs
  · exact s.rd_wr_zero (f := F.ETH_STAT_LINK) _ (by simp) hf h
  · exact s.rd_wr_zero (f := F.LSL_CAN_CTL_EN) _ (by simp) hf h
  · exact s.rd_wr_zero (f := F.LSL_T1S_CTL_EN) _ (by simp) hf h
  · exact s.rd_wr_zero (f := F.LSL_MVB_CTL_EN) _ (by simp) hf h
  · exact h

theorem State.portStopped_stopWrite (s : State) (p q : Nat) (h : s.portStopped q) : (s.stopWrite p).portStopped q := by
  obtain ⟨eth, lane⟩ := h
  refine ⟨fun low => s.rd_stopWrite_zero p (by simp) (eth low), fun high => ?_⟩
  obtain ⟨can, t1s, mvb⟩ := lane high
  rw [s.pers_stopWrite]
  exact ⟨fun k => s.rd_stopWrite_zero p (by simp) (can k), fun k => s.rd_stopWrite_zero p (by simp) (t1s k),
    fun k => s.rd_stopWrite_zero p (by simp) (mvb k)⟩

theorem State.stopPorts_stopped (s : State) (l : List Nat) : ∀ p ∈ l, (l.foldl State.stopPort s).portStopped p :=
  foldl_reaches State.stopPort State.portStopped (fun t p => (t.stopPort_steady p).portStopped (t.stopWrite_stopped p))
    (fun t p q h => (t.stopPort_steady p).portStopped (t.portStopped_stopWrite p q h)) l s

theorem State.pers_stopPorts (s : State) (l : List Nat) (n : Nat) : (l.foldl State.stopPort s).pers n = s.pers n :=
  foldl_leaves (fun t => t.pers n) l s fun t p => ((t.stopPort_steady p).pers n).trans (t.pers_stopWrite p n)

/-! ### The load (R54 step 3) -/

theorem varFld_steady (g : Nat) : varFld g ∈ steadyFlds := by
  unfold varFld
  split <;> simp

theorem varFld_ne_mode (g : Nat) : F.ETH_MODE_MODE.id ≠ (varFld g).id := by
  unfold varFld
  split <;> decide

theorem exec_restructLoaded {s : State} {g v : Nat} (running : s.runningRestructure = some (g, v)) (stage : s.scr.stage = 1) :
    exec .restructLoaded s = .next (State.pairsLoaded (((s.loadGroup s.scr.base g v).wr (varFld g) 0 v).setScr
      { s.scr with stage := 2 }) g) := by
  simp only [exec, execRestructLoaded, running, stage]
  rfl

theorem State.rd_mode_loadPort (s : State) (p : Nat) (r : List Byte) :
    (s.loadPort p r).rd F.ETH_MODE_MODE p = bodyByte r 1 % 2 ^ F.ETH_MODE_MODE.width := by
  simp [State.loadPort, State.wrb, State.rd_wr_fld]

theorem State.rd_mode_loadPort_ne (s : State) (p q : Nat) (r : List Byte) (h : q ≠ p) :
    (s.loadPort p r).rd F.ETH_MODE_MODE q = s.rd F.ETH_MODE_MODE q := by
  simp [State.loadPort, State.wrb, State.rd_wr_fld, State.rd_wr_elem, h]

/-- Each Ethernet port of the group has the mode of its record in the variant's section. -/
theorem State.rd_mode_loadGroup (s : State) {l : List Sect} {g v k : Nat} {x : Sect} (hg : g < 3) (hk : k < groupSize g)
    (hx : sectFind l 1 g v = some x) :
    (s.loadGroup l g v).rd F.ETH_MODE_MODE (groupBase g + k) = bodyByte (x.body.drop (8 * k)) 1 % 2 ^ F.ETH_MODE_MODE.width := by
  have eth : g ≠ 3 := by omega
  simp only [State.loadGroup, if_neg eth, hx]
  refine foldl_reaches _ (fun t k => t.rd F.ETH_MODE_MODE (groupBase g + k) = bodyByte (x.body.drop (8 * k)) 1 % 2 ^ F.ETH_MODE_MODE.width)
    (fun t j => ?_) (fun t j i h => ?_) _ s k (List.mem_range.2 hk)
  · exact t.rd_mode_loadPort ..
  · by_cases same : i = j
    · subst same
      exact t.rd_mode_loadPort ..
    · exact (t.rd_mode_loadPort_ne _ _ _ (by omega)).trans h

/-! ### The ports are enabled (R54 step 4) -/

theorem State.endRecovery_scr (s : State) (d : Domain) (r : Recovery) : (s.endRecovery d r).scr = s.scr := by
  simp only [State.endRecovery]
  split <;> rfl

theorem State.restructEnd_spec (s : State) (g v : Nat) :
    (s.restructEnd g v).rd F.SCR_RESTRUCT_GO 0 = 0 ∧ (s.restructEnd g v).rd F.SCR_STAT_RESTRUCT_BUSY 0 = 0
    ∧ (s.restructEnd g v).rd F.SCR_STAT_DONE 0 = 1 ∧ (s.restructEnd g v).scr = { s.scr with stage := 0 } := by
  refine ⟨?_, ?_, State.rd_scrDone _, ?_⟩
  · simp [State.restructEnd, State.rd_scrDone_ne]
  · simp [State.restructEnd, State.rd_scrDone_ne, State.rd_wr_fld]
  · simp [State.restructEnd, State.scrDone, State.endRecovery_scr]

theorem exec_restructPortsEnabled {s : State} {g v : Nat} (running : s.runningRestructure = some (g, v)) (stage : s.scr.stage = 2)
    (none : s.scr.applyWait = false) : exec .restructPortsEnabled s = .next (s.restructEnd g v) := by
  obtain ⟨-, -, -, scr⟩ := s.restructEnd_spec g v
  have still : (s.restructEnd g v).scr.applyWait = false := by rw [scr, none]
  simp only [exec, execRestructPortsEnabled, running, stage, still]
  rfl

/-- The state in which an apply that waited for the end of the restructure has begun. -/
def State.waitBegun (s : State) (g v : Nat) : State :=
  ((s.restructEnd g v).setScr { (s.restructEnd g v).scr with applyWait := false }).applyBegin

theorem exec_restructPortsEnabled_waits {s : State} {g v : Nat} (running : s.runningRestructure = some (g, v)) (stage : s.scr.stage = 2)
    (waits : s.scr.applyWait = true) : exec .restructPortsEnabled s = .next (if (s.waitBegun g v).on F.SCR_STAT_APPLYING 0 = true then s.waitBegun g v
      else (s.waitBegun g v).releaseHeld) := by
  obtain ⟨-, -, -, scr⟩ := s.restructEnd_spec g v
  have still : (s.restructEnd g v).scr.applyWait = true := by rw [scr, waits]
  simp only [exec, execRestructPortsEnabled, running, stage, still]
  rfl

theorem State.waitBegun_spec (s : State) (g v : Nat) :
    (s.waitBegun g v).rd F.SCR_RESTRUCT_GO 0 = 0 ∧ (s.waitBegun g v).rd F.SCR_STAT_RESTRUCT_BUSY 0 = 0
    ∧ (s.waitBegun g v).rd F.SCR_STAT_DONE 0 = 1 ∧ (s.waitBegun g v).scr.applyWait = false := by
  obtain ⟨go, busy, done, -⟩ := s.restructEnd_spec g v
  refine ⟨(State.rd_applyBegin _ _ _ (by decide)).trans go, (State.rd_applyBegin _ _ _ (by decide)).trans busy, State.rd_done_applyBegin _ done,
    State.applyWait_applyBegin _⟩

end Sys2Proof.Machine
end

section
/-! SUPPORT. The statement about restructures. -/
namespace Sys2Proof
open Sys2Proof.Machine

/-- Settles O15: each port's stop and load are lasting, as no later port's writes a steady field of it; an apply that begins leaves DONE. -/
theorem restructureRunsItsSteps : Obligations.RestructureRunsItsSteps := by
  unfold Obligations.RestructureRunsItsSteps
  intro s g v gn vn
  refine ⟨?_, fun running stage => ?_, fun running stage => ?_, fun running stage none => ?_, fun running stage waits => ?_⟩
  · refine ⟨_, exec_restructure s g v, ?_⟩
    by_cases busy : s.restructuring = true
    · simp only [if_pos busy]
    by_cases locked : s.locked = true
    · simp only [if_neg busy, if_pos locked]
    by_cases unknown : variantExists s.scr.base g.toNat v.toNat = false
    · simp only [if_neg busy, if_neg locked, if_pos unknown]
    by_cases halted : 2 ≤ s.rd F.PWR_STAT_STATE 0 ∨ s.phase ≠ .running
    · simp only [if_neg busy, if_neg locked, if_neg unknown, if_pos halted]
    simp only [if_neg busy, if_neg locked, if_neg unknown, if_neg halted]
    split
    · exact s.restructNoted_spec g v
    · simpa only [State.rd_startWaiting] using s.restructNoted_spec g v
  · refine ⟨_, exec_restructStopped running stage, rfl, fun p hp => ?_⟩
    obtain ⟨eth, lane⟩ := s.stopPorts_stopped (groupPorts gn) p hp
    rw [s.pers_stopPorts] at lane
    exact ⟨eth, lane⟩
  · refine ⟨_, exec_restructLoaded running stage, ?_⟩
    have pairs := State.pairsLoaded_steady (((s.loadGroup s.scr.base gn vn).wr (varFld gn) 0 vn).setScr
      { s.scr with stage := 2 }) gn
    refine ⟨by rw [pairs.1]; rfl, by rw [pairs.rd (varFld_steady gn), State.rd_setScr, State.rd_wr_same], fun x k eth hk found => ?_⟩
    rw [pairs.rd (by simp), State.rd_setScr, State.rd_wr_fld _ _ _ _ _ _ (varFld_ne_mode gn), s.rd_mode_loadGroup eth hk found]
  · obtain ⟨go, busy, done, -⟩ := s.restructEnd_spec gn vn
    exact ⟨_, exec_restructPortsEnabled running stage none, go, busy, done⟩
  · obtain ⟨go, busy, done, ended⟩ := s.waitBegun_spec gn vn
    exact ⟨_, exec_restructPortsEnabled_waits running stage waits, s.waitBegun gn vn, go, busy, done, ended, rfl⟩

end Sys2Proof
end

section
/-! SUPPORT. No command touches the queue, and the state after reset. -/
namespace Sys2Proof.Machine

/-- A step leaves the commands that waited behind the first one. -/
theorem step_pending {s t : State} (h : step s = .next t) : t.pending = s.pending.tail := by
  unfold step at h
  split at h
  · next none_waits =>
    obtain rfl := Host.Outcome.next.inj h
    rw [s.tick_keeps.2, none_waits, List.tail_nil]
  · next i rest waits =>
    obtain ⟨u, hu, safe⟩ := exec_safe i { s with pending := rest } (aligned_of_exec h)
    obtain rfl := Host.Outcome.next.inj (hu.symm.trans h)
    rw [safe.2, waits, List.tail_cons]

end Sys2Proof.Machine
end

section
/-! SUPPORT. The statements about the queue and about the state after reset. -/
namespace Sys2Proof
open Sys2Proof.Machine

/-- Settles O2: every operation of the model keeps the queue it is given (`Safe`), and `step` gives it the rest of the queue. -/
theorem noCommandTouchesTheQueue : Obligations.NoCommandTouchesTheQueue := by
  unfold Obligations.NoCommandTouchesTheQueue
  refine ⟨fun s t h => step_pending h, fun s t wf h c hc => wf c ?_⟩
  rw [step_pending h] at hc
  exact List.mem_of_mem_tail hc

/-- Settles O4: no register has been written, so each field reads its reset value, and nothing else is listed. -/
theorem resetHoldsIdentityAndCanonicalMemory : Obligations.ResetHoldsIdentityAndCanonicalMemory := by
  unfold Obligations.ResetHoldsIdentityAndCanonicalMemory
  have identity : identityHolds State.reset := by decide
  have memories : memoriesCanonical State.reset := by decide
  exact ⟨identity, memories, rfl, rfl, fun n => rfl⟩

end Sys2Proof
end

section
/-! SUPPORT. The interrupt source that a claim returns (spec 03 R75), and the watchdog (R76). -/
namespace Sys2Proof.Machine

/-! ### The best of the pending sources -/

/-- Of the best source so far and source `n`, the better one for target `t`. -/
def State.irqBetter (s : State) (t b n : Nat) : Nat :=
  if s.irqFor t n && (decide (b = 0) || decide (s.rd F.GLB_IRQ_CFG_PRIO b < s.rd F.GLB_IRQ_CFG_PRIO n)) then n else b

theorem State.irqBest_eq (s : State) (t : Nat) : s.irqBest t = (List.range 256).foldl (s.irqBetter t) 0 := rfl

/-- `b` is the best of the sources below `k` that are pending for target `t`, 0 when there is none. -/
structure State.IrqBestBelow (s : State) (t k b : Nat) : Prop where
  below : b ≠ 0 → b < k ∧ s.irqFor t b = true
  best : ∀ m, m < k → s.irqFor t m = true → b ≠ 0 ∧ s.rd F.GLB_IRQ_CFG_PRIO m ≤ s.rd F.GLB_IRQ_CFG_PRIO b
    ∧ (m < b → s.rd F.GLB_IRQ_CFG_PRIO m < s.rd F.GLB_IRQ_CFG_PRIO b)

/-- Source 0 is never raised (03 R75). -/
theorem State.irqFor_zero (s : State) (t : Nat) : s.irqFor t 0 = false := by simp [State.irqFor, State.irqRaised]

theorem State.irqBetter_below (s : State) {t k b : Nat} (h : s.IrqBestBelow t k b) : s.IrqBestBelow t (k + 1) (s.irqBetter t b k) := by
  obtain ⟨below, best⟩ := h
  unfold State.irqBetter
  split
  · next better =>
    obtain ⟨pending, beats⟩ : s.irqFor t k = true ∧ (b = 0 ∨ s.rd F.GLB_IRQ_CFG_PRIO b < s.rd F.GLB_IRQ_CFG_PRIO k) := by simpa using better
    have named : k ≠ 0 := by
      rintro rfl
      simp [s.irqFor_zero] at pending
    refine ⟨fun _ => ⟨Nat.lt_succ_self k, pending⟩, fun m hm hp => ⟨named, ?_⟩⟩
    rcases Nat.lt_succ_iff_lt_or_eq.mp hm with hlt | rfl
    · obtain ⟨some, le, -⟩ := best m hlt hp
      have more := beats.resolve_left some
      omega
    · omega
  · next worse =>
    refine ⟨fun hb => ⟨(below hb).1.trans (Nat.lt_succ_self k), (below hb).2⟩, fun m hm hp => ?_⟩
    rcases Nat.lt_succ_iff_lt_or_eq.mp hm with hlt | rfl
    · exact best m hlt hp
    · have loses : b ≠ 0 ∧ s.rd F.GLB_IRQ_CFG_PRIO m ≤ s.rd F.GLB_IRQ_CFG_PRIO b := by simpa [hp] using worse
      have := (below loses.1).1
      exact ⟨loses.1, loses.2, by omega⟩

theorem State.irqBest_below (s : State) (t k : Nat) : s.IrqBestBelow t k ((List.range k).foldl (s.irqBetter t) 0) := by
  induction k with
  | zero => exact ⟨fun h => absurd rfl h, fun m hm => absurd hm (Nat.not_lt_zero m)⟩
  | succ k ih =>
    rw [List.range_succ, List.foldl_append]
    exact s.irqBetter_below ih

/-! ### Claims and the watchdog -/

theorem exec_irqClaim {s : State} {ini : Initiator} (tg : Fin 4) (able : s.coreHalted ini = false) :
    exec (.irqClaim ini tg) s = .next { s.reply ini .done (s.irqBest tg) with
      inService := s.inService ++ (if s.irqBest tg = 0 then [] else [s.irqBest tg]) } := by
  by_cases none_pending : s.irqBest tg = 0
  · simp [exec, execIrqClaim, able, none_pending, State.reply]
  · simp [exec, execIrqClaim, able, none_pending, State.reply]

theorem exec_wdogKick {s : State} {e : Nat} (runs : s.wdog = .runs e) :
    exec (.wdogKick 0x5A5A) s = .next ({ s with wdogWarned := false } : State).wdogLoad := by
  simp [exec, execWdogKick, runs]

theorem exec_wdogKick_idle {s : State} {v : Word} (h : (∀ e, s.wdog ≠ .runs e) ∨ v ≠ 0x5A5A) : exec (.wdogKick v) s = .next s := by
  simp only [exec, execWdogKick]
  split
  · rfl
  · next key =>
    split
    · next e runs => exact absurd runs (h.resolve_right key e)
    · rfl

/-- At zero the count reloads: the first time source 30 is raised, the second time the other report is sent. -/
theorem exec_wdogExpiry {s : State} {e : Nat} (runs : s.wdog = .runs e) (zero : e ≤ s.now) :
    exec .wdogExpiry s = .next (({ s with wdogWarned := true } : State).wdogLoad.reportX (if s.wdogWarned then 0x009 else 0x008) elemDevice) := by
  cases warned : s.wdogWarned with
  | false => simp [exec, execWdogExpiry, State.wdogZero, runs, zero, warned]
  | true =>
    have same : s = { s with wdogWarned := true } := by rw [← warned]
    rw [← same]
    simp [exec, execWdogExpiry, State.wdogZero, runs, zero, warned]

end Sys2Proof.Machine
end

section
/-! SUPPORT. The statement about interrupts, the timer, the watchdog and the Scribe cores. -/
namespace Sys2Proof
open Sys2Proof.Machine

/-- Settles O20: the claim's fold keeps the best source of those seen (`irqBest_below`); the other commands are their own equations. -/
theorem interruptsTimerWatchdogAndCores : Obligations.InterruptsTimerWatchdogAndCores := by
  unfold Obligations.InterruptsTimerWatchdogAndCores
  intro s ini tg n c v k e
  refine ⟨fun able => ⟨_, exec_irqClaim tg able, rfl, rfl, fun _ _ _ => rfl⟩, fun halted => ?_, fun pending => ?_, ⟨_, rfl, rfl⟩, ?_,
    fun runs => ⟨_, exec_wdogKick runs, rfl⟩, exec_wdogKick_idle, fun runs zero => ?_, ⟨_, rfl, rfl, fun _ _ _ => rfl, _, rfl⟩,
    ⟨_, rfl, fun _ _ _ => rfl, _, rfl⟩⟩
  · simp [exec, execIrqClaim, halted]
  · obtain ⟨below, best⟩ := s.irqBest_below tg 256
    rw [← s.irqBest_eq] at below best
    exact ⟨(below pending).2, fun m hm hp => (best m hm hp).2⟩
  · exact ⟨s, rfl, rfl, by simp [State.mtip]⟩
  · exact ⟨_, exec_wdogExpiry runs zero, rfl, rfl, fun _ _ _ => rfl, _, rfl⟩

end Sys2Proof
end

section
/-! SUPPORT. Which registers an operation may change (`RegsBut`), and bits of a field. -/
namespace Sys2Proof
open Machine

theorem RegsBut.refl {fs : List Fld} {s : State} : RegsBut fs s s := fun _ _ _ => rfl

theorem RegsBut.of_regs {fs : List Fld} {s t : State} (h : t.regs = s.regs) : RegsBut fs s t := fun f i _ => by rw [State.rd, h, State.rd]

theorem RegsBut.trans {fs : List Fld} {s t u : State} (h : RegsBut fs s t) (h' : RegsBut fs t u) : RegsBut fs s u :=
  fun f i hf => (h' f i hf).trans (h f i hf)

theorem RegsBut.mono {fs gs : List Fld} {s t : State} (h : RegsBut fs s t) (sub : fs.map Fld.id ⊆ gs.map Fld.id) : RegsBut gs s t :=
  fun f i hf => h f i fun hfs => hf (sub hfs)

/-- A write of one of the fields, after what changes no other. -/
theorem RegsBut.wr {fs : List Fld} {s t : State} (h : RegsBut fs s t) (f : Fld) (i v : Nat) (hf : f.id ∈ fs.map Fld.id) :
    RegsBut fs s (t.wr f i v) :=
  fun g j hg => (t.rd_wr_fld f g i j v fun same => hg (same ▸ hf)).trans (h g j hg)

theorem RegsBut.ite {fs : List Fld} {s t u : State} {c : Prop} [Decidable c] (ht : RegsBut fs s t) (hu : RegsBut fs s u) :
    RegsBut fs s (if c then t else u) := by
  split <;> assumption

theorem RegsBut.foldl {α : Type} {fs : List Fld} {g : State → α → State} (l : List α) (s : State) (h : ∀ t x, RegsBut fs t (g t x)) :
    RegsBut fs s (l.foldl g s) :=
  List.foldlRecOn l g (motive := RegsBut fs s) RegsBut.refl fun t ht x _ => ht.trans (h t x)

theorem Machine.BusOnly.regs {s t : State} (h : BusOnly s t) : t.regs = s.regs := by
  rw [BusOnly] at h
  rw [h]

theorem testBit_setBitN (w i : Nat) : (setBitN w i).testBit i = true := by simp [setBitN]

theorem testBit_clrBitN (w i : Nat) : (clrBitN w i).testBit i = false := by
  unfold clrBitN
  split
  · next set =>
    rw [Nat.testBit_eq_decide_div_mod_eq, decide_eq_true_eq] at set
    have low := Nat.sub_mul_div w (2 ^ i) 1
    rw [Nat.mul_one] at low
    rw [Nat.testBit_eq_decide_div_mod_eq, low, decide_eq_false_iff_not]
    omega
  · next clear => exact Bool.eq_false_of_not_eq_true clear

end Sys2Proof
end

section
/-! SUPPORT. Block resets (spec 03 R63): the engines' reset, S1, and the PCIe reset and link (16 R339, R352). -/
namespace Sys2Proof.Machine

/-! ### What the reset of an engine leaves -/

/-- The fields that freeing what an engine holds may change: of the tables' epoch, the queues' counters and FIFO flushes. -/
abbrev freedFlds : List Fld :=
  [F.TBL_EPOCH_EPOCH, F.TBL_STAT_BUMP_HELD, F.TBL_STAT_APPLYING, F.TBL_STAT_DRAIN_DONE_EVT, F.QUE_CNT_COUNT, F.QUE_FIFO_FLUSH_FLUSH]

theorem State.tsDone_regs (s : State) (i : Nat) : (s.tsDone i).regs = s.regs := by
  unfold State.tsDone State.freeTs
  repeat' split
  all_goals rfl

theorem State.tsHold_regs (s : State) (q i : Nat) : (s.tsHold q i).regs = s.regs := by
  unfold State.tsHold
  repeat' split
  all_goals rfl

theorem State.finishRef_regs (s : State) (first : Nat) (pooled : Bool) : (s.finishRef first pooled).regs = s.regs := by
  unfold State.finishRef
  split
  · split
    · exact State.tsDone_regs ..
    · rfl
  · rfl

theorem State.finishIn_regs (s : State) (q : Nat) (e : QEnt) (pooled : Bool) : (s.finishIn q e pooled).regs = s.regs := by
  unfold State.finishIn State.finish
  rw [State.finishRef_regs]
  split
  · exact s.tsHold_regs ..
  · rfl

theorem State.bumpNow_regsBut (s : State) : RegsBut freedFlds s s.bumpNow := by
  unfold State.bumpNow
  refine RegsBut.wr (RegsBut.trans ?_ (RegsBut.foldl _ _ fun t w => RegsBut.of_regs ?_)) _ _ _ (by decide)
  · exact RegsBut.trans ((RegsBut.refl.wr F.TBL_EPOCH_EPOCH 0 _ (by decide)).wr F.TBL_STAT_BUMP_HELD 0 0 (by decide)) (RegsBut.of_regs rfl)
  · repeat' split
    all_goals rfl

theorem State.drainService_regsBut (s : State) : RegsBut freedFlds s s.drainService := by
  unfold State.drainService
  have bumped : RegsBut freedFlds s (if s.on F.TBL_STAT_BUMP_HELD 0 && !s.bumpBlocked then s.bumpNow else s) :=
    s.bumpNow_regsBut.ite RegsBut.refl
  exact RegsBut.ite (bumped.wr F.TBL_STAT_DRAIN_DONE_EVT 0 1 (by decide)) bumped

theorem State.fifoPrune_regsBut (s : State) (f fuel : Nat) : RegsBut freedFlds s (s.fifoPrune f fuel) := by
  induction fuel generalizing s with
  | zero => exact RegsBut.refl
  | succ fuel ih =>
    unfold State.fifoPrune
    split
    · split
      · exact RegsBut.trans (RegsBut.wr (RegsBut.of_regs rfl) F.QUE_CNT_COUNT _ _ (by decide)) (ih _)
      · exact RegsBut.refl
    · exact RegsBut.refl

theorem State.fifoPop_regsBut (s : State) (f : Nat) : RegsBut freedFlds s (s.fifoPop f) := by
  unfold State.fifoPop
  split
  · exact RegsBut.refl
  · next p _ =>
    split
    · exact RegsBut.refl
    · have counted : RegsBut freedFlds s ((({ s with ink := s.ink.giveCells p.cells }).setFifo f (s.fifo f).dropHead).qcnt (512 + f) 1) :=
        RegsBut.wr (RegsBut.of_regs rfl) F.QUE_CNT_COUNT _ _ (by decide)
      have serviced (t : State) : RegsBut freedFlds t (t.fifoService f) := by
        unfold State.fifoService
        refine RegsBut.trans (RegsBut.of_regs ?_) (State.fifoPrune_regsBut _ f _)
        split <;> rfl
      have flushed (t : State) : RegsBut freedFlds t (t.flushCheck f) := by
        unfold State.flushCheck
        exact RegsBut.ite RegsBut.refl (RegsBut.refl.wr F.QUE_FIFO_FLUSH_FLUSH f 0 (by decide))
      exact (counted.trans (serviced _)).trans (flushed _)

/-- The current frame or packet of engine `n` is freed. -/
def State.nibFreed (s : State) (n : Nat) : State :=
  match (s.nibEng n).cur with
  | some (.frame q e) => (s.finishIn q e (!s.deep q)).drainService
  | some (.packet f) => s.fifoPop f
  | none => s

theorem State.nibFreed_regsBut (s : State) (n : Nat) : RegsBut freedFlds s (s.nibFreed n) := by
  unfold State.nibFreed
  split
  · next q e _ => exact (RegsBut.of_regs (s.finishIn_regs q e _)).trans (State.drainService_regsBut _)
  · exact s.fifoPop_regsBut _
  · exact RegsBut.refl

/-- The fields beside STATE that the reset of an engine clears. -/
abbrev nibTimerFlds : List Fld := [F.NIB_STAT_IN_TRAP, F.NIB_TIMER_PERIODIC, F.NIB_TIMER_PERIOD_US, F.NIB_TIMER_ARMED]

/-- The state in which engine `n`, freed, is in RESET, its trap and its timers not yet cleared. -/
def State.nibInReset (s : State) (n : Nat) : State :=
  let t := s.nibFreed n
  (t.setNib n { NibEng.init with isram := (t.nibEng n).isram, restarts := (t.nibEng n).restarts }).wr F.NIB_STAT_STATE n 0

theorem State.nibReset_eq (s : State) (n : Nat) : s.nibReset n =
    (List.range 4).foldl (fun (t : State) k => t.nibTimerSet n k false 0) ((s.nibInReset n).wr F.NIB_STAT_IN_TRAP n 0) := rfl

theorem State.nibTimerSet_regsBut (s : State) (n t : Nat) (periodic : Bool) (period : Nat) :
    RegsBut nibTimerFlds s (s.nibTimerSet n t periodic period) :=
  ((RegsBut.refl.wr F.NIB_TIMER_PERIODIC _ _ (by decide)).wr F.NIB_TIMER_PERIOD_US _ _ (by decide)).wr F.NIB_TIMER_ARMED _ _ (by decide)

theorem State.nibReset_timers (s : State) (n : Nat) : RegsBut nibTimerFlds (s.nibInReset n) (s.nibReset n) := by
  rw [State.nibReset_eq]
  exact (RegsBut.refl.wr F.NIB_STAT_IN_TRAP n 0 (by decide)).trans (RegsBut.foldl _ _ fun t k => t.nibTimerSet_regsBut n k false 0)

/-- The reset of an engine puts that engine in RESET and leaves the state of every other. -/
theorem State.rd_state_nibReset (s : State) (n m : Nat) :
    (s.nibReset n).rd F.NIB_STAT_STATE m = if m = n then 0 else s.rd F.NIB_STAT_STATE m := by
  rw [s.nibReset_timers n _ _ (by decide), State.nibInReset]
  split
  · next same => rw [same, State.rd_wr_same, Nat.zero_mod]
  · next other => rw [State.rd_wr_elem _ _ _ _ _ _ other, State.rd_setNib, s.nibFreed_regsBut n _ _ (by decide)]

theorem State.nibReset_regsBut (s : State) (n : Nat) : RegsBut (F.NIB_STAT_STATE :: (freedFlds ++ nibTimerFlds)) s (s.nibReset n) := by
  have freed : RegsBut (F.NIB_STAT_STATE :: (freedFlds ++ nibTimerFlds)) s (s.nibInReset n) :=
    RegsBut.wr ((s.nibFreed_regsBut n).mono (by decide)) F.NIB_STAT_STATE n 0 (by decide)
  exact freed.trans ((s.nibReset_timers n).mono (by decide))

/-! ### GLB_BLK_RST and S1_RUN (R63, R72) -/

/-- An engine whose bit of GLB_BLK_RST rises from `old` to `new` is reset. -/
def State.blkRst (old new : Nat) (s : State) (n : Nat) : State := if new.testBit n && !old.testBit n then s.nibReset n else s

/-- The state in which GLB_BLK_RST holds `nib` and `s1`, and the engines named have been reset. -/
def State.blkRstTaken (s : State) (nib : BitVec 10) (s1 : Bool) : State :=
  (List.range 10).foldl (State.blkRst (s.rd F.GLB_BLK_RST_NIB 0) nib.toNat) ((s.wr F.GLB_BLK_RST_NIB 0 nib.toNat).wrb F.GLB_BLK_RST_S1 0 s1)

theorem exec_glbBlkRstWrite (s : State) (nib : BitVec 10) (s1 : Bool) : exec (.glbBlkRstWrite nib s1) s = .next
    (if s1 then { (s.blkRstTaken nib s1).wr F.GLB_SCRIBE_CTL_S1_RUN 0 0 with
      coreStop := clrBitN (s.blkRstTaken nib s1).coreStop 1, cores := (s.blkRstTaken nib s1).cores.put 1 CoreSt.init }
     else s.blkRstTaken nib s1) := rfl

theorem State.blkRst_regsBut (old new : Nat) (s : State) (n : Nat) :
    RegsBut (F.NIB_STAT_STATE :: (freedFlds ++ nibTimerFlds)) s (s.blkRst old new n) := (s.nibReset_regsBut n).ite RegsBut.refl

theorem State.rd_state_blkRst {old new n m : Nat} {s : State} (h : s.rd F.NIB_STAT_STATE m = 0) : (s.blkRst old new n).rd F.NIB_STAT_STATE m = 0 := by
  unfold State.blkRst
  split
  · rw [State.rd_state_nibReset, h, ite_self]
  · exact h

theorem State.blkRstTaken_spec (s : State) (nib : BitVec 10) (s1 : Bool) (n : Fin 10) :
    (s.blkRstTaken nib s1).rd F.GLB_BLK_RST_NIB 0 = nib.toNat ∧ (s.blkRstTaken nib s1).rd F.GLB_BLK_RST_S1 0 = b2n s1
      ∧ (nib.toNat.testBit n = true → (s.rd F.GLB_BLK_RST_NIB 0).testBit n = false → (s.blkRstTaken nib s1).rd F.NIB_STAT_STATE n = 0) := by
  have others := RegsBut.foldl (List.range 10) ((s.wr F.GLB_BLK_RST_NIB 0 nib.toNat).wrb F.GLB_BLK_RST_S1 0 s1)
    (State.blkRst_regsBut (s.rd F.GLB_BLK_RST_NIB 0) nib.toNat)
  refine ⟨(others _ _ (by decide)).trans ?_, (others _ _ (by decide)).trans ?_, fun held before => ?_⟩
  · rw [State.wrb_eq_wr, State.rd_wr_fld _ _ _ _ _ _ (by decide), State.rd_wr_same, Nat.mod_eq_of_lt nib.isLt]
  · rw [State.wrb_eq_wr, State.rd_wr_same]
    cases s1 <;> rfl
  · refine foldl_reaches (State.blkRst (s.rd F.GLB_BLK_RST_NIB 0) nib.toNat)
      (fun t k => nib.toNat.testBit k = true → (s.rd F.GLB_BLK_RST_NIB 0).testBit k = false → t.rd F.NIB_STAT_STATE k = 0)
      (fun t k held before => ?_) (fun t k m h held before => State.rd_state_blkRst (h held before)) _ _ n (List.mem_range.2 n.isLt) held before
    rw [State.blkRst, if_pos (by rw [held, before]; rfl), State.rd_state_nibReset, if_pos rfl]

/-! ### The PCIe link (16 R339, R352) -/

/-- Host rings that stop leave the channels and the main die's phase. -/
theorem State.hostRingsStop_leaves (s : State) : (s.hostRingsStop.phase, s.hostRingsStop.loads) = (s.phase, s.loads) := by
  refine foldl_leaves (fun t : State => (t.phase, t.loads)) _ s fun t r => ?_
  unfold State.returnHeld
  split <;> rfl

/-- The fields of the link read their reset values. -/
def State.pcieCleared (s : State) : State :=
  ((((s.clearFld F.DMA_PCIE_STAT_BME).clearFld F.DMA_PCIE_STAT_DSTATE).clearFld F.DMA_PCIE_STAT_WIDTH).clearFld F.DMA_PCIE_STAT_SPEED).clearFld
    F.DMA_PCIE_STAT_LINK_UP

theorem State.pcieReset_eq (s : State) : s.pcieReset =
    { (s.hostRingsStop.ringsReset fun r => s.hostRingsStop.hostRings.contains r).pcieCleared with
      pcieUp := false, pcie := PcieCfg.init, msix := ⟨[], [], []⟩ } := rfl

theorem State.rd_pcieCleared (s : State) : s.pcieCleared.rd F.DMA_PCIE_STAT_LINK_UP 0 = 0 ∧ s.pcieCleared.rd F.DMA_PCIE_STAT_BME 0 = 0 := by
  refine ⟨State.rd_clearFld_same .., ?_⟩
  calc s.pcieCleared.rd F.DMA_PCIE_STAT_BME 0
      = (s.clearFld F.DMA_PCIE_STAT_BME).rd F.DMA_PCIE_STAT_BME 0 := by simp [State.pcieCleared, State.rd_clearFld_ne]
    _ = 0 := State.rd_clearFld_same ..

theorem State.ringsReset_leaves (s : State) (p : Nat → Bool) : ((s.ringsReset p).phase, (s.ringsReset p).loads) = (s.phase, s.loads) := by
  unfold State.ringsReset
  generalize ringFields = l
  exact foldl_leaves (fun t : State => (t.phase, t.loads)) l s fun _ _ => rfl

theorem State.pcieReset_spec (s : State) : s.pcieReset.pcieUp = false ∧ s.pcieReset.rd F.DMA_PCIE_STAT_LINK_UP 0 = 0
    ∧ s.pcieReset.rd F.DMA_PCIE_STAT_BME 0 = 0 ∧ s.pcieReset.msix = ⟨[], [], []⟩ ∧ s.pcieReset.pcie = PcieCfg.init
    ∧ s.pcieReset.phase = s.phase ∧ s.pcieReset.loads = s.loads := by
  rw [State.pcieReset_eq]
  generalize reset : s.hostRingsStop.ringsReset (fun r => s.hostRingsStop.hostRings.contains r) = t
  obtain ⟨phase, loads⟩ : t.phase = s.phase ∧ t.loads = s.loads := by
    rw [← reset]
    exact Prod.mk.inj ((State.ringsReset_leaves ..).trans s.hostRingsStop_leaves)
  obtain ⟨link, master⟩ := t.rd_pcieCleared
  exact ⟨rfl, link, master, rfl, rfl, phase, loads⟩

/-- The link trains, unless it is up already. -/
def State.pcieTrained (s : State) (speed : Fin 4) (lanes : Fin 3) : State :=
  if s.pcieUp then s
  else ((({ s with pcieUp := true } : State).wr F.DMA_PCIE_STAT_LINK_UP 0 1).wr F.DMA_PCIE_STAT_SPEED 0 speed).wr F.DMA_PCIE_STAT_WIDTH 0 (4 / 2 ^ lanes.val)

/-- The host configures the endpoint, in D0. -/
def State.pcieConfigured (s : State) (cfg : HostCfg) : State :=
  (({ s with pcie := { s.pcie with mps := cfg.mps.val, mrrs := cfg.mrrs.val, bar0 := cfg.bar0.toNat, bar2 := cfg.bar2.toNat } } : State).wr
    F.DMA_PCIE_STAT_DSTATE 0 0).wr F.DMA_PCIE_STAT_BME 0 (b2n cfg.bme)

theorem exec_pcieLinkUp {s : State} (speed : Fin 4) (lanes : Fin 3) (cfg : HostCfg)
    (runs : s.phase = .running ∨ s.phase = .starting ∨ s.phase = .recovery) :
    exec (.pcieLinkUp speed lanes cfg) s = .next ((s.pcieTrained speed lanes).pcieConfigured cfg).msixService :=
  congrArg Host.Outcome.next (if_pos runs)

theorem State.pcieTrained_spec (s : State) (speed : Fin 4) (lanes : Fin 3) : (s.pcieTrained speed lanes).pcieUp = true
    ∧ (s.pcieUp = false → (s.pcieTrained speed lanes).rd F.DMA_PCIE_STAT_LINK_UP 0 = 1
      ∧ (s.pcieTrained speed lanes).rd F.DMA_PCIE_STAT_SPEED 0 = speed.val ∧ (s.pcieTrained speed lanes).rd F.DMA_PCIE_STAT_WIDTH 0 = 4 / 2 ^ lanes.val) := by
  have narrow : ∀ k : Fin 3, 4 / 2 ^ k.val % 2 ^ 3 = 4 / 2 ^ k.val := by decide
  unfold State.pcieTrained
  split
  · next up => exact ⟨up, fun down => absurd up (by simp [down])⟩
  · refine ⟨rfl, fun _ => ⟨?_, ?_, ?_⟩⟩
    · simp [State.rd_wr_fld]
    · simp [State.rd_wr_fld, Nat.mod_eq_of_lt speed.isLt]
    · rw [State.rd_wr_same, narrow lanes]

theorem BusOnly.pcie {s t : State} (h : BusOnly s t) : t.pcieUp = s.pcieUp ∧ t.pcie = s.pcie := by
  rw [BusOnly] at h
  rw [h]
  exact ⟨rfl, rfl⟩

theorem State.pcieConfigured_regsBut (s : State) (cfg : HostCfg) :
    RegsBut [F.DMA_PCIE_STAT_DSTATE, F.DMA_PCIE_STAT_BME] s (s.pcieConfigured cfg) :=
  RegsBut.wr (RegsBut.wr (RegsBut.of_regs rfl) F.DMA_PCIE_STAT_DSTATE 0 0 (by decide)) F.DMA_PCIE_STAT_BME 0 _ (by decide)

theorem State.pcieConfigured_spec (s : State) (cfg : HostCfg) : (s.pcieConfigured cfg).rd F.DMA_PCIE_STAT_DSTATE 0 = 0
    ∧ (s.pcieConfigured cfg).rd F.DMA_PCIE_STAT_BME 0 = b2n cfg.bme := by
  refine ⟨(State.rd_wr_fld _ F.DMA_PCIE_STAT_BME F.DMA_PCIE_STAT_DSTATE 0 0 _ (by decide)).trans (State.rd_wr_same ..), ?_⟩
  rw [State.pcieConfigured, State.rd_wr_same]
  cases cfg.bme <;> rfl

end Sys2Proof.Machine
end

section
/-! SUPPORT. The statement about block resets and the PCIe link. -/
namespace Sys2Proof
open Sys2Proof.Machine

/-- Settles O19: an engine's reset leaves GLB_BLK_RST and the other engines' states, and what the messages sent for a link that trains
leave is `BusOnly`. -/
theorem blockResetsAndPcie : Obligations.BlockResetsAndPcie := by
  unfold Obligations.BlockResetsAndPcie
  intro s nib s1 n speed lanes cfg
  refine ⟨⟨_, exec_glbBlkRstWrite s nib s1, ?_⟩, fun free stopped => ?_, fun busy => ?_, ⟨_, rfl, s.pcieReset_spec⟩, fun runs => ?_⟩
  · obtain ⟨held, heldS1, reset⟩ := s.blkRstTaken_spec nib s1 n
    cases s1 with
    | false => exact ⟨held, heldS1, reset, nofun⟩
    | true =>
      have others : RegsBut [F.GLB_SCRIBE_CTL_S1_RUN] (s.blkRstTaken nib true) ((s.blkRstTaken nib true).wr F.GLB_SCRIBE_CTL_S1_RUN 0 0) :=
        RegsBut.refl.wr F.GLB_SCRIBE_CTL_S1_RUN 0 0 (by decide)
      exact ⟨(others _ _ (by decide)).trans held, (others _ _ (by decide)).trans heldS1,
        fun set clear => (others _ _ (by decide)).trans (reset set clear), fun _ => ⟨(s.blkRstTaken nib true).rd_wr_same F.GLB_SCRIBE_CTL_S1_RUN 0 0, testBit_clrBitN ..⟩⟩
  · refine ⟨_, congrArg Host.Outcome.next (if_neg (by simp [free, stopped])), s.rd_wr_same F.GLB_SCRIBE_CTL_S1_RUN 0 1, Tbl.find_put_same .., ?_⟩
    exact RegsBut.refl.wr F.GLB_SCRIBE_CTL_S1_RUN 0 1 (by decide)
  · exact congrArg Host.Outcome.next (if_pos (by simpa using busy))
  · have sent := ((s.pcieTrained speed lanes).pcieConfigured cfg).msixService_busOnly
    refine ⟨_, exec_pcieLinkUp speed lanes cfg runs, ?_⟩
    generalize ((s.pcieTrained speed lanes).pcieConfigured cfg).msixService = t at sent ⊢
    obtain ⟨up, trained⟩ := s.pcieTrained_spec speed lanes
    obtain ⟨inD0, master⟩ := (s.pcieTrained speed lanes).pcieConfigured_spec cfg
    obtain ⟨sameUp, sameCfg⟩ := sent.pcie
    have same : RegsBut [] _ t := RegsBut.of_regs sent.regs
    have others := ((s.pcieTrained speed lanes).pcieConfigured_regsBut cfg).trans (RegsBut.of_regs sent.regs)
    rw [sameCfg]
    refine ⟨sameUp.trans up, (same _ _ (by decide)).trans inD0, (same _ _ (by decide)).trans master, rfl, rfl, rfl, rfl, fun down => ?_, fun wasUp => ?_⟩
    · obtain ⟨link, rate, width⟩ := trained down
      exact ⟨(others _ _ (by decide)).trans link, (others _ _ (by decide)).trans rate, (others _ _ (by decide)).trans width⟩
    · rwa [State.pcieTrained, if_pos wasUp] at others

end Sys2Proof
end

section
/-! SUPPORT. Main-die resets (spec 03 R63, R64) and their release (R69, 21 R417). -/
namespace Sys2Proof.Machine

/-- The erasure of a stale TOMBSTONE record (22 R429) changes nothing but that record. -/
theorem State.staleErase_eq (s : State) : ∃ tomb, s.staleErase = { s with flash := { s.flash with tomb := tomb } } := by
  unfold State.staleErase
  split
  · split
    · exact ⟨[], rfl⟩
    · exact ⟨s.flash.tomb, rfl⟩
  · exact ⟨s.flash.tomb, rfl⟩

/-- What a main-die reset clears and keeps (03 R63). -/
structure State.ResetTo (s : State) (cause : Nat) (t : State) : Prop where
  held : t.phase = .held
  silent : t.ferrule.up = false
  cause : t.rd F.GLB_RST_CAUSE_CAUSE 0 = cause
  loads : t.loads = s.loads
  pdConfig : t.pdConfig = s.pdConfig
  hostMem : t.hostMem = s.hostMem
  tamperFlag : t.tamperFlag = s.tamperFlag
  kucHigh : t.kucHigh = s.kucHigh
  keyFlash : t.keyFlash = s.keyFlash
  regs : ∀ f i, f.id ∉ [F.GLB_RST_CAUSE_CAUSE.id, F.GLB_RST_CAUSE_BLT_SOURCE.id, F.BLT_FLT_STAT_FORCE.id] →
    t.rd f i = if keptBase ≤ f.id then s.rd f i else f.rst i

theorem State.mainReset_resets (s : State) (cause src : Nat) (fits : cause < 16) : s.ResetTo cause (s.mainReset cause src) where
  held := rfl
  silent := rfl
  cause := by
    rw [State.mainReset, State.rd_wr_fld _ _ _ _ _ _ (by decide), State.rd_wr_fld _ _ _ _ _ _ (by decide), State.rd_wr_same]
    exact Nat.mod_eq_of_lt fits
  loads := rfl
  pdConfig := rfl
  hostMem := rfl
  tamperFlag := rfl
  kucHigh := rfl
  keyFlash := rfl
  regs f i hf := by
    obtain ⟨notCause, notSource, notForce⟩ : f.id ≠ F.GLB_RST_CAUSE_CAUSE.id ∧ f.id ≠ F.GLB_RST_CAUSE_BLT_SOURCE.id ∧ f.id ≠ F.BLT_FLT_STAT_FORCE.id := by
      simpa using hf
    rw [State.mainReset, State.rd_wr_fld _ _ _ _ _ _ notForce, State.rd_wr_fld _ _ _ _ _ _ notSource, State.rd_wr_fld _ _ _ _ _ _ notCause]
    exact s.rd_mainClear f i

/-- The plain resets erase a stale TOMBSTONE record first. -/
theorem State.staleErase_resets (s : State) (cause : Nat) (fits : cause < 16) : s.ResetTo cause (s.staleErase.mainReset cause 0) := by
  obtain ⟨tomb, erased⟩ := s.staleErase_eq
  rw [erased]
  exact { State.mainReset_resets { s with flash := { s.flash with tomb := tomb } } cause 0 fits with }

/-- A release changes no register but cause RECOVERY. -/
theorem State.released_spec (s : State) : s.released.phase = .released ∧ s.released.maintLow = s.maintLow ∧ s.released.pd = s.pd
    ∧ RegsBut [F.BLT_FLT_STAT_RECOVERY] s s.released := by
  unfold State.released
  dsimp only
  split
  · exact ⟨rfl, rfl, rfl, RegsBut.of_regs rfl⟩
  · exact ⟨rfl, rfl, rfl, RegsBut.wr (RegsBut.of_regs rfl) F.BLT_FLT_STAT_RECOVERY 0 0 (by decide)⟩

end Sys2Proof.Machine
end

section
/-! SUPPORT. The statement about main-die resets. -/
namespace Sys2Proof
open Sys2Proof.Machine

/-- Settles O18: every reset of the main die is `mainReset`, whose register file is the one that R63 keeps (`rd_mainClear`). -/
theorem mainDieResetsKeepWhatTheSpecKeeps : Obligations.MainDieResetsKeepWhatTheSpecKeeps := by
  unfold Obligations.MainDieResetsKeepWhatTheSpecKeeps
  intro cleared s key low
  have resets {cause : Nat} {t : State} (h : s.ResetTo cause t) : cleared s cause t := by
    obtain ⟨held, silent, cause, loads, pdConfig, hostMem, tamperFlag, kucHigh, keyFlash, regs⟩ := h
    exact ⟨held, silent, cause, loads, pdConfig, hostMem, tamperFlag, kucHigh, keyFlash, regs⟩
  refine ⟨fun runs => ⟨⟨_, ?_, resets (s.staleErase_resets 4 (by decide))⟩, ⟨_, ?_, resets (s.mainReset_resets 5 0 (by decide))⟩⟩,
    fun wrong => ⟨?_, ?_⟩, fun supplied => ⟨_, ?_, resets (s.staleErase_resets 3 (by decide))⟩, fun held => ?_⟩
  · exact congrArg Host.Outcome.next (if_pos ⟨rfl, runs⟩)
  · exact congrArg Host.Outcome.next (if_pos ⟨rfl, runs⟩)
  · exact congrArg Host.Outcome.next (if_neg fun h => wrong h.1)
  · exact congrArg Host.Outcome.next (if_neg fun h => wrong h.1)
  · exact congrArg Host.Outcome.next (if_neg supplied)
  · refine ⟨_, congrArg Host.Outcome.next (if_pos held), ?_⟩
    obtain ⟨phase, maint, -, others⟩ := State.released_spec { s with maintLow := low && (s.maintLow || s.on F.BLT_FLT_STAT_RECOVERY 0) }
    exact ⟨phase, maint, others⟩

end Sys2Proof
end

section
/-! SUPPORT. The power die's start and the rails (spec 03 R57, R58; 19 R393; 21 R413). -/
namespace Sys2Proof.Machine

/-! ### Power-on reset and the first wake -/

/-- The fields that record wakes. -/
abbrev wakeFlds : List Fld :=
  [F.AOC_WAKE_PEND_CODE, F.AOC_WAKE_SRC_VALID, F.AOC_WAKE_SRC_CODE, F.AOC_WAKE_SRC_INDEX, F.AOC_WAKE_SRC_SEC, F.AOC_WAKE_SRC_SUB, F.AOC_WAKE_SRC_MORE]

/-- A wake's PEND bit is set, and the first wake, or MORE, is recorded (19 R394). -/
def State.wakeRecorded (s : State) (code idx : Nat) : State :=
  let s := s.setBit F.AOC_WAKE_PEND_CODE 0 (code - 1)
  if s.on F.AOC_WAKE_SRC_VALID 0 then s.wr F.AOC_WAKE_SRC_MORE 0 1
  else ((((s.wr F.AOC_WAKE_SRC_VALID 0 1).wr F.AOC_WAKE_SRC_CODE 0 code).wr F.AOC_WAKE_SRC_INDEX 0 idx).wr
    F.AOC_WAKE_SRC_SEC 0 (s.rd F.AOC_RTC_SEC 0)).wr F.AOC_WAKE_SRC_SUB 0 s.rtcFrac

theorem State.aocWake_eq {s : State} (code idx : Nat) (on : s.stopped = false) : s.aocWake code idx = (s.wakeRecorded code idx).wakePower code idx :=
  if_neg (by simp [on])

theorem State.wakePower_start {s : State} (code idx : Nat) (starts : s.pd.phase ≠ .run) : s.wakePower code idx = s := if_pos starts

theorem State.wakeRecorded_spec (s : State) (code idx : Nat) :
    (s.wakeRecorded code idx).pd = s.pd ∧ RegsBut wakeFlds s (s.wakeRecorded code idx)
      ∧ (code - 1 < 15 → (s.wakeRecorded code idx).bit F.AOC_WAKE_PEND_CODE 0 (code - 1) = true)
      ∧ (s.on F.AOC_WAKE_SRC_VALID 0 = false → (s.wakeRecorded code idx).rd F.AOC_WAKE_SRC_VALID 0 = 1
        ∧ (s.wakeRecorded code idx).rd F.AOC_WAKE_SRC_CODE 0 = code % 16 ∧ (s.wakeRecorded code idx).rd F.AOC_WAKE_SRC_INDEX 0 = idx % 256
        ∧ (s.wakeRecorded code idx).rd F.AOC_WAKE_SRC_SEC 0 = s.rd F.AOC_RTC_SEC 0 % 2 ^ F.AOC_WAKE_SRC_SEC.width) := by
  have pend : RegsBut wakeFlds s (s.setBit F.AOC_WAKE_PEND_CODE 0 (code - 1)) := RegsBut.refl.wr F.AOC_WAKE_PEND_CODE 0 _ (by decide)
  unfold State.wakeRecorded
  dsimp only
  refine ⟨?_, RegsBut.ite (pend.wr F.AOC_WAKE_SRC_MORE 0 1 (by decide)) ?_, fun small => ?_, fun first => ?_⟩
  · split <;> rfl
  · exact ((((pend.wr F.AOC_WAKE_SRC_VALID 0 1 (by decide)).wr F.AOC_WAKE_SRC_CODE 0 code (by decide)).wr F.AOC_WAKE_SRC_INDEX 0 idx (by decide)).wr
      F.AOC_WAKE_SRC_SEC 0 _ (by decide)).wr F.AOC_WAKE_SRC_SUB 0 _ (by decide)
  · have set : (s.setBit F.AOC_WAKE_PEND_CODE 0 (code - 1)).bit F.AOC_WAKE_PEND_CODE 0 (code - 1) = true := by
      rw [State.bit, State.setBit_eq_wr, State.rd_wr_same, Nat.testBit_mod_two_pow, testBit_setBitN]
      simpa using small
    rw [State.bit] at set ⊢
    split
    · rwa [State.rd_wr_fld _ _ _ _ _ _ (by decide)]
    · simpa [State.rd_wr_fld] using set
  · have clear : (s.setBit F.AOC_WAKE_PEND_CODE 0 (code - 1)).on F.AOC_WAKE_SRC_VALID 0 = false := by
      rw [← first, State.on, State.on, State.setBit_eq_wr, State.rd_wr_fld _ _ _ _ _ _ (by decide)]
    rw [if_neg (by simp [clear])]
    simp [State.rd_wr_fld, State.setBit_eq_wr]

/-! ### The rails (R58, 21 R413) -/

/-- The fields of the power die's log. -/
abbrev plogFlds : List Fld :=
  [F.BLT_PLOG_CLASS, F.BLT_PLOG_ESCALATED, F.BLT_PLOG_VALID, F.BLT_PLOG_SOURCE, F.BLT_PLOG_ELEMENT, F.BLT_PLOG_INFO, F.BLT_PLOG_RTC_SEC,
   F.BLT_PLOG_RTC_FRAC, F.BLT_PLOG_STAGE, F.BLT_PLOG_HEAD_HEAD, F.BLT_PLOG_HEAD_WRAPPED]

theorem State.bltPlog_pd (s : State) (e : BltEntry) : (s.bltPlog e).pd = s.pd := by
  simp only [State.bltPlog, State.wr_pd, State.wrb_eq_wr]
  split <;> rfl

/-- The entry lies where HEAD pointed. -/
theorem State.rd_source_bltPlog (s : State) (e : BltEntry) :
    (s.bltPlog e).rd F.BLT_PLOG_SOURCE (s.rd F.BLT_PLOG_HEAD_HEAD 0) = e.rep.src % 1024 := by
  simp [State.bltPlog, State.rd_wr_fld, State.wrb_eq_wr]

theorem State.bltPlog_regsBut (s : State) (e : BltEntry) : RegsBut plogFlds s (s.bltPlog e) := by
  have wrapped : RegsBut plogFlds s (if s.on F.BLT_PLOG_VALID (s.rd F.BLT_PLOG_HEAD_HEAD 0) then s.evt F.BLT_PLOG_HEAD_WRAPPED 0 else s) :=
    RegsBut.ite (RegsBut.refl.wr F.BLT_PLOG_HEAD_WRAPPED 0 1 (by decide)) RegsBut.refl
  unfold State.bltPlog
  iterate 10 refine RegsBut.wr ?_ _ _ _ (by decide)
  exact wrapped

/-- A fault that the power die logs itself, its INFO a free value. -/
def State.railFault (s : State) : State := (s.powerDieFault 0x006 (Config.reportInfo s.freeCtr).toNat).drawn

theorem State.railFault_eq (s : State) : ∃ (e : BltEntry) (copies : List (Nat × Nat × Nat × Nat × Nat)) (drawn : Nat),
    e.rep.src = 0x006 ∧ s.railFault = { s.bltPlog e with plogCopy := copies, freeCtr := drawn } := by
  unfold State.railFault State.powerDieFault State.drawn
  generalize entry : (⟨⟨0x006, elemDevice, (Config.reportInfo s.freeCtr).toNat⟩, 2, false⟩ : BltEntry) = e
  exact ⟨e, _, _, by rw [← entry], rfl⟩

theorem State.railFault_spec (s : State) : s.railFault.pd = s.pd ∧ s.railFault.rd F.BLT_FLT_STAT_RAIL 0 = s.rd F.BLT_FLT_STAT_RAIL 0
    ∧ s.railFault.rd F.BLT_PLOG_SOURCE (s.rd F.BLT_PLOG_HEAD_HEAD 0) = 0x006 := by
  obtain ⟨e, copies, drawn, source, logged⟩ := s.railFault_eq
  rw [logged]
  exact ⟨s.bltPlog_pd e, s.bltPlog_regsBut e F.BLT_FLT_STAT_RAIL 0 (by decide), (s.rd_source_bltPlog e).trans (by rw [source])⟩

/-- The state whose power die's own state is `p`. -/
def State.setPd (s : State) (p : PdSt) : State := { s with pd := p }

@[simp] theorem State.rd_setPd (s : State) (p : PdSt) (f : Fld) (i : Nat) : (s.setPd p).rd f i = s.rd f i := rfl
@[simp] theorem State.setPd_pd (s : State) (p : PdSt) : (s.setPd p).pd = p := rfl
@[simp] theorem State.setPd_stopped (s : State) (p : PdSt) : (s.setPd p).stopped = s.stopped := rfl

/-- The AOC has started (R57). -/
def State.aocStarted (s : State) : State := s.setPd { s.pd with phase := .aocStart }

theorem exec_powerDiePorEnd {s : State} (por : s.pd.phase = .por) : exec .powerDiePorEnd s = .next (s.aocStarted.aocWake 15 0) :=
  congrArg Host.Outcome.next (if_pos por)

/-- The first time the retry waits; the second time cause RAIL is set. -/
theorem exec_railWindowTimeout {s : State} (waits : s.pd.phase = .run ∧ s.pd.inh = true ∧ s.phase = .off) :
    exec .railWindowTimeout s = .next (if s.railFault.pd.railFails = 0
      then s.railFault.setPd { s.railFault.pd with inh := false, railFails := 1, retryWait := true }
      else (s.railFault.evt F.BLT_FLT_STAT_RAIL 0).setPd { s.railFault.pd with inh := false, railFails := 0, retryWait := false, wakeHeld := false }) := by
  simp only [exec, execRailWindowTimeout, waits, and_self, if_true]
  rfl

/-- The captured cause is shown, and the main die may be released. -/
def State.railsUp (s : State) (low : Bool) : State :=
  { (s.wr F.GLB_RST_CAUSE_CAUSE 0 s.pd.cause).wr F.GLB_RST_CAUSE_BLT_SOURCE 0 0 with
    maintLow := low, pd := { s.pd with cause := 2, railFails := 0 } }

theorem exec_railsInWindow {s : State} (low : Bool) (waits : s.pd.phase = .run ∧ s.pd.inh = true ∧ s.phase = .off) :
    exec (.railsInWindow low) s = .next (s.railsUp low).released := by
  simp only [exec, execRailsInWindow, waits, and_self, if_true]
  rfl

theorem State.railsUp_spec (s : State) (low : Bool) : (s.railsUp low).maintLow = low
    ∧ (s.railsUp low).rd F.GLB_RST_CAUSE_CAUSE 0 = s.pd.cause % 2 ^ F.GLB_RST_CAUSE_CAUSE.width
    ∧ RegsBut [F.GLB_RST_CAUSE_CAUSE, F.GLB_RST_CAUSE_BLT_SOURCE, F.BLT_FLT_STAT_RECOVERY] s (s.railsUp low) := by
  have written : RegsBut [F.GLB_RST_CAUSE_CAUSE, F.GLB_RST_CAUSE_BLT_SOURCE, F.BLT_FLT_STAT_RECOVERY] s
      ((s.wr F.GLB_RST_CAUSE_CAUSE 0 s.pd.cause).wr F.GLB_RST_CAUSE_BLT_SOURCE 0 0) :=
    (RegsBut.refl.wr F.GLB_RST_CAUSE_CAUSE 0 _ (by decide)).wr F.GLB_RST_CAUSE_BLT_SOURCE 0 0 (by decide)
  refine ⟨rfl, ?_, written⟩
  exact ((s.wr F.GLB_RST_CAUSE_CAUSE 0 s.pd.cause).rd_wr_fld F.GLB_RST_CAUSE_BLT_SOURCE _ 0 0 0 (by decide)).trans (s.rd_wr_same ..)

/-- A cause of the fault pair that reads 1 shows fault (21 R417). -/
theorem State.pairFault_of_rail {s : State} (h : s.rd F.BLT_FLT_STAT_RAIL 0 = 1) : s.pairFault = true := by
  simp [State.pairFault, State.on, h]

end Sys2Proof.Machine
end

section
/-! SUPPORT. The statement about the power die's start and the rails. -/
namespace Sys2Proof
open Sys2Proof.Machine

/-- Settles O16: each command's state is written out; a wake at the AOC's start is recorded and has no further effect, and the log entry
of a rail fault changes no register but the log's. -/
theorem powerDieAndRailsStart : Obligations.PowerDieAndRailsStart := by
  unfold Obligations.PowerDieAndRailsStart
  intro s low
  refine ⟨⟨_, rfl, rfl, rfl, fun n => s.rd_powerPorClear F.LC_CH_STAT_STATE n, s.rd_powerPorClear⟩, fun on por => ?_, fun off por => ?_,
    fun on waits => ?_, fun off => ?_, fun run inh off => ⟨?_, ?_⟩, fun waits => ?_⟩
  · obtain ⟨pd, others, pend, first⟩ := s.aocStarted.wakeRecorded_spec 15 0
    have recorded : s.aocStarted.aocWake 15 0 = s.aocStarted.wakeRecorded 15 0 :=
      (State.aocWake_eq (s := s.aocStarted) 15 0 on).trans (State.wakePower_start 15 0 (by rw [pd]; exact (by decide : PdPhase.aocStart ≠ .run)))
    exact ⟨_, (exec_powerDiePorEnd por).trans (congrArg _ recorded), pd, pend (by decide), first, others⟩
  · exact ⟨_, (exec_powerDiePorEnd por).trans (congrArg _ (if_pos off)), rfl⟩
  · refine ⟨_, congrArg Host.Outcome.next ((if_neg (by simp [on])).trans (if_pos (waits.imp_right fun wake => ?_))), rfl, rfl, rfl, fun _ _ _ => rfl⟩
    obtain ⟨run, low, held, hold, sag, retry⟩ := wake
    simp [run, low, held, hold, sag, retry]
  · exact congrArg Host.Outcome.next (if_pos off)
  · obtain ⟨phase, maint, -, recovery⟩ := (s.railsUp low).released_spec
    obtain ⟨upMaint, cause, written⟩ := s.railsUp_spec low
    exact ⟨_, exec_railsInWindow low ⟨run, inh, off⟩, phase, maint.trans upMaint, (recovery _ _ (by decide)).trans cause,
      written.trans (recovery.mono (by decide))⟩
  · obtain ⟨pd, rail, source⟩ := s.railFault_spec
    refine ⟨_, exec_railWindowTimeout ⟨run, inh, off⟩, ?_⟩
    generalize s.railFault = u at pd rail source ⊢
    rw [pd]
    split
    · exact ⟨rfl, source, rfl, rfl, rail⟩
    · have set : ((u.evt F.BLT_FLT_STAT_RAIL 0).setPd _).rd F.BLT_FLT_STAT_RAIL 0 = 1 := u.rd_evt F.BLT_FLT_STAT_RAIL 0 (by decide)
      exact ⟨rfl, (u.rd_wr_fld F.BLT_FLT_STAT_RAIL _ 0 _ 1 (by decide)).trans source, rfl, set, State.pairFault_of_rail set⟩
  · exact ⟨_, congrArg Host.Outcome.next (if_pos waits), rfl, rfl, fun _ _ _ => rfl⟩

end Sys2Proof
end

section
/-! SUPPORT. The steps of the main die's start (spec 03 R59 to R69): recovery mode, failed starts, and what each check leaves. -/
namespace Sys2Proof.Machine

/-! ### Recovery mode and failed starts (R62, R69, 22 R426) -/

theorem State.nibStop_regsBut (s : State) : RegsBut [F.NIB_STAT_STATE] s s.nibStop :=
  RegsBut.foldl (List.range 10) s fun t n => RegsBut.ite (RegsBut.refl.wr F.NIB_STAT_STATE n 4 (by decide)) RegsBut.refl

theorem State.nibStop_leaves (s : State) : (s.nibStop.phase, s.nibStop.flash) = (s.phase, s.flash) := by
  refine foldl_leaves (fun t : State => (t.phase, t.flash)) (List.range 10) s fun t n => ?_
  split <;> rfl

theorem State.pairFault_of_recovery {s : State} (h : s.rd F.BLT_FLT_STAT_RECOVERY 0 = 1) : s.pairFault = true := by
  simp [State.pairFault, State.on, h]

/-- The fields that the entry of recovery mode changes. -/
abbrev recoveryFlds : List Fld := [F.GLB_BOOT_STAT_STAGE, F.UPD_STAT_CONFIRM_PENDING, F.BLT_FLT_STAT_RECOVERY, F.NIB_STAT_STATE]

/-- Recovery mode has been entered; the engines have not yet been stopped. -/
def State.recoveryMarked (s : State) : State :=
  ((({ s with phase := .recovery, upd := { s.upd with confirmAt := none } } : State).wr F.GLB_BOOT_STAT_STAGE 0
    (if s.tombstone.isSome then 0xF else 0xE)).wr F.UPD_STAT_CONFIRM_PENDING 0 0).wr F.BLT_FLT_STAT_RECOVERY 0 1

theorem State.enterRecovery_eq (s : State) : s.enterRecovery = s.recoveryMarked.nibStop := rfl

theorem State.recoveryMarked_regsBut (s : State) : RegsBut recoveryFlds s s.recoveryMarked :=
  RegsBut.wr (RegsBut.wr (RegsBut.wr (RegsBut.of_regs rfl) F.GLB_BOOT_STAT_STAGE 0 _ (by decide)) F.UPD_STAT_CONFIRM_PENDING 0 0 (by decide))
    F.BLT_FLT_STAT_RECOVERY 0 1 (by decide)

theorem State.enterRecovery_spec (s : State) : s.enterRecovery.phase = .recovery ∧ s.enterRecovery.pairFault = true
    ∧ s.enterRecovery.flash = s.flash ∧ RegsBut recoveryFlds s s.enterRecovery := by
  rw [State.enterRecovery_eq]
  obtain ⟨phase, flash⟩ := Prod.mk.inj s.recoveryMarked.nibStop_leaves
  have stopped := s.recoveryMarked.nibStop_regsBut
  have recovery : s.recoveryMarked.rd F.BLT_FLT_STAT_RECOVERY 0 = 1 := State.rd_wr_same ..
  exact ⟨phase, State.pairFault_of_recovery ((stopped F.BLT_FLT_STAT_RECOVERY 0 (by decide)).trans recovery), flash,
    s.recoveryMarked_regsBut.trans (stopped.mono (by decide))⟩

/-- The TOMBSTONE record after a failed check: the one that is there, or one that names the code and the active set. -/
def State.tombAfter (s : State) (code : Nat) : List Byte :=
  if s.tombstone.isSome then s.flash.tomb else Tomb.bytes ⟨code, s.activeNo, s.rd F.UPD_ACTIVE_VER_VALUE 0, s.rd F.AOC_RTC_SEC 0⟩

/-- What a failed start check leaves of the state `u` in which it failed. -/
structure State.FailedWith (u : State) (code : Nat) (t : State) : Prop where
  phase : t.phase = .recovery
  shown : t.rd F.GLB_BOOT_STAT_FAIL_CODE 0 = code
  pair : t.pairFault = true
  tomb : t.flash.tomb = u.tombAfter code

/-- The failed check has left its code and the TOMBSTONE record; recovery mode is not yet entered. -/
def State.failNoted (s : State) (code : Nat) : State :=
  ({ s with flash := { s.flash with tomb := s.tombAfter code } } : State).wr F.GLB_BOOT_STAT_FAIL_CODE 0 code

theorem State.failStart_eq (s : State) (code : Nat) : s.failStart code = (s.failNoted code).enterRecovery := rfl

theorem State.failStart_fails (s : State) {code : Nat} (fits : code < 256) : s.FailedWith code (s.failStart code) := by
  rw [State.failStart_eq]
  obtain ⟨phase, pair, flash, others⟩ := (s.failNoted code).enterRecovery_spec
  refine ⟨phase, (others F.GLB_BOOT_STAT_FAIL_CODE 0 (by decide)).trans ?_, pair, congrArg FlashSt.tomb flash⟩
  exact (State.rd_wr_same ..).trans (Nat.mod_eq_of_lt fits)

/-- The fields that a TOMBSTONE record quotes. -/
abbrev tombFlds : List Fld := [F.UPD_STAT_ACTIVE_BANK, F.UPD_ACTIVE_VER_VALUE, F.AOC_RTC_SEC]

/-- A check that fails after the state has changed in what a TOMBSTONE record does not quote. -/
theorem State.FailedWith.of_later {u v : State} {code : Nat} {t : State} (h : v.FailedWith code t) (flash : v.flash = u.flash)
    (quoted : ∀ f ∈ tombFlds, v.rd f 0 = u.rd f 0) : u.FailedWith code t := by
  obtain ⟨phase, shown, pair, tomb⟩ := h
  refine ⟨phase, shown, pair, tomb.trans ?_⟩
  have there : v.tombstone = u.tombstone := by rw [State.tombstone, flash, State.tombstone]
  rw [State.tombAfter, there, flash, State.activeNo, quoted F.UPD_STAT_ACTIVE_BANK (by simp), quoted F.UPD_ACTIVE_VER_VALUE (by simp),
    quoted F.AOC_RTC_SEC (by simp), State.tombAfter, State.activeNo]

/-! ### The boot ROM starts (R59, R67) -/

theorem timeSec_mkTime (sec : Nat) : timeSec (mkTime sec 0 0) = sec % 2 ^ 48 := by
  simp only [timeSec, mkTime, rulerMod, secUnits]
  omega

theorem timeNs_mkTime (sec : Nat) : timeNs (mkTime sec 0 0) = 0 := by
  simp only [timeNs, mkTime, rulerMod, secUnits]
  omega

/-- An entry of BLT_LOG changes the log's registers alone. -/
theorem State.bltLog_leaves (s : State) (e : BltEntry) (sec ns : Nat) :
    ((s.bltLog e sec ns).phase, (s.bltLog e sec ns).mtime, (s.bltLog e sec ns).rulers, (s.bltLog e sec ns).cores)
      = (s.phase, s.mtime, s.rulers, s.cores) := by
  simp only [State.bltLog, State.wrb_eq_wr, State.wr_phase, State.wr_mtime, State.wr_rulers, State.wr_cores]
  split <;> rfl

theorem State.bltCopyPlog_leaves (s : State) :
    (s.bltCopyPlog.phase, s.bltCopyPlog.mtime, s.bltCopyPlog.rulers, s.bltCopyPlog.cores) = (s.phase, s.mtime, s.rulers, s.cores) :=
  foldl_leaves (fun t : State => (t.phase, t.mtime, t.rulers, t.cores)) s.plogCopy s fun t _ => t.bltLog_leaves ..

/-- The state in which the boot ROM starts on S0. -/
def State.romStarted (s : State) : State :=
  ({ s with phase := .rom, mtime := 0, cores := s.cores.put 0 ⟨true, 0, .m, 0⟩ } : State).wrb F.GLB_BOOT_STAT_MAINT_STRAP 0 s.maintLow

theorem exec_rootPllLock {s : State} (released : s.phase = .released) :
    exec .rootPllLock s = .next (s.romStarted.seedT0 (s.romStarted.rd F.AOC_RTC_SEC 0)).bltCopyPlog :=
  congrArg Host.Outcome.next (if_pos released)

theorem State.romStarted_seeded (s : State) (rtc : Nat) (t : State)
    (left : (t.phase, t.mtime, t.rulers, t.cores) = ((s.romStarted.seedT0 rtc).phase, (s.romStarted.seedT0 rtc).mtime,
      (s.romStarted.seedT0 rtc).rulers, (s.romStarted.seedT0 rtc).cores)) :
    t.phase = .rom ∧ t.mtime = 0 ∧ timeSec (t.ruler 0).time = rtc % 2 ^ 48 ∧ timeNs (t.ruler 0).time = 0
      ∧ t.cores.find 0 = some ⟨true, 0, .m, 0⟩ := by
  simp only [Prod.mk.injEq] at left
  obtain ⟨phase, mtime, rulers, cores⟩ := left
  have seeded : (t.ruler 0).time = mkTime rtc 0 0 := by
    rw [State.ruler, rulers]
    exact congrArg Ruler.time (Tbl.get_set_same ..)
  rw [seeded, timeSec_mkTime, timeNs_mkTime, cores]
  exact ⟨phase, mtime, rfl, rfl, Tbl.find_put_same ..⟩

/-! ### The second stage (R60, R62) -/

/-- The channels' adoption only reports. -/
theorem State.lcAdopted_leaves (s : State) : s.lcAdopted.regs = s.regs ∧ s.lcAdopted.phase = s.phase ∧ s.lcAdopted.flash = s.flash
    ∧ s.lcAdopted.maintLow = s.maintLow := by
  have left : (s.lcAdopted.regs, s.lcAdopted.phase, s.lcAdopted.flash, s.lcAdopted.maintLow) = (s.regs, s.phase, s.flash, s.maintLow) := by
    refine foldl_leaves (fun t : State => (t.regs, t.phase, t.flash, t.maintLow)) (List.range 24) s fun t n => ?_
    dsimp only
    repeat' split
    all_goals rfl
  simpa only [Prod.mk.injEq] using left

theorem State.ferruleInit_leaves (s : State) : s.ferruleInit.phase = s.phase ∧ s.ferruleInit.flash = s.flash ∧ s.ferruleInit.maintLow = s.maintLow
    ∧ RegsBut [F.BLT_FLT_STAT_ABSENT] s s.ferruleInit := by
  unfold State.ferruleInit
  dsimp only
  generalize begun : State.wr { s with ferrule := ⟨⟨0, 0, none, 0⟩, ⟨0, 0, none, 0⟩, true, false, true⟩ } F.BLT_FLT_STAT_ABSENT 0 0 = t
  have ended : RegsBut [F.BLT_FLT_STAT_ABSENT] s t := by
    rw [← begun]
    exact RegsBut.wr (RegsBut.of_regs rfl) F.BLT_FLT_STAT_ABSENT 0 0 (by decide)
  have kept : t.phase = s.phase ∧ t.flash = s.flash ∧ t.maintLow = s.maintLow := by rw [← begun]; exact ⟨rfl, rfl, rfl⟩
  obtain ⟨phase, flash, maint⟩ := kept
  split
  · obtain ⟨regs, phase', flash', maint'⟩ := t.lcAdopted_leaves
    exact ⟨phase'.trans phase, flash'.trans flash, maint'.trans maint, ended.trans (RegsBut.of_regs regs)⟩
  · exact ⟨phase, flash, maint, ended⟩

theorem State.showActive_leaves (s : State) : s.showActive.phase = s.phase ∧ s.showActive.flash = s.flash ∧ s.showActive.maintLow = s.maintLow
    ∧ RegsBut [F.UPD_STAT_ACTIVE_BANK, F.GLB_BOOT_STAT_ACTIVE_BANK, F.UPD_ACTIVE_VER_VALUE, F.UPD_COMMIT_SEQ_VALUE] s s.showActive := by
  unfold State.showActive
  split
  · refine ⟨rfl, rfl, rfl, ?_⟩
    iterate 4 refine RegsBut.wr ?_ _ _ _ (by decide)
    exact RegsBut.refl
  · exact ⟨rfl, rfl, rfl, RegsBut.refl⟩

/-- The state in which the second stage is checked: the link is up, and the registers name the set in force. -/
def State.stageShown (s : State) : State := s.ferruleInit.showActive

theorem State.recoveryCase_stageShown (s : State) : s.stageShown.recoveryCase = s.recoveryCase := by
  obtain ⟨-, flash, maint, others⟩ := s.ferruleInit_leaves
  obtain ⟨-, flash', maint', others'⟩ := s.ferruleInit.showActive_leaves
  have cause : s.stageShown.rd F.GLB_RST_CAUSE_CAUSE 0 = s.rd F.GLB_RST_CAUSE_CAUSE 0 := (others' _ _ (by decide)).trans (others _ _ (by decide))
  have tomb : s.stageShown.tombstone = s.tombstone := by rw [State.tombstone, State.stageShown, flash', flash, State.tombstone]
  rw [State.recoveryCase, tomb, cause, State.stageShown, maint', maint, State.recoveryCase]

theorem exec_secondStageStart_recovery {s : State} (ok : Bool) (rom : s.phase = .rom) (recovers : s.recoveryCase = true) :
    exec (.secondStageStart ok) s = .next s.stageShown.enterRecovery :=
  (if_neg (not_not_intro rom)).trans (if_pos (s.recoveryCase_stageShown.trans recovers))

/-- What the second stage's checks answer, with the watchdog running (step 7). -/
theorem exec_secondStageStart {s : State} (ok : Bool) (rom : s.phase = .rom) (starts : s.recoveryCase = false) :
    exec (.secondStageStart ok) s = match s.stageShown.recordInForce with
      | none => .next (s.stageShown.wdogLoad.failStart 7)
      | some (_, r) => if !(ok && decide (fit 48 (sha384 (s.stageShown.bank r.bank).man) = r.digest)
            && decide (s.stageShown.manErr (s.stageShown.bank r.bank).man none = 0) && (s.stageShown.bank r.bank).partGood 1)
          then .next (s.stageShown.wdogLoad.failStart 7)
          else .next (({ s.stageShown.wdogLoad with phase := .starting }.wr F.GLB_BOOT_STAT_STAGE 0 1).wrb F.UPD_STAT_CONFIRM_PENDING 0 (!r.confirmed)) :=
  (if_neg (not_not_intro rom)).trans (if_neg (by rw [← State.stageShown, s.recoveryCase_stageShown, starts]; exact Bool.false_ne_true))

/-! ### Memory, the power die's configuration, the Scroll (steps 8 to 13) -/

theorem trainedRate_some {d : DramTrain} (h : (d.at8533 || d.at7500 || d.at6400) = true) :
    trainedRate d = some (if d.at8533 then 8533 else if d.at7500 then 7500 else 6400) := by
  unfold trainedRate
  repeat' split
  all_goals simp_all

theorem trainedRate_none {d : DramTrain} (h : (d.at8533 || d.at7500 || d.at6400) = false) : trainedRate d = none := by
  simp only [Bool.or_eq_false_iff] at h
  simp [trainedRate, h]

theorem exec_dramTrained {s : State} (d : DramTrain) (stage : s.atStage 1 = true) : exec (.dramTrained d) s = .next (match trainedRate d with
    | some r => ((({ s with dramRate := r } : State).wr F.RSV_STAT_TRAINED 0 1).wr F.RSV_STAT_FOUND_MIB 0 d.mib.toNat).wr F.GLB_BOOT_STAT_STAGE 0 2
    | none => s.failStart 8) :=
  congrArg Host.Outcome.next (if_pos stage)

/-- The registers that a power-die configuration reaches (20 R395). -/
abbrev pdConfigFlds : List Fld :=
  [F.LC_GLB_STAT_CFG_VALID, F.LC_GLB_STAT_CFG_DEFERRED, F.LC_CH_SENSE_SHUNT_UOHM, F.LC_CH_BOARD_SC_DA, F.LC_CH_BOARD_I_RATED_MA,
   F.LC_CH_SENSE_OPEN_MA, F.LC_VLD_DIP_DIP_MV]

theorem State.applyPdConfig_leaves (s : State) (bs : List Byte) :
    (s.applyPdConfig bs).ferrule = s.ferrule ∧ RegsBut pdConfigFlds s (s.applyPdConfig bs) := by
  unfold State.applyPdConfig
  constructor
  · refine (foldl_leaves State.ferrule _ _ fun _ _ => ?_).trans (foldl_leaves State.ferrule _ _ fun _ _ => ?_)
    all_goals rfl
  · refine RegsBut.trans (RegsBut.trans ?_ (RegsBut.foldl _ _ fun t n => ?_)) (RegsBut.foldl _ _ fun t b => ?_)
    · exact RegsBut.wr (RegsBut.wr (RegsBut.of_regs rfl) F.LC_GLB_STAT_CFG_VALID 0 1 (by decide)) F.LC_GLB_STAT_CFG_DEFERRED 0 0 (by decide)
    · iterate 4 refine RegsBut.wr ?_ _ _ _ (by decide)
      exact RegsBut.refl
    · exact RegsBut.refl.wr F.LC_VLD_DIP_DIP_MV b _ (by decide)

theorem State.offerPdConfig_leaves (s : State) (bs : List Byte) :
    (s.offerPdConfig bs).ferrule = s.ferrule ∧ RegsBut pdConfigFlds s (s.offerPdConfig bs) := by
  unfold State.offerPdConfig
  split
  · exact ⟨rfl, RegsBut.refl⟩
  · split
    · exact s.applyPdConfig_leaves bs
    · exact ⟨rfl, RegsBut.wr (RegsBut.of_regs rfl) F.LC_GLB_STAT_CFG_DEFERRED 0 1 (by decide)⟩

/-- The channels are adopted, and the power die has been offered the configuration `cfg` (R65, R66). -/
def State.adopted (s : State) (cfg : List Byte) : State :=
  ((((s.wr F.GLB_BOOT_STAT_STAGE 0 3).ferruleInit).offerPdConfig cfg).wr F.GLB_BOOT_STAT_ADOPTED 0 1).wr F.GLB_BOOT_STAT_STAGE 0 4

theorem exec_powerDieConfigWrite {s : State} (ok : Bool) (stage : s.atStage 2 = true) : exec (.powerDieConfigWrite ok) s =
    if !(ok && (s.bank s.activeNo).partGood 2 && (s.bank s.activeNo).partGood 3 && (s.bank s.activeNo).partGood 6) then .next (s.failStart 9)
    else if !((s.bank s.activeNo).partGood 5 && pdConfigOk ((s.bank s.activeNo).part 5)) then .next ((s.wr F.GLB_BOOT_STAT_STAGE 0 3).failStart 10)
    else .next (s.adopted ((s.bank s.activeNo).part 5)) :=
  if_neg (by simp [stage])

theorem State.adopted_spec (s : State) (cfg : List Byte) : (s.adopted cfg).rd F.GLB_BOOT_STAT_STAGE 0 = 4
    ∧ (s.adopted cfg).rd F.GLB_BOOT_STAT_ADOPTED 0 = 1 ∧ (s.adopted cfg).linkUp = true ∧ ∀ n, (s.adopted cfg).lcState n = s.lcState n := by
  obtain ⟨link, -⟩ := (s.wr F.GLB_BOOT_STAT_STAGE 0 3).ferruleInit_link
  obtain ⟨-, -, -, absent⟩ := (s.wr F.GLB_BOOT_STAT_STAGE 0 3).ferruleInit_leaves
  obtain ⟨sameLink, offered⟩ := ((s.wr F.GLB_BOOT_STAT_STAGE 0 3).ferruleInit).offerPdConfig_leaves cfg
  unfold State.adopted State.lcState
  generalize ((s.wr F.GLB_BOOT_STAT_STAGE 0 3).ferruleInit).offerPdConfig cfg = t at sameLink offered ⊢
  refine ⟨State.rd_wr_same .., by simp [State.rd_wr_fld], ?_, fun n => ?_⟩
  · simp [State.linkUp, sameLink, link]
  · rw [State.rd_wr_fld _ _ _ _ _ _ (by decide), State.rd_wr_fld _ _ _ _ _ _ (by decide), offered _ _ (by decide), absent _ _ (by decide),
      State.rd_wr_fld _ _ _ _ _ _ (by decide)]

theorem exec_scrollLoad {s : State} (ok : Bool) (stage : s.atStage 5 = true) : exec (.scrollLoad ok) s =
    if !(ok && (s.bank s.activeNo).partGood 4 && nibImageOk ((s.bank s.activeNo).part 3)) then .next (s.failStart 12)
    else match scrollErr false ⟨s.rd F.RSV_STAT_FOUND_MIB 0, fieldAt ((s.bank s.activeNo).part 3) 4 2, []⟩ ((s.bank s.activeNo).part 4) with
      | some e => .next ((s.scrFail e).failStart 12)
      | none => match s.sigErr ((s.bank s.activeNo).part 4) (fieldAt ((s.bank s.activeNo).part 4) 80 4) with
        | some c => .next ((s.scrFail (errAll c)).failStart 12)
        | none => .next ((s.wr F.GLB_BOOT_STAT_STAGE 0 6).applyBase ((s.bank s.activeNo).part 4) ((s.bank s.activeNo).part 3)).stage7 :=
  if_neg (by simp [stage])

theorem State.stage7_spec (s : State) : s.stage7.phase = .running ∧ s.stage7.rd F.GLB_BOOT_STAT_STAGE 0 = 7
    ∧ s.stage7.rd F.GLB_RST_COUNT_COUNT 0 = 0 ∧ s.stage7.rd F.BLT_FLT_STAT_RAIL 0 = 0 := by
  refine ⟨rfl, ?_, ?_, ?_⟩ <;> simp [State.stage7, State.rd_wr_fld]

/-- A Scroll that fails its checks has left its code, and the start fails (R62). -/
theorem State.scrFail_fails (s : State) (e : ScrErr) : s.FailedWith 12 ((s.scrFail e).failStart 12) := by
  refine ((s.scrFail e).failStart_fails (by decide)).of_later rfl fun f hf => ?_
  simp only [tombFlds, List.mem_cons, List.not_mem_nil, or_false] at hf
  rcases hf with rfl | rfl | rfl <;> simp [State.scrFail, State.rd_wr_fld]

end Sys2Proof.Machine
end

section
/-! SUPPORT. The statement about the main die's start. -/
namespace Sys2Proof
open Sys2Proof.Machine

/-- Settles O17: each command is one check (its equation), a failed one is `FailedWith`, and a passed one's state is named. -/
theorem mainDieStartStages : Obligations.MainDieStartStages := by
  unfold Obligations.MainDieStartStages
  intro failed s ok d
  have fails {u t : State} {c : Nat} (h : u.FailedWith c t) : failed u c t := by
    obtain ⟨phase, shown, pair, tomb⟩ := h
    exact ⟨phase, shown, pair, tomb⟩
  have watched (u : State) : failed u 7 (u.wdogLoad.failStart 7) :=
    fails ((u.wdogLoad.failStart_fails (by decide)).of_later rfl fun _ _ => rfl)
  have passes {b : Bool} (h : ¬b = false) : ¬(!b) = true := by simpa using h
  refine ⟨fun released => ?_, fun rom => ⟨fun recovers => ?_, fun starts absent => ?_, fun starts k r inForce => ⟨fun good => ?_, fun bad => ?_⟩⟩,
    fun stage => ⟨fun trains => ?_, fun fails8 => ?_⟩, fun stage => ⟨fun nine => ?_, fun notNine ten => ?_, fun notNine notTen => ?_⟩,
    fun stage => ?_, fun stage => ⟨fun good => ?_, fun bad => ?_⟩⟩
  · have rtc : s.romStarted.rd F.AOC_RTC_SEC 0 = s.rd F.AOC_RTC_SEC 0 := State.rd_wr_fld _ F.GLB_BOOT_STAT_MAINT_STRAP _ _ _ _ (by decide)
    obtain ⟨phase, mtime, sec, ns, core⟩ := s.romStarted_seeded (s.romStarted.rd F.AOC_RTC_SEC 0) _ (State.bltCopyPlog_leaves _)
    exact ⟨_, exec_rootPllLock released, phase, mtime, sec.trans (by rw [rtc]), ns, core⟩
  · obtain ⟨phase, pair, -, -⟩ := s.stageShown.enterRecovery_spec
    exact ⟨_, exec_secondStageStart_recovery ok rom recovers, phase, pair⟩
  · have checked := exec_secondStageStart ok rom starts
    rw [State.stageShown, absent] at checked
    exact ⟨_, checked, watched _⟩
  · have checked := exec_secondStageStart ok rom starts
    rw [State.stageShown, inForce] at checked
    refine ⟨_, checked.trans (if_neg (by rw [good]; exact Bool.false_ne_true)), rfl, ?_, ?_⟩
    · simp [State.wrb_eq_wr, State.rd_wr_fld]
    · rw [State.wrb_eq_wr, State.rd_wr_same]
      cases r.confirmed <;> rfl
  · have checked := exec_secondStageStart ok rom starts
    rw [State.stageShown, inForce] at checked
    exact ⟨_, checked.trans (if_pos (by rw [bad]; rfl)), watched _⟩
  · refine ⟨_, (exec_dramTrained d stage).trans (by rw [trainedRate_some trains]), ?_, ?_, rfl, State.rd_wr_same ..⟩
    · simp [State.rd_wr_fld]
    · rw [State.rd_wr_fld _ _ _ _ _ _ (by decide), State.rd_wr_same, Nat.mod_eq_of_lt d.mib.isLt]
  · exact ⟨_, (exec_dramTrained d stage).trans (by rw [trainedRate_none fails8]), fails (s.failStart_fails (by decide))⟩
  · exact ⟨_, (exec_powerDieConfigWrite ok stage).trans (if_pos (by rw [nine]; rfl)), fails (s.failStart_fails (by decide))⟩
  · refine ⟨_, ((exec_powerDieConfigWrite ok stage).trans (if_neg (passes notNine))).trans (if_pos (by rw [ten]; rfl)), fails ?_⟩
    refine (State.failStart_fails _ (by decide)).of_later rfl fun f hf => ?_
    simp only [tombFlds, List.mem_cons, List.not_mem_nil, or_false] at hf
    rcases hf with rfl | rfl | rfl <;> simp [State.rd_wr_fld]
  · exact ⟨_, ((exec_powerDieConfigWrite ok stage).trans (if_neg (passes notNine))).trans (if_neg (passes notTen)), s.adopted_spec _⟩
  · exact ⟨_, congrArg Host.Outcome.next (if_pos stage), State.rd_wr_same ..⟩
  · obtain ⟨read, digest, image, scroll, signed⟩ := good
    have applied := (exec_scrollLoad ok stage).trans (if_neg (by simp [read, digest, image]))
    rw [scroll, signed] at applied
    exact ⟨_, applied, State.stage7_spec _⟩
  · rw [Does, exec_scrollLoad ok stage]
    split
    · exact ⟨_, rfl, fails (s.failStart_fails (by decide))⟩
    · next sound =>
      split
      · next e _ => exact ⟨_, rfl, fails (s.scrFail_fails e)⟩
      · next checked =>
        split
        · next c _ => exact ⟨_, rfl, fails (s.scrFail_fails (errAll c))⟩
        · next signed =>
          refine absurd ?_ bad
          simp only [Bool.not_eq_true', Bool.not_eq_false, Bool.and_eq_true] at sound
          exact ⟨sound.1.1, sound.1.2, sound.2, checked, signed⟩

end Sys2Proof
end

section
/-! SUPPORT. Byte strings and random bytes: their lengths, and the round trip of big-endian numbers. -/
namespace Sys2Proof.Machine

@[simp] theorem length_beBytes (n v : Nat) : (beBytes n v).length = n := by
  induction n generalizing v with
  | zero => rfl
  | succ n ih => simp [beBytes, ih]

/-- A number of four bytes is spelled by those four bytes. -/
theorem beBytes_beNat_four {l : List Byte} (four : l.length = 4) : beBytes 4 (beNat l % 2 ^ 32) = l := by
  obtain ⟨a, b, c, d, rfl⟩ := List.length_eq_four.mp four
  have bounds := And.intro a.isLt (And.intro b.isLt (And.intro c.isLt d.isLt))
  simp only [beNat, List.foldl, beBytes, List.cons.injEq, and_true]
  refine ⟨?_, ?_, ?_, ?_⟩ <;> apply BitVec.eq_of_toNat_eq <;> rw [BitVec.toNat_ofNat] <;> omega

@[simp] theorem length_fit (n : Nat) (l : List Byte) : (fit n l).length = n := by simp [fit]

@[simp] theorem length_drbgStream (key : List Byte) (v n : Nat) : (drbgStream key v n).length = 16 * n := by
  induction n generalizing v with
  | zero => rfl
  | succ n ih => rw [drbgStream, List.length_append, ih, length_beBytes]; omega

theorem Drbg.length_request (d : Drbg) (n : Nat) : (d.request n).2.length = n := by
  simp only [Drbg.request, List.length_take, length_drbgStream]; omega

theorem State.length_random (s : State) (n : Nat) : (s.random n).2.length = n := by
  unfold State.random
  split
  · exact length_fit n []
  · dsimp only
    split
    · exact Drbg.length_request _ n
    · exact length_fit n []

/-- Sixteen bytes are their four words in order. -/
theorem flatMap_words_eq {r : List Byte} (len : r.length = 16) :
    (List.range 4).flatMap (fun n => (r.drop (4 * n)).take 4) = r := by
  have word (n : Nat) : r.drop (4 * n) = (r.drop (4 * n)).take 4 ++ r.drop (4 * (n + 1)) := by
    rw [show 4 * (n + 1) = 4 * n + 4 by omega, ← List.drop_drop, List.take_append_drop]
  have rest : r.drop (4 * 4) = [] := List.drop_eq_nil_of_le (by omega)
  calc (List.range 4).flatMap (fun n => (r.drop (4 * n)).take 4)
      = (r.drop (4 * 0)).take 4 ++ ((r.drop (4 * 1)).take 4 ++ ((r.drop (4 * 2)).take 4 ++ ((r.drop (4 * 3)).take 4 ++ []))) := rfl
    _ = r.drop (4 * 0) := by rw [← rest, ← word 3, ← word 2, ← word 1, ← word 0]
    _ = r := List.drop_zero

end Sys2Proof.Machine
end

section
/-! SUPPORT. The update commands that the UART gives: what a refusal and an end show, and the nonce of a CHALLENGE. -/
namespace Sys2Proof.Machine

theorem State.rd_updRefuse_lastErr (s : State) (code : Nat) : (s.updRefuse code).rd F.UPD_STAT_LAST_ERR 0 = code % 2 ^ 8 :=
  (State.rd_wr_fld _ F.UPD_STAT_REFUSED_EVT F.UPD_STAT_LAST_ERR 0 0 1 (by decide)).trans (s.rd_wr_same F.UPD_STAT_LAST_ERR 0 code)

theorem State.rd_updDone_lastErr (s : State) : s.updDone.rd F.UPD_STAT_LAST_ERR 0 = 0 :=
  (State.rd_wr_fld _ F.UPD_STAT_DONE_EVT F.UPD_STAT_LAST_ERR 0 0 1 (by decide)).trans (s.rd_wr_same F.UPD_STAT_LAST_ERR 0 0)

/-- A refusal shows its code and event and no more. -/
theorem State.updRefuse_regsBut (s : State) (code : Nat) : RegsBut [F.UPD_STAT_LAST_ERR, F.UPD_STAT_REFUSED_EVT] s (s.updRefuse code) := by
  iterate 2 refine RegsBut.wr ?_ _ _ _ (by decide)
  exact .refl

theorem State.updDone_regsBut (s : State) : RegsBut [F.UPD_STAT_LAST_ERR, F.UPD_STAT_DONE_EVT] s s.updDone := by
  iterate 2 refine RegsBut.wr ?_ _ _ _ (by decide)
  exact .refl

/-- The nonce registers take four words of `r`. -/
def State.nonceSet (s : State) (r : List Byte) : State :=
  (List.range 4).foldl (fun (t : State) n => t.wr F.UPD_NONCE_BYTES n (beNat ((r.drop (4 * n)).take 4))) s

theorem State.rd_nonceSet (s : State) (r : List Byte) {n : Nat} (place : n < 4) :
    (s.nonceSet r).rd F.UPD_NONCE_BYTES n = beNat ((r.drop (4 * n)).take 4) % 2 ^ 32 := by
  refine foldl_reaches _ (fun t k => t.rd F.UPD_NONCE_BYTES k = beNat ((r.drop (4 * k)).take 4) % 2 ^ 32)
    (fun t k => t.rd_wr_same F.UPD_NONCE_BYTES k _) (fun t j k held => ?_) _ s n (List.mem_range.mpr place)
  by_cases same : k = j
  · exact same ▸ t.rd_wr_same F.UPD_NONCE_BYTES k _
  · exact (t.rd_wr_elem F.UPD_NONCE_BYTES F.UPD_NONCE_BYTES j k _ same).trans held

/-- Sixteen bytes in the nonce registers are the nonce in force. -/
theorem State.nonce_nonceSet (s : State) {r : List Byte} (len : r.length = 16) : (s.nonceSet r).nonce = r := by
  refine Eq.trans (List.flatMap_congr fun n hn => ?_) (flatMap_words_eq len)
  have place := List.mem_range.mp hn
  rw [s.rd_nonceSet r place]
  refine beBytes_beNat_four ?_
  rw [List.length_take, List.length_drop, len]; omega

theorem State.nonce_congr {s t : State} (same : ∀ n, t.rd F.UPD_NONCE_BYTES n = s.rd F.UPD_NONCE_BYTES n) : t.nonce = s.nonce := by
  simp only [State.nonce, same]

/-- A CHALLENGE draws a nonce of sixteen bytes and ends any authorisation. -/
theorem State.updChallenge_spec {s : State} (runs : s.trngFail = false) :
    s.updChallenge.rd F.UPD_STAT_AUTHED 0 = 0 ∧ s.updChallenge.nonce = (s.random 16).2 := by
  have eq : s.updChallenge = (((s.random 16).1.nonceSet (s.random 16).2).wr F.UPD_STAT_AUTHED 0 0).updDone :=
    if_neg (by rw [runs]; exact Bool.false_ne_true)
  have drawn : ((s.random 16).1.nonceSet (s.random 16).2).nonce = (s.random 16).2 := State.nonce_nonceSet _ (s.length_random 16)
  rw [eq]
  generalize (s.random 16).1.nonceSet (s.random 16).2 = u at drawn ⊢
  refine ⟨?_, (State.nonce_congr fun n => ?_).trans drawn⟩
  · exact ((u.wr F.UPD_STAT_AUTHED 0 0).updDone_regsBut F.UPD_STAT_AUTHED 0 (by decide)).trans (u.rd_wr_same F.UPD_STAT_AUTHED 0 0)
  · exact ((u.wr F.UPD_STAT_AUTHED 0 0).updDone_regsBut F.UPD_NONCE_BYTES n (by decide)).trans
      (u.rd_wr_fld F.UPD_STAT_AUTHED F.UPD_NONCE_BYTES 0 n 0 (by decide))

/-- A CHALLENGE without random bits ends no authorisation. -/
theorem State.rd_authed_of_stopped {s : State} (stopped : s.trngFail = true) :
    s.updChallenge.rd F.UPD_STAT_AUTHED 0 = s.rd F.UPD_STAT_AUTHED 0 := by
  have eq : s.updChallenge = s.updRefuse 0x0F := if_pos stopped
  rw [eq]
  exact s.updRefuse_regsBut 0x0F F.UPD_STAT_AUTHED 0 (by decide)

/-- SHEET leaves the sheet buffer that it programs. -/
theorem State.updSheet_sheetBuf (s : State) (i : Nat) (ok : Bool) : (s.updSheet i ok).sheetBuf = s.sheetBuf := by
  dsimp only [State.updSheet]
  split_ifs <;> rfl

/-! ### Frames of the UART -/

section
variable {c : Instr} {s : State} {typ : Nat} {p : List Byte} {crc : Nat} {r428 : Bool} {act : State → State}
  (takes : exec c s = .next (s.uartTake typ p crc r428 act))
include takes

theorem exec_frame_outside (outside : s.phase ≠ .recovery) : exec c s = .next s :=
  takes.trans (congrArg Host.Outcome.next (if_pos outside))

theorem exec_frame_damaged (recovery : s.phase = .recovery) (damaged : crc ≠ uartCrc typ p) :
    ∃ rest reply, exec c s = .next { s with upd := { s.upd with reply := reply } } ∧ reply = uartFrame 0x80 (beBytes 1 1 ++ rest) :=
  ⟨_, _, takes.trans (congrArg Host.Outcome.next ((if_neg (not_not_intro recovery)).trans (if_pos damaged))), rfl⟩

theorem exec_frame_good (recovery : s.phase = .recovery) (good : crc = uartCrc typ p) : exec c s = .next (act s) :=
  takes.trans (congrArg Host.Outcome.next ((if_neg (not_not_intro recovery)).trans (if_neg (not_not_intro good))))

end

theorem State.updBarred_of_recovery {s : State} (recovery : s.phase = .recovery) : s.updBarred = !s.on F.UPD_STAT_AUTHED 0 := by
  rw [State.updBarred, recovery]; rfl

/-- A frame that lacks the authorisation it needs is answered 0x02 (R427). -/
theorem State.uartAuthed_barred {s : State} (barred : s.updBarred = true) (act : State → State) :
    s.uartAuthed act = (s.updRefuse 0x0E).uartReply 0x02 (beBytes 1 0x0E) := by
  rw [State.uartAuthed, if_pos barred, State.uartResult, State.rd_updRefuse_lastErr]
  rfl

theorem State.uartAuthed_free {s : State} (free : s.updBarred = false) (act : State → State) : s.uartAuthed act = act s :=
  if_neg (by rw [free]; exact Bool.false_ne_true)

/-- What a frame without the authorisation it needs leaves alone, and its answer. -/
def State.Answered2 (s t : State) : Prop :=
  t.flash = s.flash ∧ t.manWin = s.manWin ∧ t.sheetBuf = s.sheetBuf ∧ t.upd.rate = s.upd.rate
    ∧ ∃ rest, t.upd.reply = uartFrame 0x80 (beBytes 1 2 ++ rest)

theorem State.answered2_of_barred {s : State} (barred : s.updBarred = true) (act : State → State) : s.Answered2 (s.uartAuthed act) := by
  rw [State.uartAuthed_barred barred]
  exact ⟨rfl, rfl, rfl, rfl, _, rfl⟩

/-- The second byte that a REPLY of R428 carries is LAST_ERR. -/
theorem State.uartResult_lastErr (s : State) :
    s.uartResult.upd.reply.getD 5 0 = BitVec.ofNat 8 (s.uartResult.rd F.UPD_STAT_LAST_ERR 0) := by
  have read : s.uartResult.rd F.UPD_STAT_LAST_ERR 0 = s.rd F.UPD_STAT_LAST_ERR 0 := rfl
  rw [read]
  simp [State.uartResult, State.uartReply, uartFrame, beBytes]

end Sys2Proof.Machine
end

section
/-! SUPPORT. The statement about the maintenance UART. -/
namespace Sys2Proof
open Sys2Proof.Machine

/-- Settles O59: `State.uartTake` decides by the mode and the CRC, `State.uartAuthed` by the authorisation, and the rest is what each
frame's act does. -/
theorem maintenanceUartAnswersFrames : Obligations.MaintenanceUartAnswersFrames := by
  unfold Obligations.MaintenanceUartAnswersFrames
  intro s p crc bad ok
  refine ⟨fun outside => ?_, fun recovery => ⟨?_, ?_, ?_, ?_, fun unauthed => ?_, ?_, fun authed => ⟨?_, ?_, ?_, ?_⟩⟩⟩
  case refine_1 =>
    simp only [List.forall_mem_cons, List.not_mem_nil, false_implies, implies_true, and_true]
    refine ⟨?_, ?_, ?_, ?_, ?_, ?_, ?_⟩ <;> exact exec_frame_outside rfl outside
  · simp only [List.forall_mem_cons, List.not_mem_nil, false_implies, implies_true, and_true]
    refine ⟨?_, ?_, ?_, ?_, ?_, ?_, ?_⟩ <;> exact exec_frame_damaged rfl recovery
  · exact fun good => ⟨_, exec_frame_good rfl recovery good, rfl, rfl⟩
  · intro good draws
    have runs := exec_frame_good (c := .uartChallenge p crc) (s := s) rfl recovery good
    rw [draws] at runs
    obtain ⟨ended, nonce⟩ := State.updChallenge_spec draws
    exact ⟨_, runs, ended, nonce, rfl⟩
  · intro good stopped
    have runs := exec_frame_good (c := .uartChallenge p crc) (s := s) rfl recovery good
    rw [stopped] at runs
    exact ⟨_, runs, State.rd_authed_of_stopped stopped, congrArg (uartFrame 0x80) (List.append_nil (beBytes 1 3))⟩
  · have barred : s.updBarred = true := by rw [State.updBarred_of_recovery recovery, unauthed]; rfl
    simp only [List.forall_mem_cons, List.not_mem_nil, false_implies, implies_true, and_true]
    refine ⟨?_, ?_, ?_, ?_⟩ <;> intro good <;> refine ⟨_, exec_frame_good rfl recovery good, ?_⟩
    case refine_4 => rw [if_pos barred]; exact ⟨rfl, rfl, rfl, rfl, _, rfl⟩
    all_goals exact State.answered2_of_barred barred _
  · intro good len
    have runs := exec_frame_good (c := .uartAuth p crc) (s := s) rfl recovery good
    exact ⟨_, runs.trans (congrArg Host.Outcome.next (if_neg (not_not_intro len))), rfl, State.uartResult_lastErr (s.updAuth p)⟩
  all_goals have free : s.updBarred = false := by rw [State.updBarred_of_recovery recovery, authed]; rfl
  · intro good least most total inside
    have runs := exec_frame_good (c := .uartManifest p crc ok) (s := s) rfl recovery good
    refine ⟨_, runs.trans (congrArg Host.Outcome.next ((State.uartAuthed_free free _).trans ((if_neg ?_).trans (if_neg inside.ne)))),
      rfl, State.rd_updDone_lastErr _⟩
    omega
  · intro good len
    have runs := exec_frame_good (c := .uartSheet p crc ok) (s := s) rfl recovery good
    exact ⟨_, runs.trans (congrArg Host.Outcome.next ((State.uartAuthed_free free _).trans (if_neg (not_not_intro len)))),
      State.updSheet_sheetBuf _ _ ok⟩
  · intro good
    have runs := exec_frame_good (c := .uartCommit [0] crc bad ok) (s := s) rfl recovery good
    have shown : (s.wr F.UPD_STAT_LAST_ERR 0 0).on F.UPD_STAT_LAST_ERR 0 = false := by simp [State.on]
    have bit0 : (([0] : List Byte).getD 0 0).toNat.testBit 0 = false := by decide
    have bit1 : (([0] : List Byte).getD 0 0).toNat.testBit 1 = false := by decide
    rw [State.uartAuthed_free free] at runs
    simp only [bit0, bit1, shown, Bool.and_false, Bool.false_eq_true, if_false, List.length_singleton, ne_eq, not_true] at runs
    exact ⟨_, runs, rfl⟩
  · intro good len rate
    have runs := exec_frame_good (c := .uartSetRate p crc) (s := s) rfl recovery good
    rw [free] at runs
    exact ⟨_, runs.trans (congrArg Host.Outcome.next (if_neg (not_or.mpr ⟨not_not_intro len, not_not_intro rate⟩))), rfl, rfl⟩

end Sys2Proof
end

section
/-! SUPPORT. Taper (spec 04 R92 to R96): which registers its operations may change, and what they leave of the port and its line. -/
namespace Sys2Proof.Machine

/-- The registers that show the state of Taper (04 R96). -/
abbrev taperFlds : List Fld := [F.ETH_TAPER_STAT_STATE, F.ETH_STAT_RETRAIN]

/-- The OP of the last frame that port `p` put on its line (04 R95). -/
def State.sentOp (s : State) (p : Nat) : Byte := (s.lastTx.get [] p).getD 15 0

section
variable (s : State) (p : Nat)

theorem State.regs_setPort (x : EthPort) : (s.setPort p x).regs = s.regs := rfl

/-! ### Frames -/

@[simp] theorem State.lastTx_send_same (bs : List Byte) : (s.send p bs).lastTx.get [] p = bs := Tbl.get_set_same ..

theorem State.taperFrame_op (op : Nat) (sr : Byte × Byte × Byte) (flags reason : Nat) :
    (s.taperFrame p op sr flags reason).getD 15 0 = BitVec.ofNat 8 op := by
  simp [State.taperFrame, beBytes]

theorem State.sentOp_taperSend (op seq rate flags reason : Nat) :
    (s.taperSend p op seq rate flags reason).sentOp p = BitVec.ofNat 8 op := by
  rw [State.sentOp, State.taperSend, State.lastTx_send_same, State.taperFrame_op]

@[simp] theorem State.rd_taperSend (op seq rate flags reason : Nat) (f : Fld) (i : Nat) :
    (s.taperSend p op seq rate flags reason).rd f i = s.rd f i := rfl

@[simp] theorem State.port_taperSend (op seq rate flags reason q : Nat) : (s.taperSend p op seq rate flags reason).port q = s.port q := rfl

/-! ### States (R96) -/

theorem State.taperTo_regsBut (st : Nat) : RegsBut taperFlds s (s.taperTo p st) :=
  have shown := (RegsBut.refl.wr (s := s) F.ETH_TAPER_STAT_STATE p st (by decide)).wr F.ETH_STAT_RETRAIN p (b2n (decide (3 ≤ st))) (by decide)
  RegsBut.ite (shown.trans (RegsBut.of_regs rfl)) shown

/-- Withdrawn transmissions change no register. -/
theorem State.rd_taperTo (st : Nat) (f : Fld) (i : Nat) :
    (s.taperTo p st).rd f i = ((s.wr F.ETH_TAPER_STAT_STATE p st).wr F.ETH_STAT_RETRAIN p (b2n (decide (3 ≤ st)))).rd f i := by
  unfold State.taperTo
  split <;> rfl

@[simp] theorem State.rd_taperTo_state (st : Nat) : (s.taperTo p st).rd F.ETH_TAPER_STAT_STATE p = st % 8 := by
  rw [State.rd_taperTo, State.rd_wr_fld _ _ _ _ _ _ (by decide)]
  exact State.rd_wr_same ..

@[simp] theorem State.rd_taperTo_retrain (st : Nat) : (s.taperTo p st).rd F.ETH_STAT_RETRAIN p = b2n (decide (3 ≤ st)) := by
  rw [State.rd_taperTo, State.rd_wr_same]
  cases decide (3 ≤ st) <;> rfl

@[simp] theorem State.port_taperTo (st q : Nat) : (s.taperTo p st).port q = s.port q := by
  unfold State.taperTo
  split <;> rfl

@[simp] theorem State.lastTx_taperTo (st : Nat) : (s.taperTo p st).lastTx = s.lastTx := by
  unfold State.taperTo
  split <;> rfl

theorem State.taperIdle_regsBut : RegsBut taperFlds s (s.taperIdle p) :=
  (RegsBut.of_regs (t := s.setPort p { s.port p with lows := 0, lastLow := false }) rfl).trans (State.taperTo_regsBut _ p _)

/-- The idle states are SUSPENDED and MONITOR. -/
theorem State.rd_taperIdle_state : (s.taperIdle p).rd F.ETH_TAPER_STAT_STATE p ≤ 1 := by
  rw [State.taperIdle, State.rd_taperTo_state]
  split <;> decide

theorem State.sentOp_taperIdle : (s.taperIdle p).sentOp p = s.sentOp p := by
  rw [State.sentOp, State.taperIdle, State.lastTx_taperTo]; rfl

@[simp] theorem State.port_taperIdle : (s.taperIdle p).port p = { s.port p with lows := 0, lastLow := false } := by
  rw [State.taperIdle, State.port_taperTo, State.port_setPort_same]

/-! ### Proposals -/

theorem State.propose_regsBut (rate flags : Nat) : RegsBut taperFlds s (s.propose p rate flags) :=
  have state := State.taperTo_regsBut
    (s.setPort p { s.port p with seq := ((s.port p).seq + 1) % 2 ^ 16, propRate := rate, propFlags := flags, resends := 0 }) p 2
  (RegsBut.of_regs rfl).trans (state.trans (RegsBut.of_regs rfl))

/-- A proposal enters PROPOSED with its rate, and PROPOSE is on the line. -/
theorem State.propose_spec (rate flags : Nat) :
    (s.propose p rate flags).rd F.ETH_TAPER_STAT_STATE p = 2 ∧ ((s.propose p rate flags).port p).propRate = rate
      ∧ (s.propose p rate flags).sentOp p = 1 :=
  ⟨State.rd_taperTo_state .., by simp [State.propose], State.sentOp_taperSend ..⟩

theorem State.taperService_regsBut : RegsBut taperFlds s (s.taperService p) := by
  unfold State.taperService
  extract_lets st t st'
  have idle : RegsBut taperFlds s t := (s.taperIdle_regsBut p).ite RegsBut.refl
  clear_value t
  have proposed (u : State) (same : u.regs = t.regs) (rate flags : Nat) : RegsBut taperFlds s (u.propose p rate flags) :=
    (idle.trans (RegsBut.of_regs same)).trans (u.propose_regsBut p rate flags)
  split
  · exact RegsBut.refl
  · refine idle.ite (RegsBut.ite ?_ (RegsBut.ite ?_ (RegsBut.ite ?_ idle)))
    · exact proposed _ (State.regs_setPort ..) _ _
    · exact proposed t rfl _ _
    · exact proposed t rfl _ _

theorem State.taperSuspend_regsBut : RegsBut taperFlds s (s.taperSuspend p) :=
  RegsBut.refl.ite ((RegsBut.of_regs (t := s.setPort p { s.port p with lows := 0, lastLow := false }) rfl).trans (State.taperTo_regsBut _ p _))

end
end Sys2Proof.Machine
end

section
/-! SUPPORT. Peers and HELLO (spec 04 R85), and the answers of Taper to windows and frames (R93 to R96). -/
namespace Sys2Proof.Machine

section
variable (s : State) (p : Nat)

/-! ### Frames for the MAC of a port (R98) -/

/-- On a port that does not sleep the frame acts. -/
theorem State.macFrame_live {s t : State} {p : Nat} {act : State → State} (live : s.portLive p = true) (acts : act s = t) :
    (.next (s.macFrame p act) : Out) = .next t := by
  rw [State.macFrame, if_pos live, acts]

theorem State.macFrame_asleep {s : State} {p : Nat} {act : State → State} (asleep : s.portLive p = false) (link : s.on F.ETH_STAT_LINK p = true) :
    (.next (s.macFrame p act) : Out) = .next (s.ethCnt p 15) := by
  rw [State.macFrame, if_neg (Bool.eq_false_iff.mp asleep), if_pos link]

theorem State.ethCnt_regsBut (k : Nat) : RegsBut [F.ETH_CNT_COUNT] s (s.ethCnt p k) := RegsBut.refl.wr _ _ _ (by decide)

theorem State.rd_ethCnt (k : Nat) :
    (s.ethCnt p k).rd F.ETH_CNT_COUNT (29 * p + k) = (s.rd F.ETH_CNT_COUNT (29 * p + k) + 1) % 2 ^ F.ETH_CNT_COUNT.width := s.rd_bump ..

/-! ### Peers (R85) -/

theorem State.setPeer_regsBut (b : Bool) : RegsBut [F.ETH_STAT_PEER, F.ETH_STAT_PEER_CHG] s (s.setPeer p b) :=
  RegsBut.refl.ite ((RegsBut.refl.wr F.ETH_STAT_PEER p _ (by decide)).wr F.ETH_STAT_PEER_CHG p 1 (by decide))

theorem State.rd_peer_lost : (s.setPeer p false).rd F.ETH_STAT_PEER p = 0 := by
  unfold State.setPeer
  split
  · next same => simpa [State.on] using same
  · rw [State.evt_eq_wr, State.rd_wr_fld _ _ _ _ _ _ (by decide), State.wrb_eq_wr, State.rd_wr_same]; rfl

theorem State.rd_peer_made : (s.setPeer p true).rd F.ETH_STAT_PEER p = if s.on F.ETH_STAT_PEER p then s.rd F.ETH_STAT_PEER p else 1 := by
  unfold State.setPeer
  split
  · rfl
  · rw [State.evt_eq_wr, State.rd_wr_fld _ _ _ _ _ _ (by decide), State.wrb_eq_wr, State.rd_wr_same]; rfl

theorem State.rd_peer_peerLost : (s.peerLost p).rd F.ETH_STAT_PEER p = 0 :=
  (State.taperSuspend_regsBut _ p _ _ (by decide)).trans (s.rd_peer_lost p)

theorem State.rd_state_taperSuspend (other : s.rd F.ETH_TAPER_STAT_STATE p ≠ 4) : (s.taperSuspend p).rd F.ETH_TAPER_STAT_STATE p = 0 := by
  rw [State.taperSuspend, if_neg other, State.rd_taperTo_state]

/-- A HELLO is the last frame on the line, and no register changes. -/
theorem State.helloSend_spec (trunk : p < 8) (mode : s.rd F.ETH_MODE_MODE p = 1) (heard : s.on F.ETH_CTL_PEER_OFF p = false)
    (link : s.on F.ETH_STAT_LINK p = true) (live : s.portLive p = true) : (s.helloSend p).sentOp p = 5 ∧ RegsBut [] s (s.helloSend p) := by
  rw [State.helloSend, if_pos ⟨trunk, mode, heard, link, live⟩]
  exact ⟨(congrArg (fun bs => bs.getD 15 0) (State.lastTx_send_same ..)).trans (State.taperFrame_op ..), RegsBut.of_regs rfl⟩

theorem State.rd_peer_helloRx {dev : Nat} (trunk : p < 8) (mode : s.rd F.ETH_MODE_MODE p = 1) (heard : s.on F.ETH_CTL_PEER_OFF p = false)
    (link : s.on F.ETH_STAT_LINK p = true) (vangino : dev / 65536 = 0x5647) :
    (s.helloRx p dev).rd F.ETH_STAT_PEER p = if s.on F.ETH_STAT_PEER p then s.rd F.ETH_STAT_PEER p else 1 := by
  rw [State.helloRx, if_pos ⟨trunk, mode, heard, link, vangino⟩]
  exact (State.taperService_regsBut _ p _ _ (by decide)).trans (s.rd_peer_made p)

theorem State.helloRx_other {dev : Nat} (other : dev / 65536 ≠ 0x5647) : s.helloRx p dev = s :=
  if_neg fun ⟨_, _, _, _, vangino⟩ => other vangino

/-! ### Utilisation windows (R93) -/

/-- A window in which the busier direction carried `n` bits is below DOWN_PCT; above UP_PCT. -/
def State.windowLow (s : State) (p n : Nat) : Bool :=
  decide (n * 100 < s.rd F.ETH_TAPER_THR_DOWN_PCT p * 25000 * max 100 (s.rd F.ETH_TAPER_THR_WIN_US p))
def State.windowHigh (s : State) (p n : Nat) : Bool :=
  decide (s.rd F.ETH_TAPER_THR_UP_PCT p * 10000 * max 100 (s.rd F.ETH_TAPER_THR_WIN_US p) < n * 100)

/-- The dwell time after the port's last change of rate has passed. -/
def State.dwelt (s : State) (p : Nat) : Bool :=
  match (s.port p).dwell with
  | some d => decide (d + s.rd F.ETH_TAPER_DWELL_DWELL_MS p * ticksMs ≤ s.now)
  | none => true

/-- Consecutive low windows, with one that has just ended. -/
def State.lowsAfter (s : State) (p : Nat) (low : Bool) : Nat := if low then (s.port p).lows + 1 else 0

/-- The state after a window that was low, or was not, has been counted. -/
def State.windowCounted (s : State) (p : Nat) (low : Bool) : State := s.setPort p { s.port p with lows := s.lowsAfter p low, lastLow := low }

end

/-- What the end of a window does in MONITOR while the loop runs. -/
theorem exec_taperWindowEnd {s : State} {p : Fin 8} {tx rx : Nat} (monitor : s.rd F.ETH_TAPER_STAT_STATE p = 1) (loop : s.taperLoop p = true) :
    exec (.taperWindowEnd p tx rx) s = .next
      (let low := s.windowLow p (max tx rx)
      let t := s.windowCounted p low
      if s.rd F.ETH_TAPER_STAT_RATE p = 2 then
        (if max 1 (s.rd F.ETH_TAPER_THR_DOWN_HOLD p) ≤ s.lowsAfter p low ∧ s.dwelt p = true
            ∧ s.rd F.ETH_TAPER_CTL_TAPER_FLOOR p = 1 ∧ s.slopesOver p = false then t.propose p 1 0 else t)
      else if s.windowHigh p (max tx rx) ∧ s.rd F.ETH_TAPER_CTL_TAPER_CEIL p = 2 then t.propose p 2 0
      else t.taperService p) := if_pos ⟨monitor, loop⟩

section
variable {s : State} {p : Fin 8} {tx rx : Nat}

/-- After enough low windows and dwell, 10G is proposed where R92 and R94 allow it. -/
theorem exec_taperWindowEnd_slower (monitor : s.rd F.ETH_TAPER_STAT_STATE p = 1) (loop : s.taperLoop p = true)
    (fast : s.rd F.ETH_TAPER_STAT_RATE p = 2) (low : s.windowLow p (max tx rx) = true)
    (lows : max 1 (s.rd F.ETH_TAPER_THR_DOWN_HOLD p) ≤ (s.port p).lows + 1) (dwelt : s.dwelt p = true)
    (floors : s.rd F.ETH_TAPER_CTL_TAPER_FLOOR p = 1) (slopes : s.slopesOver p = false) :
    exec (.taperWindowEnd p tx rx) s = .next ((s.windowCounted p true).propose p 1 0) := by
  have ends := exec_taperWindowEnd (tx := tx) (rx := rx) monitor loop
  simp only [low] at ends
  rwa [if_pos fast, if_pos ⟨lows, dwelt, floors, slopes⟩] at ends

/-- A window at 25G that is not low ends the run of low ones. -/
theorem exec_taperWindowEnd_busy (monitor : s.rd F.ETH_TAPER_STAT_STATE p = 1) (loop : s.taperLoop p = true)
    (fast : s.rd F.ETH_TAPER_STAT_RATE p = 2) (busy : s.windowLow p (max tx rx) = false) :
    exec (.taperWindowEnd p tx rx) s = .next (s.windowCounted p false) := by
  have ends := exec_taperWindowEnd (tx := tx) (rx := rx) monitor loop
  simp only [busy] at ends
  rwa [if_pos fast, if_neg fun ⟨few, _⟩ => absurd few (by simp [State.lowsAfter])] at ends

/-- After a high window at 10G, 25G is proposed. -/
theorem exec_taperWindowEnd_faster (monitor : s.rd F.ETH_TAPER_STAT_STATE p = 1) (loop : s.taperLoop p = true)
    (slow : s.rd F.ETH_TAPER_STAT_RATE p = 1) (high : s.windowHigh p (max tx rx) = true) (ceils : s.rd F.ETH_TAPER_CTL_TAPER_CEIL p = 2) :
    exec (.taperWindowEnd p tx rx) s = .next ((s.windowCounted p (s.windowLow p (max tx rx))).propose p 2 0) := by
  have ends := exec_taperWindowEnd (tx := tx) (rx := rx) monitor loop
  dsimp only at ends
  rwa [if_neg (by rw [slow]; decide), if_pos ⟨high, ceils⟩] at ends

end

section
variable (s : State) (p : Nat)

/-! ### Answers to proposals (R94, R96) -/

/-- The state in which port `p`, whose record is `x`, holds for a retrain; with an ACCEPT on its line. -/
def State.holding (s : State) (p : Nat) (x : EthPort) : State := (s.setPort p x).taperTo p 3
def State.accepting (s : State) (p : Nat) (x : EthPort) (seq rate : Nat) : State := (s.holding p x).taperSend p 2 seq rate 0 0

theorem State.holding_spec (x : EthPort) : (s.holding p x).rd F.ETH_TAPER_STAT_STATE p = 3 ∧ (s.holding p x).port p = x :=
  ⟨State.rd_taperTo_state .., by rw [State.holding, State.port_taperTo, State.port_setPort_same]⟩

theorem State.accepting_spec (x : EthPort) (seq rate : Nat) :
    (s.accepting p x seq rate).rd F.ETH_TAPER_STAT_STATE p = 3 ∧ (s.accepting p x seq rate).port p = x
      ∧ (s.accepting p x seq rate).sentOp p = 2 :=
  ⟨(s.holding_spec p x).1, (s.holding_spec p x).2, State.sentOp_taperSend ..⟩

theorem State.taperAnswer_accepts {seq rate flags : Nat} {lost : Bool} (judged : s.taperJudge p rate flags = 0) :
    s.taperAnswer p seq rate flags lost = s.accepting p { s.port p with newRate := rate } seq rate := if_pos judged

/-- The state after a REFUSE with a reason. -/
def State.refusing (s : State) (p seq rate reason : Nat) : State :=
  ((s.taperSend p 3 seq rate 0 reason).ethCnt p 27).evt F.ETH_STAT_TAPER_EVT p

theorem State.taperAnswer_refuses {seq rate flags : Nat} {lost : Bool} (judged : s.taperJudge p rate flags ≠ 0) :
    s.taperAnswer p seq rate flags lost =
      if lost then (s.refusing p seq rate (s.taperJudge p rate flags)).taperIdle p else s.refusing p seq rate (s.taperJudge p rate flags) :=
  if_neg judged

/-- A REFUSE is sent, counted and shown, and leaves the state. -/
theorem State.refusing_spec (seq rate reason : Nat) :
    (s.refusing p seq rate reason).rd F.ETH_TAPER_STAT_STATE p = s.rd F.ETH_TAPER_STAT_STATE p ∧ (s.refusing p seq rate reason).sentOp p = 3
      ∧ (s.refusing p seq rate reason).rd F.ETH_STAT_TAPER_EVT p = 1
      ∧ (s.refusing p seq rate reason).rd F.ETH_CNT_COUNT (29 * p + 27) = (s.rd F.ETH_CNT_COUNT (29 * p + 27) + 1) % 2 ^ F.ETH_CNT_COUNT.width := by
  refine ⟨?_, State.sentOp_taperSend s p 3 seq rate 0 reason, State.rd_evt _ _ _ (by decide), ?_⟩
  · exact (State.rd_wr_fld _ _ _ _ _ _ (by decide)).trans (State.ethCnt_regsBut _ p 27 _ _ (by decide))
  · exact (State.rd_wr_fld _ _ _ _ _ _ (by decide)).trans (State.rd_ethCnt _ p 27)

/-- The answer to a proposal, by its judgement: it is accepted into HOLD, or refused, and the state stays. -/
theorem State.taperAnswer_kept (seq rate flags : Nat) :
    if s.taperJudge p rate flags = 0 then
      (s.taperAnswer p seq rate flags false).rd F.ETH_TAPER_STAT_STATE p = 3 ∧ ((s.taperAnswer p seq rate flags false).port p).newRate = rate
        ∧ (s.taperAnswer p seq rate flags false).sentOp p = 2
    else (s.taperAnswer p seq rate flags false).rd F.ETH_TAPER_STAT_STATE p = s.rd F.ETH_TAPER_STAT_STATE p
      ∧ (s.taperAnswer p seq rate flags false).sentOp p = 3 ∧ (s.taperAnswer p seq rate flags false).rd F.ETH_STAT_TAPER_EVT p = 1
      ∧ (s.taperAnswer p seq rate flags false).rd F.ETH_CNT_COUNT (29 * p + 27)
        = (s.rd F.ETH_CNT_COUNT (29 * p + 27) + 1) % 2 ^ F.ETH_CNT_COUNT.width := by
  split
  · next judged =>
    rw [s.taperAnswer_accepts p judged]
    obtain ⟨hold, record, sent⟩ := s.accepting_spec p { s.port p with newRate := rate } seq rate
    exact ⟨hold, congrArg EthPort.newRate record, sent⟩
  · next judged =>
    rw [s.taperAnswer_refuses p judged]
    exact s.refusing_spec p seq rate _

/-- The answer of a contest's loser: the same, but a refusal leaves MONITOR or SUSPENDED. -/
theorem State.taperAnswer_lost (seq rate flags : Nat) :
    if s.taperJudge p rate flags = 0 then
      (s.taperAnswer p seq rate flags true).rd F.ETH_TAPER_STAT_STATE p = 3 ∧ ((s.taperAnswer p seq rate flags true).port p).newRate = rate
        ∧ (s.taperAnswer p seq rate flags true).sentOp p = 2
    else (s.taperAnswer p seq rate flags true).rd F.ETH_TAPER_STAT_STATE p ≤ 1 ∧ (s.taperAnswer p seq rate flags true).sentOp p = 3 := by
  split
  · next judged =>
    rw [s.taperAnswer_accepts p judged]
    obtain ⟨hold, record, sent⟩ := s.accepting_spec p { s.port p with newRate := rate } seq rate
    exact ⟨hold, congrArg EthPort.newRate record, sent⟩
  · next judged =>
    rw [s.taperAnswer_refuses p judged]
    obtain ⟨-, sent, -⟩ := s.refusing_spec p seq rate (s.taperJudge p rate flags)
    exact ⟨State.rd_taperIdle_state .., (State.sentOp_taperIdle ..).trans sent⟩

/-! ### Proposals, ACCEPT and REFUSE received (R96) -/

theorem State.taperProposed_idle {seq rate flags : Nat} (idle : s.rd F.ETH_TAPER_STAT_STATE p ≤ 1) :
    s.taperProposed p seq rate flags = s.taperAnswer p seq rate flags false := by
  unfold State.taperProposed
  interval_cases s.rd F.ETH_TAPER_STAT_STATE p <;> rfl

/-- Of two proposals of different rates the bound one wins, and of two of one kind the one for 25G. -/
def State.contestWon (s : State) (p flags : Nat) : Bool :=
  if (s.port p).propFlags.testBit 2 != flags.testBit 2 then (s.port p).propFlags.testBit 2 else decide ((s.port p).propRate = 2)

theorem State.taperProposed_same {seq rate flags : Nat} (proposed : s.rd F.ETH_TAPER_STAT_STATE p = 2) (same : rate = (s.port p).propRate) :
    s.taperProposed p seq rate flags = s.accepting p { s.port p with newRate := rate } seq rate := by
  unfold State.taperProposed
  rw [proposed]
  exact if_pos same

theorem State.taperProposed_contest {seq rate flags : Nat} (proposed : s.rd F.ETH_TAPER_STAT_STATE p = 2) (differs : rate ≠ (s.port p).propRate) :
    s.taperProposed p seq rate flags = if s.contestWon p flags then s else s.taperAnswer p seq rate flags true := by
  unfold State.taperProposed
  rw [proposed]
  exact if_neg differs

theorem State.taperProposed_held {seq rate flags : Nat} (held : 3 ≤ s.rd F.ETH_TAPER_STAT_STATE p) : s.taperProposed p seq rate flags = s := by
  obtain ⟨n, st⟩ := Nat.exists_eq_add_of_le held
  unfold State.taperProposed
  rw [st, Nat.add_comm]
  rfl

theorem State.taperAccepted_match {seq : Nat} (proposed : s.rd F.ETH_TAPER_STAT_STATE p = 2) (same : seq = (s.port p).seq) :
    s.taperAccepted p seq = s.holding p { s.port p with newRate := (s.port p).propRate } := if_pos ⟨proposed, same⟩

theorem State.taperAccepted_other {seq : Nat} (differs : seq ≠ (s.port p).seq) : s.taperAccepted p seq = s :=
  if_neg fun ⟨_, same⟩ => differs same

/-- A proposal given up restarts dwell, and shows its reason. -/
theorem State.taperGiveUp_spec (reason : Nat) (refused : Bool) :
    (s.taperGiveUp p reason refused).rd F.ETH_TAPER_STAT_STATE p ≤ 1
      ∧ (s.taperGiveUp p reason refused).rd F.ETH_TAPER_STAT_LAST_REFUSE p = reason % 16
      ∧ ((s.taperGiveUp p reason refused).port p).dwell = some s.now ∧ (s.taperGiveUp p reason refused).rd F.ETH_STAT_TAPER_EVT p = 1 := by
  refine ⟨State.rd_taperIdle_state .., (State.taperIdle_regsBut _ p _ _ (by decide)).trans ?_, ?_,
    (State.taperIdle_regsBut _ p _ _ (by decide)).trans ?_⟩
  · exact (State.rd_wr_fld _ _ _ _ _ _ (by decide)).trans (State.rd_wr_same ..)
  · simp [State.taperGiveUp, State.evt_eq_wr]
  · exact State.rd_evt _ _ _ (by decide)

/-! ### Timeouts (R96) and writes of ETH_TAPER_CTL -/

/-- A proposal is sent again. -/
def State.resending (s : State) (p : Nat) : State :=
  (s.setPort p { s.port p with resends := (s.port p).resends + 1 }).taperSend p 1 (s.port p).seq (s.port p).propRate (s.port p).propFlags 0

theorem State.resending_spec : (s.resending p).rd F.ETH_TAPER_STAT_STATE p = s.rd F.ETH_TAPER_STAT_STATE p
    ∧ ((s.resending p).port p).resends = (s.port p).resends + 1 ∧ (s.resending p).sentOp p = 1 :=
  ⟨rfl, by rw [State.resending, State.port_taperSend, State.port_setPort_same], State.sentOp_taperSend ..⟩

theorem exec_taperProposeTimeout {s : State} {p : Fin 8} (proposed : s.rd F.ETH_TAPER_STAT_STATE p = 2) :
    exec (.taperProposeTimeout p) s = .next (if (s.port p).resends < 3 then s.resending p else s.taperGiveUp p 6 false) :=
  congrArg Host.Outcome.next (if_neg (not_not_intro proposed))

theorem State.rd_link_portDown (noLinger : Bool) : (s.portDown p noLinger).rd F.ETH_STAT_LINK p = 0 :=
  ((s.portDown_steady p noLinger).rd (f := F.ETH_STAT_LINK) (by simp) p).trans (State.rd_wr_same ..)

/-- The state after a retrain without link. -/
def State.retrainFailed (s : State) (p : Nat) : State :=
  ((((s.taperTo p 0).portDown p false).evt F.ETH_TAPER_STAT_FAILED p).evt F.ETH_STAT_TAPER_EVT p).reportX (0x090 + p) (elemId 0 p)

theorem State.retrainFailed_spec : (s.retrainFailed p).rd F.ETH_TAPER_STAT_FAILED p = 1 ∧ (s.retrainFailed p).rd F.ETH_STAT_TAPER_EVT p = 1
    ∧ (s.retrainFailed p).rd F.ETH_STAT_LINK p = 0 ∧ ∃ info, (s.retrainFailed p).transit.getLast? = some ⟨0x090 + p, elemId 0 p, info⟩ := by
  unfold State.retrainFailed
  generalize down : (s.taperTo p 0).portDown p false = t
  have link : t.rd F.ETH_STAT_LINK p = 0 := down ▸ State.rd_link_portDown ..
  refine ⟨?_, ?_, ?_, _, List.getLast?_concat⟩ <;> simp [State.evt_eq_wr, State.rd_wr_fld, link]

/-- The fields of a written ETH_TAPER_CTL. -/
def State.taperCtlStored (s : State) (p force ceil floor : Nat) (en : Bool) : State :=
  (((s.wr F.ETH_TAPER_CTL_FORCE p force).wr F.ETH_TAPER_CTL_TAPER_CEIL p ceil).wr F.ETH_TAPER_CTL_TAPER_FLOOR p floor).wrb F.ETH_TAPER_CTL_EN p en

theorem State.taperCtlStored_spec (force ceil floor : Nat) (en : Bool) :
    (s.taperCtlStored p force ceil floor en).rd F.ETH_TAPER_CTL_FORCE p = force % 4
      ∧ (s.taperCtlStored p force ceil floor en).rd F.ETH_TAPER_CTL_TAPER_CEIL p = ceil % 4
      ∧ (s.taperCtlStored p force ceil floor en).rd F.ETH_TAPER_CTL_TAPER_FLOOR p = floor % 4
      ∧ (s.taperCtlStored p force ceil floor en).rd F.ETH_TAPER_CTL_EN p = b2n en := by
  cases en <;> simp [State.taperCtlStored, State.wrb_eq_wr, State.rd_wr_fld, b2n]

/-- What a write of ETH_TAPER_CTL brings about changes the state of Taper alone. -/
theorem State.taperCtl_regsBut (force ceil floor : Nat) (en : Bool) :
    RegsBut taperFlds (s.taperCtlStored p force ceil floor en) (s.taperCtl p force ceil floor en) := by
  refine RegsBut.trans (RegsBut.ite ?_ ?_) (State.taperService_regsBut _ p)
  · exact (((State.taperSuspend_regsBut _ p).ite RegsBut.refl)).trans (RegsBut.of_regs rfl)
  · exact (State.taperSuspend_regsBut _ p).ite RegsBut.refl

end
end Sys2Proof.Machine
end

section
/-! SUPPORT. The statement about Taper. -/
namespace Sys2Proof
open Sys2Proof.Machine

/-- Settles O23: each frame, window and timeout of Taper ends in one of its named states (`holding`, `accepting`, `refusing`, a proposal, or
given up), and `taperService` changes none but STATE and RETRAIN. -/
theorem taperNegotiatesRates : Obligations.TaperNegotiatesRates := by
  unfold Obligations.TaperNegotiatesRates
  intro s p dev tx rx seq rate flags reason force ceil floor en
  refine ⟨fun mode heard link live => ⟨?_, fun vangino => ?_, fun other => ?_⟩, ?_, fun monitor loop => ⟨?_, ?_, ?_⟩, fun live idle => ?_,
    fun live proposed => ⟨fun same => ?_, fun differs wins => ?_, fun differs loses => ?_⟩, fun live held => ?_,
    fun asleep link => ⟨?_, ?_, ?_, ?_⟩, fun live proposed => ⟨fun same => ?_, fun differs => ?_, ?_⟩, fun proposed => ?_,
    fun held free => ?_, fun retrain => ?_, ?_⟩
  · exact ⟨_, rfl, s.helloSend_spec p p.isLt mode heard link live⟩
  · exact ⟨_, State.macFrame_live live rfl, s.rd_peer_helloRx p p.isLt mode heard link vangino⟩
  · exact State.macFrame_live live (s.helloRx_other p other)
  · exact ⟨_, rfl, s.rd_peer_peerLost p, fun other =>
      State.rd_state_taperSuspend _ p ((s.setPeer_regsBut p false _ _ (by decide)).trans_ne other)⟩
  · intro fast low lows passed floors slopes
    have dwelt : s.dwelt p = true := by
      unfold State.dwelt
      cases last : (s.port p).dwell with
      | none => rfl
      | some d => rw [last] at passed; exact decide_eq_true passed
    exact ⟨_, exec_taperWindowEnd_slower monitor loop fast low lows dwelt floors slopes, State.propose_spec ..⟩
  · intro fast busy
    exact ⟨_, exec_taperWindowEnd_busy monitor loop fast busy, congrArg EthPort.lows (State.port_setPort_same ..), RegsBut.of_regs rfl⟩
  · exact fun slow high ceils => ⟨_, exec_taperWindowEnd_faster monitor loop slow high ceils, State.propose_spec ..⟩
  · exact ⟨_, State.macFrame_live live (s.taperProposed_idle p idle), s.taperAnswer_kept p _ _ _⟩
  · obtain ⟨hold, record, sent⟩ := s.accepting_spec p { s.port p with newRate := rate.toNat } seq.toNat rate.toNat
    exact ⟨_, State.macFrame_live live (s.taperProposed_same p proposed same), hold, congrArg EthPort.newRate record, sent⟩
  · exact State.macFrame_live live ((s.taperProposed_contest p proposed differs).trans (if_pos wins))
  · have answered := (s.taperProposed_contest p (seq := seq.toNat) proposed differs).trans (if_neg (Bool.eq_false_iff.mp loses))
    exact ⟨_, State.macFrame_live live answered, s.taperAnswer_lost p _ _ _⟩
  · exact State.macFrame_live live (s.taperProposed_held p held)
  iterate 4 exact ⟨_, State.macFrame_asleep asleep link, s.ethCnt_regsBut p 15, s.rd_ethCnt p 15⟩
  · have hold := s.holding_spec p { s.port p with newRate := (s.port p).propRate }
    exact ⟨_, State.macFrame_live live (s.taperAccepted_match p proposed same), hold.1, congrArg EthPort.newRate hold.2⟩
  · exact State.macFrame_live live (s.taperAccepted_other p differs)
  · exact ⟨_, State.macFrame_live live (if_pos proposed), s.taperGiveUp_spec p reason.toNat true⟩
  · refine ⟨_, exec_taperProposeTimeout proposed, ?_⟩
    split
    · obtain ⟨state, resends, sent⟩ := s.resending_spec p
      exact ⟨state.trans proposed, resends, sent⟩
    · obtain ⟨state, shown, -⟩ := s.taperGiveUp_spec p 6 false
      exact ⟨state, shown⟩
  · exact ⟨_, congrArg Host.Outcome.next (if_pos ⟨held, free⟩), State.rd_taperTo_state .., State.rd_taperTo_retrain ..⟩
  · exact ⟨_, if_pos retrain, s.retrainFailed_spec p⟩
  · have same := s.taperCtl_regsBut p force.toNat ceil.toNat floor.toNat en
    obtain ⟨forced, ceiling, bottom, enabled⟩ := s.taperCtlStored_spec p force.toNat ceil.toNat floor.toNat en
    refine ⟨_, rfl, (same _ _ (by decide)).trans (forced.trans ?_), (same _ _ (by decide)).trans (ceiling.trans ?_),
      (same _ _ (by decide)).trans (bottom.trans ?_), (same _ _ (by decide)).trans enabled⟩
    all_goals exact Nat.mod_eq_of_lt (BitVec.isLt _)

end Sys2Proof
end

section
/-! SUPPORT. Bits of a register field: setting one leaves the others set, clearing one leaves the others clear. -/
namespace Sys2Proof

/-- Clearing a bit leaves every other bit. -/
theorem testBit_clrBitN_ne (w : Nat) {i j : Nat} (other : j ≠ i) : (clrBitN w i).testBit j = w.testBit j := by
  unfold clrBitN
  split
  next set =>
    rw [Nat.testBit_eq_decide_div_mod_eq, decide_eq_true_eq] at set
    rw [Nat.testBit_eq_decide_div_mod_eq, Nat.testBit_eq_decide_div_mod_eq]
    rcases Nat.lt_or_gt_of_ne other with below | above
    · obtain ⟨d, rfl⟩ := Nat.exists_eq_add_of_lt below
      have high : 2 ^ (j + d + 1) = 2 ^ j * (2 * 2 ^ d) := by ring
      have low : 2 * 2 ^ d ≤ w / 2 ^ j := by
        rw [Nat.le_div_iff_mul_le (Nat.two_pow_pos j), Nat.mul_comm, ← high]
        exact Nat.le_of_not_lt fun lt => by rw [Nat.div_eq_of_lt lt] at set; contradiction
      rw [high, Nat.sub_mul_div]
      exact congrArg (fun n => decide (n = 1)) (by omega)
    · obtain ⟨d, rfl⟩ := Nat.exists_eq_add_of_lt above
      have low : (w - 2 ^ i) / 2 ^ i = w / 2 ^ i - 1 := by simpa using Nat.sub_mul_div w (2 ^ i) 1
      have half (q : Nat) (odd : q % 2 = 1) : (q - 1) / 2 = q / 2 := by omega
      rw [show 2 ^ (i + d + 1) = 2 ^ i * (2 * 2 ^ d) by ring, ← Nat.div_div_eq_div_mul, ← Nat.div_div_eq_div_mul, low, half _ set,
        ← Nat.div_div_eq_div_mul, ← Nat.div_div_eq_div_mul]
  next => rfl

namespace Machine

theorem State.bit_setBit_same (s : State) {f : Fld} (i : Nat) {b : Nat} (fits : b < f.width) : (s.setBit f i b).bit f i b = true := by
  rw [State.bit, State.setBit_eq_wr, State.rd_wr_same, Nat.testBit_mod_two_pow, testBit_setBitN, decide_eq_true fits, Bool.and_true]

/-- A bit within the field's width that is set stays set. -/
theorem State.bit_setBit_of_set {s : State} {f : Fld} {i b c : Nat} (fits : c < f.width) (set : s.bit f i c = true) :
    (s.setBit f i b).bit f i c = true := by
  rw [State.bit] at set
  rw [State.bit, State.setBit_eq_wr, State.rd_wr_same, Nat.testBit_mod_two_pow, setBitN, Nat.testBit_or, set, decide_eq_true fits]
  rfl

theorem State.bit_clrBit_same (s : State) (f : Fld) (i b : Nat) : (s.clrBit f i b).bit f i b = false := by
  rw [State.bit, State.clrBit_eq_wr, State.rd_wr_same, Nat.testBit_mod_two_pow, testBit_clrBitN, Bool.and_false]

/-- A bit that is clear stays clear. -/
theorem State.bit_clrBit_of_clear {s : State} {f : Fld} {i b c : Nat} (clear : s.bit f i c = false) : (s.clrBit f i b).bit f i c = false := by
  by_cases same : c = b
  · rw [same]; exact s.bit_clrBit_same f i b
  · rw [State.bit] at clear
    rw [State.bit, State.clrBit_eq_wr, State.rd_wr_same, Nat.testBit_mod_two_pow, testBit_clrBitN_ne _ same, clear, Bool.and_false]

/-- A bit reads alike where its field does. -/
theorem State.bit_congr {s t : State} {f : Fld} {i : Nat} (c : Nat) (same : t.rd f i = s.rd f i) : t.bit f i c = s.bit f i c :=
  congrArg (fun n => n.testBit c) same

end Machine
end Sys2Proof
end

section
/-! SUPPORT. PAUSE, PFC and low-power idle (spec 04 R86 to R90). -/
namespace Sys2Proof.Machine

/-- The registers that show which classes are paused and stormed. -/
abbrev stormFlds : List Fld := [F.ETH_FC_STORM_PAUSED, F.ETH_FC_STORM_STORMED]

section
variable (s : State) (p : Nat)

/-! ### Requests received (R86, R87) -/

/-- The classes that a request names resume at once. -/
def State.resumed (s : State) (p : Nat) (r : PauseReq) : State :=
  r.foldl (fun t e => (t.clrBit F.ETH_FC_STORM_PAUSED p e.1).clrBit F.ETH_FC_STORM_STORMED p e.1) s

theorem State.resumed_regsBut (r : PauseReq) : RegsBut stormFlds s (s.resumed p r) :=
  RegsBut.foldl _ _ fun _ _ => (RegsBut.refl.wr F.ETH_FC_STORM_PAUSED p _ (by decide)).wr F.ETH_FC_STORM_STORMED p _ (by decide)

theorem State.port_resumed (r : PauseReq) (q : Nat) : (s.resumed p r).port q = s.port q :=
  foldl_leaves (fun t => t.port q) _ _ fun _ _ => rfl

theorem State.paused_resumed {r : PauseReq} {e : Nat × Nat} (named : e ∈ r) : (s.resumed p r).bit F.ETH_FC_STORM_PAUSED p e.1 = false := by
  have stormed (t : State) (c : Nat) (e : Nat × Nat) :
      (t.clrBit F.ETH_FC_STORM_STORMED p c).bit F.ETH_FC_STORM_PAUSED p e.1 = t.bit F.ETH_FC_STORM_PAUSED p e.1 :=
    State.bit_congr _ (State.rd_wr_fld _ _ _ _ _ _ (by decide))
  exact foldl_reaches _ (fun t e => t.bit F.ETH_FC_STORM_PAUSED p e.1 = false) (fun t e => (stormed _ _ e).trans (State.bit_clrBit_same ..))
    (fun t y e clear => (stormed _ _ e).trans (State.bit_clrBit_of_clear clear)) r s e named

/-- The times above 0 that a request names, and those of 0. -/
def timed (r : PauseReq) : PauseReq := r.filter fun e => decide (e.2 ≠ 0)
def untimed (r : PauseReq) : PauseReq := r.filter fun e => decide (e.2 = 0)

/-- The times above 0 that a request names wait, behind what waits already. -/
def State.waiting (s : State) (p : Nat) (pend : List PauseReq) (r : PauseReq) : State :=
  s.setPort p { s.port p with pend := if (timed r).isEmpty then pend else pend ++ [timed r] }

theorem State.pauseReq_eq (r : PauseReq) : ∃ pend, s.pauseReq p r = (s.waiting p pend r).resumed p (untimed r) := ⟨_, rfl⟩

theorem State.pauseReq_regsBut (r : PauseReq) : RegsBut stormFlds s (s.pauseReq p r) := by
  obtain ⟨pend, eq⟩ := s.pauseReq_eq p r
  rw [eq]
  have same : RegsBut stormFlds s (s.waiting p pend r) := RegsBut.of_regs rfl
  exact same.trans (State.resumed_regsBut _ p _)

theorem State.paused_pauseReq {r : PauseReq} {c : Nat} (zero : (c, 0) ∈ r) : (s.pauseReq p r).bit F.ETH_FC_STORM_PAUSED p c = false := by
  obtain ⟨pend, eq⟩ := s.pauseReq_eq p r
  rw [eq]
  exact State.paused_resumed _ p (e := (c, 0)) (List.mem_filter.mpr ⟨zero, rfl⟩)

/-- A request that names a time above 0 is the last that waits, without the times of 0. -/
theorem State.pend_pauseReq {r : PauseReq} {e : Nat × Nat} (mem : e ∈ timed r) : ((s.pauseReq p r).port p).pend.getLast? = some (timed r) := by
  obtain ⟨pend, eq⟩ := s.pauseReq_eq p r
  have waits : (timed r).isEmpty = false := List.isEmpty_eq_false_iff_exists_mem.mpr ⟨e, mem⟩
  rw [eq, State.port_resumed, State.waiting, State.port_setPort_same, waits]
  exact List.getLast?_concat

/-- The port honours PAUSE frames to `da`; the PFC times of class `c` (R86). -/
def State.honoursPause (s : State) (p da : Nat) : Bool :=
  s.on F.ETH_FC_CFG_RX_EN p && decide (s.rd F.ETH_FC_CFG_MODE p = 1) && (decide (da = 0x0180C2000001) || decide (da = s.rd F.ETH_MAC_ADDR_ADDR p))
def State.honoursPfc (s : State) (p : Nat) : Bool := s.on F.ETH_FC_CFG_RX_EN p && decide (s.rd F.ETH_FC_CFG_MODE p = 2)

/-- The classes and times that a PFC frame names, of those that the port takes part in. -/
def State.pfcReq (s : State) (p enable : Nat) (times : List Nat) : PauseReq :=
  ((List.range 8).filter fun c => enable.testBit c && s.bit F.ETH_FC_CFG_PFC_CLASSES p c).map fun c => (c, times.getD c 0)

/-! A count changes none of the fields that decide on a request. -/

theorem State.honoursPause_ethCnt (k da : Nat) : (s.ethCnt p k).honoursPause p da = s.honoursPause p da := by
  have counted := s.ethCnt_regsBut p k
  simp only [State.honoursPause, State.on, counted F.ETH_FC_CFG_RX_EN p (by decide), counted F.ETH_FC_CFG_MODE p (by decide),
    counted F.ETH_MAC_ADDR_ADDR p (by decide)]

theorem State.honoursPfc_ethCnt (k : Nat) : (s.ethCnt p k).honoursPfc p = s.honoursPfc p := by
  have counted := s.ethCnt_regsBut p k
  simp only [State.honoursPfc, State.on, counted F.ETH_FC_CFG_RX_EN p (by decide), counted F.ETH_FC_CFG_MODE p (by decide)]

theorem State.pfcReq_ethCnt (k enable : Nat) (times : List Nat) : (s.ethCnt p k).pfcReq p enable times = s.pfcReq p enable times := by
  simp only [State.pfcReq, State.bit, s.ethCnt_regsBut p k F.ETH_FC_CFG_PFC_CLASSES p (by decide)]

theorem State.pauseRx_eq (da quanta : Nat) : s.pauseRx p da quanta =
    if s.honoursPause p da then (s.ethCnt p 8).pauseReq p ((List.range 8).map fun c => (c, quanta)) else s.ethCnt p 8 := by
  rw [← s.honoursPause_ethCnt p 8]
  rfl

theorem State.pfcRx_eq (enable : Nat) (times : List Nat) : s.pfcRx p enable times =
    if s.honoursPfc p then (s.ethCnt p 9).pauseReq p (s.pfcReq p enable times) else s.ethCnt p 9 := by
  rw [← s.honoursPfc_ethCnt p 9, ← s.pfcReq_ethCnt p 9]
  rfl

theorem State.rd_cnt_pauseRx (da quanta : Nat) :
    (s.pauseRx p da quanta).rd F.ETH_CNT_COUNT (29 * p + 8) = (s.rd F.ETH_CNT_COUNT (29 * p + 8) + 1) % 2 ^ F.ETH_CNT_COUNT.width := by
  rw [State.pauseRx_eq, ← State.rd_ethCnt]
  split
  · exact State.pauseReq_regsBut _ p _ _ _ (by decide)
  · rfl

theorem State.rd_cnt_pfcRx (enable : Nat) (times : List Nat) :
    (s.pfcRx p enable times).rd F.ETH_CNT_COUNT (29 * p + 9) = (s.rd F.ETH_CNT_COUNT (29 * p + 9) + 1) % 2 ^ F.ETH_CNT_COUNT.width := by
  rw [State.pfcRx_eq, ← State.rd_ethCnt]
  split
  · exact State.pauseReq_regsBut _ p _ _ _ (by decide)
  · rfl

/-- A PAUSE frame that is honoured names all classes. -/
theorem State.pauseRx_honoured {da : Nat} (quanta : Nat) (c : Fin 8) (honoured : s.honoursPause p da = true) :
    if quanta = 0 then (s.pauseRx p da quanta).bit F.ETH_FC_STORM_PAUSED p c = false
    else ((s.pauseRx p da quanta).port p).pend.getLast? = some ((List.range 8).map fun k => (k, quanta)) := by
  have named : (c.val, quanta) ∈ (List.range 8).map fun k => (k, quanta) := List.mem_map.mpr ⟨c, List.mem_range.mpr c.isLt, rfl⟩
  rw [State.pauseRx_eq, if_pos honoured]
  split
  · next zero => exact State.paused_pauseReq _ p (zero ▸ named)
  · next time =>
    have all : timed ((List.range 8).map fun k => (k, quanta)) = (List.range 8).map fun k => (k, quanta) :=
      List.filter_eq_self.mpr (by simp [time])
    exact (State.pend_pauseReq _ p (all.symm ▸ named)).trans (congrArg some all)

/-- A PFC frame that is honoured names the classes that it enables and the port takes part in. -/
theorem State.pfcRx_honoured {enable : Nat} {times : List Nat} {c : Fin 8} (honoured : s.honoursPfc p = true) (enabled : enable.testBit c = true)
    (takesPart : s.bit F.ETH_FC_CFG_PFC_CLASSES p c = true) :
    if times.getD c 0 = 0 then (s.pfcRx p enable times).bit F.ETH_FC_STORM_PAUSED p c = false
    else ∃ l, ((s.pfcRx p enable times).port p).pend.getLast? = some l ∧ (c.val, times.getD c 0) ∈ l := by
  have named : (c.val, times.getD c 0) ∈ s.pfcReq p enable times :=
    List.mem_map.mpr ⟨c, List.mem_filter.mpr ⟨List.mem_range.mpr c.isLt, by rw [enabled, takesPart]; rfl⟩, rfl⟩
  rw [State.pfcRx_eq, if_pos honoured]
  split
  · next zero => rw [zero] at named; exact State.paused_pauseReq _ p named
  · next time =>
    have waits : (c.val, times.getD c 0) ∈ timed (s.pfcReq p enable times) := List.mem_filter.mpr ⟨named, decide_eq_true time⟩
    exact ⟨_, State.pend_pauseReq _ p waits, waits⟩

/-! ### Requests taking effect, and their end (R87, R89) -/

/-- A class that is not stormed is paused for its time. -/
def State.pausing (s : State) (p : Nat) (e : Nat × Nat) : State :=
  ((s.setPort p { s.port p with quanta := setAt (s.port p).quanta e.1 e.2 }).setBit F.ETH_FC_STORM_PAUSED p e.1).withdrawPort p
    (fun c => decide (c = e.1))

/-- The first of the requests that wait takes effect on the classes that are not stormed. -/
def State.pauseTaken (s : State) (p : Nat) (r : PauseReq) (rest : List PauseReq) : State :=
  (r.filter fun e => !s.bit F.ETH_FC_STORM_STORMED p e.1).foldl (fun t e => t.pausing p e) (s.setPort p { s.port p with pend := rest })

theorem exec_pauseTakesEffect {s : State} {p : Fin 40} {r : PauseReq} {rest : List PauseReq} (waits : (s.port p).pend = r :: rest) :
    exec (.pauseTakesEffect p) s = .next (s.pauseTaken p r rest) := by
  change execPauseTakesEffect p s = _
  simp only [execPauseTakesEffect, waits]
  rfl

theorem State.pend_pauseTaken (r : PauseReq) (rest : List PauseReq) : ((s.pauseTaken p r rest).port p).pend = rest := by
  have kept (t : State) (e : Nat × Nat) : ((t.pausing p e).port p).pend = (t.port p).pend := by
    have record : (t.pausing p e).port p = { t.port p with quanta := setAt (t.port p).quanta e.1 e.2 } := t.port_setPort_same p _
    rw [record]
  exact (foldl_leaves (fun t => (t.port p).pend) _ _ kept).trans (congrArg EthPort.pend (State.port_setPort_same ..))

theorem State.paused_pauseTaken {r : PauseReq} (rest : List PauseReq) {e : Nat × Nat} (named : e ∈ r) (isClass : e.1 < 8)
    (free : s.bit F.ETH_FC_STORM_STORMED p e.1 = false) : (s.pauseTaken p r rest).bit F.ETH_FC_STORM_PAUSED p e.1 = true := by
  have acts : e ∈ r.filter fun e => !s.bit F.ETH_FC_STORM_STORMED p e.1 := List.mem_filter.mpr ⟨named, by rw [free]; rfl⟩
  refine foldl_reaches _ (fun t e => e.1 < 8 → t.bit F.ETH_FC_STORM_PAUSED p e.1 = true) (fun t e fits => ?_)
    (fun t y e set fits => ?_) _ _ e acts isClass
  · exact State.bit_setBit_same (f := F.ETH_FC_STORM_PAUSED) _ p fits
  · exact State.bit_setBit_of_set (s := t.setPort p _) (f := F.ETH_FC_STORM_PAUSED) fits (set fits)

/-- A class's own pause is over. -/
def State.unpausing (s : State) (p c : Nat) : State :=
  (s.clrBit F.ETH_FC_STORM_PAUSED p c).setPort p { s.port p with quanta := setAt (s.port p).quanta c 0 }

theorem State.mem_fcClasses (c : Fin 8) : c.val ∈ s.fcClasses p c := by
  unfold State.fcClasses
  split
  · exact List.mem_range.mpr c.isLt
  · exact List.mem_singleton.mpr rfl

/-- The classes that act as class `c` resume. -/
def State.unpaused (s : State) (p c : Nat) : State := (s.fcClasses p c).foldl (fun t k => t.unpausing p k) s

theorem State.unpaused_spec (c : Fin 8) : (s.unpaused p c).bit F.ETH_FC_STORM_PAUSED p c = false
    ∧ RegsBut [F.ETH_FC_STORM_PAUSED] s (s.unpaused p c) := by
  have own (t : State) (k : Nat) : (t.unpausing p k).bit F.ETH_FC_STORM_PAUSED p k = false := t.bit_clrBit_same F.ETH_FC_STORM_PAUSED p k
  have keep (t : State) (j k : Nat) (clear : t.bit F.ETH_FC_STORM_PAUSED p k = false) : (t.unpausing p j).bit F.ETH_FC_STORM_PAUSED p k = false :=
    State.bit_clrBit_of_clear (b := j) clear
  refine ⟨foldl_reaches _ (fun t k => t.bit F.ETH_FC_STORM_PAUSED p k = false) own keep _ s c.val (s.mem_fcClasses p c), ?_⟩
  exact RegsBut.foldl _ _ fun t k => RegsBut.refl.wr F.ETH_FC_STORM_PAUSED p (clrBitN (t.rd F.ETH_FC_STORM_PAUSED p) k) (by decide)

/-- The classes that act as class `c` are stormed. -/
def State.storming (s : State) (p c : Nat) : State := (s.fcClasses p c).foldl (fun t k => t.setBit F.ETH_FC_STORM_STORMED p k) s

theorem State.storming_spec (c : Fin 8) : (s.storming p c).bit F.ETH_FC_STORM_STORMED p c = true
    ∧ RegsBut [F.ETH_FC_STORM_STORMED] s (s.storming p c) ∧ (s.storming p c).transit = s.transit := by
  refine ⟨?_, RegsBut.foldl _ _ fun t k => RegsBut.refl.wr F.ETH_FC_STORM_STORMED p _ (by decide), foldl_leaves State.transit _ _ fun _ _ => rfl⟩
  exact foldl_reaches _ (fun t k => k < 8 → t.bit F.ETH_FC_STORM_STORMED p k = true)
    (fun t k => State.bit_setBit_same (f := F.ETH_FC_STORM_STORMED) t p)
    (fun t y k set fits => State.bit_setBit_of_set (f := F.ETH_FC_STORM_STORMED) fits (set fits)) _ _ c.val (s.mem_fcClasses p c) c.isLt

/-- The state after a storm of class `c`, reported and counted. -/
def State.stormed (s : State) (p c : Nat) : State :=
  (((s.storming p c).ethCnt p 28).evt F.ETH_STAT_STORM_EVT p).reportX (0x090 + p) (elemId 0 p)

theorem exec_pauseStorm {s : State} {p : Fin 40} {c : Fin 8} (limit : s.on F.ETH_FC_STORM_STORM_MS p = true)
    (paused : s.bit F.ETH_FC_STORM_PAUSED p c = true) (free : s.bit F.ETH_FC_STORM_STORMED p c = false) :
    exec (.pauseStorm p c) s = .next (s.stormed p c) := if_pos (by rw [limit, paused, free]; rfl)

theorem State.stormed_spec (c : Fin 8) : (s.stormed p c).bit F.ETH_FC_STORM_STORMED p c = true ∧ (s.stormed p c).rd F.ETH_STAT_STORM_EVT p = 1
    ∧ (s.stormed p c).rd F.ETH_CNT_COUNT (29 * p + 28) = (s.rd F.ETH_CNT_COUNT (29 * p + 28) + 1) % 2 ^ F.ETH_CNT_COUNT.width
    ∧ ∃ info, (s.stormed p c).transit = s.transit ++ [⟨0x090 + p, elemId 0 p, info⟩] := by
  obtain ⟨bit, others, transit⟩ := s.storming_spec p c
  have shown : RegsBut [F.ETH_STAT_STORM_EVT] ((s.storming p c).ethCnt p 28) (s.stormed p c) := RegsBut.refl.wr F.ETH_STAT_STORM_EVT p 1 (by decide)
  have counted := (s.storming p c).ethCnt_regsBut p 28
  refine ⟨?_, State.rd_evt _ F.ETH_STAT_STORM_EVT p (by decide), ?_, _, congrArg (· ++ _) transit⟩
  · rw [State.bit_congr _ (shown _ _ (by decide)), State.bit_congr _ (counted _ _ (by decide)), bit]
  · rw [shown _ _ (by decide), State.rd_ethCnt, others _ _ (by decide)]

/-! ### Frames sent (R88) -/

/-- A frame on the line of port `p` that counts under `k`. -/
theorem State.sentCounted_spec (bs : List Byte) (k : Nat) :
    ((s.send p bs).ethCnt p k).rd F.ETH_CNT_COUNT (29 * p + k) = (s.rd F.ETH_CNT_COUNT (29 * p + k) + 1) % 2 ^ F.ETH_CNT_COUNT.width
    ∧ ((s.send p bs).ethCnt p k).lastTx.get [] p = bs ∧ RegsBut [F.ETH_CNT_COUNT] s ((s.send p bs).ethCnt p k) :=
  ⟨State.rd_ethCnt .., s.lastTx_send_same p bs, (s.send p bs).ethCnt_regsBut p k⟩

/-- A PAUSE frame of PAUSE_QUANTA, and a PFC frame of the classes of `on`, as they are repeated. -/
theorem exec_pauseRepeat_pause {s : State} {p : Fin 40} (sends : s.fcSends p = true) (xoff : (s.port p).xoff ≠ 0)
    (mode : s.rd F.ETH_FC_CFG_MODE p = 1) (above : s.rd F.ETH_FC_THR_XON_CELLS p < s.heldCells p (fun _ => true)) :
    exec (.pauseRepeat p) s = .next (s.sendPause p (s.rd F.ETH_FC_CFG_PAUSE_QUANTA p)) :=
  congrArg Host.Outcome.next ((if_neg (by simp [sends, xoff])).trans ((if_pos mode).trans (if_pos above)))

theorem exec_pauseRepeat_pfc {s : State} {p : Fin 40} (sends : s.fcSends p = true) (xoff : (s.port p).xoff ≠ 0)
    (mode : s.rd F.ETH_FC_CFG_MODE p = 2)
    (above : s.fcMask p (fun k n => decide (s.rd F.ETH_FC_THR_XON_CELLS p < n) && (s.port p).xoff.testBit k) ≠ 0) :
    exec (.pauseRepeat p) s = .next
      (s.sendPfc p (s.fcMask p (fun k n => decide (s.rd F.ETH_FC_THR_XON_CELLS p < n) && (s.port p).xoff.testBit k)) 0) :=
  congrArg Host.Outcome.next ((if_neg (by simp [sends, xoff])).trans ((if_neg (by rw [mode]; decide)).trans (if_neg above)))

/-! ### Low-power idle (R90) -/

/-- Port `p` enters LPI, which is counted. -/
def State.lpiEntered (s : State) (p : Nat) : State := ((s.wr F.ETH_STAT_LPI_TX p 1).ethCnt p 24).withdrawPort p (fun _ => true)

theorem State.lpiEntered_spec : (s.lpiEntered p).rd F.ETH_STAT_LPI_TX p = 1
    ∧ (s.lpiEntered p).rd F.ETH_CNT_COUNT (29 * p + 24) = (s.rd F.ETH_CNT_COUNT (29 * p + 24) + 1) % 2 ^ F.ETH_CNT_COUNT.width := by
  have entered : (s.wr F.ETH_STAT_LPI_TX p 1).rd F.ETH_STAT_LPI_TX p = 1 := State.rd_wr_same ..
  have others := s.rd_wr_fld F.ETH_STAT_LPI_TX F.ETH_CNT_COUNT p (29 * p + 24) 1 (by decide)
  exact ⟨((s.wr F.ETH_STAT_LPI_TX p 1).ethCnt_regsBut p 24 _ _ (by decide)).trans entered,
    ((s.wr F.ETH_STAT_LPI_TX p 1).rd_ethCnt p 24).trans (by rw [others])⟩

/-- What an access port shows of LPI received, after an entry that it counts or not. -/
def State.lpiHeard (s : State) (p : Nat) (on : Bool) : State :=
  if on && !s.on F.ETH_STAT_LPI_RX p then (s.wr F.ETH_STAT_LPI_RX p 1).ethCnt p 14 else s.wrb F.ETH_STAT_LPI_RX p on

theorem exec_receiveLpi {s : State} {p : Fin 40} {on : Bool} (access : 8 ≤ p.val) : exec (.receiveLpi p on) s = .next (s.lpiHeard p on) :=
  congrArg Host.Outcome.next (if_neg (Nat.not_lt.mpr access))

theorem State.lpiHeard_spec (on : Bool) : (s.lpiHeard p on).rd F.ETH_STAT_LPI_RX p = b2n on
    ∧ (on = true → s.on F.ETH_STAT_LPI_RX p = false →
        (s.lpiHeard p on).rd F.ETH_CNT_COUNT (29 * p + 14) = (s.rd F.ETH_CNT_COUNT (29 * p + 14) + 1) % 2 ^ F.ETH_CNT_COUNT.width)
    ∧ RegsBut [F.ETH_STAT_LPI_RX, F.ETH_CNT_COUNT] s (s.lpiHeard p on) := by
  have shown (v : Nat) : RegsBut [F.ETH_STAT_LPI_RX, F.ETH_CNT_COUNT] s (s.wr F.ETH_STAT_LPI_RX p v) :=
    RegsBut.refl.wr F.ETH_STAT_LPI_RX p v (by decide)
  have counted := (s.wr F.ETH_STAT_LPI_RX p 1).ethCnt_regsBut p 14
  unfold State.lpiHeard
  split
  · next enters =>
    rw [Bool.and_eq_true] at enters
    obtain ⟨rfl, -⟩ := enters
    refine ⟨(counted _ _ (by decide)).trans (State.rd_wr_same ..), fun _ _ => ?_, (shown 1).trans (counted.mono (by decide))⟩
    rw [State.rd_ethCnt, State.rd_wr_fld _ _ _ _ _ _ (by decide)]
  · next stays =>
    refine ⟨?_, fun isOn off => absurd (by rw [isOn, off]; rfl) stays, shown _⟩
    rw [State.wrb_eq_wr, State.rd_wr_same]
    cases on <;> rfl

end
end Sys2Proof.Machine
end

section
/-! SUPPORT. The statement about PAUSE, PFC and low-power idle. -/
namespace Sys2Proof
open Sys2Proof.Machine

/-- Settles O22: each command's state is named; a class once resumed, paused or stormed stays so over the other classes of the same command. -/
theorem pauseAndLowPowerIdle : Obligations.PauseAndLowPowerIdle := by
  unfold Obligations.PauseAndLowPowerIdle
  intro s p da q en times c r rest on
  refine ⟨fun live => ?_, fun live eight => ?_, fun asleep link => ⟨?_, ?_⟩, fun waits => ?_, ?_, fun sends xoff mode above => ?_,
    fun sends xoff mode above => ?_, fun limit paused free => ?_, fun idle => ?_, fun full => ?_, fun access => ?_, fun trunk => ?_⟩
  · exact ⟨_, State.macFrame_live live rfl, s.rd_cnt_pauseRx p da.toNat q.toNat, s.pauseRx_honoured p q.toNat c⟩
  · refine ⟨_, State.macFrame_live live rfl, s.rd_cnt_pfcRx p en.toNat (times.map BitVec.toNat), fun honoured => ?_⟩
    rw [Bool.and_eq_true, Bool.and_eq_true] at honoured
    obtain ⟨⟨mode, enabled⟩, takesPart⟩ := honoured
    have time : (times.map BitVec.toNat).getD c 0 = (times.getD c 0).toNat := List.getD_map times 0 BitVec.toNat
    rw [← time]
    exact s.pfcRx_honoured p mode enabled takesPart
  iterate 2 exact ⟨_, State.macFrame_asleep asleep link, s.rd_ethCnt p 15, s.ethCnt_regsBut p 15⟩
  · exact ⟨_, exec_pauseTakesEffect waits, s.pend_pauseTaken p r rest, fun _ named isClass free => s.paused_pauseTaken p rest named isClass free⟩
  · exact ⟨_, rfl, s.unpaused_spec p c⟩
  · exact ⟨_, exec_pauseRepeat_pause sends xoff mode above, s.sentCounted_spec p _ 21⟩
  · obtain ⟨counted, -, others⟩ := s.sentCounted_spec p _ 22
    exact ⟨_, exec_pauseRepeat_pfc sends xoff mode above, counted, others⟩
  · exact ⟨_, exec_pauseStorm limit paused free, s.stormed_spec p c⟩
  · exact ⟨_, congrArg Host.Outcome.next (if_pos idle), s.lpiEntered_spec p⟩
  · exact ⟨_, congrArg Host.Outcome.next (if_neg (Bool.eq_false_iff.mp full)), rfl⟩
  · exact ⟨_, exec_receiveLpi access, s.lpiHeard_spec p on⟩
  · exact congrArg Host.Outcome.next (if_pos trunk)

end Sys2Proof
end

section
/-! SUPPORT. Frames that arrive on an Ethernet port (spec 04 R83, R84): their checks, counts and place in the pipeline. -/
namespace Sys2Proof.Machine

/-- Port `p` receives: it is enabled, its link is up, it does not sleep, it is not restructured, its pipeline does not recover, and no frame
of it has been dropped while arriving or is arriving. -/
structure State.Receives (s : State) (p : Nat) : Prop where
  enabled : s.on F.ETH_CTL_RX_EN p = true
  link : s.on F.ETH_STAT_LINK p = true
  live : s.portLive p = true
  steady : s.portRestructuring p = false
  runs : s.recovering (pipeOf p) = false
  kept : (s.port p).gone = false
  idle : s.arriving p = none

theorem State.receives_of {s : State} {p : Nat}
    (ready : (s.on F.ETH_CTL_RX_EN p && s.on F.ETH_STAT_LINK p && s.portLive p && !s.portRestructuring p && !s.recovering (pipeOf p)
      && !(s.port p).gone && (s.arriving p).isNone) = true) : s.Receives p := by
  simp only [Bool.and_eq_true, Bool.not_eq_true', Option.isNone_iff_eq_none] at ready
  obtain ⟨⟨⟨⟨⟨⟨enabled, link⟩, live⟩, steady⟩, runs⟩, kept⟩, idle⟩ := ready
  exact ⟨enabled, link, live, steady, runs, kept, idle⟩

section
variable {s : State} {p : Fin 40} {bs : List Byte}

theorem exec_frameReceived_bad {good : Bool} {k : Nat} (ready : s.Receives p) (fails : s.rxFail p bs good = some k) :
    exec (.frameReceived p bs good) s = .next (s.ethCnt p k) := by
  have bad : (s.ethCnt p k).arrivedBad p k good = s.ethCnt p k := by
    have idle : (s.ethCnt p k).arriving p = none := ready.idle
    simp only [State.arrivedBad, idle]
  change execFrameReceived p bs good s = _
  simp [execFrameReceived, ready.enabled, ready.link, ready.live, ready.steady, ready.kept, fails, bad]

theorem exec_frameReceived_good (ready : s.Receives p) (passes : s.rxFail p bs true = none) (data : s.consumed bs = false) :
    exec (.frameReceived p bs true) s = .next ((s.rxCount p bs).arrived p bs) := by
  change execFrameReceived p bs true s = _
  simp [execFrameReceived, ready.enabled, ready.link, ready.live, ready.steady, ready.kept, ready.runs, passes, data]

end

section
variable (s : State) (p : Nat) (bs : List Byte)

/-! ### The checks of R83 -/

theorem State.rxFail_short (good : Bool) (short : bs.length < 64) : s.rxFail p bs good = some 5 := if_pos short

theorem State.rxFail_long (good : Bool) (enough : 64 ≤ bs.length) (long : max 1518 (s.rd F.ETH_CTL_MAX_LEN p) < bs.length) :
    s.rxFail p bs good = some 6 := (if_neg (Nat.not_lt.mpr enough)).trans (if_pos long)

theorem State.rxFail_fits (good : Bool) (enough : 64 ≤ bs.length) (fits : ¬ max 1518 (s.rd F.ETH_CTL_MAX_LEN p) < bs.length) :
    s.rxFail p bs good = if !good then some 4 else none := (if_neg (Nat.not_lt.mpr enough)).trans (if_neg fits)

/-! ### The counts of a good frame (R84) -/

/-- A frame and its octets are counted, before its kind of destination is. -/
def State.octetsCounted (s : State) (p n : Nat) : State := (s.ethCnt p 1).bumpBy F.ETH_CNT_COUNT (29 * p) n

/-- Beside frame and octets a counter of a kind of destination may count. -/
theorem State.rxCount_cases : s.rxCount p bs = s.octetsCounted p bs.length
    ∨ ∃ k, 2 ≤ k ∧ s.rxCount p bs = (s.octetsCounted p bs.length).ethCnt p k := by
  unfold State.rxCount
  split
  · exact .inr ⟨3, by decide, rfl⟩
  · split
    · exact .inr ⟨2, by decide, rfl⟩
    · exact .inl rfl

/-- Counting a frame changes registers alone. -/
theorem State.rxCount_eq : ∃ r, s.rxCount p bs = { s with regs := r } := by
  obtain plain | ⟨k, -, group⟩ := s.rxCount_cases p bs
  · exact ⟨_, plain⟩
  · exact ⟨_, group⟩

theorem State.rxCount_regsBut : RegsBut [F.ETH_CNT_COUNT] s (s.rxCount p bs) := by
  have counted : RegsBut [F.ETH_CNT_COUNT] s (s.octetsCounted p bs.length) := (s.ethCnt_regsBut p 1).wr F.ETH_CNT_COUNT _ _ (by decide)
  obtain plain | ⟨k, -, group⟩ := s.rxCount_cases p bs
  · rwa [plain]
  · rw [group]; exact counted.trans (State.ethCnt_regsBut _ p k)

theorem State.rd_ethCnt_ne {k j : Nat} (other : j ≠ 29 * p + k) : (s.ethCnt p k).rd F.ETH_CNT_COUNT j = s.rd F.ETH_CNT_COUNT j :=
  s.rd_wr_elem _ _ _ _ _ other

theorem State.octetsCounted_spec (n : Nat) :
    (s.octetsCounted p n).rd F.ETH_CNT_COUNT (29 * p + 1) = (s.rd F.ETH_CNT_COUNT (29 * p + 1) + 1) % 2 ^ F.ETH_CNT_COUNT.width
    ∧ (s.octetsCounted p n).rd F.ETH_CNT_COUNT (29 * p) = (s.rd F.ETH_CNT_COUNT (29 * p) + n) % 2 ^ F.ETH_CNT_COUNT.width := by
  rw [State.octetsCounted, State.bumpBy_eq_wr]
  refine ⟨?_, ?_⟩
  · rw [State.rd_wr_elem _ _ _ _ _ _ (by omega), State.rd_ethCnt]
  · rw [State.rd_wr_same, State.rd_ethCnt_ne _ _ (by omega)]

/-- A frame counts, with its octets. -/
theorem State.rxCount_spec :
    (s.rxCount p bs).rd F.ETH_CNT_COUNT (29 * p + 1) = (s.rd F.ETH_CNT_COUNT (29 * p + 1) + 1) % 2 ^ F.ETH_CNT_COUNT.width
    ∧ (s.rxCount p bs).rd F.ETH_CNT_COUNT (29 * p) = (s.rd F.ETH_CNT_COUNT (29 * p) + bs.length) % 2 ^ F.ETH_CNT_COUNT.width := by
  rw [← (s.octetsCounted_spec p bs.length).1, ← (s.octetsCounted_spec p bs.length).2]
  obtain plain | ⟨k, beside, group⟩ := s.rxCount_cases p bs
  · rw [plain]; exact ⟨rfl, rfl⟩
  · rw [group]; exact ⟨State.rd_ethCnt_ne _ _ (by omega), State.rd_ethCnt_ne _ _ (by omega)⟩

/-! ### The place in the pipeline (07 R152, 12 R271) -/

/-- A receive time-stamp changes its counters alone, and no frame in flight. -/
theorem State.rxStamp_spec (sn : Snap) (h : Hdr) : RegsBut [F.RUL_CNT_COUNT, F.RUL_TS_STAT_NOREC_EVT] s (s.rxStamp sn p h bs).1
    ∧ (s.rxStamp sn p h bs).1.flight = s.flight := by
  have captured (comp : Int) : RegsBut [F.RUL_CNT_COUNT, F.RUL_TS_STAT_NOREC_EVT] s (s.captureAt sn false p (s.capMask.get 0 p) comp).1
      ∧ (s.captureAt sn false p (s.capMask.get 0 p) comp).1.flight = s.flight := by
    unfold State.captureAt
    split
    · exact ⟨RegsBut.of_regs rfl, rfl⟩
    · exact ⟨(RegsBut.refl.wr F.RUL_CNT_COUNT 2 _ (by decide)).wr F.RUL_TS_STAT_NOREC_EVT 0 1 (by decide), rfl⟩
  unfold State.rxStamp
  split
  · exact captured _
  · exact ⟨RegsBut.refl, rfl⟩

/-- A frame enters a pipeline that runs behind those in flight. -/
theorem State.enter_spec {f : Flight} (runs : s.recovering (pipeOf f.port) = false) :
    (s.enter f).flight = s.flight ++ [f] ∧ RegsBut [F.PP_DECLINE_CNT_COUNT] s (s.enter f) := by
  rw [State.enter, if_neg (Bool.eq_false_iff.mp runs)]
  split
  · exact ⟨rfl, RegsBut.refl.wr F.PP_DECLINE_CNT_COUNT _ _ (by decide)⟩
  · exact ⟨rfl, RegsBut.refl⟩

/-- A frame that is no presence message of one of the port's networks, on a port without MACsec, is a frame for the pipeline. -/
theorem State.arrived_data (plain : s.cipRx p = false) (data : s.presenceOf p bs = none) (idle : s.arriving p = none) :
    s.arrived p bs = (s.rxStamp s.snap p (s.parse (pipeOf p) p false bs) bs).1.enter
      (Flight.good p bs (s.rxStamp s.snap p (s.parse (pipeOf p) p false bs) bs).2) := by
  simp only [State.arrived, plain, data, State.arrivedPlain, idle, Bool.false_eq_true, if_false, ite_self]
  rfl

/-- Counting a frame changes nothing that decides what it is. -/
theorem State.cipRx_rxCount : (s.rxCount p bs).cipRx p = s.cipRx p := by
  have same := s.rxCount_regsBut p bs
  obtain ⟨r, counted⟩ := s.rxCount_eq p bs
  simp only [State.cipRx, State.on, same F.CIP_PORT_RX_EN p (by decide), State.secure]
  rw [counted]

theorem State.presenceOf_rxCount : (s.rxCount p bs).presenceOf p bs = s.presenceOf p bs := by
  have same := s.rxCount_regsBut p bs
  have nets : (s.rxCount p bs).nslOn = s.nslOn := by
    obtain ⟨r, counted⟩ := s.rxCount_eq p bs
    rw [counted]
  have runs (k : Nat) : (s.rxCount p bs).netOn k = s.netOn k := by
    rw [State.netOn, State.on, same F.NSL_CTL_EN 0 (by decide), nets]; rfl
  have member (k : Nat) : (s.rxCount p bs).netHas k p = s.netHas k p := State.bit_congr p (same F.NSL_NET_MEMBERS k (by decide))
  unfold State.presenceOf
  dsimp only
  rw [same F.NSL_ETYPE_ETYPE 0 (by decide), runs, member]

/-- What becomes of a good data frame: it counts, and enters its pipeline with its time-stamp. -/
theorem State.arrived_spec (ready : s.Receives p) (plain : s.cipRx p = false) (data : s.presenceOf p bs = none) :
    (∃ ts, ((s.rxCount p bs).arrived p bs).flight = s.flight ++ [Flight.good p bs ts])
    ∧ RegsBut [F.RUL_CNT_COUNT, F.RUL_TS_STAT_NOREC_EVT, F.PP_DECLINE_CNT_COUNT] (s.rxCount p bs) ((s.rxCount p bs).arrived p bs) := by
  have flight : (s.rxCount p bs).flight = s.flight := by
    obtain ⟨r, counted⟩ := s.rxCount_eq p bs
    rw [counted]
  have idle : (s.rxCount p bs).arriving p = none := by
    rw [State.arriving, State.flightWith, flight]
    exact ready.idle
  rw [State.arrived_data _ p bs ((s.cipRx_rxCount p bs).trans plain) ((s.presenceOf_rxCount p bs).trans data) idle]
  obtain ⟨stamps, inFlight⟩ := (s.rxCount p bs).rxStamp_spec p bs (s.rxCount p bs).snap ((s.rxCount p bs).parse (pipeOf p) p false bs)
  generalize (s.rxCount p bs).rxStamp (s.rxCount p bs).snap p ((s.rxCount p bs).parse (pipeOf p) p false bs) bs = stamped at stamps inFlight ⊢
  have runs : stamped.1.recovering (pipeOf (Flight.good p bs stamped.2).port) = false := by
    have others := (stamps F.PP_STAT_RECOVERING (pipeOf p) (by decide)).trans (s.rxCount_regsBut p bs F.PP_STAT_RECOVERING (pipeOf p) (by decide))
    exact (congrArg (fun n => decide (n ≠ 0)) others).trans ready.runs
  obtain ⟨entered, declined⟩ := stamped.1.enter_spec runs
  exact ⟨⟨_, entered.trans (by rw [inFlight, flight])⟩, (stamps.mono (by decide)).trans (declined.mono (by decide))⟩

end
end Sys2Proof.Machine
end

section
/-! SUPPORT. The grant of speculative transmissions (spec 07 R157, R158), their release (R159) and strike blocks (R161). -/
namespace Sys2Proof.Machine

/-! ### The order of R157 -/

/-- From the predicted port `m` on: `P` of the code of the first condition that fails, and `Q` where none does. -/
def State.egressOrder (s : State) (i p m cls : Nat) (free lost : Bool) (P : Nat → Prop) (Q : Prop) : Prop :=
  if m = p then P 0x05
  else if 40 ≤ m ∨ s.bit F.PP_QS_EGR_EN_PORT i m = false then P 0x06
  else if s.specReady m cls = false then P 0x07
  else if free = false then P 0x08
  else if s.queueEmpty (8 * m + cls) = false then P 0x09
  else if s.cbsReady m cls = false then P 0x0A
  else if s.portMbps p < s.portMbps m then P 0x0B
  else if 2 ≤ s.slotsUsed m ∧ lost = false then P 0x0C
  else if s.strikeHold p = true then P 0x0D
  else if lost = true then P 0x0E
  else Q

theorem State.egressOrder_of_code {s : State} {i p m cls : Nat} {free lost : Bool} {P : Nat → Prop} {Q : Prop}
    (holds : (s.egressCode i p m cls free lost).elim Q P) : s.egressOrder i p m cls free lost P Q := by
  simpa only [State.egressOrder, State.egressCode, apply_ite (fun o => Option.elim o Q P), Option.elim_some, Option.elim_none, Bool.not_eq_true']
    using holds

/-- The same of a frame with header `h`, from the first condition on; `found` is what the Stroke cache holds for it. -/
def State.grantOrder (s : State) (p : Nat) (h : Hdr) (found : Option (Nat × Stroke)) (free lost : Bool) (P : Nat → Prop)
    (Q : Stroke → Prop) : Prop :=
  if ¬(s.on F.PP_CTL_QS_EN (pipeOf p) = true ∧ s.bit F.PP_QS_PORT_EN_PORT (pipeOf p) (portBit p) = true ∧ s.rd F.PWR_STAT_STATE 0 ≤ 1) then P 1
  else if h.da.testBit 40 = true then P 2
  else match found with
    | none => P 3
    | some (_, e) =>
      if e.noSpec = true ∨ s.cipTx e.egr = true ∨ s.pairBars p e.egr h.hsr = true then P 4
      else s.egressOrder (pipeOf p) p e.egr (s.initClass (pipeOf p) p h) free lost P (Q e)

/-- The addresses that IEEE 802.1 reserves are group addresses. -/
theorem reserved_group {da : Nat} (low : 0x0180C2000000 ≤ da) (high : da ≤ 0x0180C200000F) : da.testBit 40 = true := by
  rw [Nat.testBit_eq_decide_div_mod_eq, decide_eq_true_eq]
  omega

theorem State.qsOff_eq (s : State) {p : Nat} (eth : p < 40) : s.qsOff p = true ↔
    ¬(s.on F.PP_CTL_QS_EN (pipeOf p) = true ∧ s.bit F.PP_QS_PORT_EN_PORT (pipeOf p) (portBit p) = true ∧ s.rd F.PWR_STAT_STATE 0 ≤ 1) := by
  simp only [State.qsOff, eth, decide_true, Bool.and_true, Bool.not_eq_true', ← Bool.not_eq_true, Bool.and_eq_true, decide_eq_true_eq, and_assoc]

/-- What a check finds, in the order of R157: a code, or a transmission to the predicted port. -/
theorem State.grantOf_order {s : State} {p : Nat} {h : Hdr} {ent : Option Stroke} {found : Option (Nat × Stroke)} {free lost mFree mLost : Bool}
    {P : Nat → Prop} {Q : Stroke → Prop} (eth : p < 40) (cached : h.da.testBit 40 = false → ent = found.map Prod.snd)
    (declined : ∀ c, s.grantOf p h ent free lost mFree mLost = .inl c → P c)
    (granted : ∀ e x, s.grantOf p h ent free lost mFree mLost = .inr x → x.egr = e.egr → x.cls = s.initClass (pipeOf p) p h → x.st = .granted
      → Q e) :
    s.grantOrder p h found free lost P Q := by
  unfold State.grantOrder
  split
  · next off => exact declined 1 (if_pos ((s.qsOff_eq eth).mpr off))
  next on =>
  have notOff : ¬s.qsOff p = true := mt (s.qsOff_eq eth).mp on
  split
  · next group => exact declined 2 ((if_neg notOff).trans (if_pos (by rw [group]; rfl)))
  next unicast =>
  obtain rfl := cached (Bool.eq_false_iff.mpr unicast)
  have notGroup : ¬(h.da.testBit 40 || (decide (0x0180C2000000 ≤ h.da) && decide (h.da ≤ 0x0180C200000F))) = true := by
    simp only [Bool.or_eq_true, Bool.and_eq_true, decide_eq_true_eq, not_or]
    exact ⟨unicast, fun ⟨low, high⟩ => unicast (reserved_group low high)⟩
  split
  · exact declined 3 ((if_neg notOff).trans (if_neg notGroup))
  next n e =>
  split
  · next barred => exact declined 4 ((if_neg notOff).trans ((if_neg notGroup).trans (if_pos (by simpa [or_assoc] using barred))))
  next allowed =>
  have found : ¬(e.noSpec || s.cipTx e.egr || s.pairBars p e.egr h.hsr) = true := by simpa [or_assoc] using allowed
  simp only [State.grantOf, if_neg notOff, if_neg notGroup, Option.map_some, if_neg found] at declined granted
  apply State.egressOrder_of_code
  cases code : s.egressCode (pipeOf p) p e.egr (s.initClass (pipeOf p) p h) free lost with
  | some c =>
    rw [code] at declined
    exact declined c rfl
  | none =>
    rw [code] at granted
    exact granted e _ rfl rfl rfl rfl

/-! ### The grant check -/

/-- A frame enters its pipeline with what its check found. -/
def State.checked (s : State) (i : Nat) (f : Flight) : Nat ⊕ Spec → State
  | .inl c => (s.decline i c).enter f
  | .inr x => s.enter { f with spec := some x }

/-- The entry of the Stroke cache for a frame, of which a group address has none. -/
def State.strokeHit (s : State) (p : Nat) (h : Hdr) : Option (Nat × Stroke) :=
  if h.da.testBit 40 then none else s.strokeFind (pipeOf p) p h.da (s.frameVid (pipeOf p) p h)

/-- The use of an entry changes the Stroke cache alone. -/
theorem State.strokeTouch_eq (s : State) (n : Nat) : ∃ c, s.strokeTouch n = { s with strokes := c } := by
  unfold State.strokeTouch
  split
  · dsimp only
    split <;> exact ⟨_, rfl⟩
  · exact ⟨_, rfl⟩

/-- A frame whose check has been made, on its way to Stroke port `p`. -/
def State.checking (s : State) (p : Nat) (bs : List Byte) (secured : Bool) : Flight :=
  { Flight.good p bs 0xFFFF with whole := false, secured := secured, snap := some s.snap }

/-- The state after the use of the entry for a frame, if there is one. -/
def State.stroked (s : State) (p : Nat) (h : Hdr) : State :=
  match s.strokeHit p h with
  | some (n, _) => s.strokeTouch n
  | none => s

theorem State.stroked_eq (s : State) (p : Nat) (h : Hdr) : ∃ c, s.stroked p h = { s with strokes := c } := by
  unfold State.stroked
  split
  · exact s.strokeTouch_eq _
  · exact ⟨_, rfl⟩

theorem State.checked_out (s : State) (i : Nat) (f : Flight) (g : Nat ⊕ Spec) :
    (match g with
      | .inl c => (.next ((s.decline i c).enter f) : Out)
      | .inr x => .next (s.enter { f with spec := some x })) = .next (s.checked i f g) := by
  cases g <;> rfl

/-- A check finds what the conditions give, which the use of the entry does not change. -/
theorem exec_qsGrantCheck {s : State} {p : Fin 40} {bs : List Byte} (secured free lost mFree mLost : Bool) (ready : s.Receives p)
    (data : s.consumed bs = false) (other : s.presenceOf p bs = none) :
    ∃ c, exec (.qsGrantCheck p bs secured free lost mFree mLost) s = .next (State.checked { s with strokes := c } (pipeOf p)
      (s.checking p bs secured) (s.grantOf p (s.parse (pipeOf p) p secured bs)
        ((s.strokeHit p (s.parse (pipeOf p) p secured bs)).map Prod.snd) free lost mFree mLost)) := by
  obtain ⟨c, used⟩ := s.stroked_eq p (s.parse (pipeOf p) p secured bs)
  have runs : ¬s.recovering (pipeOf p) = true := Bool.eq_false_iff.mp ready.runs
  have takes : ¬(!(s.on F.ETH_CTL_RX_EN p && s.on F.ETH_STAT_LINK p) || !s.portLive p || s.portRestructuring p || s.consumed bs
      || (s.presenceOf p bs).isSome || (s.port p).gone || (s.arriving p).isSome) = true := by
    simp [ready.enabled, ready.link, ready.live, ready.steady, ready.kept, ready.idle, data, other]
  refine ⟨c, (if_neg takes).trans ((if_neg runs).trans ?_)⟩
  refine (State.checked_out (s.stroked p (s.parse (pipeOf p) p secured bs)) (pipeOf p)
    ((s.stroked p (s.parse (pipeOf p) p secured bs)).checking p bs secured)
    ((s.stroked p (s.parse (pipeOf p) p secured bs)).grantOf p (s.parse (pipeOf p) p secured bs)
      ((s.strokeHit p (s.parse (pipeOf p) p secured bs)).map Prod.snd) free lost mFree mLost)).trans ?_
  rw [used]
  rfl

/-- A frame that still arrives enters a pipeline that runs, and is not declined again. -/
theorem State.enter_arriving {s : State} {f : Flight} (runs : s.recovering (pipeOf f.port) = false) (arrives : f.whole = false) :
    s.enter f = { s with flight := s.flight ++ [f] } := by
  rw [State.enter, if_neg (Bool.eq_false_iff.mp runs), arrives]
  rfl

theorem State.recovering_decline (s : State) (i code j : Nat) : (s.decline i code).recovering j = s.recovering j :=
  congrArg (fun n => decide (n ≠ 0)) (s.rd_wr_fld F.PP_DECLINE_CNT_COUNT F.PP_STAT_RECOVERING _ j _ (by decide))

/-- From `s` to `t` a decline is counted under code `c` in pipeline `i`, and `f` enters without a transmission. -/
def State.Declined (s t : State) (i : Nat) (f : Flight) (c : Nat) : Prop :=
  t.rd F.PP_DECLINE_CNT_COUNT (14 * i + c - 1) = (s.rd F.PP_DECLINE_CNT_COUNT (14 * i + c - 1) + 1) % 2 ^ F.PP_DECLINE_CNT_COUNT.width
    ∧ RegsBut [F.PP_DECLINE_CNT_COUNT] s t ∧ t.flight = s.flight ++ [f]

/-- From `s` to `t` no register changes, and `f` enters with a transmission of class `cls` to the port that `e` names. -/
def State.Granted (s t : State) (f : Flight) (cls : Nat) (e : Stroke) : Prop :=
  ∃ x, t.flight = s.flight ++ [{ f with spec := some x }] ∧ x.egr = e.egr ∧ x.cls = cls ∧ x.st = .granted ∧ RegsBut [] s t

theorem State.checked_declined {s : State} {p : Nat} (bs : List Byte) (secured : Bool) (cache : Tbl Stroke) (runs : s.recovering (pipeOf p) = false)
    (c : Nat) :
    s.Declined (State.checked { s with strokes := cache } (pipeOf p) (s.checking p bs secured) (.inl c)) (pipeOf p) (s.checking p bs secured) c := by
  have still : (State.decline { s with strokes := cache } (pipeOf p) c).recovering (pipeOf (s.checking p bs secured).port) = false :=
    (State.recovering_decline ..).trans runs
  rw [State.checked, State.enter_arriving still rfl]
  exact ⟨s.rd_wr_same F.PP_DECLINE_CNT_COUNT _ _, RegsBut.refl.wr (s := s) F.PP_DECLINE_CNT_COUNT _ _ (by decide), rfl⟩

theorem State.checked_granted {s : State} {p : Nat} (bs : List Byte) (secured : Bool) (cache : Tbl Stroke) (runs : s.recovering (pipeOf p) = false)
    {x : Spec} {e : Stroke} (egr : x.egr = e.egr) (st : x.st = .granted) :
    s.Granted (State.checked { s with strokes := cache } (pipeOf p) (s.checking p bs secured) (.inr x)) (s.checking p bs secured) x.cls e := by
  rw [State.checked, State.enter_arriving runs rfl]
  exact ⟨x, rfl, egr, rfl, st, RegsBut.of_regs rfl⟩

/-- A check declines or grants in the order of R157. -/
theorem State.checked_order {s : State} {p : Nat} (bs : List Byte) (h : Hdr) (secured free lost mFree mLost : Bool) (cache : Tbl Stroke)
    (eth : p < 40) (runs : s.recovering (pipeOf p) = false) :
    let t := State.checked { s with strokes := cache } (pipeOf p) (s.checking p bs secured)
      (s.grantOf p h ((s.strokeHit p h).map Prod.snd) free lost mFree mLost)
    s.grantOrder p h (s.strokeFind (pipeOf p) p h.da (s.frameVid (pipeOf p) p h)) free lost (s.Declined t (pipeOf p) (s.checking p bs secured))
      (s.Granted t (s.checking p bs secured) (s.initClass (pipeOf p) p h)) := by
  have cached (unicast : h.da.testBit 40 = false) :
      (s.strokeHit p h).map Prod.snd = (s.strokeFind (pipeOf p) p h.da (s.frameVid (pipeOf p) p h)).map Prod.snd := by
    rw [State.strokeHit, if_neg (Bool.eq_false_iff.mp unicast)]
  refine State.grantOf_order (mFree := mFree) (mLost := mLost) eth cached (fun c declined => ?_) fun e x granted egr cls st => ?_
  · rw [declined]; exact State.checked_declined bs secured cache runs c
  · rw [granted, ← cls]; exact State.checked_granted bs secured cache runs egr st

/-! ### The release point and strike blocks (R159, R161) -/

/-- No frame in flight has both parts of its verdict, so none is settled. -/
theorem State.settleAll_of_quiet {s : State} (quiet : s.flight.any (fun g => g.integ && g.verdict.isSome) = false) : s.settleAll = s :=
  if_neg (Bool.eq_false_iff.mp quiet)

theorem State.settleAll_setFlight {s : State} (n : Nat) {f : Flight} (quiet : s.flight.any (fun g => g.integ && g.verdict.isSome) = false)
    (undecided : (f.integ && f.verdict.isSome) = false) : (s.setFlight n f).settleAll = s.setFlight n f := by
  refine State.settleAll_of_quiet (List.any_eq_false.mpr fun g mem => ?_)
  rcases List.mem_or_eq_of_mem_set mem with mem | rfl
  · exact List.any_eq_false.mp quiet g mem
  · exact Bool.eq_false_iff.mp undecided

/-- The oldest granted transmission of port `p`'s frames. -/
def State.oldestGranted (s : State) (p : Nat) : Option (Nat × Flight) :=
  s.flightWith fun f => decide (f.port = p) && (match f.spec with | some x => decide (x.st = .granted) | none => false)

theorem exec_qsRelease {s : State} {p : Fin 40} {n : Nat} {f : Flight} {x : Spec} (oldest : s.oldestGranted p = some (n, f)) (spec : f.spec = some x)
    (free : s.specBusy x = false) (quiet : s.flight.any (fun g => g.integ && g.verdict.isSome) = false) (undecided : f.integ = false) :
    exec (.qsRelease p) s = .next (s.setFlight n
      { f with spec := some { x with st := if s.specHolds x = true then .sending else .withdrawn, sent := s.snap, since := s.now } }) := by
  change (match s.oldestGranted p with
    | some (n, f) => match f.spec with
      | some x => if s.specBusy x then (.next s : Out)
        else .next (s.setFlight n
          { f with spec := some { x with st := if s.specHolds x then .sending else .withdrawn, sent := s.snap, since := s.now } }).settleAll
      | none => .next s
    | none => .next s) = _
  rw [oldest]
  dsimp only
  rw [spec]
  dsimp only
  rw [if_neg (Bool.eq_false_iff.mp free), State.settleAll_setFlight n quiet (by rw [undecided]; rfl)]

/-- A strike block from a peer counts, and the frame that it ends has failed. -/
theorem exec_strikeBlockRx_idle {s : State} {q : Fin 8} (peer : (s.on F.ETH_STAT_PEER q && s.on F.ETH_CTL_RX_EN q) = true)
    (idle : s.arriving q = none) : exec (.strikeBlockRx q) s = .next (s.ethCnt q 11) := by
  have still : (s.ethCnt q 11).arriving q = none := idle
  change execStrikeBlockRx q s = _
  simp only [execStrikeBlockRx, if_pos peer, still]

theorem exec_strikeBlockRx_ends {s : State} {q : Fin 8} {n : Nat} {f : Flight} (peer : (s.on F.ETH_STAT_PEER q && s.on F.ETH_CTL_RX_EN q) = true)
    (arrives : s.arriving q = some (n, f)) (quiet : s.flight.any (fun g => g.integ && g.verdict.isSome) = false) (undecided : f.verdict = none) :
    exec (.strikeBlockRx q) s = .next ((s.ethCnt q 11).setFlight n { f with whole := true, fcsOk := false, integ := true }) := by
  have still : (s.ethCnt q 11).arriving q = some (n, f) := arrives
  change execStrikeBlockRx q s = _
  simp only [execStrikeBlockRx, if_pos peer, still]
  rw [State.settleAll_setFlight (s := s.ethCnt q 11) n quiet (by rw [undecided]; rfl)]

end Sys2Proof.Machine
end

section
/-! SUPPORT. The statement about frames that arrive, and are granted or declined. -/
namespace Sys2Proof
open Sys2Proof.Machine

/-- Settles O30: a frame's check decides its one count (`rxFail`), `grantOf_order` has the conditions in R157's order, and while no frame has
both parts of its verdict none is settled. -/
theorem framesArriveAndAreGrantedOrDeclined : Obligations.FramesArriveAndAreGrantedOrDeclined := by
  unfold Obligations.FramesArriveAndAreGrantedOrDeclined
  intro s p bs good secured free lost mFree mLost
  refine ⟨fun ready short => ?_, fun ready enough long => ?_, fun ready enough fits => ?_, fun ready enough fits data plain => ?_,
    fun ready data => ?_, fun n f x oldest spec free quiet undecided => ?_,
    fun q => ⟨fun peer idle => ?_, fun n f peer arrives quiet undecided => ?_, fun other => ?_⟩⟩
  · exact ⟨_, exec_frameReceived_bad (State.receives_of ready) (s.rxFail_short p bs good short), s.rd_ethCnt p 5, s.ethCnt_regsBut p 5, rfl⟩
  · have fails := s.rxFail_long p bs good enough (of_decide_eq_true long)
    exact ⟨_, exec_frameReceived_bad (State.receives_of ready) fails, s.rd_ethCnt p 6, s.ethCnt_regsBut p 6, rfl⟩
  · have fails := s.rxFail_fits p bs false enough (of_decide_eq_false fits)
    exact ⟨_, exec_frameReceived_bad (State.receives_of ready) fails, s.rd_ethCnt p 4, s.ethCnt_regsBut p 4, rfl⟩
  · have passes := s.rxFail_fits p bs true enough (of_decide_eq_false fits)
    rw [Bool.and_eq_true, Bool.not_eq_true', Option.isNone_iff_eq_none] at data
    obtain ⟨frame, other⟩ := data
    obtain ⟨entered, others⟩ := s.arrived_spec p bs (State.receives_of ready) plain other
    obtain ⟨counted, octets⟩ := s.rxCount_spec p bs
    exact ⟨_, exec_frameReceived_good (State.receives_of ready) passes frame, (others _ _ (by decide)).trans counted, entered,
      (others _ _ (by decide)).trans octets⟩
  · rw [Bool.and_eq_true, Bool.not_eq_true', Option.isNone_iff_eq_none] at data
    obtain ⟨frame, other⟩ := data
    obtain ⟨cache, run⟩ := exec_qsGrantCheck secured free lost mFree mLost (State.receives_of ready) frame other
    exact ⟨_, run, State.checked_order bs _ secured free lost mFree mLost cache p.isLt (State.receives_of ready).runs⟩
  · exact ⟨_, exec_qsRelease oldest spec free quiet undecided, rfl⟩
  · exact ⟨_, exec_strikeBlockRx_idle peer idle, rfl⟩
  · exact ⟨_, exec_strikeBlockRx_ends peer arrives quiet undecided, rfl⟩
  · exact ⟨_, if_neg (Bool.eq_false_iff.mp other), rfl⟩

end Sys2Proof
end

section
/-! SUPPORT. The statement about links of Ethernet ports: a register file that the model's writes never make refutes it. -/
namespace Sys2Proof
open Sys2Proof.Machine

/-- Port 9, of mode 1, sleeps in DOZE and is watched for its link (04 R98), and the one bit VALID of AOC_WAKE_SRC holds 2. A write keeps
the bits of a field's width alone, but the statement is about every register file. -/
def wideValid : State :=
  { State.reset with
    regs := [((F.PWR_STAT_STATE.id, 0), 2), ((F.ETH_MODE_MODE.id, 9), 1), ((F.ETH_WAKE_CFG_LINK_WAKE.id, 9), 1),
      ((F.ETH_WAKE_CFG_EN.id, 9), 1), ((F.AOC_WAKE_SRC_VALID.id, 0), 2)] }

/-- The wake that the link brings about finds VALID not 0, so it sets MORE and leaves VALID as it is. -/
theorem linkUp_wideValid (t : State) (run : exec (.linkUp 9 0 0) wideValid = .next t) : t.rd F.AOC_WAKE_SRC_VALID 0 = 2 := by
  have valid : (leaves (exec (.linkUp 9 0 0) wideValid) wideValid).rd F.AOC_WAKE_SRC_VALID 0 = 2 := by decide +kernel
  rwa [run] at valid

/-- Refutes O21: a link that comes up in DOZE leaves an AOC_WAKE_SRC.VALID that already holds 2, where the statement has it read 1. -/
theorem not_ethernetLinksComeAndGo : ¬ Obligations.EthernetLinksComeAndGo := by
  unfold Obligations.EthernetLinksComeAndGo
  intro holds
  obtain ⟨-, -, -, up, -⟩ := holds wideValid 9 false false false 0 0 0
  obtain ⟨t, run, valid, -⟩ := up (by decide) (by decide) (by decide)
  have reads := valid (by decide) (by decide) rfl
  rw [linkUp_wideValid t run] at reads
  contradiction

end Sys2Proof
end

section
/-! SUPPORT. The state without some register fields, its CAN lanes and its queues: what the operations of CAN lanes leave as it was. -/
namespace Sys2Proof.Machine

/-! ### The register file without some fields -/

/-- The register file without the fields `fs`. -/
def RegFile.but (r : RegFile) (fs : List Fld) : RegFile := r.filter (fun e => decide (e.1.1 ∉ fs.map Fld.id))

namespace RegFile
variable {fs gs : List Fld} {r r' : RegFile}

theorem but_cons (fs : List Fld) (e : RegKey × Nat) (t : RegFile) :
    but (e :: t) fs = if e.1.1 ∈ fs.map Fld.id then t.but fs else e :: t.but fs := by
  by_cases h : e.1.1 ∈ fs.map Fld.id
  · rw [if_pos h]; exact List.filter_cons_of_neg (by simpa using h)
  · rw [if_neg h]; exact List.filter_cons_of_pos (by simpa using h)

theorem but_drop (r : RegFile) {k : RegKey} (hk : k.1 ∈ fs.map Fld.id) : (r.drop k).but fs = r.but fs := by
  induction r with
  | nil => rfl
  | cons e t ih =>
    obtain ⟨j, v⟩ := e
    by_cases same : j = k
    · rw [drop, if_pos same, but_cons, if_pos (same ▸ hk), ih]
    · rw [drop, if_neg same, but_cons, but_cons, ih]

theorem but_put (r : RegFile) {k : RegKey} (v : Nat) (hk : k.1 ∈ fs.map Fld.id) : (r.put k v).but fs = r.but fs := by
  induction r with
  | nil => rw [put, but_cons, if_pos hk]
  | cons e t ih =>
    unfold put
    split
    · rw [but_cons, if_pos hk]
    · rw [but_cons, but_cons, ih]

theorem but_set (r : RegFile) {f : Fld} (i v : Nat) (hf : f.id ∈ fs.map Fld.id) : (r.set f i v).but fs = r.but fs := by
  unfold RegFile.set
  dsimp only
  split
  · exact but_drop r hf
  · exact (but_put _ _ hf).trans (but_drop r hf)

theorem but_but (r : RegFile) (sub : fs.map Fld.id ⊆ gs.map Fld.id) : (r.but fs).but gs = r.but gs := by
  unfold but
  rw [List.filter_filter]
  refine List.filter_congr fun e _ => ?_
  by_cases inGs : e.1.1 ∈ gs.map Fld.id
  · simp [inGs]
  · have inFs : e.1.1 ∉ fs.map Fld.id := fun h => inGs (sub h)
    simp [inGs, inFs]

theorem get_of_but (same : r'.but fs = r.but fs) (f : Fld) (i : Nat) (hf : f.id ∉ fs.map Fld.id) : r'.get f i = r.get f i := by
  have kept (q : RegFile) : (q.but fs).find (f.id, i) = q.find (f.id, i) := by
    rw [but, find_filter q (fun k => decide (k.1 ∉ fs.map Fld.id)), if_pos (by simpa using hf)]
  rw [get, ← kept, same, kept, get]

theorem filter_of_but (same : r'.but fs = r.but fs) (f : Fld) (hf : f.id ∉ fs.map Fld.id) :
    r'.filter (fun e => decide (e.1.1 = f.id)) = r.filter (fun e => decide (e.1.1 = f.id)) := by
  have kept (q : RegFile) : (q.but fs).filter (fun e => decide (e.1.1 = f.id)) = q.filter (fun e => decide (e.1.1 = f.id)) := by
    rw [but, List.filter_filter]
    refine List.filter_congr fun e _ => ?_
    by_cases is : e.1.1 = f.id
    · simp only [is, hf, decide_true, not_false_eq_true, Bool.and_self]
    · simp [is]
  rw [← kept, same, kept]

end RegFile

/-! ### The state without them -/

/-- The state without the register fields `fs`, and without what CAN lanes, queues, time-stamps, policers and reports on their way hold. -/
def State.but (s : State) (fs : List Fld) : State :=
  { s with
    regs := s.regs.but fs, can := [], frames := [], queues := [], ink := State.reset.ink, tsRecs := [], txRing := [], txReqCount := []
    tokens := [], routerMac := 0, drainMet := false, transit := [], freeCtr := 0 }

/-- `t` differs from `s` in the register fields `fs`, and in what CAN lanes, queues, time-stamps, policers and reports hold, alone. -/
def Apart (fs : List Fld) (s t : State) : Prop := t.but fs = s.but fs

namespace Apart
variable {fs gs : List Fld} {s t u : State}

theorem refl : Apart fs s s := rfl

theorem trans (h : Apart fs s t) (h' : Apart fs t u) : Apart fs s u := Eq.trans h' h

theorem mono (h : Apart fs s t) (sub : fs.map Fld.id ⊆ gs.map Fld.id) : Apart gs s t := by
  have fewer (q : State) : (q.but fs).but gs = q.but gs := by rw [State.but, State.but, RegFile.but_but _ sub]; rfl
  exact (fewer t).symm.trans ((congrArg (fun q => q.but gs) h).trans (fewer s))

/-- A write of one of the fields, after what changes no other. -/
theorem wr (h : Apart fs s t) (f : Fld) (i v : Nat) (hf : f.id ∈ fs.map Fld.id) : Apart fs s (t.wr f i v) := by
  have gone : (t.wr f i v).but fs = t.but fs := by
    rw [State.but, State.but, State.wr, RegFile.but_set _ _ _ hf]
  exact gone.trans h

theorem ite {c : Prop} [Decidable c] (ht : Apart fs s t) (hu : Apart fs s u) : Apart fs s (if c then t else u) := by
  split <;> assumption

theorem foldl {α : Type} {g : State → α → State} (l : List α) (s : State) (h : ∀ t x, Apart fs t (g t x)) : Apart fs s (l.foldl g s) :=
  List.foldlRecOn l g (motive := Apart fs s) refl fun t ht x _ => ht.trans (h t x)

section
variable (h : Apart fs s t)
include h

theorem rd (f : Fld) (i : Nat) (hf : f.id ∉ fs.map Fld.id) : t.rd f i = s.rd f i :=
  RegFile.get_of_but (congrArg State.regs h) f i hf

theorem on (f : Fld) (i : Nat) (hf : f.id ∉ fs.map Fld.id) : t.on f i = s.on f i := by rw [State.on, h.rd f i hf, State.on]

theorem bit (f : Fld) (i b : Nat) (hf : f.id ∉ fs.map Fld.id) : t.bit f i b = s.bit f i b := State.bit_congr b (h.rd f i hf)

theorem listed (f : Fld) (hf : f.id ∉ fs.map Fld.id) : t.listed f = s.listed f :=
  congrArg (List.map _) (RegFile.filter_of_but (congrArg State.regs h) f hf)

theorem flight : t.flight = s.flight := (congrArg State.flight h :)
theorem canBad : t.canBad = s.canBad := (congrArg State.canBad h :)
theorem lastTx : t.lastTx = s.lastTx := (congrArg State.lastTx h :)
theorem t1s : t.t1s = s.t1s := (congrArg State.t1s h :)
theorem phase : t.phase = s.phase := (congrArg State.phase h :)
theorem pwr : t.pwr = s.pwr := (congrArg State.pwr h :)
theorem recov : t.recov = s.recov := (congrArg State.recov h :)
theorem nslOn : t.nslOn = s.nslOn := (congrArg State.nslOn h :)
theorem secure (p : Nat) : t.secure p = s.secure p := congrArg (fun q => q.secpol.testBit p) h

end
end Apart

/-! ### What the queues' operations leave (spec 09) -/

/-- What CAN lane `n` holds, but for the heads that have passed its checks. -/
def State.lane (s : State) (n : Nat) : CanLane := { s.canLane n with passed := [] }

/-- The fields that the operations on queues and time-stamps write. -/
abbrev queueFlds : List Fld :=
  [F.QUE_CNT_COUNT, F.QUE_PORT_CFG_LINGERING, F.QUE_PORT_CFG_DOWN_DROP, F.TBL_EPOCH_EPOCH, F.TBL_STAT_BUMP_HELD, F.TBL_STAT_APPLYING,
    F.TBL_STAT_DRAIN_DONE_EVT, F.RUL_CNT_COUNT, F.RUL_TS_STAT_NOREC_EVT, F.RUL_TS_STAT_TXQ_OVF_EVT, F.RUL_TXQ_HEAD_HEAD]

/-- `t` differs from `s` in what queues and time-stamps hold and show, and in the heads that have passed the lanes' checks, alone. -/
structure QueueOnly (s t : State) : Prop where
  apart : Apart queueFlds s t
  lane : ∀ m, t.lane m = s.lane m

namespace QueueOnly
variable {s t u : State}

theorem refl : QueueOnly s s := ⟨Apart.refl, fun _ => rfl⟩

theorem trans (h : QueueOnly s t) (h' : QueueOnly t u) : QueueOnly s u := ⟨h.apart.trans h'.apart, fun m => (h'.lane m).trans (h.lane m)⟩

/-- What the queues hold changed first. -/
theorem after (h : QueueOnly t u) (hidden : Apart queueFlds s t) (can : t.can = s.can) : QueueOnly s u :=
  ⟨hidden.trans h.apart, fun m => (h.lane m).trans (by rw [State.lane, State.canLane, can]; rfl)⟩

theorem wr (h : QueueOnly s t) (f : Fld) (i v : Nat) (hf : f.id ∈ queueFlds.map Fld.id) : QueueOnly s (t.wr f i v) :=
  ⟨h.apart.wr f i v hf, h.lane⟩

theorem ite {c : Prop} [Decidable c] (ht : QueueOnly s t) (hu : QueueOnly s u) : QueueOnly s (if c then t else u) := by
  split <;> assumption

theorem foldl {α : Type} {g : State → α → State} (l : List α) (s : State) (h : ∀ t x, QueueOnly t (g t x)) : QueueOnly s (l.foldl g s) :=
  List.foldlRecOn l g (motive := QueueOnly s) refl fun t ht x _ => ht.trans (h t x)

end QueueOnly

section
variable (s : State)

theorem State.tsDone_queueOnly (i : Nat) : QueueOnly s (s.tsDone i) := by
  unfold State.tsDone
  split
  · exact QueueOnly.refl.ite ⟨rfl, fun _ => rfl⟩
  · exact QueueOnly.refl

theorem State.tsHold_queueOnly (q i : Nat) : QueueOnly s (s.tsHold q i) := by
  unfold State.tsHold
  split
  · split
    · exact QueueOnly.refl.ite ⟨rfl, fun _ => rfl⟩
    · exact QueueOnly.refl
  · exact QueueOnly.refl

theorem State.finishRef_queueOnly (first : Nat) (pooled : Bool) : QueueOnly s (s.finishRef first pooled) := by
  unfold State.finishRef
  split
  · split
    · exact QueueOnly.after (State.tsDone_queueOnly _ _) rfl rfl
    · exact ⟨rfl, fun _ => rfl⟩
  · exact QueueOnly.refl

theorem State.finish_queueOnly (e : QEnt) (pooled : Bool) : QueueOnly s (s.finish e pooled) := by
  unfold State.finish
  exact QueueOnly.after (State.finishRef_queueOnly _ _ _) rfl rfl

theorem State.finishIn_queueOnly (q : Nat) (e : QEnt) (pooled : Bool) : QueueOnly s (s.finishIn q e pooled) := by
  refine QueueOnly.trans ?_ (State.finish_queueOnly _ _ _)
  split
  · exact s.tsHold_queueOnly q _
  · exact QueueOnly.refl

theorem State.lane_setCan_same (n : Nat) (x : CanLane) : (s.setCan n x).lane n = { x with passed := [] } := by
  rw [State.lane, State.canLane_setCan_same]

theorem State.forgetHead_queueOnly (q : Nat) : QueueOnly s (s.forgetHead q) := by
  unfold State.forgetHead
  split
  · refine ⟨rfl, fun m => ?_⟩
    by_cases same : m = (q - 320) / 4
    · rw [same]; exact s.lane_setCan_same _ _
    · exact congrArg (fun x : CanLane => { x with passed := [] }) (s.canLane_setCan_ne _ _ _ same)
  · exact QueueOnly.refl

theorem State.flushQueue_queueOnly (q k : Nat) : QueueOnly s (s.flushQueue q k) := by
  unfold State.flushQueue
  dsimp only
  have stored (t : State) (l : List MidFrame) :
      QueueOnly t (l.foldl (fun t m => (t.tsHold q m.frame.tsIndex).tsDone m.frame.tsIndex) t) :=
    QueueOnly.foldl l t fun t m => (t.tsHold_queueOnly q _).trans (State.tsDone_queueOnly _ _)
  have ended (t : State) (l : List QEnt) (pooled : Bool) : QueueOnly t (l.foldl (fun t e => t.finishIn q e pooled) t) :=
    QueueOnly.foldl l t fun t e => t.finishIn_queueOnly q e pooled
  have forgets : QueueOnly s (if (s.startedHead q).isEmpty then s.forgetHead q else s) := (s.forgetHead_queueOnly q).ite QueueOnly.refl
  refine QueueOnly.wr (QueueOnly.trans ?_ (stored _ _)) F.QUE_CNT_COUNT _ _ (by decide)
  exact ((forgets.trans (ended _ _ _)).trans (ended _ _ _)).trans ⟨rfl, fun _ => rfl⟩

theorem State.lingerEnd_queueOnly (p : Nat) : QueueOnly s (s.lingerEnd p) :=
  ((QueueOnly.foldl _ s fun t q => t.flushQueue_queueOnly q 5).wr F.QUE_PORT_CFG_LINGERING p 0 (by decide)).wr
    F.QUE_PORT_CFG_DOWN_DROP p 1 (by decide)

theorem State.queuesDown_queueOnly (p : Nat) (noLinger : Bool) : QueueOnly s (s.queuesDown p noLinger) :=
  (QueueOnly.foldl _ s fun t q => t.flushQueue_queueOnly q 5).trans
    ((State.lingerEnd_queueOnly _ p).ite (QueueOnly.refl.wr F.QUE_PORT_CFG_LINGERING p 1 (by decide)))

theorem State.queuesUp_queueOnly (p : Nat) : QueueOnly s (s.queuesUp p) :=
  (QueueOnly.refl.wr F.QUE_PORT_CFG_LINGERING p 0 (by decide)).wr F.QUE_PORT_CFG_DOWN_DROP p 0 (by decide)

end
end Sys2Proof.Machine
end

section
/-! SUPPORT. What ends a frame's stay in a queue or time-stamps it (spec 09, 12), and what leaves epochs (08), leave of lanes and registers. -/
namespace Sys2Proof.Machine

section
variable (s : State)

theorem State.unpool_queueOnly (first : Nat) : QueueOnly s (s.unpool first) := by
  unfold State.unpool
  split
  · exact ⟨rfl, fun _ => rfl⟩
  · exact QueueOnly.refl

theorem State.headIn_queueOnly (q : Nat) (m : MidFrame) (cells : List Nat) : QueueOnly s (s.headIn q m cells) := by
  unfold State.headIn
  split
  · exact ⟨rfl, fun _ => rfl⟩
  · exact QueueOnly.refl

theorem State.assemble_queueOnly (q fuel : Nat) : QueueOnly s (s.assemble q fuel) := by
  induction fuel generalizing s with
  | zero => exact QueueOnly.refl
  | succ fuel ih =>
    unfold State.assemble
    dsimp only
    split
    · exact QueueOnly.refl
    · refine QueueOnly.ite (QueueOnly.trans ?_ (ih _)) QueueOnly.refl
      exact (State.headIn_queueOnly _ _ _ _).after rfl rfl

theorem State.deepMove_queueOnly (q fuel : Nat) : QueueOnly s (s.deepMove q fuel) := by
  induction fuel generalizing s with
  | zero => exact QueueOnly.refl
  | succ fuel ih =>
    unfold State.deepMove
    dsimp only
    split
    · exact QueueOnly.refl
    · refine QueueOnly.ite (QueueOnly.trans ?_ (ih _)) QueueOnly.refl
      exact (State.unpool_queueOnly _ _).after rfl rfl

theorem State.deepService_queueOnly (q : Nat) : QueueOnly s (s.deepService q) := by
  have filled : QueueOnly s (s.asmFill q) := ⟨rfl, fun _ => rfl⟩
  exact QueueOnly.ite ((filled.trans (State.assemble_queueOnly _ _ _)).trans (State.deepMove_queueOnly _ _ _)) QueueOnly.refl

theorem State.take_queueOnly (q : Nat) : QueueOnly s (s.take q) := by
  have taken : QueueOnly s (s.setQueue q { s.queue q with head := (s.queue q).head.drop 1 }) := ⟨rfl, fun _ => rfl⟩
  exact (taken.wr F.QUE_CNT_COUNT _ _ (by decide)).trans (State.deepService_queueOnly _ q)

theorem State.canRemove_queueOnly (n q : Nat) (e : QEnt) : QueueOnly s (s.canRemove n q e) :=
  (((s.forgetHead_queueOnly q).trans (State.take_queueOnly _ q)).trans (State.finish_queueOnly _ e _)).ite QueueOnly.refl

/-! ### Time-stamps (12 R272, R274) and epochs (08 R191) -/

theorem State.captureAt_queueOnly (sn : Snap) (tx : Bool) (port mask : Nat) (comp : Int) :
    QueueOnly s (s.captureAt sn tx port mask comp).1 := by
  unfold State.captureAt
  split
  · exact ⟨rfl, fun _ => rfl⟩
  · exact (QueueOnly.refl.wr F.RUL_CNT_COUNT 2 _ (by decide)).wr F.RUL_TS_STAT_NOREC_EVT 0 1 (by decide)

theorem State.egressReport_queueOnly (r : TxReport) : QueueOnly s (s.egressReport r) := by
  have freed : QueueOnly s (s.freeTs r.recIdx) := ⟨rfl, fun _ => rfl⟩
  have ringed : QueueOnly s { s with txRing := s.txRing.put (s.rd F.RUL_TXQ_HEAD_HEAD 0) r } := ⟨rfl, fun _ => rfl⟩
  exact ((freed.wr F.RUL_CNT_COUNT 3 _ (by decide)).wr F.RUL_TS_STAT_TXQ_OVF_EVT 0 1 (by decide)).ite
    (ringed.wr F.RUL_TXQ_HEAD_HEAD 0 _ (by decide))

theorem State.laneTxStamp_queueOnly (sn : Snap) (n lat : Nat) (asked : Bool) : QueueOnly s (s.laneTxStamp sn n lat asked) := by
  unfold State.laneTxStamp
  split
  · exact QueueOnly.refl
  · have stamped := s.captureAt_queueOnly sn true (40 + n) (s.capMask.get 0 (40 + n)) (s.laneComp n lat)
    have counted (t : State) (c : Tbl Nat) : QueueOnly t { t with txReqCount := c } := ⟨rfl, fun _ => rfl⟩
    exact (stamped.trans (counted _ _)).trans (QueueOnly.refl.ite (State.egressReport_queueOnly _ _))

theorem State.bumpNow_queueOnly : QueueOnly s s.bumpNow := by
  unfold State.bumpNow
  refine QueueOnly.wr (QueueOnly.trans ?_ (QueueOnly.foldl _ _ fun t w => ?_)) F.TBL_STAT_APPLYING _ _ (by decide)
  · exact ((QueueOnly.refl.wr F.TBL_EPOCH_EPOCH 0 _ (by decide)).wr F.TBL_STAT_BUMP_HELD 0 0 (by decide)).trans ⟨rfl, fun _ => rfl⟩
  · split
    · exact QueueOnly.ite ⟨rfl, fun _ => rfl⟩ QueueOnly.refl
    · exact QueueOnly.refl

theorem State.drainService_queueOnly : QueueOnly s s.drainService := by
  have bumped : QueueOnly s (if s.on F.TBL_STAT_BUMP_HELD 0 && !s.bumpBlocked then s.bumpNow else s) := s.bumpNow_queueOnly.ite QueueOnly.refl
  exact (QueueOnly.ite (bumped.wr F.TBL_STAT_DRAIN_DONE_EVT 0 1 (by decide)) bumped).trans ⟨rfl, fun _ => rfl⟩

end
end Sys2Proof.Machine
end

section
/-! SUPPORT. CAN lanes (spec 05 R102, R107, R111 to R113): the registers that show a lane, and how it changes its state, errs and ends a frame. -/
namespace Sys2Proof.Machine

/-! ### The registers that show a lane (R111, R113, R120) -/

/-- The fields that show a lane's state. -/
abbrev showFlds : List Fld :=
  [F.LSL_CAN_ERR_WARN, F.LSL_CAN_ERR_STATE, F.LSL_CAN_ERR_RP, F.LSL_CAN_ERR_REC, F.LSL_CAN_ERR_TEC, F.LSL_CAN_STAT_WARN_EVT,
    F.LSL_CAN_STAT_PASSIVE_EVT, F.LSL_CAN_STAT_STBY, F.LSL_CAN_STAT_TX_PEND, F.LSL_CAN_STAT_LINK]

/-- The fields that a change of state may write. -/
abbrev toFlds : List Fld := queueFlds ++ showFlds

theorem Apart.setCan {fs : List Fld} {s t : State} (h : Apart fs s t) (n : Nat) (x : CanLane) : Apart fs s (t.setCan n x) := h

theorem Apart.reportX {fs : List Fld} {s t : State} (h : Apart fs s t) (src elem : Nat) : Apart fs s (t.reportX src elem) := h

/-- The events of a change that the registers are about to show. -/
def State.canShowEvents (s : State) (n : Nat) : State :=
  let x := s.canLane n
  let s := if (decide (96 ≤ x.tec) || decide (96 ≤ x.recC)) && !s.on F.LSL_CAN_ERR_WARN n then s.evt F.LSL_CAN_STAT_WARN_EVT n else s
  if x.errState = 1 ∧ s.rd F.LSL_CAN_ERR_STATE n = 0 then s.evt F.LSL_CAN_STAT_PASSIVE_EVT n else s

section
variable (s : State) (n : Nat)

theorem State.canShowEvents_apart : Apart showFlds s (s.canShowEvents n) := by
  have warned : Apart showFlds s (if (decide (96 ≤ (s.canLane n).tec) || decide (96 ≤ (s.canLane n).recC)) && !s.on F.LSL_CAN_ERR_WARN n
      then s.evt F.LSL_CAN_STAT_WARN_EVT n else s) := (Apart.refl.wr F.LSL_CAN_STAT_WARN_EVT n 1 (by decide)).ite Apart.refl
  exact (warned.wr F.LSL_CAN_STAT_PASSIVE_EVT n 1 (by decide)).ite warned

theorem State.canShow_eq :
    let x := s.canLane n
    let t := ((((s.canShowEvents n).wr F.LSL_CAN_ERR_TEC n x.tec).wr F.LSL_CAN_ERR_REC n (min x.recC 127)).wrb F.LSL_CAN_ERR_RP n
      (decide (127 < x.recC))).wrb F.LSL_CAN_ERR_WARN n (decide (96 ≤ x.tec) || decide (96 ≤ x.recC))
    let t := ((t.wr F.LSL_CAN_ERR_STATE n x.errState).wrb F.LSL_CAN_STAT_LINK n (decide (x.st = .active))).wrb F.LSL_CAN_STAT_TX_PEND n x.arb.isSome
    s.canShow n = t.wrb F.LSL_CAN_STAT_STBY n (decide (x.st = .stopped) || decide (x.st = .standby) || t.on F.LSL_CAN_CTL_STBY n) := rfl

theorem State.canShow_apart : Apart showFlds s (s.canShow n) := by
  rw [State.canShow_eq]
  exact ((((((((s.canShowEvents_apart n).wr F.LSL_CAN_ERR_TEC n _ (by decide)).wr F.LSL_CAN_ERR_REC n _ (by decide)).wr
    F.LSL_CAN_ERR_RP n _ (by decide)).wr F.LSL_CAN_ERR_WARN n _ (by decide)).wr F.LSL_CAN_ERR_STATE n _ (by decide)).wr
    F.LSL_CAN_STAT_LINK n _ (by decide)).wr F.LSL_CAN_STAT_TX_PEND n _ (by decide)).wr F.LSL_CAN_STAT_STBY n _ (by decide)

@[simp] theorem State.canShow_can : (s.canShow n).can = s.can := by
  have events : (s.canShowEvents n).can = s.can := by
    unfold State.canShowEvents
    dsimp only
    split <;> split <;> rfl
  rw [State.canShow_eq]
  exact events

@[simp] theorem State.canLane_canShow (m : Nat) : (s.canShow n).canLane m = s.canLane m := by rw [State.canLane, State.canShow_can, State.canLane]

/-- What the registers of a lane show. -/
theorem State.canShow_shows :
    (s.canShow n).rd F.LSL_CAN_ERR_TEC n = (s.canLane n).tec % 2 ^ 9
    ∧ (s.canShow n).rd F.LSL_CAN_ERR_REC n = min (s.canLane n).recC 127 % 2 ^ 7
    ∧ (s.canShow n).rd F.LSL_CAN_ERR_STATE n = (s.canLane n).errState % 2 ^ 2
    ∧ (s.canShow n).rd F.LSL_CAN_STAT_LINK n = b2n (decide ((s.canLane n).st = .active))
    ∧ (s.canShow n).rd F.LSL_CAN_STAT_TX_PEND n = b2n (s.canLane n).arb.isSome := by
  have bool (b : Bool) : b2n b % 2 = b2n b := by cases b <;> rfl
  rw [State.canShow_eq]
  simp [State.wrb_eq_wr, State.rd_wr_fld, bool]

end

/-! ### Changes of state (R113) -/

/-- The lane in another state: what is in arbitration and the frame on the bus are over outside ACTIVE. -/
def CanLane.to (x : CanLane) (st : CanSt) : CanLane :=
  if st = .active then { x with st := st } else { x with st := st, arb := none, sof := none, waits := false }

theorem CanLane.to_st (x : CanLane) (st : CanSt) : (x.to st).st = st := by unfold CanLane.to; split <;> rfl
theorem CanLane.to_timing (x : CanLane) (st : CanSt) : (x.to st).timing = x.timing := by unfold CanLane.to; split <;> rfl

/-- What a lane counts: TEC, REC, and SEQ of its reference messages. -/
def CanLane.tally (x : CanLane) : Nat × Nat × Nat := (x.tec, x.recC, x.tmSeq)

theorem CanLane.to_tally (x : CanLane) (st : CanSt) : (x.to st).tally = x.tally := by unfold CanLane.to; split <;> rfl

section
variable (s : State) (n : Nat)

theorem State.canLane_st : (s.canLane n).st = (s.lane n).st := rfl
theorem State.canLane_waits : (s.canLane n).waits = (s.lane n).waits := rfl
theorem State.canLane_tec : (s.canLane n).tec = (s.lane n).tally.1 := rfl
theorem State.canLane_arb : (s.canLane n).arb = (s.lane n).arb := rfl
theorem State.canLane_sof : (s.canLane n).sof = (s.lane n).sof := rfl
theorem State.canLane_refDue : (s.canLane n).refDue = (s.lane n).refDue := rfl
theorem State.canLane_presDue : (s.canLane n).presDue = (s.lane n).presDue := rfl

@[simp] theorem State.lane_wr (f : Fld) (i v m : Nat) : (s.wr f i v).lane m = s.lane m := rfl
@[simp] theorem State.lane_evt (f : Fld) (i m : Nat) : (s.evt f i).lane m = s.lane m := rfl
@[simp] theorem State.lane_canCnt (k m : Nat) : (s.canCnt n k).lane m = s.lane m := rfl
@[simp] theorem State.lane_reportX (src elem m : Nat) : (s.reportX src elem).lane m = s.lane m := rfl
@[simp] theorem State.lane_canShow (m : Nat) : (s.canShow n).lane m = s.lane m := by rw [State.lane, State.canLane_canShow, State.lane]

/-- The queues follow the link of a lane that changes its state. -/
theorem State.canTo_queueOnly (st : CanSt) : QueueOnly ((s.setCan n ((s.canLane n).to st)).canShow n) (s.canTo n st) :=
  QueueOnly.ite (State.queuesDown_queueOnly _ _ _) (QueueOnly.ite (State.queuesUp_queueOnly _ _) QueueOnly.refl)

theorem State.canTo_apart (st : CanSt) : Apart toFlds s (s.canTo n st) := by
  have shown : Apart toFlds s ((s.setCan n ((s.canLane n).to st)).canShow n) :=
    (Apart.refl.setCan n _).trans ((State.canShow_apart _ n).mono (by decide))
  exact shown.trans ((s.canTo_queueOnly n st).apart.mono (by decide))

theorem State.lane_canTo (st : CanSt) : (s.canTo n st).lane n = (s.lane n).to st := by
  rw [(s.canTo_queueOnly n st).lane, State.lane_canShow, State.lane_setCan_same, State.lane, CanLane.to, CanLane.to]
  split <;> rfl

/-- The registers of a lane that has changed its state. -/
theorem State.canTo_shows (st : CanSt) :
    (s.canTo n st).rd F.LSL_CAN_ERR_TEC n = (s.canLane n).tec % 2 ^ 9
    ∧ (s.canTo n st).rd F.LSL_CAN_ERR_REC n = min (s.canLane n).recC 127 % 2 ^ 7
    ∧ (s.canTo n st).rd F.LSL_CAN_ERR_STATE n = ((s.canLane n).to st).errState % 2 ^ 2
    ∧ (s.canTo n st).rd F.LSL_CAN_STAT_LINK n = b2n (decide (st = .active)) := by
  have queues := (s.canTo_queueOnly n st).apart
  obtain ⟨tec, recC, state, link, -⟩ := (s.setCan n ((s.canLane n).to st)).canShow_shows n
  rw [State.canLane_setCan_same] at tec recC state link
  refine ⟨(queues.rd _ n (by decide)).trans (tec.trans ?_), (queues.rd _ n (by decide)).trans (recC.trans ?_),
    (queues.rd _ n (by decide)).trans state, (queues.rd _ n (by decide)).trans (link.trans ?_)⟩
  · exact congrArg (fun y : Nat × Nat × Nat => y.1 % 2 ^ 9) ((s.canLane n).to_tally st)
  · exact congrArg (fun y : Nat × Nat × Nat => min y.2.1 127 % 2 ^ 7) ((s.canLane n).to_tally st)
  · rw [CanLane.to_st]

end
end Sys2Proof.Machine
end

section
/-! SUPPORT. CAN lanes (spec 05): how a lane starts and stops, ends a frame, counts errors and is bus-off. -/
namespace Sys2Proof.Machine

/-! ### What decides whether a lane takes part (R113, R122; 18 R373, 19 R388, 02 R54) -/

section
variable {fs : List Fld} {s t : State}

/-- The fields that decide whether a lane is parked. -/
abbrev parkFlds : List Fld := [F.PWR_STAT_STATE, F.NSL_NET_EN, F.NSL_NET_STATE, F.NSL_NET_MEMBERS]

theorem Apart.dozing (h : Apart fs s t) (hf : F.PWR_STAT_STATE.id ∉ fs.map Fld.id) : t.dozing = s.dozing := by
  rw [State.dozing, State.dozing, h.phase, h.pwr, h.rd F.PWR_STAT_STATE 0 hf]

theorem Apart.portRestructuring (h : Apart fs s t) (p : Nat) : t.portRestructuring p = s.portRestructuring p := by
  rw [State.portRestructuring, State.portRestructuring, State.restructRuns, State.restructRuns, h.recov]

theorem Apart.laneParked (h : Apart fs s t) (n : Nat) (hf : ∀ f ∈ parkFlds, f.id ∉ fs.map Fld.id) : t.laneParked n = s.laneParked n := by
  have asleep : t.portAsleep (40 + n) = s.portAsleep (40 + n) := by
    unfold State.portAsleep
    refine congrArg (fun q => (List.range 16).any q) (funext fun k => ?_)
    rw [h.on F.NSL_NET_EN k (hf _ (by simp)), h.rd F.NSL_NET_STATE k (hf _ (by simp)), h.bit F.NSL_NET_MEMBERS k _ (hf _ (by simp))]
  rw [State.laneParked, State.laneParked, h.dozing (hf _ (by simp)), asleep, h.portRestructuring, State.t1sLane, h.t1s, State.t1sLane]

end

/-- From `s` to `t` a frame of lane `n` ended: nothing is in arbitration, the lane counts as before, and beside lanes and queues only registers
that show them changed. -/
structure FrameOver (n : Nat) (s t : State) : Prop where
  apart : Apart toFlds s t
  arb : (t.lane n).arb = none
  tally : (t.lane n).tally = (s.lane n).tally

theorem FrameOver.trans {n : Nat} {s t u : State} (h : FrameOver n s t) (h' : FrameOver n t u) : FrameOver n s u :=
  ⟨h.apart.trans h'.apart, h'.arb, h'.tally.trans h.tally⟩

section
variable (s : State) (n : Nat)

/-! ### Start, stop and the end of a frame (R103, R113) -/

/-- The lane with the timing that EN latches, where it starts or stays. -/
theorem State.canStart_spec (timing : List Nat) : Apart toFlds s (s.canStart n timing)
    ∧ (s.canStart n timing).lane n =
      if (!timing.isEmpty && (decide ((s.canLane n).st = .stopped) || decide ((s.canLane n).st = .standby)) && !s.laneParked n) = true
      then { s.lane n with timing := timing }.to .integrating else { s.lane n with timing := timing } := by
  have latched : Apart toFlds s (s.setCan n { s.canLane n with timing := timing }) := Apart.refl.setCan n _
  have parked := latched.laneParked n (by decide)
  have lane := s.lane_setCan_same n { s.canLane n with timing := timing }
  unfold State.canStart
  dsimp only
  rw [State.canLane_setCan_same, parked]
  split
  · exact ⟨latched.trans (State.canTo_apart _ n _), (State.lane_canTo _ n _).trans (congrArg (fun x : CanLane => x.to .integrating) lane)⟩
  · exact ⟨latched, lane⟩

/-- The lane in STOPPED, before one that was enabled again meanwhile starts. -/
def State.canHalted (s : State) (n : Nat) : State :=
  (s.setCan n { s.canLane n with stopping := false, next := none, waits := false, arb := none, sof := none, timing := [] }).canTo n .stopped

theorem State.canHalted_apart : Apart toFlds s (s.canHalted n) := (Apart.refl.setCan n _).trans (State.canTo_apart _ n _)

theorem State.lane_canHalted : (s.canHalted n).lane n =
    { s.lane n with st := .stopped, stopping := false, next := none, waits := false, arb := none, sof := none, timing := [] } := by
  rw [State.canHalted, State.lane_canTo, State.lane_setCan_same]; rfl

theorem State.canHalted_link : (s.canHalted n).rd F.LSL_CAN_STAT_LINK n = 0 := by
  obtain ⟨-, -, -, link⟩ := State.canTo_shows (s.setCan n { s.canLane n with
    stopping := false, next := none, waits := false, arb := none, sof := none, timing := [] }) n .stopped
  exact link

/-- A lane that is not enabled stays stopped. -/
theorem State.canStopped_off (off : s.on F.LSL_CAN_CTL_EN n = false) : s.canStopped n = s.canHalted n := by
  have still : (s.canHalted n).on F.LSL_CAN_CTL_EN n = false := ((s.canHalted_apart n).on _ n (by decide)).trans off
  unfold State.canStopped
  dsimp only
  split
  · exact if_neg (Bool.eq_false_iff.mp still)
  · rfl

/-- A lane that has stopped has nothing in arbitration, and counts as before. -/
theorem State.canStopped_over : FrameOver n s (s.canStopped n) := by
  have apart := s.canHalted_apart n
  have halted := s.lane_canHalted n
  have stays : FrameOver n s (s.canHalted n) := ⟨apart, by rw [halted], by rw [halted]; rfl⟩
  have starts (timing : List Nat) : FrameOver n s ((s.canHalted n).canStart n timing) := by
    obtain ⟨started, lane⟩ := (s.canHalted n).canStart_spec n timing
    rw [halted] at lane
    exact ⟨apart.trans started, by rw [lane]; split <;> rfl, by rw [lane]; split <;> rfl⟩
  unfold State.canStopped
  dsimp only
  split
  · next timing _ =>
    split
    · exact starts timing
    · exact stays
  · exact stays

/-- The lane after the frame on the bus, before one that is to stop or to leave its bus does. -/
def State.canFreed (s : State) (n : Nat) : State := (s.setCan n { s.canLane n with arb := none, sof := none }).canShow n

theorem State.canFreed_apart : Apart showFlds s (s.canFreed n) := (Apart.refl.setCan n _).trans (State.canShow_apart _ n)

theorem State.lane_canFreed : (s.canFreed n).lane n = { s.lane n with arb := none, sof := none } := by
  rw [State.canFreed, State.lane_canShow, State.lane_setCan_same]; rfl

theorem State.canEnded_stays (stays : (s.canLane n).stopping = false) (here : s.laneParked n = false) : s.canEnded n = s.canFreed n := by
  have parked : (s.canFreed n).laneParked n = false := ((s.canFreed_apart n).laneParked n (by decide)).trans here
  have stopping : ((s.canFreed n).canLane n).stopping = false := (congrArg CanLane.stopping (s.lane_canFreed n)).trans stays
  change (if ((s.canFreed n).canLane n).stopping = true then _ else if (s.canFreed n).laneParked n = true then _ else s.canFreed n) = _
  rw [stopping, parked]
  rfl

theorem State.canFreed_over : FrameOver n s (s.canFreed n) :=
  ⟨(s.canFreed_apart n).mono (by decide), congrArg CanLane.arb (s.lane_canFreed n), by rw [s.lane_canFreed n]; rfl⟩

/-- A CAN lane that leaves its bus has nothing in arbitration. -/
theorem State.laneStandby_over (can : s.pers n = 1) (idle : (s.canLane n).arb = none) : FrameOver n s (s.laneStandby n) := by
  have moves (st : CanSt) : FrameOver n s (s.canTo n st) := by
    have lane := s.lane_canTo n st
    refine ⟨s.canTo_apart n st, ?_, by rw [lane, CanLane.to_tally]⟩
    rw [lane, CanLane.to]
    split
    · exact idle
    · rfl
  rw [State.laneStandby, if_pos can]
  split
  · exact ⟨Apart.refl, idle, rfl⟩
  · exact moves _

/-- After a frame nothing is in arbitration, and the lane counts as before. -/
theorem State.canEnded_over (can : s.pers n = 1) : FrameOver n s (s.canEnded n) := by
  have freed := s.canFreed_over n
  have still : (s.canFreed n).pers n = 1 := (freed.apart.rd _ n (by decide)).trans can
  change FrameOver n s (if ((s.canFreed n).canLane n).stopping = true then (s.canFreed n).canStopped n
    else if (s.canFreed n).laneParked n = true then (s.canFreed n).laneStandby n else s.canFreed n)
  split
  · exact freed.trans (State.canStopped_over _ n)
  · split
    · exact freed.trans (State.laneStandby_over _ n still freed.arb)
    · exact freed

/-! ### Errors and bus-off (R107, R111, R112) -/

/-- The fields that a lane which goes bus-off may write. -/
abbrev offFlds : List Fld :=
  toFlds ++ [F.LSL_CAN_STAT_BUSOFF_EVT, F.LSL_CAN_CNT_COUNT, F.LSL_CAN_STAT_BUS_IDLE, F.LSL_CAN_ERR_RECOV_CNT]

/-- The state in which a lane that goes bus-off is: with AUTO_RECOV it recovers at once. -/
def State.offState (s : State) (n : Nat) : CanSt := if s.on F.LSL_CAN_CTL_AUTO_RECOV n then .recovering else .busOff

/-- The lane in BUS_OFF, before AUTO_RECOV has it recover. -/
def State.canBusOffNoted (s : State) (n : Nat) : State :=
  (((((s.canTo n .busOff).evt F.LSL_CAN_STAT_BUSOFF_EVT n).canCnt n 16).reportX (0x0B8 + n) (elemId 0 (40 + n))).wr
    F.LSL_CAN_STAT_BUS_IDLE n 0).wr F.LSL_CAN_ERR_RECOV_CNT n 0

theorem State.canBusOff_eq : s.canBusOff n =
    if (s.canBusOffNoted n).on F.LSL_CAN_CTL_AUTO_RECOV n = true then (s.canBusOffNoted n).canTo n .recovering else s.canBusOffNoted n := rfl

theorem State.canBusOffNoted_apart : Apart offFlds s (s.canBusOffNoted n) := by
  have off : Apart offFlds s (s.canTo n .busOff) := (s.canTo_apart n .busOff).mono (by decide)
  have counted : Apart offFlds s (((s.canTo n .busOff).evt F.LSL_CAN_STAT_BUSOFF_EVT n).canCnt n 16) :=
    (off.wr F.LSL_CAN_STAT_BUSOFF_EVT n 1 (by decide)).wr F.LSL_CAN_CNT_COUNT _ _ (by decide)
  exact ((counted.reportX _ _).wr F.LSL_CAN_STAT_BUS_IDLE n 0 (by decide)).wr F.LSL_CAN_ERR_RECOV_CNT n 0 (by decide)

theorem CanLane.to_to (x : CanLane) (st : CanSt) (off : st ≠ .active) : (x.to .busOff).to st = x.to st := by
  simp [CanLane.to, off]

theorem State.canBusOffNoted_shows :
    (s.canBusOffNoted n).rd F.LSL_CAN_STAT_BUSOFF_EVT n = 1 ∧ (s.canBusOffNoted n).rd F.LSL_CAN_ERR_STATE n = 2 := by
  obtain ⟨-, -, shows, -⟩ := s.canTo_shows n .busOff
  refine ⟨?_, ?_⟩
  · simp [State.canBusOffNoted, State.rd_wr_fld, State.canCnt, State.bump_eq_wr, State.evt_eq_wr]
  · simp only [State.canBusOffNoted, State.rd_wr_fld, State.canCnt, State.bump_eq_wr, State.evt_eq_wr, State.rd_reportX, ne_eq,
      not_false_eq_true, Nat.reduceEqDiff, shows]
    rfl

/-- Bus-off counts itself alone. -/
theorem State.canBusOffNoted_counts {k : Nat} (other : k ≠ 16) :
    (s.canBusOffNoted n).rd F.LSL_CAN_CNT_COUNT (20 * n + k) = s.rd F.LSL_CAN_CNT_COUNT (20 * n + k) := by
  have before := (s.canTo_apart n .busOff).rd F.LSL_CAN_CNT_COUNT (20 * n + k) (by decide)
  rw [← before, State.canBusOffNoted, State.rd_wr_fld _ _ _ _ _ _ (by decide), State.rd_wr_fld _ _ _ _ _ _ (by decide), State.rd_reportX,
    State.canCnt, State.bump_eq_wr, State.rd_wr_elem _ _ _ _ _ _ (by omega), State.evt_eq_wr, State.rd_wr_fld _ _ _ _ _ _ (by decide)]

/-- A bus-off lane, in the state that AUTO_RECOV says. -/
theorem State.canBusOff_spec :
    Apart offFlds s (s.canBusOff n) ∧ (s.canBusOff n).lane n = (s.lane n).to (s.offState n)
    ∧ (s.canBusOff n).rd F.LSL_CAN_STAT_BUSOFF_EVT n = 1 ∧ (s.canBusOff n).rd F.LSL_CAN_ERR_STATE n = 2
    ∧ ∀ k, k ≠ 16 → (s.canBusOff n).rd F.LSL_CAN_CNT_COUNT (20 * n + k) = s.rd F.LSL_CAN_CNT_COUNT (20 * n + k) := by
  have apart := s.canBusOffNoted_apart n
  have lane : (s.canBusOffNoted n).lane n = (s.lane n).to .busOff := by
    simp only [State.canBusOffNoted, State.lane_wr, State.lane_reportX, State.lane_canCnt, State.lane_evt, State.lane_canTo]
  obtain ⟨evt, state⟩ := s.canBusOffNoted_shows n
  rw [State.canBusOff_eq, State.offState, apart.on F.LSL_CAN_CTL_AUTO_RECOV n (by decide)]
  split
  · have moved := (s.canBusOffNoted n).canTo_apart n .recovering
    obtain ⟨-, -, shows, -⟩ := (s.canBusOffNoted n).canTo_shows n .recovering
    refine ⟨apart.trans (moved.mono (by decide)), ?_, (moved.rd _ n (by decide)).trans evt, shows,
      fun k other => (moved.rd _ _ (by decide)).trans (s.canBusOffNoted_counts n other)⟩
    rw [State.lane_canTo, lane, CanLane.to_to _ _ (by decide)]
  · exact ⟨apart, lane, evt, state, fun k other => s.canBusOffNoted_counts n other⟩

/-- The lane with its error counters changed, bus-off when TEC exceeds 255. -/
theorem State.canErrors_spec (tec recC : Nat) :
    Apart offFlds s (s.canErrors n tec recC)
    ∧ (s.canErrors n tec recC).lane n = (if 255 < tec then { s.lane n with tec := tec, recC := recC }.to (s.offState n)
        else { s.lane n with tec := tec, recC := recC })
    ∧ (255 < tec → (s.canErrors n tec recC).rd F.LSL_CAN_STAT_BUSOFF_EVT n = 1)
    ∧ ∀ k, k ≠ 16 → (s.canErrors n tec recC).rd F.LSL_CAN_CNT_COUNT (20 * n + k) = s.rd F.LSL_CAN_CNT_COUNT (20 * n + k) := by
  have shown := State.canShow_apart (s.setCan n { s.canLane n with tec := tec, recC := recC }) n
  have apart : Apart offFlds s ((s.setCan n { s.canLane n with tec := tec, recC := recC }).canShow n) :=
    (Apart.refl.setCan n _).trans (shown.mono (by decide))
  have lane : ((s.setCan n { s.canLane n with tec := tec, recC := recC }).canShow n).lane n = { s.lane n with tec := tec, recC := recC } := by
    rw [State.lane_canShow, State.lane_setCan_same]; rfl
  unfold State.canErrors
  dsimp only
  split
  · obtain ⟨off, lane', evt, -, count⟩ := State.canBusOff_spec ((s.setCan n { s.canLane n with tec := tec, recC := recC }).canShow n) n
    have auto : ((s.setCan n { s.canLane n with tec := tec, recC := recC }).canShow n).offState n = s.offState n := by
      rw [State.offState, State.offState, apart.on _ n (by decide)]
    exact ⟨apart.trans off, by rw [lane', lane, auto], fun _ => evt, fun k other => (count k other).trans (shown.rd _ _ (by decide))⟩
  · next within => exact ⟨apart, lane, fun above => absurd above within, fun k _ => shown.rd _ _ (by decide)⟩

end
end Sys2Proof.Machine
end

section
/-! SUPPORT. Networks (spec 19) and the wakes that reach lanes (18 R373, 19 R387 to R394): what presence and the return of members leave. -/
namespace Sys2Proof.Machine

/-- The fields that the messages and wakes of networks write, but for the networks' states. -/
abbrev netFlds : List Fld :=
  toFlds ++ [F.LSL_T1S_STAT_LINK, F.LSL_MVB_STAT_LINK, F.LSL_MVB_STAT_ADMIN, F.ETH_CNT_COUNT, F.CIP_PORT_CNT_COUNT, F.CIP_STAT_TX_BLOCK_EVT,
    F.CIP_TXSA_PN, F.KEY_CNT_COUNT, F.KEY_STAT_EXHAUST_EVT, F.NSL_CNT_COUNT, F.NSL_NET_WAKE_CODE, F.NSL_NET_WAKE_IDX, F.NSL_NET_HOLDING,
    F.NSL_STAT_ASLEEP, F.NSL_STAT_NET_WAKE_EVT, F.NSL_STAT_NODE_FULL_EVT, F.NSL_NODE_VALID, F.NSL_NODE_NEED, F.NSL_NODE_CAPPED, F.NSL_NODE_NET,
    F.NSL_NODE_NODE, F.NSL_NODE_FLAGS, F.NSL_NODE_PORT]

/-- From `s` to `t` registers `fs` changed alone, no frame entered a pipeline, no filter entry was found bad, the same networks run, and each
lane counts as before and starts no arbitration. -/
structure NetOnly (fs : List Fld) (s t : State) : Prop where
  regs : RegsBut fs s t
  flight : t.flight = s.flight
  canBad : t.canBad = s.canBad
  nslOn : t.nslOn = s.nslOn
  tally : ∀ m, (t.lane m).tally = (s.lane m).tally
  arb : ∀ m, (s.lane m).arb = none → (t.lane m).arb = none

namespace NetOnly
variable {fs gs : List Fld} {s t u : State}

theorem refl : NetOnly fs s s := ⟨RegsBut.refl, rfl, rfl, rfl, fun _ => rfl, fun _ h => h⟩

/-- What none of this is changed. -/
theorem of_eq (regs : t.regs = s.regs) (flight : t.flight = s.flight) (canBad : t.canBad = s.canBad) (nslOn : t.nslOn = s.nslOn)
    (can : t.can = s.can) : NetOnly fs s t := by
  have lane (m : Nat) : t.lane m = s.lane m := by rw [State.lane, State.canLane, can]; rfl
  exact ⟨RegsBut.of_regs regs, flight, canBad, nslOn, fun m => by rw [lane], fun m idle => by rw [lane, idle]⟩

theorem trans (h : NetOnly fs s t) (h' : NetOnly fs t u) : NetOnly fs s u :=
  ⟨h.regs.trans h'.regs, h'.flight.trans h.flight, h'.canBad.trans h.canBad, h'.nslOn.trans h.nslOn,
    fun m => (h'.tally m).trans (h.tally m), fun m idle => h'.arb m (h.arb m idle)⟩

theorem mono (h : NetOnly fs s t) (sub : fs.map Fld.id ⊆ gs.map Fld.id) : NetOnly gs s t := { h with regs := h.regs.mono sub }

theorem wr (h : NetOnly fs s t) (f : Fld) (i v : Nat) (hf : f.id ∈ fs.map Fld.id) : NetOnly fs s (t.wr f i v) :=
  { h with regs := h.regs.wr f i v hf }

theorem bump (h : NetOnly fs s t) (f : Fld) (i : Nat) (hf : f.id ∈ fs.map Fld.id) : NetOnly fs s (t.bump f i) := h.wr f i _ hf

theorem ite {c : Prop} [Decidable c] (ht : NetOnly fs s t) (hu : NetOnly fs s u) : NetOnly fs s (if c then t else u) := by
  split <;> assumption

theorem foldl {α : Type} {g : State → α → State} (l : List α) (s : State) (h : ∀ t x, NetOnly fs t (g t x)) : NetOnly fs s (l.foldl g s) :=
  List.foldlRecOn l g (motive := NetOnly fs s) refl fun t ht x _ => ht.trans (h t x)

end NetOnly

theorem Apart.regsBut {fs : List Fld} {s t : State} (h : Apart fs s t) : RegsBut fs s t := fun f i hf => h.rd f i hf

theorem QueueOnly.netOnly {s t : State} (h : QueueOnly s t) : NetOnly netFlds s t :=
  ⟨h.apart.regsBut.mono (by decide), h.apart.flight, h.apart.canBad, h.apart.nslOn, fun m => by rw [h.lane], fun m idle => by rw [h.lane, idle]⟩

section
variable (s : State)

/-! ### Lanes and ports that return (05 R113, 18 R374, 19 R388) -/

theorem State.lane_setCan_ne (n m : Nat) (x : CanLane) (other : m ≠ n) : (s.setCan n x).lane m = s.lane m := by
  rw [State.lane, s.canLane_setCan_ne n m x other, State.lane]

theorem State.lane_canTo_ne (n m : Nat) (st : CanSt) (other : m ≠ n) : (s.canTo n st).lane m = s.lane m := by
  rw [(s.canTo_queueOnly n st).lane, State.lane_canShow, State.lane_setCan_ne _ _ _ _ other]

theorem State.canTo_netOnly (n : Nat) (st : CanSt) : NetOnly netFlds s (s.canTo n st) := by
  have apart := s.canTo_apart n st
  refine ⟨apart.regsBut.mono (by decide), apart.flight, apart.canBad, apart.nslOn, fun m => ?_, fun m idle => ?_⟩
  · by_cases same : m = n
    · rw [same, State.lane_canTo, CanLane.to_tally]
    · rw [State.lane_canTo_ne _ _ _ _ same]
  · by_cases same : m = n
    · subst same
      rw [State.lane_canTo, CanLane.to]
      split
      · exact idle
      · rfl
    · rw [State.lane_canTo_ne _ _ _ _ same, idle]

theorem State.linkTo_netOnly (f : Fld) (n : Nat) (up : Bool) (hf : f.id ∈ netFlds.map Fld.id) : NetOnly netFlds s (s.linkTo f n up) :=
  ((NetOnly.refl.wr f n 0 hf).trans (State.queuesDown_queueOnly _ _ _).netOnly).ite
    (((NetOnly.refl.wr f n 1 hf).trans (State.queuesUp_queueOnly _ _).netOnly).ite NetOnly.refl)

theorem State.laneLink_netOnly (n : Nat) : NetOnly netFlds s (s.laneLink n) :=
  (s.linkTo_netOnly F.LSL_T1S_STAT_LINK n _ (by decide)).ite
    (((s.linkTo_netOnly F.LSL_MVB_STAT_LINK n _ (by decide)).wr F.LSL_MVB_STAT_ADMIN n _ (by decide)).ite NetOnly.refl)

theorem State.laneResume_netOnly (n : Nat) : NetOnly netFlds s (s.laneResume n) := by
  have disarmed : NetOnly netFlds s (s.setArmed n false) := NetOnly.of_eq rfl rfl rfl rfl rfl
  refine disarmed.trans ?_
  unfold State.laneResume
  dsimp only
  split
  · exact NetOnly.refl.ite ((State.canTo_netOnly _ _ _).ite ((State.canTo_netOnly _ _ _).ite NetOnly.refl))
  · exact State.laneLink_netOnly _ _

theorem State.netResume_netOnly (k : Nat) : NetOnly netFlds s (s.netResume k) := by
  refine NetOnly.foldl _ s fun t p => ?_
  split
  · exact (t.queuesUp_queueOnly p).netOnly.ite NetOnly.refl
  · exact t.laneResume_netOnly _

/-! ### Presence that is sent (19 R384, R386; 15 R326) -/

theorem State.exhausted_netOnly (n : Nat) : NetOnly netFlds s (s.exhausted n) :=
  ((NetOnly.refl.wr F.KEY_STAT_EXHAUST_EVT 0 1 (by decide)).wr F.KEY_CNT_COUNT 5 _ (by decide)).trans (NetOnly.of_eq rfl rfl rfl rfl rfl)

theorem State.setSlot_netOnly (n : Nat) (x : KeySlot) : NetOnly netFlds s (s.setSlot n x) := NetOnly.of_eq rfl rfl rfl rfl rfl

theorem State.keyUse_netOnly (n : Nat) : NetOnly netFlds s (s.keyUse n).1 := by
  unfold State.keyUse
  dsimp only
  split
  · split
    · exact (s.setSlot_netOnly n _).trans ((State.exhausted_netOnly _ n).ite NetOnly.refl)
    · exact NetOnly.refl.wr F.KEY_CNT_COUNT 6 _ (by decide)
  · exact NetOnly.refl

theorem State.unitUse_netOnly (u n : Nat) : NetOnly netFlds s (s.unitUse u n).1 := by
  have loaded (t : State) : NetOnly netFlds t (t.loadCopy u n) := by
    unfold State.loadCopy
    split
    · exact NetOnly.refl
    · exact NetOnly.of_eq rfl rfl rfl rfl rfl
  exact ((s.keyUse_netOnly n).trans (loaded _)).ite (s.keyUse_netOnly n)

theorem State.keyExhaust_netOnly (n : Nat) : NetOnly netFlds s (s.keyExhaust n) :=
  ((s.setSlot_netOnly n _).trans (State.exhausted_netOnly _ n)).ite NetOnly.refl

theorem State.txBlocked_netOnly (p : Nat) : NetOnly netFlds s (s.txBlocked p) :=
  (NetOnly.refl.wr F.CIP_PORT_CNT_COUNT _ _ (by decide)).wr F.CIP_STAT_TX_BLOCK_EVT 0 1 (by decide)

theorem State.macsecTx_netOnly (p : Nat) (bs : List Byte) : NetOnly netFlds s (s.macsecTx p bs).1 := by
  unfold State.macsecTx
  dsimp only
  split
  · exact s.txBlocked_netOnly p
  · split
    · exact (s.keyExhaust_netOnly _).trans (State.txBlocked_netOnly _ p)
    · have used := s.unitUse_netOnly (unitOf p) (s.rd F.CIP_TXSA_SLOT (4 * p + s.rd F.CIP_PORT_TX_AN p))
      split
      · next t use => rw [use] at used; exact used.trans (t.txBlocked_netOnly p)
      · next t key _ use =>
        rw [use] at used
        have counted (a pn c : Nat) : NetOnly netFlds s ((t.wr F.CIP_TXSA_PN a pn).cipCnt p c) :=
          (used.wr F.CIP_TXSA_PN a pn (by decide)).wr F.CIP_PORT_CNT_COUNT _ _ (by decide)
        have noted (u : State) (l : List Nat) (last : Prop) [Decidable last] : NetOnly netFlds u (if last then { u with pnOver := l } else u) :=
          NetOnly.ite (NetOnly.of_eq rfl rfl rfl rfl rfl) NetOnly.refl
        exact (counted _ _ _).trans (noted _ _ _)

theorem State.sendOwn_netOnly (p : Nat) (body : List Byte) : NetOnly netFlds s (s.sendOwn p body).1 := by
  have made : NetOnly netFlds s (if s.cipTx p then s.macsecTx p (withFcs body) else (s, some (withFcs body))).1 := by
    split
    · exact s.macsecTx_netOnly p _
    · exact NetOnly.refl
  unfold State.sendOwn
  dsimp only
  split
  · exact made
  · next out _ =>
    have sent := made.trans (NetOnly.of_eq (t := State.send _ p (out.take (out.length - 4))) rfl rfl rfl rfl rfl)
    have counted (n : Nat) := (sent.wr F.ETH_CNT_COUNT (29 * p + 17) n (by decide)).bump F.ETH_CNT_COUNT (29 * p + 18) (by decide)
    exact ((counted _).bump F.ETH_CNT_COUNT (29 * p + 19) (by decide)).ite (counted _)

theorem State.presOn_netOnly (k : Nat) (woke : Bool) (p : Nat) : NetOnly netFlds s (s.presOn k woke p) := by
  unfold State.presOn
  dsimp only
  split
  · split
    · have sent := s.sendOwn_netOnly p (presFrame k (s.rd F.ETH_MAC_ADDR_ADDR p) (s.rd F.NSL_ETYPE_ETYPE 0) (s.rd F.NSL_NET_MY_NODE k) (s.presFlags k woke))
      split
      · next t out => rw [out] at sent; exact sent.wr F.NSL_CNT_COUNT 1 _ (by decide)
      · next t out => rw [out] at sent; exact sent
    · exact NetOnly.refl
  · split
    · exact NetOnly.of_eq rfl rfl rfl rfl rfl
    · refine ⟨RegsBut.of_regs rfl, rfl, rfl, rfl, fun m => ?_, fun m idle => ?_⟩
      · by_cases same : m = p - 40
        · rw [same, State.lane_setCan_same]; rfl
        · rw [State.lane_setCan_ne _ _ _ _ same]
      · by_cases same : m = p - 40
        · rw [same, State.lane_setCan_same]; rw [same] at idle; exact idle
        · rw [State.lane_setCan_ne _ _ _ _ same, idle]

theorem State.presSend_netOnly (k : Nat) (woke : Bool) : NetOnly netFlds s (s.presSend k woke) :=
  NetOnly.foldl _ s fun t p => t.presOn_netOnly k woke p

/-! ### Networks that wake (19 R385, R387 to R389) -/

/-- Network `k`, with the wake recorded, in AWAKE, before its members resume. -/
def State.netWoken (s : State) (k code idx : Nat) : State :=
  ((s.wr F.NSL_NET_WAKE_CODE k code).wr F.NSL_NET_WAKE_IDX k idx).netTo k 0

theorem State.putBit_eq_wr (f : Fld) (i b : Nat) (v : Bool) : ∃ w, s.putBit f i b v = s.wr f i w := by
  cases v <;> exact ⟨_, rfl⟩

/-- Of the networks' states a wake of network `k` changes that of `k` alone. -/
theorem State.rd_netWoken (k code idx j : Nat) :
    (s.netWoken k code idx).rd F.NSL_NET_STATE j = if j = k then 0 else s.rd F.NSL_NET_STATE j := by
  obtain ⟨w, bit⟩ := State.putBit_eq_wr ((((s.wr F.NSL_NET_WAKE_CODE k code).wr F.NSL_NET_WAKE_IDX k idx)).wr F.NSL_NET_STATE k 0)
    F.NSL_STAT_ASLEEP 0 k (decide (0 = 2))
  rw [State.netWoken, State.netTo, bit, State.rd_wr_fld _ _ _ _ _ _ (by decide)]
  split
  · next same => rw [same, State.rd_wr_same]; rfl
  · next other => rw [State.rd_wr_elem _ _ _ _ _ _ other, State.rd_wr_fld _ _ _ _ _ _ (by decide), State.rd_wr_fld _ _ _ _ _ _ (by decide)]

theorem State.netWoken_netOnly (k code idx : Nat) : NetOnly (F.NSL_NET_STATE :: netFlds) s (s.netWoken k code idx) := by
  have coded : NetOnly (F.NSL_NET_STATE :: netFlds) s ((((s.wr F.NSL_NET_WAKE_CODE k code).wr F.NSL_NET_WAKE_IDX k idx)).wr F.NSL_NET_STATE k 0) :=
    ((NetOnly.refl.wr F.NSL_NET_WAKE_CODE k code (by decide)).wr F.NSL_NET_WAKE_IDX k idx (by decide)).wr F.NSL_NET_STATE k 0 (by decide)
  obtain ⟨w, bit⟩ := State.putBit_eq_wr ((((s.wr F.NSL_NET_WAKE_CODE k code).wr F.NSL_NET_WAKE_IDX k idx)).wr F.NSL_NET_STATE k 0)
    F.NSL_STAT_ASLEEP 0 k (decide (0 = 2))
  rw [State.netWoken, State.netTo, bit]
  exact coded.wr F.NSL_STAT_ASLEEP 0 w (by decide)

/-- A running network that is not AWAKE is after its wake, and of its state a wake changes nothing else. -/
theorem State.netWake_woken (k code idx : Nat) (runs : s.netOn k = true) (away : s.rd F.NSL_NET_STATE k ≠ 0) :
    NetOnly netFlds (s.netWoken k code idx) (s.netWake k code idx) := by
  have awake : NetOnly netFlds (s.netWoken k code idx) (((s.wr F.NSL_NET_WAKE_CODE k code).wr F.NSL_NET_WAKE_IDX k idx).netAwake k) :=
    (State.netResume_netOnly _ k).ite NetOnly.refl
  have holds := awake.wr F.NSL_NET_HOLDING k 1 (by decide)
  unfold State.netWake
  rw [if_neg (by rw [runs]; decide)]
  dsimp only
  rw [if_neg away]
  exact (((holds.wr F.NSL_CNT_COUNT 6 _ (by decide)).wr F.NSL_STAT_NET_WAKE_EVT 0 1 (by decide)).ite holds).trans (State.presSend_netOnly _ k true)

theorem State.netWake_netOnly (k code idx : Nat) : NetOnly (F.NSL_NET_STATE :: netFlds) s (s.netWake k code idx) := by
  by_cases runs : s.netOn k = true
  · by_cases away : s.rd F.NSL_NET_STATE k = 0
    · unfold State.netWake
      rw [if_neg (by rw [runs]; decide)]
      dsimp only
      rw [if_pos away]
      exact (NetOnly.refl.wr F.NSL_NET_WAKE_CODE k code (by decide)).wr F.NSL_NET_WAKE_IDX k idx (by decide)
    · exact (s.netWoken_netOnly k code idx).trans ((s.netWake_woken k code idx runs away).mono (by decide))
  · rw [State.netWake, if_pos (by simpa using runs)]
    exact NetOnly.refl

theorem NetOnly.netOn {fs : List Fld} {s t : State} (h : NetOnly fs s t) (hf : F.NSL_CTL_EN.id ∉ fs.map Fld.id) (k : Nat) : t.netOn k = s.netOn k := by
  rw [State.netOn, State.netOn, State.on, State.on, h.regs F.NSL_CTL_EN 0 hf, h.nslOn]

/-- Every network in `ks` that runs and sleeps is awake after its wakes. -/
theorem netWakes_wake (ks : List Nat) (code idx : Nat) (s : State) (k : Nat) (runs : ∀ j ∈ ks, s.netOn j = true)
    (sleeps : k ∈ ks ∧ s.rd F.NSL_NET_STATE k = 2 ∨ s.rd F.NSL_NET_STATE k = 0) :
    (ks.foldl (fun t j => if t.rd F.NSL_NET_STATE j = 2 then t.netWake j code idx else t) s).rd F.NSL_NET_STATE k = 0 := by
  induction ks generalizing s with
  | nil => exact sleeps.resolve_left fun h => List.not_mem_nil h.1
  | cons j ks ih =>
    rw [List.foldl_cons]
    by_cases asleep : s.rd F.NSL_NET_STATE j = 2
    · rw [if_pos asleep]
      have away : s.rd F.NSL_NET_STATE j ≠ 0 := by rw [asleep]; decide
      have woken := s.netWake_woken j code idx (runs j (List.mem_cons_self ..)) away
      have state : (s.netWake j code idx).rd F.NSL_NET_STATE k = if k = j then 0 else s.rd F.NSL_NET_STATE k :=
        (woken.regs _ k (by decide)).trans (s.rd_netWoken j code idx k)
      refine ih _ (fun i hi => ((s.netWake_netOnly j code idx).netOn (by decide) i).trans (runs i (List.mem_cons_of_mem _ hi))) ?_
      rw [state]
      split
      · exact .inr rfl
      · next other => exact sleeps.imp_left fun h => ⟨(List.mem_cons.1 h.1).resolve_left other, h.2⟩
    · rw [if_neg asleep]
      refine ih s (fun i hi => runs i (List.mem_cons_of_mem _ hi)) (sleeps.imp_left fun h => ⟨(List.mem_cons.1 h.1).resolve_left ?_, h.2⟩)
      rintro rfl
      exact asleep h.2

/-- A wake of a member port wakes the running networks that it sleeps in (19 R388). -/
theorem State.memberWake_wakes (p code idx k : Nat) (member : k ∈ s.netsOf p) (asleep : s.rd F.NSL_NET_STATE k = 2) :
    (s.memberWake p code idx).rd F.NSL_NET_STATE k = 0 := by
  refine netWakes_wake _ code idx s k (fun j hj => ?_) (.inl ⟨member, asleep⟩)
  have runs := (List.mem_filter.1 hj).2
  simp only [Bool.and_eq_true] at runs
  exact runs.1

/-! ### Presence that is received (19 R385, R391) -/

theorem State.needEnd_netOnly (i : Nat) : NetOnly netFlds s (s.needEnd i) :=
  (NetOnly.refl.wr F.NSL_NODE_NEED i 0 (by decide)).wr F.NSL_NODE_CAPPED i 0 (by decide)

theorem State.nodeSeen_netOnly (k p node flags : Nat) : NetOnly netFlds s (s.nodeSeen k p node flags) := by
  unfold State.nodeSeen
  split
  · exact (NetOnly.refl.wr F.NSL_CNT_COUNT 4 _ (by decide)).wr F.NSL_STAT_NODE_FULL_EVT 0 1 (by decide)
  · next i _ =>
    dsimp only
    have entered : NetOnly netFlds s (((s.wr F.NSL_NODE_VALID i 1).wr F.NSL_NODE_NET i k).wr F.NSL_NODE_NODE i node) :=
      ((NetOnly.refl.wr F.NSL_NODE_VALID i 1 (by decide)).wr F.NSL_NODE_NET i k (by decide)).wr F.NSL_NODE_NODE i node (by decide)
    have seen := (entered.wr F.NSL_NODE_FLAGS i flags (by decide)).wr F.NSL_NODE_PORT i p (by decide)
    have timed (x : Tbl NslNode) := seen.trans (NetOnly.of_eq (t := { State.wr _ F.NSL_NODE_PORT i p with nslNodes := x }) rfl rfl rfl rfl rfl)
    exact ((timed _).wr F.NSL_NODE_NEED i 1 (by decide)).ite (((timed _).trans (State.needEnd_netOnly _ i)).ite (timed _))

theorem State.presRx_netOnly (k p node flags : Nat) : NetOnly (F.NSL_NET_STATE :: netFlds) s (s.presRx k p node flags) := by
  have seen : NetOnly netFlds s ((s.bump F.NSL_CNT_COUNT 0).nodeSeen k p node flags) :=
    (NetOnly.refl.wr F.NSL_CNT_COUNT 0 _ (by decide)).trans (State.nodeSeen_netOnly _ k p node flags)
  have seen' : NetOnly (F.NSL_NET_STATE :: netFlds) s ((s.bump F.NSL_CNT_COUNT 0).nodeSeen k p node flags) := seen.mono (by decide)
  exact NetOnly.refl.ite ((seen'.trans (State.netWake_netOnly _ k 9 node)).ite seen')

/-! ### Wakes that reach the AOC (18 R373 to R375, 19 R394) -/

/-- The fields that the end of an entry writes, beside those of the lanes that return. -/
abbrev entryFlds : List Fld :=
  netFlds ++ [F.PWR_STAT_IN_TRANSITION, F.PWR_STAT_LAST_RESULT, F.PWR_STAT_LAST_TARGET, F.PWR_STAT_TRANS_DONE_EVT, F.PWR_MODE_TARGET,
    F.PWR_STAT_ABORT_EVT, F.PWR_CNT_COUNT]

theorem State.transAbort_regsBut (result target : Nat) : RegsBut entryFlds s (s.transAbort result target) := by
  have closed : RegsBut entryFlds s { s with pwr := { s.pwr with trans := none } } := RegsBut.of_regs rfl
  have shown := (closed.wr F.PWR_STAT_IN_TRANSITION 0 0 (by decide)).wr F.PWR_STAT_LAST_RESULT 0 result (by decide)
  have noted := (shown.wr F.PWR_STAT_LAST_TARGET 0 target (by decide)).wr F.PWR_STAT_TRANS_DONE_EVT 0 1 (by decide)
  have ended : RegsBut entryFlds s (s.transEnd result target) := noted.wr F.PWR_MODE_TARGET 0 _ (by decide)
  exact ended.wr F.PWR_STAT_ABORT_EVT 0 1 (by decide)

theorem State.entryAborted_regsBut (target : Nat) : RegsBut entryFlds s (s.entryAborted target) :=
  ((s.transAbort_regsBut 2 target).wr F.PWR_CNT_COUNT 1 _ (by decide)).trans
    (RegsBut.foldl _ _ fun t n => (t.laneResume_netOnly n).regs.mono (by decide))

theorem State.wakePower_regsBut (code idx : Nat) : RegsBut entryFlds s (s.wakePower code idx) := by
  have waits : RegsBut entryFlds s (s.wakeFrom code idx) := RegsBut.refl.ite (RegsBut.of_regs rfl)
  refine RegsBut.refl.ite (RegsBut.ite (RegsBut.of_regs rfl) ?_)
  split
  · exact (waits.ite (s.entryAborted_regsBut _)).ite RegsBut.refl
  · exact waits.ite RegsBut.refl

/-- After a wake AOC_WAKE_SRC is valid: it was, or the wake is recorded there. -/
theorem State.wakeRecorded_valid (code idx : Nat) : (s.wakeRecorded code idx).on F.AOC_WAKE_SRC_VALID 0 = true := by
  unfold State.wakeRecorded
  dsimp only
  split
  · next valid => rwa [State.on, State.rd_wr_fld _ _ _ _ _ _ (by decide)]
  · simp [State.on, State.rd_wr_fld]

/-- A wake of code 1 to 15 that reaches the AOC is recorded. -/
theorem State.aocWake_recorded {code : Nat} (idx : Nat) (on : s.stopped = false) (known : code - 1 < 15) :
    (s.aocWake code idx).bit F.AOC_WAKE_PEND_CODE 0 (code - 1) = true ∧ (s.aocWake code idx).on F.AOC_WAKE_SRC_VALID 0 = true := by
  obtain ⟨-, -, pend, -⟩ := s.wakeRecorded_spec code idx
  have power := (s.wakeRecorded code idx).wakePower_regsBut code idx
  rw [s.aocWake_eq code idx on, State.bit_congr (code - 1) (power F.AOC_WAKE_PEND_CODE 0 (by decide)), State.on,
    power F.AOC_WAKE_SRC_VALID 0 (by decide)]
  exact ⟨pend known, s.wakeRecorded_valid code idx⟩

end
end Sys2Proof.Machine
end

section
/-! SUPPORT. The commands that start, stop, integrate and recover a CAN lane (spec 05 R102, R103, R112, R113), and those that wake it (R121). -/
namespace Sys2Proof.Machine

/-! ### EN goes from 0 to 1 (R103, R115) -/

/-- The limiters `js` of a lane are full, the others as before. -/
theorem rd_limitersFull (n j : Nat) (js : List Nat) (s : State) :
    (js.foldl (fun t i => t.wr F.LSL_CAN_RL_TOKENS (16 * n + i) (max 1 (t.rd F.LSL_CAN_RL_BURST (16 * n + i)))) s).rd F.LSL_CAN_RL_TOKENS (16 * n + j)
      = if j ∈ js then max 1 (s.rd F.LSL_CAN_RL_BURST (16 * n + j)) % 2 ^ F.LSL_CAN_RL_TOKENS.width else s.rd F.LSL_CAN_RL_TOKENS (16 * n + j) := by
  induction js generalizing s with
  | nil => rfl
  | cons i js ih =>
    rw [List.foldl_cons, ih, State.rd_wr_fld _ F.LSL_CAN_RL_TOKENS F.LSL_CAN_RL_BURST _ _ _ (by decide)]
    by_cases later : j ∈ js
    · rw [if_pos later, if_pos (List.mem_cons_of_mem _ later)]
    · rw [if_neg later]
      by_cases same : j = i
      · subst same; rw [if_pos (List.mem_cons_self ..), State.rd_wr_same]
      · rw [if_neg (by simp [same, later]), State.rd_wr_elem _ _ _ _ _ _ (by omega)]

section
variable (s : State) (n : Nat)

theorem State.canLimitersFull_apart : Apart [F.LSL_CAN_RL_TOKENS] s (s.canLimitersFull n) :=
  Apart.foldl _ s fun _ _ => Apart.refl.wr F.LSL_CAN_RL_TOKENS _ _ (by decide)

@[simp] theorem State.canLane_canLimitersFull (m : Nat) : (s.canLimitersFull n).canLane m = s.canLane m :=
  foldl_leaves (fun t => State.canLane t m) _ s fun _ _ => rfl

/-- The lane enabled, with its limiters full. -/
def State.canEnFull (s : State) (n : Nat) : State := (s.wr F.LSL_CAN_CTL_EN n 1).canLimitersFull n

theorem State.canEnFull_apart : Apart [F.LSL_CAN_CTL_EN, F.LSL_CAN_RL_TOKENS] s (s.canEnFull n) :=
  (Apart.refl.wr F.LSL_CAN_CTL_EN n 1 (by decide)).trans ((State.canLimitersFull_apart _ n).mono (by decide))

theorem State.canEnFull_shows {j : Nat} (isLimiter : j < 16) : (s.canEnFull n).rd F.LSL_CAN_CTL_EN n = 1
    ∧ (s.canEnFull n).rd F.LSL_CAN_RL_TOKENS (16 * n + j) = max 1 (s.rd F.LSL_CAN_RL_BURST (16 * n + j)) % 2 ^ F.LSL_CAN_RL_TOKENS.width := by
  refine ⟨((State.canLimitersFull_apart _ n).rd _ n (by decide)).trans (State.rd_wr_same ..), ?_⟩
  rw [State.canEnFull, State.canLimitersFull, rd_limitersFull, if_pos (List.mem_range.2 isLimiter), State.rd_wr_fld _ _ _ _ _ _ (by decide)]

/-- The timing that EN latches: none when it is invalid. -/
def State.canLatched (s : State) (n : Nat) : List Nat := if timingValid (s.canTiming n) then s.canTiming n else []

theorem State.canEnable_eq (can : s.pers n = 1) (off : s.on F.LSL_CAN_CTL_EN n = false) : s.canEnable n =
    if (s.canLane n).stopping then (s.canEnFull n).setCan n { s.canLane n with next := some (s.canLatched n) }
    else (s.canEnFull n).canStart n (s.canLatched n) := by
  have same : (s.canEnFull n).canLane n = s.canLane n := State.canLane_canLimitersFull _ n n
  have started : s.canEnable n = if ((s.canEnFull n).canLane n).stopping then
      (s.canEnFull n).setCan n { (s.canEnFull n).canLane n with next := some (s.canLatched n) }
      else (s.canEnFull n).canStart n (s.canLatched n) := if_neg (by simp [can, off])
  rw [started, same]

/-- A lane of which no frame is ending takes the timing and, stopped or standing by, not parked, integrates. -/
theorem State.canEnable_starts :
    (((s.canEnFull n).canStart n (s.canLatched n)).canLane n).timing = s.canLatched n
    ∧ (((s.canEnFull n).canStart n (s.canLatched n)).canLane n).st =
      if s.canLatched n ≠ [] ∧ ((s.canLane n).st = .stopped ∨ (s.canLane n).st = .standby) ∧ s.laneParked n = false then .integrating
      else (s.canLane n).st := by
  have same : (s.canEnFull n).canLane n = s.canLane n := State.canLane_canLimitersFull _ n n
  have parked := (s.canEnFull_apart n).laneParked n (by decide)
  obtain ⟨-, lane⟩ := (s.canEnFull n).canStart_spec n (s.canLatched n)
  rw [State.lane, State.lane, same, parked] at lane
  have st := congrArg CanLane.st lane
  have timing := congrArg CanLane.timing lane
  refine ⟨timing.trans ?_, st.trans ?_⟩
  · split
    · exact CanLane.to_timing _ _
    · rfl
  · rw [apply_ite CanLane.st, CanLane.to_st]
    refine if_congr ?_ rfl rfl
    simp [and_assoc]

end

/-! ### EN written 0, and the end of integration and recovery (R112, R113) -/

section
variable {s : State} {n : Fin 24}

theorem State.canDisable_eq (can : s.pers n = 1) : s.canDisable n =
    if ((s.canLane n).arb.isSome || (s.canLane n).sof.isSome) = true
    then (s.wr F.LSL_CAN_CTL_EN n 0).setCan n { s.canLane n with stopping := true, next := none }
    else (s.wr F.LSL_CAN_CTL_EN n 0).canHalted n := by
  have off : (s.wr F.LSL_CAN_CTL_EN n 0).on F.LSL_CAN_CTL_EN n = false := by rw [State.on, State.rd_wr_same]; rfl
  have still : ¬(s.wr F.LSL_CAN_CTL_EN n 0).pers n ≠ 1 := by rw [State.pers, State.rd_wr_fld _ _ _ _ _ _ (by decide)]; exact not_not.2 can
  rw [← State.canStopped_off _ _ off]
  exact if_neg still

/-- The lane in ACTIVE on an idle bus. -/
def State.canIdle (s : State) (n : Nat) : State := (s.canTo n .active).wr F.LSL_CAN_STAT_BUS_IDLE n 1

theorem State.lane_canIdle (s : State) (n : Nat) : (s.canIdle n).lane n = (s.lane n).to .active := by
  rw [State.canIdle, State.lane_wr, State.lane_canTo]

theorem State.canIdle_shows (s : State) (n : Nat) : ((s.canIdle n).canLane n).st = .active
    ∧ (s.canIdle n).rd F.LSL_CAN_STAT_LINK n = 1 ∧ (s.canIdle n).rd F.LSL_CAN_STAT_BUS_IDLE n = 1 := by
  obtain ⟨-, -, -, link⟩ := s.canTo_shows n .active
  refine ⟨?_, ?_, State.rd_wr_same ..⟩
  · rw [State.canLane_st, State.lane_canIdle, CanLane.to_st]
  · rw [State.canIdle, State.rd_wr_fld _ _ _ _ _ _ (by decide), link]; rfl

/-- A lane that integrates with TEC still above 255 is bus-off. -/
theorem State.canIdle_busOff (s : State) (n : Nat) : (((s.canIdle n).canBusOff n).canLane n).st = s.offState n
    ∧ ((s.canIdle n).canBusOff n).rd F.LSL_CAN_STAT_BUSOFF_EVT n = 1 := by
  obtain ⟨-, off, evt, -⟩ := (s.canIdle n).canBusOff_spec n
  have auto : (s.canIdle n).offState n = s.offState n := by
    rw [State.offState, State.offState, State.canIdle, State.on, State.rd_wr_fld _ _ _ _ _ _ (by decide),
      (s.canTo_apart n .active).rd _ n (by decide), State.on]
  exact ⟨by rw [State.canLane_st, off, CanLane.to_st, auto], evt⟩

theorem exec_canIntegrated_integrating (can : s.pers n = 1) (st : (s.canLane n).st = .integrating) :
    exec (.canIntegrated n) s = .next (if 255 < (s.canLane n).tec then (s.canIdle n).canBusOff n else s.canIdle n) := by
  have tec : ((s.canIdle n).canLane n).tec = (s.canLane n).tec := by
    rw [State.canLane_tec, State.lane_canIdle, CanLane.to_tally]; rfl
  change execCanIntegrated n s = _
  rw [execCanIntegrated, if_neg (not_not.2 can), st, ← tec]
  rfl

theorem exec_canIntegrated_recovering (can : s.pers n = 1) (st : (s.canLane n).st = .recovering) :
    exec (.canIntegrated n) s = .next (s.wr F.LSL_CAN_ERR_RECOV_CNT n (min 127 (s.rd F.LSL_CAN_ERR_RECOV_CNT n + 1))) := by
  change execCanIntegrated n s = _
  rw [execCanIntegrated, if_neg (not_not.2 can), st]

theorem exec_canIntegrated_waiting (can : s.pers n = 1) (st : (s.canLane n).st = .active) (waits : (s.canLane n).waits = true) :
    exec (.canIntegrated n) s = .next ((s.setCan n { s.canLane n with waits := false }).wr F.LSL_CAN_STAT_BUS_IDLE n 1) := by
  change execCanIntegrated n s = _
  rw [execCanIntegrated, if_neg (not_not.2 can), st]
  exact congrArg Host.Outcome.next (if_pos waits)

/-- The lane that has recovered: ACTIVE, its error counters 0. -/
def State.canRecovered (s : State) (n : Nat) : State :=
  ((s.setCan n { s.canLane n with tec := 0, recC := 0 }).wr F.LSL_CAN_ERR_RECOV_CNT n 128).canTo n .active

theorem State.canRecovered_shows (s : State) (n : Nat) :
    ((s.canRecovered n).canLane n).st = .active ∧ (s.canRecovered n).rd F.LSL_CAN_ERR_RECOV_CNT n = 128
    ∧ (s.canRecovered n).rd F.LSL_CAN_ERR_TEC n = 0 ∧ (s.canRecovered n).rd F.LSL_CAN_ERR_REC n = 0
    ∧ (s.canRecovered n).rd F.LSL_CAN_ERR_STATE n = 0 ∧ (s.canRecovered n).rd F.LSL_CAN_STAT_LINK n = 1 := by
  have moved := State.canTo_apart ((s.setCan n { s.canLane n with tec := 0, recC := 0 }).wr F.LSL_CAN_ERR_RECOV_CNT n 128) n .active
  have lane := State.lane_canTo ((s.setCan n { s.canLane n with tec := 0, recC := 0 }).wr F.LSL_CAN_ERR_RECOV_CNT n 128) n .active
  obtain ⟨tec, recC, state, link⟩ :=
    State.canTo_shows ((s.setCan n { s.canLane n with tec := 0, recC := 0 }).wr F.LSL_CAN_ERR_RECOV_CNT n 128) n .active
  rw [State.canLane_wr, State.canLane_setCan_same] at tec recC state
  refine ⟨by rw [State.canLane_st, State.canRecovered, lane, CanLane.to_st], (moved.rd _ n (by decide)).trans (State.rd_wr_same ..), tec, recC, ?_, link⟩
  exact state

/-! ### Reference messages that fall due (R118, R119) -/

/-- What is in arbitration is a reference message. -/
def isRefTx (a : Option CanTx) : Bool := match a with | some (.ref _) => true | _ => false

/-- A due reference message waits to be sent, or is counted as missed. -/
theorem exec_canTmDue (due : (decide (s.pers n = 1) && s.bit F.LSL_PERS_ROLE n 2 && s.on F.LSL_CAN_TM_EN n && s.on F.LSL_CAN_CTL_EN n
      && s.canSends n) = true) :
    exec (.canTmDue n) s = .next (if s.tmFormat n = true ∧ (s.canLane n).refDue = false ∧ isRefTx (s.canLane n).arb = false
      then s.setCan n { s.canLane n with refDue := true, refOut := none } else s.canCnt n 18) := by
  change execCanTmDue n s = _
  unfold execCanTmDue
  dsimp only
  rw [due, if_neg (by decide)]
  refine congrArg Host.Outcome.next ?_
  change (if (!s.tmFormat n || ((s.canLane n).refDue || isRefTx (s.canLane n).arb)) = true then _ else _) = _
  rw [← ite_not]
  exact if_congr (by simp) rfl rfl

/-! ### Wakes (R121) -/

theorem exec_canWakeDominant_dozing (can : s.pers n = 1) (en : s.on F.LSL_CAN_WAKE_EN n = true) (armed : s.laneArmed n = false)
    (doze : s.dozing = true) : exec (.canWakeDominant n) s = .next (s.aocWake 1 n) := by
  change execCanWakeDominant n s = _
  simp [execCanWakeDominant, can, en, armed, doze]

theorem exec_canWakeDominant_asleep (can : s.pers n = 1) (en : s.on F.LSL_CAN_WAKE_EN n = true) (armed : s.laneArmed n = false)
    (doze : s.dozing = false) (asleep : s.portAsleep (40 + n) = true) : exec (.canWakeDominant n) s = .next (s.memberWake (40 + n) 1 n) := by
  change execCanWakeDominant n s = _
  simp [execCanWakeDominant, can, en, armed, doze, asleep]

theorem exec_aocLaneWake (detects : s.laneArmed n = true ∨ (2 ≤ s.pers n ∧ s.laneWakes n = true ∧ s.laneParked n = true)) :
    exec (.aocLaneWake n) s = .next (if (s.dozing || decide (s.phase ≠ .running)) = true then s.aocWake 1 n else s.memberWake (40 + n) 1 n) := by
  change execAocLaneWake n s = _
  unfold execAocLaneWake
  dsimp only
  rw [if_neg]
  · split <;> rfl
  · rcases detects with armed | ⟨own, wakes, parked⟩
    · simp [armed]
    · simp [own, wakes, parked]

theorem testBit_setBitN_ne (w : Nat) {i j : Nat} (other : j ≠ i) : (setBitN w i).testBit j = w.testBit j := by
  have clear : (2 ^ i).testBit j = false := by rw [Nat.testBit_two_pow]; exact decide_eq_false (Ne.symm other)
  rw [setBitN, Nat.one_shiftLeft, Nat.testBit_or, clear, Bool.or_false]

end
end Sys2Proof.Machine
end

section
/-! SUPPORT. The statement about starting, stopping, recovering and waking CAN lanes. -/
namespace Sys2Proof
open Sys2Proof.Machine

/-- Settles O24: each command is its equation; EN latches by `canEnable_starts`, a change of state leaves the registers that
`canTo_shows` says, and a wake is recorded (`aocWake_recorded`) or wakes the lane's networks (`memberWake_wakes`). -/
theorem canLanesStartStopRecoverAndWake : Obligations.CanLanesStartStopRecoverAndWake := by
  unfold Obligations.CanLanesStartStopRecoverAndWake
  intro s n j edges minEdge l timing coded nets
  have recorded : coded (s.aocWake 1 n) := fun on => s.aocWake_recorded n on (by decide)
  have woken : nets (s.memberWake (40 + n) 1 n) := fun k member asleep => s.memberWake_wakes _ 1 n k member asleep
  refine ⟨fun can off => ?_, fun can => ?_, fun can integrating => ?_, fun can recovering => ?_, fun can active waits => ?_, fun can off => ?_,
    fun can recovering counted => ?_, ?_, fun due => ?_, fun can en armed => ⟨fun doze => ?_, fun doze asleep => ?_⟩, fun detects => ⟨fun away => ?_, fun doze runs => ?_⟩,
    fun can en standby => ?_, fun can listens => ?_, fun deaf => ?_, fun started => ?_⟩
  · obtain ⟨en, full⟩ := s.canEnFull_shows n j.isLt
    refine ⟨_, congrArg Host.Outcome.next (s.canEnable_eq n can off), ?_⟩
    dsimp only
    by_cases stopping : l.stopping = true
    · rw [if_pos stopping]
      refine ⟨(State.rd_setCan ..).trans en, (State.rd_setCan ..).trans full, fun _ => ⟨?_, ?_⟩, fun no => absurd (stopping.symm.trans no) (by decide)⟩
      · rw [State.canLane_setCan_same]; rfl
      · rw [State.canLane_setCan_same]
    · rw [if_neg stopping]
      obtain ⟨apart, -⟩ := (s.canEnFull n).canStart_spec n (s.canLatched n)
      exact ⟨(apart.rd _ n (by decide)).trans en, (apart.rd _ _ (by decide)).trans full, fun yes => absurd yes stopping,
        fun _ => s.canEnable_starts n⟩
  · refine ⟨_, congrArg Host.Outcome.next (State.canDisable_eq can), ?_⟩
    have en : (s.wr F.LSL_CAN_CTL_EN n 0).rd F.LSL_CAN_CTL_EN n = 0 := State.rd_wr_same ..
    dsimp only
    by_cases busy : (l.arb.isSome || l.sof.isSome) = true
    · rw [if_pos busy, if_pos busy]
      exact ⟨en, rfl⟩
    · rw [if_neg busy, if_neg busy]
      exact ⟨((State.canHalted_apart _ n).rd _ n (by decide)).trans en, by rw [State.canLane_st, State.lane_canHalted], State.canHalted_link _ n⟩
  · refine ⟨_, exec_canIntegrated_integrating can integrating, ?_⟩
    dsimp only
    split
    · exact s.canIdle_busOff n
    · exact s.canIdle_shows n
  · exact ⟨_, exec_canIntegrated_recovering can recovering, rfl⟩
  · refine ⟨_, exec_canIntegrated_waiting can active waits, ?_, State.rd_wr_same .., RegsBut.wr (RegsBut.of_regs rfl) _ _ _ (by decide)⟩
    rw [State.canLane_wr, State.canLane_setCan_same]
  · refine ⟨_, congrArg Host.Outcome.next (if_pos ⟨can, off⟩), ?_, ?_⟩
    · rw [State.canLane_st, State.lane_canTo, CanLane.to_st]
    · exact ((State.canTo_apart _ n .recovering).rd _ n (by decide)).trans (State.rd_wr_same ..)
  · refine ⟨_, congrArg Host.Outcome.next (if_pos ⟨can, recovering, counted⟩), ?_⟩
    obtain ⟨st, count, tec, recC, state, link⟩ := s.canRecovered_shows n
    refine ⟨st, ?_, ?_, ?_, ?_, ?_⟩ <;> rwa [State.rd_wr_fld _ _ _ _ _ _ (by decide)]
  · exact ⟨_, rfl, State.rd_wr_same .., rfl, RegsBut.refl.wr _ _ _ (by decide), fun m other => s.rd_wr_elem _ _ _ _ _ other⟩
  · refine ⟨_, exec_canTmDue due, ?_⟩
    dsimp only
    have judged : (match l.arb with | some (.ref _) => false | _ => true) = !isRefTx l.arb := by
      generalize l.arb = a
      rcases a with _ | _ | _ | _ <;> rfl
    by_cases waits : s.tmFormat n = true ∧ l.refDue = false ∧ isRefTx l.arb = false
    · obtain ⟨format, unsent, none⟩ := waits
      rw [if_pos ⟨format, unsent, judged.trans (by rw [none]; rfl)⟩, if_pos ⟨format, unsent, none⟩]
    · rw [if_neg fun free => waits ⟨free.1, free.2.1, by simpa using judged.symm.trans free.2.2⟩, if_neg waits]
      exact ⟨State.rd_wr_same .., rfl⟩
  · exact ⟨_, exec_canWakeDominant_dozing can en armed doze, recorded⟩
  · exact ⟨_, exec_canWakeDominant_asleep can en armed doze asleep, woken⟩
  · refine ⟨_, (exec_aocLaneWake detects).trans (congrArg Host.Outcome.next (if_pos ?_)), recorded⟩
    simpa using away
  · refine ⟨_, (exec_aocLaneWake detects).trans (congrArg Host.Outcome.next (if_neg ?_)), woken⟩
    simp [doze, runs]
  · exact ⟨_, congrArg Host.Outcome.next (if_pos ⟨can, en, standby⟩), testBit_setBitN _ _, rfl, fun m other => testBit_setBitN_ne _ other⟩
  · exact ⟨_, congrArg Host.Outcome.next (if_pos ⟨can, listens⟩), rfl⟩
  · exact congrArg Host.Outcome.next (if_neg fun h => deaf h.2)
  · refine ⟨_, congrArg Host.Outcome.next (if_pos started), ?_⟩
    have ends : RegsBut [F.LSL_CAN_BRD_START, F.LSL_CAN_BRD_EDGES, F.LSL_CAN_BRD_MIN_EDGE, F.LSL_CAN_STAT_BRD_DONE] s
        ((((s.wr F.LSL_CAN_BRD_START n 0).wr F.LSL_CAN_BRD_EDGES n (min edges 255)).wr F.LSL_CAN_BRD_MIN_EDGE n minEdge.toNat).wr F.LSL_CAN_STAT_BRD_DONE n 1) :=
      (((RegsBut.refl.wr _ _ _ (by decide)).wr _ _ _ (by decide)).wr _ _ _ (by decide)).wr _ _ _ (by decide)
    refine ⟨?_, ?_, ?_, State.rd_wr_same .., rfl, ends⟩
    · simp [State.evt_eq_wr, State.rd_wr_fld]
    · simp [State.evt_eq_wr, State.rd_wr_fld, Nat.mod_eq_of_lt (show min edges 255 < 256 by omega)]
    · simp [State.evt_eq_wr, State.rd_wr_fld, Nat.mod_eq_of_lt minEdge.isLt]

end Sys2Proof
end

section
/-! SUPPORT. Errors of CAN lanes (spec 05 R105, R107, R108, R109, R111): what an error counts, and what becomes of the frame on the bus. -/
namespace Sys2Proof.Machine

/-! ### What was in arbitration is retried or given up (R109, R119) -/

/-- A lane without the messages that wait beside its queues. -/
def CanLane.bus (x : CanLane) : CanLane := { x with refDue := false, refOut := none, presDue := none, presOut := false }

section
variable (s : State) (n : Nat)

theorem State.rd_canCnt_same (k : Nat) :
    (s.canCnt n k).rd F.LSL_CAN_CNT_COUNT (20 * n + k) = (s.rd F.LSL_CAN_CNT_COUNT (20 * n + k) + 1) % 2 ^ F.LSL_CAN_CNT_COUNT.width :=
  State.rd_wr_same ..

theorem State.rd_canCnt_ne {k j : Nat} (other : j ≠ k) :
    (s.canCnt n k).rd F.LSL_CAN_CNT_COUNT (20 * n + j) = s.rd F.LSL_CAN_CNT_COUNT (20 * n + j) := s.rd_wr_elem _ _ _ _ _ (by omega)

/-- The fields that giving up a frame may write. -/
abbrev retryFlds : List Fld := queueFlds ++ [F.LSL_CAN_CNT_COUNT]

/-- A frame that was not sent counts, if anything, as abandoned, and the lane's bus side stays. -/
theorem State.canRetry_spec (a : Option CanTx) :
    Apart retryFlds s (s.canRetry n a) ∧ ((s.canRetry n a).lane n).bus = (s.lane n).bus
    ∧ ∀ k, k ≠ 13 → (s.canRetry n a).rd F.LSL_CAN_CNT_COUNT (20 * n + k) = s.rd F.LSL_CAN_CNT_COUNT (20 * n + k) := by
  have waits (x : CanLane) (same : x.bus = (s.canLane n).bus) : Apart retryFlds s (s.setCan n x) ∧ ((s.setCan n x).lane n).bus = (s.lane n).bus
      ∧ ∀ k, k ≠ 13 → (s.setCan n x).rd F.LSL_CAN_CNT_COUNT (20 * n + k) = s.rd F.LSL_CAN_CNT_COUNT (20 * n + k) := by
    refine ⟨Apart.refl.setCan n x, ?_, fun _ _ => rfl⟩
    rw [State.lane_setCan_same]
    exact congrArg (fun y : CanLane => { y with passed := [] }) same
  have stays : Apart retryFlds s s ∧ (s.lane n).bus = (s.lane n).bus
      ∧ ∀ k, k ≠ 13 → s.rd F.LSL_CAN_CNT_COUNT (20 * n + k) = s.rd F.LSL_CAN_CNT_COUNT (20 * n + k) := ⟨Apart.refl, rfl, fun _ _ => rfl⟩
  unfold State.canRetry
  dsimp only
  split
  · next q e _ =>
    have removed := s.canRemove_queueOnly n q e
    have apart : Apart retryFlds s ((s.canRemove n q e).canCnt n 13) := (removed.apart.mono (by decide)).wr F.LSL_CAN_CNT_COUNT _ _ (by decide)
    split
    · refine ⟨apart, ?_, fun k other => ?_⟩
      · rw [State.lane_canCnt, removed.lane]
      · rw [State.rd_canCnt_ne _ _ other, removed.apart.rd _ _ (by decide)]
    · exact stays
  · exact waits _ (by split <;> rfl)
  · exact waits _ (by repeat' split
                      all_goals rfl)
  · exact stays

/-! ### What an error counts (R111) -/

/-- The lane with an error counted: TEC by 8, REC by 1 or 8; `special` says of a transmitter that it counts none. -/
def CanLane.erred (x : CanLane) (tx special : Bool) : CanLane :=
  { x with
    tec := if tx && !special then x.tec + 8 else x.tec
    recC := if tx then x.recC else x.recC + if special then 8 else 1 }

/-- What an error makes of the lane: in a mode that counts errors it counts, and a lane whose TEC exceeds 255 is bus-off. -/
def State.errLane (s : State) (n : Nat) (tx special : Bool) : CanLane :=
  let x := (s.lane n).erred tx special
  if !s.canCounts n || (tx && special) then s.lane n else if 255 < x.tec then x.to (s.offState n) else x

theorem State.canCounts_congr {s t : State} {n : Nat} (same : t.rd F.LSL_CAN_CTL_OPMODE n = s.rd F.LSL_CAN_CTL_OPMODE n) :
    t.canCounts n = s.canCounts n := by rw [State.canCounts, same, State.canCounts]

theorem State.errLane_stopping (tx special : Bool) : (s.errLane n tx special).stopping = (s.lane n).stopping := by
  unfold State.errLane CanLane.to
  dsimp only
  split
  · rfl
  · split
    · split <;> rfl
    · rfl

theorem State.errLane_tally (tx special : Bool) (counts : s.canCounts n = true) :
    (s.errLane n tx special).tally = ((s.lane n).erred tx special).tally := by
  unfold State.errLane
  dsimp only
  rw [counts]
  split
  · next none =>
    have both : tx = true ∧ special = true := by simpa using none
    rw [both.1, both.2]; rfl
  · split
    · exact CanLane.to_tally _ _
    · rfl

theorem State.errLane_uncounted (tx special : Bool) (off : s.canCounts n = false) : s.errLane n tx special = s.lane n := by
  unfold State.errLane
  dsimp only
  rw [off]
  rfl

theorem State.errLane_busOff (counts : s.canCounts n = true) (above : 255 < (s.canLane n).tec + 8) :
    (s.errLane n true false).st = s.offState n := by
  unfold State.errLane
  dsimp only
  have above' : 255 < ((s.lane n).erred true false).tec := above
  rw [counts, if_neg (by decide), if_pos above', CanLane.to_st]

theorem State.canErrCount_spec (tx special : Bool) :
    Apart offFlds s (s.canErrCount n tx special) ∧ (s.canErrCount n tx special).lane n = s.errLane n tx special
    ∧ (s.canCounts n = true → tx = true → special = false → 255 < (s.canLane n).tec + 8 →
        (s.canErrCount n tx special).rd F.LSL_CAN_STAT_BUSOFF_EVT n = 1)
    ∧ ∀ k, k ≠ 16 → (s.canErrCount n tx special).rd F.LSL_CAN_CNT_COUNT (20 * n + k) = s.rd F.LSL_CAN_CNT_COUNT (20 * n + k) := by
  unfold State.canErrCount State.errLane
  dsimp only
  split
  · next none =>
    refine ⟨Apart.refl, rfl, fun counts sends plain => ?_, fun _ _ => rfl⟩
    rw [counts, sends, plain] at none
    exact absurd none (by decide)
  · next counted =>
    cases tx with
    | true =>
      have plain : special = false := by
        cases special with
        | false => rfl
        | true => exact absurd (Bool.or_true _) counted
      subst plain
      obtain ⟨apart, lane, evt, counts⟩ := s.canErrors_spec n ((s.canLane n).tec + 8) (s.canLane n).recC
      exact ⟨apart, lane, fun _ _ _ above => evt above, counts⟩
    | false =>
      obtain ⟨apart, lane, -, counts⟩ := s.canErrors_spec n (s.canLane n).tec ((s.canLane n).recC + if special then 8 else 1)
      exact ⟨apart, lane, fun _ no => absurd no (by decide), counts⟩

/-! ### What an error records -/

/-- The fields that an error may write before the frame on the bus ends. -/
abbrev errFlds : List Fld := offFlds ++ [F.LSL_CAN_ERR_LEC, F.LSL_CAN_ERR_LEC_DATA]

/-- The counter of errors met while sending, or while receiving. -/
def errCnt (tx : Bool) : Nat := if tx then 11 else 5

/-- The error recorded and counted. -/
def State.canErrNoted (s : State) (n lec : Nat) (data tx special : Bool) : State :=
  ((s.canLec n lec data).canCnt n (errCnt tx)).canErrCount n tx special

theorem State.canErrNoted_spec (lec : Nat) (data tx special : Bool) :
    let t := s.canErrNoted n lec data tx special
    Apart errFlds s t ∧ t.lane n = s.errLane n tx special
    ∧ t.rd F.LSL_CAN_ERR_LEC n = lec % 2 ^ F.LSL_CAN_ERR_LEC.width ∧ t.rd F.LSL_CAN_ERR_LEC_DATA n = b2n data
    ∧ (s.canCounts n = true → tx = true → special = false → 255 < (s.canLane n).tec + 8 → t.rd F.LSL_CAN_STAT_BUSOFF_EVT n = 1)
    ∧ t.rd F.LSL_CAN_CNT_COUNT (20 * n + errCnt tx) = (s.rd F.LSL_CAN_CNT_COUNT (20 * n + errCnt tx) + 1) % 2 ^ F.LSL_CAN_CNT_COUNT.width
    ∧ ∀ k, k ≠ 16 → k ≠ errCnt tx → t.rd F.LSL_CAN_CNT_COUNT (20 * n + k) = s.rd F.LSL_CAN_CNT_COUNT (20 * n + k) := by
  have coded : Apart errFlds s (s.canLec n lec data) :=
    (Apart.refl.wr F.LSL_CAN_ERR_LEC n lec (by decide)).wr F.LSL_CAN_ERR_LEC_DATA n _ (by decide)
  have noted : Apart errFlds s ((s.canLec n lec data).canCnt n (errCnt tx)) := coded.wr F.LSL_CAN_CNT_COUNT _ _ (by decide)
  have counts : ((s.canLec n lec data).canCnt n (errCnt tx)).canCounts n = s.canCounts n := State.canCounts_congr (noted.rd _ n (by decide))
  have lane : ((s.canLec n lec data).canCnt n (errCnt tx)).errLane n tx special = s.errLane n tx special := by
    unfold State.errLane State.offState
    dsimp only
    rw [counts, noted.on F.LSL_CAN_CTL_AUTO_RECOV n (by decide)]
    rfl
  have cnt (j : Nat) : (s.canLec n lec data).rd F.LSL_CAN_CNT_COUNT j = s.rd F.LSL_CAN_CNT_COUNT j := by
    rw [State.canLec, State.wrb_eq_wr, State.rd_wr_fld _ _ _ _ _ _ (by decide), State.rd_wr_fld _ _ _ _ _ _ (by decide)]
  obtain ⟨apart, erred, evt, others⟩ := State.canErrCount_spec ((s.canLec n lec data).canCnt n (errCnt tx)) n tx special
  have elsewhere : errCnt tx ≠ 16 := by cases tx <;> decide
  refine ⟨noted.trans (apart.mono (by decide)), erred.trans lane, ?_, ?_, fun c => evt (counts.trans c), ?_, fun k bus other => ?_⟩
  · refine (apart.rd _ n (by decide)).trans ?_
    simp [State.canLec, State.canCnt, State.bump_eq_wr, State.wrb_eq_wr, State.rd_wr_fld]
  · refine (apart.rd _ n (by decide)).trans ?_
    cases data <;> simp [State.canLec, State.canCnt, State.bump_eq_wr, State.wrb_eq_wr, State.rd_wr_fld, b2n]
  · rw [State.canErrNoted, others _ elsewhere, State.rd_canCnt_same, cnt]
  · rw [State.canErrNoted, others _ bus, State.rd_canCnt_ne _ _ other, cnt]

/-! ### What becomes of the frame on the bus (R107, R109) -/

/-- In restricted operation a lane waits after an error (R107). -/
def State.canErrHeld (s : State) (n : Nat) : State :=
  if s.rd F.LSL_CAN_CTL_OPMODE n = 2 ∧ (s.canLane n).st = .active then s.setCan n { s.canLane n with waits := true } else s

/-- The frame on the bus ends with an error: one that was sent, `a`, is retried or given up. -/
def State.canErrOver (s : State) (n : Nat) (tx : Bool) (a : Option CanTx) : State :=
  if tx then (s.canRetry n a).canEnded n
  else if (s.canLane n).arb.isNone then s.canEnded n else s.setCan n { s.canLane n with sof := none }

theorem State.canError_eq (lec : Nat) (data tx special : Bool) :
    s.canError n lec data tx special = ((s.canErrNoted n lec data tx special).canErrHeld n).canErrOver n tx (s.canLane n).arb := rfl

/-- From `s` to `t` a frame of lane `n` ended with an error: of counters that of abandoned frames alone may move, and a lane that stays on its
bus keeps its state. -/
structure ErrOver (n : Nat) (s t : State) : Prop where
  apart : Apart (toFlds ++ [F.LSL_CAN_CNT_COUNT]) s t
  counts : ∀ k, k ≠ 13 → t.rd F.LSL_CAN_CNT_COUNT (20 * n + k) = s.rd F.LSL_CAN_CNT_COUNT (20 * n + k)
  tally : (t.lane n).tally = (s.lane n).tally
  stays : (s.lane n).stopping = false → s.laneParked n = false → (t.lane n).st = (s.lane n).st ∧ (t.lane n).waits = (s.lane n).waits

theorem CanLane.of_bus {x y : CanLane} (same : x.bus = y.bus) :
    x.st = y.st ∧ x.waits = y.waits ∧ x.stopping = y.stopping ∧ x.tally = y.tally ∧ x.errState = y.errState :=
  ⟨(congrArg CanLane.st same :), (congrArg CanLane.waits same :), (congrArg CanLane.stopping same :), (congrArg CanLane.tally same :),
    (congrArg CanLane.errState same :)⟩

theorem CanLane.of_tally {x y : CanLane} (same : x.tally = y.tally) : x.tec = y.tec ∧ x.recC = y.recC ∧ x.tmSeq = y.tmSeq := by
  simpa only [CanLane.tally, Prod.mk.injEq] using same

theorem State.canEnded_errOver (can : s.pers n = 1) : ErrOver n s (s.canEnded n) := by
  have ended := s.canEnded_over n can
  refine ⟨ended.apart.mono (by decide), fun k _ => ended.apart.rd _ _ (by decide), ended.tally, fun stopping parked => ?_⟩
  rw [s.canEnded_stays n stopping parked, s.lane_canFreed n]
  exact ⟨rfl, rfl⟩

theorem State.canErrOver_errOver (can : s.pers n = 1) (tx : Bool) (a : Option CanTx) : ErrOver n s (s.canErrOver n tx a) := by
  cases tx with
  | true =>
    obtain ⟨apart, lane, counts⟩ := s.canRetry_spec n a
    obtain ⟨st, waits, stopping, tally, -⟩ := CanLane.of_bus lane
    have ended := State.canEnded_errOver (s.canRetry n a) n ((apart.rd _ n (by decide)).trans can)
    refine ⟨(apart.mono (by decide)).trans ended.apart, fun k other => (ended.counts k other).trans (counts k other), ended.tally.trans tally,
      fun stays here => ?_⟩
    obtain ⟨st', waits'⟩ := ended.stays (stopping.trans stays) ((apart.laneParked n (by decide)).trans here)
    exact ⟨st'.trans st, waits'.trans waits⟩
  | false =>
    have sofOver : ErrOver n s (s.setCan n { s.canLane n with sof := none }) := by
      have lane := s.lane_setCan_same n { s.canLane n with sof := none }
      exact ⟨Apart.refl.setCan n _, fun _ _ => rfl, by rw [lane]; rfl, fun _ _ => by rw [lane]; exact ⟨rfl, rfl⟩⟩
    unfold State.canErrOver
    rw [if_neg (by decide)]
    split
    · exact s.canEnded_errOver n can
    · exact sofOver

/-- The registers show the state of a sender that stays on its bus. -/
theorem State.canErrOver_state (a : Option CanTx) (stays : (s.lane n).stopping = false) (here : s.laneParked n = false) :
    (s.canErrOver n true a).rd F.LSL_CAN_ERR_STATE n = (s.lane n).errState % 2 ^ 2 := by
  obtain ⟨apart, lane, -⟩ := s.canRetry_spec n a
  obtain ⟨-, -, stopping, -, errState⟩ := CanLane.of_bus lane
  have freed := State.canEnded_stays (s.canRetry n a) n (stopping.trans stays) ((apart.laneParked n (by decide)).trans here)
  obtain ⟨-, -, shown, -⟩ := State.canShow_shows ((s.canRetry n a).setCan n { (s.canRetry n a).canLane n with arb := none, sof := none }) n
  rw [State.canLane_setCan_same] at shown
  rw [State.canErrOver, if_pos rfl, freed, ← errState]
  exact shown

end
end Sys2Proof.Machine
end

section
/-! SUPPORT. The commands of CAN errors (spec 05 R104, R105, R107, R108, R111, R112). -/
namespace Sys2Proof.Machine

/-- From `s` to `t` lane `n` met an error `lec` while sending (`tx`) or receiving. -/
structure ErrorMet (n lec : Nat) (data tx special : Bool) (s t : State) : Prop where
  apart : Apart (F.LSL_CAN_STAT_TDCV :: errFlds) s t
  lec : t.rd F.LSL_CAN_ERR_LEC n = lec % 2 ^ F.LSL_CAN_ERR_LEC.width
  lecData : t.rd F.LSL_CAN_ERR_LEC_DATA n = b2n data
  counted : t.rd F.LSL_CAN_CNT_COUNT (20 * n + errCnt tx) = (s.rd F.LSL_CAN_CNT_COUNT (20 * n + errCnt tx) + 1) % 2 ^ F.LSL_CAN_CNT_COUNT.width
  others : ∀ k, k ≠ 13 → k ≠ 16 → k ≠ errCnt tx → t.rd F.LSL_CAN_CNT_COUNT (20 * n + k) = s.rd F.LSL_CAN_CNT_COUNT (20 * n + k)
  tally : s.canCounts n = true → (t.lane n).tally = ((s.lane n).erred tx special).tally
  busOff : s.canCounts n = true → (s.canLane n).stopping = false → s.laneParked n = false → tx = true → special = false →
    255 < (s.canLane n).tec + 8 → t.rd F.LSL_CAN_STAT_BUSOFF_EVT n = 1 ∧ t.rd F.LSL_CAN_ERR_STATE n = 2 ∧ (t.canLane n).st = s.offState n
  waits : s.rd F.LSL_CAN_CTL_OPMODE n = 2 → (s.canLane n).st = .active → (s.canLane n).stopping = false → s.laneParked n = false →
    (t.canLane n).waits = true

section
variable (s : State) (n : Nat)

theorem State.canErrHeld_apart : Apart errFlds s (s.canErrHeld n) := Apart.ite (Apart.refl.setCan n _) Apart.refl

/-- Waiting changes neither the counters nor the state of a lane. -/
theorem State.canErrHeld_lane : ((s.canErrHeld n).lane n).tally = (s.lane n).tally ∧ ((s.canErrHeld n).lane n).stopping = (s.lane n).stopping
    ∧ ((s.canErrHeld n).lane n).st = (s.lane n).st ∧ ((s.canErrHeld n).lane n).errState = (s.lane n).errState
    ∧ (s.rd F.LSL_CAN_CTL_OPMODE n = 2 → (s.lane n).st = .active → ((s.canErrHeld n).lane n).waits = true) := by
  unfold State.canErrHeld
  split
  · rw [State.lane_setCan_same]
    exact ⟨rfl, rfl, rfl, rfl, fun _ _ => rfl⟩
  · next free => exact ⟨rfl, rfl, rfl, rfl, fun restricted active => absurd ⟨restricted, active⟩ free⟩

theorem State.rd_canErrHeld (f : Fld) (i : Nat) : (s.canErrHeld n).rd f i = s.rd f i := by
  unfold State.canErrHeld
  split <;> rfl

theorem CanLane.errState_off {x : CanLane} {s : State} (off : x.st = s.offState n) : x.errState % 2 ^ 2 = 2 := by
  unfold CanLane.errState
  rw [off, State.offState]
  cases s.on F.LSL_CAN_CTL_AUTO_RECOV n <;> rfl

theorem State.canError_met (can : s.pers n = 1) (lec : Nat) (data tx special : Bool) :
    ErrorMet n lec data tx special s (s.canError n lec data tx special) := by
  obtain ⟨noted, erred, lecIs, dataIs, evt, counted, others⟩ := s.canErrNoted_spec n lec data tx special
  have held := (s.canErrNoted n lec data tx special).canErrHeld_apart n
  obtain ⟨tally, stopping, st, errState, waits⟩ := (s.canErrNoted n lec data tx special).canErrHeld_lane n
  have before := noted.trans held
  have off := State.canErrOver_errOver ((s.canErrNoted n lec data tx special).canErrHeld n) n ((before.rd _ n (by decide)).trans can) tx (s.canLane n).arb
  have state := State.canErrOver_state ((s.canErrNoted n lec data tx special).canErrHeld n) n (s.canLane n).arb
  have parked := before.laneParked n (by decide)
  have halts : (((s.canErrNoted n lec data tx special).canErrHeld n).lane n).stopping = (s.canLane n).stopping := by
    rw [stopping, erred, State.errLane_stopping]; rfl
  have cnt (j : Nat) := State.rd_canErrHeld (s.canErrNoted n lec data tx special) n F.LSL_CAN_CNT_COUNT j
  have elsewhere : errCnt tx ≠ 13 := by cases tx <;> decide
  rw [State.canError_eq]
  refine ⟨(before.mono (by decide)).trans (off.apart.mono (by decide)), ?_, ?_, ?_, fun k abandoned bus other => ?_, fun counts => ?_,
    fun counts stays here sends plain above => ?_, fun restricted active stays here => ?_⟩
  · rw [off.apart.rd _ n (by decide), State.rd_canErrHeld, lecIs]
  · rw [off.apart.rd _ n (by decide), State.rd_canErrHeld, dataIs]
  · rw [off.counts _ elsewhere, cnt, counted]
  · rw [off.counts _ abandoned, cnt, others k bus other]
  · rw [off.tally, tally, erred, State.errLane_tally _ _ _ _ counts]
  · subst sends plain
    obtain ⟨st', -⟩ := off.stays (halts.trans stays) (parked.trans here)
    have isOff := (st.trans (congrArg CanLane.st erred)).trans (s.errLane_busOff n counts above)
    refine ⟨?_, ?_, ?_⟩
    · rw [off.apart.rd _ n (by decide), State.rd_canErrHeld, evt counts rfl rfl above]
    · rw [state (halts.trans stays) (parked.trans here), CanLane.errState_off n isOff]
    · rw [State.canLane_st, st', isOff]
  · obtain ⟨-, waits'⟩ := off.stays (halts.trans stays) (parked.trans here)
    have uncounted : s.canCounts n = false := by rw [State.canCounts, restricted]; rfl
    rw [State.canLane_waits, waits', waits ((noted.rd _ n (by decide)).trans restricted)]
    rw [erred, State.errLane_uncounted _ _ _ _ uncounted]
    exact active

end

/-- An error that is met after a loop delay was taken. -/
theorem ErrorMet.after {n lec : Nat} {data tx special : Bool} {s u t : State} (met : ErrorMet n lec data tx special u t)
    (before : Apart [F.LSL_CAN_STAT_TDCV] s u) (can : u.can = s.can) : ErrorMet n lec data tx special s t := by
  have lane : u.canLane n = s.canLane n := congrArg (fun c : Tbl CanLane => c.get CanLane.init n) can
  have counts : u.canCounts n = s.canCounts n := State.canCounts_congr (before.rd _ n (by decide))
  have parked := before.laneParked n (by decide)
  have off : u.offState n = s.offState n := by rw [State.offState, before.on F.LSL_CAN_CTL_AUTO_RECOV n (by decide), State.offState]
  have cnt (k : Nat) := before.rd F.LSL_CAN_CNT_COUNT (20 * n + k) (by decide)
  obtain ⟨apart, lecIs, dataIs, counted, others, tally, busOff, waits⟩ := met
  have bus : u.lane n = s.lane n := by rw [State.lane, lane, State.lane]
  rw [counts, bus] at tally
  rw [counts, lane, parked, off] at busOff
  rw [before.rd _ n (by decide), lane, parked] at waits
  exact ⟨(before.mono (by decide)).trans apart, lecIs, dataIs, by rw [counted, cnt], fun k h1 h2 h3 => by rw [others k h1 h2 h3, cnt],
    tally, busOff, waits⟩

/-! ### The commands -/

section
variable {s : State} {n : Fin 24}

theorem State.canRuns_spec {s : State} {n : Nat} (runs : s.canRuns n = true) :
    s.pers n = 1 ∧ (s.canLane n).st = .active ∧ (s.canLane n).waits = false := by
  simp only [State.canRuns, Bool.and_eq_true, decide_eq_true_eq, Bool.not_eq_true'] at runs
  exact ⟨runs.1.1.1, runs.1.1.2, runs.1.2⟩

theorem State.canHears_runs {s : State} {n : Nat} (hears : s.canHears n = true) : s.canRuns n = true := (Bool.and_eq_true .. ▸ hears).1

/-- Taking a loop delay writes TDCV alone. -/
theorem State.tdcTaken_spec (s : State) (n v : Nat) : Apart [F.LSL_CAN_STAT_TDCV] s (s.tdcTaken n v) ∧ (s.tdcTaken n v).can = s.can := by
  unfold State.tdcTaken
  split
  · split
    · exact ⟨Apart.refl.wr F.LSL_CAN_STAT_TDCV n v (by decide), rfl⟩
    · exact ⟨Apart.refl, rfl⟩
  · exact ⟨Apart.refl, rfl⟩

theorem canBusError_met (lec : BitVec 3) (data : Bool) (side : CanSide) (special : Bool)
    (sends : decide (side ≠ .receives) = true → s.canRuns n = true ∧ (s.canLane n).arb.isSome = true)
    (hears : decide (side ≠ .receives) = false → s.canHears n = true) :
    ∃ t, exec (.canBusError n lec data side special) s = .next t ∧ ErrorMet n lec.toNat data (decide (side ≠ .receives)) special s t := by
  cases side with
  | receives =>
    obtain ⟨can, -⟩ := State.canRuns_spec (State.canHears_runs (hears rfl))
    exact ⟨_, congrArg Host.Outcome.next (if_pos (hears rfl)), s.canError_met n can lec.toNat data false special⟩
  | sends tdcv =>
    obtain ⟨runs, inArb⟩ := sends rfl
    obtain ⟨can, -⟩ := State.canRuns_spec runs
    refine ⟨_, congrArg Host.Outcome.next (if_pos (by rw [runs, inArb]; rfl)), ?_⟩
    cases tdcv with
    | none => exact s.canError_met n can lec.toNat data true special
    | some v =>
      obtain ⟨taken, lanes⟩ := s.tdcTaken_spec n v.toNat
      exact (State.canError_met _ n ((taken.rd _ n (by decide)).trans can) lec.toNat data true special).after taken lanes

/-- No edge of the loop delay (R105), before the error that it is. -/
def State.tdcFailed (s : State) (n : Nat) : State := ((s.evt F.LSL_CAN_STAT_TDC_FAIL_EVT n).canCnt n 19).reportX (0x0B8 + n) (elemId 0 (40 + n))

theorem State.tdcFailed_cnt (s : State) (n k : Nat) : (s.tdcFailed n).rd F.LSL_CAN_CNT_COUNT (20 * n + k) =
    if k = 19 then (s.rd F.LSL_CAN_CNT_COUNT (20 * n + k) + 1) % 2 ^ F.LSL_CAN_CNT_COUNT.width else s.rd F.LSL_CAN_CNT_COUNT (20 * n + k) := by
  rw [State.tdcFailed, State.rd_reportX]
  split
  · next same => rw [same, State.rd_canCnt_same, State.evt_eq_wr, State.rd_wr_fld _ _ _ _ _ _ (by decide)]
  · next other => rw [State.rd_canCnt_ne _ _ other, State.evt_eq_wr, State.rd_wr_fld _ _ _ _ _ _ (by decide)]

theorem exec_tdcFail (runs : s.canRuns n = true) (inArb : (s.canLane n).arb.isSome = true) (measures : (s.canLane n).timing.getD 12 0 = 1) :
    exec (.tdcFail n) s = .next ((s.tdcFailed n).canError n 5 true true false) :=
  congrArg Host.Outcome.next (if_pos (by rw [runs, inArb, measures]; rfl))

theorem tdcFail_met (runs : s.canRuns n = true) :
    let t := (s.tdcFailed n).canError n 5 true true false
    ErrorMet n 5 true true false (s.tdcFailed n) t ∧ t.rd F.LSL_CAN_STAT_TDC_FAIL_EVT n = 1 := by
  obtain ⟨can, -⟩ := State.canRuns_spec runs
  have failed : Apart [F.LSL_CAN_STAT_TDC_FAIL_EVT, F.LSL_CAN_CNT_COUNT] s (s.tdcFailed n) :=
    ((Apart.refl.wr F.LSL_CAN_STAT_TDC_FAIL_EVT n 1 (by decide)).wr F.LSL_CAN_CNT_COUNT _ _ (by decide)).reportX _ _
  have met := (s.tdcFailed n).canError_met n ((failed.rd _ n (by decide)).trans can) 5 true true false
  refine ⟨met, (met.apart.rd _ n (by decide)).trans ?_⟩
  simp [State.tdcFailed, State.canCnt, State.bump_eq_wr, State.evt_eq_wr, State.rd_wr_fld]

/-- A protocol exception noted (R108): the lane waits. -/
def State.pxNoted (s : State) (n : Nat) : State :=
  ((s.canCnt n 8).evt F.LSL_CAN_STAT_PXE_EVT n).setCan n { s.canLane n with waits := true, sof := none }

/-- The lane after a protocol exception: one that sends nothing ends the frame on the bus. -/
def State.pxWaits (s : State) (n : Nat) : State := if (s.canLane n).arb.isNone then (s.pxNoted n).canEnded n else s.pxNoted n

theorem exec_canProtocolException (xl : Bool) (hears : s.canHears n = true) (foreign : s.bit F.LSL_PERS_ROLE n (if xl then 1 else 0) = false) :
    exec (.canProtocolException ⟨n, xl⟩) s =
      .next (if s.on F.LSL_CAN_CTL_PXH n = true then s.pxWaits n else s.canError n 2 false false false) := by
  have lane : ((s.pxNoted n).canLane n).arb = (s.canLane n).arb := by rw [State.pxNoted, State.canLane_setCan_same]
  refine congrArg Host.Outcome.next ((if_neg ?_).trans ?_)
  · dsimp only
    rw [hears, foreign]; decide
  · rw [State.pxWaits, ← lane]
    rfl

theorem State.pxWaits_spec (can : s.pers n = 1) :
    (s.pxWaits n).rd F.LSL_CAN_CNT_COUNT (20 * n + 8) = (s.rd F.LSL_CAN_CNT_COUNT (20 * n + 8) + 1) % 2 ^ F.LSL_CAN_CNT_COUNT.width
    ∧ (s.pxWaits n).rd F.LSL_CAN_STAT_PXE_EVT n = 1
    ∧ ((s.pxWaits n).lane n).tally = (s.lane n).tally
    ∧ ((s.canLane n).stopping = false → s.laneParked n = false → ((s.pxWaits n).lane n).waits = true) := by
  have lane : (s.pxNoted n).lane n = { s.lane n with waits := true, sof := none } := by rw [State.pxNoted, State.lane_setCan_same]; rfl
  have apart : Apart [F.LSL_CAN_CNT_COUNT, F.LSL_CAN_STAT_PXE_EVT] s (s.pxNoted n) :=
    ((Apart.refl.wr F.LSL_CAN_CNT_COUNT _ _ (by decide)).wr F.LSL_CAN_STAT_PXE_EVT n 1 (by decide)).setCan n _
  have stays : ErrOver n (s.pxNoted n) (s.pxWaits n) := by
    unfold State.pxWaits
    split
    · exact (s.pxNoted n).canEnded_errOver n ((apart.rd _ n (by decide)).trans can)
    · exact ⟨Apart.refl, fun _ _ => rfl, rfl, fun _ _ => ⟨rfl, rfl⟩⟩
  refine ⟨(stays.counts 8 (by decide)).trans ?_, (stays.apart.rd _ n (by decide)).trans ?_, ?_, fun on here => ?_⟩
  · rw [State.pxNoted, State.rd_setCan, State.evt_eq_wr, State.rd_wr_fld _ _ _ _ _ _ (by decide), State.rd_canCnt_same]
  · rw [State.pxNoted, State.rd_setCan, State.evt_eq_wr, State.rd_wr_same]; rfl
  · rw [stays.tally, lane]; rfl
  · have still : ((s.pxNoted n).lane n).stopping = false := by rw [lane]; exact on
    obtain ⟨-, waits⟩ := stays.stays still ((apart.laneParked n (by decide)).trans here)
    rw [waits, lane]

end
end Sys2Proof.Machine
end

section
/-! SUPPORT. Frames that a CAN lane receives (spec 05 R114 to R117; 15 R329, R333). -/
namespace Sys2Proof.Machine

/-! ### What receiving a frame leaves -/

/-- The fields that a received frame may write. -/
abbrev heardFlds : List Fld :=
  F.NSL_NET_STATE :: netFlds ++ [F.LSL_CAN_CNT_COUNT, F.LSL_CAN_STAT_BUSOFF_EVT, F.LSL_CAN_STAT_BUS_IDLE, F.LSL_CAN_ERR_RECOV_CNT,
    F.LSL_CAN_STAT_RL_DROP_EVT, F.LSL_CAN_RL_TOKENS, F.CIP_SEAL_CNT_COUNT, F.PP_CNT_COUNT, F.PP_DECLINE_CNT_COUNT]

/-- From `s` to `t` registers `heardFlds` changed alone; RX_FRAMES, TX_FRAMES and TM_SENT, the entries found bad, TEC, SEQ, and an arbitration
that has not begun are as before. -/
structure Heard (n : Nat) (s t : State) : Prop where
  regs : RegsBut heardFlds s t
  counts : ∀ k ∈ [0, 9, 17], t.rd F.LSL_CAN_CNT_COUNT (20 * n + k) = s.rd F.LSL_CAN_CNT_COUNT (20 * n + k)
  canBad : t.canBad = s.canBad
  tec : (t.lane n).tec = (s.lane n).tec
  tmSeq : (t.lane n).tmSeq = (s.lane n).tmSeq
  arb : (s.lane n).arb = none → (t.lane n).arb = none

namespace Heard
variable {n : Nat} {s t u : State}

theorem refl : Heard n s s := ⟨RegsBut.refl, fun _ _ => rfl, rfl, rfl, rfl, id⟩

theorem trans (h : Heard n s t) (h' : Heard n t u) : Heard n s u :=
  ⟨h.regs.trans h'.regs, fun k hk => (h'.counts k hk).trans (h.counts k hk), h'.canBad.trans h.canBad, h'.tec.trans h.tec,
    h'.tmSeq.trans h.tmSeq, fun idle => h'.arb (h.arb idle)⟩

theorem ite {c : Prop} [Decidable c] (ht : Heard n s t) (hu : Heard n s u) : Heard n s (if c then t else u) := by
  split <;> assumption

/-- A write of one of the fields, but for the counters. -/
theorem wr (h : Heard n s t) (f : Fld) (i v : Nat) (hf : f.id ∈ heardFlds.map Fld.id) (notCnt : F.LSL_CAN_CNT_COUNT.id ≠ f.id) : Heard n s (t.wr f i v) :=
  h.trans ⟨RegsBut.refl.wr f i v hf, fun _ _ => State.rd_wr_fld _ _ _ _ _ _ notCnt, rfl, rfl, rfl, id⟩

/-- Another counter moves. -/
theorem cnt (h : Heard n s t) (j v : Nat) (other : j ∉ [0, 9, 17]) : Heard n s (t.wr F.LSL_CAN_CNT_COUNT (20 * n + j) v) :=
  h.trans ⟨RegsBut.refl.wr F.LSL_CAN_CNT_COUNT _ v (by decide),
    fun k hk => t.rd_wr_elem _ _ _ _ _ fun same => other ((by omega : j = k) ▸ hk), rfl, rfl, rfl, id⟩

end Heard

theorem NetOnly.heard {fs : List Fld} {n : Nat} {s t : State} (h : NetOnly fs s t) (sub : fs.map Fld.id ⊆ heardFlds.map Fld.id)
    (hf : F.LSL_CAN_CNT_COUNT.id ∉ fs.map Fld.id) : Heard n s t :=
  ⟨h.regs.mono sub, fun _ _ => h.regs _ _ hf, h.canBad, (CanLane.of_tally (h.tally n)).1, (CanLane.of_tally (h.tally n)).2.2, h.arb n⟩

theorem QueueOnly.heard {n : Nat} {s t : State} (h : QueueOnly s t) : Heard n s t := h.netOnly.heard (by decide) (by decide)

section
variable (s : State) (n : Nat)

theorem CanLane.to_arb (x : CanLane) (st : CanSt) (idle : x.arb = none) : (x.to st).arb = none := by
  unfold CanLane.to
  split
  · exact idle
  · rfl

/-- A change of REC alone. -/
theorem State.canErrors_heard (recC : Nat) : Heard n s (s.canErrors n (s.canLane n).tec recC) := by
  obtain ⟨apart, lane, -, counts⟩ := s.canErrors_spec n (s.canLane n).tec recC
  have moved (P : CanLane → Prop) (keeps : ∀ x st, P x → P (CanLane.to x st)) (now : P { s.lane n with tec := (s.canLane n).tec, recC := recC }) :
      P ((s.canErrors n (s.canLane n).tec recC).lane n) := by
    rw [lane]
    split
    · exact keeps _ _ now
    · exact now
  refine ⟨apart.regsBut.mono (by decide), fun k hk => counts k ?_, apart.canBad, ?_, ?_, fun idle => ?_⟩
  · rintro rfl; exact absurd hk (by decide)
  · exact moved (fun x => x.tec = (s.lane n).tec) (fun x st same => (CanLane.of_tally (x.to_tally st)).1.trans same) rfl
  · exact moved (fun x => x.tmSeq = (s.lane n).tmSeq) (fun x st same => (CanLane.of_tally (x.to_tally st)).2.2.trans same) rfl
  · exact moved (fun x => x.arb = none) CanLane.to_arb idle

/-- The counters after a reception without error: REC falls. -/
theorem State.canGood_heard : Heard n s (s.canGood n false) := (s.canErrors_heard n _).ite Heard.refl

end

/-! ### What decides whether a frame passes -/

section
variable {fs : List Fld} {s t : State} (h : Apart fs s t)
include h

/-- The fields of the filters. -/
abbrev fltFlds : List Fld :=
  [F.LSL_CAN_FLT_VALID, F.LSL_CAN_FLT_FMT, F.LSL_CAN_FLT_TX, F.LSL_CAN_FLT_RX, F.LSL_CAN_FLT_ID, F.LSL_CAN_FLT_MASK, F.LSL_CAN_FLT_REJECT,
    F.LSL_CAN_FLT_RL_EN, F.LSL_CAN_FLT_RL, F.LSL_CAN_FLT_DEF_TX_REJECT, F.LSL_CAN_FLT_DEF_RX_REJECT, F.LSL_CAN_FLT_DEF_RL_EN, F.LSL_CAN_FLT_DEF_RL]

theorem Apart.canFilter (n : Nat) (tx : Bool) (x : LaneFrame) (hf : ∀ f ∈ fltFlds, f.id ∉ fs.map Fld.id) :
    t.canFilter n tx x = s.canFilter n tx x := by
  unfold State.canFilter
  refine congrArg (fun p => firstIdx p (64 * n) 64) (funext fun k => ?_)
  have dir : t.on (if tx then F.LSL_CAN_FLT_TX else F.LSL_CAN_FLT_RX) k = s.on (if tx then F.LSL_CAN_FLT_TX else F.LSL_CAN_FLT_RX) k := by
    cases tx
    · exact h.on F.LSL_CAN_FLT_RX k (hf _ (by simp))
    · exact h.on F.LSL_CAN_FLT_TX k (hf _ (by simp))
  rw [h.canBad, h.on F.LSL_CAN_FLT_VALID k (hf _ (by simp)), h.rd F.LSL_CAN_FLT_FMT k (hf _ (by simp)), dir,
    h.rd F.LSL_CAN_FLT_MASK k (hf _ (by simp)), h.rd F.LSL_CAN_FLT_ID k (hf _ (by simp))]

theorem Apart.canAction (n : Nat) (tx : Bool) (x : LaneFrame) (hf : ∀ f ∈ fltFlds, f.id ∉ fs.map Fld.id) :
    t.canAction n tx x = s.canAction n tx x := by
  have dflt : t.on (if tx then F.LSL_CAN_FLT_DEF_TX_REJECT else F.LSL_CAN_FLT_DEF_RX_REJECT) n
      = s.on (if tx then F.LSL_CAN_FLT_DEF_TX_REJECT else F.LSL_CAN_FLT_DEF_RX_REJECT) n := by
    cases tx
    · exact h.on F.LSL_CAN_FLT_DEF_RX_REJECT n (hf _ (by simp))
    · exact h.on F.LSL_CAN_FLT_DEF_TX_REJECT n (hf _ (by simp))
  unfold State.canAction
  rw [h.canFilter n tx x hf, dflt, h.on F.LSL_CAN_FLT_DEF_RL_EN n (hf _ (by simp)), h.rd F.LSL_CAN_FLT_DEF_RL n (hf _ (by simp))]
  split
  · next k _ =>
    rw [h.on F.LSL_CAN_FLT_REJECT k (hf _ (by simp)), h.on F.LSL_CAN_FLT_RL_EN k (hf _ (by simp)), h.rd F.LSL_CAN_FLT_RL k (hf _ (by simp))]
  · rfl

/-- The fields that decide which seal entry a frame meets. -/
abbrev sealFlds : List Fld := [F.CIP_SEAL_VALID, F.CIP_SEAL_DIR, F.CIP_SEAL_LANE, F.CIP_SEAL_KCLASS, F.CIP_SEAL_KEY]

theorem Apart.sealEntry (tx : Bool) (n : Nat) (x : LaneFrame) (hf : ∀ f ∈ sealFlds, f.id ∉ fs.map Fld.id) :
    t.sealEntry tx n x = s.sealEntry tx n x := by
  unfold State.sealEntry
  rw [h.listed F.CIP_SEAL_VALID (hf _ (by simp))]
  refine if_congr Iff.rfl (congrArg (fun p => List.find? p _) (funext fun i => ?_)) rfl
  rw [h.on F.CIP_SEAL_DIR i (hf _ (by simp)), h.rd F.CIP_SEAL_LANE i (hf _ (by simp)), h.rd F.CIP_SEAL_KCLASS i (hf _ (by simp)),
    h.rd F.CIP_SEAL_KEY i (hf _ (by simp))]

end

/-- The frame meets no limiter, no rejection and no seal in `s`, on a lane that is not secure. -/
def State.free (s : State) (n : Nat) (tx : Bool) (x : LaneFrame) : Prop :=
  s.canAction n tx x = (false, none) ∧ s.sealEntry tx n x = none ∧ s.secure (40 + n) = false

theorem Apart.free {fs : List Fld} {s t : State} (h : Apart fs s t) {n : Nat} {tx : Bool} {x : LaneFrame} (passes : s.free n tx x)
    (hf : ∀ f ∈ fltFlds ++ sealFlds, f.id ∉ fs.map Fld.id) : t.free n tx x := by
  obtain ⟨action, entry, unsecured⟩ := passes
  exact ⟨(h.canAction n tx x fun f hf' => hf f (List.mem_append_left _ hf')).trans action,
    (h.sealEntry tx n x fun f hf' => hf f (List.mem_append_right _ hf')).trans entry, (h.secure _).trans unsecured⟩

/-- A frame that meets no limiter and no rejection passes and moves nothing. -/
theorem State.canPass_free {s : State} {n : Nat} {tx : Bool} {x : LaneFrame} (passes : s.free n tx x) : s.canPass n tx x = (s, true) := by
  unfold State.canPass
  rw [passes.1]

/-! ### A frame received whole (R117) -/

section
variable (s : State) (n : Nat)

/-- The frame received: REC and RX_FRAMES. -/
def State.rxBegun (s : State) (n : Nat) : State := (s.canGood n false).canCnt n 0

/-- What a received frame counts, before it meets the filters. -/
def State.rxCounted (s : State) (n : Nat) (x : LaneFrame) : State :=
  let s := (s.rxBegun n).bumpBy F.LSL_CAN_CNT_COUNT (20 * n + 1) x.data.length
  let s := if x.kind = 2 then s.canCnt n 2 else if x.kind = 3 then s.canCnt n 3 else if x.kind = 4 then s.canCnt n 4 else s
  s.wr F.LSL_CAN_STAT_BUS_IDLE n 1

/-- A frame that has passed the filters: it wakes and tells networks, and enters its pipeline. -/
def State.rxPassed (s : State) (n : Nat) (x : LaneFrame) (ts : Nat) : State :=
  let e := s.sealEntry false n x
  if s.secure (40 + n) && e.isNone then (s.sealCnt 5).tsDone ts
  else
    let s := (s.canPresence n x).foldl (fun t k => t.presRx k.1 (40 + n) k.2 (beNat ((x.data.drop 1).take 1))) s
    let f : Flight := { Flight.good (40 + n) (LaneFrame.bytes x n ts) ts with sealEnt := e, sealNo := s.sealNo }
    let s := { s with sealNo := s.sealNo + b2n e.isSome }
    if e.isSome && s.sealHolds n (e.getD 0) then { s with sealHeld := s.sealHeld ++ [f] } else s.enter f

/-- The frame received, its time-stamps taken. -/
def State.rxStamped (s : State) (n : Nat) (x : LaneFrame) (sn : Snap) : State × Nat :=
  let t := s.rxCounted n x
  t.captureAt sn false (40 + n) (t.capMask.get 0 (40 + n)) (t.laneComp n 250)

theorem State.canRx_eq (x : LaneFrame) (sn : Snap) :
    let r := s.rxStamped n x sn
    let p := r.1.canPass n false x
    s.canRx n x sn = if p.2 then p.1.rxPassed n x r.2 else p.1.tsDone r.2 := by
  dsimp only
  change (match s.rxStamped n x sn with
    | (t, ts) => match t.canPass n false x with
      | (t, false) => t.tsDone ts
      | (t, true) => t.rxPassed n x ts) = _
  generalize s.rxStamped n x sn = r
  obtain ⟨t, ts⟩ := r
  dsimp only
  generalize t.canPass n false x = p
  obtain ⟨t, _ | _⟩ := p <;> rfl

theorem State.rxCounted_apart (x : LaneFrame) : Apart offFlds s (s.rxCounted n x) := by
  have good : Apart offFlds s (s.canGood n false) := by
    obtain ⟨apart, -⟩ := s.canErrors_spec n (s.canLane n).tec (if 127 < (s.canLane n).recC then 127 else (s.canLane n).recC - 1)
    exact apart.ite Apart.refl
  have counted := (good.wr F.LSL_CAN_CNT_COUNT (20 * n + 0) ((s.canGood n false).rd F.LSL_CAN_CNT_COUNT (20 * n + 0) + 1) (by decide)).wr
    F.LSL_CAN_CNT_COUNT (20 * n + 1) ((s.rxBegun n).rd F.LSL_CAN_CNT_COUNT (20 * n + 1) + x.data.length) (by decide)
  have kinds (k : Nat) := counted.wr F.LSL_CAN_CNT_COUNT (20 * n + k)
    (((s.rxBegun n).bumpBy F.LSL_CAN_CNT_COUNT (20 * n + 1) x.data.length).rd F.LSL_CAN_CNT_COUNT (20 * n + k) + 1) (by decide)
  exact ((kinds 2).ite ((kinds 3).ite ((kinds 4).ite counted))).wr F.LSL_CAN_STAT_BUS_IDLE n 1 (by decide)

theorem State.rxCounted_heard (x : LaneFrame) : Heard n (s.rxBegun n) (s.rxCounted n x) := by
  have counted : Heard n (s.rxBegun n) ((s.rxBegun n).bumpBy F.LSL_CAN_CNT_COUNT (20 * n + 1) x.data.length) := Heard.refl.cnt 1 _ (by decide)
  exact ((counted.cnt 2 _ (by decide)).ite ((counted.cnt 3 _ (by decide)).ite ((counted.cnt 4 _ (by decide)).ite counted))).wr
    F.LSL_CAN_STAT_BUS_IDLE n 1 (by decide) (by decide)

theorem State.canPass_heard (x : LaneFrame) : Heard n s (s.canPass n false x).1 := by
  unfold State.canPass
  split
  · exact Heard.refl.cnt 6 _ (by decide)
  · exact Heard.refl
  · next j _ =>
    dsimp only
    split
    · exact (Heard.refl.cnt 7 _ (by decide)).wr F.LSL_CAN_STAT_RL_DROP_EVT n 1 (by decide) (by decide)
    · exact Heard.refl.wr F.LSL_CAN_RL_TOKENS _ _ (by decide) (by decide)

theorem State.enter_heard (f : Flight) : Heard n s (s.enter f) := by
  have dropped : Heard n s (s.bump F.PP_CNT_COUNT (10 * pipeOf f.port + 7)) := Heard.refl.wr F.PP_CNT_COUNT _ _ (by decide) (by decide)
  have declined : Heard n s (s.decline (pipeOf f.port) 1) := Heard.refl.wr F.PP_DECLINE_CNT_COUNT _ _ (by decide) (by decide)
  have flies (t : State) (l : List Flight) : Heard n t { t with flight := l } := ⟨RegsBut.of_regs rfl, fun _ _ => rfl, rfl, rfl, rfl, id⟩
  exact (dropped.trans (State.tsDone_queueOnly _ _).heard).ite ((declined.ite Heard.refl).trans (flies _ _))

theorem State.presences_netOnly (x : LaneFrame) (ks : List (Nat × Nat)) :
    NetOnly (F.NSL_NET_STATE :: netFlds) s (ks.foldl (fun t k => t.presRx k.1 (40 + n) k.2 (beNat ((x.data.drop 1).take 1))) s) :=
  NetOnly.foldl ks s fun t k => t.presRx_netOnly k.1 (40 + n) k.2 _

theorem State.rxPassed_heard (x : LaneFrame) (ts : Nat) : Heard n s (s.rxPassed n x ts) := by
  have sealed : Heard n s (s.sealCnt 5) := Heard.refl.wr F.CIP_SEAL_CNT_COUNT _ _ (by decide) (by decide)
  have told := (s.presences_netOnly n x (s.canPresence n x)).heard (n := n) (by decide) (by decide)
  have numbered (t : State) (k : Nat) : Heard n t { t with sealNo := k } := ⟨RegsBut.of_regs rfl, fun _ _ => rfl, rfl, rfl, rfl, id⟩
  have held (t : State) (l : List Flight) : Heard n t { t with sealHeld := l } := ⟨RegsBut.of_regs rfl, fun _ _ => rfl, rfl, rfl, rfl, id⟩
  exact (sealed.trans (State.tsDone_queueOnly _ _).heard).ite
    (((told.trans (numbered _ _)).trans (held _ _)).ite ((told.trans (numbered _ _)).trans (State.enter_heard _ _ _)))

theorem State.canRx_heard (x : LaneFrame) (sn : Snap) : Heard n (s.rxBegun n) (s.canRx n x sn) := by
  have stamped : Heard n (s.rxBegun n) (s.rxStamped n x sn).1 :=
    (s.rxCounted_heard n x).trans (State.captureAt_queueOnly _ _ _ _ _ _).heard
  have met := stamped.trans (State.canPass_heard _ n x)
  rw [State.canRx_eq]
  exact (met.trans (State.rxPassed_heard _ _ _ _)).ite (met.trans (State.tsDone_queueOnly _ _).heard)

/-- A frame that passes and meets no seal enters a pipeline that runs, with the bytes of a lane frame. -/
theorem State.rxPassed_flight (x : LaneFrame) (ts : Nat) (passes : s.free n false x) (runs : s.recovering (pipeOf (40 + n)) = false) :
    ∃ f, (s.rxPassed n x ts).flight = s.flight ++ [f] ∧ f.port = 40 + n ∧ f.bytes = LaneFrame.bytes x n ts ∧ f.tsIndex = ts := by
  obtain ⟨-, entry, unsecured⟩ := passes
  have told := s.presences_netOnly n x (s.canPresence n x)
  unfold State.rxPassed
  dsimp only
  rw [entry, unsecured]
  refine ⟨_, (State.enter_spec _ ?_).1.trans (congrArg (· ++ [_]) told.flight), rfl, rfl, rfl⟩
  exact (congrArg (fun v : Nat => decide (v ≠ 0)) (told.regs F.PP_STAT_RECOVERING (pipeOf (40 + n)) (by decide)) :).trans runs

theorem State.canRx_flight (x : LaneFrame) (sn : Snap) (passes : s.free n false x) (runs : s.recovering (pipeOf (40 + n)) = false) :
    ∃ f ts, (s.canRx n x sn).flight = s.flight ++ [f] ∧ f.port = 40 + n ∧ f.bytes = LaneFrame.bytes x n ts ∧ f.tsIndex = ts := by
  have apart : Apart offFlds s (s.rxStamped n x sn).1 :=
    (s.rxCounted_apart n x).trans ((State.captureAt_queueOnly _ _ _ _ _ _).apart.mono (by decide))
  have passed := State.canPass_free (apart.free passes (by decide))
  rw [State.canRx_eq, passed, if_pos rfl]
  obtain ⟨f, flight, known⟩ := State.rxPassed_flight _ n x (s.rxStamped n x sn).2 (apart.free passes (by decide))
    ((apart.on F.PP_STAT_RECOVERING _ (by decide)).trans runs)
  exact ⟨f, _, by rw [flight, apart.flight], known⟩

end
end Sys2Proof.Machine
end

section
/-! SUPPORT. The commands of received frames, of filter entries found bad, and of a lost arbitration (spec 05 R109, R114, R116, R117). -/
namespace Sys2Proof.Machine

/-! ### Filter entries found with bad parity (R116) -/

/-- `u` is `s` but for the entries found bad, and their reports. -/
def Spoiled (s u : State) : Prop := u = { s with canBad := u.canBad, transit := u.transit }

section
variable {s u : State} (h : Spoiled s u)
include h

theorem Spoiled.rd (f : Fld) (i : Nat) : u.rd f i = s.rd f i := by rw [h]; rfl
theorem Spoiled.canLane (n : Nat) : u.canLane n = s.canLane n := by rw [h]; rfl
theorem Spoiled.flight : u.flight = s.flight := by rw [h]
theorem Spoiled.queue (q : Nat) : u.queue q = s.queue q := by rw [h]; rfl
theorem Spoiled.frames : u.frames = s.frames := by rw [h]
theorem Spoiled.refMessage (n : Nat) : u.refMessage n = s.refMessage n := by rw [h]; rfl
theorem Spoiled.tmFormat (n : Nat) : u.tmFormat n = s.tmFormat n := by rw [h]; rfl
theorem Spoiled.sealEntry (tx : Bool) (n : Nat) (x : LaneFrame) : u.sealEntry tx n x = s.sealEntry tx n x := by rw [h]; rfl
theorem Spoiled.secure (p : Nat) : u.secure p = s.secure p := by rw [h]; rfl
theorem Spoiled.recovering (i : Nat) : u.recovering i = s.recovering i := by rw [h]; rfl
theorem Spoiled.tooOld (p e : Nat) : u.tooOld p e = s.tooOld p e := by rw [h]; rfl
theorem Spoiled.canHeadIs (n q : Nat) (e : QEnt) : u.canHeadIs n q e = s.canHeadIs n q e := by rw [h]; rfl
theorem Spoiled.canFormat (n : Nat) (x : LaneFrame) : u.canFormat n x = s.canFormat n x := by rw [h]; rfl

end

section
variable (s : State) (n : Nat)

theorem State.canParity_spoiled (bad : List (Fin 64)) : Spoiled s (s.canParity n bad) := by
  refine List.foldlRecOn bad _ (motive := Spoiled s) rfl fun t ht k _ => ?_
  unfold State.canSpoil
  split
  · exact ht
  · rw [ht]; rfl

theorem State.mem_canSpoil {e : Nat} (k : Nat) (found : e ∈ s.canBad) : e ∈ (s.canSpoil n k).canBad := by
  unfold State.canSpoil
  split
  · exact found
  · exact List.mem_cons_of_mem _ found

theorem State.canSpoil_mem (k : Nat) : 64 * n + k ∈ (s.canSpoil n k).canBad := by
  unfold State.canSpoil
  split
  · assumption
  · exact List.mem_cons_self ..

/-- The entries looked at are found bad. -/
theorem State.canParity_mem {k : Fin 64} {bad : List (Fin 64)} (looked : k ∈ bad) : 64 * n + k ∈ (s.canParity n bad).canBad := by
  have kept (l : List (Fin 64)) (t : State) (found : 64 * n + k.val ∈ t.canBad) : 64 * n + k.val ∈ (t.canParity n l).canBad :=
    List.foldlRecOn l _ (motive := fun t : State => 64 * n + k.val ∈ t.canBad) found fun t ht j _ => t.mem_canSpoil n j ht
  induction bad generalizing s with
  | nil => exact absurd looked List.not_mem_nil
  | cons j bad ih =>
    obtain rfl | later := List.mem_cons.1 looked
    · exact kept bad _ (s.canSpoil_mem n k)
    · exact ih (s.canSpoil n j) later

theorem firstIdx_some {p : Nat → Bool} {i n k : Nat} (is : firstIdx p i n = some k) : p k = true := by
  induction n generalizing i with
  | zero => exact absurd is (by simp [firstIdx])
  | succ n ih =>
    unfold firstIdx at is
    split at is
    · next met => cases is; exact met
    · exact ih is

/-- An entry found bad matches nothing. -/
theorem State.canFilter_bad {tx : Bool} {x : LaneFrame} {k : Nat} (found : k ∈ s.canBad) : s.canFilter n tx x ≠ some k := by
  intro is
  have met := firstIdx_some is
  rw [decide_eq_true found] at met
  exact absurd met (by simp)

end

theorem Spoiled.free {s u : State} (h : Spoiled s u) {n : Nat} {tx : Bool} {x : LaneFrame}
    (passes : u.canAction n tx x = (false, none) ∧ s.sealEntry tx n x = none ∧ s.secure (40 + n) = false) : u.free n tx x := by
  obtain ⟨action, entry, unsecured⟩ := passes
  exact ⟨action, (h.sealEntry tx n x).trans entry, (h.secure _).trans unsecured⟩

/-! ### Frames received -/

section
variable (s : State) (n : Nat)

/-- A frame received counts; TX_FRAMES, TM_SENT, TEC, SEQ and an arbitration that has not begun are as before. -/
theorem State.canRx_spec (x : LaneFrame) (sn : Snap) :
    let t := s.canRx n x sn
    t.rd F.LSL_CAN_CNT_COUNT (20 * n + 0) = (s.rd F.LSL_CAN_CNT_COUNT (20 * n + 0) + 1) % 2 ^ F.LSL_CAN_CNT_COUNT.width
    ∧ (∀ k ∈ [9, 17], t.rd F.LSL_CAN_CNT_COUNT (20 * n + k) = s.rd F.LSL_CAN_CNT_COUNT (20 * n + k))
    ∧ t.canBad = s.canBad ∧ (t.lane n).tec = (s.lane n).tec ∧ (t.lane n).tmSeq = (s.lane n).tmSeq
    ∧ ((s.lane n).arb = none → (t.lane n).arb = none) ∧ RegsBut heardFlds s t := by
  have good := s.canGood_heard n
  have heard := s.canRx_heard n x sn
  have begun : (s.rxBegun n).lane n = (s.canGood n false).lane n := State.lane_canCnt ..
  refine ⟨?_, fun k hk => ?_, heard.canBad.trans good.canBad, ?_, ?_, fun idle => heard.arb ?_, ?_⟩
  · rw [heard.counts 0 (by decide), State.rxBegun, State.rd_canCnt_same, good.counts 0 (by decide)]
  · have other : k ≠ 0 := by rintro rfl; exact absurd hk (by decide)
    rw [heard.counts k (List.mem_cons_of_mem _ hk), State.rxBegun, State.rd_canCnt_ne _ _ other, good.counts k (List.mem_cons_of_mem _ hk)]
  · rw [heard.tec, begun, good.tec]
  · rw [heard.tmSeq, begun, good.tmSeq]
  · rw [begun]; exact good.arb idle
  · exact (good.regs.wr F.LSL_CAN_CNT_COUNT (20 * n + 0) _ (by decide)).trans heard.regs

end

section
variable {s : State} {n : Fin 24}

theorem State.canTakes_hears {s : State} {n : Nat} (takes : s.canTakes n = true) : s.canHears n = true := by
  simp only [State.canTakes, Bool.and_eq_true] at takes
  exact takes.1

theorem exec_canFrameRx_sof (flags sdt : BitVec 8) (key : BitVec 29) (af : Word) (data : List Byte) (bad : List (Fin 64))
    (takes : s.canTakes n = true) (quiet : (s.canLane n).sof = none) (idle : (s.canLane n).arb = none) :
    exec (.canFrameRx n .sof flags sdt key af data bad) s =
      .next ((s.setCan n { s.canLane n with sof := some s.snap }).wr F.LSL_CAN_STAT_BUS_IDLE n 0) := by
  refine congrArg Host.Outcome.next (if_pos ?_)
  rw [takes, quiet, idle]; rfl

/-- The lane after a frame received whole: the frame on the bus has ended where none of the lane's own is in arbitration. -/
def State.canRxEnd (s : State) (n : Nat) (x : LaneFrame) (sn : Snap) (idle : Bool) : State :=
  if idle then (s.canRx n x sn).canEnded n else s.canRx n x sn

theorem exec_canFrameRx_frame (kind flags sdt : BitVec 8) (key : BitVec 29) (af : Word) (data : List Byte) (bad : List (Fin 64))
    (takes : s.canTakes n = true) :
    let x : LaneFrame := ⟨kind.toNat, flags.toNat % 16, sdt.toNat, key.toNat, af.toNat, data⟩
    s.canFormat n x = true → exec (.canFrameRx n (.frame kind) flags sdt key af data bad) s =
      .next ((s.canParity n bad).canRxEnd n x ((s.canLane n).sof.getD s.snap) (s.canLane n).arb.isNone) := by
  intro x format
  have taken : (s.canTakes n && s.canFormat n x) = true := by rw [takes, format]; rfl
  exact if_pos taken

theorem State.canRxEnd_spec {n : Nat} (x : LaneFrame) (sn : Snap) (idle : Bool) (can : s.pers n = 1) :
    let t := s.canRxEnd n x sn idle
    t.rd F.LSL_CAN_CNT_COUNT (20 * n + 0) = (s.rd F.LSL_CAN_CNT_COUNT (20 * n + 0) + 1) % 2 ^ F.LSL_CAN_CNT_COUNT.width
    ∧ t.canBad = s.canBad ∧ t.flight = (s.canRx n x sn).flight := by
  obtain ⟨counted, -, canBad, -, -, -, regs⟩ := s.canRx_spec n x sn
  have ended : Apart toFlds (s.canRx n x sn) (s.canRxEnd n x sn idle) :=
    Apart.ite (State.canEnded_over _ n ((regs _ n (by decide)).trans can)).apart Apart.refl
  exact ⟨(ended.rd _ _ (by decide)).trans counted, ended.canBad.trans canBad, ended.flight⟩

/-! ### A lost arbitration (R109) -/

/-- The lane after a lost arbitration: the frame on the bus goes on as another node's. -/
def State.canLost (s : State) (n : Nat) : State :=
  let t := (s.canCnt n 12).canRetry n (s.canLane n).arb
  (t.setCan n { t.canLane n with arb := none }).canShow n

theorem exec_canArbLost (runs : s.canRuns n = true) (inArb : (s.canLane n).arb.isSome = true) : exec (.canArbLost n) s = .next (s.canLost n) :=
  congrArg Host.Outcome.next (if_pos (by rw [runs, inArb]; rfl))

theorem State.lane_canLost (s : State) (n : Nat) :
    (s.canLost n).lane n = { ((s.canCnt n 12).canRetry n (s.canLane n).arb).lane n with arb := none } := by
  rw [State.canLost, State.lane_canShow, State.lane_setCan_same]; rfl

theorem State.canLost_counts (s : State) (n : Nat) : (s.canLost n).rd F.LSL_CAN_CNT_COUNT (20 * n + 12)
    = (s.rd F.LSL_CAN_CNT_COUNT (20 * n + 12) + 1) % 2 ^ F.LSL_CAN_CNT_COUNT.width := by
  obtain ⟨-, -, counts⟩ := (s.canCnt n 12).canRetry_spec n (s.canLane n).arb
  refine ((State.canShow_apart _ n).rd _ _ (by decide)).trans ((counts 12 (by decide)).trans ?_)
  exact State.rd_canCnt_same ..

/-- A reference message that was not sent stays due on an ACTIVE lane without ONESHOT. -/
theorem State.canRetry_ref (s : State) (n : Nat) (b : List Byte) (active : (s.canLane n).st = .active) (again : s.on F.LSL_CAN_CTL_ONESHOT n = false) :
    s.canRetry n (some (.ref b)) = s.setCan n { s.canLane n with refDue := true } := by
  have stays : ¬(s.on F.LSL_CAN_CTL_ONESHOT n || decide ((s.canLane n).st ≠ .active)) = true := by rw [again, active]; decide
  exact congrArg (s.setCan n) (if_neg stays)

theorem State.canLost_ref {b : List Byte} {n : Nat} (isRef : (s.canLane n).arb = some (.ref b)) (active : (s.canLane n).st = .active)
    (again : s.on F.LSL_CAN_CTL_ONESHOT n = false) : ((s.canLost n).canLane n).refDue = true := by
  have still : (s.canCnt n 12).on F.LSL_CAN_CTL_ONESHOT n = false := by
    rw [State.on, State.canCnt, State.bump_eq_wr, State.rd_wr_fld _ _ _ _ _ _ (by decide)]; exact again
  rw [State.canLane_refDue, State.lane_canLost, isRef, State.canRetry_ref (s.canCnt n 12) n b active still, State.lane_setCan_same]

end
end Sys2Proof.Machine
end

section
/-! SUPPORT. A CAN transmission that succeeds (spec 05 R107, R111, R117, R119). -/
namespace Sys2Proof.Machine

/-- The bytes of what is in arbitration. -/
def CanTx.bytes (a : CanTx) : List Byte := match a with | .queued _ _ b => b | .ref b => b | .presence b => b

section
variable (s : State) (n : Nat)

/-- The frame has gone out, but in internal loopback. -/
def State.canSentOut (s : State) (n : Nat) (b : List Byte) : State := if s.rd F.LSL_CAN_CTL_OPMODE n = 3 then s else s.send (40 + n) b

/-- What a transmission without error counts. -/
def State.canSentCounted (s : State) (n len : Nat) : State := ((s.canGood n true).canCnt n 9).bumpBy F.LSL_CAN_CNT_COUNT (20 * n + 10) len

/-- The frame `a` has been sent, its SOF at `sn`: it leaves its queue, or the message is no longer due. -/
def State.canSettled (s : State) (n : Nat) (a : CanTx) (sn : Snap) : State :=
  match a with
  | .queued q e _ =>
    let asked := match s.frames.find e.first with | some f => f.txReq && s.canHeadIs n q e | none => false
    ((s.laneTxStamp sn n 250 asked).canRemove n q e).drainService
  | .ref _ =>
    let l := s.canLane n
    let prev : Snap := sn.map (fun (r : RulerSnap) => { r with time := moveTime r.time (s.laneComp n 250) })
    (s.setCan n { l with tmSeq := (l.tmSeq + 1) % 256, tmPrev := some prev, refOut := none }).canCnt n 17
  | .presence _ => (s.setCan n { s.canLane n with presOut := false }).bump F.NSL_CNT_COUNT 1

/-- The lane after the frame that it sent, before loopback receives it. -/
def State.canSentEnded (s : State) (n : Nat) (a : CanTx) : State :=
  ((((s.canSentOut n a.bytes).canSentCounted n (laneOf a.bytes).data.length).canSettled n a ((s.canLane n).sof.getD s.snap)).canEnded n).wr
    F.LSL_CAN_STAT_BUS_IDLE n 1

theorem State.canSent_eq (a : CanTx) : s.canSent n a =
    let t := s.canSentEnded n a
    if t.rd F.LSL_CAN_CTL_OPMODE n = 3 ∧ t.dozing = false then t.canRx n (laneOf a.bytes) ((s.canLane n).sof.getD s.snap) else t := by
  cases a <;> rfl

/-- What goes out leaves registers and lanes. -/
theorem State.canSentOut_regs (b : List Byte) : (s.canSentOut n b).regs = s.regs ∧ (s.canSentOut n b).can = s.can := by
  unfold State.canSentOut
  split <;> exact ⟨rfl, rfl⟩

theorem State.canSentOut_lastTx (b : List Byte) (bus : s.rd F.LSL_CAN_CTL_OPMODE n ≠ 3) : (s.canSentOut n b).lastTx.get [] (40 + n) = b := by
  rw [State.canSentOut, if_neg bus]
  exact Tbl.get_set_same ..

theorem State.canSentCounted_spec (len : Nat) :
    let t := s.canSentCounted n len
    Apart offFlds s t ∧ t.rd F.LSL_CAN_CNT_COUNT (20 * n + 9) = (s.rd F.LSL_CAN_CNT_COUNT (20 * n + 9) + 1) % 2 ^ F.LSL_CAN_CNT_COUNT.width
    ∧ t.rd F.LSL_CAN_CNT_COUNT (20 * n + 17) = s.rd F.LSL_CAN_CNT_COUNT (20 * n + 17)
    ∧ (s.canCounts n = true → (t.lane n).tec = (s.lane n).tec - 1) ∧ (t.lane n).tmSeq = (s.lane n).tmSeq := by
  have good : Apart offFlds s (s.canGood n true) ∧ (∀ k, k ≠ 16 → (s.canGood n true).rd F.LSL_CAN_CNT_COUNT (20 * n + k) = s.rd F.LSL_CAN_CNT_COUNT (20 * n + k))
      ∧ (s.canCounts n = true → ((s.canGood n true).lane n).tec = (s.lane n).tec - 1) ∧ ((s.canGood n true).lane n).tmSeq = (s.lane n).tmSeq := by
    unfold State.canGood
    split
    · obtain ⟨apart, lane, -, counts⟩ := s.canErrors_spec n ((s.canLane n).tec - 1) (s.canLane n).recC
      have tally : ((s.canErrors n ((s.canLane n).tec - 1) (s.canLane n).recC).lane n).tally
          = ((s.lane n).tec - 1, (s.lane n).recC, (s.lane n).tmSeq) := by
        rw [lane]
        split
        · exact CanLane.to_tally _ _
        · rfl
      obtain ⟨tec, -, tmSeq⟩ := CanLane.of_tally (y := { s.lane n with tec := (s.lane n).tec - 1 }) tally
      exact ⟨apart, counts, fun _ => tec, tmSeq⟩
    · next off => exact ⟨Apart.refl, fun _ _ => rfl, fun on => absurd on off, rfl⟩
  obtain ⟨apart, counts, tec, tmSeq⟩ := good
  have other (k : Nat) (hk : k ≠ 10) : (s.canSentCounted n len).rd F.LSL_CAN_CNT_COUNT (20 * n + k) = ((s.canGood n true).canCnt n 9).rd F.LSL_CAN_CNT_COUNT (20 * n + k) :=
    State.rd_wr_elem _ _ _ _ _ _ (by omega)
  refine ⟨(apart.wr F.LSL_CAN_CNT_COUNT (20 * n + 9) _ (by decide)).wr F.LSL_CAN_CNT_COUNT (20 * n + 10) _ (by decide), ?_, ?_, tec, tmSeq⟩
  · rw [other 9 (by decide), State.rd_canCnt_same, counts 9 (by decide)]
  · rw [other 17 (by decide), State.rd_canCnt_ne _ _ (by decide), counts 17 (by decide)]

/-- The fields that a frame which has been sent may write beside the lane's. -/
abbrev settledFlds : List Fld := queueFlds ++ [F.LSL_CAN_CNT_COUNT, F.NSL_CNT_COUNT]

/-- What becomes of a frame that has been sent: a reference message counts. -/
theorem State.canSettled_spec (a : CanTx) (sn : Snap) :
    let t := s.canSettled n a sn
    Apart settledFlds s t ∧ t.rd F.LSL_CAN_CNT_COUNT (20 * n + 9) = s.rd F.LSL_CAN_CNT_COUNT (20 * n + 9) ∧ (t.lane n).tec = (s.lane n).tec
    ∧ ∀ b, a = .ref b → t.rd F.LSL_CAN_CNT_COUNT (20 * n + 17) = (s.rd F.LSL_CAN_CNT_COUNT (20 * n + 17) + 1) % 2 ^ F.LSL_CAN_CNT_COUNT.width
        ∧ (t.lane n).tmSeq = ((s.lane n).tmSeq + 1) % 256 := by
  cases a with
  | queued q e b =>
    have left (asked : Bool) : QueueOnly s ((s.laneTxStamp sn n 250 asked).canRemove n q e).drainService :=
      ((s.laneTxStamp_queueOnly sn n 250 asked).trans (State.canRemove_queueOnly _ n q e)).trans (State.drainService_queueOnly _)
    have all : QueueOnly s (s.canSettled n (.queued q e b) sn) := left _
    exact ⟨all.apart.mono (by decide), all.apart.rd _ _ (by decide), by rw [all.lane], fun _ no => nomatch no⟩
  | ref b =>
    have lane : (s.canSettled n (.ref b) sn).lane n = _ := (State.lane_canCnt _ n 17 n).trans (s.lane_setCan_same n _)
    refine ⟨(Apart.refl.setCan n _).wr F.LSL_CAN_CNT_COUNT _ _ (by decide), State.rd_canCnt_ne _ _ (by decide), by rw [lane]; rfl, fun _ _ => ⟨?_, by rw [lane]; rfl⟩⟩
    exact State.rd_canCnt_same ..
  | presence b =>
    have lane : (s.canSettled n (.presence b) sn).lane n = _ := s.lane_setCan_same n { s.canLane n with presOut := false }
    exact ⟨(Apart.refl.setCan n _).wr F.NSL_CNT_COUNT _ _ (by decide), State.rd_wr_fld _ _ _ _ _ _ (by decide), by rw [lane]; rfl, fun _ no => nomatch no⟩

/-- From `s` to `t` lane `n` sent `a`. -/
structure SentMet (n : Nat) (a : CanTx) (s t : State) : Prop where
  opmode : t.rd F.LSL_CAN_CTL_OPMODE n = s.rd F.LSL_CAN_CTL_OPMODE n
  counted : t.rd F.LSL_CAN_CNT_COUNT (20 * n + 9) = (s.rd F.LSL_CAN_CNT_COUNT (20 * n + 9) + 1) % 2 ^ F.LSL_CAN_CNT_COUNT.width
  arb : (t.lane n).arb = none
  tec : s.canCounts n = true → (t.lane n).tec = (s.lane n).tec - 1
  lastTx : s.rd F.LSL_CAN_CTL_OPMODE n ≠ 3 → t.lastTx.get [] (40 + n) = a.bytes
  ref : ∀ b, a = .ref b → t.rd F.LSL_CAN_CNT_COUNT (20 * n + 17) = (s.rd F.LSL_CAN_CNT_COUNT (20 * n + 17) + 1) % 2 ^ F.LSL_CAN_CNT_COUNT.width
    ∧ (t.lane n).tmSeq = ((s.lane n).tmSeq + 1) % 256

/-- After a frame the bus is idle. -/
theorem State.canEnded_idle (can : s.pers n = 1) :
    let t := (s.canEnded n).wr F.LSL_CAN_STAT_BUS_IDLE n 1
    Apart (F.LSL_CAN_STAT_BUS_IDLE :: toFlds) s t ∧ (t.lane n).arb = none ∧ (t.lane n).tec = (s.lane n).tec ∧ (t.lane n).tmSeq = (s.lane n).tmSeq := by
  have ended := s.canEnded_over n can
  obtain ⟨tec, -, tmSeq⟩ := CanLane.of_tally ended.tally
  dsimp only
  rw [State.lane_wr]
  exact ⟨(ended.apart.mono (by decide)).wr F.LSL_CAN_STAT_BUS_IDLE n 1 (by decide), ended.arb, tec, tmSeq⟩

theorem State.canSentEnded_met (a : CanTx) (can : s.pers n = 1) : SentMet n a s (s.canSentEnded n a) := by
  obtain ⟨regs, lanes⟩ := s.canSentOut_regs n a.bytes
  have rd (f : Fld) (i : Nat) : (s.canSentOut n a.bytes).rd f i = s.rd f i := by rw [State.rd, regs, State.rd]
  have lane : (s.canSentOut n a.bytes).lane n = s.lane n := by rw [State.lane, State.canLane, lanes, State.lane, State.canLane]
  have out := s.canSentOut_lastTx n a.bytes
  rw [State.canSentEnded]
  generalize s.canSentOut n a.bytes = t0 at *
  obtain ⟨counted, nine, seventeen, tec, tmSeq⟩ := t0.canSentCounted_spec n (laneOf a.bytes).data.length
  generalize t0.canSentCounted n (laneOf a.bytes).data.length = t1 at *
  obtain ⟨settled, nine', tec', ref⟩ := t1.canSettled_spec n a ((s.canLane n).sof.getD s.snap)
  generalize t1.canSettled n a ((s.canLane n).sof.getD s.snap) = t2 at *
  have before : Apart (offFlds ++ settledFlds) t0 t2 := (counted.mono (by decide)).trans (settled.mono (by decide))
  obtain ⟨idle, arb, tec'', tmSeq''⟩ := t2.canEnded_idle n ((before.rd _ n (by decide)).trans ((rd _ n).trans can))
  generalize (t2.canEnded n).wr F.LSL_CAN_STAT_BUS_IDLE n 1 = t at *
  have cnt (k : Nat) := idle.rd F.LSL_CAN_CNT_COUNT (20 * n + k) (by decide)
  refine ⟨?_, ?_, arb, fun counts => ?_, fun bus => ?_, fun b is => ⟨?_, ?_⟩⟩
  · rw [idle.rd _ n (by decide), before.rd _ n (by decide), rd]
  · rw [cnt, nine', nine, rd]
  · rw [tec'', tec', tec ((State.canCounts_congr (rd _ n)).trans counts), lane]
  · rw [idle.lastTx, before.lastTx, out bus]
  · rw [cnt, (ref b is).1, seventeen, rd]
  · rw [tmSeq'', (ref b is).2, tmSeq, lane]

theorem State.canSent_met (a : CanTx) (can : s.pers n = 1) : SentMet n a s (s.canSent n a) := by
  have met := s.canSentEnded_met n a can
  rw [State.canSent_eq]
  dsimp only
  split
  · next loops =>
    obtain ⟨-, counts, -, tec, tmSeq, arb, regs⟩ := (s.canSentEnded n a).canRx_spec n (laneOf a.bytes) ((s.canLane n).sof.getD s.snap)
    refine ⟨(regs _ n (by decide)).trans met.opmode, (counts 9 (by decide)).trans met.counted, arb met.arb, fun c => tec.trans (met.tec c),
      fun bus => absurd (met.opmode.symm.trans loops.1) bus, fun b is => ?_⟩
    obtain ⟨seventeen, seq⟩ := met.ref b is
    exact ⟨(counts 17 (by decide)).trans seventeen, tmSeq.trans seq⟩
  · exact met

end

section
variable {s : State} {n : Fin 24}

/-- A transmission of `a` that succeeds, its loop delay taken. -/
theorem canTxSuccess_met {a : CanTx} (tdcv : BitVec 7) (runs : s.canRuns n = true) (inArb : (s.canLane n).arb = some a) :
    ∃ t, exec (.canTxSuccess n tdcv) s = .next t ∧ SentMet n a s t := by
  obtain ⟨can, -⟩ := State.canRuns_spec runs
  obtain ⟨taken, lanes⟩ := s.tdcTaken_spec n tdcv.toNat
  have lane : (s.tdcTaken n tdcv.toNat).lane n = s.lane n := by rw [State.lane, State.canLane, lanes]; rfl
  have counts : (s.tdcTaken n tdcv.toNat).canCounts n = s.canCounts n := State.canCounts_congr (taken.rd _ n (by decide))
  have opmode := taken.rd F.LSL_CAN_CTL_OPMODE n (by decide)
  have cnt (k : Nat) := taken.rd F.LSL_CAN_CNT_COUNT (20 * n + k) (by decide)
  have met := State.canSent_met (s.tdcTaken n tdcv.toNat) n a ((taken.rd _ n (by decide)).trans can)
  have is : exec (.canTxSuccess n tdcv) s = .next ((s.tdcTaken n tdcv.toNat).canSent n a) := by
    change execCanTxSuccess n tdcv s = _
    rw [execCanTxSuccess, inArb]
    exact congrArg Host.Outcome.next (if_pos runs)
  refine ⟨_, is, met.opmode.trans opmode, by rw [met.counted, cnt], met.arb, fun c => by rw [met.tec (counts.trans c), lane],
    fun bus => met.lastTx (opmode.trans_ne bus), fun b same => ?_⟩
  obtain ⟨seventeen, seq⟩ := met.ref b same
  exact ⟨by rw [seventeen, cnt], by rw [seq, lane]⟩

end
end Sys2Proof.Machine
end

section
/-! SUPPORT. The frame that a CAN lane puts into arbitration (spec 05 R110, R114, R115, R119; 19 R386). -/
namespace Sys2Proof.Machine

section
variable {s : State} {n : Nat}

/-! ### Messages that wait beside the queues -/

/-- A frame that meets no limiter, no rejection and no seal goes out as it is. -/
theorem State.canChecked_free {x : LaneFrame} (passes : s.free n true x) : s.canChecked n x = (s, some (x, false)) := by
  have passed := State.canPass_free passes
  obtain ⟨-, entry, unsecured⟩ := passes
  rw [State.canChecked, passed]
  dsimp only
  rw [entry]
  dsimp only
  rw [unsecured, if_neg (by decide)]

/-- What has been chosen first stays chosen. -/
theorem State.chooseIf_busy (g : State → Nat → State) (busy : (s.canLane n).arb.isSome = true) : s.chooseIf n g = s := if_pos busy

theorem State.chooseIf_idle (g : State → Nat → State) (idle : (s.canLane n).arb = none) : s.chooseIf n g = g s n := if_neg (by rw [idle]; decide)

/-- A presence message that passes enters arbitration. -/
theorem State.presChoose_due {b : List Byte} (due : (s.canLane n).presDue = some b) (passes : (s.canLane n).presOut = true ∨ s.free n true (laneOf b)) :
    s.presChoose n = s.setCan n { s.canLane n with
      presDue := none, arb := some (.presence (if (s.canLane n).presOut then b else LaneFrame.bytes (laneOf b) n 0xFFFF)) } := by
  unfold State.presChoose
  dsimp only
  rw [due]
  dsimp only
  split
  · rfl
  · next unsent => rw [State.canChecked_free (passes.resolve_left unsent)]; rfl

theorem State.presChoose_none (none : (s.canLane n).presDue = none) : s.presChoose n = s := by
  unfold State.presChoose
  dsimp only
  rw [none]

/-- A presence message is chosen before all others. -/
theorem State.canChoose_presence {b : List Byte} (due : (s.canLane n).presDue = some b) (passes : (s.canLane n).presOut = true ∨ s.free n true (laneOf b)) :
    ((s.canChoose n).canLane n).presDue = none ∧ ((s.canChoose n).canLane n).arb =
      some (.presence (if (s.canLane n).presOut then b else LaneFrame.bytes (laneOf b) n 0xFFFF)) := by
  rw [State.canChoose, State.presChoose_due due passes, State.chooseIf_busy State.refChoose, State.chooseIf_busy State.queueChoose]
  · rw [State.canLane_setCan_same]; exact ⟨rfl, rfl⟩
  · rw [State.canLane_setCan_same]; rfl
  · rw [State.canLane_setCan_same]; rfl

/-- A due reference message that passes enters arbitration. -/
theorem State.refChoose_due (due : (s.canLane n).refDue = true) (format : s.tmFormat n = true) (first : (s.canLane n).refOut = none)
    (passes : s.free n true (s.refMessage n)) :
    s.refChoose n = s.drawn.setCan n { s.canLane n with
      refDue := false, refOut := some [], arb := some (.ref (LaneFrame.bytes (s.refMessage n) n 0xFFFF)) } := by
  unfold State.refChoose
  dsimp only
  rw [due, format, if_neg (by decide), if_neg (by decide), first]
  dsimp only
  rw [State.canChecked_free passes]
  rfl

theorem State.refChoose_none (none : (s.canLane n).refDue = false) : s.refChoose n = s := by
  unfold State.refChoose
  dsimp only
  rw [none, if_pos (by decide)]

/-- Without a presence message a due reference message is chosen. -/
theorem State.canChoose_ref (alone : (s.canLane n).presDue = none) (idle : (s.canLane n).arb = none) (due : (s.canLane n).refDue = true)
    (format : s.tmFormat n = true) (first : (s.canLane n).refOut = none) (passes : s.free n true (s.refMessage n)) :
    ((s.canChoose n).canLane n).refDue = false
    ∧ ((s.canChoose n).canLane n).arb = some (.ref (LaneFrame.bytes (s.refMessage n) n 0xFFFF)) := by
  rw [State.canChoose, State.presChoose_none alone, State.chooseIf_idle State.refChoose idle, State.refChoose_due due format first passes,
    State.chooseIf_busy State.queueChoose]
  · rw [State.canLane_setCan_same]; exact ⟨rfl, rfl⟩
  · rw [State.canLane_setCan_same]; rfl

/-! ### The heads of the queues -/

section
variable {q : Nat} {e : QEnt} {r : List QEnt} {f : Frame} (head : (s.queue q).head = e :: r) (whole : s.frames.find e.first = some f)
include head whole

theorem State.headOf_head : s.headOf q = some (e, f) := by
  unfold State.headOf
  rw [head]
  dsimp only
  rw [whole]

/-- A head that is neither too old nor damaged stays. -/
theorem State.pruned_head (fresh : s.tooOld (queueEgress q) f.epoch = false) (sound : f.damaged = false) : s.pruned q = s := by
  have filled : ∃ k, (s.queue q).head.length + (s.queue q).mid.length + (s.queue q).tail.length = k + 1 :=
    ⟨r.length + (s.queue q).mid.length + (s.queue q).tail.length, by rw [head, List.length_cons]; omega⟩
  obtain ⟨k, len⟩ := filled
  unfold State.pruned
  dsimp only
  rw [len, State.prune, State.headOf_head head whole]
  dsimp only
  rw [fresh, sound, if_neg (by decide), if_neg (by decide)]

end

/-- A frame of a format that the lane has, and that meets no limiter, no rejection and no seal, is sent as it is. -/
theorem State.canPrepare_free {f : Frame} {e : QEnt} (format : s.canFormat n (laneOut f e) = true) (passes : s.free n true (laneOut f e)) :
    s.canPrepare n f e = (s, some (laneOut f e)) := by
  unfold State.canPrepare
  dsimp only
  rw [format, if_neg (by decide), State.canPass_free passes, State.canChecked_free passes]
  dsimp only
  rw [passes.2.2]
  split <;> rfl

/-- The queue of class `c` of the lane. -/
abbrev laneQueue (n c : Nat) : Nat := 320 + 4 * n + c

/-- The class 3 head `e` is whole, fit to send, and has not passed the lane's checks yet. -/
structure FitHead (s : State) (n : Nat) (e : QEnt) (f : Frame) : Prop where
  head : ∃ r, (s.queue (laneQueue n 3)).head = e :: r
  whole : s.frames.find e.first = some f
  fresh : s.tooOld (40 + n) f.epoch = false
  sound : f.damaged = false
  format : s.canFormat n (laneOut f e) = true
  passes : s.free n true (laneOut f e)
  unchecked : s.canHeadIs n (laneQueue n 3) e = false

/-- The lane with `e` as the class 3 head that has passed. -/
def State.passedHead (s : State) (n : Nat) (e : QEnt) (f : Frame) : State :=
  s.setCan n { s.canLane n with passed := (s.canLane n).passed.put 3 (e, LaneFrame.bytes (laneOut f e) n 0xFFFF) }

theorem FitHead.canHead {e : QEnt} {f : Frame} (fit : FitHead s n e f) (isLane : n < 24) (fuel : Nat) : s.canHead n 3 (fuel + 1) = s.passedHead n e f := by
  obtain ⟨⟨r, head⟩, whole, fresh, sound, format, passes, unchecked⟩ := fit
  have egress : queueEgress (laneQueue n 3) = 40 + n := by
    rw [queueEgress, laneQueue, if_neg (by omega), if_pos (by omega)]; omega
  unfold State.canHead
  dsimp only
  rw [State.pruned_head head whole (by rw [egress]; exact fresh) sound, State.headOf_head head whole]
  dsimp only
  rw [unchecked, if_neg (by decide), State.canPrepare_free format passes]
  rfl

theorem State.passedHead_kept (e : QEnt) (f : Frame) :
    ((s.passedHead n e f).canLane n).passed.find 3 = some (e, LaneFrame.bytes (laneOut f e) n 0xFFFF) := by
  rw [State.passedHead, State.canLane_setCan_same]
  exact Tbl.find_put_same ..

/-- The head that has passed is the one that is sent. -/
theorem FitHead.isHead {e : QEnt} {f : Frame} (fit : FitHead s n e f) : (s.passedHead n e f).canHeadIs n (laneQueue n 3) e = true := by
  have kept := s.passedHead_kept (n := n) e f
  obtain ⟨⟨r, head⟩, whole, -⟩ := fit
  have front : (s.passedHead n e f).headOf (laneQueue n 3) = some (e, f) := State.headOf_head (s := s) head whole
  rw [State.canHeadIs, front, show (laneQueue n 3 - 320) % 4 = 3 by unfold laneQueue; omega, kept]
  simp

/-- The classes `cs` of the lane look at their heads in turn. -/
def State.canHeads (s : State) (n : Nat) (cs : List Nat) : State := cs.foldl (fun t c => t.canHead n c (t.qLen (laneQueue n c))) s

/-- Classes whose queues are empty have no head to look at. -/
theorem State.canHeads_empty (cs : List Nat) (empty : ∀ c ∈ cs, s.qLen (laneQueue n c) = 0) : s.canHeads n cs = s := by
  induction cs with
  | nil => rfl
  | cons c cs ih =>
    have none : s.canHead n c (s.qLen (laneQueue n c)) = s := by rw [empty c (List.mem_cons_self ..)]; rfl
    rw [State.canHeads, List.foldl_cons, none]
    exact ih fun d hd => empty d (List.mem_cons_of_mem _ hd)

/-- With the lower classes empty the class 3 head alone passes the lane's checks. -/
theorem FitHead.canHeads {e : QEnt} {f : Frame} (fit : FitHead s n e f) (isLane : n < 24) (empty : ∀ c, c < 3 → s.qLen (laneQueue n c) = 0) :
    s.canHeads n [3, 2, 1, 0] = s.passedHead n e f := by
  obtain ⟨r, head⟩ := fit.head
  have filled : s.qLen (laneQueue n 3) = (r.length + (s.queue (laneQueue n 3)).mid.length + (s.queue (laneQueue n 3)).tail.length) + 1 := by
    rw [State.qLen, head, List.length_cons]; omega
  have three : s.canHead n 3 (s.qLen (laneQueue n 3)) = s.passedHead n e f := by rw [filled, fit.canHead isLane]
  rw [State.canHeads, List.foldl_cons, three]
  exact State.canHeads_empty [2, 1, 0] fun c hc => empty c (by simp at hc; omega)

/-- The class 3 head, when the other classes are empty, is chosen. -/
theorem FitHead.queueChoose {e : QEnt} {f : Frame} (fit : FitHead s n e f) (isLane : n < 24) (empty : ∀ c, c < 3 → s.qLen (laneQueue n c) = 0) :
    ((s.queueChoose n).canLane n).arb = some (.queued (laneQueue n 3) e (LaneFrame.bytes (laneOut f e) n 0xFFFF)) := by
  have passed : (List.range 4).reverse.foldl (fun t c => t.canHead n c (t.qLen (320 + 4 * n + c))) s = s.passedHead n e f :=
    fit.canHeads isLane empty
  have classes : (List.range 4).reverse = 3 :: [2, 1, 0] := rfl
  unfold State.queueChoose
  dsimp only
  rw [passed, classes, List.find?_cons_of_pos]
  · dsimp only
    rw [State.passedHead_kept]
    dsimp only
    rw [State.canLane_setCan_same]
  · rw [State.passedHead_kept]
    exact fit.isHead

/-- Without a presence message and a reference message that are due the head of a queue is chosen. -/
theorem FitHead.canChoose {e : QEnt} {f : Frame} (fit : FitHead s n e f) (isLane : n < 24) (empty : ∀ c, c < 3 → s.qLen (laneQueue n c) = 0)
    (alone : (s.canLane n).presDue = none) (undue : (s.canLane n).refDue = false) (idle : (s.canLane n).arb = none) :
    ((s.canChoose n).canLane n).arb = some (.queued (laneQueue n 3) e (LaneFrame.bytes (laneOut f e) n 0xFFFF)) := by
  rw [State.canChoose, State.presChoose_none alone, State.chooseIf_idle State.refChoose idle, State.refChoose_none undue,
    State.chooseIf_idle State.queueChoose idle]
  exact fit.queueChoose isLane empty

end

/-! ### The command -/

section
variable {s : State} {n : Fin 24}

/-- The chosen frame starts with its SOF, and the registers show it. -/
def State.canSof (s : State) (n : Nat) : State :=
  let t := (if (s.canLane n).arb.isSome then s.setCan n { s.canLane n with sof := some s.snap } else s).canShow n
  (if (t.canLane n).arb.isSome then t.wr F.LSL_CAN_STAT_BUS_IDLE n 0 else t).drainService

theorem exec_canTxHead (bad : List (Fin 64)) (runs : s.canRuns n = true) (sends : s.canSends n = true) (awake : s.dozing = false)
    (steady : s.portRestructuring (40 + n) = false) (idle : (s.canLane n).arb = none) (quiet : (s.canLane n).sof = none)
    (en : s.on F.LSL_CAN_CTL_EN n = true) : exec (.canTxHead n bad) s = .next (((s.canParity n bad).canChoose n).canSof n) := by
  refine if_pos ?_
  rw [runs, sends, awake, steady, idle, quiet, en]
  rfl

/-- A frame in arbitration starts, and the lane otherwise keeps what it holds. -/
theorem State.canSof_spec {s : State} {n : Nat} {a : CanTx} (chosen : (s.canLane n).arb = some a) :
    let t := s.canSof n
    (t.canLane n).arb = some a ∧ (t.canLane n).sof.isSome = true ∧ (t.canLane n).presDue = (s.canLane n).presDue
    ∧ (t.canLane n).refDue = (s.canLane n).refDue ∧ t.rd F.LSL_CAN_STAT_TX_PEND n = 1 ∧ t.rd F.LSL_CAN_STAT_BUS_IDLE n = 0 := by
  have busy : (s.canLane n).arb.isSome = true := by rw [chosen]; rfl
  obtain ⟨-, -, -, -, pend⟩ := (s.setCan n { s.canLane n with sof := some s.snap }).canShow_shows n
  rw [State.canLane_setCan_same, busy] at pend
  have started : s.canSof n = (((s.setCan n { s.canLane n with sof := some s.snap }).canShow n).wr F.LSL_CAN_STAT_BUS_IDLE n 0).drainService := by
    unfold State.canSof
    dsimp only
    rw [if_pos busy, if_pos]
    rw [State.canLane_canShow, State.canLane_setCan_same]
    exact busy
  have drained := State.drainService_queueOnly (((s.setCan n { s.canLane n with sof := some s.snap }).canShow n).wr F.LSL_CAN_STAT_BUS_IDLE n 0)
  have lane : (s.canSof n).lane n = { s.lane n with sof := some s.snap } := by
    rw [started, drained.lane, State.lane_wr, State.lane_canShow, State.lane_setCan_same]; rfl
  dsimp only
  rw [State.canLane_arb, State.canLane_sof, State.canLane_presDue, State.canLane_refDue, lane, started]
  refine ⟨chosen, rfl, rfl, rfl, (drained.apart.rd _ n (by decide)).trans ?_, (drained.apart.rd _ n (by decide)).trans (State.rd_wr_same ..)⟩
  rw [State.rd_wr_fld _ _ _ _ _ _ (by decide), pend]
  rfl

end

/-! ### The choice, after a look at the filters -/

section
variable {s u : State} (h : Spoiled s u)
include h

/-- What may be sent in `s` may be sent after the look at the filters. -/
theorem Spoiled.fitHead {n : Nat} {e : QEnt} {f : Frame} {r : List QEnt} (head : (s.queue (323 + 4 * n)).head = e :: r)
    (whole : s.frames.find e.first = some f) (fresh : s.tooOld (40 + n) f.epoch = false) (sound : f.damaged = false)
    (format : s.canFormat n (laneOut f e) = true) (passes : u.free n true (laneOut f e)) (unchecked : s.canHeadIs n (323 + 4 * n) e = false) :
    FitHead u n e f := by
  have third : laneQueue n 3 = 323 + 4 * n := by unfold laneQueue; omega
  refine ⟨⟨r, ?_⟩, ?_, (h.tooOld _ _).trans fresh, sound, (h.canFormat _ _).trans format, passes, ?_⟩
  · rw [third, h.queue]; exact head
  · rw [h.frames]; exact whole
  · rw [third, h.canHeadIs]; exact unchecked

/-- A queue that is empty in `s` is empty after it. -/
theorem Spoiled.qLen {q : Nat} (empty : (s.queue q).head = [] ∧ (s.queue q).mid = [] ∧ (s.queue q).tail = []) : u.qLen q = 0 := by
  obtain ⟨head, mid, tail⟩ := empty
  rw [State.qLen, h.queue, head, mid, tail]
  rfl

end
end Sys2Proof.Machine
end

section
/-! SUPPORT. The statement about the frames and errors of CAN lanes. -/
namespace Sys2Proof
open Sys2Proof.Machine

/-- Settles O25: filter entries found bad match nothing by `canFilter_bad`, a received frame is `canRx_spec` and `canRx_flight`, a choice for
arbitration `canChoose_presence`, `canChoose_ref` and `FitHead.canChoose`, a success `canTxSuccess_met`, and an error `ErrorMet`. -/
theorem canFramesAndErrors : Obligations.CanFramesAndErrors := by
  unfold Obligations.CanFramesAndErrors
  intro s n kind flags sdt key af data lec d special xl tdcv bad side tx u l x one passes
  have spoiled : Spoiled s u := s.canParity_spoiled n bad
  have lane : u.canLane n = l := spoiled.canLane n
  have free (b : Bool) (y : LaneFrame) (p : passes b y) : u.free n b y := spoiled.free p
  refine ⟨fun k b looked => ?_, fun takes quiet idle => ?_, fun takes format => ?_, fun runs sends awake steady idle quiet en => ?_,
    fun runs inArb => ⟨?_, ?_⟩, fun sends hears => ?_, fun runs inArb measures => ?_, fun hears foreign => ?_, fun has => ?_⟩
  · have found : 64 * n.val + k ∈ u.canBad := s.canParity_mem n looked
    exact ⟨found, u.canFilter_bad n found⟩
  · refine ⟨_, exec_canFrameRx_sof flags sdt key af data bad takes quiet idle, ?_, State.rd_wr_same ..⟩
    rw [State.canLane_wr, State.canLane_setCan_same]
  · obtain ⟨can, -⟩ := State.canRuns_spec (State.canHears_runs (State.canTakes_hears takes))
    refine ⟨_, exec_canFrameRx_frame kind flags sdt key af data bad takes format, ?_⟩
    obtain ⟨counted, canBad, flight⟩ := State.canRxEnd_spec (s := u) (n := n) x (l.sof.getD s.snap) l.arb.isNone ((spoiled.rd _ _).trans can)
    refine ⟨counted.trans (by rw [spoiled.rd]), canBad, fun free' live => ?_⟩
    obtain ⟨f, ts, flies, known⟩ := u.canRx_flight n x (l.sof.getD s.snap) (free false x free') ((spoiled.recovering _).trans live)
    exact ⟨f, ts, (flight.trans flies).trans (by rw [spoiled.flight]), known⟩
  · refine ⟨_, exec_canTxHead bad runs sends awake steady idle quiet en, fun b due passed => ?_, fun alone due format first passed => ?_,
      fun e f r alone undue head whole fresh sound format passed unchecked empty => ?_⟩
    · have chosen := State.canChoose_presence (s := u) (n := n) (b := b) (by rw [lane, due]) (by rw [lane]; exact passed.imp_right (free true _))
      rw [lane] at chosen
      obtain ⟨undue, arb⟩ := chosen
      obtain ⟨starts, sof, presDue, -, pend, busIdle⟩ := State.canSof_spec arb
      exact ⟨presDue.trans undue, starts, pend, busIdle, sof⟩
    · have message : u.refMessage n = s.refMessage n := spoiled.refMessage n
      obtain ⟨undue, arb⟩ := State.canChoose_ref (s := u) (n := n) (by rw [lane, alone]) (by rw [lane, idle]) (by rw [lane, due])
        ((spoiled.tmFormat n).trans format) (by rw [lane, first]) (by rw [message]; exact free true _ passed)
      obtain ⟨starts, -, -, refDue, -⟩ := State.canSof_spec arb
      exact ⟨by rw [starts, message], refDue.trans undue⟩
    · have fit := spoiled.fitHead head whole fresh sound format (free true _ passed) unchecked
      have arb := fit.canChoose n.isLt (fun c low => spoiled.qLen (empty c low)) (by rw [lane, alone]) (by rw [lane, undue]) (by rw [lane, idle])
      obtain ⟨starts, -⟩ := State.canSof_spec arb
      rw [starts, show laneQueue n 3 = 323 + 4 * n.val by unfold laneQueue; omega]
  · obtain ⟨a, isArb⟩ := Option.isSome_iff_exists.1 inArb
    obtain ⟨t, is, met⟩ := canTxSuccess_met tdcv runs isArb
    have same (c : CanTx) (is : l.arb = some c) : a = c := Option.some.inj (isArb.symm.trans is)
    refine ⟨t, is, met.counted, met.arb, met.tec, fun b is bus => ?_, fun b is => met.ref b (same _ is)⟩
    rw [met.lastTx bus, same _ is]; rfl
  · refine ⟨_, exec_canArbLost runs inArb, s.canLost_counts n, ?_, fun b isRef again => State.canLost_ref isRef (State.canRuns_spec runs).2.1 again⟩
    rw [State.canLane_arb, State.lane_canLost]
  · obtain ⟨t, is, met⟩ := canBusError_met lec d side special sends hears
    have active : l.st = .active := by
      cases isTx : tx with
      | true => exact (State.canRuns_spec (sends isTx).1).2.1
      | false => exact (State.canRuns_spec (State.canHears_runs (hears isTx))).2.1
    refine ⟨t, is, met.lec.trans (Nat.mod_eq_of_lt lec.isLt), met.lecData, met.counted, fun counts => ?_, fun restricted => met.waits restricted active⟩
    obtain ⟨tec, recC, -⟩ := CanLane.of_tally (met.tally counts)
    refine ⟨tec, recC, fun stays here isTx plain above => met.busOff counts stays here isTx plain ?_⟩
    rw [isTx, plain] at above
    exact above
  · obtain ⟨met, evt⟩ := tdcFail_met (s := s) (n := n) runs
    refine ⟨_, exec_tdcFail runs inArb measures, evt, ?_, ?_, met.lec, met.lecData⟩
    · exact (met.others 19 (by decide) (by decide) (by decide)).trans (s.tdcFailed_cnt n 19)
    · exact met.counted.trans (by rw [show errCnt true = 11 from rfl, s.tdcFailed_cnt n 11]; rfl)
  · obtain ⟨can, -⟩ := State.canRuns_spec (State.canHears_runs hears)
    refine ⟨_, exec_canProtocolException xl hears foreign, ?_⟩
    split
    · obtain ⟨counted, evt, tally, waits⟩ := State.pxWaits_spec (s := s) (n := n) can
      obtain ⟨tec, recC, -⟩ := CanLane.of_tally tally
      exact ⟨counted, evt, fun stays here => ⟨waits stays here, tec, recC⟩⟩
    · have met := s.canError_met n can 2 false false false
      exact ⟨met.counted, met.lec, met.lecData⟩
  · exact congrArg Host.Outcome.next (if_pos (by rw [has, Bool.or_true]))

end Sys2Proof
end

section
/-! SUPPORT. The operations on queues (spec 09), time-stamps (12) and epochs (08), and a lane's link, send no report. -/
namespace Sys2Proof.Machine

theorem State.transit_ite {s t u : State} {c : Prop} [Decidable c] (ht : t.transit = s.transit) (hu : u.transit = s.transit) :
    (if c then t else u).transit = s.transit := by
  split <;> assumption

section
variable (s : State)

@[simp] theorem State.tsDone_transit (i : Nat) : (s.tsDone i).transit = s.transit := by
  unfold State.tsDone
  split
  · split <;> rfl
  · rfl

@[simp] theorem State.tsHold_transit (q i : Nat) : (s.tsHold q i).transit = s.transit := by
  unfold State.tsHold
  split
  · split
    · split <;> rfl
    · rfl
  · rfl

@[simp] theorem State.finishRef_transit (first : Nat) (pooled : Bool) : (s.finishRef first pooled).transit = s.transit := by
  unfold State.finishRef
  split
  · split
    · exact State.tsDone_transit _ _
    · rfl
  · rfl

@[simp] theorem State.finish_transit (e : QEnt) (pooled : Bool) : (s.finish e pooled).transit = s.transit :=
  State.finishRef_transit _ _ _

@[simp] theorem State.finishIn_transit (q : Nat) (e : QEnt) (pooled : Bool) : (s.finishIn q e pooled).transit = s.transit := by
  unfold State.finishIn
  rw [State.finish_transit]
  split
  · exact State.tsHold_transit _ _ _
  · rfl

@[simp] theorem State.forgetHead_transit (q : Nat) : (s.forgetHead q).transit = s.transit := by
  unfold State.forgetHead
  split <;> rfl

@[simp] theorem State.flushQueue_transit (q k : Nat) : (s.flushQueue q k).transit = s.transit := by
  have ended (l : List QEnt) (pooled : Bool) (t : State) : (l.foldl (fun t e => t.finishIn q e pooled) t).transit = t.transit :=
    foldl_leaves State.transit l t fun t e => t.finishIn_transit q e pooled
  have stored (l : List MidFrame) (t : State) :
      (l.foldl (fun t m => (t.tsHold q m.frame.tsIndex).tsDone m.frame.tsIndex) t).transit = t.transit :=
    foldl_leaves State.transit l t fun t m => by rw [State.tsDone_transit, State.tsHold_transit]
  have forgotten : (if (s.startedHead q).isEmpty then s.forgetHead q else s).transit = s.transit :=
    State.transit_ite (s.forgetHead_transit q) rfl
  unfold State.flushQueue
  dsimp only
  rw [State.bumpBy_eq_wr, State.wr_transit, stored]
  exact (ended _ _ _).trans ((ended _ _ _).trans forgotten)

@[simp] theorem State.queuesDown_transit (p : Nat) (noLinger : Bool) : (s.queuesDown p noLinger).transit = s.transit := by
  have flushed (l : List Nat) (t : State) : (l.foldl (fun t q => t.flushQueue q 5) t).transit = t.transit :=
    foldl_leaves State.transit l t fun t q => t.flushQueue_transit q 5
  exact State.transit_ite ((flushed _ _).trans (flushed _ _)) (flushed _ _)

@[simp] theorem State.linkTo_transit (f : Fld) (n : Nat) (up : Bool) : (s.linkTo f n up).transit = s.transit :=
  State.transit_ite (State.queuesDown_transit _ _ _) (State.transit_ite rfl rfl)

@[simp] theorem State.laneLink_transit (n : Nat) : (s.laneLink n).transit = s.transit :=
  State.transit_ite (State.linkTo_transit _ _ _ _) (State.transit_ite (State.linkTo_transit _ _ _ _) rfl)

@[simp] theorem State.bumpNow_transit : s.bumpNow.transit = s.transit := by
  unfold State.bumpNow
  refine (foldl_leaves State.transit _ _ fun t w => ?_).trans rfl
  split
  · split <;> rfl
  · rfl

@[simp] theorem State.drainService_transit : s.drainService.transit = s.transit := by
  have bumped : (if s.on F.TBL_STAT_BUMP_HELD 0 && !s.bumpBlocked then s.bumpNow else s).transit = s.transit :=
    State.transit_ite s.bumpNow_transit rfl
  exact State.transit_ite (t := State.evt _ _ _) bumped bumped

@[simp] theorem State.laneTook_regs (n : Nat) : (s.laneTook n).regs = s.regs := by
  unfold State.laneTook
  split <;> rfl

end

/-! ### The note against a lane's port element (21 R409) -/

/-- The report sent last is that of lane `n` against its port element. -/
def State.Noted (t : State) (n : Nat) : Prop := ∃ info, t.transit.getLast? = some ⟨0x0B8 + n, elemId 0 (40 + n), info⟩

theorem State.laneNote_noted (s : State) (n : Nat) : (s.laneNote n).Noted n := ⟨_, List.getLast?_concat⟩

/-- What sends no further report leaves the note the last. -/
theorem State.Noted.of_transit {s t : State} {n : Nat} (noted : s.Noted n) (same : t.transit = s.transit) : t.Noted n := by
  rwa [State.Noted, same]

/-- The class of the sources of lanes is NOTE. -/
theorem bltDefaultClass_lane (n : Fin 24) : bltDefaultClass (0x0B8 + n) = 0 :=
  (by decide : ∀ m : Fin 24, bltDefaultClass (0x0B8 + m) = 0) n

end Sys2Proof.Machine
end

section
/-! SUPPORT. T1S lanes (spec 06): what their operations leave of registers and of the rest of the state. -/
namespace Sys2Proof.Machine

/-! ### The state without its T1S lanes -/

/-- The state without its T1S lanes, what was last put on lines, and the lanes that a restructure has seen end their frames. -/
def State.offBus (s : State) : State := { s with t1s := [], lastTx := [], scr := State.reset.scr }

/-- `t` differs from `s` in T1S lanes and lines, in register fields `fs`, and in what queues, time-stamps and reports hold, alone. -/
def T1sApart (fs : List Fld) (s t : State) : Prop := Apart fs s.offBus t.offBus

theorem Apart.t1sApart {fs : List Fld} {s t : State} (h : Apart fs s t) : T1sApart fs s t := congrArg State.offBus h

namespace T1sApart
variable {fs gs : List Fld} {s t u : State}

theorem refl : T1sApart fs s s := Apart.refl

theorem trans (h : T1sApart fs s t) (h' : T1sApart fs t u) : T1sApart fs s u := Apart.trans h h'

theorem mono (h : T1sApart fs s t) (sub : fs.map Fld.id ⊆ gs.map Fld.id) : T1sApart gs s t := Apart.mono h sub

theorem wr (h : T1sApart fs s t) (f : Fld) (i v : Nat) (hf : f.id ∈ fs.map Fld.id) : T1sApart fs s (t.wr f i v) := Apart.wr h f i v hf

theorem ite {c : Prop} [Decidable c] (ht : T1sApart fs s t) (hu : T1sApart fs s u) : T1sApart fs s (if c then t else u) := by
  split <;> assumption

theorem setT1s (h : T1sApart fs s t) (n : Nat) (x : T1sLane) : T1sApart fs s (t.setT1s n x) := h

theorem t1sMode (h : T1sApart fs s t) (n : Nat) (csma : Bool) (hf : F.LSL_T1S_STAT_MODE.id ∈ fs.map Fld.id) : T1sApart fs s (t.t1sMode n csma) :=
  T1sApart.ite (h.setT1s n _) ((h.setT1s n _).wr F.LSL_T1S_STAT_MODE n _ hf)

theorem send (h : T1sApart fs s t) (p : Nat) (bs : List Byte) : T1sApart fs s (t.send p bs) := h

theorem laneNote (h : T1sApart fs s t) (n : Nat) : T1sApart fs s (t.laneNote n) := h

theorem putBack (h : T1sApart fs s t) (q : Nat) (e : QEnt) : T1sApart fs s (t.putBack q e) := h

theorem laneTook (h : T1sApart fs s t) (n : Nat) : T1sApart fs s (t.laneTook n) := by
  unfold State.laneTook
  split <;> exact h

section
variable (h : T1sApart fs s t)
include h

theorem rd (f : Fld) (i : Nat) (hf : f.id ∉ fs.map Fld.id) : t.rd f i = s.rd f i := Apart.rd h f i hf

theorem on (f : Fld) (i : Nat) (hf : f.id ∉ fs.map Fld.id) : t.on f i = s.on f i := Apart.on h f i hf

theorem bit (f : Fld) (i b : Nat) (hf : f.id ∉ fs.map Fld.id) : t.bit f i b = s.bit f i b := Apart.bit h f i b hf

theorem flight : t.flight = s.flight := Apart.flight (s := s.offBus) (t := t.offBus) h

theorem portRestructuring (p : Nat) : t.portRestructuring p = s.portRestructuring p := Apart.portRestructuring h p

/-- Outside a restructure a lane is parked as before. -/
theorem laneParked (n : Nat) (steady : s.portRestructuring (40 + n) = false) (hf : ∀ f ∈ parkFlds, f.id ∉ fs.map Fld.id) :
    t.laneParked n = s.laneParked n := by
  have off (q : State) (out : q.portRestructuring (40 + n) = false) : q.laneParked n = q.offBus.laneParked n := by
    have out' : q.offBus.portRestructuring (40 + n) = false := out
    rw [State.laneParked, State.laneParked, out, out']
    rfl
  rw [off t ((h.portRestructuring _).trans steady), off s steady]
  exact Apart.laneParked h n hf

theorem presenceOf (p : Nat) (bs : List Byte) (hf : ∀ f ∈ [F.NSL_ETYPE_ETYPE, F.NSL_CTL_EN, F.NSL_NET_MEMBERS], f.id ∉ fs.map Fld.id) :
    t.presenceOf p bs = s.presenceOf p bs := by
  have nslOn : t.nslOn = s.nslOn := Apart.nslOn (s := s.offBus) (t := t.offBus) h
  unfold State.presenceOf State.netOn State.netHas
  dsimp only
  rw [h.rd F.NSL_ETYPE_ETYPE 0 (hf _ (by simp)), h.on F.NSL_CTL_EN 0 (hf _ (by simp)), nslOn, h.bit F.NSL_NET_MEMBERS _ _ (hf _ (by simp))]

/-- The fields that say what PLCA makes of a lane. -/
abbrev plcaFlds : List Fld := [F.LSL_T1S_CTL_PLCA_EN, F.LSL_T1S_PLCA_NODE_ID]

theorem t1sCoord (n : Nat) (hf : ∀ f ∈ plcaFlds, f.id ∉ fs.map Fld.id) : t.t1sCoord n = s.t1sCoord n := by
  rw [State.t1sCoord, h.on _ n (hf _ (by simp)), h.rd _ n (hf _ (by simp)), State.t1sCoord]

theorem t1sPlca (n : Nat) (hf : ∀ f ∈ plcaFlds, f.id ∉ fs.map Fld.id) : t.t1sPlca n = s.t1sPlca n := by
  rw [State.t1sPlca, h.on _ n (hf _ (by simp)), h.rd _ n (hf _ (by simp)), State.t1sPlca]

end
end T1sApart

/-! ### Counters, and what a lane shows -/

theorem b2n_mod_two (b : Bool) : b2n b % 2 = b2n b := by cases b <;> rfl

section
variable (s : State) (n : Nat)

theorem State.rd_t1sCnt_same (k : Nat) :
    (s.t1sCnt n k).rd F.LSL_T1S_CNT_COUNT (14 * n + k) = (s.rd F.LSL_T1S_CNT_COUNT (14 * n + k) + 1) % 2 ^ F.LSL_T1S_CNT_COUNT.width :=
  State.rd_wr_same ..

theorem State.rd_t1sCnt_ne {k j : Nat} (other : j ≠ k) :
    (s.t1sCnt n k).rd F.LSL_T1S_CNT_COUNT (14 * n + j) = s.rd F.LSL_T1S_CNT_COUNT (14 * n + j) := s.rd_wr_elem _ _ _ _ _ (by omega)

@[simp] theorem State.rd_laneNote (f : Fld) (i : Nat) : (s.laneNote n).rd f i = s.rd f i := rfl

@[simp] theorem State.t1sLane_t1sShow (m : Nat) : (s.t1sShow n).t1sLane m = s.t1sLane m := rfl

theorem State.t1sShow_apart : T1sApart [F.LSL_T1S_STAT_TX_PEND] s (s.t1sShow n) := T1sApart.refl.wr _ _ _ (by decide)

/-- The fields that bringing a lane's link up to date may write. -/
abbrev linkFlds : List Fld := queueFlds ++ [F.LSL_T1S_STAT_LINK, F.LSL_MVB_STAT_LINK, F.LSL_MVB_STAT_ADMIN]

theorem State.laneLink_apart : Apart linkFlds s (s.laneLink n) := by
  have linked (f : Fld) (up : Bool) (hf : f.id ∈ linkFlds.map Fld.id) : Apart linkFlds s (s.linkTo f n up) :=
    ((Apart.refl.wr f n 0 hf).trans ((State.queuesDown_queueOnly _ _ _).apart.mono (by decide))).ite
      (((Apart.refl.wr f n 1 hf).trans ((State.queuesUp_queueOnly _ _).apart.mono (by decide))).ite Apart.refl)
  exact (linked F.LSL_T1S_STAT_LINK _ (by decide)).ite
    (((linked F.LSL_MVB_STAT_LINK _ (by decide)).wr F.LSL_MVB_STAT_ADMIN n _ (by decide)).ite Apart.refl)

@[simp] theorem State.t1sLane_laneLink (m : Nat) : (s.laneLink n).t1sLane m = s.t1sLane m := by
  rw [State.t1sLane, (s.laneLink_apart n).t1s, State.t1sLane]

/-! ### The mode, and the end of a frame (R129) -/

/-- A lane that sends nothing goes to its mode at once. -/
theorem State.t1sMode_idle (csma : Bool) (idle : (s.t1sLane n).tx = none) : s.t1sMode n csma =
    (s.setT1s n { s.t1sLane n with switchTo := none, opp := none, coming := none, burst := 0 }).wrb F.LSL_T1S_STAT_MODE n csma := by
  unfold State.t1sMode
  dsimp only
  rw [idle, if_neg (by decide)]

/-- The lane after the frame in progress: a switch that waited opens no opportunity. -/
def T1sLane.ended (x : T1sLane) : T1sLane :=
  if x.switchTo.isSome then { x with switchTo := none, opp := none, coming := none, burst := 0 } else x

theorem T1sLane.ended_spec (x : T1sLane) : x.ended.tx = x.tx ∧ x.ended.beacon = x.beacon ∧ x.ended.attempts = x.attempts
    ∧ x.ended.backoff = x.backoff := by
  unfold T1sLane.ended
  split <;> exact ⟨rfl, rfl, rfl, rfl⟩

/-- The end of a frame changes the lane, its mode and what it shows, alone. -/
theorem State.t1sEnded_spec (idle : (s.t1sLane n).tx = none) :
    T1sApart [F.LSL_T1S_STAT_MODE, F.LSL_T1S_STAT_TX_PEND] s (s.t1sEnded n) ∧ (s.t1sEnded n).t1sLane n = (s.t1sLane n).ended
    ∧ (∀ q, (s.t1sEnded n).queue q = s.queue q) ∧ (s.t1sEnded n).transit = s.transit
    ∧ ((s.t1sLane n).switchTo = none → (s.t1sEnded n).rd F.LSL_T1S_STAT_MODE n = s.rd F.LSL_T1S_STAT_MODE n) := by
  unfold State.t1sEnded T1sLane.ended
  cases waits : (s.t1sLane n).switchTo with
  | none =>
    exact ⟨(s.t1sShow_apart n).mono (by decide), rfl, fun _ => rfl, rfl, fun _ => State.rd_wr_fld _ _ _ _ _ _ (by decide)⟩
  | some csma =>
    dsimp only
    refine ⟨(T1sApart.refl.t1sMode n csma (by decide)).trans ((State.t1sShow_apart _ n).mono (by decide)), ?_⟩
    rw [s.t1sMode_idle n csma idle]
    refine ⟨?_, fun _ => rfl, rfl, ?_⟩
    · rw [State.t1sLane_t1sShow, State.wrb_eq_wr, State.t1sLane_wr, State.t1sLane_setT1s_same]; rfl
    · exact fun no => nomatch no

/-! ### A frame that has been sent (R128, R130, R143) -/

theorem State.txStampBy_queueOnly (sn : Snap) (p : Nat) (asked : Bool) (bs : List Byte) (comp : Int) :
    QueueOnly s (s.txStampBy sn p asked bs comp) := by
  have stamped := s.captureAt_queueOnly sn true p (s.capMask.get 0 p) comp
  have counted (t : State) (c : Tbl Nat) : QueueOnly t (if asked then { t with txReqCount := c } else t) :=
    QueueOnly.ite ⟨rfl, fun _ => rfl⟩ QueueOnly.refl
  exact QueueOnly.refl.ite ((stamped.trans (counted _ _)).trans (QueueOnly.refl.ite (State.egressReport_queueOnly _ _)))

theorem State.tcCount_queueOnly (tc : Option Bool) : QueueOnly s (s.tcCount tc) := by
  unfold State.tcCount
  split
  · exact QueueOnly.refl.wr F.RUL_CNT_COUNT 0 _ (by decide)
  · exact QueueOnly.refl.wr F.RUL_CNT_COUNT 1 _ (by decide)
  · exact QueueOnly.refl

/-- The lane's frame `t` is out: its octets count. -/
def State.t1sOut (s : State) (n : Nat) (t : Tx) : State :=
  (((s.setT1s n { s.t1sLane n with tx := none, attempts := 0 }).send (40 + n) t.bytes).t1sCnt n 5).bumpBy F.LSL_T1S_CNT_COUNT (14 * n + 6) t.bytes.length

/-- The frame `t` that is out leaves its queue, its time-stamp that of its start `sn`; a presence message counts. -/
def State.t1sLeft (s : State) (n : Nat) (t : Tx) (sn : Snap) : State :=
  match t.ent with
  | some e =>
    let asked := match s.frames.find t.first with | some f => f.txReq | none => false
    ((((s.txStampBy sn (40 + n) asked t.bytes (s.t1sTxComp n)).tcCount t.tc).qcnt t.q 1).finish e (!s.deep t.q)).drainService
  | none => s.bump F.NSL_CNT_COUNT 1

theorem State.t1sSettle_idle (idle : (s.t1sLane n).tx = none) : s.t1sSettle n = s := by
  unfold State.t1sSettle
  dsimp only
  rw [idle]

theorem State.t1sSettle_sending {t : Tx} (sends : (s.t1sLane n).tx = some t) :
    s.t1sSettle n = ((s.t1sOut n t).t1sLeft n t (s.t1sLane n).txSnap).t1sEnded n := by
  unfold State.t1sSettle
  dsimp only
  rw [sends]
  rfl

/-- The fields that the end of a frame may write. -/
abbrev settleFlds : List Fld := queueFlds ++ [F.NSL_CNT_COUNT, F.LSL_T1S_CNT_COUNT, F.LSL_T1S_STAT_MODE, F.LSL_T1S_STAT_TX_PEND]

theorem State.t1sOut_apart (t : Tx) : T1sApart [F.LSL_T1S_CNT_COUNT] s (s.t1sOut n t) := by
  have out : T1sApart [F.LSL_T1S_CNT_COUNT] s ((s.setT1s n { s.t1sLane n with tx := none, attempts := 0 }).send (40 + n) t.bytes) :=
    (T1sApart.refl.setT1s n _).send _ _
  exact (out.wr F.LSL_T1S_CNT_COUNT _ _ (by decide)).wr F.LSL_T1S_CNT_COUNT _ _ (by decide)

theorem State.rd_t1sOut_five (t : Tx) : (s.t1sOut n t).rd F.LSL_T1S_CNT_COUNT (14 * n + 5)
    = (s.rd F.LSL_T1S_CNT_COUNT (14 * n + 5) + 1) % 2 ^ F.LSL_T1S_CNT_COUNT.width :=
  (State.rd_wr_elem _ _ _ _ _ _ (by omega)).trans (State.rd_t1sCnt_same ..)

theorem State.rd_t1sOut_ne (t : Tx) {k : Nat} (five : k ≠ 5) (six : k ≠ 6) :
    (s.t1sOut n t).rd F.LSL_T1S_CNT_COUNT (14 * n + k) = s.rd F.LSL_T1S_CNT_COUNT (14 * n + k) :=
  (State.rd_wr_elem _ _ _ _ _ _ (by omega)).trans (State.rd_t1sCnt_ne _ _ five)

theorem State.rd_t1sOut_fld (t : Tx) {f : Fld} (i : Nat) (other : f.id ≠ F.LSL_T1S_CNT_COUNT.id) : (s.t1sOut n t).rd f i = s.rd f i :=
  (State.rd_wr_fld _ _ _ _ _ _ other).trans (State.rd_wr_fld _ _ _ _ _ _ other)

theorem State.t1sLeft_apart (t : Tx) (sn : Snap) : Apart (queueFlds ++ [F.NSL_CNT_COUNT]) s (s.t1sLeft n t sn) := by
  unfold State.t1sLeft
  split
  · next e _ =>
    have left (asked : Bool) (comp : Int) (pooled : Bool) :
        QueueOnly s ((((s.txStampBy sn (40 + n) asked t.bytes comp).tcCount t.tc).qcnt t.q 1).finish e pooled).drainService :=
      (((((s.txStampBy_queueOnly sn _ asked t.bytes comp).trans (State.tcCount_queueOnly _ t.tc)).wr F.QUE_CNT_COUNT _ _ (by decide)).trans
        (State.finish_queueOnly _ e pooled)).trans (State.drainService_queueOnly _))
    exact (left _ _ _).apart.mono (by decide)
  · exact Apart.refl.wr F.NSL_CNT_COUNT 1 _ (by decide)

/-- From `s` to `t` the frame that lane `n` was sending, if any, has been sent. -/
structure T1sSettled (n : Nat) (s t : State) : Prop where
  apart : T1sApart settleFlds s t
  tx : (t.t1sLane n).tx = none
  beacon : (t.t1sLane n).beacon = (s.t1sLane n).beacon
  counts : ∀ k, k ≠ 5 → k ≠ 6 → t.rd F.LSL_T1S_CNT_COUNT (14 * n + k) = s.rd F.LSL_T1S_CNT_COUNT (14 * n + k)
  sent : (s.t1sLane n).tx.isSome = true → t.rd F.LSL_T1S_CNT_COUNT (14 * n + 5) = (s.rd F.LSL_T1S_CNT_COUNT (14 * n + 5) + 1) % 2 ^ F.LSL_T1S_CNT_COUNT.width
  mode : (s.t1sLane n).switchTo = none → t.rd F.LSL_T1S_STAT_MODE n = s.rd F.LSL_T1S_STAT_MODE n

theorem State.t1sSettle_settled : T1sSettled n s (s.t1sSettle n) := by
  cases sends : (s.t1sLane n).tx with
  | none =>
    rw [s.t1sSettle_idle n sends]
    exact ⟨T1sApart.refl, sends, rfl, fun _ _ _ => rfl, fun no => by rw [sends] at no; exact absurd no (by decide), fun _ => rfl⟩
  | some x =>
    have out := s.t1sOut_apart n x
    have left := (s.t1sOut n x).t1sLeft_apart n x (s.t1sLane n).txSnap
    have lane : ((s.t1sOut n x).t1sLeft n x (s.t1sLane n).txSnap).t1sLane n = { s.t1sLane n with tx := none, attempts := 0 } := by
      rw [State.t1sLane, left.t1s]
      exact State.t1sLane_setT1s_same ..
    obtain ⟨ended, lane', -, -, mode⟩ := State.t1sEnded_spec _ n (congrArg T1sLane.tx lane)
    obtain ⟨tx, beacon, -⟩ := T1sLane.ended_spec { s.t1sLane n with tx := none, attempts := 0 }
    rw [lane] at lane' mode
    rw [s.t1sSettle_sending n sends]
    have cnt (k : Nat) : (((s.t1sOut n x).t1sLeft n x (s.t1sLane n).txSnap).t1sEnded n).rd F.LSL_T1S_CNT_COUNT (14 * n + k)
        = (s.t1sOut n x).rd F.LSL_T1S_CNT_COUNT (14 * n + k) := (ended.rd _ _ (by decide)).trans (left.rd _ _ (by decide))
    refine ⟨((out.mono (by decide)).trans (left.t1sApart.mono (by decide))).trans (ended.mono (by decide)), by rw [lane', tx], by rw [lane', beacon], fun k five six => ?_, fun _ => ?_,
      fun stays => ?_⟩
    · rw [cnt, State.rd_t1sOut_ne _ _ _ five six]
    · rw [cnt, State.rd_t1sOut_five]
    · rw [mode stays, left.rd _ _ (by decide), State.rd_t1sOut_fld _ _ _ _ (by decide)]

end
end Sys2Proof.Machine
end

section
/-! SUPPORT. The commands of T1S lanes (spec 06 R125, R127 to R132, R142): frames received, cycles and opportunities, BEACONs, energy. -/
namespace Sys2Proof.Machine

/-! ### Frames received (R127) -/

section
variable (s : State) (n : Nat)

/-- A good frame has been received: a presence message tells its network, another one enters its pipeline. -/
def State.t1sTakesIn (s : State) (n : Nat) (bs : List Byte) : State :=
  let s := (s.t1sCnt n 0).bumpBy F.LSL_T1S_CNT_COUNT (14 * n + 1) bs.length
  match s.presenceOf (40 + n) bs with
  | some k => s.presRx k (40 + n) (be bs 15 1) (be bs 16 1)
  | none =>
    let r := s.capture false (40 + n) (s.capMask.get 0 (40 + n)) (s.laneComp n 800)
    r.1.enter (Flight.good (40 + n) bs r.2)

theorem State.enter_t1sCnt (f : Flight) (k : Nat) :
    (s.enter f).rd F.LSL_T1S_CNT_COUNT (14 * n + k) = s.rd F.LSL_T1S_CNT_COUNT (14 * n + k) :=
  (s.enter_heard n f).regs _ _ (by decide)

theorem State.t1sTakesIn_counts (bs : List Byte) : (s.t1sTakesIn n bs).rd F.LSL_T1S_CNT_COUNT (14 * n + 0)
    = (s.rd F.LSL_T1S_CNT_COUNT (14 * n + 0) + 1) % 2 ^ F.LSL_T1S_CNT_COUNT.width := by
  have counted : ((s.t1sCnt n 0).bumpBy F.LSL_T1S_CNT_COUNT (14 * n + 1) bs.length).rd F.LSL_T1S_CNT_COUNT (14 * n + 0)
      = (s.rd F.LSL_T1S_CNT_COUNT (14 * n + 0) + 1) % 2 ^ F.LSL_T1S_CNT_COUNT.width := by
    rw [State.bumpBy_eq_wr, State.rd_wr_elem _ _ _ _ _ _ (by omega), State.rd_t1sCnt_same]
  unfold State.t1sTakesIn
  dsimp only
  rw [← counted]
  split
  · exact (State.presRx_netOnly _ _ _ _ _).regs _ _ (by decide)
  · exact (State.enter_t1sCnt _ n _ 0).trans ((State.captureAt_queueOnly _ _ _ _ _ _).apart.rd _ _ (by decide))

theorem State.t1sTakesIn_flight (bs : List Byte) (data : s.presenceOf (40 + n) bs = none) (runs : s.recovering (pipeOf (40 + n)) = false) :
    ∃ ts, (s.t1sTakesIn n bs).flight = s.flight ++ [Flight.good (40 + n) bs ts] := by
  have counted : T1sApart [F.LSL_T1S_CNT_COUNT] s ((s.t1sCnt n 0).bumpBy F.LSL_T1S_CNT_COUNT (14 * n + 1) bs.length) :=
    (T1sApart.refl.wr F.LSL_T1S_CNT_COUNT _ _ (by decide)).wr F.LSL_T1S_CNT_COUNT _ _ (by decide)
  have data' := (counted.presenceOf (40 + n) bs (by decide)).trans data
  have stamped (sn : Snap) (mask : Nat) (comp : Int) :=
    counted.mono (gs := F.LSL_T1S_CNT_COUNT :: queueFlds) (by decide) |>.trans
      ((State.captureAt_queueOnly ((s.t1sCnt n 0).bumpBy F.LSL_T1S_CNT_COUNT (14 * n + 1) bs.length) sn false (40 + n) mask comp).apart.t1sApart.mono (by decide))
  unfold State.t1sTakesIn
  dsimp only
  rw [data']
  refine ⟨_, (State.enter_spec _ ?_).1.trans (congrArg (· ++ [_]) (stamped _ _ _).flight)⟩
  exact ((stamped _ _ _).on F.PP_STAT_RECOVERING _ (by decide)).trans runs

end

section
variable {s : State} {n : Fin 24}

/-- The lane after the frame that it was sending, and the one that a restructure found in progress, have ended. -/
def State.t1sHeard (s : State) (n : Nat) : State := (s.t1sSettle n).laneTook n

theorem State.t1sHeard_spec (s : State) (n : Nat) : T1sApart settleFlds s (s.t1sHeard n)
    ∧ ∀ k, k ≠ 5 → k ≠ 6 → (s.t1sHeard n).rd F.LSL_T1S_CNT_COUNT (14 * n + k) = s.rd F.LSL_T1S_CNT_COUNT (14 * n + k) := by
  have settled := s.t1sSettle_settled n
  refine ⟨settled.apart.laneTook n, fun k five six => ?_⟩
  rw [← settled.counts k five six, State.t1sHeard, State.rd, State.laneTook_regs, State.rd]

theorem exec_t1sFrameRx (bs : List Byte) (good : Bool) (takes : (s.t1sRuns n || s.t1sLast n) = true) (unsecured : s.secure (40 + n) = false) :
    exec (.t1sFrameRx n bs good) s = .next (if bs.length < 64 then (s.t1sHeard n).t1sCnt n 3
      else if 1518 < bs.length then (s.t1sHeard n).t1sCnt n 4
      else if good = false then (s.t1sHeard n).t1sCnt n 2 else (s.t1sHeard n).t1sTakesIn n bs) := by
  have enters : ¬(!(s.t1sRuns n || s.t1sLast n) || s.secure (40 + n)) = true := by rw [takes, unsecured]; decide
  refine (if_neg enters).trans ?_
  dsimp only
  split
  · rfl
  · split
    · rfl
    · cases good with
      | false => rfl
      | true =>
        rw [if_neg (by decide), if_neg (by decide), State.t1sTakesIn]
        dsimp only
        change (match ((s.t1sHeard n).t1sCnt n 0 |>.bumpBy F.LSL_T1S_CNT_COUNT (14 * n + 1) bs.length).presenceOf (40 + n) bs with | some _ => _ | none => _) = _
        split <;> rfl

/-- What a received frame counts, and that a good one which is no presence message enters its pipeline. -/
theorem t1sFrameRx_does (bs : List Byte) (good : Bool) (takes : (s.t1sRuns n || s.t1sLast n) = true) (unsecured : s.secure (40 + n) = false) :
    let one (k : Nat) (t : State) : Prop :=
      t.rd F.LSL_T1S_CNT_COUNT (14 * n + k) = (s.rd F.LSL_T1S_CNT_COUNT (14 * n + k) + 1) % 2 ^ F.LSL_T1S_CNT_COUNT.width
    Does (.t1sFrameRx n bs good) s fun t =>
      if bs.length < 64 then one 3 t else if 1518 < bs.length then one 4 t else if good = false then one 2 t
      else one 0 t ∧ (s.presenceOf (40 + n) bs = none → s.recovering (pipeOf (40 + n)) = false →
        ∃ ts, t.flight = s.flight ++ [Flight.good (40 + n) bs ts]) := by
  intro one
  obtain ⟨apart, counts⟩ := s.t1sHeard_spec n
  have counted (k : Nat) (five : k ≠ 5) (six : k ≠ 6) : one k ((s.t1sHeard n).t1sCnt n k) :=
    (State.rd_t1sCnt_same ..).trans (by rw [counts k five six])
  refine ⟨_, exec_t1sFrameRx bs good takes unsecured, ?_⟩
  dsimp only
  split
  · exact counted 3 (by decide) (by decide)
  · split
    · exact counted 4 (by decide) (by decide)
    · split
      · exact counted 2 (by decide) (by decide)
      · refine ⟨(State.t1sTakesIn_counts ..).trans (by rw [counts 0 (by decide) (by decide)]), fun data live => ?_⟩
        obtain ⟨ts, flight⟩ := (s.t1sHeard n).t1sTakesIn_flight n bs ((apart.presenceOf _ bs (by decide)).trans data)
          ((apart.on F.PP_STAT_RECOVERING _ (by decide)).trans live)
        exact ⟨ts, by rw [flight, apart.flight]⟩

/-! ### Cycles and opportunities (R128) -/

theorem exec_t1sBeaconSend (runs : s.t1sRuns n = true) (plca : s.t1sCsma n = false) (coord : s.t1sCoord n = true) (ended : s.t1sCycleOver n = true) :
    exec (.t1sBeaconSend n) s = .next ((s.t1sSettle n).t1sCycle n) := by
  refine if_neg ?_
  rw [runs, coord, plca, ended]
  decide

theorem exec_t1sBeaconSend_early (goesOn : s.t1sCycleOver n = false) : exec (.t1sBeaconSend n) s = .next s := by
  refine if_pos ?_
  rw [goesOn]
  simp

theorem exec_t1sToTimer (runs : s.t1sRuns n = true) (plca : s.t1sCsma n = false) (idle : (s.t1sLane n).tx = none) :
    exec (.t1sToTimer n) s = .next (s.t1sOppEnd n) := by
  refine congrArg Host.Outcome.next (if_pos ?_)
  rw [runs, plca, idle]
  rfl

theorem exec_t1sBurstTimer (runs : s.t1sRuns n = true) (plca : s.t1sCsma n = false) :
    exec (.t1sBurstTimer n) s = .next ((s.t1sSettle n).t1sOppEnd n) := by
  refine if_neg ?_
  rw [runs, plca]
  decide

/-- The opportunity of `id`, begun or going on. -/
def State.t1sOpened (s : State) (n id : Nat) : State :=
  if (s.t1sLane n).opp = some id then s else s.setT1s n { s.t1sLane n with opp := some id, coming := some (id + 1), burst := 0 }

/-- In PLCA mode an opportunity that goes on or may begin is that of the lane, within its burst, or another node's. -/
theorem exec_t1sOpportunity_plca {id : BitVec 8} (runs : s.t1sRuns n = true) (idle : (s.t1sLane n).tx = none) (csma : s.t1sCsma n = false)
    (plca : s.t1sPlca n = true) (opens : (s.t1sLane n).opp = some id.toNat ∨ s.t1sOpens n id.toNat = true) :
    exec (.t1sOpportunity n id) s = .next (if id.toNat = s.rd F.LSL_T1S_PLCA_NODE_ID n
        ∧ ((s.t1sOpened n id.toNat).t1sLane n).burst ≤ s.rd F.LSL_T1S_PLCA_MAX_BC n
      then ((s.t1sOpened n id.toNat).t1sStart n).t1sShow n else s.t1sOpened n id.toNat) := by
  have awaited : ¬((s.t1sLane n).opp ≠ some id.toNat ∧ s.t1sOpens n id.toNat = false) := by
    rintro ⟨other, closed⟩
    rcases opens with same | opens
    · exact other same
    · rw [opens] at closed; exact absurd closed (by decide)
  have regs : (s.t1sOpened n id.toNat).regs = s.regs := by unfold State.t1sOpened; split <;> rfl
  change execT1sOpportunity n id s = _
  unfold execT1sOpportunity
  rw [runs, if_neg (by decide), s.t1sSettle_idle n idle]
  dsimp only
  rw [csma, if_neg (by decide), plca, if_neg (by decide), if_neg awaited]
  change Host.Outcome.next (if (decide (id.toNat = (s.t1sOpened n id.toNat).rd F.LSL_T1S_PLCA_NODE_ID n)
    && decide (((s.t1sOpened n id.toNat).t1sLane n).burst ≤ (s.t1sOpened n id.toNat).rd F.LSL_T1S_PLCA_MAX_BC n)) = true then _ else _) = _
  refine congrArg Host.Outcome.next (if_congr ?_ rfl rfl)
  rw [State.rd, State.rd, regs, Bool.and_eq_true, decide_eq_true_eq, decide_eq_true_eq]
  rfl

theorem exec_t1sOpportunity_closed {id : BitVec 8} (runs : s.t1sRuns n = true) (idle : (s.t1sLane n).tx = none) (csma : s.t1sCsma n = false)
    (plca : s.t1sPlca n = true) (other : (s.t1sLane n).opp ≠ some id.toNat) (closed : s.t1sOpens n id.toNat = false) :
    exec (.t1sOpportunity n id) s = .next s := by
  change execT1sOpportunity n id s = _
  unfold execT1sOpportunity
  rw [runs, if_neg (by decide), s.t1sSettle_idle n idle]
  dsimp only
  rw [csma, if_neg (by decide), plca, if_neg (by decide), if_pos ⟨other, closed⟩]

/-- In CSMA mode an idle lane outside back-off may start (R130). -/
theorem exec_t1sOpportunity_csma {id : BitVec 8} (runs : s.t1sRuns n = true) (idle : (s.t1sLane n).tx = none) (csma : s.t1sCsma n = true)
    (free : (s.t1sLane n).backoff = none) : exec (.t1sOpportunity n id) s = .next ((s.t1sStart n).t1sShow n) := by
  change execT1sOpportunity n id s = _
  unfold execT1sOpportunity
  rw [runs, if_neg (by decide), s.t1sSettle_idle n idle]
  dsimp only
  rw [csma, if_pos rfl, free]
  rfl

/-! ### BEACONs heard and lost (R128, R129, R132) -/

theorem exec_t1sBeaconRx_coord (runs : s.t1sRuns n = true) (coord : s.t1sCoord n = true) :
    exec (.t1sBeaconRx n) s = .next ((((s.t1sSettle n).evt F.LSL_T1S_STAT_DUP_COORD_EVT n).t1sCnt n 13).laneNote n) := by
  have still := ((s.t1sSettle_settled n).apart.t1sCoord n (by decide)).trans coord
  change execT1sBeaconRx n s = _
  unfold execT1sBeaconRx
  rw [runs, if_neg (by decide)]
  exact if_pos still

/-- A lane that has heard a BEACON: one in CSMA mode that may run PLCA goes back to it, and its back-off ends. -/
def State.t1sBack (s : State) (n : Nat) : State :=
  let s := s.setT1s n { s.t1sLane n with beacon := true }
  if s.t1sPlca n && s.t1sCsma n then
    ((s.setT1s n { s.t1sLane n with backoff := none, attempts := 0 }).t1sMode n false).evt F.LSL_T1S_STAT_BEACON_BACK_EVT n
  else s

/-- A follower that has heard a BEACON: a cycle opens. -/
def State.t1sBeaconSeen (s : State) (n : Nat) : State := (((s.t1sSettle n).t1sBack n).t1sCycle n).t1sShow n

theorem exec_t1sBeaconRx_follower (runs : s.t1sRuns n = true) (follows : s.t1sCoord n = false) :
    exec (.t1sBeaconRx n) s = .next ((s.t1sBeaconSeen n).laneLink n) := by
  have still := ((s.t1sSettle_settled n).apart.t1sCoord n (by decide)).trans follows
  change execT1sBeaconRx n s = _
  unfold execT1sBeaconRx
  rw [runs, if_neg (by decide)]
  exact if_neg (Bool.eq_false_iff.mp still)

/-- A follower that has lost the BEACON is in CSMA mode. -/
def State.t1sBeaconLost (s : State) (n : Nat) : State :=
  ((((s.t1sSettle n).t1sMode n true).evt F.LSL_T1S_STAT_BEACON_LOST_EVT n).t1sCnt n 12).laneNote n

theorem exec_beaconLoss (runs : s.t1sRuns n = true) (csma : s.t1sCsma n = false) (plca : s.t1sPlca n = true) (follows : s.t1sCoord n = false) :
    exec (.beaconLoss n) s = .next ((s.t1sBeaconLost n).laneLink n) := by
  refine if_neg ?_
  rw [runs, plca, follows, csma]
  decide

end

section
variable (s : State) (n : Nat)

/-- The fields that a BEACON heard may write before the link. -/
abbrev backFlds : List Fld := [F.LSL_T1S_STAT_MODE, F.LSL_T1S_STAT_BEACON_BACK_EVT, F.LSL_T1S_STAT_TX_PEND]

/-- A lane that sends nothing and hears a BEACON has seen it; one in CSMA mode that may run PLCA is back in it. -/
theorem State.t1sBack_spec (idle : (s.t1sLane n).tx = none) :
    T1sApart backFlds s (s.t1sBack n) ∧ ((s.t1sBack n).t1sLane n).beacon = true
    ∧ (s.t1sPlca n = true → s.t1sCsma n = true → (s.t1sBack n).rd F.LSL_T1S_STAT_MODE n = 0
        ∧ (s.t1sBack n).rd F.LSL_T1S_STAT_BEACON_BACK_EVT n = 1 ∧ ((s.t1sBack n).t1sLane n).backoff = none) := by
  have plca : (s.setT1s n { s.t1sLane n with beacon := true }).t1sPlca n = s.t1sPlca n := rfl
  have csma : (s.setT1s n { s.t1sLane n with beacon := true }).t1sCsma n = s.t1sCsma n := rfl
  have free : (((s.setT1s n { s.t1sLane n with beacon := true }).setT1s n
      { (s.setT1s n { s.t1sLane n with beacon := true }).t1sLane n with backoff := none, attempts := 0 }).t1sLane n).tx = none := by
    rw [State.t1sLane_setT1s_same, State.t1sLane_setT1s_same]
    exact idle
  unfold State.t1sBack
  dsimp only
  rw [plca, csma]
  split
  · refine ⟨(((T1sApart.refl.setT1s n _).setT1s n _).t1sMode n false (by decide)).wr F.LSL_T1S_STAT_BEACON_BACK_EVT n 1 (by decide), ?_⟩
    rw [State.t1sMode_idle _ n false free]
    refine ⟨?_, fun _ _ => ⟨?_, ?_, ?_⟩⟩
    · simp [State.evt_eq_wr, State.wrb_eq_wr]
    · simp [State.evt_eq_wr, State.wrb_eq_wr, State.rd_wr_fld, b2n]
    · simp [State.evt_eq_wr]
    · simp [State.evt_eq_wr, State.wrb_eq_wr]
  · next stays =>
    refine ⟨T1sApart.refl.setT1s n _, by simp, fun may on => ?_⟩
    rw [may, on] at stays
    exact absurd rfl stays

/-- The link of a lane that has seen a BEACON is up outside a restructure. -/
theorem State.laneLink_beacon (runs : s.t1sRuns n = true) (steady : s.portRestructuring (40 + n) = false) {t : State}
    (apart : T1sApart (settleFlds ++ backFlds) s t) (beacon : (t.t1sLane n).beacon = true) : (t.laneLink n).on F.LSL_T1S_STAT_LINK n = true := by
  simp only [State.t1sRuns, Bool.and_eq_true, decide_eq_true_eq, Bool.not_eq_true'] at runs
  obtain ⟨⟨pers, en⟩, here⟩ := runs
  have pers' : t.pers n = 2 := (apart.rd _ n (by decide)).trans pers
  have up : t.t1sLink n = true := by
    rw [State.t1sLink, apart.on _ n (by decide), en, apart.laneParked n steady (by decide), here, beacon, Bool.or_true, Bool.true_or]
    rfl
  rw [State.laneLink, if_pos pers', State.linkTo, up, if_neg (by simp)]
  split
  · simp [State.queuesUp, State.on, State.rd_wr_fld]
  · next on => simpa using on

/-- What a follower shows and keeps when it loses the BEACON. -/
theorem State.t1sBeaconLost_spec :
    let t := (s.t1sBeaconLost n).laneLink n
    t.rd F.LSL_T1S_STAT_MODE n = 1 ∧ t.rd F.LSL_T1S_STAT_BEACON_LOST_EVT n = 1
    ∧ t.rd F.LSL_T1S_CNT_COUNT (14 * n + 12) = (s.rd F.LSL_T1S_CNT_COUNT (14 * n + 12) + 1) % 2 ^ F.LSL_T1S_CNT_COUNT.width
    ∧ (t.t1sLane n).beacon = (s.t1sLane n).beacon ∧ t.Noted n := by
  have settled := s.t1sSettle_settled n
  have linked := (s.t1sBeaconLost n).laneLink_apart n
  have noted : (s.t1sBeaconLost n).Noted n := State.laneNote_noted _ n
  dsimp only
  rw [linked.rd _ n (by decide), linked.rd _ n (by decide), linked.rd _ _ (by decide), State.t1sLane_laneLink]
  refine ⟨?_, ?_, ?_, ?_, noted.of_transit (State.laneLink_transit _ n)⟩ <;> rw [State.t1sBeaconLost, State.t1sMode_idle _ n true settled.tx]
  · simp [State.t1sCnt, State.bump_eq_wr, State.evt_eq_wr, State.wrb_eq_wr, State.rd_wr_fld, b2n]
  · simp [State.t1sCnt, State.bump_eq_wr, State.evt_eq_wr, State.rd_wr_fld]
  · rw [State.rd_laneNote, State.rd_t1sCnt_same, State.evt_eq_wr, State.rd_wr_fld _ _ _ _ _ _ (by decide), State.wrb_eq_wr,
      State.rd_wr_fld _ _ _ _ _ _ (by decide), State.rd_setT1s, settled.counts 12 (by decide) (by decide)]
  · exact (congrArg T1sLane.beacon (State.t1sLane_setT1s_same ..)).trans settled.beacon

/-- What a follower shows when it hears a BEACON. -/
theorem State.t1sBeaconSeen_spec :
    let t := (s.t1sBeaconSeen n).laneLink n
    (t.t1sLane n).beacon = true ∧ (t.t1sLane n).opp = none ∧ (t.t1sLane n).coming = some 0
    ∧ (s.t1sRuns n = true → s.portRestructuring (40 + n) = false → t.on F.LSL_T1S_STAT_LINK n = true)
    ∧ (s.t1sPlca n = true → s.t1sCsma n = true → (s.t1sLane n).switchTo = none →
      t.rd F.LSL_T1S_STAT_MODE n = 0 ∧ t.rd F.LSL_T1S_STAT_BEACON_BACK_EVT n = 1 ∧ (t.t1sLane n).backoff = none) := by
  have settled := s.t1sSettle_settled n
  obtain ⟨back, beacon, inCsma⟩ := (s.t1sSettle n).t1sBack_spec n settled.tx
  have seen : T1sApart (settleFlds ++ backFlds) s (s.t1sBeaconSeen n) :=
    ((settled.apart.mono (by decide)).trans (back.mono (by decide))).wr F.LSL_T1S_STAT_TX_PEND n _ (by decide)
  have lane : (s.t1sBeaconSeen n).t1sLane n = { ((s.t1sSettle n).t1sBack n).t1sLane n with opp := none, coming := some 0, burst := 0 } := by
    rw [State.t1sBeaconSeen, State.t1sLane_t1sShow, State.t1sCycle, State.t1sLane_setT1s_same]
  have linked := (s.t1sBeaconSeen n).laneLink_apart n
  have shown (f : Fld) (hf : f.id ≠ F.LSL_T1S_STAT_TX_PEND.id) : (s.t1sBeaconSeen n).rd f n = ((s.t1sSettle n).t1sBack n).rd f n :=
    State.rd_wr_fld _ _ _ _ _ _ hf
  dsimp only
  rw [State.t1sLane_laneLink, lane]
  refine ⟨beacon, rfl, rfl, fun runs steady => s.laneLink_beacon n runs steady seen (by rw [lane]; exact beacon), fun plca csma stays => ?_⟩
  obtain ⟨mode, evt, backoff⟩ := inCsma ((settled.apart.t1sPlca n (by decide)).trans plca)
    ((congrArg (fun v : Nat => decide (v ≠ 0)) (settled.mode stays)).trans csma)
  rw [linked.rd _ n (by decide), linked.rd _ n (by decide), shown _ (by decide), shown _ (by decide)]
  exact ⟨mode, evt, backoff⟩

end
end Sys2Proof.Machine
end

section
/-! SUPPORT. The frame that a T1S lane starts (spec 06 R127, R128), and collisions (R130, R131). -/
namespace Sys2Proof.Machine

/-! ### The frame that a lane starts -/

section
variable {s : State} {n : Nat}

/-- The presence message that waits goes out first. -/
theorem State.t1sStart_presence {b : List Byte} (unsecured : s.secure (40 + n) = false) (due : (s.t1sLane n).presDue = some b) :
    s.t1sStart n = s.setT1s n { s.t1sLane n with
      presDue := none, burst := (s.t1sLane n).burst + 1, tx := some ⟨320 + 4 * n, none, 131072, CopyEd.none, withFcs b, none⟩, txSnap := s.snap } := by
  unfold State.t1sStart
  rw [unsecured, if_neg (by decide)]
  dsimp only
  rw [due]

/-- Class `c` is looked at unless a class before it has given a frame. -/
def State.t1sPick (n : Nat) (acc : State × Bool) (c : Nat) : State × Bool :=
  if acc.2 then acc
  else match acc.1.t1sHead n c (acc.1.qLen (320 + 4 * n + c)) with
    | (t, some (e, r)) =>
      let t := t.t1sTake n (320 + 4 * n + c) e r
      (t.setT1s n { t.t1sLane n with burst := (t.t1sLane n).burst + 1 }, true)
    | (t, none) => (t, false)

theorem State.t1sStart_queues (unsecured : s.secure (40 + n) = false) (alone : (s.t1sLane n).presDue = none) :
    s.t1sStart n = ([3, 2, 1, 0].foldl (State.t1sPick n) (s, false)).1 := by
  unfold State.t1sStart
  rw [unsecured, if_neg (by decide)]
  dsimp only
  rw [alone]
  rfl

/-- The class 3 head `e` of a lane is whole, fit to send, and not too long (R127). -/
structure T1sHead (s : State) (n : Nat) (e : QEnt) (f : Frame) : Prop where
  head : ∃ r, (s.queue (laneQueue n 3)).head = e :: r
  whole : s.frames.find e.first = some f
  fresh : s.tooOld (40 + n) f.epoch = false
  sound : f.damaged = false
  short : (s.egressBytes s.snap (40 + n) f e.ed).2.length ≤ 1518

theorem T1sHead.t1sHead {e : QEnt} {f : Frame} (fit : T1sHead s n e f) (isLane : n < 24) :
    s.t1sHead n 3 (s.qLen (laneQueue n 3)) = (s, some (e, s.egressBytes s.snap (40 + n) f e.ed)) := by
  obtain ⟨⟨r, head⟩, whole, fresh, sound, short⟩ := fit
  have egress : queueEgress (laneQueue n 3) = 40 + n := by
    rw [queueEgress, laneQueue, if_neg (by omega), if_pos (by omega)]; omega
  have filled : s.qLen (laneQueue n 3) = (r.length + (s.queue (laneQueue n 3)).mid.length + (s.queue (laneQueue n 3)).tail.length) + 1 := by
    rw [State.qLen, head, List.length_cons]; omega
  rw [filled, State.t1sHead]
  dsimp only
  rw [State.pruned_head head whole (by rw [egress]; exact fresh) sound, State.headOf_head head whole]
  exact if_neg (Nat.not_lt.2 short)

theorem T1sHead.t1sPick {e : QEnt} {f : Frame} (fit : T1sHead s n e f) (isLane : n < 24) :
    let t := s.t1sTake n (laneQueue n 3) e (s.egressBytes s.snap (40 + n) f e.ed)
    State.t1sPick n (s, false) 3 = (t.setT1s n { t.t1sLane n with burst := (t.t1sLane n).burst + 1 }, true) := by
  rw [State.t1sPick, if_neg Bool.false_ne_true]
  dsimp only
  rw [fit.t1sHead isLane]

/-- Without a presence message the class 3 head is sent, as it leaves the lane. -/
theorem T1sHead.t1sStart {e : QEnt} {f : Frame} (fit : T1sHead s n e f) (isLane : n < 24) (unsecured : s.secure (40 + n) = false)
    (alone : (s.t1sLane n).presDue = none) : ∃ x, ((s.t1sStart n).t1sLane n).tx = some x ∧ x.q = laneQueue n 3 ∧ x.ent = some e
      ∧ x.bytes = (s.egressBytes s.snap (40 + n) f e.ed).2 := by
  have rest (t : State) : [2, 1, 0].foldl (State.t1sPick n) (t, true) = (t, true) := rfl
  rw [State.t1sStart_queues unsecured alone, List.foldl_cons, fit.t1sPick isLane, rest, State.t1sLane_setT1s_same, State.t1sTake,
    State.t1sLane_setT1s_same]
  exact ⟨_, rfl, rfl, rfl, rfl⟩

end

/-- What a lane that starts sends in a state that differs from `s` in its T1S lanes alone. -/
theorem State.t1sStart_spec {s u : State} {n : Nat} (isLane : n < 24) (same : u.offBus = s.offBus)
    (pres : (u.t1sLane n).presDue = (s.t1sLane n).presDue) (unsecured : s.secure (40 + n) = false) :
    let t := (u.t1sStart n).t1sShow n
    (∀ b, (s.t1sLane n).presDue = some b → (t.t1sLane n).tx = some ⟨320 + 4 * n, none, 131072, CopyEd.none, withFcs b, none⟩
      ∧ (t.t1sLane n).presDue = none)
    ∧ ∀ e f, (s.t1sLane n).presDue = none → T1sHead s n e f →
      ∃ x, (t.t1sLane n).tx = some x ∧ x.q = laneQueue n 3 ∧ x.ent = some e ∧ x.bytes = (s.egressBytes s.snap (40 + n) f e.ed).2 := by
  have unsecured' : u.secure (40 + n) = false := (congrArg (fun q => State.secure q (40 + n)) same).trans unsecured
  refine ⟨fun b due => ?_, fun e f alone fit => ?_⟩
  · rw [State.t1sLane_t1sShow, State.t1sStart_presence unsecured' (pres.trans due), State.t1sLane_setT1s_same]
    exact ⟨rfl, rfl⟩
  · obtain ⟨⟨r, head⟩, whole, fresh, sound, short⟩ := fit
    have bytes : u.egressBytes u.snap (40 + n) f e.ed = s.egressBytes s.snap (40 + n) f e.ed :=
      (congrArg (fun q => State.egressBytes q q.snap (40 + n) f e.ed) same :)
    have fit' : T1sHead u n e f :=
      ⟨⟨r, (congrArg (fun q => (State.queue q (laneQueue n 3)).head) same).trans head⟩,
        (congrArg (fun q => (State.frames q).find e.first) same).trans whole,
        (congrArg (fun q => State.tooOld q (40 + n) f.epoch) same).trans fresh, sound, by rw [bytes]; exact short⟩
    rw [State.t1sLane_t1sShow, ← bytes]
    exact fit'.t1sStart isLane unsecured' (pres.trans alone)

/-- An idle lane may start in CSMA mode outside back-off, and in its own opportunity: one that goes on within its burst, or one that begins. -/
def State.t1sMayStart (s : State) (n id : Nat) : Prop :=
  (s.t1sCsma n = true ∧ (s.t1sLane n).backoff = none)
  ∨ (s.t1sCsma n = false ∧ s.t1sPlca n = true ∧ id = s.rd F.LSL_T1S_PLCA_NODE_ID n
    ∧ if (s.t1sLane n).opp = some id then (s.t1sLane n).burst ≤ s.rd F.LSL_T1S_PLCA_MAX_BC n else s.t1sOpens n id = true)

/-- A lane that may start does so, in a state that differs in its T1S lanes alone. -/
theorem exec_t1sOpportunity_starts {s : State} {n : Fin 24} {id : BitVec 8} (runs : s.t1sRuns n = true) (idle : (s.t1sLane n).tx = none)
    (may : s.t1sMayStart n id.toNat) : ∃ u : State, exec (.t1sOpportunity n id) s = .next ((u.t1sStart n).t1sShow n)
      ∧ u.offBus = s.offBus ∧ (u.t1sLane n).presDue = (s.t1sLane n).presDue := by
  rcases may with ⟨csma, free⟩ | ⟨plcaMode, plca, own, turn⟩
  · exact ⟨s, exec_t1sOpportunity_csma runs idle csma free, rfl, rfl⟩
  · have opens : (s.t1sLane n).opp = some id.toNat ∨ s.t1sOpens n id.toNat = true := by
      split at turn
      · next goesOn => exact .inl goesOn
      · exact .inr turn
    have opened : ((s.t1sOpened n id.toNat).t1sLane n).burst ≤ s.rd F.LSL_T1S_PLCA_MAX_BC n ∧ (s.t1sOpened n id.toNat).offBus = s.offBus
        ∧ ((s.t1sOpened n id.toNat).t1sLane n).presDue = (s.t1sLane n).presDue := by
      unfold State.t1sOpened
      split at turn
      · next goesOn => rw [if_pos goesOn]; exact ⟨turn, rfl, rfl⟩
      · next begins => rw [if_neg begins, State.t1sLane_setT1s_same]; exact ⟨Nat.zero_le _, rfl, rfl⟩
    obtain ⟨within, same, pres⟩ := opened
    exact ⟨_, (exec_t1sOpportunity_plca runs idle plcaMode plca opens).trans (congrArg Host.Outcome.next (if_pos ⟨own, within⟩)), same, pres⟩

/-! ### Collisions (R130, R131) -/

section
variable (s : State) (n : Nat)

/-- The counter of collisions in CSMA mode, or in PLCA mode. -/
def collCnt (csma : Bool) : Nat := if csma then 10 else 11

/-- The frame returns to its queue after attempt `k` and, in CSMA mode, waits for `r` mod 2^min(k, 10) times 512 bit times. -/
def State.t1sBackOff (s : State) (n k r : Nat) (csma : Bool) : State :=
  let s := s.t1sReturn n
  s.setT1s n { s.t1sLane n with attempts := k, opp := none, backoff := if csma then some (r % 2 ^ min k 10 * 512) else none }

/-- The lane that is sending `x` has met another collision: the frame is retried, or given up after its 16th attempt. -/
def State.t1sCollided (s : State) (n : Nat) (x : Tx) (r : Nat) : State :=
  let t := s.t1sCnt n (collCnt (s.t1sCsma n))
  (if (s.t1sLane n).attempts + 1 < 16 then t.t1sBackOff n ((s.t1sLane n).attempts + 1) r (s.t1sCsma n) else t.t1sAbandon n x).t1sEnded n

theorem exec_t1sCollision {s : State} {n : Fin 24} {x : Tx} (r : BitVec 10) (runs : s.t1sRuns n = true) (sends : (s.t1sLane n).tx = some x) :
    exec (.t1sCollision n r) s = .next (s.t1sCollided n x r.toNat) := by
  change execT1sCollision n r s = _
  unfold execT1sCollision
  dsimp only
  rw [sends]
  dsimp only
  rw [runs, Bool.true_or, if_neg (by decide), State.t1sCollided]
  by_cases again : (s.t1sLane n).attempts + 1 < 16
  · rw [if_neg (by omega), if_pos again]; rfl
  · rw [if_pos (by omega), if_neg again]; rfl

/-- A frame that the lane was sending returns to the head of its queue. -/
theorem State.t1sReturn_spec {x : Tx} (sends : (s.t1sLane n).tx = some x) :
    T1sApart [] s (s.t1sReturn n) ∧ ((s.t1sReturn n).t1sLane n).tx = none
    ∧ ∀ e, x.ent = some e → ((s.t1sReturn n).queue x.q).head = e :: (s.queue x.q).head := by
  unfold State.t1sReturn
  dsimp only
  rw [sends]
  dsimp only
  cases ent : x.ent with
  | none =>
    refine ⟨(T1sApart.refl.setT1s n _).setT1s n _, ?_, fun e no => nomatch no⟩
    rw [State.t1sLane_setT1s_same, State.t1sLane_setT1s_same]
  | some e =>
    refine ⟨(T1sApart.refl.setT1s n _).putBack _ _, ?_, fun e' is => ?_⟩
    · exact congrArg T1sLane.tx (State.t1sLane_setT1s_same ..)
    · cases is
      exact congrArg Queue.head (State.queue_setQueue_same ..)

theorem State.t1sBackOff_spec {x : Tx} (k r : Nat) (csma : Bool) (sends : (s.t1sLane n).tx = some x) :
    let t := s.t1sBackOff n k r csma
    T1sApart [] s t ∧ (t.t1sLane n).tx = none ∧ (t.t1sLane n).attempts = k
    ∧ (t.t1sLane n).backoff = (if csma then some (r % 2 ^ min k 10 * 512) else none)
    ∧ ∀ e, x.ent = some e → (t.queue x.q).head = e :: (s.queue x.q).head := by
  obtain ⟨apart, tx, head⟩ := s.t1sReturn_spec n sends
  dsimp only
  rw [State.t1sBackOff]
  dsimp only
  rw [State.t1sLane_setT1s_same]
  exact ⟨apart, tx, rfl, rfl, head⟩

/-- The frame `x` dropped after its last attempt, before its lane's counters. -/
def State.t1sDropped (s : State) (n : Nat) (x : Tx) : State :=
  let s := s.setT1s n { s.t1sLane n with tx := none, attempts := 0, backoff := none }
  match x.ent with | some e => (s.qcnt x.q 1).finish e (!s.deep x.q) | none => s

theorem State.t1sDropped_spec (x : Tx) : T1sApart queueFlds s (s.t1sDropped n x)
    ∧ (s.t1sDropped n x).t1sLane n = { s.t1sLane n with tx := none, attempts := 0, backoff := none } := by
  have lane := s.t1sLane_setT1s_same n { s.t1sLane n with tx := none, attempts := 0, backoff := none }
  unfold State.t1sDropped
  dsimp only
  split
  · next e _ =>
    have left (t : State) (pooled : Bool) : Apart queueFlds t ((t.qcnt x.q 1).finish e pooled) :=
      (QueueOnly.refl.wr F.QUE_CNT_COUNT _ _ (by decide) |>.trans (State.finish_queueOnly _ e pooled)).apart
    exact ⟨(T1sApart.refl.setT1s n _).trans (left _ _).t1sApart, (congrArg (fun c => Tbl.get c T1sLane.init n) (left _ _).t1s :).trans lane⟩
  · exact ⟨T1sApart.refl.setT1s n _, lane⟩

/-- A frame abandoned counts as sent without success and as an excessive collision, with the event and a note. -/
theorem State.t1sAbandon_spec (x : Tx) :
    let t := s.t1sAbandon n x
    (t.t1sLane n).tx = none ∧ (t.t1sLane n).attempts = 0 ∧ t.rd F.LSL_T1S_STAT_EXC_COLL_EVT n = 1 ∧ t.Noted n
    ∧ (∀ k ∈ [8, 9], t.rd F.LSL_T1S_CNT_COUNT (14 * n + k) = (s.rd F.LSL_T1S_CNT_COUNT (14 * n + k) + 1) % 2 ^ F.LSL_T1S_CNT_COUNT.width)
    ∧ ∀ k, k ∉ [8, 9] → t.rd F.LSL_T1S_CNT_COUNT (14 * n + k) = s.rd F.LSL_T1S_CNT_COUNT (14 * n + k) := by
  obtain ⟨dropped, lane⟩ := s.t1sDropped_spec n x
  have drained := (State.drainService_queueOnly (((((s.t1sDropped n x).t1sCnt n 8).t1sCnt n 9).evt F.LSL_T1S_STAT_EXC_COLL_EVT n).laneNote n)).apart
  have is : s.t1sAbandon n x = (((((s.t1sDropped n x).t1sCnt n 8).t1sCnt n 9).evt F.LSL_T1S_STAT_EXC_COLL_EVT n).laneNote n).drainService := rfl
  have lane' : (s.t1sAbandon n x).t1sLane n = { s.t1sLane n with tx := none, attempts := 0, backoff := none } := by
    rw [is, State.t1sLane, drained.t1s]; exact lane
  have cnt (k : Nat) : (s.t1sAbandon n x).rd F.LSL_T1S_CNT_COUNT (14 * n + k)
      = (((s.t1sDropped n x).t1sCnt n 8).t1sCnt n 9).rd F.LSL_T1S_CNT_COUNT (14 * n + k) := by
    rw [is, drained.rd _ _ (by decide), State.rd_laneNote, State.evt_eq_wr, State.rd_wr_fld _ _ _ _ _ _ (by decide)]
  have before (k : Nat) := dropped.rd F.LSL_T1S_CNT_COUNT (14 * n + k) (by decide)
  refine ⟨by rw [lane'], by rw [lane'], ?_, ?_, fun k hk => ?_, fun k hk => ?_⟩
  · rw [is, drained.rd _ _ (by decide), State.rd_laneNote, State.rd_evt _ _ _ (by decide)]
  · rw [is]; exact (State.laneNote_noted _ n).of_transit (State.drainService_transit _)
  · rw [cnt, ← before]
    obtain rfl | rfl : k = 8 ∨ k = 9 := by simpa using hk
    · rw [State.rd_t1sCnt_ne _ _ (by decide), State.rd_t1sCnt_same]
    · rw [State.rd_t1sCnt_same, State.rd_t1sCnt_ne _ _ (by decide)]
  · obtain ⟨eight, nine⟩ : k ≠ 8 ∧ k ≠ 9 := by simpa using hk
    rw [cnt, State.rd_t1sCnt_ne _ _ nine, State.rd_t1sCnt_ne _ _ eight, before]

/-- A frame that is retried has counted its collision and waits at the head of its queue. -/
theorem State.t1sCollided_again {x : Tx} (r : Nat) (sends : (s.t1sLane n).tx = some x) (again : (s.t1sLane n).attempts + 1 < 16) :
    let t := s.t1sCollided n x r
    t.rd F.LSL_T1S_CNT_COUNT (14 * n + collCnt (s.t1sCsma n))
      = (s.rd F.LSL_T1S_CNT_COUNT (14 * n + collCnt (s.t1sCsma n)) + 1) % 2 ^ F.LSL_T1S_CNT_COUNT.width
    ∧ (t.t1sLane n).tx = none ∧ (t.t1sLane n).attempts = (s.t1sLane n).attempts + 1
    ∧ (t.t1sLane n).backoff = (if s.t1sCsma n then some (r % 2 ^ min ((s.t1sLane n).attempts + 1) 10 * 512) else none)
    ∧ ∀ e, x.ent = some e → (t.queue x.q).head = e :: (s.queue x.q).head := by
  dsimp only
  rw [State.t1sCollided]
  rw [if_pos again, ← s.rd_t1sCnt_same]
  generalize sent : s.t1sCnt n (collCnt (s.t1sCsma n)) = u
  have sends' : (u.t1sLane n).tx = some x := by rw [← sent]; exact sends
  have queued : u.queue x.q = s.queue x.q := by rw [← sent]; rfl
  obtain ⟨apart, tx, attempts, backoff, head⟩ := u.t1sBackOff_spec n ((s.t1sLane n).attempts + 1) r (s.t1sCsma n) sends'
  generalize u.t1sBackOff n ((s.t1sLane n).attempts + 1) r (s.t1sCsma n) = v at *
  obtain ⟨ended, lane, queue, -⟩ := v.t1sEnded_spec n tx
  obtain ⟨tx', -, attempts', backoff'⟩ := (v.t1sLane n).ended_spec
  rw [lane, queue, ended.rd _ _ (by decide), apart.rd _ _ (by decide), tx', attempts', backoff', ← queued]
  exact ⟨rfl, tx, attempts, backoff, head⟩

/-- A frame that is given up has counted its collision, itself and its end. -/
theorem State.t1sCollided_last {x : Tx} (r : Nat) (last : ¬(s.t1sLane n).attempts + 1 < 16) :
    let t := s.t1sCollided n x r
    (∀ k ∈ [collCnt (s.t1sCsma n), 8, 9],
      t.rd F.LSL_T1S_CNT_COUNT (14 * n + k) = (s.rd F.LSL_T1S_CNT_COUNT (14 * n + k) + 1) % 2 ^ F.LSL_T1S_CNT_COUNT.width)
    ∧ (t.t1sLane n).tx = none ∧ t.rd F.LSL_T1S_STAT_EXC_COLL_EVT n = 1 ∧ (t.t1sLane n).attempts = 0 ∧ t.Noted n := by
  have apart : collCnt (s.t1sCsma n) ∉ [8, 9] := by cases s.t1sCsma n <;> decide
  have same := s.rd_t1sCnt_same n (collCnt (s.t1sCsma n))
  have other (k : Nat) (hk : k ∈ [8, 9]) := s.rd_t1sCnt_ne n (k := collCnt (s.t1sCsma n)) (j := k) fun is => apart (is ▸ hk)
  dsimp only
  rw [State.t1sCollided]
  rw [if_neg last]
  generalize s.t1sCnt n (collCnt (s.t1sCsma n)) = u at *
  obtain ⟨tx, attempts, evt, note, counts, others⟩ := u.t1sAbandon_spec n x
  generalize u.t1sAbandon n x = v at *
  obtain ⟨ended, lane, -, transit, -⟩ := v.t1sEnded_spec n tx
  obtain ⟨tx', -, attempts', -⟩ := (v.t1sLane n).ended_spec
  refine ⟨fun k hk => ?_, by rw [lane, tx', tx], by rw [ended.rd _ _ (by decide), evt], by rw [lane, attempts', attempts], note.of_transit transit⟩
  rw [ended.rd _ _ (by decide)]
  rcases List.mem_cons.1 hk with rfl | hk
  · rw [others _ apart, same]
  · rw [counts k hk, other k hk]

end
end Sys2Proof.Machine
end

section
/-! SUPPORT. The statements about T1S lanes. -/
namespace Sys2Proof
open Sys2Proof.Machine

/-- Settles O26: the event, the counter and the note follow the frame that was being sent (`t1sSettle_settled`), and none writes what makes the
lane coordinator. -/
theorem t1sDuplicateCoordinatorRemains : Obligations.T1sDuplicateCoordinatorRemains := by
  unfold Obligations.T1sDuplicateCoordinatorRemains
  intro s n
  refine ⟨bltDefaultClass_lane n, fun runs coord => ?_⟩
  have settled := s.t1sSettle_settled n
  have apart : T1sApart (F.LSL_T1S_STAT_DUP_COORD_EVT :: settleFlds) s (((s.t1sSettle n).evt F.LSL_T1S_STAT_DUP_COORD_EVT n).t1sCnt n 13) :=
    ((settled.apart.mono (by decide)).wr F.LSL_T1S_STAT_DUP_COORD_EVT n 1 (by decide)).wr F.LSL_T1S_CNT_COUNT _ _ (by decide)
  refine ⟨_, exec_t1sBeaconRx_coord runs coord, ?_, ?_, State.laneNote_noted _ n, ((apart.laneNote n).t1sCoord n (by decide)).trans coord⟩
  · exact (State.rd_wr_fld _ _ _ _ _ _ (by decide)).trans (State.rd_wr_same ..)
  · refine (State.rd_t1sCnt_same _ _ _).trans ?_
    rw [State.evt_eq_wr, State.rd_wr_fld _ _ _ _ _ _ (by decide), settled.counts 13 (by decide) (by decide)]

/-- Settles O27: a frame that was being sent ends first (`t1sSettle_settled`); a received one is `t1sFrameRx_does`, a BEACON lost or heard
`t1sBeaconLost_spec` and `t1sBeaconSeen_spec`, a start `t1sStart_spec`, and a collision `t1sCollided_again` or `t1sCollided_last`. -/
theorem t1sLanesTakeTurnsAndCollide : Obligations.T1sLanesTakeTurnsAndCollide := by
  unfold Obligations.T1sLanesTakeTurnsAndCollide
  intro s n bs good level id r l one noted mine again
  have settled := s.t1sSettle_settled n
  refine ⟨t1sFrameRx_does bs good, fun runs => ⟨fun plcaMode => ⟨fun coord ended => ?_, exec_t1sBeaconSend_early,
    fun idle => ⟨_, exec_t1sToTimer runs plcaMode idle, rfl⟩, ?_, fun plca follows => ⟨_, exec_beaconLoss runs plcaMode plca follows, s.t1sBeaconLost_spec n⟩,
    fun idle plca other closed => exec_t1sOpportunity_closed runs idle plcaMode plca (of_decide_eq_false other) closed,
    fun idle plca other opens foreign => ?_⟩, fun follows => ?_, fun idle unsecured may => ?_, fun x sends => ?_⟩, ?_, fun isT1s => ⟨?_, fun low => ?_⟩⟩
  · refine ⟨_, exec_t1sBeaconSend runs plcaMode coord ended, ?_⟩
    dsimp only
    rw [State.t1sCycle, State.t1sLane_setT1s_same]
    exact ⟨settled.tx, rfl, rfl, rfl⟩
  · refine ⟨_, exec_t1sBurstTimer runs plcaMode, ?_⟩
    dsimp only
    rw [State.t1sOppEnd, State.t1sLane_setT1s_same]
    exact ⟨settled.tx, rfl, rfl, settled.sent⟩
  · have elsewhere : id.toNat ≠ s.rd F.LSL_T1S_PLCA_NODE_ID n := fun same => by simp [mine, plca, same] at foreign
    refine ⟨_, (exec_t1sOpportunity_plca runs idle plcaMode plca (.inr opens)).trans (congrArg Host.Outcome.next (if_neg fun h => elsewhere h.1)), ?_⟩
    exact if_neg (of_decide_eq_false other)
  · obtain ⟨beacon, opp, coming, link, back⟩ := s.t1sBeaconSeen_spec n
    exact ⟨_, exec_t1sBeaconRx_follower runs follows, beacon, opp, coming, link runs, back⟩
  · have starts : s.t1sMayStart n id.toNat := by simpa [State.t1sMayStart, mine, again, and_assoc] using may
    obtain ⟨u, is, same, pres⟩ := exec_t1sOpportunity_starts runs idle starts
    obtain ⟨presence, queued⟩ := State.t1sStart_spec n.isLt same pres unsecured
    refine ⟨_, is, presence, fun e f q alone head whole fresh sound short => ?_⟩
    rw [show 323 + 4 * n.val = laneQueue n 3 by unfold laneQueue; omega] at head ⊢
    exact queued e f alone ⟨⟨q, head⟩, whole, fresh, sound, short⟩
  · refine ⟨_, exec_t1sCollision r runs sends, ?_⟩
    by_cases retry : l.attempts + 1 < 16
    · obtain ⟨counted, tx, rest⟩ := s.t1sCollided_again n r.toNat sends retry
      exact ⟨counted, tx, (if_pos retry).mpr rest⟩
    · obtain ⟨counted, tx, rest⟩ := s.t1sCollided_last n (x := x) r.toNat retry
      exact ⟨counted _ (List.mem_cons_self ..), tx, (if_neg retry).mpr ⟨counted 8 (by simp), counted 9 (by simp), rest⟩⟩
  · refine ⟨_, rfl, ?_, RegsBut.wr (RegsBut.of_regs rfl) _ _ _ (by decide)⟩
    rw [State.t1sLane_t1sShow, State.t1sLane_setT1s_same]
  · refine ⟨_, if_neg (not_not.2 isT1s), ?_⟩
    have shown : (s.wrb F.LSL_T1S_STAT_ED n level).rd F.LSL_T1S_STAT_ED n = b2n level := (State.rd_wr_same ..).trans (b2n_mod_two level)
    cases level with
    | true =>
      refine ⟨((State.laneLink_apart _ n).rd _ n (by decide)).trans shown, ?_⟩
      dsimp only
      rw [if_pos rfl, State.t1sLane_laneLink, State.t1sLane_setT1s_same]
      rfl
    | false => exact ⟨shown, rfl⟩
  · refine ⟨_, congrArg Host.Outcome.next (if_pos ⟨isT1s, low⟩), ?_⟩
    dsimp only
    rw [State.t1sLane_laneLink, State.t1sLane_setT1s_same]

end Sys2Proof
end

section
/-! SUPPORT. Master frames that an MVB lane hears (spec 06 R137, R138, R141). -/
namespace Sys2Proof.Machine

section
variable (s : State) (n : Nat)

theorem State.rd_mvbCnt_same (k : Nat) :
    (s.mvbCnt n k).rd F.LSL_MVB_CNT_COUNT (10 * n + k) = (s.rd F.LSL_MVB_CNT_COUNT (10 * n + k) + 1) % 2 ^ F.LSL_MVB_CNT_COUNT.width :=
  State.rd_wr_same ..

theorem State.rd_mvbCnt_ne {k j : Nat} (other : j ≠ k) :
    (s.mvbCnt n k).rd F.LSL_MVB_CNT_COUNT (10 * n + j) = s.rd F.LSL_MVB_CNT_COUNT (10 * n + j) := s.rd_wr_elem _ _ _ _ _ (by omega)

/-- A time-stamp changes what time-stamps hold and show, alone. -/
theorem State.mvbStamp_queueOnly : QueueOnly s (s.mvbStamp n) :=
  (s.captureAt_queueOnly s.snap false (40 + n) (s.capMask.get 0 (40 + n)) (s.laneComp n 250)).trans (State.tsDone_queueOnly _ _)

/-- The lane's answer to a master frame changes its counter of mismatches and the lane, which awaits the reply (R137). -/
theorem State.mvbAnswer_spec (f a : Nat) : ∃ x : MvbLane, x.waiting = some (4096 * f + a)
    ∧ s.mvbAnswer n f a = (if s.mvbOther n f a then s.mvbCnt n 7 else s).setMvb n x := by
  unfold State.mvbAnswer
  dsimp only
  generalize (if s.mvbOther n f a then s.mvbCnt n 7 else s) = t
  split
  · exact ⟨_, rfl, rfl⟩
  · split
    · refine ⟨_, ?_, rfl⟩
      split <;> rfl
    · exact ⟨_, rfl, rfl⟩

/-- Beside the lane an answer changes the counter of mismatches alone, and sends no report. -/
theorem State.mvbAnswer_leaves (f a : Nat) : RegsBut [F.LSL_MVB_CNT_COUNT] s (s.mvbAnswer n f a)
    ∧ (s.mvbAnswer n f a).transit = s.transit
    ∧ ∀ k, k ≠ 7 → (s.mvbAnswer n f a).rd F.LSL_MVB_CNT_COUNT (10 * n + k) = s.rd F.LSL_MVB_CNT_COUNT (10 * n + k) := by
  obtain ⟨x, -, is⟩ := s.mvbAnswer_spec n f a
  rw [is]
  split
  · exact ⟨(RegsBut.refl.wr F.LSL_MVB_CNT_COUNT _ _ (by decide)).trans (RegsBut.of_regs rfl), rfl, fun k other => s.rd_mvbCnt_ne n other⟩
  · exact ⟨RegsBut.of_regs rfl, rfl, fun _ _ => rfl⟩

/-- The lane with a good master frame counted, stamped and heard. -/
def State.mvbHeard (s : State) (n : Nat) : State :=
  let s := ((s.mvbCnt n 0).mvbStamp n).laneTook n
  s.setMvb n { s.mvbLane n with heard := true }

theorem State.mvbHeard_spec : RegsBut (F.LSL_MVB_CNT_COUNT :: queueFlds) s (s.mvbHeard n)
    ∧ ∀ k, k ≠ 0 → (s.mvbHeard n).rd F.LSL_MVB_CNT_COUNT (10 * n + k) = s.rd F.LSL_MVB_CNT_COUNT (10 * n + k) := by
  have stamped := (State.mvbStamp_queueOnly (s.mvbCnt n 0) n).apart
  have regs : (s.mvbHeard n).regs = ((s.mvbCnt n 0).mvbStamp n).regs := State.laneTook_regs _ n
  refine ⟨((RegsBut.refl.wr F.LSL_MVB_CNT_COUNT _ _ (by decide)).trans (stamped.regsBut.mono (by decide))).trans (RegsBut.of_regs regs), fun k other => ?_⟩
  rw [State.rd, regs, ← State.rd, stamped.rd _ _ (by decide), s.rd_mvbCnt_ne n other]

/-- An administrator that hears a master frame of another one notes it and is a device (R141). -/
def State.mvbConflict (s : State) (n : Nat) : State :=
  ((((s.evt F.LSL_MVB_STAT_MASTER_CONFLICT_EVT n).mvbCnt n 8).laneNote n).wr F.LSL_MVB_CTL_ADMIN_RUN n 0).wr F.LSL_MVB_STAT_SPORADIC n 0

/-- The fields that the note of a conflict may write. -/
abbrev conflictFlds : List Fld :=
  [F.LSL_MVB_STAT_MASTER_CONFLICT_EVT, F.LSL_MVB_CNT_COUNT, F.LSL_MVB_CTL_ADMIN_RUN, F.LSL_MVB_STAT_SPORADIC]

theorem State.mvbConflict_spec :
    (s.mvbConflict n).rd F.LSL_MVB_STAT_MASTER_CONFLICT_EVT n = 1
    ∧ (s.mvbConflict n).rd F.LSL_MVB_CNT_COUNT (10 * n + 8) = (s.rd F.LSL_MVB_CNT_COUNT (10 * n + 8) + 1) % 2 ^ F.LSL_MVB_CNT_COUNT.width
    ∧ (s.mvbConflict n).rd F.LSL_MVB_CTL_ADMIN_RUN n = 0 ∧ (s.mvbConflict n).Noted n
    ∧ RegsBut conflictFlds s (s.mvbConflict n) := by
  have noted : (((s.evt F.LSL_MVB_STAT_MASTER_CONFLICT_EVT n).mvbCnt n 8).laneNote n).Noted n := State.laneNote_noted _ n
  refine ⟨?_, ?_, ?_, noted, ?_⟩
  · simp [State.mvbConflict, State.mvbCnt, State.bump_eq_wr, State.evt_eq_wr, State.rd_wr_fld]
  · rw [State.mvbConflict, State.rd_wr_fld _ _ _ _ _ _ (by decide), State.rd_wr_fld _ _ _ _ _ _ (by decide), State.rd_laneNote,
      State.rd_mvbCnt_same, State.evt_eq_wr, State.rd_wr_fld _ _ _ _ _ _ (by decide)]
  · rw [State.mvbConflict, State.rd_wr_fld _ _ _ _ _ _ (by decide), State.rd_wr_same]; rfl
  · have noted : RegsBut conflictFlds s (((s.evt F.LSL_MVB_STAT_MASTER_CONFLICT_EVT n).mvbCnt n 8).laneNote n) :=
      ((RegsBut.refl.wr F.LSL_MVB_STAT_MASTER_CONFLICT_EVT n 1 (by decide)).wr F.LSL_MVB_CNT_COUNT _ _ (by decide)).trans (RegsBut.of_regs rfl)
    exact (noted.wr F.LSL_MVB_CTL_ADMIN_RUN n 0 (by decide)).wr F.LSL_MVB_STAT_SPORADIC n 0 (by decide)

/-- Who is administrator rests on ROLE, ADMIN_RUN and EN (R138). -/
theorem State.mvbAdmin_congr {fs : List Fld} {s t : State} {n : Nat} (regs : RegsBut fs s t)
    (hf : ∀ f ∈ [F.LSL_PERS_ROLE, F.LSL_MVB_CTL_ADMIN_RUN, F.LSL_MVB_CTL_EN], f.id ∉ fs.map Fld.id) : t.mvbAdmin n = s.mvbAdmin n := by
  rw [State.mvbAdmin, State.bit, State.on, State.on, regs _ n (hf _ (by simp)), regs _ n (hf _ (by simp)), regs _ n (hf _ (by simp))]
  rfl

theorem State.mvbAdmin_false (stopped : s.rd F.LSL_MVB_CTL_ADMIN_RUN n = 0) : s.mvbAdmin n = false := by
  rw [State.mvbAdmin, State.on, stopped]
  simp

/-- The lane that was administrator and may be again, when ADMIN_RUN is set. -/
theorem State.mvbAdmin_again {fs : List Fld} {s t : State} {n : Nat} (admin : s.mvbAdmin n = true) (regs : RegsBut fs s t)
    (hf : ∀ f ∈ [F.LSL_PERS_ROLE, F.LSL_MVB_CTL_EN], f.id ∉ fs.map Fld.id) : (t.wr F.LSL_MVB_CTL_ADMIN_RUN n 1).mvbAdmin n = true := by
  simp only [State.mvbAdmin, State.bit, State.on, Bool.and_eq_true, decide_eq_true_eq] at admin ⊢
  obtain ⟨⟨role, -⟩, en⟩ := admin
  rw [State.rd_wr_fld _ _ _ _ _ _ (by decide), State.rd_wr_same, State.rd_wr_fld _ _ _ _ _ _ (by decide), regs _ n (hf _ (by simp)), regs _ n (hf _ (by simp))]
  exact ⟨⟨role, by decide⟩, en⟩

end

section
variable {s : State} {n : Fin 24}

theorem exec_mvbMasterFrameRx_conflict (f : BitVec 4) (a : BitVec 12) (runs : s.mvbRuns n = true) (admin : s.mvbAdmin n = true)
    (unsecured : s.secure (40 + n) = false) :
    exec (.mvbMasterFrameRx n f a true) s = .next ((((s.mvbHeard n).mvbConflict n).laneLink n).mvbAnswer n f.toNat a.toNat) := by
  have still : (s.mvbHeard n).mvbAdmin n = true := (State.mvbAdmin_congr (s.mvbHeard_spec n).1 (by decide)).trans admin
  change execMvbMasterFrameRx n f a true s = _
  unfold execMvbMasterFrameRx
  rw [runs, unsecured, Bool.true_or, if_neg (by decide), if_neg (by decide)]
  change Host.Outcome.next (State.mvbAnswer (State.laneLink (if (s.mvbHeard n).mvbAdmin n = true then (s.mvbHeard n).mvbConflict n else s.mvbHeard n) n)
    n f.toNat a.toNat) = _
  rw [if_pos still]

theorem exec_mvbBasicPeriod_device (device : s.mvbAdmin n = false) : exec (.mvbBasicPeriod n) s = .next s :=
  if_pos (by rw [device]; simp)

theorem exec_mvbPollSend_device (left : Nat) (device : s.mvbAdmin n = false) : exec (.mvbPollSend n left) s = .next s :=
  if_pos (by rw [device]; simp)

end
end Sys2Proof.Machine
end

section
/-! SUPPORT. The statement about administrators that hear another one. -/
namespace Sys2Proof
open Sys2Proof.Machine

/-- Settles O28: the conflict is `mvbConflict_spec`; the link and the answer that follow it write neither what it set nor ROLE and EN. -/
theorem mvbMasterConflictClearsAdminRun : Obligations.MvbMasterConflictClearsAdminRun := by
  unfold Obligations.MvbMasterConflictClearsAdminRun
  intro s n f a
  refine ⟨bltDefaultClass_lane n, fun runs admin unsecured => ⟨_, exec_mvbMasterFrameRx_conflict f a runs admin unsecured, ?_⟩⟩
  obtain ⟨heard, counts⟩ := s.mvbHeard_spec n
  obtain ⟨evt, count, run, note, conflict⟩ := (s.mvbHeard n).mvbConflict_spec n
  have linked := ((s.mvbHeard n).mvbConflict n).laneLink_apart n
  obtain ⟨answered, transit, others⟩ := (((s.mvbHeard n).mvbConflict n).laneLink n).mvbAnswer_leaves n f.toNat a.toNat
  obtain ⟨x, waiting, is⟩ := (((s.mvbHeard n).mvbConflict n).laneLink n).mvbAnswer_spec n f.toNat a.toNat
  have stopped := (answered F.LSL_MVB_CTL_ADMIN_RUN n (by decide)).trans ((linked.rd _ n (by decide)).trans run)
  have device := State.mvbAdmin_false _ _ stopped
  have all : RegsBut (conflictFlds ++ linkFlds) s ((((s.mvbHeard n).mvbConflict n).laneLink n).mvbAnswer n f.toNat a.toNat) :=
    (((heard.mono (by decide)).trans (conflict.mono (by decide))).trans (linked.regsBut.mono (by decide))).trans (answered.mono (by decide))
  refine ⟨(answered _ n (by decide)).trans ((linked.rd _ n (by decide)).trans evt), ?_,
    note.of_transit (transit.trans (State.laneLink_transit _ n)), stopped, device, ?_, exec_mvbBasicPeriod_device device,
    fun left => exec_mvbPollSend_device left device, State.mvbAdmin_again admin all (by decide)⟩
  · rw [others 8 (by decide), linked.rd _ _ (by decide), count, counts 8 (by decide)]
  · rw [is, State.mvbLane_setMvb_same, waiting]

end Sys2Proof
end

section
/-! SUPPORT. The statement about answers, polls and updates of MVB lanes: a frame that waits in the Reservoir refutes it. -/
namespace Sys2Proof
open Sys2Proof.Machine

/-- A KIND 0x11 frame for F_code 0 and address 5, as Inkwell holds it in `cells`. -/
def sourceFrame (cells : List Nat) (epoch : Nat) : Frame :=
  { Frame.plain (LaneFrame.bytes ⟨0x11, 0, 0, 5, 0, [1, 2]⟩ 3 0xFFFF) 64 0 epoch 0xFFFF with cells := cells, copies := 1, poolRefs := 1 }

/-- The entry of the frame that waits alone in class 3. -/
def classThreeEntry : QEnt := ⟨0, 7, CopyEd.none⟩

/-- The registers of a running MVB lane 3 with source port 0 of F_code 0 and address 5: its class 2 queue is deep (09 R203), and its port takes
frames of epoch 1 on (08 R192). -/
def reservoirRegs : State :=
  [(F.LSL_PERS_PERSONALITY, 3, 3), (F.LSL_MVB_CTL_EN, 3, 1), (F.LSL_MVB_PORT_VALID, 768, 1), (F.LSL_MVB_PORT_ADDR, 768, 5),
    (F.LSL_MVB_PORT_DIR, 768, 1), (F.QUE_CFG_DEEP, 334, 1), (F.TBL_PORT_MIN_EPOCH_MIN, 43, 1)].foldl (fun s w => s.wr w.1 w.2.1 w.2.2) State.reset

/-- A source update waits in class 3. The head of class 2 is empty: a frame of epoch 0, read back whole, stands before a source update in its
tail. -/
def reservoirHolds : State :=
  ({ reservoirRegs with frames := [(7, sourceFrame [7] 1), (8, sourceFrame [8] 1)] }.setQueue 335 { Queue.init with head := [classThreeEntry] }).setQueue 334
    { Queue.init with mid := [⟨sourceFrame [] 0, CopyEd.none⟩], midDone := 56, asm := [9], tail := [⟨1, 8, CopyEd.none⟩] }

/-- The update of class 3 counts; the old frame of class 2 is dropped, the one behind it moves to the head, and counts too. -/
theorem mvbSrcUpdate_reservoirHolds (t : State) (run : exec (.mvbSrcUpdate 3) reservoirHolds = .next t) : t.rd F.SIG_CNT_COUNT 8 = 2 := by
  have twice : (leaves (exec (.mvbSrcUpdate 3) reservoirHolds) reservoirHolds).rd F.SIG_CNT_COUNT 8 = 2 := by decide +kernel
  rwa [run] at twice

/-- Refutes O29: with one source update at the head of class 3 and no other head, a deep class 2 brings a second update out of the Reservoir, so
that the command counts two where the statement has one. -/
theorem not_mvbLanesAnswerPollAndTimeOut : ¬ Obligations.MvbLanesAnswerPollAndTimeOut := by
  unfold Obligations.MvbLanesAnswerPollAndTimeOut
  intro holds
  obtain ⟨-, -, -, -, -, -, -, -, update⟩ := holds reservoirHolds 3 0 0 true [] 0
  have alone : reservoirHolds.queue 335 = { Queue.init with head := [classThreeEntry] }
      ∧ reservoirHolds.frames.find classThreeEntry.first = some (sourceFrame [7] 1) ∧ reservoirHolds.tooOld 43 (sourceFrame [7] 1).epoch = false
      ∧ (sourceFrame [7] 1).damaged = false ∧ ∀ c, c < 3 → (reservoirHolds.queue (332 + c)).head = [] := by decide +kernel
  obtain ⟨t, run, -, counted, -⟩ := update classThreeEntry (sourceFrame [7] 1) 0 (by decide +kernel) alone (by decide +kernel) (by decide +kernel)
    (by decide +kernel)
  rw [mvbSrcUpdate_reservoirHolds t run] at counted
  exact absurd counted (by decide +kernel)

end Sys2Proof
end

section
/-! SUPPORT. Strikes (spec 07 R161, R164): what a strike shows, counts and leaves, and the decision part that finds the difference. -/
namespace Sys2Proof.Machine

section
variable (s : State)

/-! ### What a strike leaves -/

/-- What a struck transmission used is restored to its shaper alone. -/
theorem State.specRestore_eq (x : Spec) : ∃ c, s.specRestore x = { s with cbs := c } := by
  unfold State.specRestore
  split
  · exact ⟨_, rfl⟩
  · exact ⟨_, rfl⟩

theorem State.strokeDrop_eq (i p da vid : Nat) : ∃ c, s.strokeDrop i p da vid = { s with strokes := c } := by
  unfold State.strokeDrop
  split
  · exact ⟨_, rfl⟩
  · exact ⟨_, rfl⟩

/-- Port `p` ends a struck frame on the line, and counts it. -/
def State.struckOn (s : State) (p : Nat) : State := (s.endFrame p (s.strikeForm p)).ethCnt p 23

/-- The egress port of a struck transmission, and its mirror port, end it. -/
def State.struckOut (s : State) (x : Spec) : State :=
  match x.mirror with
  | some m => ((s.struckOn x.egr).specRestore x).struckOn m
  | none => (s.struckOn x.egr).specRestore x

/-- PPx_LAST_STRIKE and STRIKE_EVT of pipeline `i` show a strike. -/
def State.strikeShown (s : State) (i code egr port : Nat) : State :=
  (((s.wr F.PP_LAST_STRIKE_REASON i code).wr F.PP_LAST_STRIKE_EGR_PORT i egr).wr F.PP_LAST_STRIKE_IN_PORT i port).evt F.PP_STAT_STRIKE_EVT i

/-- A strike ends the frame on its ports and shows why; beside that the Stroke cache alone changes. -/
theorem State.strike_eq (f : Flight) (x : Spec) (code : Nat) :
    ∃ c, s.strike f x code = { (s.struckOut x).strikeShown (pipeOf f.port) code x.egr f.port with strokes := c } :=
  State.strokeDrop_eq ((s.struckOut x).strikeShown (pipeOf f.port) code x.egr f.port) ..

/-! ### The counters of its ports -/

theorem State.rd_struckOn (p : Nat) : (s.struckOn p).rd F.ETH_CNT_COUNT (29 * p + 23)
    = (s.rd F.ETH_CNT_COUNT (29 * p + 23) + 1) % 2 ^ F.ETH_CNT_COUNT.width :=
  State.rd_ethCnt ..

theorem State.rd_struckOn_ne {p q : Nat} (other : q ≠ p) :
    (s.struckOn p).rd F.ETH_CNT_COUNT (29 * q + 23) = s.rd F.ETH_CNT_COUNT (29 * q + 23) :=
  State.rd_ethCnt_ne (s.endFrame p (s.strikeForm p)) p (by omega)

theorem State.rd_specRestore (x : Spec) (f : Fld) (i : Nat) : (s.specRestore x).rd f i = s.rd f i := by
  obtain ⟨c, same⟩ := s.specRestore_eq x
  rw [same]; rfl

/-- TX_STRUCK counts on the egress port and on the mirror port. -/
theorem State.struckOut_counts {x : Spec} (apart : x.mirror ≠ some x.egr) :
    (s.struckOut x).rd F.ETH_CNT_COUNT (29 * x.egr + 23) = (s.rd F.ETH_CNT_COUNT (29 * x.egr + 23) + 1) % 2 ^ F.ETH_CNT_COUNT.width
    ∧ ∀ m, x.mirror = some m → (s.struckOut x).rd F.ETH_CNT_COUNT (29 * m + 23)
      = (s.rd F.ETH_CNT_COUNT (29 * m + 23) + 1) % 2 ^ F.ETH_CNT_COUNT.width := by
  unfold State.struckOut
  split
  · next m mirrored =>
    have other : m ≠ x.egr := fun same => apart (same ▸ mirrored)
    refine ⟨?_, fun k mirror => ?_⟩
    · rw [State.rd_struckOn_ne _ other.symm, State.rd_specRestore, State.rd_struckOn]
    · obtain rfl := Option.some.inj (mirrored.symm.trans mirror)
      rw [State.rd_struckOn, State.rd_specRestore, State.rd_struckOn_ne _ other]
  · next alone =>
    refine ⟨?_, fun k mirror => ?_⟩
    · rw [State.rd_specRestore, State.rd_struckOn]
    · exact nomatch alone.symm.trans mirror

theorem State.struckOut_flight (x : Spec) : (s.struckOut x).flight = s.flight := by
  obtain ⟨c, same⟩ := (s.struckOn x.egr).specRestore_eq x
  unfold State.struckOut
  split <;> (rw [same]; rfl)

/-! ### What it shows -/

theorem State.strikeShown_spec (i code egr port : Nat) :
    (s.strikeShown i code egr port).rd F.PP_LAST_STRIKE_REASON i = code % 2 ^ F.PP_LAST_STRIKE_REASON.width
    ∧ (s.strikeShown i code egr port).rd F.PP_STAT_STRIKE_EVT i = 1
    ∧ (s.strikeShown i code egr port).rd F.PP_LAST_STRIKE_IN_PORT i = port % 2 ^ F.PP_LAST_STRIKE_IN_PORT.width
    ∧ (s.strikeShown i code egr port).rd F.PP_LAST_STRIKE_EGR_PORT i = egr % 2 ^ F.PP_LAST_STRIKE_EGR_PORT.width := by
  refine ⟨?_, State.rd_evt _ _ _ (by decide), ?_, ?_⟩
  · rw [State.strikeShown, State.evt_eq_wr, State.rd_wr_fld _ _ _ _ _ _ (by decide), State.rd_wr_fld _ _ _ _ _ _ (by decide),
      State.rd_wr_fld _ _ _ _ _ _ (by decide), State.rd_wr_same]
  · rw [State.strikeShown, State.evt_eq_wr, State.rd_wr_fld _ _ _ _ _ _ (by decide), State.rd_wr_same]
  · rw [State.strikeShown, State.evt_eq_wr, State.rd_wr_fld _ _ _ _ _ _ (by decide), State.rd_wr_fld _ _ _ _ _ _ (by decide), State.rd_wr_same]

theorem State.strikeShown_regsBut (i code egr port : Nat) :
    RegsBut [F.PP_LAST_STRIKE_REASON, F.PP_LAST_STRIKE_EGR_PORT, F.PP_LAST_STRIKE_IN_PORT, F.PP_STAT_STRIKE_EVT] s (s.strikeShown i code egr port) :=
  (((RegsBut.refl.wr F.PP_LAST_STRIKE_REASON i code (by decide)).wr F.PP_LAST_STRIKE_EGR_PORT i egr (by decide)).wr F.PP_LAST_STRIKE_IN_PORT i port
    (by decide)).wr F.PP_STAT_STRIKE_EVT i 1 (by decide)

/-- `t` shows, in the pipeline of port `port`, a strike with `code` of transmission `x`, which has been counted since `s`. -/
structure State.Struck (s t : State) (port : Nat) (x : Spec) (code : Nat) : Prop where
  reason : t.rd F.PP_LAST_STRIKE_REASON (pipeOf port) = code % 2 ^ F.PP_LAST_STRIKE_REASON.width
  event : t.rd F.PP_STAT_STRIKE_EVT (pipeOf port) = 1
  ingress : t.rd F.PP_LAST_STRIKE_IN_PORT (pipeOf port) = port % 2 ^ F.PP_LAST_STRIKE_IN_PORT.width
  egress : t.rd F.PP_LAST_STRIKE_EGR_PORT (pipeOf port) = x.egr % 2 ^ F.PP_LAST_STRIKE_EGR_PORT.width
  counts : x.mirror ≠ some x.egr →
    t.rd F.ETH_CNT_COUNT (29 * x.egr + 23) = (s.rd F.ETH_CNT_COUNT (29 * x.egr + 23) + 1) % 2 ^ F.ETH_CNT_COUNT.width
    ∧ ∀ m, x.mirror = some m → t.rd F.ETH_CNT_COUNT (29 * m + 23) = (s.rd F.ETH_CNT_COUNT (29 * m + 23) + 1) % 2 ^ F.ETH_CNT_COUNT.width

theorem State.strike_struck (f : Flight) (x : Spec) (code : Nat) : s.Struck (s.strike f x code) f.port x code := by
  obtain ⟨c, run⟩ := s.strike_eq f x code
  obtain ⟨reason, event, ingress, egress⟩ := (s.struckOut x).strikeShown_spec (pipeOf f.port) code x.egr f.port
  have counter (k : Nat) := (s.struckOut x).strikeShown_regsBut (pipeOf f.port) code x.egr f.port F.ETH_CNT_COUNT k (by decide)
  rw [run]
  refine ⟨reason, event, ingress, egress, fun apart => ?_⟩
  obtain ⟨sent, mirrored⟩ := s.struckOut_counts apart
  exact ⟨(counter _).trans sent, fun m mirror => (counter _).trans (mirrored m mirror)⟩

theorem State.veto_flight (f : Flight) (x : Spec) (code : Nat) : (s.veto f x code).1.flight = s.flight := by
  unfold State.veto
  split
  · rfl
  · obtain ⟨c, run⟩ := s.strike_eq f x code
    rw [run]
    exact s.struckOut_flight x
  · rfl

/-! ### The decision part (R156, R161) -/

/-- What is found among the frames in flight stands at its place. -/
theorem State.flightWith_some {s : State} {g : Flight → Bool} {n : Nat} {f : Flight} (found : s.flightWith g = some (n, f)) :
    s.flight[n]? = some f := by
  obtain ⟨⟨f', n'⟩, first, same⟩ := Option.map_eq_some_iff.mp found
  obtain ⟨rfl, rfl⟩ := Prod.mk.inj same
  exact List.mem_zipIdx_iff_getElem?.mp (List.mem_of_find?_eq_some first)

/-- A decision gives the frame a verdict and the epoch, and a transmission only to one that had one; the other frames in flight stay. -/
theorem State.decideFlight_spec (n : Nat) (f : Flight) :
    ∃ u v x, s.decideFlight n f = State.setFlight u n { f with epoch := s.epoch, verdict := some v, spec := x } ∧ u.flight = s.flight
      ∧ (f.spec = none → x = none) := by
  unfold State.decideFlight
  extract_lets i v d f' judged r s' v' t
  have judgedFlight : s'.flight = s.flight := by
    unfold s' r
    clear_value judged
    obtain _ | ⟨k, _ | yellow⟩ := judged <;> rfl
  refine ⟨t.1, v', t.2, rfl, ?_, fun alone => ?_⟩
  · rw [← judgedFlight]
    unfold t
    split
    · split
      · split
        · exact State.veto_flight ..
        · rfl
      · rfl
    · rfl
  · have silent : f'.spec = none := alone
    unfold t
    rw [silent]

theorem Verdict.policer_none {v : Verdict} (unjudged : v.policer = none) : { v with policer := none } = v := by rw [← unjudged]

/-- A decision that no policer judges and that differs from a transmission on the wire strikes it. -/
theorem State.decideFlight_strikes {s : State} {f : Flight} {x : Spec} {c : Nat} (n : Nat) (unjudged : (s.decision f).policer = none)
    (spec : f.spec = some x) (sends : x.st = .sending) (differs : s.vetoOf { f with epoch := s.epoch } (s.decision f) x = some c) :
    s.decideFlight n f = (s.strike { f with epoch := s.epoch } x c).setFlight n
      { f with epoch := s.epoch, verdict := some (s.decision f), spec := some { x with st := .struck } } := by
  have live : x.live = true := by rw [Spec.live, sends]; rfl
  rw [spec] at differs
  simp only [State.decideFlight, unjudged, Verdict.policer_none unjudged, spec, live, if_true, differs, State.veto, sends]

theorem exec_verdictDecisionFinal {s : State} {p : Fin 67} {n : Nat} {f : Flight}
    (oldest : s.flightWith (fun f => decide (f.port = p.val) && f.verdict.isNone) = some (n, f)) :
    exec (.verdictDecisionFinal p) s = .next (s.decideFlight n f).settleAll := by
  change execVerdictDecisionFinal p s = _
  simp only [execVerdictDecisionFinal, oldest]

theorem exec_verdictIntegrityFinal {s : State} {p : Fin 67} {n : Nat} {f : Flight}
    (oldest : s.flightWith (fun f => decide (f.port = p.val) && f.whole && !f.integ) = some (n, f)) :
    exec (.verdictIntegrityFinal p) s = .next (s.setFlight n { f with integ := true }).settleAll := by
  change execVerdictIntegrityFinal p s = _
  simp only [execVerdictIntegrityFinal, oldest]

/-- A decision on a frame whose integrity part is not final settles nothing. -/
theorem State.settleAll_decideFlight {s : State} (n : Nat) {f : Flight} (quiet : s.flight.any (fun g => g.integ && g.verdict.isSome) = false)
    (unfinished : f.integ = false) : (s.decideFlight n f).settleAll = s.decideFlight n f := by
  obtain ⟨u, v, x, run, others, -⟩ := s.decideFlight_spec n f
  rw [run]
  exact State.settleAll_setFlight n (by rw [others, quiet]) (by rw [unfinished]; rfl)

/-- The decided frame has its verdict and the current epoch, and its bytes. -/
theorem State.decideFlight_decided {s : State} {n : Nat} {f : Flight} (there : s.flight[n]? = some f) :
    ∃ g, (s.decideFlight n f).flight[n]? = some g ∧ g.verdict.isSome = true ∧ g.epoch = s.epoch ∧ g.bytes = f.bytes := by
  obtain ⟨u, v, x, run, others, -⟩ := s.decideFlight_spec n f
  obtain ⟨inside, -⟩ := List.getElem?_eq_some_iff.mp there
  rw [run]
  exact ⟨_, List.getElem?_set_self (by rwa [others]), rfl, rfl, rfl⟩

end
end Sys2Proof.Machine
end

section
/-! SUPPORT. A frame that fails its integrity part leaves the pipelines (spec 07 R156). -/
namespace Sys2Proof.Machine

section
variable (s : State)

theorem State.fcCheck_flight (p : Nat) : (s.fcCheck p).flight = s.flight := by
  unfold State.fcCheck
  dsimp only
  repeat' split
  all_goals rfl

theorem State.refund_flight (f : Flight) (v : Verdict) : (s.refund f v).flight = s.flight := by
  unfold State.refund
  split
  · split <;> rfl
  · rfl

/-- Taper may withdraw transmissions, and takes no frame out of flight. -/
theorem State.taperTo_flightCount (p st : Nat) : (s.taperTo p st).flight.length = s.flight.length := by
  unfold State.taperTo
  dsimp only
  split
  · exact List.length_map _
  · rfl

theorem State.taperIdle_flightCount (p : Nat) : (s.taperIdle p).flight.length = s.flight.length :=
  State.taperTo_flightCount (s.setPort p { s.port p with lows := 0, lastLow := false }) ..

theorem State.propose_flightCount (p rate flags : Nat) : (s.propose p rate flags).flight.length = s.flight.length :=
  State.taperTo_flightCount
    (s.setPort p { s.port p with seq := ((s.port p).seq + 1) % 2 ^ 16, propRate := rate, propFlags := flags, resends := 0 }) ..

theorem State.taperService_flightCount (p : Nat) : (s.taperService p).flight.length = s.flight.length := by
  unfold State.taperService
  extract_lets st t st'
  have idle : t.flight.length = s.flight.length := by
    unfold t
    split
    · exact s.taperIdle_flightCount p
    · rfl
  clear_value t
  have proposed (u : State) (same : u.flight = t.flight) (rate flags : Nat) : (u.propose p rate flags).flight.length = s.flight.length := by
    rw [State.propose_flightCount, same, idle]
  split
  · rfl
  · split
    · exact idle
    · split
      · exact proposed (t.setPort p _) rfl _ _
      · split
        · exact proposed t rfl _ _
        · split
          · exact proposed t rfl _ _
          · exact idle

/-- A frame that failed its FCS and that nothing speculates is dropped when it is settled. -/
theorem State.settle_failed (n : Nat) {f : Flight} (v : Verdict) (fails : f.fcsOk = false) (alone : f.spec = none) :
    (s.settle n f v).flight = s.flight.eraseIdx n := by
  have bad : f.integVeto.isSome = true := by rw [Flight.integVeto, fails]; rfl
  have done (t : State) (i : Nat) : (t.tsDone i).flight = t.flight := (t.tsDone_queueOnly i).apart.flight
  have dropped : (((s.dropFlight n).refund f v).tsDone f.tsIndex).flight = s.flight.eraseIdx n := by
    rw [done, State.refund_flight, State.dropFlight]
  simp only [State.settle, alone, bad, if_true, Bool.false_eq_true, if_false]
  split
  · rw [State.fcCheck_flight, dropped]
  · exact dropped

theorem State.flightWith_only {s : State} {g : Flight → Bool} {n : Nat} {f f' : Flight} (only : s.flight = [f])
    (found : s.flightWith g = some (n, f')) : n = 0 := by
  have there := State.flightWith_some found
  rw [only] at there
  exact Nat.lt_one_iff.mp (List.getElem?_eq_some_iff.mp there).1

theorem State.setFlight_only {s : State} {f : Flight} (only : s.flight = [f]) (g : Flight) : (s.setFlight 0 g).flight = [g] :=
  congrArg (fun l => setAt l 0 g) only

/-- The only frame in flight, with both parts of its verdict, leaves when it failed its FCS and nothing speculates it. -/
theorem State.settleAll_failed {s : State} {f : Flight} {v : Verdict} (only : s.flight = [f]) (decided : f.verdict = some v)
    (final : f.integ = true) (fails : f.fcsOk = false) (alone : f.spec = none) : s.settleAll.flight = [] := by
  have settled : (s.settleFrom s.flight.length 0).flight = [] := by
    have left : (s.settle 0 f v).flight = [] := by rw [s.settle_failed 0 v fails alone, only]; rfl
    simp only [only, List.length_singleton, State.settleFrom, List.getElem?_cons_zero, decided, final, if_true, left, List.length_nil,
      Nat.zero_lt_one]
  have waits : s.flight.any (fun f => f.integ && f.verdict.isSome) = true := by rw [only]; simp [final, decided]
  rw [State.settleAll, if_pos waits, (State.drainService_queueOnly _).apart.flight]
  refine List.eq_nil_of_length_eq_zero ?_
  rw [foldl_leaves (fun t => t.flight.length) _ _ State.taperService_flightCount, settled, List.length_nil]

end
end Sys2Proof.Machine
end

section
/-! SUPPORT. Bad parity, stalls and recoveries of a pipeline (spec 07 R167, R168). -/
namespace Sys2Proof.Machine

/-- A field of one bit is that bit. -/
theorem bits_one (w k : Nat) : bits w k 1 = (w.testBit k).toNat := by
  rw [bits, Nat.toNat_testBit, Nat.shiftRight_eq_div_pow, Nat.pow_one]

/-- A Stencil rule with VALID, the bit 31 of word 16, cleared. -/
theorem stencil_invalid (r : Nat) : fieldOf (if fieldOf r 16 31 1 = 1 then r - 2 ^ (32 * 16 + 31) else r) 16 31 1 = 0 := by
  have cleared : (if fieldOf r 16 31 1 = 1 then r - 2 ^ (32 * 16 + 31) else r) = clrBitN r (32 * 16 + 31) := by
    simp only [fieldOf, clrBitN, bits_one, Bool.toNat_eq_one]
  rw [cleared, fieldOf, bits_one, testBit_clrBitN]
  rfl

theorem State.strokeFlush_spec (s : State) (i : Nat) :
    (∀ e, e ∈ (s.strokeFlush i).strokes ↔ e ∈ s.strokes ∧ e.1 / 8192 ≠ i)
    ∧ s.strokeFlush i = { s with strokes := (s.strokeFlush i).strokes } := by
  refine ⟨fun e => ?_, rfl⟩
  rw [State.strokeFlush, List.mem_filter, decide_eq_true_eq]

theorem exec_stencilScrub_stroke (s : State) (i : Pipe) (n : Fin 8192) :
    Does (.stencilScrub i true n) s fun t => t.strokes.find (8192 * i.idx + n) = none ∧ t.rd F.PP_STAT_SC_PARITY_EVT i.idx = 1
      ∧ t.transit = s.transit ++ [⟨0x162 + i.idx, elemId 11 (0x12 + i.idx), n⟩] ∧ RegsBut [F.PP_STAT_SC_PARITY_EVT] s t :=
  ⟨_, rfl, Tbl.find_erase_same .., State.rd_evt { s with strokes := _ } F.PP_STAT_SC_PARITY_EVT i.idx (by decide), rfl,
    (RegsBut.of_regs (t := { s with strokes := s.strokes.erase (8192 * i.idx + n) }) rfl).wr F.PP_STAT_SC_PARITY_EVT _ 1 (by decide)⟩

theorem exec_stencilScrub_rule (s : State) (i : Pipe) {n : Fin 8192} (rule : n.val < 1024) :
    Does (.stencilScrub i false n) s fun t => fieldOf (t.rows.get 0 (rowKey (0x10 + i.idx) n)) 16 31 1 = 0
      ∧ t.rd F.PP_STAT_STENCIL_PARITY_EVT i.idx = 1 ∧ (∀ k, k ≠ rowKey (0x10 + i.idx) n → t.rows.get 0 k = s.rows.get 0 k)
      ∧ t.transit = s.transit ++ [⟨0x160 + i.idx, elemId 11 (0x10 + i.idx), n⟩] ∧ RegsBut [F.PP_STAT_STENCIL_PARITY_EVT] s t := by
  refine ⟨_, if_pos rule, ?_, State.rd_evt { s with rows := _ } F.PP_STAT_STENCIL_PARITY_EVT i.idx (by decide),
    fun k other => Tbl.get_set_ne _ _ _ _ _ other, rfl, ?_⟩
  · exact (congrArg (fieldOf · 16 31 1) (Tbl.get_set_same ..)).trans (stencil_invalid _)
  · exact (RegsBut.of_regs (t := { s with rows := _ }) rfl).wr F.PP_STAT_STENCIL_PARITY_EVT _ 1 (by decide)

/-- After a fault its recovery runs, waits, or comes. -/
theorem State.requestFault_asked (s : State) (d : Domain) (r : Recovery) :
    let x := (s.requestFault d r).recov.of d
    x.running = some r ∨ r ∈ x.waiting ∨ r ∈ x.coming := by
  unfold State.requestFault
  dsimp only
  split
  · assumption
  · rw [RecovSt.of_put]
    exact .inr (.inr (List.mem_concat_self ..))

/-- It changes the sequencer of recoveries alone. -/
theorem State.requestFault_eq (s : State) (d : Domain) (r : Recovery) : ∃ x, s.requestFault d r = { s with recov := x } := by
  unfold State.requestFault
  dsimp only
  split
  · exact ⟨_, rfl⟩
  · exact ⟨_, rfl⟩

theorem exec_pipelineStall (s : State) (i : Pipe) :
    Does (.pipelineStall i) s fun t => (∃ info, t.transit = s.transit ++ [⟨0x0F0 + i.idx, elemId 2 i.idx, info⟩]) ∧ RegsBut [] s t
      ∧ (t.recov.forwarding.running = some (.pipeline i.idx) ∨ .pipeline i.idx ∈ t.recov.forwarding.waiting
        ∨ .pipeline i.idx ∈ t.recov.forwarding.coming) := by
  refine ⟨_, rfl, ?_, ?_, State.requestFault_asked _ .forwarding _⟩
  all_goals
    obtain ⟨x, run⟩ := (s.reportX (0x0F0 + i.idx) (elemId 2 i.idx)).requestFault_eq .forwarding (.pipeline i.idx)
    rw [run]
  · exact ⟨_, rfl⟩
  · exact RegsBut.of_regs rfl

/-- A recovery that has ended does not run. -/
theorem State.endRecovery_ended (s : State) (d : Domain) (r : Recovery) : ((s.endRecovery d r).recov.of d).running ≠ some r := by
  unfold State.endRecovery
  dsimp only
  split
  · rw [RecovSt.of_put]; exact nofun
  · next other => rw [RecovSt.of_put]; exact other

theorem State.endRecovery_regs (s : State) (d : Domain) (r : Recovery) : (s.endRecovery d r).regs = s.regs := by
  unfold State.endRecovery
  dsimp only
  split <;> rfl

theorem exec_pipelineRecoveryDone {s : State} {i : Pipe} (recovers : s.recovering i.idx = true) :
    Does (.pipelineRecoveryDone i) s fun t => t.recovering i.idx = false ∧ t.rd F.PP_STAT_RECOVERY_EVT i.idx = 1
      ∧ t.recov.forwarding.running ≠ some (.pipeline i.idx) ∧ RegsBut [F.PP_STAT_RECOVERING, F.PP_STAT_RECOVERY_EVT] s t := by
  have ended := State.endRecovery_regs ((s.wr F.PP_STAT_RECOVERING i.idx 0).evt F.PP_STAT_RECOVERY_EVT i.idx) .forwarding (.pipeline i.idx)
  have shows (f : Fld) (j : Nat) := congrArg (RegFile.get · f j) ended
  refine ⟨_, congrArg Host.Outcome.next (if_pos recovers), ?_, ?_, State.endRecovery_ended _ .forwarding _, ?_⟩
  · have clear := ((s.wr F.PP_STAT_RECOVERING i.idx 0).rd_wr_fld F.PP_STAT_RECOVERY_EVT F.PP_STAT_RECOVERING i.idx i.idx 1 (by decide)).trans
      (s.rd_wr_same F.PP_STAT_RECOVERING i.idx 0)
    exact congrArg (fun n => decide (n ≠ 0)) ((shows F.PP_STAT_RECOVERING i.idx).trans clear)
  · exact (shows F.PP_STAT_RECOVERY_EVT i.idx).trans (State.rd_evt _ _ _ (by decide))
  · exact ((RegsBut.refl.wr F.PP_STAT_RECOVERING i.idx 0 (by decide)).wr F.PP_STAT_RECOVERY_EVT i.idx 1 (by decide)).trans (RegsBut.of_regs ended)

end Sys2Proof.Machine
end

section
/-! SUPPORT. The statement about verdicts, strikes, scrubs and the recovery of pipelines. -/
namespace Sys2Proof
open Sys2Proof.Machine

/-- Settles O31: a decision that no whole verdict follows is `decideFlight`, its difference a `strike`; a failed frame alone in flight goes by
`settleAll_failed`, and the other commands are their own equations. -/
theorem verdictsStrikeAndPipelinesRecover : Obligations.VerdictsStrikeAndPipelinesRecover := by
  unfold Obligations.VerdictsStrikeAndPipelinesRecover
  intro s p i n
  refine ⟨fun k f oldest => ⟨fun quiet undecided => ?_, fun only final fails alone => ?_⟩,
    fun k f oldest => ⟨fun quiet undecided => ?_, fun only decided fails alone => ?_⟩, ⟨_, rfl, s.strokeFlush_spec i.idx⟩,
    exec_stencilScrub_stroke s i n, exec_stencilScrub_rule s i, exec_pipelineStall s i, exec_pipelineRecoveryDone⟩
  · have run := exec_verdictDecisionFinal oldest
    rw [State.settleAll_decideFlight k quiet undecided] at run
    refine ⟨_, run, State.decideFlight_decided (State.flightWith_some oldest), fun x c spec sends unjudged differs => ?_⟩
    obtain ⟨reason, event, ingress, egress, counts⟩ := s.strike_struck { f with epoch := s.epoch } x c
    rw [State.decideFlight_strikes k unjudged spec sends differs]
    exact ⟨reason, event, ingress, egress, counts⟩
  · obtain rfl := State.flightWith_only only oldest
    obtain ⟨u, v, x, run, others, spec⟩ := s.decideFlight_spec 0 f
    refine ⟨_, exec_verdictDecisionFinal oldest, ?_⟩
    rw [run]
    exact State.settleAll_failed (State.setFlight_only (others.trans only) _) rfl final fails (spec alone)
  · exact ⟨_, exec_verdictIntegrityFinal oldest, State.settleAll_setFlight k quiet (by rw [undecided]; rfl)⟩
  · obtain rfl := State.flightWith_only only oldest
    obtain ⟨v, verdict⟩ := Option.isSome_iff_exists.mp decided
    exact ⟨_, exec_verdictIntegrityFinal oldest, State.settleAll_failed (State.setFlight_only only _) verdict rfl fails alone⟩

end Sys2Proof
end

section
/-! SUPPORT. The update buffer and its epochs (spec 08 R188 to R191): what joins it, what an increment of TBL_EPOCH commits, and what its
oldest write does. -/
namespace Sys2Proof.Machine

/-! ### Entry writes that join the buffer (R188) -/

/-- The buffered form of an entry write: it waits for the next epoch. -/
def State.due (s : State) (op : TblOp) : BufWrite := ⟨(s.epoch + 1) % 2 ^ 32, op⟩

/-- Places of the buffer in use: uncommitted writes, and those kept for a Scroll. -/
def State.bufUsed (s : State) : Nat := s.pendingWrites + s.scr.room

/-- The state after an entry write that finds no room. -/
def State.bufDiscard (s : State) : State := (s.bump F.TBL_CNT_COUNT 16).evt F.TBL_STAT_BUF_FULL_EVT 0

/-- The next epoch is newer than the present one. -/
theorem serialNewer_next (e : Nat) : serialNewer ((e + 1) % 2 ^ 32) e = true := by
  rw [serialNewer, Bool.and_eq_true, decide_eq_true_eq, decide_eq_true_eq]
  omega

theorem State.committed_due (s : State) (op : TblOp) : s.committed (s.due op) = false := by
  rw [State.committed, State.due, serialNewer_next]; rfl

theorem State.epoch_wr_fld (s : State) {f : Fld} (i v : Nat) (other : F.TBL_EPOCH_EPOCH.id ≠ f.id) : (s.wr f i v).epoch = s.epoch :=
  s.rd_wr_fld _ _ _ _ _ other

theorem State.committed_congr {s t : State} (same : t.epoch = s.epoch) : t.committed = s.committed :=
  funext fun w => by rw [State.committed, same, State.committed]

theorem State.bufUsed_bufDiscard (s : State) : s.bufDiscard.bufUsed = s.bufUsed := by
  have epoch : s.bufDiscard.epoch = s.epoch := (State.epoch_wr_fld _ _ _ (by decide)).trans (s.epoch_wr_fld _ _ (by decide))
  rw [State.bufUsed, State.pendingWrites, State.committed_congr epoch]
  rfl

theorem State.bufferOne_full {s : State} (op : TblOp) (full : 2048 ≤ s.bufUsed) : s.bufferOne op = s.bufDiscard := if_pos full

/-- A write that finds room joins the buffer; of the rest a Stencil rule's shadow alone may change. -/
theorem State.bufferOne_room {s : State} (op : TblOp) (room : s.bufUsed < 2048) :
    ∃ x, s.bufferOne op = { s with updBuf := s.updBuf ++ [s.due op], shadow := x } := by
  unfold State.bufferOne
  split
  · next full => exact absurd full (Nat.not_le.2 room)
  · dsimp only
    split
    · split
      · exact ⟨_, rfl⟩
      · exact ⟨_, rfl⟩
    · exact ⟨_, rfl⟩

/-- A write that joins takes one place. -/
theorem State.bufUsed_joined (s : State) (op : TblOp) (x : Tbl Nat) :
    ({ s with updBuf := s.updBuf ++ [s.due op], shadow := x } : State).bufUsed = s.bufUsed + 1 := by
  have waits : (s.updBuf ++ [s.due op]).filter (fun w => !s.committed w) = s.updBuf.filter (fun w => !s.committed w) ++ [s.due op] := by
    simp [s.committed_due op]
  calc ({ s with updBuf := s.updBuf ++ [s.due op], shadow := x } : State).bufUsed
    _ = ((s.updBuf ++ [s.due op]).filter (fun w => !s.committed w)).length + s.scr.room := rfl
    _ = s.pendingWrites + 1 + s.scr.room := by rw [waits, List.length_append, List.length_singleton, State.pendingWrites]
    _ = s.bufUsed + 1 := by rw [State.bufUsed]; omega

/-- Writes that all find room join in their order. -/
theorem State.foldl_bufferOne_room (l : List TblOp) (s : State) (room : s.bufUsed + l.length ≤ 2048) :
    (l.foldl State.bufferOne s).updBuf = s.updBuf ++ l.map s.due ∧ (l.foldl State.bufferOne s).regs = s.regs := by
  induction l generalizing s with
  | nil => exact ⟨(List.append_nil _).symm, rfl⟩
  | cons op l ih =>
    rw [List.length_cons] at room
    obtain ⟨x, joins⟩ := State.bufferOne_room (s := s) op (by omega)
    obtain ⟨buf, regs⟩ := ih _ ((congrArg (· + l.length) (s.bufUsed_joined op x)).trans_le (by omega))
    rw [List.foldl_cons, joins]
    exact ⟨buf.trans (List.append_assoc ..), regs⟩

/-- From `s` to `t` the buffer discarded `n` writes. -/
structure BufDiscards (n : Nat) (s t : State) : Prop where
  updBuf : t.updBuf = s.updBuf
  shown : t.rd F.TBL_STAT_BUF_FULL_EVT 0 = 1
  counted : t.rd F.TBL_CNT_COUNT 16 = (s.rd F.TBL_CNT_COUNT 16 + n) % 2 ^ F.TBL_CNT_COUNT.width
  regs : RegsBut [F.TBL_CNT_COUNT, F.TBL_STAT_BUF_FULL_EVT] s t

theorem State.bufDiscard_discards (s : State) : BufDiscards 1 s s.bufDiscard :=
  ⟨rfl, State.rd_evt _ _ _ (by decide), (State.rd_wr_fld _ _ _ _ _ _ (by decide)).trans (s.rd_bump ..),
    (RegsBut.refl.wr F.TBL_CNT_COUNT 16 _ (by decide)).wr F.TBL_STAT_BUF_FULL_EVT 0 1 (by decide)⟩

/-- One write or more, to a full buffer. -/
theorem State.foldl_bufferOne_full {l : List TblOp} {s : State} (nonempty : l ≠ []) (full : 2048 ≤ s.bufUsed) :
    BufDiscards l.length s (l.foldl State.bufferOne s) := by
  induction l generalizing s with
  | nil => exact absurd rfl nonempty
  | cons op l ih =>
    have first := s.bufDiscard_discards
    rw [List.foldl_cons, State.bufferOne_full op full]
    by_cases last : l = []
    · rw [last]; exact first
    · obtain ⟨buf, shown, counted, regs⟩ := ih last (full.trans_eq s.bufUsed_bufDiscard.symm)
      refine ⟨buf.trans first.updBuf, shown, ?_, first.regs.trans regs⟩
      rw [counted, first.counted, Nat.mod_add_mod, List.length_cons, Nat.add_assoc, Nat.add_comm 1]

theorem opEntries_ne_nil (op : TblOp) : opEntries op ≠ [] := by
  unfold opEntries
  split <;> exact List.cons_ne_nil _ _

theorem exec_tableEntryWrite {s : State} {op : TblOp} (inRange : s.opInRange op = true) :
    exec (.tableEntryWrite op) s = .next ((opEntries op).foldl State.bufferOne s) :=
  congrArg Host.Outcome.next (if_pos inRange)

/-- Of two writes for which one place is left, the first joins and the second is discarded. -/
theorem State.foldl_bufferOne_last {s : State} (o o' : TblOp) (one : s.bufUsed = 2047) :
    ([o, o'].foldl State.bufferOne s).updBuf = s.updBuf ++ [s.due o]
    ∧ ([o, o'].foldl State.bufferOne s).rd F.TBL_STAT_BUF_FULL_EVT 0 = 1 := by
  obtain ⟨x, joins⟩ := State.bufferOne_room (s := s) o (by omega)
  have full := (s.bufUsed_joined o x).trans (congrArg (· + 1) one)
  rw [List.foldl_cons, joins, List.foldl_cons, List.foldl_nil, State.bufferOne_full o' (Nat.le_of_eq full.symm)]
  exact ⟨rfl, (State.bufDiscard_discards _).shown⟩

/-! ### TBL_EPOCH (R189 to R191) -/

/-- The policer that a newly committed write concerns is full. -/
def State.refillWritten (s : State) (w : BufWrite) : State :=
  match w.op with
  | .word t i _ _ => if t = 8 ∨ t = 9 then s.policerFull (t - 8) i else s
  | _ => s

/-- It moves policer tokens alone. -/
theorem State.refillWritten_eq (s : State) (w : BufWrite) : ∃ x, s.refillWritten w = { s with tokens := x } := by
  unfold State.refillWritten
  split
  · split
    · exact ⟨_, rfl⟩
    · exact ⟨_, rfl⟩
  · exact ⟨_, rfl⟩

theorem State.foldl_refillWritten {β : Type} (π : State → β) (ignores : ∀ (t : State) x, π { t with tokens := x } = π t) (l : List BufWrite)
    (s : State) : π (l.foldl State.refillWritten s) = π s := by
  refine foldl_leaves π l s fun t w => ?_
  obtain ⟨x, run⟩ := t.refillWritten_eq w
  rw [run, ignores]

/-- The registers and the router MAC that an increment of TBL_EPOCH sets first. -/
def State.epochNext (s : State) : State :=
  let t := (s.bump F.TBL_EPOCH_EPOCH 0).wr F.TBL_STAT_BUMP_HELD 0 0
  { t with routerMac := t.rd F.TBL_ROUTER_MAC_ADDR 0 }

theorem State.bumpNow_eq (s : State) :
    let t := (s.updBuf.filter (fun w => !s.committed w)).foldl State.refillWritten s.epochNext
    s.bumpNow = t.wrb F.TBL_STAT_APPLYING 0 (!t.updBuf.isEmpty) := rfl

/-- What an increment of TBL_EPOCH shows and takes over. -/
structure EpochBumped (s t : State) : Prop where
  epoch : t.epoch = (s.epoch + 1) % 2 ^ 32
  held : t.rd F.TBL_STAT_BUMP_HELD 0 = 0
  updBuf : t.updBuf = s.updBuf
  routerMac : t.routerMac = s.rd F.TBL_ROUTER_MAC_ADDR 0
  applying : t.rd F.TBL_STAT_APPLYING 0 = b2n (!s.updBuf.isEmpty)

theorem State.bumpNow_bumped (s : State) : EpochBumped s s.bumpNow := by
  have buf := State.foldl_refillWritten State.updBuf (fun _ _ => rfl) (s.updBuf.filter (fun w => !s.committed w)) s.epochNext
  have mac := State.foldl_refillWritten State.routerMac (fun _ _ => rfl) (s.updBuf.filter (fun w => !s.committed w)) s.epochNext
  refine ⟨(s.bumpNow_steady.rd (by simp) 0).trans ?_, (s.bumpNow_steady.rd (by simp) 0).trans (State.rd_wr_same ..), buf, mac.trans ?_, ?_⟩
  · exact (State.rd_wr_fld _ _ _ _ _ _ (by decide)).trans (s.rd_bump ..)
  · exact (State.rd_wr_fld _ _ _ _ _ _ (by decide)).trans (s.rd_wr_fld _ _ _ _ _ (by decide))
  · rw [State.bumpNow_eq, State.wrb_eq_wr, State.rd_wr_same, buf]
    exact b2n_mod_two _

/-- DRAIN_DONE_EVT at the moment TBL_DRAIN stops being older than the target (R191). -/
def State.drainChecked (s : State) : State :=
  { (if s.drained && !s.drainMet then s.evt F.TBL_STAT_DRAIN_DONE_EVT 0 else s) with drainMet := s.drained }

theorem State.drainService_eq (s : State) :
    s.drainService = (if s.on F.TBL_STAT_BUMP_HELD 0 && !s.bumpBlocked then s.bumpNow else s).drainChecked := rfl

/-- With no increment held, or with one that may not go on, TBL_DRAIN alone is looked at. -/
theorem State.drainService_waits {s : State} (waits : s.on F.TBL_STAT_BUMP_HELD 0 = true → s.bumpBlocked = true) :
    s.drainService = s.drainChecked := by
  rw [State.drainService_eq, if_neg]
  rw [Bool.and_eq_true, Bool.not_eq_true']
  exact fun ⟨held, goes⟩ => Bool.noConfusion ((waits held).symm.trans goes)

/-- It sets DRAIN_DONE_EVT alone. -/
theorem State.drainChecked_regs (s : State) : RegsBut [F.TBL_STAT_DRAIN_DONE_EVT] s s.drainChecked :=
  (RegsBut.ite (RegsBut.refl.wr F.TBL_STAT_DRAIN_DONE_EVT 0 1 (by decide)) RegsBut.refl).trans (RegsBut.of_regs rfl)

theorem State.drainChecked_updBuf (s : State) : s.drainChecked.updBuf = s.updBuf := by
  unfold State.drainChecked
  split <;> rfl

theorem State.drainChecked_routerMac (s : State) : s.drainChecked.routerMac = s.routerMac := by
  unfold State.drainChecked
  split <;> rfl

theorem EpochBumped.drainChecked {s t : State} (h : EpochBumped s t) : EpochBumped s t.drainChecked :=
  ⟨(t.drainChecked_regs _ 0 (by decide)).trans h.epoch, (t.drainChecked_regs _ 0 (by decide)).trans h.held, t.drainChecked_updBuf.trans h.updBuf,
    t.drainChecked_routerMac.trans h.routerMac, (t.drainChecked_regs _ 0 (by decide)).trans h.applying⟩

theorem exec_epochBump_held {s : State} (blocked : s.bumpBlocked = true) : exec .epochBump s = .next (s.wr F.TBL_STAT_BUMP_HELD 0 1) :=
  congrArg Host.Outcome.next (if_pos blocked)

theorem exec_epochBump {s : State} (free : s.bumpBlocked = false) : exec .epochBump s = .next s.bumpNow.drainChecked := by
  have held : s.bumpNow.on F.TBL_STAT_BUMP_HELD 0 = false := by rw [State.on, s.bumpNow_bumped.held]; rfl
  rw [← State.drainService_waits fun on => Bool.noConfusion (held.symm.trans on)]
  exact congrArg Host.Outcome.next (if_neg (Bool.eq_false_iff.1 free))

/-! ### The drain target (R191) -/

/-- The state in which a drain target has been stored, before TBL_DRAIN is looked at. -/
def State.drainAimed (s : State) (target : Nat) : State := { s.wr F.TBL_DRAIN_TARGET_TARGET 0 target with drainMet := false }

theorem exec_drainTargetWrite (s : State) (target : Word) : exec (.drainTargetWrite target) s = .next (s.drainAimed target.toNat).drainService := rfl

theorem State.drain_drainAimed (s : State) (target : Nat) : (s.drainAimed target).drain = s.drain :=
  congrArg (Option.getD (s.heldEpochs.foldl olderOf none)) (s.epoch_wr_fld 0 target (by decide))

theorem State.bumpBlocked_drainAimed (s : State) (target : Nat) : (s.drainAimed target).bumpBlocked = s.bumpBlocked := by
  have epoch : (s.drainAimed target).epoch = s.epoch := s.epoch_wr_fld 0 target (by decide)
  rw [State.bumpBlocked, epoch, s.drain_drainAimed, State.bumpBlocked]

theorem State.on_held_drainAimed (s : State) (target : Nat) :
    (s.drainAimed target).on F.TBL_STAT_BUMP_HELD 0 = s.on F.TBL_STAT_BUMP_HELD 0 :=
  congrArg (fun n => decide (n ≠ 0)) (s.rd_wr_fld F.TBL_DRAIN_TARGET_TARGET F.TBL_STAT_BUMP_HELD 0 0 target (by decide))

theorem State.rd_target_drainAimed (s : State) (target : Word) : (s.drainAimed target.toNat).rd F.TBL_DRAIN_TARGET_TARGET 0 = target.toNat :=
  (s.rd_wr_same ..).trans (Nat.mod_eq_of_lt target.isLt)

theorem State.drained_drainAimed (s : State) (target : Word) :
    (s.drainAimed target.toNat).drained = !serialNewer target.toNat s.drain := by
  rw [State.drained, s.rd_target_drainAimed, s.drain_drainAimed]

/-- A new target: it is stored, and met at once where TBL_DRAIN is not older. -/
theorem State.drainChecked_drainAimed (s : State) (target : Word) :
    let t := (s.drainAimed target.toNat).drainChecked
    t.rd F.TBL_DRAIN_TARGET_TARGET 0 = target.toNat
    ∧ (serialNewer target.toNat s.drain = false → t.rd F.TBL_STAT_DRAIN_DONE_EVT 0 = 1)
    ∧ (serialNewer target.toNat s.drain = true → t.rd F.TBL_STAT_DRAIN_DONE_EVT 0 = s.rd F.TBL_STAT_DRAIN_DONE_EVT 0)
    ∧ RegsBut [F.TBL_DRAIN_TARGET_TARGET, F.TBL_STAT_DRAIN_DONE_EVT] s t := by
  have aimed : RegsBut [F.TBL_DRAIN_TARGET_TARGET] s (s.drainAimed target.toNat) := RegsBut.refl.wr F.TBL_DRAIN_TARGET_TARGET 0 _ (by decide)
  have checked := (s.drainAimed target.toNat).drainChecked_regs
  have drained := s.drained_drainAimed target
  refine ⟨(checked _ 0 (by decide)).trans (s.rd_target_drainAimed target), fun met => ?_, fun waits => ?_,
    (aimed.mono (by decide)).trans (checked.mono (by decide))⟩
  · have now : ((s.drainAimed target.toNat).drained && !(s.drainAimed target.toNat).drainMet) = true := by rw [drained, met]; rfl
    rw [State.drainChecked, if_pos now]
    exact (s.drainAimed target.toNat).rd_evt F.TBL_STAT_DRAIN_DONE_EVT 0 (by decide)
  · have later : ((s.drainAimed target.toNat).drained && !(s.drainAimed target.toNat).drainMet) = false := by rw [drained, waits]; rfl
    rw [State.drainChecked, if_neg (Bool.eq_false_iff.1 later)]
    exact aimed _ 0 (by decide)

/-- A held increment that may go on does, when a target is stored. -/
theorem State.drainService_drainAimed {s : State} (target : Word) (held : s.on F.TBL_STAT_BUMP_HELD 0 = true) (goes : s.bumpBlocked = false) :
    let t := (s.drainAimed target.toNat).drainService
    t.rd F.TBL_DRAIN_TARGET_TARGET 0 = target.toNat ∧ t.epoch = (s.epoch + 1) % 2 ^ 32 := by
  have now : ((s.drainAimed target.toNat).on F.TBL_STAT_BUMP_HELD 0 && !(s.drainAimed target.toNat).bumpBlocked) = true := by
    rw [s.on_held_drainAimed, s.bumpBlocked_drainAimed, held, goes]; rfl
  rw [State.drainService_eq, if_pos now]
  have bumped := (s.drainAimed target.toNat).bumpNow_bumped.drainChecked
  refine ⟨?_, bumped.epoch.trans (congrArg (fun e => (e + 1) % 2 ^ 32) (s.epoch_wr_fld 0 target.toNat (by decide)))⟩
  exact (State.drainChecked_regs _ _ 0 (by decide)).trans
    (((s.drainAimed target.toNat).bumpNow_regsBut _ 0 (by decide)).trans (s.rd_target_drainAimed target))

/-! ### The oldest committed write (R189) -/

/-- The routes of a family, as applied. -/
def State.routeList (s : State) (v6 : Bool) : List Route := if v6 = true then s.routes6 else s.routes4

/-- The routes that a family's table takes. -/
def State.routeRoom (s : State) (v6 : Bool) : Nat := if v6 = true then s.memCfg.routeV6 else s.memCfg.routeV4

/-- The state with a family's routes replaced. -/
def State.setRoutes (s : State) (v6 : Bool) (l : List Route) : State := if v6 = true then { s with routes6 := l } else { s with routes4 := l }

@[simp] theorem State.routeList_setRoutes (s : State) (v6 : Bool) (l : List Route) : (s.setRoutes v6 l).routeList v6 = l := by
  cases v6 <;> rfl

@[simp] theorem State.routeList_setRoutes_not (s : State) (v6 : Bool) (l : List Route) :
    (s.setRoutes v6 l).routeList (!v6) = s.routeList (!v6) := by
  cases v6 <;> rfl

/-- The state after an insertion that its table has no room for. -/
def State.insertRefused (s : State) : State := (s.bump F.TBL_CNT_COUNT 8).evt F.TBL_STAT_INSERT_FAIL_EVT 0

theorem State.applyOp_routeInsert (s : State) (v6 : Bool) (p n h : Nat) :
    let l := routesAfter v6 (s.routeList v6) (.routeInsert v6 p n h)
    s.applyOp (.routeInsert v6 p n h) = if s.routeRoom v6 < l.length then s.insertRefused else s.setRoutes v6 l := rfl

theorem State.applyOp_routeDelete (s : State) (v6 : Bool) (p n : Nat) :
    s.applyOp (.routeDelete v6 p n) = s.setRoutes v6 (routesAfter v6 (s.routeList v6) (.routeDelete v6 p n)) := by
  cases v6 <;> rfl

/-- The fields that an applied write shows its failure in. -/
abbrev applyFlds : List Fld :=
  [F.TBL_CNT_COUNT, F.TBL_STAT_INSERT_FAIL_EVT, F.TBL_OP_FAIL_PIPE, F.TBL_OP_FAIL_VID, F.TBL_OP_FAIL_MAC, F.SIG_OP_FAIL_KEY, F.SIG_OP_FAIL_KCLASS,
    F.SIG_OP_FAIL_LANE]

/-- From `s` to `t` the buffer and the registers but `applyFlds` are as before. -/
structure Applied (s t : State) : Prop where
  updBuf : t.updBuf = s.updBuf
  regs : RegsBut applyFlds s t

namespace Applied
variable {s t : State}

theorem refl : Applied s s := ⟨rfl, RegsBut.refl⟩

theorem wr (h : Applied s t) (f : Fld) (i v : Nat) (hf : f.id ∈ applyFlds.map Fld.id) : Applied s (t.wr f i v) := ⟨h.updBuf, h.regs.wr f i v hf⟩

theorem insertRefused (s : State) : Applied s s.insertRefused :=
  (refl.wr F.TBL_CNT_COUNT 8 _ (by decide)).wr F.TBL_STAT_INSERT_FAIL_EVT 0 1 (by decide)

theorem setRoutes (s : State) (v6 : Bool) (l : List Route) : Applied s (s.setRoutes v6 l) := by
  cases v6 <;> exact ⟨rfl, RegsBut.refl⟩

end Applied

/-- An insertion into an FDB changes that FDB alone. -/
theorem State.fdbInsert_some {s u : State} {i : Nat} {e : FdbEntry} (found : s.fdbInsert i e = some u) : ∃ x, u = s.setFdb i x := by
  obtain ⟨x, -, rfl⟩ := Option.map_eq_some_iff.mp found
  exact ⟨x, rfl⟩

theorem State.applyOp_applied (s : State) (op : TblOp) : Applied s (s.applyOp op) := by
  cases op with
  | word => exact ⟨rfl, RegsBut.refl⟩
  | fdbInsert sel m v st sy a k d =>
    unfold State.applyOp
    dsimp only
    split
    · next found =>
      obtain ⟨x, rfl⟩ := State.fdbInsert_some found
      exact ⟨rfl, RegsBut.refl⟩
    · exact (((Applied.insertRefused s).wr F.TBL_OP_FAIL_PIPE 0 _ (by decide)).wr F.TBL_OP_FAIL_VID 0 _ (by decide)).wr
        F.TBL_OP_FAIL_MAC 0 _ (by decide)
  | fdbDelete =>
    unfold State.applyOp
    dsimp only
    split
    · exact ⟨rfl, RegsBut.refl⟩
    · exact Applied.refl
  | routeInsert v6 p n h =>
    rw [State.applyOp_routeInsert]
    split
    · exact Applied.insertRefused s
    · exact Applied.setRoutes s v6 _
  | routeDelete v6 p n =>
    rw [State.applyOp_routeDelete]
    exact Applied.setRoutes s v6 _
  | sigInsert =>
    unfold State.applyOp
    dsimp only
    split
    · exact ⟨rfl, RegsBut.refl⟩
    · exact (((Applied.insertRefused s).wr F.SIG_OP_FAIL_KEY 0 _ (by decide)).wr F.SIG_OP_FAIL_KCLASS 0 _ (by decide)).wr
        F.SIG_OP_FAIL_LANE 0 _ (by decide)
  | sigDelete =>
    unfold State.applyOp
    dsimp only
    split
    · exact ⟨rfl, RegsBut.refl⟩
    · exact Applied.refl

theorem State.applyOp_word (s : State) (tid idx k : Nat) (v : Word) :
    (s.applyOp (.word tid idx k v)).rows.get 0 (rowKey tid idx) = putWord (s.rowApplied tid idx) tid k v.toNat
    ∧ ∀ r, r ≠ rowKey tid idx → (s.applyOp (.word tid idx k v)).rows.get 0 r = s.rows.get 0 r :=
  ⟨Tbl.get_set_same .., fun _ other => Tbl.get_set_ne _ _ _ _ _ other⟩

/-- An inserted route leaves the other family's routes; it is held where it fits, and else shown as failed. -/
theorem State.applyOp_routeInsert_spec (s : State) (v6 : Bool) (p n h : Nat) :
    let l := routesAfter v6 (s.routeList v6) (.routeInsert v6 p n h)
    let t := s.applyOp (.routeInsert v6 p n h)
    t.routeList (!v6) = s.routeList (!v6)
    ∧ (l.length ≤ s.routeRoom v6 → t.routeList v6 = l)
    ∧ (s.routeRoom v6 < l.length → t.routeList v6 = s.routeList v6 ∧ t.rd F.TBL_STAT_INSERT_FAIL_EVT 0 = 1) := by
  rw [State.applyOp_routeInsert]
  dsimp only
  split
  · next full => exact ⟨rfl, fun fits => absurd full (Nat.not_lt.2 fits), fun _ => ⟨rfl, State.rd_evt _ _ _ (by decide)⟩⟩
  · next fits => exact ⟨s.routeList_setRoutes_not v6 _, fun _ => s.routeList_setRoutes v6 _, fun full => absurd full fits⟩

theorem State.applyOp_routeDelete_spec (s : State) (v6 : Bool) (p n : Nat) :
    let t := s.applyOp (.routeDelete v6 p n)
    t.routeList v6 = routesAfter v6 (s.routeList v6) (.routeDelete v6 p n) ∧ t.routeList (!v6) = s.routeList (!v6) := by
  rw [State.applyOp_routeDelete]
  exact ⟨s.routeList_setRoutes v6 _, s.routeList_setRoutes_not v6 _⟩

/-- The state after the buffer's oldest write, `op`, has been applied, with `rest` behind it. -/
def State.oldestApplied (s : State) (rest : List BufWrite) (op : TblOp) : State := { s with updBuf := rest }.applyOp op

theorem exec_committedWriteApply {s : State} {w : BufWrite} {rest : List BufWrite} (oldest : s.updBuf = w :: rest) (due : s.committed w = true) :
    let t := s.oldestApplied rest w.op
    exec .committedWriteApply s = .next (t.wrb F.TBL_STAT_APPLYING 0 (t.updBuf.any t.committed)) := by
  change execCommittedWriteApply s = _
  rw [execCommittedWriteApply, oldest]
  exact if_pos due

/-- What stays of buffer and epoch, and what APPLYING shows, after the oldest write. -/
theorem State.oldestApplied_spec (s : State) (rest : List BufWrite) (op : TblOp) :
    let t := s.oldestApplied rest op
    let t' := t.wrb F.TBL_STAT_APPLYING 0 (t.updBuf.any t.committed)
    t'.updBuf = rest ∧ t'.rd F.TBL_STAT_APPLYING 0 = b2n (rest.any s.committed) ∧ t'.epoch = s.epoch := by
  intro t t'
  have applied : Applied { s with updBuf := rest } t := State.applyOp_applied _ op
  have epoch : t.epoch = s.epoch := applied.regs F.TBL_EPOCH_EPOCH 0 (by decide)
  refine ⟨applied.updBuf, ?_, (t.epoch_wr_fld _ _ (by decide)).trans epoch⟩
  have shows : t'.rd F.TBL_STAT_APPLYING 0 = b2n (t.updBuf.any t.committed) := (t.rd_wr_same ..).trans (b2n_mod_two _)
  rw [shows, applied.updBuf, State.committed_congr epoch]

end Sys2Proof.Machine
end

section
/-! SUPPORT. Changes of a pair's mode (spec 13 R288), and buckets that are pinned (R298). -/
namespace Sys2Proof.Machine

/-- From `s` to `t` no register but RED_CFG_EVT and no duplicate-discard entry changed. -/
structure PairsJudged (s t : State) : Prop where
  dd : t.dd = s.dd
  regs : RegsBut [F.TBL_RED_STAT_RED_CFG_EVT] s t

theorem PairsJudged.refl {s : State} : PairsJudged s s := ⟨rfl, RegsBut.refl⟩

theorem PairsJudged.trans {s t u : State} (h : PairsJudged s t) (h' : PairsJudged t u) : PairsJudged s u :=
  ⟨h'.dd.trans h.dd, h.regs.trans h'.regs⟩

theorem PairsJudged.evt {s t : State} (h : PairsJudged s t) : PairsJudged s (t.evt F.TBL_RED_STAT_RED_CFG_EVT 0) :=
  ⟨h.dd, h.regs.wr F.TBL_RED_STAT_RED_CFG_EVT 0 1 (by decide)⟩

theorem State.groupJudge_judged (s : State) (g : Nat) : PairsJudged s (s.groupJudge g) := by
  unfold State.groupJudge
  split
  · unfold State.aggConfigured
    dsimp only
    split
    · exact PairsJudged.evt ⟨rfl, RegsBut.refl⟩
    · exact ⟨rfl, RegsBut.refl⟩
  · exact PairsJudged.refl

theorem State.pairChange_judged (s : State) (i : Nat) : PairsJudged s (s.pairChange i) := by
  have checked : PairsJudged s (s.pairCheck i) := by
    unfold State.pairCheck
    dsimp only
    split
    · exact PairsJudged.refl.evt
    · exact PairsJudged.refl
  exact checked.trans (List.foldlRecOn _ State.groupJudge (motive := PairsJudged (s.pairCheck i)) PairsJudged.refl
    fun t ht g _ => ht.trans (t.groupJudge_judged g))

/-- A pair's mode is stored; another one clears the pair's duplicate-discard entries, the same one changes nothing. -/
theorem State.setPairMode_spec (s : State) (i : Nat) (mode : BitVec 2) :
    let t := s.setPairMode i mode.toNat
    t.rd F.TBL_RED_PAIR_MODE i = mode.toNat ∧ (s.rd F.TBL_RED_PAIR_MODE i ≠ mode.toNat → ∀ e ∈ t.dd, e.2.pair ≠ i)
    ∧ (s.rd F.TBL_RED_PAIR_MODE i = mode.toNat → t = s) := by
  unfold State.setPairMode
  dsimp only
  split
  · next same => exact ⟨same, fun other => absurd same other, fun _ => rfl⟩
  · next other =>
    generalize (portQueues (2 * i) ++ portQueues (2 * i + 1)).foldl (fun t q => t.flushQueue q 5) s = u
    obtain ⟨dd, regs⟩ :=
      State.pairChange_judged (State.wr { u with dd := u.dd.filter (fun e => decide (e.2.pair ≠ i)) } F.TBL_RED_PAIR_MODE i mode.toNat) i
    refine ⟨?_, fun _ e inTable => ?_, fun same => absurd same other⟩
    · exact (regs _ i (by decide)).trans ((State.rd_wr_same ..).trans (Nat.mod_eq_of_lt mode.isLt))
    · rw [dd] at inTable
      exact of_decide_eq_true (List.mem_filter.mp inTable).2

theorem exec_redPairModeWrite {s : State} (i : Fin 4) (mode : BitVec 2) (free : s.locked = false) :
    exec (.redPairModeWrite i mode) s = .next (s.setPairMode i mode.toNat) :=
  congrArg Host.Outcome.next (if_neg (Bool.eq_false_iff.1 free))

theorem exec_redPairModeWrite_locked {s : State} (i : Fin 4) (mode : BitVec 2) (locked : s.locked = true) :
    exec (.redPairModeWrite i mode) s = .next s :=
  congrArg Host.Outcome.next (if_pos locked)

theorem exec_bucketRepin {s : State} {g : Fin 16} {b : Fin 256} (moving : s.moving g b = true) (idle : s.inFlight g b = 0)
    (gap : s.gapPassed (256 * g + b) = true) :
    Does (.bucketRepin g b) s fun t => t.pinOf g b = s.targetOf g b ∧ t.rd F.TBL_RED_STAT_MOVE_EVT 0 = 1
      ∧ t.rd F.TBL_RED_CNT_COUNT 6 = (s.rd F.TBL_RED_CNT_COUNT 6 + 1) % 2 ^ F.TBL_RED_CNT_COUNT.width
      ∧ RegsBut [F.TBL_RED_CNT_COUNT, F.TBL_RED_STAT_MOVE_EVT] s t := by
  let u : State := { s with pins := s.pins.put (256 * g + b) (s.targetOf g b) }
  have run : exec (.bucketRepin g b) s = .next ((u.bump F.TBL_RED_CNT_COUNT 6).evt F.TBL_RED_STAT_MOVE_EVT 0) :=
    congrArg Host.Outcome.next (if_pos (by rw [moving, idle, gap]; rfl))
  refine ⟨_, run, congrArg (Option.getD · _) (Tbl.find_put_same ..), State.rd_evt _ _ _ (by decide), ?_, ?_⟩
  · exact (State.rd_wr_fld _ _ _ _ _ _ (by decide)).trans (u.rd_bump ..)
  · exact ((RegsBut.of_regs (t := u) rfl).wr F.TBL_RED_CNT_COUNT 6 _ (by decide)).wr F.TBL_RED_STAT_MOVE_EVT 0 1 (by decide)

/-- A signal limiter gains a token, up to its burst (11 R251). -/
theorem exec_sigRlRefill (s : State) (j : Fin 256) :
    Does (.sigRlRefill j) s fun t =>
      t.rd F.SIG_RL_TOKENS j = min (s.rd F.SIG_RL_TOKENS j + 1) (max 1 (s.rd F.SIG_RL_BURST j)) % 2 ^ F.SIG_RL_TOKENS.width
      ∧ t = { s with regs := t.regs } ∧ RegsBut [F.SIG_RL_TOKENS] s t ∧ ElemsBut F.SIG_RL_TOKENS j s t :=
  ⟨_, rfl, s.rd_wr_same .., rfl, RegsBut.refl.wr F.SIG_RL_TOKENS j _ (by decide), fun _ other => s.rd_wr_elem _ _ _ _ _ other⟩

end Sys2Proof.Machine
end

section
/-! SUPPORT. The statement about table writes, epochs, pair modes, buckets and signal limiters. -/
namespace Sys2Proof
open Sys2Proof.Machine

/-- Settles O32: writes join one by one while places are left (`bufferOne_room`, `bufferOne_full`), an increment of TBL_EPOCH is `bumpNow`, whose
drain check moves DRAIN_DONE_EVT alone, and the oldest committed write is `applyOp`. -/
theorem tableWritesBecomeVisibleByEpochs : Obligations.TableWritesBecomeVisibleByEpochs := by
  unfold Obligations.TableWritesBecomeVisibleByEpochs
  intro s op target i mode g b j
  refine ⟨fun inRange room => ?_, fun inRange full => ?_, fun o o' inRange one two => ?_, fun out => ?_, fun blocked => ?_, fun free => ?_,
    fun w rest oldest due => ?_, fun waits => ?_, fun held goes => ?_,
    fun unlocked => ⟨_, exec_redPairModeWrite i mode unlocked, s.setPairMode_spec i mode⟩,
    exec_redPairModeWrite_locked i mode, exec_bucketRepin, exec_sigRlRefill s j⟩
  · obtain ⟨buf, regs⟩ := s.foldl_bufferOne_room (opEntries op) room
    exact ⟨_, exec_tableEntryWrite inRange, buf, RegsBut.of_regs regs⟩
  · obtain ⟨buf, shown, counted, regs⟩ := State.foldl_bufferOne_full (opEntries_ne_nil op) full
    exact ⟨_, exec_tableEntryWrite inRange, buf, shown, counted, regs⟩
  · refine ⟨_, exec_tableEntryWrite inRange, ?_⟩
    rw [two]
    exact State.foldl_bufferOne_last o o' one
  · exact congrArg Host.Outcome.next (if_neg (Bool.eq_false_iff.1 out))
  · exact ⟨_, exec_epochBump_held blocked, rfl⟩
  · obtain ⟨epoch, held, buf, mac, applying⟩ := s.bumpNow_bumped.drainChecked
    exact ⟨_, exec_epochBump free, epoch, held, buf, mac, applying⟩
  · obtain ⟨buf, applying, epoch⟩ := s.oldestApplied_spec rest w.op
    refine ⟨_, exec_committedWriteApply oldest due, buf, applying, epoch, fun tid idx k v is => ?_, fun v6 p n h is => ?_, fun v6 p n is => ?_⟩
    all_goals rw [is]
    · exact State.applyOp_word _ tid idx k v
    · obtain ⟨other, fits, full⟩ := State.applyOp_routeInsert_spec { s with updBuf := rest } v6 p n h
      refine ⟨other, ?_⟩
      by_cases room : (routesAfter v6 (s.routeList v6) (.routeInsert v6 p n h)).length ≤ s.routeRoom v6
      · exact (if_pos room).mpr (fits room)
      · obtain ⟨own, failed⟩ := full (Nat.not_le.1 room)
        exact (if_neg room).mpr ⟨own, (State.rd_wr_fld _ _ _ _ _ _ (by decide)).trans failed⟩
    · exact State.applyOp_routeDelete_spec _ v6 p n
  · refine ⟨_, exec_drainTargetWrite s target, ?_⟩
    rw [State.drainService_waits (by rwa [s.on_held_drainAimed, s.bumpBlocked_drainAimed])]
    exact s.drainChecked_drainAimed target
  · exact ⟨_, exec_drainTargetWrite s target, State.drainService_drainAimed target held goes⟩

end Sys2Proof
end

section
/-! SUPPORT. Learning, aging and their notifications (spec 08 R175 to R180). -/
namespace Sys2Proof.Machine

/-! ### Notifications (R180) -/

/-- From `s` to `t` the FDBs, the learn queues and the table counters but the one of lost notifications are as before. -/
structure Notified (s t : State) : Prop where
  fdb : t.fdb = s.fdb
  learnQ : t.learnQ = s.learnQ
  counts : ∀ k, k ≠ 17 → t.rd F.TBL_CNT_COUNT k = s.rd F.TBL_CNT_COUNT k

theorem State.notify_notified (s : State) (code i port old vid mac : Nat) (sync : Bool) : Notified s (s.notify code i port old vid mac sync) := by
  unfold State.notify State.writeMem
  dsimp only
  split
  · exact ⟨rfl, rfl, fun _ _ => rfl⟩
  · split
    · exact ⟨rfl, rfl, fun _ other => (State.rd_wr_fld _ _ _ _ _ _ (by decide)).trans (State.rd_wr_elem _ _ _ _ _ _ other)⟩
    · split
      all_goals exact ⟨rfl, rfl, fun _ _ => (State.rd_wr_fld _ _ _ _ _ _ (by decide)).trans (State.rd_wr_fld _ _ _ _ _ _ (by decide))⟩

/-- From `s` to `t` counter `k` of the tables moved by one. -/
def TblCounts (k : Nat) (s t : State) : Prop := t.rd F.TBL_CNT_COUNT k = (s.rd F.TBL_CNT_COUNT k + 1) % 2 ^ F.TBL_CNT_COUNT.width

/-- An event that is counted and notified. -/
theorem State.notify_bump (s : State) {k : Nat} (other : k ≠ 17) (code i port old vid mac : Nat) (sync : Bool) :
    let t := (s.bump F.TBL_CNT_COUNT k).notify code i port old vid mac sync
    t.fdb = s.fdb ∧ t.learnQ = s.learnQ ∧ TblCounts k s t := by
  obtain ⟨fdb, learnQ, counts⟩ := (s.bump F.TBL_CNT_COUNT k).notify_notified code i port old vid mac sync
  exact ⟨fdb, learnQ, (counts k other).trans (s.rd_bump ..)⟩

/-! ### Learning (R175, R176) -/

/-- DEST_KIND of what a learn request teaches: a port, or the group of which it is a member. -/
def LearnReq.kind (r : LearnReq) : Nat := if r.agg.isSome then 1 else 0

/-- The destination that it teaches. -/
def LearnReq.dest (r : LearnReq) : Nat := r.agg.getD r.port

/-- The entry of a key that is learned first. -/
def LearnReq.entry (r : LearnReq) : FdbEntry := ⟨r.mac, r.vid, false, 0, false, r.kind, r.dest⟩

/-- The entry `e` after a frame that teaches what `r` says. -/
def LearnReq.refreshed (r : LearnReq) (e : FdbEntry) : FdbEntry := { e with age := 0, kind := r.kind, dest := r.dest }

/-- The limit of learned addresses of port `p` is reached (R177). -/
abbrev State.learnLimited (s : State) (i p : Nat) : Prop := s.on F.TBL_PORT_LEARN_LIMIT p = true ∧ s.rd F.TBL_PORT_LEARN_LIMIT p ≤ s.lcount i p

/-- A learn request whose key the FDB does not hold: it is inserted, unless the port's limit is reached (R177). -/
def State.learnNew (s : State) (i : Nat) (r : LearnReq) : State :=
  if s.on F.TBL_PORT_LEARN_LIMIT r.port && decide (s.rd F.TBL_PORT_LEARN_LIMIT r.port ≤ s.lcount i r.port) then s.bump F.TBL_CNT_COUNT 7
  else match s.fdbInsert i r.entry with
    | some u => (u.bump F.TBL_CNT_COUNT i).notify 1 i r.port 0xFF r.vid r.mac false
    | none => (s.bump F.TBL_CNT_COUNT 6).notify 4 i r.port 0xFF r.vid r.mac false

/-- A learn request whose key slot `n` of the FDB holds with entry `e`. -/
def State.learnKnown (s : State) (i : Nat) (r : LearnReq) (n : Nat) (e : FdbEntry) : State :=
  let same := decide (e.kind = r.kind) && decide (e.dest = r.dest)
  let moved := s.setFdb i ((s.fdbOf i).put n (r.refreshed e))
  if e.static then (if same then s else s.bump F.TBL_CNT_COUNT 3)
  else if same then s.setFdb i ((s.fdbOf i).put n { e with age := 0 })
  else (moved.bump F.TBL_CNT_COUNT 2).notify 2 i r.port e.portOr r.vid r.mac e.sync

section
variable {s : State} {i : Nat} {r : LearnReq} {n : Nat} {e : FdbEntry}

theorem State.learn_new (new : s.fdbSlot i r.vid r.mac = none) : s.learn i r = s.learnNew i r := by
  rw [State.learn, new]
  obtain ⟨vid, mac, port, agg⟩ := r
  cases agg <;> rfl

theorem State.learn_known (known : s.fdbSlot i r.vid r.mac = some (n, e)) : s.learn i r = s.learnKnown i r n e := by
  rw [State.learn, known]
  obtain ⟨vid, mac, port, agg⟩ := r
  cases agg <;> rfl

/-- A new key at the port's limit is counted. -/
theorem State.learnNew_limited (limited : s.learnLimited i r.port) :
    s.learnNew i r = s.bump F.TBL_CNT_COUNT 7 := by
  refine if_pos ?_
  rwa [Bool.and_eq_true, decide_eq_true_eq]

/-- A new key below the limit is inserted and counted under its pipeline, or its refusal is. -/
theorem State.learnNew_free (pipe : i ≠ 17) (free : ¬s.learnLimited i r.port) :
    (∀ u, s.fdbInsert i r.entry = some u → (s.learnNew i r).fdb = u.fdb ∧ TblCounts i s (s.learnNew i r))
    ∧ (s.fdbInsert i r.entry = none → (s.learnNew i r).fdb = s.fdb ∧ TblCounts 6 s (s.learnNew i r)) := by
  have below : ¬(s.on F.TBL_PORT_LEARN_LIMIT r.port && decide (s.rd F.TBL_PORT_LEARN_LIMIT r.port ≤ s.lcount i r.port)) = true := by
    rwa [Bool.and_eq_true, decide_eq_true_eq]
  rw [State.learnNew, if_neg below]
  refine ⟨fun u inserts => ?_, fun refused => ?_⟩
  · rw [inserts]
    obtain ⟨x, rfl⟩ := State.fdbInsert_some inserts
    obtain ⟨fdb, -, counted⟩ := (s.setFdb i x).notify_bump pipe 1 i r.port 0xFF r.vid r.mac false
    exact ⟨fdb, counted⟩
  · rw [refused]
    obtain ⟨fdb, -, counted⟩ := s.notify_bump (by decide : 6 ≠ 17) 4 i r.port 0xFF r.vid r.mac false
    exact ⟨fdb, counted⟩

/-- A static entry stays; one that names another destination counts a denied move. -/
theorem State.learnKnown_static (static : e.static = true) :
    (s.learnKnown i r n e).fdb = s.fdb ∧ (e.kind ≠ r.kind ∨ e.dest ≠ r.dest → TblCounts 3 s (s.learnKnown i r n e)) := by
  rw [State.learnKnown, if_pos static]
  split
  · next same =>
    rw [Bool.and_eq_true, decide_eq_true_eq, decide_eq_true_eq] at same
    exact ⟨rfl, fun other => absurd same (not_and_or.2 other)⟩
  · exact ⟨rfl, fun _ => s.rd_bump ..⟩

/-- A dynamic entry is refreshed; one that names another destination counts a move. -/
theorem State.learnKnown_dynamic (dynamic : ¬e.static = true) :
    ((s.learnKnown i r n e).fdbOf i).find n = some (r.refreshed e)
    ∧ (e.kind ≠ r.kind ∨ e.dest ≠ r.dest → TblCounts 2 s (s.learnKnown i r n e)) := by
  rw [State.learnKnown, if_neg dynamic]
  split
  · next same =>
    rw [Bool.and_eq_true, decide_eq_true_eq, decide_eq_true_eq] at same
    obtain ⟨kind, dest⟩ := same
    refine ⟨?_, fun other => absurd ⟨kind, dest⟩ (not_and_or.2 other)⟩
    rw [State.fdbOf_setFdb_same, Tbl.find_put_same, LearnReq.refreshed, ← kind, ← dest]
  · obtain ⟨fdb, -, counted⟩ :=
      (s.setFdb i ((s.fdbOf i).put n (r.refreshed e))).notify_bump (by decide : 2 ≠ 17) 2 i r.port e.portOr r.vid r.mac e.sync
    refine ⟨?_, fun _ => counted⟩
    rw [State.fdbOf, fdb]
    exact (congrArg (Tbl.find · n) (s.fdbOf_setFdb_same ..)).trans (Tbl.find_put_same ..)

/-- Learning leaves the requests that wait. -/
theorem State.learn_learnQ (s : State) (i : Nat) (r : LearnReq) : (s.learn i r).learnQ = s.learnQ := by
  cases found : s.fdbSlot i r.vid r.mac with
  | none =>
    rw [State.learn_new found, State.learnNew]
    split
    · rfl
    · split
      · next inserts =>
        obtain ⟨x, rfl⟩ := State.fdbInsert_some inserts
        exact (State.notify_notified _ 1 i r.port 0xFF r.vid r.mac false).learnQ
      · exact (State.notify_notified _ 4 i r.port 0xFF r.vid r.mac false).learnQ
  | some x =>
    obtain ⟨n, e⟩ := x
    rw [State.learn_known found, State.learnKnown]
    split
    · split <;> rfl
    · split
      · rfl
      · exact (State.notify_notified _ 2 i r.port e.portOr r.vid r.mac e.sync).learnQ

/-! ### The commands -/

/-- The state in which a pipeline's oldest learn request has left its queue. -/
def State.learnTaken (s : State) (p : Pipe) (rest : List LearnReq) : State := { s with learnQ := s.learnQ.set [] p.idx rest }

theorem exec_learnInsert {p : Pipe} {rest : List LearnReq} (awake : s.gated = false) (oldest : s.learnQ.get [] p.idx = r :: rest) :
    exec (.learnInsert p) s = .next (if s.updBuf.any (fun w => (opOnKey w.op p.idx r.vid r.mac).isSome) then s.learnTaken p rest
      else (s.learnTaken p rest).learn p.idx r) := by
  change execLearnInsert p s = _
  simp only [execLearnInsert, awake, oldest, Bool.false_eq_true, if_false]
  rfl

/-- An insertion does not look at the learn queues. -/
theorem State.fdbInsert_learnTaken (p : Pipe) (rest : List LearnReq) :
    (s.learnTaken p rest).fdbInsert i e = (s.fdbInsert i e).map fun u => { u with learnQ := s.learnQ.set [] p.idx rest } := by
  unfold State.fdbInsert
  rw [Option.map_map]
  rfl

end

/-- The sweep ages an entry, removes one of age 3, and passes over static and synchronised ones (R178). -/
theorem exec_ageSweepVisit {s : State} {p : Pipe} {slot : Fin 65600} {e : FdbEntry} (there : (s.fdbOf p.idx).find slot = some e)
    (awake : s.gated = false) (ages : s.on F.TBL_FDB_AGE_CFG_PERIOD_S 0 = true) :
    Does (.ageSweepVisit p slot) s fun t =>
      if e.static ∨ e.sync then t = s
      else if e.age = 3 then t.fdb = (s.fdbErase p.idx slot).fdb ∧ TblCounts 4 s t
      else (t.fdbOf p.idx).find slot = some { e with age := e.age + 1 } ∧ RegsBut [] s t := by
  have run : exec (.ageSweepVisit p slot) s = .next (if e.static ∨ e.sync then s
      else if e.age = 3 then ((s.fdbErase p.idx slot).bump F.TBL_CNT_COUNT 4).notify 3 p.idx e.portOr 0xFF e.vid e.mac false
      else s.setFdb p.idx ((s.fdbOf p.idx).put slot { e with age := e.age + 1 })) := by
    change execAgeSweepVisit p slot s = _
    simp only [execAgeSweepVisit, there, awake, ages, Bool.or_false, Bool.not_true, Bool.or_eq_true]
  refine ⟨_, run, ?_⟩
  split
  · rfl
  · split
    · obtain ⟨fdb, -, counted⟩ := (s.fdbErase p.idx slot).notify_bump (by decide : 4 ≠ 17) 3 p.idx e.portOr 0xFF e.vid e.mac false
      exact ⟨fdb, counted⟩
    · exact ⟨by rw [State.fdbOf_setFdb_same, Tbl.find_put_same], RegsBut.of_regs rfl⟩

theorem exec_ageSweepVisit_idle {s : State} {p : Pipe} {slot : Fin 65600}
    (idle : (s.fdbOf p.idx).find slot = none ∨ s.gated = true ∨ s.on F.TBL_FDB_AGE_CFG_PERIOD_S 0 = false) :
    exec (.ageSweepVisit p slot) s = .next s := by
  change execAgeSweepVisit p slot s = _
  cases there : (s.fdbOf p.idx).find slot with
  | none => simp only [execAgeSweepVisit, there]
  | some e =>
    have stays : (e.static || e.sync || s.gated || !s.on F.TBL_FDB_AGE_CFG_PERIOD_S 0) = true := by
      obtain empty | gated | off := idle
      · rw [there] at empty; cases empty
      · simp [gated]
      · simp [off]
    simp only [execAgeSweepVisit, there, if_pos stays]

/-- The ring indices after a write of EN. -/
def State.ringStarted (s : State) (en : Bool) : State :=
  if en && !s.on F.TBL_LN_CFG_EN 0 then (s.wr F.TBL_LN_HEAD_HEAD 0 0).wr F.TBL_LN_TAIL_TAIL 0 0 else s

/-- The fields of TBL_LN_CFG. -/
abbrev lnCfgFlds : List Fld := [F.TBL_LN_CFG_EN, F.TBL_LN_CFG_TARGET, F.TBL_LN_CFG_SIZE_LOG2, F.TBL_LN_CFG_EVENTS]

/-- TBL_LN_CFG written. -/
def State.lnCfgStored (s : State) (en target : Bool) (size : BitVec 5) (events : BitVec 4) : State :=
  (((s.wrb F.TBL_LN_CFG_EN 0 en).wrb F.TBL_LN_CFG_TARGET 0 target).wr F.TBL_LN_CFG_SIZE_LOG2 0 size.toNat).wr F.TBL_LN_CFG_EVENTS 0 events.toNat

theorem exec_lnCfgEnable (s : State) (en target : Bool) (size : BitVec 5) (events : BitVec 4) :
    exec (.lnCfgEnable en target size events) s = .next ((s.ringStarted en).lnCfgStored en target size events) := rfl

theorem State.lnCfgStored_spec (s : State) (en target : Bool) (size : BitVec 5) (events : BitVec 4) :
    let t := s.lnCfgStored en target size events
    t.rd F.TBL_LN_CFG_EN 0 = b2n en ∧ t.rd F.TBL_LN_CFG_TARGET 0 = b2n target ∧ t.rd F.TBL_LN_CFG_SIZE_LOG2 0 = size.toNat
    ∧ t.rd F.TBL_LN_CFG_EVENTS 0 = events.toNat ∧ RegsBut lnCfgFlds s t := by
  refine ⟨?_, ?_, ?_, (State.rd_wr_same ..).trans (Nat.mod_eq_of_lt events.isLt), ?_⟩
  · simp [State.lnCfgStored, State.wrb_eq_wr, State.rd_wr_fld, b2n_mod_two]
  · simp [State.lnCfgStored, State.wrb_eq_wr, State.rd_wr_fld, b2n_mod_two]
  · simp [State.lnCfgStored, State.rd_wr_fld, Nat.mod_eq_of_lt size.isLt]
  · exact (((RegsBut.refl.wr F.TBL_LN_CFG_EN 0 _ (by decide)).wr F.TBL_LN_CFG_TARGET 0 _ (by decide)).wr F.TBL_LN_CFG_SIZE_LOG2 0 _ (by decide)).wr
      F.TBL_LN_CFG_EVENTS 0 _ (by decide)

/-- Both indices are 0 when EN goes from 0 to 1, and stay otherwise. -/
theorem State.ringStarted_spec (s : State) (en : Bool) :
    let t := s.ringStarted en
    (if en = true ∧ s.on F.TBL_LN_CFG_EN 0 = false then t.rd F.TBL_LN_HEAD_HEAD 0 = 0 ∧ t.rd F.TBL_LN_TAIL_TAIL 0 = 0
      else t.rd F.TBL_LN_HEAD_HEAD 0 = s.rd F.TBL_LN_HEAD_HEAD 0 ∧ t.rd F.TBL_LN_TAIL_TAIL 0 = s.rd F.TBL_LN_TAIL_TAIL 0)
    ∧ t = { s with regs := t.regs } ∧ RegsBut [F.TBL_LN_HEAD_HEAD, F.TBL_LN_TAIL_TAIL] s t := by
  by_cases starts : en = true ∧ s.on F.TBL_LN_CFG_EN 0 = false
  · have ring : s.ringStarted en = (s.wr F.TBL_LN_HEAD_HEAD 0 0).wr F.TBL_LN_TAIL_TAIL 0 0 := if_pos (by rw [starts.1, starts.2]; rfl)
    rw [ring]
    refine ⟨(if_pos starts).mpr ⟨?_, State.rd_wr_same ..⟩, rfl, ?_⟩
    · exact (State.rd_wr_fld _ _ _ _ _ _ (by decide)).trans (s.rd_wr_same ..)
    · exact (RegsBut.refl.wr F.TBL_LN_HEAD_HEAD 0 0 (by decide)).wr F.TBL_LN_TAIL_TAIL 0 0 (by decide)
  · have ring : s.ringStarted en = s := if_neg (by rwa [Bool.and_eq_true, Bool.not_eq_true'])
    rw [ring]
    exact ⟨(if_neg starts).mpr ⟨rfl, rfl⟩, rfl, RegsBut.refl⟩

end Sys2Proof.Machine
end

section
/-! SUPPORT. The statement about learning, aging and notifications. -/
namespace Sys2Proof
open Sys2Proof.Machine

/-- Settles O33: the oldest request is `learnKnown` or `learnNew`, whose notification leaves FDBs and counters, and the sweep and the
configuration are their own equations. -/
theorem addressesAreLearnedAndAge : Obligations.AddressesAreLearnedAndAge := by
  unfold Obligations.AddressesAreLearnedAndAge
  intro s p slot en target size events
  refine ⟨fun r rest awake oldest buffered => ⟨_, exec_learnInsert awake oldest, if_pos buffered⟩, fun r rest awake oldest unbuffered => ?_,
    fun e there awake ages => exec_ageSweepVisit there awake ages, exec_ageSweepVisit_idle, ?_⟩
  · have run := exec_learnInsert awake oldest
    rw [if_neg (Bool.eq_false_iff.1 unbuffered)] at run
    refine ⟨_, run, ?_, fun n e known => ?_, fun new => ?_⟩
    · rw [State.learn_learnQ]
      exact Tbl.get_set_same ..
    · rw [State.learn_known (s := s.learnTaken p rest) known]
      split
      · next static => exact State.learnKnown_static static
      · next dynamic => exact State.learnKnown_dynamic dynamic
    · rw [State.learn_new (s := s.learnTaken p rest) new]
      split
      · next limited =>
        rw [State.learnNew_limited (s := s.learnTaken p rest) limited]
        exact ⟨rfl, State.rd_bump ..⟩
      · next free =>
        obtain ⟨inserted, refused⟩ := State.learnNew_free (s := s.learnTaken p rest) (by cases p <;> decide : p.idx ≠ 17) free
        split
        · next u inserts =>
          exact inserted { u with learnQ := s.learnQ.set [] p.idx rest }
            ((s.fdbInsert_learnTaken p rest).trans (congrArg (Option.map _) inserts))
        · next refuses => exact refused ((s.fdbInsert_learnTaken p rest).trans (congrArg (Option.map _) refuses))
  · obtain ⟨rings, rest, started⟩ := s.ringStarted_spec en
    obtain ⟨isEn, isTarget, isSize, isEvents, stored⟩ := (s.ringStarted en).lnCfgStored_spec en target size events
    refine ⟨_, exec_lnCfgEnable s en target size events, isEn, isTarget, isSize, isEvents, ?_, ?_,
      (started.mono (by decide)).trans (stored.mono (by decide))⟩
    · rwa [stored F.TBL_LN_HEAD_HEAD 0 (by decide), stored F.TBL_LN_TAIL_TAIL 0 (by decide)]
    · exact congrArg (fun q : State => { q with regs := ((s.ringStarted en).lnCfgStored en target size events).regs }) rest

end Sys2Proof
end

section
/-! SUPPORT. What ends the stay of a frame in Inkwell (spec 09 R197, R210, R219; 12 R273) changes: frames, cells, entries and time-stamp records. -/
namespace Sys2Proof.Machine

/-- From `s` to `t` the frames, the cells and entries of Inkwell and the time-stamp records alone change. -/
def StoreOnly (s t : State) : Prop := ∃ x k r, t = { s with frames := x, ink := k, tsRecs := r }

namespace StoreOnly
variable {s t u : State}

theorem refl : StoreOnly s s := ⟨_, _, _, rfl⟩

theorem trans (h : StoreOnly s t) (h' : StoreOnly t u) : StoreOnly s u := by
  obtain ⟨_, _, _, rfl⟩ := h
  obtain ⟨_, _, _, rfl⟩ := h'
  exact ⟨_, _, _, rfl⟩

theorem foldl {α : Type} {g : State → α → State} (l : List α) (s : State) (h : ∀ t x, StoreOnly t (g t x)) : StoreOnly s (l.foldl g s) :=
  List.foldlRecOn l g (motive := StoreOnly s) refl fun t ht x _ => ht.trans (h t x)

section
variable (h : StoreOnly s t)
include h

theorem regs : t.regs = s.regs := by obtain ⟨_, _, _, rfl⟩ := h; rfl
theorem queues : t.queues = s.queues := by obtain ⟨_, _, _, rfl⟩ := h; rfl
theorem can : t.can = s.can := by obtain ⟨_, _, _, rfl⟩ := h; rfl
theorem eth : t.eth = s.eth := by obtain ⟨_, _, _, rfl⟩ := h; rfl
theorem flight : t.flight = s.flight := by obtain ⟨_, _, _, rfl⟩ := h; rfl
theorem recirc : t.recirc = s.recirc := by obtain ⟨_, _, _, rfl⟩ := h; rfl
theorem transit : t.transit = s.transit := by obtain ⟨_, _, _, rfl⟩ := h; rfl
theorem rd (f : Fld) (i : Nat) : t.rd f i = s.rd f i := by rw [State.rd, h.regs, State.rd]
theorem queue (q : Nat) : t.queue q = s.queue q := by rw [State.queue, h.queues, State.queue]

end
end StoreOnly

section
variable (s : State)

theorem State.tsDone_store (i : Nat) : StoreOnly s (s.tsDone i) := by
  unfold State.tsDone
  split
  · split
    · exact StoreOnly.refl
    · exact ⟨_, _, _, rfl⟩
  · exact StoreOnly.refl

theorem State.tsHold_store (q i : Nat) : StoreOnly s (s.tsHold q i) := by
  unfold State.tsHold
  repeat' split
  all_goals exact ⟨_, _, _, rfl⟩

theorem State.finishRef_store (first : Nat) (pooled : Bool) : StoreOnly s (s.finishRef first pooled) := by
  unfold State.finishRef
  split
  · split
    · exact StoreOnly.trans ⟨_, _, _, rfl⟩ (State.tsDone_store _ _)
    · exact ⟨_, _, _, rfl⟩
  · exact StoreOnly.refl

theorem State.finish_store (e : QEnt) (pooled : Bool) : StoreOnly s (s.finish e pooled) :=
  StoreOnly.trans ⟨_, _, _, rfl⟩ (State.finishRef_store { s with ink := s.ink.giveEnt e.entry } e.first pooled)

theorem State.finishIn_store (q : Nat) (e : QEnt) (pooled : Bool) : StoreOnly s (s.finishIn q e pooled) := by
  refine StoreOnly.trans ?_ (State.finish_store _ e pooled)
  split
  · exact s.tsHold_store q _
  · exact StoreOnly.refl

/-- The frames of the Reservoir that go are held or freed as their consumers say. -/
theorem State.foldl_tsDone_store (l : List MidFrame) : StoreOnly s (l.foldl (fun t m => t.tsDone m.frame.tsIndex) s) :=
  StoreOnly.foldl l s fun t m => t.tsDone_store m.frame.tsIndex

theorem State.loseEnts_store (l : List QEnt) (pooled : Bool) : StoreOnly s (s.loseEnts l pooled) := by
  refine StoreOnly.foldl l s fun t e => ?_
  split
  · dsimp only
    split <;> exact ⟨_, _, _, rfl⟩
  · exact StoreOnly.refl

/-- Forgetting the head of a lane's queue changes CAN lanes alone. -/
theorem State.forgetHead_eq (q : Nat) : ∃ x, s.forgetHead q = { s with can := x } := by
  unfold State.forgetHead
  split <;> exact ⟨_, rfl⟩

end
end Sys2Proof.Machine
end

section
/-! SUPPORT. The events that queues and FIFOs post to the Nib engines (spec 10 R233), and what they leave. -/
namespace Sys2Proof.Machine

/-- The registers that show the event queue of an engine. -/
abbrev eventFlds : List Fld := [F.NIB_CNT_COUNT, F.NIB_EVQ_PEAK, F.NIB_STAT_EVQ_OVF_EVT]

/-- From `s` to `t` the engines and the registers of their event queues alone change. -/
def Posted (s t : State) : Prop := (∃ r n, t = { s with regs := r, nib := n }) ∧ RegsBut eventFlds s t

theorem Posted.refl {s : State} : Posted s s := ⟨⟨_, _, rfl⟩, RegsBut.refl⟩

theorem State.nibPush_posted (s : State) (n w : Nat) : Posted s (s.nibPush n w) := by
  have counted (e : NibEng) (k : Nat) : RegsBut eventFlds s ((s.setNib n e).nibCnt n k) :=
    RegsBut.wr (RegsBut.of_regs rfl) F.NIB_CNT_COUNT _ _ (by decide)
  unfold State.nibPush
  dsimp only
  split
  · exact ⟨⟨_, _, rfl⟩, (counted _ 3).wr F.NIB_EVQ_PEAK n _ (by decide)⟩
  · exact ⟨⟨_, _, rfl⟩, (counted _ 4).wr F.NIB_STAT_EVQ_OVF_EVT n 1 (by decide)⟩

theorem State.nibPost_posted (s : State) (n w : Nat) (same : Nat → Bool) : Posted s (s.nibPost n w same) := by
  unfold State.nibPost State.nibCoalesce
  split
  · exact Posted.refl
  · dsimp only
    split
    · exact ⟨⟨_, _, rfl⟩, RegsBut.of_regs rfl⟩
    · exact s.nibPush_posted n w

theorem State.queueEvent_posted (s : State) (q : Nat) : Posted s (s.queueEvent q) := by
  unfold State.queueEvent
  split
  · exact s.nibPost_posted _ _ _
  · exact Posted.refl

theorem State.fifoWatch_posted (s : State) (f : Nat) (t : State) : Posted t (s.fifoWatch f t) := by
  unfold State.fifoWatch
  split
  · exact t.queueEvent_posted _
  · exact Posted.refl

@[simp] theorem State.fifo_fifoWatch (s : State) (f : Nat) (t : State) (k : Nat) : (s.fifoWatch f t).fifo k = t.fifo k := by
  obtain ⟨⟨r, n, run⟩, -⟩ := s.fifoWatch_posted f t
  rw [run]; rfl

@[simp] theorem State.transit_fifoWatch (s : State) (f : Nat) (t : State) : (s.fifoWatch f t).transit = t.transit := by
  obtain ⟨⟨r, n, run⟩, -⟩ := s.fifoWatch_posted f t
  rw [run]

theorem State.rd_fifoWatch (s : State) (f : Nat) (t : State) {g : Fld} (i : Nat) (other : g.id ∉ eventFlds.map Fld.id) :
    (s.fifoWatch f t).rd g i = t.rd g i :=
  (s.fifoWatch_posted f t).2 g i other

/-- A FIFO that is left as it was calls no engine. -/
theorem State.fifoWatch_self (s : State) (f : Nat) : s.fifoWatch f s = s := by
  unfold State.fifoWatch
  exact if_neg (by cases s.fifoHead f <;> simp)

end Sys2Proof.Machine
end

section
/-! SUPPORT. The service of a FIFO after a change (spec 09 R203, R218): what it leaves of the FIFO and of the rest of the state. -/
namespace Sys2Proof.Machine

/-- The FIFO without its packets and the cells that wait for them: its producer, its blocks and their numbers. -/
def Fifo.bare (x : Fifo) : Fifo := { x with pkts := [], mid := [], midDone := 0, tail := [], asm := [] }

theorem Fifo.bare_assemble (x : Fifo) (n : Nat) : (x.assemble n).bare = x.bare := by
  induction n generalizing x with
  | zero => rfl
  | succ n ih =>
    unfold Fifo.assemble
    dsimp only
    split
    · rfl
    · split
      · exact ih _
      · rfl

theorem Fifo.bare_move (x : Fifo) (n : Nat) : (x.move n).bare = x.bare := by
  induction n generalizing x with
  | zero => rfl
  | succ n ih =>
    unfold Fifo.move
    split
    · rfl
    · split
      · exact ih _
      · rfl

theorem Fifo.bare_dropHead (x : Fifo) : x.dropHead.bare = x.bare := by
  unfold Fifo.dropHead
  split <;> rfl

/-- The state without its registers, and without what FIFOs, Inkwell and Nib engines hold. -/
def State.offFifos (s : State) : State := { s with regs := State.reset.regs, fifos := [], ink := State.reset.ink, nib := [] }

theorem Posted.offFifos {s t : State} (h : Posted s t) : t.offFifos = s.offFifos := by
  obtain ⟨⟨r, n, run⟩, -⟩ := h
  rw [run]; rfl

/-- From `s` to `t` FIFO `f` has been serviced: packets move and damaged ones are dropped, counted in DAMAGE_DROP. -/
structure Serviced (f : Nat) (s t : State) : Prop where
  rest : t.offFifos = s.offFifos
  regs : RegsBut [F.QUE_CNT_COUNT] s t
  counts : ∀ k, k % 8 ≠ 7 → t.rd F.QUE_CNT_COUNT k = s.rd F.QUE_CNT_COUNT k
  bare : (t.fifo f).bare = (s.fifo f).bare

namespace Serviced
variable {f : Nat} {s t u : State}

theorem refl : Serviced f s s := ⟨rfl, RegsBut.refl, fun _ _ => rfl, rfl⟩

theorem trans (h : Serviced f s t) (h' : Serviced f t u) : Serviced f s u :=
  ⟨h'.rest.trans h.rest, h.regs.trans h'.regs, fun k hk => (h'.counts k hk).trans (h.counts k hk), h'.bare.trans h.bare⟩

/-- What a FIFO and Inkwell hold is replaced, of the FIFO its packets alone. -/
theorem of_packets {k : InkSt} {x : Fifo} (same : x.bare = (s.fifo f).bare) : Serviced f s (({ s with ink := k } : State).setFifo f x) :=
  ⟨rfl, RegsBut.of_regs rfl, fun _ _ => rfl, by rw [State.fifo_setFifo_same]; exact same⟩

/-- A drop is counted. -/
theorem dropCounted (q : Nat) : Serviced f s (s.qcnt q 7) :=
  ⟨rfl, RegsBut.refl.wr F.QUE_CNT_COUNT _ _ (by decide), fun _ other => State.rd_wr_elem _ _ _ _ _ _ (by omega), rfl⟩

section
variable (h : Serviced f s t)
include h

theorem prod : (t.fifo f).prod = (s.fifo f).prod := (congrArg Fifo.prod h.bare :)
theorem blocks : (t.fifo f).blocks = (s.fifo f).blocks := (congrArg Fifo.blocks h.bare :)
theorem nextSeq : (t.fifo f).nextSeq = (s.fifo f).nextSeq := (congrArg Fifo.nextSeq h.bare :)
theorem expSeq : (t.fifo f).expSeq = (s.fifo f).expSeq := (congrArg Fifo.expSeq h.bare :)
theorem refill : (t.fifo f).refill = (s.fifo f).refill := (congrArg Fifo.refill h.bare :)
theorem stalled : (t.fifo f).stalled = (s.fifo f).stalled := (congrArg Fifo.stalled h.bare :)
theorem transit : t.transit = s.transit := (congrArg State.transit h.rest :)

end
end Serviced

section
variable (s : State) (f : Nat)

theorem State.fifoPrune_serviced (fuel : Nat) : Serviced f s (s.fifoPrune f fuel) := by
  induction fuel generalizing s with
  | zero => exact Serviced.refl
  | succ fuel ih =>
    unfold State.fifoPrune
    split
    · next p _ =>
      split
      · exact ((Serviced.of_packets (s.fifo f).bare_dropHead).trans (Serviced.dropCounted _)).trans (ih _)
      · exact Serviced.refl
    · exact Serviced.refl

theorem State.fifoService_serviced : Serviced f s (s.fifoService f) := by
  unfold State.fifoService
  refine Serviced.trans ?_ (State.fifoPrune_serviced _ f _)
  split
  · have filled : Serviced f s (s.fifoFill f) := Serviced.of_packets rfl
    exact filled.trans (Serviced.of_packets ((Fifo.bare_move _ _).trans (Fifo.bare_assemble _ _)))
  · exact Serviced.refl

/-- Where no packet is damaged, those of the head stay. -/
theorem State.pkts_fifoPrune (fuel : Nat) (good : (s.fifo f).pkts.any Pkt.bad = false) :
    ((s.fifoPrune f fuel).fifo f).pkts = (s.fifo f).pkts := by
  induction fuel generalizing s with
  | zero => rfl
  | succ fuel ih =>
    unfold State.fifoPrune
    split
    · next p head =>
      split
      · next drops =>
        have bad : p.bad = true := (Bool.and_eq_true_iff.mp drops).1
        have none : (s.fifo f).pkts = [] := by
          unfold Fifo.headPkt at head
          split at head
          · next p' l pkts =>
            obtain rfl := Option.some.inj head
            rw [pkts, List.any_cons, bad] at good
            exact absurd good (by simp)
          · next pkts => exact pkts
        have left : (s.fifo f).dropHead.pkts = [] := by
          unfold Fifo.dropHead
          rw [none]
        have after (k : InkSt) (q : Nat) : (((({ s with ink := k } : State).setFifo f (s.fifo f).dropHead).qcnt q 7).fifo f).pkts = [] := by
          rw [State.qcnt, State.bump_eq_wr, State.fifo_wr, State.fifo_setFifo_same, left]
        rw [ih _ (by rw [after]; rfl), after, none]
      · rfl
    · rfl

/-- A FIFO that is not deep and holds no damaged packet keeps its packets. -/
theorem State.pkts_fifoService (shallow : s.deep (512 + f) = false) (good : (s.fifo f).pkts.any Pkt.bad = false) :
    ((s.fifoService f).fifo f).pkts = (s.fifo f).pkts := by
  unfold State.fifoService
  rw [shallow]
  exact s.pkts_fifoPrune f _ good

/-! ### The end of a flush (R217) -/

theorem State.flushCheck_eq : ∃ r, s.flushCheck f = { s with regs := r } := by
  unfold State.flushCheck
  dsimp only
  split <;> exact ⟨_, rfl⟩

theorem State.flushCheck_regsBut : RegsBut [F.QUE_FIFO_FLUSH_FLUSH] s (s.flushCheck f) :=
  RegsBut.ite RegsBut.refl (RegsBut.refl.wr F.QUE_FIFO_FLUSH_FLUSH f 0 (by decide))

@[simp] theorem State.fifo_flushCheck (k : Nat) : (s.flushCheck f).fifo k = s.fifo k := by
  obtain ⟨r, run⟩ := s.flushCheck_eq f
  rw [run]; rfl

@[simp] theorem State.transit_flushCheck : (s.flushCheck f).transit = s.transit := by
  obtain ⟨r, run⟩ := s.flushCheck_eq f
  rw [run]

end
end Sys2Proof.Machine
end

section
/-! SUPPORT. The newest packet of a software FIFO, and its end (spec 09 R214, R217). -/
namespace Sys2Proof.Machine

/-! ### The newest packet -/

theorem Fifo.newest_pushPkt (x : Fifo) (deep : Bool) (p : Pkt) : (x.pushPkt deep p).newest deep = some p := by
  cases deep <;> exact List.getLast?_concat

theorem Fifo.newest_setNewest (x : Fifo) (deep : Bool) (p : Pkt) : (x.setNewest deep p).newest deep = some p := Fifo.newest_pushPkt ..

theorem Fifo.bare_setNewest (x : Fifo) (deep : Bool) (p : Pkt) : (x.setNewest deep p).bare = x.bare := by cases deep <;> rfl

theorem Fifo.bare_dropNewest (x : Fifo) (deep : Bool) : (x.dropNewest deep).bare = x.bare := by cases deep <;> rfl

theorem Fifo.pkts_setNewest (x : Fifo) (p : Pkt) : (x.setNewest false p).pkts = x.pkts.dropLast ++ [p] := rfl

/-! ### A packet ends (R214, R217) -/

/-- From `s` to `t` a packet of FIFO `f` has ended: drops and flushes are counted, a flush may be done, and the producer has what it had. -/
structure PacketEnded (f : Nat) (s t : State) : Prop where
  regs : RegsBut [F.QUE_CNT_COUNT, F.QUE_FIFO_FLUSH_FLUSH] s t
  counts : ∀ k, k % 8 ≠ 5 → k % 8 ≠ 7 → t.rd F.QUE_CNT_COUNT k = s.rd F.QUE_CNT_COUNT k
  bare : (t.fifo f).bare = (s.fifo f).bare

namespace PacketEnded
variable {f : Nat} {s t u : State}

theorem trans (h : PacketEnded f s t) (h' : PacketEnded f t u) : PacketEnded f s u :=
  ⟨h.regs.trans h'.regs, fun k h5 h7 => (h'.counts k h5 h7).trans (h.counts k h5 h7), h'.bare.trans h.bare⟩

theorem of_serviced (h : Serviced f s t) : PacketEnded f s t := ⟨h.regs.mono (by decide), fun k _ h7 => h.counts k h7, h.bare⟩

theorem flushChecked (h : PacketEnded f s t) : PacketEnded f s (t.flushCheck f) :=
  ⟨h.regs.trans ((t.flushCheck_regsBut f).mono (by decide)), fun k h5 h7 => (t.flushCheck_regsBut f _ k (by decide)).trans (h.counts k h5 h7),
    by rw [State.fifo_flushCheck, h.bare]⟩

theorem prod (h : PacketEnded f s t) : (t.fifo f).prod = (s.fifo f).prod := (congrArg Fifo.prod h.bare :)

end PacketEnded

section
variable (s : State) (f : Nat)

/-- Freeing the newest packet counts in FLUSH_DROP. -/
theorem State.freeNewest_spec {p : Pkt} (newest : (s.fifo f).newest (s.deep (512 + f)) = some p) :
    PacketEnded f s (s.freeNewest f) ∧ ((s.freeNewest f).fifo f).pkts = ((s.fifo f).dropNewest (s.deep (512 + f))).pkts
    ∧ (s.freeNewest f).rd F.QUE_CNT_COUNT (8 * (512 + f) + 5) = (s.rd F.QUE_CNT_COUNT (8 * (512 + f) + 5) + 1) % 2 ^ F.QUE_CNT_COUNT.width := by
  let t : State := ({ s with ink := s.ink.giveCells p.cells } : State).setFifo f ((s.fifo f).dropNewest (s.deep (512 + f)))
  have run : s.freeNewest f = (t.qcnt (512 + f) 5).flushCheck f := by simp only [State.freeNewest, newest]; rfl
  have freed : PacketEnded f s t := PacketEnded.of_serviced (Serviced.of_packets (Fifo.bare_dropNewest ..))
  have counted : PacketEnded f t (t.qcnt (512 + f) 5) :=
    ⟨RegsBut.refl.wr F.QUE_CNT_COUNT _ _ (by decide), fun k h5 _ => State.rd_wr_elem _ _ _ _ _ _ (by omega), rfl⟩
  rw [run]
  refine ⟨(freed.trans counted).flushChecked, ?_, ?_⟩
  · rw [State.fifo_flushCheck]
    exact congrArg Fifo.pkts (State.fifo_setFifo_same ..)
  · rw [State.flushCheck_regsBut _ _ _ _ (by decide)]
    exact t.rd_bump ..

/-- The newest packet is freed as it ends. -/
def State.endFrees (s : State) (f : Nat) (p : Pkt) : Bool := (p.flushed && !p.inCons) || (p.aborted && !s.cutThrough f)

/-- The state in which `p` is the newest packet of FIFO `f`. -/
def State.newestSet (s : State) (f : Nat) (p : Pkt) : State := s.setFifo f ((s.fifo f).setNewest (s.deep (512 + f)) p)

theorem State.endPkt_eq (p : Pkt) : s.endPkt f p = if s.endFrees f p then (s.newestSet f p).freeNewest f
    else ((s.newestSet f p).fifoService f).flushCheck f := rfl

theorem State.newest_newestSet (p : Pkt) : ((s.newestSet f p).fifo f).newest ((s.newestSet f p).deep (512 + f)) = some p := by
  rw [State.newestSet, State.fifo_setFifo_same]
  exact Fifo.newest_setNewest ..

theorem State.newestSet_serviced (p : Pkt) : Serviced f s (s.newestSet f p) := Serviced.of_packets (k := s.ink) (Fifo.bare_setNewest ..)

theorem State.endPkt_ended (p : Pkt) : PacketEnded f s (s.endPkt f p) := by
  have set : PacketEnded f s (s.newestSet f p) := PacketEnded.of_serviced (s.newestSet_serviced f p)
  rw [State.endPkt_eq]
  split
  · exact set.trans (State.freeNewest_spec _ f (s.newest_newestSet f p)).1
  · exact (set.trans (PacketEnded.of_serviced (State.fifoService_serviced _ f))).flushChecked

/-- A packet that is freed as it ends counts in FLUSH_DROP and leaves its FIFO. -/
theorem State.endPkt_freed {p : Pkt} (frees : s.endFrees f p = true) :
    (s.endPkt f p).rd F.QUE_CNT_COUNT (8 * (512 + f) + 5) = (s.rd F.QUE_CNT_COUNT (8 * (512 + f) + 5) + 1) % 2 ^ F.QUE_CNT_COUNT.width
    ∧ (s.deep (512 + f) = false → ((s.endPkt f p).fifo f).pkts = (s.fifo f).pkts.dropLast) := by
  obtain ⟨-, pkts, counted⟩ := (s.newestSet f p).freeNewest_spec f (s.newest_newestSet f p)
  rw [State.endPkt_eq, if_pos frees]
  refine ⟨counted, fun shallow => ?_⟩
  have still : (s.newestSet f p).deep (512 + f) = false := shallow
  rw [pkts, still, State.newestSet, State.fifo_setFifo_same, shallow]
  exact List.dropLast_concat

/-- A packet that ends and is not freed stays, closed, behind those before it, where no packet of the head is damaged. -/
theorem State.endPkt_kept {p : Pkt} (keeps : s.endFrees f p = false) (shallow : s.deep (512 + f) = false)
    (good : ((s.fifo f).pkts.dropLast ++ [p]).any Pkt.bad = false) :
    ((s.endPkt f p).fifo f).pkts = (s.fifo f).pkts.dropLast ++ [p] := by
  have pkts : ((s.newestSet f p).fifo f).pkts = (s.fifo f).pkts.dropLast ++ [p] := by
    rw [State.newestSet, State.fifo_setFifo_same, shallow, Fifo.pkts_setNewest]
  have still : (s.newestSet f p).deep (512 + f) = false := shallow
  rw [State.endPkt_eq, if_neg (Bool.eq_false_iff.1 keeps), State.fifo_flushCheck, State.pkts_fifoService _ f still (by rw [pkts, good]), pkts]

end
end Sys2Proof.Machine
end

section
/-! SUPPORT. What the producer's commands do to a software FIFO (spec 09 R212, R213, R216). -/
namespace Sys2Proof.Machine

section
variable (s : State) (f : Nat)

/-! ### OPEN (R212) -/

/-- The packet that OPEN starts. -/
abbrev Pkt.opened : Pkt := ⟨[], true, false, 0, false, false, [], false⟩

theorem State.fifoOpen_starts (free : (s.fifo f).prod = .none) :
    ((s.fifoOpen f).fifo f).prod = .building ∧ ((s.fifoOpen f).fifo f).newest (s.deep (512 + f)) = some Pkt.opened := by
  have run : s.fifoOpen f = s.setFifo f { (s.fifo f).pushPkt (s.deep (512 + f)) Pkt.opened with prod := .building } :=
    if_neg (not_not_intro free)
  rw [run, State.fifo_setFifo_same]
  refine ⟨rfl, ?_⟩
  have newest := (s.fifo f).newest_pushPkt (s.deep (512 + f)) Pkt.opened
  revert newest
  cases s.deep (512 + f) <;> exact id

theorem State.fifoOpen_refused (open' : (s.fifo f).prod ≠ .none) : s.fifoOpen f = s.lastProd f 4 := if_pos open'

/-! ### Without an open packet (R212) -/

theorem State.fifoData_none (w : Word) (free : (s.fifo f).prod = .none) : s.fifoData f w = s.lastProd f 5 := by
  simp only [State.fifoData, free]

theorem State.fifoCommit_none (flags trim : Nat) (free : (s.fifo f).prod = .none) : s.fifoCommit f flags trim = s.lastProd f 5 := by
  simp only [State.fifoCommit, free]

theorem State.fifoAbort_none (free : (s.fifo f).prod = .none) : s.fifoAbort f = s.lastProd f 5 := by
  simp only [State.fifoAbort, free]

/-! ### After the device's abort (R216) -/

theorem State.fifoData_dead (w : Word) (dead : (s.fifo f).prod = .dead) : s.fifoData f w = s := by
  simp only [State.fifoData, dead]

theorem State.fifoCommit_dead (flags trim : Nat) (dead : (s.fifo f).prod = .dead) :
    s.fifoCommit f flags trim = s.setFifo f { s.fifo f with prod := .none } := by
  simp only [State.fifoCommit, dead]

theorem State.fifoAbort_dead (dead : (s.fifo f).prod = .dead) : s.fifoAbort f = s.setFifo f { s.fifo f with prod := .none } := by
  simp only [State.fifoAbort, dead]

end

section
variable {s : State} {f : Nat} {p : Pkt}

/-! ### DATA (R212, R216) -/

/-- The state in which FIFO `f` has another producer. -/
def State.setProd (s : State) (f : Nat) (x : ProdSt) : State := s.setFifo f { s.fifo f with prod := x }

@[simp] theorem State.prod_setProd (s : State) (f : Nat) (x : ProdSt) : ((s.setProd f x).fifo f).prod = x :=
  congrArg Fifo.prod (State.fifo_setFifo_same ..)

@[simp] theorem State.pkts_setProd (s : State) (f : Nat) (x : ProdSt) : ((s.setProd f x).fifo f).pkts = (s.fifo f).pkts := by
  rw [State.setProd, State.fifo_setFifo_same]

theorem State.autoAbort_eq (s : State) (f : Nat) (p : Pkt) (code : Nat) : s.autoAbort f p code
    = ((((s.setProd f .dead).endPkt f { p with isOpen := false, aborted := true }).lastProd f code).qcnt (512 + f) 2).evt F.QUE_STAT_FIFO_ABORT_EVT 0 :=
  rfl

/-- The device's abort of a packet: LAST_PROD, a producer whose DATA is discarded, ADMIT_DROP and FIFO_ABORT_EVT. -/
theorem State.autoAbort_spec (s : State) (f : Nat) (p : Pkt) (code : Nat) : let t := s.autoAbort f p code
    t.rd F.QUE_FIFO_STAT_LAST_PROD f = code % 2 ^ F.QUE_FIFO_STAT_LAST_PROD.width ∧ (t.fifo f).prod = .dead
    ∧ t.rd F.QUE_CNT_COUNT (8 * (512 + f) + 2) = (s.rd F.QUE_CNT_COUNT (8 * (512 + f) + 2) + 1) % 2 ^ F.QUE_CNT_COUNT.width
    ∧ t.rd F.QUE_STAT_FIFO_ABORT_EVT 0 = 1 := by
  intro t
  have ended := (s.setProd f .dead).endPkt_ended f { p with isOpen := false, aborted := true }
  have run : t = _ := s.autoAbort_eq f p code
  rw [run]
  refine ⟨?_, ended.prod.trans (s.prod_setProd f .dead), ?_, State.rd_evt _ _ _ (by decide)⟩
  · rw [State.evt_eq_wr, State.rd_wr_fld _ _ _ _ _ _ (by decide), State.qcnt, State.bump_eq_wr, State.rd_wr_fld _ _ _ _ _ _ (by decide)]
    exact State.rd_wr_same ..
  · rw [State.evt_eq_wr, State.rd_wr_fld _ _ _ _ _ _ (by decide), State.qcnt, State.rd_bump, State.lastProd,
      State.rd_wr_fld _ _ _ _ _ _ (by decide), ended.counts _ (by omega) (by omega)]
    rfl

section
variable (building : (s.fifo f).prod = .building) (newest : (s.fifo f).newest (s.deep (512 + f)) = some p)
include building newest

theorem State.fifoData_long (w : Word) (long : ¬p.bytes.length + 4 ≤ 16380) : s.fifoData f w = s.autoAbort f p 6 := by
  simp only [State.fifoData, building, newest, if_pos (Nat.not_le.1 long)]

theorem State.fifoData_inCells (w : Word) (fits : p.bytes.length + 4 ≤ 16380) (room : cellsOf (8 + p.bytes.length) ≤ p.cells.length) :
    s.fifoData f w = s.setFifo f ((s.fifo f).setNewest (s.deep (512 + f)) { p with bytes := p.bytes ++ leBytes 4 w.toNat }) := by
  have room' : cellsOf (4 + (p.bytes.length + 4)) ≤ p.cells.length := by rwa [show 4 + (p.bytes.length + 4) = 8 + p.bytes.length by omega]
  simp only [State.fifoData, building, newest, if_neg (Nat.not_lt.2 fits), if_pos room']

/-- A DATA write that needs a cell takes one where the FIFO may have it, or else has the packet aborted. -/
theorem State.fifoData_noCells (w : Word) (fits : p.bytes.length + 4 ≤ 16380) (full : ¬cellsOf (8 + p.bytes.length) ≤ p.cells.length) :
    s.fifoData f w = match (if s.fifoAdmits f = true then s.ink.takeCell.2 else none) with
      | some c => ({ s with ink := s.ink.takeCell.1 } : State).setFifo f
          ((s.fifo f).setNewest (s.deep (512 + f)) { p with bytes := p.bytes ++ leBytes 4 w.toNat, cells := p.cells ++ [c] })
      | none => s.autoAbort f p 3 := by
  have full' : ¬cellsOf (4 + (p.bytes.length + 4)) ≤ p.cells.length := by rwa [show 4 + (p.bytes.length + 4) = 8 + p.bytes.length by omega]
  simp only [State.fifoData, building, newest, if_neg (Nat.not_lt.2 fits), if_neg full']
  by_cases admits : s.fifoAdmits f = true
  · simp only [if_pos admits]
    obtain ⟨k, _ | c⟩ := s.ink.takeCell <;> rfl
  · simp only [if_neg admits]

/-! ### COMMIT and ABORT (R212) -/

theorem State.fifoCommit_open (flags trim : Nat) : s.fifoCommit f flags trim
    = (((s.setProd f .none).qcnt (512 + f) 0).endPkt f
        { p with isOpen := false, flags := flags, bytes := p.bytes.take (p.bytes.length - trim) }).lastProd f 1 := by
  simp only [State.fifoCommit, building, newest]
  rfl

theorem State.fifoAbort_open : s.fifoAbort f
    = ((s.setProd f .none).endPkt f { p with isOpen := false, aborted := true }).lastProd f 2 := by
  simp only [State.fifoAbort, building, newest]
  rfl

theorem State.fifoCommit_spec (flags trim : Nat) : let t := s.fifoCommit f flags trim
    t.rd F.QUE_FIFO_STAT_LAST_PROD f = 1 ∧ (t.fifo f).prod = .none
    ∧ t.rd F.QUE_CNT_COUNT (8 * (512 + f)) = (s.rd F.QUE_CNT_COUNT (8 * (512 + f)) + 1) % 2 ^ F.QUE_CNT_COUNT.width
    ∧ (s.deep (512 + f) = false → p.flushed = false → p.aborted = false → (s.fifo f).pkts.any Pkt.bad = false →
      (t.fifo f).pkts = (s.fifo f).pkts.dropLast
        ++ [{ p with isOpen := false, flags := flags, bytes := p.bytes.take (p.bytes.length - trim) }]) := by
  intro t
  let u : State := (s.setProd f .none).qcnt (512 + f) 0
  let p' : Pkt := { p with isOpen := false, flags := flags, bytes := p.bytes.take (p.bytes.length - trim) }
  have run : t = (u.endPkt f p').lastProd f 1 := State.fifoCommit_open building newest flags trim
  have ended := u.endPkt_ended f p'
  rw [run]
  refine ⟨State.rd_wr_same .., ended.prod.trans (s.prod_setProd f .none), ?_, fun shallow unflushed unaborted good => ?_⟩
  · rw [State.lastProd, State.rd_wr_fld _ _ _ _ _ _ (by decide), ended.counts _ (by omega) (by omega)]
    exact State.rd_bump ..
  · have keeps : u.endFrees f p' = false := by simp only [State.endFrees, p', unflushed, unaborted, Bool.false_and, Bool.or_self]
    have pkts : (u.fifo f).pkts = (s.fifo f).pkts := s.pkts_setProd f .none
    have still : u.deep (512 + f) = false := (congrArg (fun n => decide (n ≠ 0)) (State.rd_wr_fld _ _ _ _ _ _ (by decide))).trans shallow
    have newest' : (s.fifo f).pkts.getLast? = some p := by rwa [shallow] at newest
    have sound : ∀ x ∈ (s.fifo f).pkts, ¬x.bad = true := List.any_eq_false.1 good
    refine (u.endPkt_kept f keeps still ?_).trans (by rw [pkts])
    rw [pkts, List.any_eq_false]
    intro x inside
    obtain before | last := List.mem_append.1 inside
    · exact sound x (List.mem_of_mem_dropLast before)
    · obtain rfl := List.mem_singleton.1 last
      exact sound p (List.mem_of_getLast? newest')

theorem State.fifoAbort_spec : let t := s.fifoAbort f
    t.rd F.QUE_FIFO_STAT_LAST_PROD f = 2 ∧ (t.fifo f).prod = .none
    ∧ (s.cutThrough f = false →
      t.rd F.QUE_CNT_COUNT (8 * (512 + f) + 5) = (s.rd F.QUE_CNT_COUNT (8 * (512 + f) + 5) + 1) % 2 ^ F.QUE_CNT_COUNT.width
      ∧ (s.deep (512 + f) = false → (t.fifo f).pkts = (s.fifo f).pkts.dropLast)) := by
  intro t
  let p' : Pkt := { p with isOpen := false, aborted := true }
  have run : t = ((s.setProd f .none).endPkt f p').lastProd f 2 := State.fifoAbort_open building newest
  rw [run]
  refine ⟨State.rd_wr_same .., (State.endPkt_ended _ f p').prod.trans (s.prod_setProd f .none), fun lengthFirst => ?_⟩
  have still : (s.setProd f .none).cutThrough f = false := lengthFirst
  have frees : (s.setProd f .none).endFrees f p' = true := by simp [State.endFrees, p', still]
  obtain ⟨counted, left⟩ := State.endPkt_freed _ f frees
  exact ⟨(State.rd_wr_fld _ _ _ _ _ _ (by decide)).trans counted, fun shallow => (left shallow).trans (by rw [State.pkts_setProd])⟩

end
end
end Sys2Proof.Machine
end

section
/-! SUPPORT. What the consumer's commands and flushes do to a software FIFO (spec 09 R215, R217). -/
namespace Sys2Proof.Machine
section
variable {s : State} {f : Nat}

/-! ### The consumer's side (R215) -/

/-- The oldest packet of the head is what the consumer sees, where it is visible. -/
theorem State.fifoHead_visible {p : Pkt} {r : List Pkt} (pkts : (s.fifo f).pkts = p :: r) (visible : s.pktVisible f p = true) :
    s.fifoHead f = some p := by
  simp only [State.fifoHead, Fifo.headPkt, pkts, visible, if_true]

/-- A read of the consume window changes its FIFO alone. -/
theorem State.fifoConsume_eq (s : State) (f : Nat) : ∃ x, s.fifoConsume f = { s with fifos := x } := by
  unfold State.fifoConsume
  split <;> exact ⟨_, rfl⟩

theorem State.fifoConsume_visible {p : Pkt} {r : List Pkt} (pkts : (s.fifo f).pkts = p :: r) (visible : s.pktVisible f p = true) :
    ((s.fifoConsume f).fifo f).pkts = { p with inCons := true } :: r := by
  rw [State.fifoConsume, State.fifoHead_visible pkts visible]
  simp only [State.fifo_setFifo_same, Fifo.onHead, pkts]

/-- POP removes a closed head packet and counts it. -/
theorem State.fifoPop_spec {p : Pkt} {r : List Pkt} (pkts : (s.fifo f).pkts = p :: r) (closed : p.isOpen = false) :
    let t := s.fifoPop f
    t.rd F.QUE_CNT_COUNT (8 * (512 + f) + 1) = (s.rd F.QUE_CNT_COUNT (8 * (512 + f) + 1) + 1) % 2 ^ F.QUE_CNT_COUNT.width
    ∧ (s.deep (512 + f) = false → (s.fifo f).pkts.any Pkt.bad = false → (t.fifo f).pkts = r) := by
  intro t
  let u : State := (({ s with ink := s.ink.giveCells p.cells } : State).setFifo f (s.fifo f).dropHead).qcnt (512 + f) 1
  have run : t = (u.fifoService f).flushCheck f := by
    have visible : s.pktVisible f p = true := by rw [State.pktVisible, closed]; rfl
    simp only [t, State.fifoPop, State.fifoHead_visible pkts visible, closed, Bool.false_eq_true, if_false]
    rfl
  have left : (u.fifo f).pkts = r := by
    have same : u.fifo f = (s.fifo f).dropHead := State.fifo_setFifo_same ..
    rw [same, Fifo.dropHead, pkts]
  have serviced := u.fifoService_serviced f
  rw [run]
  refine ⟨?_, fun shallow good => ?_⟩
  · rw [State.flushCheck_regsBut _ _ _ _ (by decide), serviced.counts _ (by omega)]
    exact State.rd_bump ..
  · have still : u.deep (512 + f) = false := (congrArg (fun n => decide (n ≠ 0)) (State.rd_wr_fld _ _ _ _ _ _ (by decide))).trans shallow
    rw [pkts, List.any_cons, Bool.or_eq_false_iff] at good
    rw [State.fifo_flushCheck, u.pkts_fifoService f still (by rw [left, good.2]), left]

/-! ### Flushes (R217) -/

/-- The packets of a FIFO, oldest first. -/
def Fifo.all (x : Fifo) : List Pkt := x.pkts ++ x.mid ++ x.tail

/-- A flush does not take this packet yet. -/
def Pkt.held (p : Pkt) : Bool := p.isOpen || p.inCons

/-- The packets that a flush marks. -/
def Fifo.marked (x : Fifo) : List Pkt := (x.all.filter Pkt.held).map fun p => { p with flushed := true }

/-- The FIFO after a flush. -/
def Fifo.flushed (x : Fifo) (deep : Bool) : Fifo :=
  { x with
    pkts := if deep then x.marked.filter (fun p => !p.isOpen) else x.marked
    tail := if deep then x.marked.filter (fun p => p.isOpen) else []
    mid := [], midDone := 0, asm := [], blocks := [], tailOff := 0, expSeq := x.nextSeq, refill := false }

theorem Fifo.marked_nil {x : Fifo} (free : x.all.any Pkt.held = false) : x.marked = [] := by
  rw [Fifo.marked, List.filter_eq_nil_iff.2 (List.any_eq_false.1 free), List.map_nil]

theorem Fifo.filter_unheld {x : Fifo} (free : x.all.any Pkt.held = false) : x.all.filter (fun p => !p.held) = x.all :=
  List.filter_eq_self.2 fun p mem => by rw [Bool.eq_false_iff.2 (List.any_eq_false.1 free p mem)]; rfl

/-- Of the packets that stay after a flush of held ones, one is marked. -/
theorem Fifo.any_flushed {x : Fifo} (deep : Bool) (held : x.all.any Pkt.held = true) :
    ((x.flushed deep).pkts ++ (x.flushed deep).mid ++ (x.flushed deep).tail).any Pkt.flushed = true := by
  obtain ⟨p, mem, isHeld⟩ := List.any_eq_true.1 held
  obtain ⟨q, mark, flushed⟩ : ∃ q ∈ x.marked, q.flushed = true := ⟨_, List.mem_map_of_mem (List.mem_filter.2 ⟨mem, isHeld⟩), rfl⟩
  refine List.any_eq_true.2 ⟨q, ?_, flushed⟩
  cases deep
  · exact List.mem_append_left _ (List.mem_append_left _ mark)
  · cases isOpen : q.isOpen
    · exact List.mem_append_left _ (List.mem_append_left _ (List.mem_filter.2 ⟨mark, by rw [isOpen]; rfl⟩))
    · exact List.mem_append_right _ (List.mem_filter.2 ⟨mark, isOpen⟩)

theorem State.fifoFlush_spec (s : State) (f : Nat) :
    let t := s.fifoFlush f
    let x := s.fifo f
    t.fifo f = x.flushed (s.deep (512 + f))
    ∧ t.rd F.QUE_FIFO_FLUSH_FLUSH f = b2n (x.all.any Pkt.held)
    ∧ t.rd F.QUE_CNT_COUNT (8 * (512 + f) + 5)
      = (s.rd F.QUE_CNT_COUNT (8 * (512 + f) + 5) + (x.all.filter (fun p => !p.held)).length) % 2 ^ F.QUE_CNT_COUNT.width := by
  intro t x
  obtain ⟨k, run⟩ : ∃ k, t = ((((({ s with ink := k } : State).setFifo f (x.flushed (s.deep (512 + f)))).bumpBy F.QUE_CNT_COUNT (8 * (512 + f) + 5)
      (x.all.filter (fun p => !p.held)).length).wr F.QUE_FIFO_FLUSH_FLUSH f 1).flushCheck f) := ⟨_, rfl⟩
  have fifo : t.fifo f = x.flushed (s.deep (512 + f)) := by
    rw [run, State.fifo_flushCheck]
    exact State.fifo_setFifo_same ..
  refine ⟨fifo, ?_, ?_⟩
  · rw [run, State.flushCheck]
    simp only [State.bumpBy_eq_wr, State.fifo_wr, State.fifo_setFifo_same]
    cases held : x.all.any Pkt.held
    · rw [if_neg, State.rd_wr_same]
      · rfl
      · simp [Fifo.flushed, Fifo.marked_nil held]
    · rw [if_pos (Fifo.any_flushed _ held), State.rd_wr_same]
      rfl
  · rw [run, State.flushCheck_regsBut _ _ _ _ (by decide), State.rd_wr_fld _ _ _ _ _ _ (by decide)]
    exact State.rd_wr_same ..

end
end Sys2Proof.Machine
end

section
/-! SUPPORT. Errors found in Inkwell, broken links and audits (spec 09 R218, R219). -/
namespace Sys2Proof.Machine

section
variable (s : State)

/-! ### What an error shows -/

/-- The fields of INK_ECC_LOG. -/
abbrev eccFlds : List Fld := [F.INK_ECC_LOG_UNCORR, F.INK_ECC_LOG_LINK, F.INK_ECC_LOG_ENTRY, F.INK_ECC_LOG_CELL]

theorem State.inkLog_regsBut (uncorr link entry : Bool) (idx : Nat) : RegsBut eccFlds s (s.inkLog uncorr link entry idx) :=
  (((RegsBut.refl.wr F.INK_ECC_LOG_UNCORR 0 _ (by decide)).wr F.INK_ECC_LOG_LINK 0 _ (by decide)).wr F.INK_ECC_LOG_ENTRY 0 _ (by decide)).wr
    F.INK_ECC_LOG_CELL 0 idx (by decide)

theorem State.rd_inkLog_uncorr (uncorr link entry : Bool) (idx : Nat) :
    (s.inkLog uncorr link entry idx).rd F.INK_ECC_LOG_UNCORR 0 = b2n uncorr := by
  rw [State.inkLog, State.rd_wr_fld _ _ _ _ _ _ (by decide), State.wrb_eq_wr, State.rd_wr_fld _ _ _ _ _ _ (by decide), State.wrb_eq_wr,
    State.rd_wr_fld _ _ _ _ _ _ (by decide), State.wrb_eq_wr, State.rd_wr_same]
  exact b2n_mod_two uncorr

theorem State.rd_inkLog_cell (uncorr link entry : Bool) (idx : Nat) :
    (s.inkLog uncorr link entry idx).rd F.INK_ECC_LOG_CELL 0 = idx % 2 ^ F.INK_ECC_LOG_CELL.width := State.rd_wr_same ..

/-! ### A damaged cell (R218) -/

/-- The registers that marking a cell may change: FIFOs drop what was damaged and call their engines. -/
abbrev markFlds : List Fld := F.QUE_CNT_COUNT :: eventFlds

/-- From `s` to `t` the registers `markFlds` alone change, and no report is sent. -/
def Marked (s t : State) : Prop := RegsBut markFlds s t ∧ t.transit = s.transit

theorem Fifo.bare_markCell (x : Fifo) (c : Nat) : (x.markCell c).bare = x.bare := by
  have stored (i : Nat) : (x.markStored i).bare = x.bare := by
    unfold Fifo.markStored
    split <;> rfl
  unfold Fifo.markCell
  split
  · exact stored _
  · rfl

/-- A FIFO of which a cell is damaged is serviced, and calls its engine. -/
theorem State.fifoMark_marked (f c : Nat) : Marked s (s.fifoWatch f ((s.setFifo f ((s.fifo f).markCell c)).fifoService f)) := by
  have marked : Serviced f s (s.setFifo f ((s.fifo f).markCell c)) := Serviced.of_packets (k := s.ink) (Fifo.bare_markCell ..)
  have serviced := marked.trans (State.fifoService_serviced _ f)
  exact ⟨(serviced.regs.mono (by decide)).trans ((State.fifoWatch_posted s f _).2.mono (by decide)),
    (State.transit_fifoWatch ..).trans serviced.transit⟩

theorem State.markDamaged_marked (c : Nat) : Marked s (s.markDamaged c) := by
  unfold State.markDamaged
  split
  · exact ⟨RegsBut.of_regs rfl, rfl⟩
  · refine List.foldlRecOn _ _ (motive := Marked s) ⟨RegsBut.of_regs rfl, rfl⟩ fun t ⟨regs, transit⟩ e _ => ?_
    obtain ⟨regs', transit'⟩ := t.fifoMark_marked e.1 c
    exact ⟨regs.trans regs', transit'.trans transit⟩

/-- The frame that holds a damaged cell is marked. -/
theorem State.frames_markDamaged {s : State} {c k : Nat} {g : Frame} (holds : s.frameWith c = some (k, g)) :
    (s.markDamaged c).frames.find k = some { g with damaged := true } := by
  rw [State.markDamaged, holds]
  exact Tbl.find_put_same ..

/-- A cell of a frame lies on no free list. -/
theorem State.cellUsed_of_frame {s : State} {c k : Nat} {g : Frame} (holds : s.frameWith c = some (k, g)) : s.cellUsed c = true := by
  rw [State.cellUsed, holds]; rfl

/-- The state in which an uncorrectable error in cell `c` has been counted and logged. -/
def State.cellLost (s : State) (c : Nat) : State :=
  ((s.bump F.INK_CNT_COUNT 1).inkLog true false false c).evt F.QUE_STAT_CELL_UNCORR_EVT 0

theorem exec_inkwellScrub_lost (s : State) (c : Fin 131072) : exec (.inkwellScrub c .uncorrectable) s
    = .next (if s.cellUsed c then ((s.cellLost c).markDamaged c).report (0x120 + c.val % 32) (elemId 4 (c.val % 32)) c
      else (s.cellLost c).report (0x100 + c.val % 32) (elemId 4 (c.val % 32)) c) := rfl

theorem State.cellLost_spec (c : Fin 131072) :
    (s.cellLost c).rd F.INK_CNT_COUNT 1 = (s.rd F.INK_CNT_COUNT 1 + 1) % 2 ^ F.INK_CNT_COUNT.width
    ∧ (s.cellLost c).rd F.INK_ECC_LOG_UNCORR 0 = 1 ∧ (s.cellLost c).rd F.QUE_STAT_CELL_UNCORR_EVT 0 = 1 := by
  refine ⟨?_, ?_, State.rd_evt _ _ _ (by decide)⟩
  · rw [State.cellLost, State.evt_eq_wr, State.rd_wr_fld _ _ _ _ _ _ (by decide), State.inkLog_regsBut _ _ _ _ _ _ _ (by decide), State.rd_bump]
  · rw [State.cellLost, State.evt_eq_wr, State.rd_wr_fld _ _ _ _ _ _ (by decide), State.rd_inkLog_uncorr]; rfl

/-! ### Audits (R219) -/

/-- A request for an audit changes AUDITING and what Inkwell remembers of audits. -/
theorem State.auditRequest_eq : ∃ r k, s.auditRequest = { s with regs := r, ink := k } := by
  unfold State.auditRequest
  split <;> exact ⟨_, _, rfl⟩

theorem State.auditRequest_regsBut : RegsBut [F.QUE_STAT_AUDITING] s s.auditRequest :=
  RegsBut.ite (RegsBut.of_regs rfl) (RegsBut.wr (RegsBut.of_regs rfl) F.QUE_STAT_AUDITING 0 1 (by decide))

/-- After a request an audit runs; while one ran, a further one is asked for. -/
theorem State.auditRequest_spec : s.auditRequest.on F.QUE_STAT_AUDITING 0 = true
    ∧ (s.on F.QUE_STAT_AUDITING 0 = true → s.auditRequest.ink.auditAgain = true) := by
  unfold State.auditRequest
  split
  · next runs => exact ⟨runs, fun _ => rfl⟩
  · next idle => exact ⟨congrArg (fun n => decide (n ≠ 0)) (State.rd_wr_same ..), fun runs => absurd runs idle⟩

/-! ### Broken links (R219) -/

/-- From `s` to `t` drops are counted, and no report is sent. -/
def DropsCounted (s t : State) : Prop := RegsBut [F.QUE_CNT_COUNT] s t ∧ t.transit = s.transit

/-- The state in which the head of queue `q`, when it is lost, is forgotten. -/
def State.headForgotten (s : State) (q i : Nat) : State := if i = 0 then s.forgetHead q else s

theorem State.headForgotten_eq (q i : Nat) : ∃ x, s.headForgotten q i = { s with can := x } := by
  unfold State.headForgotten
  split
  · exact s.forgetHead_eq q
  · exact ⟨_, rfl⟩

/-- A queue is cut at entry `i`: of its head the entries before it stay, what the others held is lost, and the drops are counted. -/
theorem State.breakQueue_eq (q i : Nat) : ∃ y u n, y.head = ((s.headForgotten q i).queue q).head.take i
    ∧ StoreOnly ((s.headForgotten q i).setQueue q y) u ∧ s.breakQueue q i = u.bumpBy F.QUE_CNT_COUNT (8 * q + 7) n := by
  have all (t : State) (k : InkSt) (gone tail : List QEnt) (mid : List MidFrame) (pooled : Bool) :
      StoreOnly t (mid.foldl (fun t m => t.tsDone m.frame.tsIndex) ((({ t with ink := k } : State).loseEnts gone pooled).loseEnts tail true)) := by
    have given : StoreOnly t { t with ink := k } := ⟨_, _, _, rfl⟩
    exact ((given.trans (State.loseEnts_store _ gone pooled)).trans (State.loseEnts_store _ tail true)).trans (State.foldl_tsDone_store _ mid)
  unfold State.breakQueue
  change ∃ y u n, _ ∧ _ ∧ (if i < ((s.headForgotten q i).queue q).head.length ∨ (s.headForgotten q i).deep q = false then _ else _) = _
  split
  · exact ⟨{ Queue.init with
        head := ((s.headForgotten q i).queue q).head.take i
        nextSeq := ((s.headForgotten q i).queue q).nextSeq, expSeq := ((s.headForgotten q i).queue q).nextSeq },
      _, _, rfl, all _ _ _ _ _ _, rfl⟩
  · next behind =>
    refine ⟨{ (s.headForgotten q i).queue q with tail := _ }, _, _, ?_, State.loseEnts_store _ _ true, rfl⟩
    exact (List.take_of_length_le (Nat.le_of_not_lt fun inside => behind (.inl inside))).symm

theorem State.breakQueue_spec (q i : Nat) : DropsCounted s (s.breakQueue q i) ∧ ((s.breakQueue q i).queue q).head = (s.queue q).head.take i := by
  obtain ⟨y, u, n, head, store, run⟩ := s.breakQueue_eq q i
  obtain ⟨x, forgotten⟩ := s.headForgotten_eq q i
  rw [run]
  rw [forgotten] at head store
  refine ⟨⟨RegsBut.wr (RegsBut.of_regs store.regs) F.QUE_CNT_COUNT _ _ (by decide), store.transit⟩, ?_⟩
  rw [State.bumpBy_eq_wr, State.queue_wr, store.queue, State.queue_setQueue_same]
  exact head

/-- A FIFO is cut at packet `i`: of its head the packets before it stay. -/
theorem State.breakFifo_spec (f i : Nat) : DropsCounted s (s.breakFifo f i) ∧ ((s.breakFifo f i).fifo f).pkts = (s.fifo f).pkts.take i := by
  unfold State.breakFifo
  extract_lets x inHead j gone mid y y' k k'
  refine ⟨⟨RegsBut.wr (RegsBut.of_regs rfl) F.QUE_CNT_COUNT _ _ (by decide), rfl⟩, ?_⟩
  rw [State.bumpBy_eq_wr, State.fifo_wr, State.fifo_setFifo_same]
  have pkts : y.pkts = x.pkts.take i := by
    unfold y
    split
    · rfl
    · next behind =>
      have short : ¬i < x.pkts.length := fun inside => behind (by simp [inHead, inside])
      exact (List.take_of_length_le (Nat.le_of_not_lt short)).symm
  exact pkts

theorem State.cutFreeList_eq (c : Nat) : ∃ k, s.cutFreeList c = { s with ink := k } := by
  unfold State.cutFreeList
  dsimp only
  split <;> exact ⟨_, rfl⟩

end
end Sys2Proof.Machine
end

section
/-! SUPPORT. What the commands of the FIFOs, of Inkwell's faults and of audits do (spec 09 R212 to R219). -/
namespace Sys2Proof.Machine

/-! ### The producer's commands -/

section
variable {s : State} {f : Fin 256}

theorem exec_fifoOpen (s : State) (f : Fin 256) : exec (.fifoOpen f) s = .next (s.fifoWatch f (s.fifoOpen f)) := rfl
theorem exec_fifoData (s : State) (f : Fin 256) (w : Word) : exec (.fifoData f w) s = .next (s.fifoWatch f (s.fifoData f w)) := rfl
theorem exec_fifoCommit (s : State) (f : Fin 256) (flags : BitVec 6) (trim : BitVec 2) :
    exec (.fifoCommit f flags trim) s = .next (s.fifoWatch f (s.fifoCommit f flags.toNat trim.toNat)) := rfl
theorem exec_fifoAbort (s : State) (f : Fin 256) : exec (.fifoAbort f) s = .next (s.fifoWatch f (s.fifoAbort f)) := rfl

/-- A FIFO's command is done when its engine has been called. -/
theorem does_watched {c : Instr} {s u : State} {f : Nat} {P : State → Prop} (run : exec c s = .next (s.fifoWatch f u)) (holds : P (s.fifoWatch f u)) :
    Does c s P :=
  ⟨_, run, holds⟩

/-- LAST_PROD shows the code of a command. -/
theorem State.rd_lastProd (s t : State) (f v : Nat) : (s.fifoWatch f (t.lastProd f v)).rd F.QUE_FIFO_STAT_LAST_PROD f = v % 2 ^ 3 :=
  (s.rd_fifoWatch f _ f (by decide)).trans (State.rd_wr_same ..)

/-- The device's abort of the open packet, as the commands show it. -/
theorem State.autoAbort_watched (s : State) (f : Nat) (p : Pkt) (code : Nat) : let t := s.fifoWatch f (s.autoAbort f p code)
    t.rd F.QUE_FIFO_STAT_LAST_PROD f = code % 2 ^ F.QUE_FIFO_STAT_LAST_PROD.width ∧ (t.fifo f).prod = .dead
    ∧ t.rd F.QUE_CNT_COUNT (8 * (512 + f) + 2) = (s.rd F.QUE_CNT_COUNT (8 * (512 + f) + 2) + 1) % 2 ^ F.QUE_CNT_COUNT.width
    ∧ t.rd F.QUE_STAT_FIFO_ABORT_EVT 0 = 1 := by
  obtain ⟨last, prod, counted, event⟩ := s.autoAbort_spec f p code
  dsimp only
  rw [State.rd_fifoWatch _ _ _ _ (by decide), State.rd_fifoWatch _ _ _ _ (by decide), State.rd_fifoWatch _ _ _ _ (by decide), State.fifo_fifoWatch]
  exact ⟨last, prod, counted, event⟩

theorem exec_fifoOpen_starts (free : (s.fifo f).prod = .none) : Does (.fifoOpen f) s fun t =>
    (t.fifo f).prod = .building ∧ (t.fifo f).newest (s.deep (512 + f)) = some ⟨[], true, false, 0, false, false, [], false⟩ := by
  refine does_watched (exec_fifoOpen s f) ?_
  rw [State.fifo_fifoWatch]
  exact s.fifoOpen_starts f free

theorem exec_fifoOpen_refused (busy : (s.fifo f).prod ≠ .none) : Does (.fifoOpen f) s fun t =>
    t.rd F.QUE_FIFO_STAT_LAST_PROD f = 4 ∧ t.fifo f = s.fifo f := by
  refine does_watched (exec_fifoOpen s f) ?_
  rw [s.fifoOpen_refused f busy, State.rd_lastProd, State.fifo_fifoWatch]
  exact ⟨rfl, rfl⟩

/-- Without an open packet every other command of the producer has code 5. -/
theorem exec_fifo_none (w : Word) (flags : BitVec 6) (trim : BitVec 2) (free : (s.fifo f).prod = .none) :
    let last (t : State) : Prop := t.rd F.QUE_FIFO_STAT_LAST_PROD f = 5
    Does (.fifoData f w) s last ∧ Does (.fifoCommit f flags trim) s last ∧ Does (.fifoAbort f) s last := by
  refine ⟨does_watched (exec_fifoData s f w) ?_, does_watched (exec_fifoCommit s f flags trim) ?_, does_watched (exec_fifoAbort s f) ?_⟩
  · rw [s.fifoData_none f w free]
    exact s.rd_lastProd s f 5
  · rw [s.fifoCommit_none f _ _ free]
    exact s.rd_lastProd s f 5
  · rw [s.fifoAbort_none f free]
    exact s.rd_lastProd s f 5

/-- After the device's abort DATA does nothing, and COMMIT or ABORT ends that. -/
theorem exec_fifo_dead (w : Word) (flags : BitVec 6) (trim : BitVec 2) (dead : (s.fifo f).prod = .dead) :
    exec (.fifoData f w) s = .next s ∧ Does (.fifoCommit f flags trim) s (fun t => t.fifo f = { s.fifo f with prod := .none })
    ∧ Does (.fifoAbort f) s (fun t => t.fifo f = { s.fifo f with prod := .none }) := by
  refine ⟨?_, does_watched (exec_fifoCommit s f flags trim) ?_, does_watched (exec_fifoAbort s f) ?_⟩
  · rw [exec_fifoData, s.fifoData_dead f w dead, State.fifoWatch_self]
  · rw [s.fifoCommit_dead f _ _ dead, State.fifo_fifoWatch, State.fifo_setFifo_same]
  · rw [s.fifoAbort_dead f dead, State.fifo_fifoWatch, State.fifo_setFifo_same]

theorem exec_fifoData_aborts (w : Word) (p : Pkt) (code : Nat) (aborts : s.fifoData f w = s.autoAbort f p code) : Does (.fifoData f w) s fun t =>
    t.rd F.QUE_FIFO_STAT_LAST_PROD f = code % 2 ^ F.QUE_FIFO_STAT_LAST_PROD.width ∧ (t.fifo f).prod = .dead
    ∧ t.rd F.QUE_CNT_COUNT (8 * (512 + f) + 2) = (s.rd F.QUE_CNT_COUNT (8 * (512 + f) + 2) + 1) % 2 ^ F.QUE_CNT_COUNT.width
    ∧ t.rd F.QUE_STAT_FIFO_ABORT_EVT 0 = 1 := by
  refine does_watched (exec_fifoData s f w) ?_
  rw [aborts]
  exact s.autoAbort_watched f p code

section
variable {p : Pkt} (building : (s.fifo f).prod = .building) (newest : (s.fifo f).newest (s.deep (512 + f)) = some p)
include building newest

theorem exec_fifoData_inCells (w : Word) (fits : p.bytes.length + 4 ≤ 16380) (room : cellsOf (8 + p.bytes.length) ≤ p.cells.length) :
    Does (.fifoData f w) s fun t => (t.fifo f).newest (s.deep (512 + f)) = some { p with bytes := p.bytes ++ leBytes 4 w.toNat } := by
  refine does_watched (exec_fifoData s f w) ?_
  rw [State.fifoData_inCells building newest w fits room, State.fifo_fifoWatch, State.fifo_setFifo_same, Fifo.newest_setNewest]

theorem exec_fifoData_cell (w : Word) (fits : p.bytes.length + 4 ≤ 16380) (full : ¬cellsOf (8 + p.bytes.length) ≤ p.cells.length) {k : Nat}
    (cell : (if s.fifoAdmits f = true then s.ink.takeCell.2 else none) = some k) :
    Does (.fifoData f w) s fun t =>
      (t.fifo f).newest (s.deep (512 + f)) = some { p with bytes := p.bytes ++ leBytes 4 w.toNat, cells := p.cells ++ [k] } := by
  refine does_watched (exec_fifoData s f w) ?_
  rw [State.fifoData_noCells building newest w fits full, cell, State.fifo_fifoWatch, State.fifo_setFifo_same, Fifo.newest_setNewest]

theorem exec_fifoCommit_open (flags : BitVec 6) (trim : BitVec 2) : Does (.fifoCommit f flags trim) s fun t =>
    t.rd F.QUE_FIFO_STAT_LAST_PROD f = 1 ∧ (t.fifo f).prod = .none
    ∧ t.rd F.QUE_CNT_COUNT (8 * (512 + f)) = (s.rd F.QUE_CNT_COUNT (8 * (512 + f)) + 1) % 2 ^ F.QUE_CNT_COUNT.width
    ∧ (s.deep (512 + f) = false → p.flushed = false → p.aborted = false → (s.fifo f).pkts.any Pkt.bad = false →
      (t.fifo f).pkts = (s.fifo f).pkts.dropLast
        ++ [{ p with isOpen := false, flags := flags.toNat, bytes := p.bytes.take (p.bytes.length - trim.toNat) }]) := by
  refine does_watched (exec_fifoCommit s f flags trim) ?_
  rw [State.rd_fifoWatch _ _ _ _ (by decide), State.rd_fifoWatch _ _ _ _ (by decide), State.fifo_fifoWatch]
  exact State.fifoCommit_spec building newest _ _

theorem exec_fifoAbort_open : Does (.fifoAbort f) s fun t =>
    t.rd F.QUE_FIFO_STAT_LAST_PROD f = 2 ∧ (t.fifo f).prod = .none
    ∧ (s.cutThrough f = false →
      t.rd F.QUE_CNT_COUNT (8 * (512 + f) + 5) = (s.rd F.QUE_CNT_COUNT (8 * (512 + f) + 5) + 1) % 2 ^ F.QUE_CNT_COUNT.width
      ∧ (s.deep (512 + f) = false → (t.fifo f).pkts = (s.fifo f).pkts.dropLast)) := by
  refine does_watched (exec_fifoAbort s f) ?_
  rw [State.rd_fifoWatch _ _ _ _ (by decide), State.rd_fifoWatch _ _ _ _ (by decide), State.fifo_fifoWatch]
  exact State.fifoAbort_spec building newest

end

/-! ### The consumer's commands -/

theorem exec_fifoConsumeRead {ini : Initiator} (runs : s.coreHalted ini = false) (word : Fin 4096) :
    Does (.fifoConsumeRead ini f word) s fun t => t.answer = some ⟨ini, .done, s.fifoWindow f (4 * word)⟩ ∧ RegsBut [] s t
      ∧ ∀ p r, (s.fifo f).pkts = p :: r → s.pktVisible f p = true → (t.fifo f).pkts = { p with inCons := true } :: r := by
  let u := s.reply ini .done (s.fifoWindow f (4 * word))
  have run : exec (.fifoConsumeRead ini f word) s = .next (u.fifoConsume f) := congrArg Host.Outcome.next (if_neg (Bool.eq_false_iff.1 runs))
  refine ⟨_, run, ?_, ?_, fun p r pkts visible => State.fifoConsume_visible (s := u) pkts visible⟩
  · obtain ⟨x, consumed⟩ := u.fifoConsume_eq f
    rw [consumed]; rfl
  · obtain ⟨x, consumed⟩ := u.fifoConsume_eq f
    rw [consumed]; exact RegsBut.of_regs rfl

theorem exec_fifoConsumeRead_halted {ini : Initiator} (halted : s.coreHalted ini = true) (word : Fin 4096) :
    exec (.fifoConsumeRead ini f word) s = .next s :=
  congrArg Host.Outcome.next (if_pos halted)

theorem exec_fifoPop {p : Pkt} {r : List Pkt} (pkts : (s.fifo f).pkts = p :: r) (closed : p.isOpen = false) : Does (.fifoPop f) s fun t =>
    t.rd F.QUE_CNT_COUNT (8 * (512 + f) + 1) = (s.rd F.QUE_CNT_COUNT (8 * (512 + f) + 1) + 1) % 2 ^ F.QUE_CNT_COUNT.width
    ∧ (s.deep (512 + f) = false → (s.fifo f).pkts.any Pkt.bad = false → (t.fifo f).pkts = r) := by
  refine does_watched (f := f) (u := s.fifoPop f) rfl ?_
  rw [State.rd_fifoWatch _ _ _ _ (by decide), State.fifo_fifoWatch]
  exact State.fifoPop_spec pkts closed

theorem exec_fifoFlush (s : State) (f : Fin 256) : Does (.fifoFlush f) s fun t =>
    t.fifo f = (s.fifo f).flushed (s.deep (512 + f)) ∧ t.rd F.QUE_FIFO_FLUSH_FLUSH f = b2n ((s.fifo f).all.any Pkt.held)
    ∧ t.rd F.QUE_CNT_COUNT (8 * (512 + f) + 5)
      = (s.rd F.QUE_CNT_COUNT (8 * (512 + f) + 5) + ((s.fifo f).all.filter (fun p => !p.held)).length) % 2 ^ F.QUE_CNT_COUNT.width := by
  refine does_watched (f := f) (u := s.fifoFlush f) rfl ?_
  rw [State.fifo_fifoWatch, State.rd_fifoWatch _ _ _ _ (by decide), State.rd_fifoWatch _ _ _ _ (by decide)]
  exact s.fifoFlush_spec f

end

/-! ### Inkwell's faults -/

theorem exec_inkwellScrub_corrected (s : State) (c : Fin 131072) : Does (.inkwellScrub c .corrected) s fun t =>
    t.rd F.INK_CNT_COUNT 0 = (s.rd F.INK_CNT_COUNT 0 + 1) % 2 ^ F.INK_CNT_COUNT.width ∧ t.rd F.INK_ECC_LOG_CELL 0 = c
    ∧ t.rd F.INK_ECC_LOG_UNCORR 0 = 0 ∧ t.transit = s.transit ++ [⟨0x100 + c.val % 32, elemId 4 (c.val % 32), c⟩] := by
  refine ⟨((s.bump F.INK_CNT_COUNT 0).inkLog false false false c).report (0x100 + c.val % 32) (elemId 4 (c.val % 32)) c, rfl, ?_, ?_, ?_, rfl⟩
  · rw [State.rd_report, State.inkLog_regsBut _ _ _ _ _ _ _ (by decide), State.rd_bump]
  · rw [State.rd_report, State.rd_inkLog_cell]
    exact Nat.mod_eq_of_lt c.isLt
  · rw [State.rd_report, State.rd_inkLog_uncorr]; rfl

theorem exec_inkwellScrub_uncorrectable (s : State) (c : Fin 131072) : Does (.inkwellScrub c .uncorrectable) s fun t =>
    t.rd F.INK_CNT_COUNT 1 = (s.rd F.INK_CNT_COUNT 1 + 1) % 2 ^ F.INK_CNT_COUNT.width ∧ t.rd F.INK_ECC_LOG_UNCORR 0 = 1
    ∧ t.rd F.QUE_STAT_CELL_UNCORR_EVT 0 = 1
    ∧ t.transit = s.transit ++ [⟨(if s.cellUsed c then 0x120 else 0x100) + c.val % 32, elemId 4 (c.val % 32), c⟩]
    ∧ ∀ k g, s.frameWith c = some (k, g) → t.frames.find k = some { g with damaged := true } := by
  obtain ⟨counted, logged, event⟩ := s.cellLost_spec c
  obtain ⟨regs, transit⟩ := (s.cellLost c).markDamaged_marked c
  have run := exec_inkwellScrub_lost s c
  by_cases holds : s.cellUsed c = true
  · rw [if_pos holds] at run ⊢
    exact ⟨_, run, (State.rd_report ..).trans ((regs _ _ (by decide)).trans counted),
      (State.rd_report ..).trans ((regs _ _ (by decide)).trans logged), (State.rd_report ..).trans ((regs _ _ (by decide)).trans event),
      congrArg (· ++ _) transit, fun k g frame => State.frames_markDamaged (s := s.cellLost c) frame⟩
  · rw [if_neg holds] at run ⊢
    exact ⟨_, run, (State.rd_report ..).trans counted, (State.rd_report ..).trans logged, (State.rd_report ..).trans event, rfl, fun k g frame => absurd (State.cellUsed_of_frame frame) holds⟩

/-- The state in which a broken link has been counted, shown and logged. -/
def State.linkNoted (s : State) (entry : Bool) (idx : Nat) : State :=
  ((s.bump F.INK_CNT_COUNT 2).evt F.QUE_STAT_LINK_PARITY_EVT 0).inkLog true true entry idx

theorem State.linkNoted_spec (s : State) (entry : Bool) (idx : Nat) :
    (s.linkNoted entry idx).rd F.INK_CNT_COUNT 2 = (s.rd F.INK_CNT_COUNT 2 + 1) % 2 ^ F.INK_CNT_COUNT.width
    ∧ (s.linkNoted entry idx).rd F.QUE_STAT_LINK_PARITY_EVT 0 = 1 := by
  refine ⟨?_, (State.inkLog_regsBut _ _ _ _ _ _ _ (by decide)).trans (State.rd_evt _ _ _ (by decide))⟩
  rw [State.linkNoted, State.inkLog_regsBut _ _ _ _ _ _ _ (by decide), State.evt_eq_wr, State.rd_wr_fld _ _ _ _ _ _ (by decide), State.rd_bump]

/-- The registers that the repair of a broken link may change. -/
abbrev brokenFlds : List Fld := F.QUE_CNT_COUNT :: F.QUE_FIFO_FLUSH_FLUSH :: eventFlds

/-- A broken link that has been cut is reported, and an audit runs; what was noted of it stays. -/
theorem State.linkReported {s u : State} {entry : Bool} {idx : Nat} (regs : RegsBut brokenFlds (s.linkNoted entry idx) u)
    (transit : u.transit = s.transit) (src elem info : Nat) : let t := (u.report src elem info).auditRequest
    t.rd F.INK_CNT_COUNT 2 = (s.rd F.INK_CNT_COUNT 2 + 1) % 2 ^ F.INK_CNT_COUNT.width ∧ t.rd F.QUE_STAT_LINK_PARITY_EVT 0 = 1
    ∧ (∀ q, t.queue q = u.queue q) ∧ (∀ f, t.fifo f = u.fifo f) ∧ t.transit = s.transit ++ [⟨src, elem, info⟩] ∧ t.on F.QUE_STAT_AUDITING 0 = true := by
  intro t
  obtain ⟨counted, event⟩ := s.linkNoted_spec entry idx
  have audit := (u.report src elem info).auditRequest_regsBut
  obtain ⟨r, k, asked⟩ := (u.report src elem info).auditRequest_eq
  refine ⟨?_, ?_, fun q => ?_, fun f => ?_, ?_, (u.report src elem info).auditRequest_spec.1⟩
  · exact (audit _ _ (by decide)).trans ((regs _ _ (by decide)).trans counted)
  · exact (audit _ _ (by decide)).trans ((regs _ _ (by decide)).trans event)
  · rw [show t = _ from asked]; rfl
  · rw [show t = _ from asked]; rfl
  · rw [show t = _ from asked, ← transit]; rfl

theorem exec_linkParityError_queue (s : State) (q : Fin 512) (pos idx : Nat) (entry : Bool) : Does (.linkParityError (.queue q pos entry idx)) s fun t =>
    t.rd F.INK_CNT_COUNT 2 = (s.rd F.INK_CNT_COUNT 2 + 1) % 2 ^ F.INK_CNT_COUNT.width ∧ t.rd F.QUE_STAT_LINK_PARITY_EVT 0 = 1
    ∧ (t.queue q).head = (s.queue q).head.take pos ∧ t.transit = s.transit ++ [⟨0x140, elemId 5 q, idx⟩] ∧ t.on F.QUE_STAT_AUDITING 0 = true := by
  let u := (s.linkNoted entry idx).breakQueue q pos
  have run : exec (.linkParityError (.queue q pos entry idx)) s = .next (u.report 0x140 (elemId 5 q) idx).auditRequest := by
    change Host.Outcome.next (State.auditRequest (State.report (if q.val < 512 then _ else _) _ _ _)) = _
    rw [if_pos q.isLt]
    rfl
  obtain ⟨⟨regs, transit⟩, head⟩ := (s.linkNoted entry idx).breakQueue_spec q pos
  obtain ⟨counted, event, queues, -, reported, audits⟩ := State.linkReported (regs.mono (by decide)) transit 0x140 (elemId 5 q) idx
  exact ⟨_, run, counted, event, by rw [queues, head]; rfl, reported, audits⟩

theorem exec_linkParityError_fifo (s : State) (f : Fin 256) (pos idx : Nat) (entry : Bool) :
    Does (.linkParityError (.queue (512 + f) pos entry idx)) s fun t =>
      t.rd F.INK_CNT_COUNT 2 = (s.rd F.INK_CNT_COUNT 2 + 1) % 2 ^ F.INK_CNT_COUNT.width ∧ t.rd F.QUE_STAT_LINK_PARITY_EVT 0 = 1
      ∧ (t.fifo f).pkts = (s.fifo f).pkts.take pos ∧ t.transit = s.transit ++ [⟨0x140, elemId 5 (512 + f), idx⟩]
      ∧ t.on F.QUE_STAT_AUDITING 0 = true := by
  let n := s.linkNoted entry idx
  let u := n.fifoWatch f ((n.breakFifo f pos).flushCheck f)
  have run : exec (.linkParityError (.queue (512 + f) pos entry idx)) s = .next (u.report 0x140 (elemId 5 (512 + f)) idx).auditRequest := by
    change Host.Outcome.next (State.auditRequest (State.report (if 512 + f.val < 512 then _ else _) _ _ _)) = _
    rw [if_neg (by omega), Nat.add_sub_cancel_left]
    rfl
  obtain ⟨⟨regs, transit⟩, pkts⟩ := n.breakFifo_spec f pos
  have cut : RegsBut brokenFlds n u := (regs.mono (by decide)).trans
    (((State.flushCheck_regsBut _ f).mono (by decide)).trans ((State.fifoWatch_posted n f _).2.mono (by decide)))
  have silent : u.transit = s.transit := by
    rw [State.transit_fifoWatch, State.transit_flushCheck]
    exact transit
  obtain ⟨counted, event, -, fifos, reported, audits⟩ := State.linkReported cut silent 0x140 (elemId 5 (512 + f)) idx
  refine ⟨_, run, counted, event, ?_, reported, audits⟩
  rw [fifos, State.fifo_fifoWatch, State.fifo_flushCheck, pkts]
  rfl

theorem exec_linkParityError_freeList (s : State) (c : Nat) : Does (.linkParityError (.freeList c)) s fun t =>
    t.rd F.INK_CNT_COUNT 2 = (s.rd F.INK_CNT_COUNT 2 + 1) % 2 ^ F.INK_CNT_COUNT.width ∧ t.rd F.QUE_STAT_LINK_PARITY_EVT 0 = 1
    ∧ t.transit = s.transit ++ [⟨0x143, elemId 3 0, c⟩] ∧ t.on F.QUE_STAT_AUDITING 0 = true := by
  obtain ⟨k, cut⟩ := (s.linkNoted false c).cutFreeList_eq c
  have regs : RegsBut brokenFlds (s.linkNoted false c) ((s.linkNoted false c).cutFreeList c) := by rw [cut]; exact RegsBut.of_regs rfl
  have transit : ((s.linkNoted false c).cutFreeList c).transit = s.transit := by rw [cut]; rfl
  obtain ⟨counted, event, -, -, reported, audits⟩ := State.linkReported regs transit 0x143 (elemId 3 0) c
  exact ⟨_, rfl, counted, event, reported, audits⟩

/-! ### Audits -/

/-- The end of an audit: AUDITING shows whether a further one runs, and what was lost before it began is no longer lost. -/
theorem exec_cellAuditDone {s : State} (runs : s.on F.QUE_STAT_AUDITING 0 = true) : Does .cellAuditDone s fun t =>
    t.rd F.QUE_STAT_AUDITING 0 = b2n s.ink.auditAgain ∧ t.rd F.QUE_STAT_AUDIT_DONE_EVT 0 = 1
    ∧ t.ink.lostCells = s.ink.lostCells.drop s.ink.auditCells ∧ t.ink.lostEnts = s.ink.lostEnts.drop s.ink.auditEnts := by
  obtain ⟨k, n, cells, ents, run⟩ : ∃ k n, k.lostCells = s.ink.lostCells.drop s.ink.auditCells ∧ k.lostEnts = s.ink.lostEnts.drop s.ink.auditEnts
      ∧ exec .cellAuditDone s = .next (((((({ s with ink := k } : State).bumpBy F.INK_CNT_COUNT 3 n).evt F.QUE_STAT_AUDIT_DONE_EVT 0).wrb
        F.QUE_STAT_AUDITING 0 s.ink.auditAgain)).endRecovery .forwarding .audit) :=
    ⟨_, _, rfl, rfl, congrArg Host.Outcome.next (if_pos runs)⟩
  have ended (t : State) : ∃ x, t.endRecovery .forwarding .audit = { t with recov := x } := by
    unfold State.endRecovery
    dsimp only
    split <;> exact ⟨_, rfl⟩
  rw [(ended _).choose_spec] at run
  refine ⟨_, run, ?_, ?_, cells, ents⟩
  · exact (State.rd_wr_same ..).trans (b2n_mod_two _)
  · exact (State.rd_wr_fld _ _ _ _ _ _ (by decide)).trans (State.rd_evt _ _ _ (by decide))

end Sys2Proof.Machine
end

section
/-! SUPPORT. The statement about software FIFOs and Inkwell's faults. -/
namespace Sys2Proof
open Sys2Proof.Machine

/-- Settles O35: a producer's command is its own equation by the producer's state, the end of a packet counts drops and flushes alone
(`endPkt_ended`), a consumer's command serves the FIFO, and a broken link is noted, cut and reported (`linkReported`). -/
theorem fifosAndInkwellFaults : Obligations.FifosAndInkwellFaults := by
  unfold Obligations.FifosAndInkwellFaults
  intro s f w flags trim ini word c q pos idx entry
  refine ⟨exec_fifoOpen_starts, exec_fifoOpen_refused, exec_fifo_none w flags trim, exec_fifo_dead w flags trim, fun p building newest => ?_,
    fun runs => exec_fifoConsumeRead runs word, fun halted => exec_fifoConsumeRead_halted halted word, fun p r => exec_fifoPop,
    fun free => ?_, fun held => ?_, rfl, exec_inkwellScrub_corrected s c, exec_inkwellScrub_uncorrectable s c,
    exec_linkParityError_queue s q pos idx entry, exec_linkParityError_fifo s f pos idx entry, exec_linkParityError_freeList s c,
    ⟨_, rfl, s.auditRequest_spec⟩, exec_cellAuditDone⟩
  · refine ⟨exec_fifoData_inCells building newest w, fun k fits full => exec_fifoData_cell building newest w fits full,
      fun fits full none => exec_fifoData_aborts w p 3 ?_, fun long => exec_fifoData_aborts w p 6 (State.fifoData_long building newest w long),
      exec_fifoCommit_open building newest flags trim, exec_fifoAbort_open building newest⟩
    rw [State.fifoData_noCells building newest w fits full, none]
  · obtain ⟨t, run, fifo, reads, counted⟩ := exec_fifoFlush s f
    replace free : (s.fifo f).all.any Pkt.held = false := free
    rw [free] at reads
    rw [Fifo.filter_unheld free] at counted
    refine ⟨t, run, ?_, ?_, ?_, ?_, reads, counted⟩
    all_goals simp [fifo, Fifo.flushed, Fifo.marked_nil free]
  · obtain ⟨t, run, fifo, reads, -⟩ := exec_fifoFlush s f
    replace held : (s.fifo f).all.any Pkt.held = true := held
    rw [held] at reads
    refine ⟨t, run, reads, ?_, ?_, fun shallow => ?_⟩
    · rw [fifo]; rfl
    · rw [fifo]; rfl
    · rw [fifo, shallow]; rfl

end Sys2Proof
end

section
/-! SUPPORT. The service of a deep queue (spec 09 R203), and flushes of queues (R210, R211). -/
namespace Sys2Proof.Machine

/-! ### What the service of a deep queue leaves -/

/-- The queue without its frames and the cells that wait for them: its blocks and their numbers. -/
def Queue.bare (x : Queue) : Queue := { x with head := [], mid := [], midDone := 0, tail := [], asm := [] }

/-- From `s` to `t` queues, frames and Inkwell alone change, and of queue `q` its frames alone. -/
structure DeepServed (q : Nat) (s t : State) : Prop where
  rest : ∃ y x k, t = { s with queues := y, frames := x, ink := k }
  bare : (t.queue q).bare = (s.queue q).bare

namespace DeepServed
variable {q : Nat} {s t u : State}

theorem refl : DeepServed q s s := ⟨⟨_, _, _, rfl⟩, rfl⟩

theorem trans (h : DeepServed q s t) (h' : DeepServed q t u) : DeepServed q s u := by
  obtain ⟨_, _, _, rfl⟩ := h.rest
  obtain ⟨_, _, _, rfl⟩ := h'.rest
  exact ⟨⟨_, _, _, rfl⟩, h'.bare.trans h.bare⟩

/-- What a queue and Inkwell hold is replaced, of the queue its frames alone. -/
theorem of_frames {x : Tbl Frame} {k : InkSt} {y : Queue} (same : y.bare = (s.queue q).bare) :
    DeepServed q s (({ s with frames := x, ink := k } : State).setQueue q y) :=
  ⟨⟨_, _, _, rfl⟩, by rw [State.queue_setQueue_same, same]⟩

theorem set {y : Queue} (same : y.bare = (s.queue q).bare) : DeepServed q s (s.setQueue q y) := of_frames (x := s.frames) (k := s.ink) same

section
variable (h : DeepServed q s t)
include h

theorem regs : t.regs = s.regs := by obtain ⟨_, _, _, rfl⟩ := h.rest; rfl
theorem rd (f : Fld) (i : Nat) : t.rd f i = s.rd f i := by rw [State.rd, h.regs, State.rd]
theorem blocks : (t.queue q).blocks = (s.queue q).blocks := (congrArg Queue.blocks h.bare :)
theorem expSeq : (t.queue q).expSeq = (s.queue q).expSeq := (congrArg Queue.expSeq h.bare :)
theorem refill : (t.queue q).refill = (s.queue q).refill := (congrArg Queue.refill h.bare :)

end
end DeepServed

section
variable (s : State) (q : Nat)

theorem State.asmFill_served : DeepServed q s (s.asmFill q) := DeepServed.of_frames (x := s.frames) rfl

theorem State.headIn_served (m : MidFrame) (cells : List Nat) : DeepServed q s (s.headIn q m cells) := by
  unfold State.headIn
  split
  · exact DeepServed.of_frames rfl
  · exact DeepServed.refl

theorem State.unpool_served (first : Nat) : DeepServed q s (s.unpool first) := by
  unfold State.unpool
  split
  · exact ⟨⟨_, _, _, rfl⟩, rfl⟩
  · exact DeepServed.refl

theorem State.assemble_served (fuel : Nat) : DeepServed q s (s.assemble q fuel) := by
  induction fuel generalizing s with
  | zero => exact DeepServed.refl
  | succ fuel ih =>
    unfold State.assemble
    dsimp only
    split
    · exact DeepServed.refl
    · split
      · refine (DeepServed.trans ?_ (State.headIn_served _ q _ _)).trans (ih _)
        exact DeepServed.set rfl
      · exact DeepServed.refl

theorem State.deepMove_served (fuel : Nat) : DeepServed q s (s.deepMove q fuel) := by
  induction fuel generalizing s with
  | zero => exact DeepServed.refl
  | succ fuel ih =>
    unfold State.deepMove
    dsimp only
    split
    · exact DeepServed.refl
    · split
      · refine (DeepServed.trans ?_ (State.unpool_served _ q _)).trans (ih _)
        exact DeepServed.set rfl
      · exact DeepServed.refl

theorem State.deepService_served : DeepServed q s (s.deepService q) := by
  unfold State.deepService
  split
  · exact ((s.asmFill_served q).trans (State.assemble_served _ q _)).trans (State.deepMove_served _ q _)
  · exact DeepServed.refl

/-! ### The flush of a queue (R210) -/

/-- Queue `q` after its flush: a head that a CAN lane has started stays. -/
def State.flushedQueue (s : State) (q : Nat) : Queue :=
  { Queue.init with head := s.startedHead q, nextSeq := (s.queue q).nextSeq, expSeq := (s.queue q).nextSeq }

/-- The frames that a flush of queue `q` drops. -/
def State.flushCount (s : State) (q : Nat) : Nat :=
  ((s.queue q).head.drop (s.startedHead q).length).length + (s.queue q).mid.length + (s.queue q).tail.length

/-- A flush ends the frames of its queue, sets the queue, and counts the drops. -/
theorem State.flushQueue_eq (k : Nat) : ∃ x u v, StoreOnly { s with can := x } u ∧ StoreOnly (u.setQueue q (s.flushedQueue q)) v
    ∧ s.flushQueue q k = v.bumpBy F.QUE_CNT_COUNT (8 * q + k) (s.flushCount q) := by
  obtain ⟨x, forgotten⟩ : ∃ x, (if (s.startedHead q).isEmpty then s.forgetHead q else s) = { s with can := x } := by
    split
    · exact s.forgetHead_eq q
    · exact ⟨_, rfl⟩
  have ended (t : State) (l : List QEnt) (pooled : Bool) : StoreOnly t (l.foldl (fun t e => t.finishIn q e pooled) t) :=
    StoreOnly.foldl l t fun t e => t.finishIn_store q e pooled
  have stored (t : State) (l : List MidFrame) : StoreOnly t (l.foldl (fun t m => (t.tsHold q m.frame.tsIndex).tsDone m.frame.tsIndex) t) :=
    StoreOnly.foldl l t fun t m => (t.tsHold_store q _).trans (State.tsDone_store _ _)
  have returned (t : State) (k : InkSt) : StoreOnly t { t with ink := k } := ⟨_, _, _, rfl⟩
  unfold State.flushQueue
  dsimp only
  rw [forgotten]
  exact ⟨x, _, _, ((ended _ _ _).trans (ended _ _ _)).trans (returned _ _), stored _ _, rfl⟩

theorem State.flushQueue_spec (k : Nat) : (s.flushQueue q k).queue q = s.flushedQueue q
    ∧ (s.flushQueue q k).rd F.QUE_CNT_COUNT (8 * q + k) = (s.rd F.QUE_CNT_COUNT (8 * q + k) + s.flushCount q) % 2 ^ F.QUE_CNT_COUNT.width := by
  obtain ⟨x, u, v, ended, stored, run⟩ := s.flushQueue_eq q k
  have regs : v.regs = s.regs := stored.regs.trans ended.regs
  rw [run]
  refine ⟨?_, ?_⟩
  · rw [State.bumpBy_eq_wr, State.queue_wr, stored.queue, State.queue_setQueue_same]
  · rw [State.bumpBy_eq_wr, State.rd_wr_same, State.rd, regs, State.rd]

/-- What a lane has started is told by its arbitration and by the head of its queue. -/
theorem State.startedHead_congr {s t : State} {q : Nat} (queue : t.queue q = s.queue q)
    (arb : (t.canLane ((q - 320) / 4)).arb = (s.canLane ((q - 320) / 4)).arb) : t.startedHead q = s.startedHead q := by
  unfold State.canLane at arb
  unfold State.startedHead
  rw [queue, arb]

/-- A flush leaves the other queues, and what their lanes have started. -/
theorem State.flushQueue_other {q r : Nat} (k : Nat) (other : r ≠ q) : (s.flushQueue q k).queue r = s.queue r
    ∧ (s.flushQueue q k).startedHead r = s.startedHead r := by
  obtain ⟨x, u, v, ended, stored, run⟩ := s.flushQueue_eq q k
  have queue : (s.flushQueue q k).queue r = s.queue r := by
    rw [run, State.bumpBy_eq_wr, State.queue_wr, stored.queue, State.queue_setQueue_ne _ _ _ _ other, ended.queue]
    rfl
  exact ⟨queue, State.startedHead_congr queue (congrArg CanLane.arb ((s.flushQueue_queueOnly q k).lane ((r - 320) / 4)) :)⟩

end
end Sys2Proof.Machine
end

section
/-! SUPPORT. The commands that flush queues or set their limits (spec 09 R200, R210, R211). -/
namespace Sys2Proof.Machine

section
variable {s : State}

/-! ### QUE_FLUSH (R210) -/

theorem exec_queFlushGo {q : Nat} (inRange : ¬511 < q) (free : s.on F.QUE_FLUSH_GO 0 = false) :
    exec (.queFlushGo q) s = .next (((s.flushQueue q 5).wr F.QUE_FLUSH_QUEUE 0 q).wr F.QUE_FLUSH_GO 0 1) :=
  congrArg Host.Outcome.next (if_neg fun ignored => ignored.elim inRange fun runs => Bool.noConfusion (free.symm.trans runs))

theorem exec_queFlushGo_ignored {q : Nat} (ignored : s.on F.QUE_FLUSH_GO 0 = true ∨ 511 < q) : exec (.queFlushGo q) s = .next s :=
  congrArg Host.Outcome.next (if_pos ignored.symm)

theorem exec_queFlushGo_does (q : Fin 512) (free : s.on F.QUE_FLUSH_GO 0 = false) : Does (.queFlushGo q) s fun t =>
    t.queue q = s.flushedQueue q ∧ t.rd F.QUE_FLUSH_QUEUE 0 = q ∧ t.rd F.QUE_FLUSH_GO 0 = 1
    ∧ t.rd F.QUE_CNT_COUNT (8 * q + 5) = (s.rd F.QUE_CNT_COUNT (8 * q + 5) + s.flushCount q) % 2 ^ F.QUE_CNT_COUNT.width := by
  obtain ⟨queue, counted⟩ := s.flushQueue_spec q 5
  refine ⟨_, exec_queFlushGo (by omega) free, queue, ?_, State.rd_wr_same .., ?_⟩
  · rw [State.rd_wr_fld _ _ _ _ _ _ (by decide), State.rd_wr_same]
    exact Nat.mod_eq_of_lt (q.isLt.trans (by decide))
  · rw [State.rd_wr_fld _ _ _ _ _ _ (by decide), State.rd_wr_fld _ _ _ _ _ _ (by decide), counted]

/-! ### The end of linger (R211) -/

theorem portQueues_nodup (p : Nat) : (portQueues p).Nodup := by
  unfold portQueues
  split
  · exact List.nodup_range.map fun a b same => by omega
  · exact List.nodup_range.map fun a b same => by omega

/-- Flushes of different queues leave each as its own flush does, and every other queue. -/
theorem State.foldl_flushQueue (l : List Nat) (different : l.Nodup) (s : State) :
    (∀ q ∈ l, (l.foldl (fun t q => t.flushQueue q 5) s).queue q = s.flushedQueue q)
    ∧ ∀ q, q ∉ l → (l.foldl (fun t q => t.flushQueue q 5) s).queue q = s.queue q := by
  induction l generalizing s with
  | nil => exact ⟨fun q mem => absurd mem List.not_mem_nil, fun _ _ => rfl⟩
  | cons a l ih =>
    obtain ⟨new, rest⟩ := List.nodup_cons.1 different
    obtain ⟨inside, outside⟩ := ih rest (s.flushQueue a 5)
    refine ⟨fun q mem => ?_, fun q out => ?_⟩
    · obtain rfl | later := List.mem_cons.1 mem
      · exact (outside q new).trans (s.flushQueue_spec q 5).1
      · have other : q ≠ a := fun same => new (same ▸ later)
        obtain ⟨queue, started⟩ := s.flushQueue_other 5 other
        refine (inside q later).trans ?_
        rw [State.flushedQueue, queue, started, State.flushedQueue]
    · have other : q ≠ a := fun same => out (same ▸ List.mem_cons_self)
      exact (outside q fun mem => out (List.mem_cons_of_mem a mem)).trans (s.flushQueue_other 5 other).1

theorem exec_lingerEnd {p : Fin 64} (lingers : s.on F.QUE_PORT_CFG_LINGERING p = true) (awake : s.gated = false) : Does (.lingerEnd p) s fun t =>
    t.rd F.QUE_PORT_CFG_LINGERING p = 0 ∧ t.rd F.QUE_PORT_CFG_DOWN_DROP p = 1 ∧ ∀ k ∈ portQueues p, t.queue k = s.flushedQueue k := by
  have run : exec (.lingerEnd p) s = .next (s.lingerEnd p) := congrArg Host.Outcome.next (if_pos (by rw [lingers, awake]; rfl))
  refine ⟨_, run, ?_, State.rd_wr_same .., (State.foldl_flushQueue _ (portQueues_nodup p) s).1⟩
  exact (State.rd_wr_fld _ _ _ _ _ _ (by decide)).trans (State.rd_wr_same ..)

/-! ### QUE_CFG (R200) -/

/-- A write of QUE_CFG would bring the reserves of its pool above half of it. -/
def State.cfgRefused (s : State) (q mn : Nat) : Prop :=
  s.rd F.QUE_POOL_SIZE (poolOf q) < 2 * (s.minSum (poolOf q) - s.rd F.QUE_CFG_MIN_CELLS q + mn)

/-- The fields of QUE_CFG that software writes. -/
abbrev queCfgFlds : List Fld := [F.QUE_CFG_MIN_CELLS, F.QUE_CFG_ALPHA, F.QUE_CFG_MARK_DEPTH, F.QUE_CFG_DROP_DEPTH]

theorem exec_queCfgWrite {q : Fin 768} {mn : BitVec 18} (al : BitVec 4) (mk dr : BitVec 26) (fits : ¬s.cfgRefused q mn.toNat) :
    Does (.queCfgWrite q mn al mk dr) s fun t =>
      t.rd F.QUE_CFG_MIN_CELLS q = mn.toNat ∧ t.rd F.QUE_CFG_ALPHA q = al.toNat ∧ t.rd F.QUE_CFG_MARK_DEPTH q = mk.toNat
      ∧ t.rd F.QUE_CFG_DROP_DEPTH q = dr.toNat ∧ t = { s with regs := t.regs } ∧ RegsBut queCfgFlds s t := by
  refine ⟨(((s.wr F.QUE_CFG_MIN_CELLS q mn.toNat).wr F.QUE_CFG_ALPHA q al.toNat).wr F.QUE_CFG_MARK_DEPTH q mk.toNat).wr F.QUE_CFG_DROP_DEPTH q dr.toNat,
    congrArg Host.Outcome.next (if_neg fits), ?_, ?_, ?_, ?_, rfl, ?_⟩
  · rw [State.rd_wr_fld _ _ _ _ _ _ (by decide), State.rd_wr_fld _ _ _ _ _ _ (by decide), State.rd_wr_fld _ _ _ _ _ _ (by decide), State.rd_wr_same]
    exact Nat.mod_eq_of_lt mn.isLt
  · rw [State.rd_wr_fld _ _ _ _ _ _ (by decide), State.rd_wr_fld _ _ _ _ _ _ (by decide), State.rd_wr_same]
    exact Nat.mod_eq_of_lt al.isLt
  · rw [State.rd_wr_fld _ _ _ _ _ _ (by decide), State.rd_wr_same]
    exact Nat.mod_eq_of_lt mk.isLt
  · rw [State.rd_wr_same]
    exact Nat.mod_eq_of_lt dr.isLt
  · exact (((RegsBut.refl.wr F.QUE_CFG_MIN_CELLS q _ (by decide)).wr F.QUE_CFG_ALPHA q _ (by decide)).wr F.QUE_CFG_MARK_DEPTH q _ (by decide)).wr
      F.QUE_CFG_DROP_DEPTH q _ (by decide)

theorem exec_queCfgWrite_refused {q : Fin 768} {mn : BitVec 18} (al : BitVec 4) (mk dr : BitVec 26) (refused : s.cfgRefused q mn.toNat) :
    exec (.queCfgWrite q mn al mk dr) s = .next (s.evt F.QUE_STAT_MIN_REFUSED_EVT 0) :=
  congrArg Host.Outcome.next (if_pos refused)

end
end Sys2Proof.Machine
end

section
/-! SUPPORT. Blocks that are written to the Reservoir (spec 09 R203, R206). -/
namespace Sys2Proof.Machine

section
variable {s : State} {q : Nat}

/-! ### A stall (R206) -/

/-- The first spill of a stall is counted and shown. -/
theorem State.rd_rsvFull {counted : Bool} (new : counted = false) :
    (s.rsvFull counted).rd F.RSV_CNT_COUNT 5 = (s.rd F.RSV_CNT_COUNT 5 + 1) % 2 ^ F.RSV_CNT_COUNT.width
    ∧ (s.rsvFull counted).rd F.QUE_STAT_RSV_FULL_EVT 0 = 1 := by
  rw [State.rsvFull, if_neg (Bool.eq_false_iff.1 new)]
  refine ⟨?_, State.rd_evt _ _ _ (by decide)⟩
  rw [State.evt_eq_wr, State.rd_wr_fld _ _ _ _ _ _ (by decide), State.rd_bump]

/-! ### The spill of a queue (R203) -/

/-- The oldest entry of the tail may not move to the head. -/
def State.tailStays (s : State) (q : Nat) (e : QEnt) : Prop :=
  (s.queue q).blocks ≠ [] ∨ (s.queue q).mid ≠ [] ∨ (s.queue q).tailOff ≠ 0 ∨ 64 < s.entsCells (s.queue q).head + s.entCells e

theorem State.tailStays.not_fits {e : QEnt} (stays : s.tailStays q e) :
    ((s.queue q).blocks.isEmpty && (s.queue q).mid.isEmpty && decide ((s.queue q).tailOff = 0)
      && decide (s.entsCells (s.queue q).head + s.entCells e ≤ 64)) = false := by
  rw [Bool.eq_false_iff]
  intro fits
  simp only [Bool.and_eq_true, List.isEmpty_iff, decide_eq_true_eq] at fits
  obtain ⟨⟨⟨blocks, mid⟩, off⟩, room⟩ := fits
  obtain h | h | h | h := stays
  · exact h blocks
  · exact h mid
  · exact h off
  · omega

/-- The tail is written to a block, and the frames that are in it whole are finished; or the queue stalls. -/
theorem State.spill_spec {e : QEnt} {r : List QEnt} (deep : s.deep q = true) (tail : (s.queue q).tail = e :: r) (stays : s.tailStays q e) :
    match (s.ink.takeBlk s.rsvTotal).2 with
    | some b => ∃ (k : InkSt) (y : Queue) (gone : List QEnt), s.spill q = (gone.foldl (fun t e => t.finish e true) (({ s with ink := k } : State).setQueue q y)).bump F.RSV_CNT_COUNT 0
        ∧ (∃ blk, y.blocks = (s.queue q).blocks ++ [blk] ∧ blk.num = b ∧ blk.seq = (s.queue q).nextSeq)
        ∧ y.nextSeq = ((s.queue q).nextSeq + 1) % 2 ^ 32 ∧ y.head = (s.queue q).head
    | none => s.spill q = (s.rsvFull (s.queue q).stalled).setQueue q { s.queue q with stalled := true } := by
  unfold State.spill
  dsimp only
  rw [deep, if_neg]
  · obtain ⟨k, taken⟩ := s.ink.takeBlk s.rsvTotal
    cases taken with
    | none => rfl
    | some b => exact ⟨_, _, _, rfl, ⟨_, rfl, rfl, rfl⟩, rfl, rfl⟩
  · rw [tail]
    dsimp only
    rw [stays.not_fits]
    decide

/-- What the write of a block of queue `q` shows: the block with the next SEQ, counted, or a stall. -/
theorem exec_spillBlockWrite_queue {q : Fin 512} {e : QEnt} {r : List QEnt} (deep : s.deep q = true) (tail : (s.queue q).tail = e :: r)
    (stays : s.tailStays q e) : Does (.spillBlockWrite ⟨q, by omega⟩) s fun t => match (s.ink.takeBlk s.rsvTotal).2 with
      | some b => (∃ blk, (t.queue q).blocks = (s.queue q).blocks ++ [blk] ∧ blk.num = b ∧ blk.seq = (s.queue q).nextSeq)
          ∧ t.rd F.RSV_CNT_COUNT 0 = (s.rd F.RSV_CNT_COUNT 0 + 1) % 2 ^ F.RSV_CNT_COUNT.width
          ∧ (t.queue q).nextSeq = ((s.queue q).nextSeq + 1) % 2 ^ 32 ∧ (t.queue q).head = (s.queue q).head
      | none => t.queue q = { s.queue q with stalled := true } ∧ ((s.queue q).stalled = false →
          t.rd F.RSV_CNT_COUNT 5 = (s.rd F.RSV_CNT_COUNT 5 + 1) % 2 ^ F.RSV_CNT_COUNT.width ∧ t.rd F.QUE_STAT_RSV_FULL_EVT 0 = 1) := by
  have run : exec (.spillBlockWrite ⟨q, by omega⟩) s = .next (s.spill q) := congrArg Host.Outcome.next (if_pos q.isLt)
  have wrote := State.spill_spec deep tail stays
  refine ⟨_, run, ?_⟩
  split
  · next b free =>
    rw [free] at wrote
    obtain ⟨k, y, gone, spilled, block, next, head⟩ := wrote
    have ended : StoreOnly (({ s with ink := k } : State).setQueue q y) _ := StoreOnly.foldl gone _ fun t e => t.finish_store e true
    have queue : (s.spill q).queue q = y := by
      rw [spilled, State.bump_eq_wr, State.queue_wr, ended.queue, State.queue_setQueue_same]
    rw [queue]
    refine ⟨block, ?_, next, head⟩
    rw [spilled, State.rd_bump, ended.rd]
    rfl
  · next full =>
    rw [full] at wrote
    rw [wrote]
    refine ⟨State.queue_setQueue_same .., fun new => ?_⟩
    exact State.rd_rsvFull new

/-! ### The spill of a FIFO -/

/-- The committed packets are written to a block, or the FIFO stalls. -/
theorem State.fifoSpill_spec {f : Nat} (deep : s.deep (512 + f) = true)
    (more : (s.fifo f).tailOff < ((s.fifo f).spillable.map pktSize).foldl (· + ·) 0) :
    match (s.ink.takeBlk s.rsvTotal).2 with
    | some b => ∃ (k : InkSt) (y : Fifo), s.fifoSpill f = (({ s with ink := k } : State).setFifo f y).bump F.RSV_CNT_COUNT 0
        ∧ (∃ blk, y.blocks = (s.fifo f).blocks ++ [blk] ∧ blk.num = b ∧ blk.seq = (s.fifo f).nextSeq)
        ∧ y.nextSeq = ((s.fifo f).nextSeq + 1) % 2 ^ 32
    | none => s.fifoSpill f = (s.rsvFull (s.fifo f).stalled).setFifo f { s.fifo f with stalled := true } := by
  unfold State.fifoSpill
  dsimp only
  rw [deep, if_neg (by simp only [Bool.not_true, Bool.false_or, decide_eq_true_eq]; omega)]
  obtain ⟨k, taken⟩ := s.ink.takeBlk s.rsvTotal
  cases taken with
  | none => rfl
  | some b => exact ⟨_, _, rfl, ⟨_, rfl, rfl, rfl⟩, rfl⟩

theorem exec_spillBlockWrite_fifo {f : Fin 256} (deep : s.deep (512 + f) = true)
    (more : (s.fifo f).tailOff < ((s.fifo f).spillable.map pktSize).foldl (· + ·) 0) :
    Does (.spillBlockWrite ⟨512 + f, by omega⟩) s fun t => match (s.ink.takeBlk s.rsvTotal).2 with
      | some b => (∃ blk, (t.fifo f).blocks = (s.fifo f).blocks ++ [blk] ∧ blk.num = b ∧ blk.seq = (s.fifo f).nextSeq)
          ∧ t.rd F.RSV_CNT_COUNT 0 = (s.rd F.RSV_CNT_COUNT 0 + 1) % 2 ^ F.RSV_CNT_COUNT.width
          ∧ (t.fifo f).nextSeq = ((s.fifo f).nextSeq + 1) % 2 ^ 32
      | none => (t.fifo f).stalled = true ∧ ((s.fifo f).stalled = false →
          t.rd F.RSV_CNT_COUNT 5 = (s.rd F.RSV_CNT_COUNT 5 + 1) % 2 ^ F.RSV_CNT_COUNT.width ∧ t.rd F.QUE_STAT_RSV_FULL_EVT 0 = 1) := by
  have index : 512 + f.val - 512 = f.val := by omega
  have run : exec (.spillBlockWrite ⟨512 + f, by omega⟩) s = .next (s.fifoWatch f ((s.fifoSpill f).fifoService f)) := by
    refine (congrArg Host.Outcome.next (if_neg (by dsimp only; omega))).trans ?_
    dsimp only
    rw [index]
  have served := (s.fifoSpill f).fifoService_serviced f
  have spilled := State.fifoSpill_spec deep more
  refine does_watched run ?_
  split
  · next b free =>
    rw [free] at spilled
    obtain ⟨k, y, spilled, block, next⟩ := spilled
    have fifo : (s.fifoSpill f).fifo f = y := by rw [spilled, State.bump_eq_wr, State.fifo_wr, State.fifo_setFifo_same]
    rw [State.fifo_fifoWatch, served.blocks, served.nextSeq, fifo, State.rd_fifoWatch _ _ _ _ (by decide), served.regs _ _ (by decide)]
    refine ⟨block, ?_, next⟩
    rw [spilled, State.rd_bump]
    rfl
  · next full =>
    rw [full] at spilled
    rw [State.fifo_fifoWatch, served.stalled, State.rd_fifoWatch _ _ _ _ (by decide), State.rd_fifoWatch _ _ _ _ (by decide),
      served.regs _ _ (by decide), served.regs _ _ (by decide), spilled, State.fifo_setFifo_same]
    exact ⟨rfl, fun new => State.rd_rsvFull new⟩

end
end Sys2Proof.Machine
end

section
/-! SUPPORT. Blocks that are read back from the Reservoir (spec 09 R203, R205, R206). -/
namespace Sys2Proof.Machine

section
variable {s : State}

/-! ### The request of a block (R203) -/

theorem exec_refillRequest_queue {q : Fin 512} (clean : s.pruned q = s) (deep : s.deep q = true) (blocks : (s.queue q).blocks ≠ [])
    (room : s.entsCells (s.queue q).head + (s.queue q).asm.length + 8 ≤ 64) :
    exec (.refillRequest ⟨q, by omega⟩) s = .next (s.setQueue q { s.queue q with refill := true }) := by
  refine (congrArg Host.Outcome.next (if_pos q.isLt)).trans ?_
  dsimp only
  rw [clean, deep, decide_eq_true room, if_pos (by simpa using blocks)]

theorem exec_refillRequest_fifo {f : Fin 256} (deep : s.deep (512 + f) = true) (blocks : (s.fifo f).blocks ≠ [])
    (room : pktsCells (s.fifo f).pkts + (s.fifo f).asm.length + 8 ≤ 64) :
    exec (.refillRequest ⟨512 + f, by omega⟩) s = .next (s.setFifo f { s.fifo f with refill := true }) := by
  have index : 512 + f.val - 512 = f.val := by omega
  refine (congrArg Host.Outcome.next (if_neg (by dsimp only; omega))).trans ?_
  dsimp only
  rw [index, deep, decide_eq_true room, if_pos (by simpa using blocks)]

/-! ### A good block (R205) -/

section
variable {b : Blk} {r : List Blk}

theorem State.blockRead_ok {q : Nat} (blocks : (s.queue q).blocks = b :: r) : ∃ (y : Queue) (k : InkSt), y.blocks = r ∧ y.expSeq = ((s.queue q).expSeq + 1) % 2 ^ 32
    ∧ y.refill = false ∧ s.blockRead q .ok = ((({ s with ink := k } : State).setQueue q y).bump F.RSV_CNT_COUNT 1).deepService q := by
  unfold State.blockRead
  dsimp only
  rw [blocks]
  exact ⟨_, _, rfl, rfl, rfl, rfl⟩

theorem exec_refillDone_queue {q : Fin 512} (asked : (s.queue q).refill = true) (res : RefillResult) :
    exec (.refillDone ⟨q, by omega⟩ res) s = .next (s.blockRead q res) :=
  (congrArg Host.Outcome.next (if_pos q.isLt)).trans (congrArg Host.Outcome.next (if_pos asked))

theorem exec_refillDone_ok {q : Fin 512} (asked : (s.queue q).refill = true) (blocks : (s.queue q).blocks = b :: r) :
    Does (.refillDone ⟨q, by omega⟩ .ok) s fun t => (t.queue q).blocks = r ∧ (t.queue q).expSeq = ((s.queue q).expSeq + 1) % 2 ^ 32
      ∧ (t.queue q).refill = false ∧ t.rd F.RSV_CNT_COUNT 1 = (s.rd F.RSV_CNT_COUNT 1 + 1) % 2 ^ F.RSV_CNT_COUNT.width := by
  refine ⟨_, exec_refillDone_queue asked .ok, ?_⟩
  obtain ⟨y, k, rest, exp, done, read⟩ := State.blockRead_ok blocks
  have served := ((({ s with ink := k } : State).setQueue q y).bump F.RSV_CNT_COUNT 1).deepService_served q
  rw [read, served.blocks, served.expSeq, served.refill, served.rd, State.rd_bump, State.bump_eq_wr, State.queue_wr, State.queue_setQueue_same]
  exact ⟨rest, exp, done, rfl⟩

theorem State.fifoBlockRead_ok {f : Nat} (blocks : (s.fifo f).blocks = b :: r) : ∃ (y : Fifo) (k : InkSt), y.blocks = r ∧ y.expSeq = ((s.fifo f).expSeq + 1) % 2 ^ 32
    ∧ y.refill = false ∧ s.fifoBlockRead f .ok = (({ s with ink := k } : State).setFifo f y).bump F.RSV_CNT_COUNT 1 := by
  unfold State.fifoBlockRead
  dsimp only
  rw [blocks]
  exact ⟨_, _, rfl, rfl, rfl, rfl⟩

theorem exec_refillDone_fifo_ok {f : Fin 256} (asked : (s.fifo f).refill = true) (blocks : (s.fifo f).blocks = b :: r) :
    Does (.refillDone ⟨512 + f, by omega⟩ .ok) s fun t => (t.fifo f).blocks = r ∧ (t.fifo f).expSeq = ((s.fifo f).expSeq + 1) % 2 ^ 32
      ∧ (t.fifo f).refill = false ∧ t.rd F.RSV_CNT_COUNT 1 = (s.rd F.RSV_CNT_COUNT 1 + 1) % 2 ^ F.RSV_CNT_COUNT.width := by
  have index : 512 + f.val - 512 = f.val := by omega
  have run : exec (.refillDone ⟨512 + f, by omega⟩ .ok) s = .next (s.fifoWatch f ((s.fifoBlockRead f .ok).fifoService f)) := by
    refine (congrArg Host.Outcome.next (if_neg (by dsimp only; omega))).trans ?_
    dsimp only
    rw [index, if_pos asked]
  obtain ⟨y, k, rest, exp, done, read⟩ := State.fifoBlockRead_ok blocks
  have served := (s.fifoBlockRead f .ok).fifoService_serviced f
  refine does_watched run ?_
  rw [State.fifo_fifoWatch, served.blocks, served.expSeq, served.refill, State.rd_fifoWatch _ _ _ _ (by decide), served.regs _ _ (by decide), read,
    State.rd_bump, State.bump_eq_wr, State.fifo_wr, State.fifo_setFifo_same]
  exact ⟨rest, exp, done, rfl⟩

end

/-! ### A broken chain (R206) -/

/-- The chain of queue `q`, broken in `s`, is dropped in `t`, but for the head and what has been read back whole. -/
def ChainDropped (q : Nat) (s t : State) : Prop :=
  (t.queue q).blocks = [] ∧ (t.queue q).tail = [] ∧ (t.queue q).head = (s.queue q).head
  ∧ (t.queue q).mid = (s.queue q).mid.take (readBack ((s.queue q).mid.map fun m => m.frame.bytes.length) (s.queue q).midDone).1
  ∧ t.rd F.QUE_CNT_COUNT (8 * q + 7) = (s.rd F.QUE_CNT_COUNT (8 * q + 7) + ((s.queue q).mid.length - (t.queue q).mid.length + (s.queue q).tail.length))
      % 2 ^ F.QUE_CNT_COUNT.width
  ∧ t.rd F.QUE_STAT_RSV_UNCORR_EVT 0 = 1

/-- A broken chain ends the frames of its tail, sets the queue, and counts what it drops. -/
theorem State.chainDamage_eq (s : State) (q : Nat) : let n := (readBack ((s.queue q).mid.map fun m => m.frame.bytes.length) (s.queue q).midDone).1
    ∃ (y : Queue) (k : InkSt) (u v : State),
      s.chainDamage q = ((v.bumpBy F.QUE_CNT_COUNT (8 * q + 7) (((s.queue q).mid.drop n).length + (s.queue q).tail.length)).evt
          F.QUE_STAT_RSV_UNCORR_EVT 0).reportX 0x142 (elemId 5 q)
      ∧ StoreOnly (({ u with ink := k } : State).setQueue q y) v ∧ StoreOnly s u
      ∧ y.blocks = [] ∧ y.tail = [] ∧ y.head = (s.queue q).head ∧ y.mid = (s.queue q).mid.take n := by
  have ended (l : List QEnt) : StoreOnly s (l.foldl (fun t e => t.finish e true) s) := StoreOnly.foldl l s fun t e => t.finish_store e true
  unfold State.chainDamage
  dsimp only
  refine ⟨_, _, _, _, rfl, State.foldl_tsDone_store _ _, ended _, ?_, ?_, ?_, ?_⟩
  all_goals rfl

theorem State.chainDamage_drops (s : State) (q : Nat) : ChainDropped q s (s.chainDamage q) := by
  obtain ⟨y, k, u, v, run, stored, ended, blocks, tail, head, mid⟩ := s.chainDamage_eq q
  have queue : (s.chainDamage q).queue q = y := by
    rw [run, State.queue_reportX, State.evt_eq_wr, State.bumpBy_eq_wr, State.queue_wr, State.queue_wr, stored.queue, State.queue_setQueue_same]
  have regs : v.regs = s.regs := stored.regs.trans ended.regs
  unfold ChainDropped
  rw [queue, mid]
  refine ⟨blocks, tail, head, rfl, ?_, ?_⟩
  · rw [run, State.rd_reportX, State.evt_eq_wr, State.bumpBy_eq_wr, State.rd_wr_fld _ _ _ _ _ _ (by decide), State.rd_wr_same, State.rd, regs, State.rd]
    congr 3
    rw [List.length_drop, List.length_take]
    omega
  · rw [run, State.rd_reportX]
    exact State.rd_evt _ _ _ (by decide)

/-- What the drop of a chain shows is told by the queue and its counter as the drop found them. -/
theorem ChainDropped.congr {q : Nat} {s s' t : State} (h : ChainDropped q s' t) (queue : s'.queue q = s.queue q)
    (counter : s'.rd F.QUE_CNT_COUNT (8 * q + 7) = s.rd F.QUE_CNT_COUNT (8 * q + 7)) : ChainDropped q s t := by
  unfold ChainDropped at *
  rwa [queue, counter] at h

theorem State.rd_rsvLog_counted (s : State) (unit blk q k i : Nat) :
    ((s.rsvLog true unit blk q).bump F.RSV_CNT_COUNT k).rd F.QUE_CNT_COUNT i = s.rd F.QUE_CNT_COUNT i := by
  unfold State.rsvLog State.wrb
  rw [State.bump_eq_wr, State.rd_wr_fld _ _ _ _ _ _ (by decide), State.rd_wr_fld _ _ _ _ _ _ (by decide), State.rd_wr_fld _ _ _ _ _ _ (by decide),
    State.rd_wr_fld _ _ _ _ _ _ (by decide), State.rd_wr_fld _ _ _ _ _ _ (by decide)]

/-- An error that breaks the chain is logged and counted first. -/
theorem State.loggedDamage_drops (s : State) (q unit blk k : Nat) :
    ChainDropped q s (((s.rsvLog true unit blk q).bump F.RSV_CNT_COUNT k).chainDamage q) :=
  (State.chainDamage_drops _ q).congr rfl (s.rd_rsvLog_counted ..)

section
variable {q : Fin 512} {b : Blk} {r : List Blk} (asked : (s.queue q).refill = true) (blocks : (s.queue q).blocks = b :: r)
include asked blocks

theorem exec_refillDone_header (u : Nat) : Does (.refillDone ⟨q, by omega⟩ (.header u)) s (ChainDropped q s) := by
  have read : s.blockRead q (.header u) = ((s.rsvLog true u b.num q).bump F.RSV_CNT_COUNT 3).chainDamage q := by
    unfold State.blockRead
    dsimp only
    rw [blocks]
  exact ⟨_, exec_refillDone_queue asked _, read ▸ s.loggedDamage_drops ..⟩

theorem exec_refillDone_seq {v : Nat} (wrong : v ≠ (s.queue q).expSeq) : Does (.refillDone ⟨q, by omega⟩ (.seq v)) s (ChainDropped q s) := by
  have read : s.blockRead q (.seq v) = ((s.rsvLog true 0 b.num q).bump F.RSV_CNT_COUNT 4).chainDamage q := by
    unfold State.blockRead
    dsimp only
    rw [blocks]
    exact if_neg wrong
  exact ⟨_, exec_refillDone_queue asked _, read ▸ s.loggedDamage_drops ..⟩

end
end
end Sys2Proof.Machine
end

section
/-! SUPPORT. What the services after a change of the queues (spec 04 R88, R92; 08 R191) leave of the ports' transmitters and of the counters. -/
namespace Sys2Proof.Machine

/-- From `s` to `t` each port keeps the frame on its transmitter and the form of its last end, and the counters stay, but for those of
PAUSE and PFC frames. -/
structure TxKept (s t : State) : Prop where
  tx : ∀ n, (t.port n).tx = (s.port n).tx
  ended : ∀ n, (t.port n).ended = (s.port n).ended
  ethCnt : ∀ k, k % 29 ≠ 21 → k % 29 ≠ 22 → t.rd F.ETH_CNT_COUNT k = s.rd F.ETH_CNT_COUNT k
  queCnt : ∀ k, t.rd F.QUE_CNT_COUNT k = s.rd F.QUE_CNT_COUNT k

namespace TxKept
variable {s t u : State}

theorem refl : TxKept s s := ⟨fun _ => rfl, fun _ => rfl, fun _ _ _ => rfl, fun _ => rfl⟩

theorem trans (h : TxKept s t) (h' : TxKept t u) : TxKept s u :=
  ⟨fun n => (h'.tx n).trans (h.tx n), fun n => (h'.ended n).trans (h.ended n), fun k h1 h2 => (h'.ethCnt k h1 h2).trans (h.ethCnt k h1 h2),
    fun k => (h'.queCnt k).trans (h.queCnt k)⟩

theorem ite {c : Prop} [Decidable c] (ht : TxKept s t) (hu : TxKept s u) : TxKept s (if c then t else u) := by
  split <;> assumption

/-- The ports stay, and registers that are no counters of theirs or of the queues may change. -/
theorem of_regs {fs : List Fld} (eth : t.eth = s.eth) (regs : RegsBut fs s t) (noEth : F.ETH_CNT_COUNT.id ∉ fs.map Fld.id)
    (noQue : F.QUE_CNT_COUNT.id ∉ fs.map Fld.id) : TxKept s t := by
  have port (n : Nat) : t.port n = s.port n := by rw [State.port, eth, State.port]
  exact ⟨fun n => by rw [port], fun n => by rw [port], fun k _ _ => regs _ k noEth, fun k => regs _ k noQue⟩

/-- Of one port what is not on its line changes. -/
theorem setPort {n : Nat} {x : EthPort} (tx : x.tx = (s.port n).tx) (ended : x.ended = (s.port n).ended) : TxKept s (s.setPort n x) := by
  have port (m : Nat) : ((s.setPort n x).port m).tx = (s.port m).tx ∧ ((s.setPort n x).port m).ended = (s.port m).ended := by
    by_cases same : m = n
    · rw [same, State.port_setPort_same]; exact ⟨tx, ended⟩
    · rw [State.port_setPort_ne _ _ _ _ same]; exact ⟨rfl, rfl⟩
  exact ⟨fun m => (port m).1, fun m => (port m).2, fun _ _ _ => rfl, fun _ => rfl⟩

end TxKept

section
variable (s : State) (p : Nat)

theorem State.finishRef_txKept (first : Nat) (pooled : Bool) : TxKept s (s.finishRef first pooled) :=
  have store := s.finishRef_store first pooled
  TxKept.of_regs (fs := []) store.eth (RegsBut.of_regs store.regs) (by decide) (by decide)

theorem State.finish_txKept (e : QEnt) (pooled : Bool) : TxKept s (s.finish e pooled) :=
  have store := s.finish_store e pooled
  TxKept.of_regs (fs := []) store.eth (RegsBut.of_regs store.regs) (by decide) (by decide)

/-! ### Flow control (04 R88) -/

/-- A control frame counts as PAUSE or as PFC. -/
theorem State.ctrlCounted_txKept (bs : List Byte) {k : Nat} (control : k = 21 ∨ k = 22) : TxKept s ((s.send p bs).ethCnt p k) := by
  refine ⟨fun _ => rfl, fun _ => rfl, fun j no1 no2 => State.rd_wr_elem _ _ _ _ _ _ ?_, fun j => State.rd_wr_fld _ _ _ _ _ _ (by decide)⟩
  omega

theorem State.fcCheck_txKept : TxKept s (s.fcCheck p) := by
  have sends (t : State) (h : TxKept s t) (bs : List Byte) {k : Nat} (control : k = 21 ∨ k = 22) : TxKept s ((t.send p bs).ethCnt p k) :=
    h.trans (t.ctrlCounted_txKept p bs control)
  have held (x : Nat) : TxKept s (s.setPort p { s.port p with xoff := x }) := TxKept.setPort rfl rfl
  unfold State.fcCheck
  dsimp only
  refine TxKept.refl.ite (TxKept.ite ?_ ?_)
  · exact TxKept.ite (sends _ (held 255) _ (.inl rfl)) (TxKept.ite (sends _ (held 0) _ (.inl rfl)) TxKept.refl)
  · exact TxKept.refl.ite (sends _ (held _) _ (.inr rfl))

/-! ### Taper (04 R92, R96) -/

theorem State.taperTo_txKept (st : Nat) : TxKept s (s.taperTo p st) := by
  have regs := s.taperTo_regsBut p st
  have port (n : Nat) := State.port_taperTo s p st n
  exact ⟨fun n => by rw [port], fun n => by rw [port], fun k _ _ => regs _ k (by decide), fun k => regs _ k (by decide)⟩

theorem State.taperIdle_txKept : TxKept s (s.taperIdle p) := by
  have held : TxKept s (s.setPort p { s.port p with lows := 0, lastLow := false }) := TxKept.setPort rfl rfl
  exact held.trans (State.taperTo_txKept _ p _)

theorem State.propose_txKept (rate flags : Nat) : TxKept s (s.propose p rate flags) := by
  have numbered : TxKept s (s.setPort p { s.port p with seq := ((s.port p).seq + 1) % 2 ^ 16, propRate := rate, propFlags := flags, resends := 0 }) :=
    TxKept.setPort rfl rfl
  have sent (t : State) (bs : List Byte) : TxKept t (t.send p bs) := ⟨fun _ => rfl, fun _ => rfl, fun _ _ _ => rfl, fun _ => rfl⟩
  exact (numbered.trans (State.taperTo_txKept _ p 2)).trans (sent _ _)

theorem State.taperService_txKept : TxKept s (s.taperService p) := by
  unfold State.taperService
  extract_lets st t st'
  have idle : TxKept s t := (s.taperIdle_txKept p).ite TxKept.refl
  clear_value t
  have proposed (u : State) (kept : TxKept t u) (rate flags : Nat) : TxKept s (u.propose p rate flags) :=
    (idle.trans kept).trans (u.propose_txKept p rate flags)
  have forced : TxKept t (t.setPort p { t.port p with forceDue := false }) := TxKept.setPort rfl rfl
  refine TxKept.refl.ite (idle.ite (TxKept.ite ?_ (TxKept.ite ?_ (TxKept.ite ?_ idle))))
  · exact proposed _ forced _ _
  · exact proposed t TxKept.refl _ _
  · exact proposed t TxKept.refl _ _

/-! ### Epochs (08 R191) -/

theorem State.bumpNow_regsOnly : RegsBut [F.TBL_EPOCH_EPOCH, F.TBL_STAT_BUMP_HELD, F.TBL_STAT_APPLYING] s s.bumpNow := by
  have regs := State.foldl_refillWritten State.regs (fun _ _ => rfl) (s.updBuf.filter (fun w => !s.committed w)) s.epochNext
  have next : RegsBut [F.TBL_EPOCH_EPOCH, F.TBL_STAT_BUMP_HELD, F.TBL_STAT_APPLYING] s s.epochNext :=
    ((RegsBut.refl.wr F.TBL_EPOCH_EPOCH 0 _ (by decide)).wr F.TBL_STAT_BUMP_HELD 0 0 (by decide)).trans (RegsBut.of_regs rfl)
  rw [State.bumpNow_eq]
  exact (next.trans (RegsBut.of_regs regs)).wr F.TBL_STAT_APPLYING 0 _ (by decide)

theorem State.drainService_txKept : TxKept s s.drainService := by
  have bumped : TxKept s s.bumpNow := TxKept.of_regs (congrArg State.eth s.bumpNow_queueOnly.apart :) s.bumpNow_regsOnly (by decide) (by decide)
  rw [State.drainService_eq]
  have checked (t : State) : TxKept t t.drainChecked := by
    refine TxKept.of_regs ?_ t.drainChecked_regs (by decide) (by decide)
    unfold State.drainChecked
    split <;> rfl
  exact (bumped.ite TxKept.refl).trans (checked _)

end
end Sys2Proof.Machine
end

section
/-! SUPPORT. Selection on a port, and the start and the end of a frame (spec 09 R207, R208, R218; 04 R84). -/
namespace Sys2Proof.Machine

/-! ### Selection (R207) -/

/-- The last that passes below `n` is found first from above. -/
theorem find_range_reverse {g : Nat → Bool} {c n : Nat} (below : c < n) (passes : g c = true) (last : ∀ d, c < d → d < n → g d = false) :
    (List.range n).reverse.find? g = some c := by
  induction n with
  | zero => exact absurd below (Nat.not_lt_zero c)
  | succ n ih =>
    rw [List.range_succ, List.reverse_append, List.reverse_singleton, List.singleton_append, List.find?_cons]
    obtain lower | rfl := Nat.lt_succ_iff_lt_or_eq.1 below
    · rw [last n lower (Nat.lt_succ_self n)]
      exact ih lower fun d above under => last d above (Nat.lt_succ_of_lt under)
    · rw [passes]

/-- The highest eligible strict class is selected. -/
theorem State.select_strict {s : State} {p : Nat} {c : Fin 8} (strict : s.strictCls p c = true) (eligible : s.eligible p c = true)
    (highest : ∀ d : Fin 8, c < d → (s.strictCls p d && s.eligible p d) = false) : s.select p = (s, some c.val) := by
  have found := find_range_reverse (g := fun c => s.strictCls p c && s.eligible p c) c.isLt (by rw [strict, eligible]; rfl)
    fun d above under => highest ⟨d, under⟩ above
  unfold State.select
  dsimp only
  rw [found]

/-- A selection changes the schedule of its port alone. -/
theorem State.select_eq (s : State) (p : Nat) : ∃ x, (s.select p).1 = { s with sched := x } := by
  unfold State.select
  dsimp only
  split
  · exact ⟨_, rfl⟩
  · split <;> exact ⟨_, rfl⟩

/-! ### The start of a frame -/

section
variable {s t : State} (regs : RegsBut [F.QUE_CNT_COUNT] s t)
include regs

/-- The counters of queues are not what is read. -/
theorem State.rd_uncounted (g : Fld) (i : Nat) (other : g.id ∉ [F.QUE_CNT_COUNT].map Fld.id) : t.rd g i = s.rd g i := regs g i other

theorem State.domainRuler_congr (n : Nat) : t.domainRuler n = s.domainRuler n := by
  unfold State.domainRuler State.rulerRuns State.on
  simp (disch := decide) only [State.rd_uncounted regs]

theorem State.txComp_congr (p : Nat) : t.txComp p = s.txComp p := by
  unfold State.txComp State.txTrim State.on
  simp (disch := decide) only [State.rd_uncounted regs]

theorem State.redEdit_congr (p seq : Nat) (bs : List Byte) : t.redEdit p seq bs = s.redEdit p seq bs := by
  unfold State.redEdit State.redMode State.pairMode State.on
  simp (disch := decide) only [State.rd_uncounted regs]

theorem State.snap_congr (rulers : t.rulers = s.rulers) : t.snap = s.snap := by
  unfold State.snap State.ruler State.rulerRuns State.on
  simp (disch := decide) only [State.rd_uncounted regs, rulers]

theorem State.cipTx_congr (secpol : t.secpol = s.secpol) (p : Nat) : t.cipTx p = s.cipTx p := by
  unfold State.cipTx State.secure State.on
  simp (disch := decide) only [State.rd_uncounted regs, secpol]

variable (recs : t.tsRecs = s.tsRecs)
include recs

theorem State.tcEdit_congr (sn : Snap) (p inPort tsIndex : Nat) (h : Hdr) (bs : List Byte) :
    t.tcEdit sn p inPort tsIndex h bs = s.tcEdit sn p inPort tsIndex h bs := by
  unfold State.tcEdit State.on
  simp (disch := decide) only [State.rd_uncounted regs, State.domainRuler_congr regs, State.txComp_congr regs, recs]

/-- The bytes that leave are told by the Rulers' registers, the ports' and the receive records. -/
theorem State.egressBytes_congr (sn : Snap) (p : Nat) (f : Frame) (ed : CopyEd) : t.egressBytes sn p f ed = s.egressBytes sn p f ed := by
  unfold State.egressBytes State.tcApply
  simp (disch := decide) only [State.rd_uncounted regs, State.tcEdit_congr regs recs, State.redEdit_congr regs]

end

/-- The head of queue `q` is taken: counted in DEQ_FRAMES, with the service of a deep queue after. -/
theorem State.take_eq (s : State) (q : Nat) : ∃ r y x k, s.take q = { s with regs := r, queues := y, frames := x, ink := k } := by
  obtain ⟨y, x, k, run⟩ := (((s.setQueue q { s.queue q with head := (s.queue q).head.drop 1 }).qcnt q 1).deepService_served q).rest
  exact ⟨_, y, x, k, run⟩

theorem State.take_counted (s : State) (q : Nat) : RegsBut [F.QUE_CNT_COUNT] s (s.take q)
    ∧ (s.take q).rd F.QUE_CNT_COUNT (8 * q + 1) = (s.rd F.QUE_CNT_COUNT (8 * q + 1) + 1) % 2 ^ F.QUE_CNT_COUNT.width := by
  have served := ((s.setQueue q { s.queue q with head := (s.queue q).head.drop 1 }).qcnt q 1).deepService_served q
  refine ⟨(RegsBut.wr (RegsBut.of_regs rfl) F.QUE_CNT_COUNT _ _ (by decide)).trans (RegsBut.of_regs served.regs), ?_⟩
  exact (served.rd _ _).trans (State.rd_bump ..)

/-- The registers that show time-stamp records. -/
abbrev stampFlds : List Fld := [F.RUL_CNT_COUNT, F.RUL_TS_STAT_NOREC_EVT, F.RUL_TS_STAT_TXQ_OVF_EVT, F.RUL_TXQ_HEAD_HEAD]

theorem State.captureAt_regsBut (s : State) (sn : Snap) (tx : Bool) (port mask : Nat) (comp : Int) :
    RegsBut stampFlds s (s.captureAt sn tx port mask comp).1 := by
  unfold State.captureAt
  split
  · exact RegsBut.of_regs rfl
  · exact (RegsBut.refl.wr F.RUL_CNT_COUNT 2 _ (by decide)).wr F.RUL_TS_STAT_NOREC_EVT 0 1 (by decide)

theorem State.egressReport_regsBut (s : State) (r : TxReport) : RegsBut stampFlds s (s.egressReport r) := by
  have freed : RegsBut stampFlds s (s.freeTs r.recIdx) := RegsBut.of_regs rfl
  have ringed : RegsBut stampFlds s { s with txRing := s.txRing.put (s.rd F.RUL_TXQ_HEAD_HEAD 0) r } := RegsBut.of_regs rfl
  exact ((freed.wr F.RUL_CNT_COUNT 3 _ (by decide)).wr F.RUL_TS_STAT_TXQ_OVF_EVT 0 1 (by decide)).ite
    (ringed.wr F.RUL_TXQ_HEAD_HEAD 0 _ (by decide))

theorem State.txStamp_txKept (s : State) (sn : Snap) (p : Nat) (asked : Bool) (bs : List Byte) : TxKept s (s.txStamp sn p asked bs) := by
  have stamped := s.captureAt_regsBut sn true p (s.capMask.get 0 p) (s.txComp p)
  have counted (t : State) (c : Tbl Nat) : RegsBut stampFlds t (if asked then { t with txReqCount := c } else t) :=
    RegsBut.ite (RegsBut.of_regs rfl) RegsBut.refl
  have regs : RegsBut stampFlds s (s.txStamp sn p asked bs) :=
    RegsBut.refl.ite ((stamped.trans (counted _ _)).trans (RegsBut.refl.ite (State.egressReport_regsBut _ _)))
  exact TxKept.of_regs (congrArg State.eth (s.txStampBy_queueOnly sn p asked bs (s.txComp p)).apart :) regs (by decide) (by decide)

/-- The transmitter of port `p`, given `tx`, keeps it through the port's Taper. -/
theorem State.setTx_taperService (s : State) (p : Nat) (tx : Option Tx) :
    (((s.setPort p { s.port p with tx := tx }).taperService p).port p).tx = tx := by
  rw [(State.taperService_txKept _ p).tx, State.port_setPort_same]

/-- Without protection the head of queue `q` starts on port `p` with the bytes that its edits give. -/
theorem State.startHead_plain (s : State) {p : Nat} (q : Nat) (e : QEnt) (f : Frame) (plain : (s.take q).cipTx p = false) :
    let t := s.take q
    let r := t.egressBytes t.snap p f e.ed
    let u := t.txStamp t.snap p f.txReq r.2
    s.startHead p q e f = (u.setPort p { u.port p with tx := some ⟨q, some e, e.first, e.ed, r.2, r.1⟩ }).taperService p := by
  unfold State.startHead State.leavesPlain
  dsimp only
  rw [plain]
  rfl

theorem State.startHead_sends (s : State) {p : Nat} (q : Nat) (e : QEnt) (f : Frame) (plain : s.cipTx p = false) :
    let t := s.startHead p q e f
    (∃ y, (t.port p).tx = some y ∧ y.q = q ∧ y.ent = some e ∧ y.first = e.first ∧ y.bytes = (s.egressBytes s.snap p f e.ed).2)
    ∧ t.rd F.QUE_CNT_COUNT (8 * q + 1) = (s.rd F.QUE_CNT_COUNT (8 * q + 1) + 1) % 2 ^ F.QUE_CNT_COUNT.width := by
  obtain ⟨r, y, x, k, taken⟩ := s.take_eq q
  obtain ⟨regs, counted⟩ := s.take_counted q
  have snap : (s.take q).snap = s.snap := State.snap_congr regs (by rw [taken])
  have bytes := State.egressBytes_congr regs (by rw [taken]) s.snap p f e.ed
  have unprotected : (s.take q).cipTx p = false := (State.cipTx_congr regs (by rw [taken]) p).trans plain
  dsimp only
  rw [s.startHead_plain q e f unprotected]
  refine ⟨⟨_, State.setTx_taperService _ p _, rfl, rfl, rfl, ?_⟩, ?_⟩
  · dsimp only
    rw [snap, bytes]
  · rw [(State.taperService_txKept _ p).queCnt]
    exact ((State.txStamp_txKept _ _ p _ _).queCnt _).trans counted

theorem exec_egressSelect_starts {s : State} {p : Fin 40} {c : Fin 8} {e : QEnt} {f : Frame} (free : s.txFree p = true)
    (clean : ∀ d, d < 8 → s.pruned (8 * p + d) = s) (selected : (s.select p).2 = some c.val) (head : s.headOf (8 * p + c) = some (e, f))
    (plain : s.cipTx p = false) : Does (.egressSelect p) s fun t =>
      (∃ y, (t.port p).tx = some y ∧ y.q = 8 * p + c ∧ y.ent = some e ∧ y.first = e.first ∧ y.bytes = (s.egressBytes s.snap p f e.ed).2)
      ∧ t.rd F.QUE_CNT_COUNT (8 * (8 * p + c) + 1) = (s.rd F.QUE_CNT_COUNT (8 * (8 * p + c) + 1) + 1) % 2 ^ F.QUE_CNT_COUNT.width := by
  obtain ⟨x, scheduled⟩ := s.select_eq p
  have pruned : (List.range 8).foldl (fun t c => t.pruned (8 * p.val + c)) s = s :=
    List.foldlRecOn (List.range 8) (fun t c => t.pruned (8 * p.val + c)) (motive := (· = s)) rfl
      fun t same d mem => by rw [same]; exact clean d (List.mem_range.1 mem)
  have heads : State.headOf { s with sched := x } (8 * p + c) = some (e, f) := head
  have run : exec (.egressSelect p) s = .next (State.startHead { s with sched := x } p (8 * p + c) e f) := by
    change execEgressSelect p s = _
    unfold execEgressSelect
    dsimp only
    rw [free, pruned, selected, scheduled]
    dsimp only
    rw [heads]
    rfl
  exact ⟨_, run, State.startHead_sends { s with sched := x } (8 * p + c) e f plain⟩

/-! ### The end of a frame (04 R84, 09 R218) -/

/-- What follows the end of a frame of queue `q` on port `p`: its entry is finished, and the services run. -/
def State.txOver (s : State) (p : Nat) (t : Tx) (inPort : Nat) : State :=
  (((match t.ent with
    | some e => s.finish e (!s.deep t.q)
    | none => s.finishRef t.first true).fcCheck inPort).taperService p).drainService

theorem State.txOver_txKept (s : State) (p : Nat) (t : Tx) (inPort : Nat) : TxKept s (s.txOver p t inPort) := by
  refine TxKept.trans ?_ (((State.fcCheck_txKept _ inPort).trans (State.taperService_txKept _ p)).trans (State.drainService_txKept _))
  split
  · exact s.finish_txKept _ _
  · exact s.finishRef_txKept _ _

theorem State.sentCount_spec (s : State) (p : Nat) (t : Tx) : let u := s.sentCount p t
    u.eth = s.eth ∧ u.rd F.ETH_CNT_COUNT (29 * p + 18) = (s.rd F.ETH_CNT_COUNT (29 * p + 18) + 1) % 2 ^ F.ETH_CNT_COUNT.width
    ∧ u.rd F.ETH_CNT_COUNT (29 * p + 17) = (s.rd F.ETH_CNT_COUNT (29 * p + 17) + t.bytes.length) % 2 ^ F.ETH_CNT_COUNT.width := by
  have tc (u : State) (i : Nat) : (u.tcCount t.tc).eth = u.eth ∧ (u.tcCount t.tc).rd F.ETH_CNT_COUNT i = u.rd F.ETH_CNT_COUNT i :=
    have only := (u.tcCount_queueOnly t.tc).apart
    ⟨(congrArg State.eth only :), only.rd _ i (by decide)⟩
  have cast (u : State) {k : Nat} (i : Nat) (other : i ≠ 29 * p + k) : (u.ethCnt p k).rd F.ETH_CNT_COUNT i = u.rd F.ETH_CNT_COUNT i :=
    State.rd_ethCnt_ne _ _ other
  have counted (i : Nat) (h19 : i ≠ 29 * p + 19) (h20 : i ≠ 29 * p + 20) : (s.sentCount p t).eth = s.eth
      ∧ (s.sentCount p t).rd F.ETH_CNT_COUNT i = ((s.bumpBy F.ETH_CNT_COUNT (29 * p + 17) t.bytes.length).ethCnt p 18).rd F.ETH_CNT_COUNT i := by
    unfold State.sentCount
    dsimp only
    split
    · exact ⟨(tc _ i).1, (cast _ i h20).trans (tc _ i).2⟩
    · split
      · exact ⟨(tc _ i).1, (cast _ i h19).trans (tc _ i).2⟩
      · exact tc _ i
  refine ⟨(counted (29 * p + 18) (by omega) (by omega)).1, (counted (29 * p + 18) (by omega) (by omega)).2.trans ?_,
    (counted (29 * p + 17) (by omega) (by omega)).2.trans ?_⟩
  · rw [State.rd_ethCnt, State.bumpBy_eq_wr, State.rd_wr_elem _ _ _ _ _ _ (by omega)]
  · rw [State.rd_ethCnt_ne _ _ (by omega), State.bumpBy_eq_wr, State.rd_wr_same]

section
variable {s : State} {p : Fin 40} {y : Tx} (on : (s.port p).tx = some y)
include on

/-- A frame without a damaged cell is counted. -/
theorem exec_egressFrameDone_good (good : ∀ f, s.frames.find y.first = some f → f.damaged = false) : ∃ inPort,
    exec (.egressFrameDone p) s = .next (((s.setPort p { s.port p with tx := none }).sentCount p y).txOver p y inPort) := by
  change ∃ inPort, execEgressFrameDone p s = _
  unfold execEgressFrameDone
  rw [on]
  dsimp only
  cases stored : s.frames.find y.first with
  | none => exact ⟨64, rfl⟩
  | some f =>
    dsimp only
    rw [if_neg (Bool.eq_false_iff.1 (good f stored))]
    exact ⟨f.inPort, rfl⟩

/-- One of which a cell could not be read ends as damaged, and counts as such. -/
theorem exec_egressFrameDone_damaged {f : Frame} (stored : s.frames.find y.first = some f) (damaged : f.damaged = true) :
    exec (.egressFrameDone p) s
      = .next ((((s.setPort p { s.port p with tx := none }).endFrame p (s.damageForm p)).qcnt y.q 7).txOver p y f.inPort) := by
  change execEgressFrameDone p s = _
  unfold execEgressFrameDone
  rw [on]
  dsimp only
  rw [stored]
  dsimp only
  rw [if_pos damaged]
  rfl

/-- What the end of a whole frame shows. -/
theorem exec_egressFrameDone_counts (good : ∀ f, s.frames.find y.first = some f → f.damaged = false) : Does (.egressFrameDone p) s fun t =>
    (t.port p).tx = none ∧ t.rd F.ETH_CNT_COUNT (29 * p + 18) = (s.rd F.ETH_CNT_COUNT (29 * p + 18) + 1) % 2 ^ F.ETH_CNT_COUNT.width
    ∧ t.rd F.ETH_CNT_COUNT (29 * p + 17) = (s.rd F.ETH_CNT_COUNT (29 * p + 17) + y.bytes.length) % 2 ^ F.ETH_CNT_COUNT.width := by
  obtain ⟨inPort, run⟩ := exec_egressFrameDone_good on good
  have kept := State.txOver_txKept ((s.setPort p { s.port p with tx := none }).sentCount p y) p y inPort
  obtain ⟨eth, whole, octets⟩ := State.sentCount_spec (s.setPort p { s.port p with tx := none }) p y
  refine ⟨_, run, ?_, ?_, ?_⟩
  · rw [kept.tx, State.port, eth]
    exact congrArg EthPort.tx (State.port_setPort_same ..)
  · rw [kept.ethCnt _ (by omega) (by omega), whole]
    rfl
  · rw [kept.ethCnt _ (by omega) (by omega), octets]
    rfl

/-- What the end of a damaged frame shows. -/
theorem exec_egressFrameDone_drops {f : Frame} (stored : s.frames.find y.first = some f) (damaged : f.damaged = true) :
    Does (.egressFrameDone p) s fun t => (t.port p).tx = none ∧ (t.port p).ended = s.damageForm p
      ∧ t.rd F.QUE_CNT_COUNT (8 * y.q + 7) = (s.rd F.QUE_CNT_COUNT (8 * y.q + 7) + 1) % 2 ^ F.QUE_CNT_COUNT.width := by
  have kept := State.txOver_txKept (((s.setPort p { s.port p with tx := none }).endFrame p (s.damageForm p)).qcnt y.q 7) p y f.inPort
  have port : (((s.setPort p { s.port p with tx := none }).endFrame p (s.damageForm p)).qcnt y.q 7).port p
      = { s.port p with tx := none, ended := s.damageForm p } := by
    rw [State.qcnt, State.bump_eq_wr, State.port_wr, State.endFrame, State.port_setPort_same, State.port_setPort_same]
  refine ⟨_, exec_egressFrameDone_damaged on stored damaged, ?_, ?_, ?_⟩
  · rw [kept.tx, port]
  · rw [kept.ended, port]
  · rw [kept.queCnt]
    exact State.rd_bump ..

end
end Sys2Proof.Machine
end

section
/-! SUPPORT. Recirculation (spec 09 R198). -/
namespace Sys2Proof.Machine

section
variable {s : State}

theorem State.fcCheck_recirc (s : State) (p : Nat) : (s.fcCheck p).recirc = s.recirc := by
  unfold State.fcCheck
  dsimp only
  repeat' split
  all_goals rfl

theorem State.enter_recirc {f : Flight} (runs : s.recovering (pipeOf f.port) = false) : (s.enter f).recirc = s.recirc := by
  rw [State.enter, if_neg (Bool.eq_false_iff.mp runs)]
  split <;> rfl

/-- A head of the list that is neither too old nor damaged stays. -/
theorem State.recircPrune_good {k : Nat} {r : List Nat} {f : Frame} (list : s.recirc = k :: r) (stored : s.frames.find k = some f)
    (young : s.tooOld 66 f.epoch = false) (good : f.damaged = false) (fuel : Nat) : s.recircPrune fuel = s := by
  cases fuel with
  | zero => rfl
  | succ fuel =>
    unfold State.recircPrune
    rw [list]
    dsimp only
    rw [stored]
    dsimp only
    rw [young, good]
    rfl

/-- A frame of the recirculation list as it enters Pipeline A again. -/
def Frame.again (f : Frame) : Flight := { Flight.good 66 f.bytes f.tsIndex with txReq := f.txReq }

theorem exec_recirculate {k : Nat} {r : List Nat} {f : Frame} (list : s.recirc = k :: r) (awake : s.gated = false)
    (stored : s.frames.find k = some f) (young : s.tooOld 66 f.epoch = false) (good : f.damaged = false) :
    exec .recirculate s = .next ((((State.enter { s with recirc := r } f.again).finishRef k true).fcCheck f.inPort).drainService) := by
  change execRecirculate s = _
  unfold execRecirculate
  dsimp only
  rw [State.recircPrune_good list stored young good, awake, list, if_neg Bool.false_ne_true]
  dsimp only
  rw [stored]
  rfl

theorem exec_recirculate_enters {k : Nat} {r : List Nat} {f : Frame} (list : s.recirc = k :: r) (awake : s.gated = false)
    (stored : s.frames.find k = some f) (young : s.tooOld 66 f.epoch = false) (good : f.damaged = false)
    (runs : s.recovering (pipeOf 66) = false) : Does .recirculate s fun t =>
      t.recirc = r ∧ t.flight = s.flight ++ [f.again] := by
  have entered : State.recovering { s with recirc := r } (pipeOf f.again.port) = false := runs
  have store (t : State) := t.finishRef_store k true
  have kept (t : State) : t.drainService.recirc = t.recirc := (congrArg State.recirc t.drainService_queueOnly.apart :)
  refine ⟨_, exec_recirculate list awake stored young good, ?_, ?_⟩
  · rw [kept, State.fcCheck_recirc, (store _).recirc, State.enter_recirc entered]
  · rw [(State.drainService_queueOnly _).apart.flight, State.fcCheck_flight, (store _).flight, (State.enter_spec _ entered).1]

end
end Sys2Proof.Machine
end

section
/-! SUPPORT. The statement about queues, the Reservoir and recirculation. -/
namespace Sys2Proof
open Sys2Proof.Machine

/-- Settles O34: a started or ended frame is followed by services that keep the ports' transmitters and the counters (`TxKept`), the service
of a deep queue or FIFO keeps its blocks and their numbers (`DeepServed`, `Serviced`), a broken chain is dropped by its equation, and a flush
leaves the other queues. -/
theorem queuesScheduleSpillFlushAndRecirculate : Obligations.QueuesScheduleSpillFlushAndRecirculate := by
  unfold Obligations.QueuesScheduleSpillFlushAndRecirculate
  intro s p c q ff port u v k mn al mk dr qq
  refine ⟨State.select_strict, fun e f free clean selected head plain => exec_egressSelect_starts free clean selected head plain,
    fun y on => ⟨exec_egressFrameDone_counts on, fun f => exec_egressFrameDone_drops on⟩,
    fun e r => exec_spillBlockWrite_queue, exec_spillBlockWrite_fifo,
    fun clean deep blocks room => ⟨_, exec_refillRequest_queue clean deep blocks room, rfl⟩,
    fun deep blocks room => ⟨_, exec_refillRequest_fifo deep blocks room, rfl⟩,
    fun b r asked blocks => ⟨exec_refillDone_ok asked blocks, exec_refillDone_header asked blocks u, exec_refillDone_seq asked blocks⟩,
    fun b r => exec_refillDone_fifo_ok, fun free => ?_, exec_queFlushGo_ignored, ⟨_, rfl, rfl⟩, fun lingers awake => ?_,
    exec_queCfgWrite al mk dr, fun refused => ⟨_, exec_queCfgWrite_refused al mk dr refused, rfl⟩,
    fun k r f => exec_recirculate_enters, does_reportX rfl⟩
  · obtain ⟨t, run, queue, number, goes, counted⟩ := exec_queFlushGo_does q free
    refine ⟨t, run, ?_, ?_, ?_, ?_, number, goes, counted⟩
    all_goals rw [queue]; rfl
  · obtain ⟨t, run, lingering, dropping, flushed⟩ := exec_lingerEnd lingers awake
    refine ⟨t, run, lingering, dropping, fun k mem => ?_⟩
    rw [flushed k mem]
    exact ⟨rfl, rfl, rfl, rfl⟩

end Sys2Proof
end
